-- ==== Sys2Proof/Word.lean ====
section
/-! DEFINITION. The units of data of Table 0.1 (R1): the word, the half, the byte, the parcel, and the octet. -/

namespace Sys2Proof

/-- A 36-bit word, the native register and memory width (R1). -/
abbrev Word := BitVec 36
/-- An 18-bit half, and a code parcel (R1, R171). -/
abbrev Half := BitVec 18
/-- A 9-bit byte, the smallest addressable unit (R1). -/
abbrev Byte9 := BitVec 9
/-- An 8-bit octet, used only on octet interfaces (R1). -/
abbrev Octet := BitVec 8

end Sys2Proof
end

