-- ==== Sys2Proof/Syntax.lean ====
section
/-! DEFINITION. The commands of the block: one constructor per row of spec/opcode_table.json, in the table's order, each
with the operands that the event or operation carries from outside (which engine, lane or channel; a value; a codeword). -/

namespace Sys2Proof

/-- An engine: 0-191 the schedule engines by global number (R16), 192 the SVE (R20). -/
abbrev EngId := Fin 193
/-- A section, a cluster (s * 8 + c), a lane, a channel lane, a service lane, a check unit (0-47 clusters, 48-49 device). -/
abbrev SectId := Fin 6
abbrev CluId := Fin 48
abbrev LaneId := Fin 20
abbrev ChLane := Fin 16
abbrev SvcLane := Fin 4
abbrev CkuId := Fin 50

/-- What the check bits of a word showed when it was read (R288, R289). -/
inductive Ecc where
  | clean | corrected | uncorrectable
  deriving DecidableEq, Repr

/-- An error that has arisen in the word with this key (a quarter of its byte address): uncorrectable, or a single bit; in the memory, or
in the copy of the word that the I-cache of the command's engine holds. -/
structure Upset where
  key : Nat
  bad : Bool
  icache : Bool := false
  deriving DecidableEq, Repr

/-- Who issues a register access: a schedule engine and the ring in which it issued the store, the SVE (in ring 0 or not), or the
debug domain. -/
inductive Master where
  | engine (n : Fin 192) (ring : Fin 4)
  | sve (ring0 : Bool)
  | debug
  deriving DecidableEq, Repr

/-- A received codeword: the slot it arrived in, whether the FEC decoded it, its 28-bit header (Table 12.1) and its
142 payload words (R326). -/
structure Codeword where
  slot : Nat
  fec : Bool
  hdr : BitVec 28
  pay : List Word
  deriving DecidableEq, Repr

/-- A received training frame (R357): whether its marker was found and found inverted, its control and status fields
(Tables 13.3, 13.4), and whether the device's own receiver has finished training when it answers. -/
structure TrainFrame where
  marker : Bool
  inverted : Bool
  control : BitVec 16
  status : BitVec 16
  rxDone : Bool
  deriving DecidableEq, Repr

/-- A receiver parameter that adaptation moves by one step (R360). -/
inductive AdaptParam where
  | ctle
  | ffe (tap : Fin 12)
  | dfe
  | slicer (k : Fin 3)
  deriving DecidableEq, Repr

/-- A failing row of a march run (R394): its byte address in global-window or device form, and its bank. -/
structure FailRow where
  addr : Word
  bank : Nat
  deriving DecidableEq, Repr

/-- The outcome of the boot march (R400): engines and clusters with a memory that remains failing, whether a device
memory remains failing, the summary that MARCH_STS and MARCH_FAIL then hold, the spare rows it used, each as memory
kind, instance, bank and count (R398), and the level of SAFE_N. -/
structure BootMarch where
  spares : List (Nat × Nat × Nat × Nat)
  engines : List (Fin 193)
  clusters : List (Fin 48)
  device : Bool
  fails : Nat
  repaired : Nat
  noSpare : Bool
  unc : Bool
  first : Word
  safeNLow : Bool
  deriving DecidableEq, Repr

/-- What fuse load finds (R422, R398, R482): whether the ROM digest matches, the usable engines of each section and FLOOR from the
trims, the OTP words that it reads as uncorrectable, the spare rows that the repair fuses use (memory kind, instance, bank, count),
and the level of SAFE_N. -/
structure FuseLoad where
  romOk : Bool
  usable : List Word
  floor : Fin 1024
  otpBad : List (Fin 1024)
  repairs : List (Nat × Nat × Nat × Nat)
  safeNLow : Bool
  deriving DecidableEq, Repr

/-- The header of a host command packet (Table 16.2) without OPCODE and LEN, which the constructor and its words give,
and the level of SAFE_N as the command is decoded. -/
structure HostHdr where
  tag : BitVec 9
  noibi : Bool
  safeNLow : Bool
  deriving DecidableEq, Repr

/-- The commands (spec/opcode_table.json). -/
inductive Instr where
  | beatBoundary
  | beatInEdge (sinceEdge : Nat) (sinceBoundary : Nat) (high : Nat)
  | holdover
  | relock
  | beatPeriodWrite (w : Word)
  | streamedWaitExpiry (e : EngId)
  | bundleIssue (e : EngId) (ups : List Upset)
  | icacheFill (e : EngId) (way : Fin 2)
  | dcacheFill (e : EngId) (u : Fin 2) (i : Nat) (way : Fin 2) (ecc : Ecc)
  | add (e : EngId) (u : Fin 2) (t : Word)
  | sub (e : EngId) (u : Fin 2) (t : Word)
  | and (e : EngId) (u : Fin 2) (t : Word)
  | or (e : EngId) (u : Fin 2) (t : Word)
  | xor (e : EngId) (u : Fin 2) (t : Word)
  | andn (e : EngId) (u : Fin 2) (t : Word)
  | shl (e : EngId) (u : Fin 2) (t : Word)
  | shr (e : EngId) (u : Fin 2) (t : Word)
  | sar (e : EngId) (u : Fin 2) (t : Word)
  | rol (e : EngId) (u : Fin 2) (t : Word)
  | min (e : EngId) (u : Fin 2) (t : Word)
  | max (e : EngId) (u : Fin 2) (t : Word)
  | minu (e : EngId) (u : Fin 2) (t : Word)
  | maxu (e : EngId) (u : Fin 2) (t : Word)
  | ceq (e : EngId) (u : Fin 2) (t : Word)
  | cne (e : EngId) (u : Fin 2) (t : Word)
  | clt (e : EngId) (u : Fin 2) (t : Word)
  | cltu (e : EngId) (u : Fin 2) (t : Word)
  | cle (e : EngId) (u : Fin 2) (t : Word)
  | cleu (e : EngId) (u : Fin 2) (t : Word)
  | ext (e : EngId) (t : Word)
  | extu (e : EngId) (t : Word)
  | ins (e : EngId) (t : Word)
  | clz (e : EngId) (t : Word)
  | ctz (e : EngId) (t : Word)
  | popc (e : EngId) (t : Word)
  | perm (e : EngId) (t : Word)
  | swh (e : EngId) (t : Word)
  | mul (e : EngId) (t : Word)
  | mulh (e : EngId) (t : Word)
  | mulhu (e : EngId) (t : Word)
  | mul12 (e : EngId) (t : Word)
  | mul24 (e : EngId) (t : Word)
  | div (e : EngId) (t : Word)
  | divu (e : EngId) (t : Word)
  | rem (e : EngId) (t : Word)
  | remu (e : EngId) (t : Word)
  | divComplete (e : EngId)
  | macMul (e : EngId) (k : Fin 4) (t : Word)
  | macMac (e : EngId) (k : Fin 4) (t : Word)
  | macMsub (e : EngId) (k : Fin 4) (t : Word)
  | macClr (e : EngId) (k : Fin 4) (t : Word)
  | macRd (e : EngId) (k : Fin 4) (t : Word)
  | macGet (e : EngId) (k : Fin 4) (t : Word)
  | macPut (e : EngId) (k : Fin 4) (t : Word)
  | fabs (e : EngId) (t : Word)
  | fneg (e : EngId) (t : Word)
  | fmin (e : EngId) (t : Word)
  | fmax (e : EngId) (t : Word)
  | fcmp (e : EngId) (t : Word)
  | fadd (e : EngId) (t : Word)
  | fsub (e : EngId) (t : Word)
  | fmul (e : EngId) (t : Word)
  | fma (e : EngId) (t : Word)
  | fdiv (e : EngId) (t : Word)
  | fsqrt (e : EngId) (t : Word)
  | i2f (e : EngId) (t : Word)
  | u2f (e : EngId) (t : Word)
  | f2i (e : EngId) (t : Word)
  | f2u (e : EngId) (t : Word)
  | w2f (e : EngId) (t : Word)
  | f2w (e : EngId) (t : Word)
  | h2f (e : EngId) (t : Word)
  | f2h (e : EngId) (t : Word)
  | fpShortFault (e : EngId)
  | fpLongComplete (e : EngId)
  | ld (e : EngId) (u : Fin 2) (a : Word)
  | ldh (e : EngId) (u : Fin 2) (a : Word)
  | ldhu (e : EngId) (u : Fin 2) (a : Word)
  | ldb (e : EngId) (u : Fin 2) (a : Word)
  | ldbu (e : EngId) (u : Fin 2) (a : Word)
  | ld2 (e : EngId) (u : Fin 2) (a : Word)
  | st (e : EngId) (u : Fin 2) (a : Word)
  | sth (e : EngId) (u : Fin 2) (a : Word)
  | stb (e : EngId) (u : Fin 2) (a : Word)
  | st2 (e : EngId) (u : Fin 2) (a : Word)
  | ldP (e : EngId) (u : Fin 2) (t : Word)
  | ldhP (e : EngId) (u : Fin 2) (t : Word)
  | ldhuP (e : EngId) (u : Fin 2) (t : Word)
  | ldbP (e : EngId) (u : Fin 2) (t : Word)
  | ldbuP (e : EngId) (u : Fin 2) (t : Word)
  | ld2P (e : EngId) (u : Fin 2) (t : Word)
  | stP (e : EngId) (u : Fin 2) (t : Word)
  | sthP (e : EngId) (u : Fin 2) (t : Word)
  | stbP (e : EngId) (u : Fin 2) (t : Word)
  | st2P (e : EngId) (u : Fin 2) (t : Word)
  | tas (e : EngId) (u : Fin 2) (a : Word)
  | lr (e : EngId) (u : Fin 2) (a : Word)
  | sc (e : EngId) (u : Fin 2) (a : Word)
  | loadComplete (e : EngId) (u : Fin 2) (i : Nat) (ecc : Ecc)
  | eccWriteback (k : Nat)
  | storeDrain (e : EngId) (i : Nat)
  | globalStoreAck (e : EngId) (i : Nat)
  | postPerformed (s : SectId) (i : Nat) (link : Nat) (coll : Nat)
  | crossSectionStoreDone (e : EngId) (i : Nat) (cycles : Nat)
  | jmp (e : EngId) (t : Word)
  | call (e : EngId) (t : Word)
  | ret (e : EngId) (t : Word)
  | beq (e : EngId) (t : Word)
  | bne (e : EngId) (t : Word)
  | blt (e : EngId) (t : Word)
  | bge (e : EngId) (t : Word)
  | bltu (e : EngId) (t : Word)
  | bgeu (e : EngId) (t : Word)
  | bz (e : EngId) (t : Word)
  | bnz (e : EngId) (t : Word)
  | trap (e : EngId) (t : Word)
  | rti (e : EngId)
  | retg (e : EngId)
  | fenceL (e : EngId)
  | fenceM (e : EngId)
  | fenceA (e : EngId)
  | fenceComplete (e : EngId)
  | isync (e : EngId)
  | csrr (e : EngId) (t : Word)
  | csrw (e : EngId) (t : Word)
  | endframe (e : EngId)
  | endframeComplete (e : EngId)
  | copy (e : EngId) (t : Word)
  | fill (e : EngId) (t : Word)
  | gath (e : EngId) (t : Word)
  | ingest (e : EngId) (t : Word)
  | save (e : EngId) (t : Word)
  | restore (e : EngId) (t : Word)
  | stmComplete (e : EngId) (stop : Option (Nat × Bool))
  | chioRd (e : EngId) (t : Word)
  | chioWr (e : EngId) (t : Word)
  | chioPop (e : EngId) (t : Word)
  | chioPeek (e : EngId) (t : Word)
  | chioPush (e : EngId) (t : Word)
  | chioOcc (e : EngId) (t : Word)
  | limLo (e : EngId) (v : Word)
  | limHi (e : EngId) (v : Word)
  | pushReachQm (s : SectId)
  | qmPush (w : Word)
  | qmPushDone
  | qmEvtRead
  | handoffArm (w : Word)
  | handoffCancel (w : Word)
  | glvTighten (k : Fin 7) (w : Word)
  | glvCmdPark (first : Fin 32768) (count : Fin 512)
  | glvCmdRelease (first : Fin 32768) (count : Fin 512)
  | glvCmdDone
  | glvEvtRead
  | safeNAssert
  | downstreamSlotSend (n : ChLane)
  | upstreamBeatCodeword (n : ChLane) (off : BitVec 18) (cw : Codeword)
  | upstreamDataCodeword (n : ChLane) (cw : Codeword)
  | managementCodeword (n : ChLane) (cw : Codeword)
  | captureCodeword (n : ChLane) (cw : Codeword)
  | ack (n : ChLane) (seq : Fin 512)
  | messageRetry (n : ChLane) (seq : Fin 512)
  | hubevt (n : ChLane) (seq : Fin 512) (ackReq : Bool) (ws : List Word)
  | svcMessage (n : ChLane) (seq : Fin 512) (ackReq : Bool) (ws : List Word)
  | hello (n : ChLane) (seq : Fin 512) (w1 : Word) (w2 : Word) (w3 : Word) (w4 : Word)
  | scale (n : ChLane) (seq : Fin 512) (w1 : Word) (w2 : Word) (w3 : Word) (w4 : Word)
  | mapAck (n : ChLane) (w : Word)
  | retrain (n : ChLane) (w : Word)
  | laneEnable (n : LaneId)
  | laneDisable (n : LaneId)
  | laneFullRetrain (n : LaneId)
  | laneQuickRetrain (n : LaneId)
  | laneHold (n : LaneId)
  | laneStateTimeout (n : LaneId)
  | terminationDetect (n : LaneId) (settled : Bool)
  | shortCheck (n : LaneId) (gnd : BitVec 4) (sup : BitVec 4) (pair : Bool)
  | signalDetect (n : LaneId)
  | trainingFrame (n : ChLane) (fr : TrainFrame)
  | codewordLockLoss (n : ChLane)
  | adaptComplete (n : ChLane)
  | adaptStep (n : ChLane) (par : AdaptParam) (up : Bool)
  | lossOfSignal (n : LaneId)
  | laneRetry (n : LaneId)
  | eyeSweep (n : LaneId) (eye : Fin 4) (height : Fin 512) (width : Fin 1024)
  | laneTest (n : LaneId) (w : Word)
  | msgTxAppend (n : LaneId) (w : Word)
  | svcSend (n : LaneId) (w : Word)
  | msgRxRead (n : LaneId)
  | exportItemTake (k : SvcLane)
  | exportFrameSend (k : SvcLane)
  | exportHoldoffExpire (k : SvcLane)
  | pause (k : SvcLane) (octets : List Octet)
  | pauseExpire (k : SvcLane)
  | rxFrameDiscard (k : SvcLane) (octets : List Octet)
  | linkChange (k : SvcLane) (up : Bool)
  | checkStart (u : CkuId) (w : Word)
  | checkAbort (u : CkuId)
  | checkComplete (u : CkuId) (ups : List Upset)
  | marchStart (w : Word)
  | marchAbort
  | retentionWaitEnd
  | marchComplete (fails : List FailRow) (unc : Bool)
  | bootMarchComplete (rep : BootMarch)
  | semAcquire (m : Master) (s : SectId) (c : Fin 8) (j : Fin 64)
  | semRelease (m : Master) (s : SectId) (c : Fin 8) (j : Fin 64)
  | dcacheInvalidate (s : SectId) (w : Word)
  | dmaPost (m : Master) (c : CluId) (x : Fin 4) (w : Word)
  | dmaDescriptorStart (c : CluId) (x : Fin 4)
  | dmaDescriptorEnd (c : CluId) (x : Fin 4) (ups : List Upset)
  | doorbell (s : SectId) (w : Word)
  | timerExpire (e : EngId) (n : Fin 2)
  | watchdogExpire (e : EngId)
  | interruptAccept (e : EngId)
  | getStatus (h : HostHdr) (ws : List Word)
  | getIdentity (h : HostHdr) (ws : List Word)
  | getFeatures (h : HostHdr) (ws : List Word)
  | getEventLog (h : HostHdr) (ws : List Word)
  | resetDevice (h : HostHdr) (ws : List Word)
  | deviceResetDelayEnd
  | resetSupervisor (h : HostHdr) (ws : List Word)
  | resetSection (h : HostHdr) (ws : List Word)
  | safe (h : HostHdr) (ws : List Word)
  | clearSafe (h : HostHdr) (ws : List Word)
  | loadBegin (h : HostHdr) (ws : List Word)
  | loadData (h : HostHdr) (ws : List Word)
  | loadEnd (h : HostHdr) (ws : List Word)
  | verificationComplete
  | loadAbort (h : HostHdr) (ws : List Word)
  | start (h : HostHdr) (ws : List Word)
  | stopSection (h : HostHdr) (ws : List Word)
  | startSection (h : HostHdr) (ws : List Word)
  | parkChannels (h : HostHdr) (ws : List Word)
  | releaseChannels (h : HostHdr) (ws : List Word)
  | readReg (h : HostHdr) (ws : List Word)
  | writeReg (h : HostHdr) (ws : List Word)
  | readMem (h : HostHdr) (ws : List Word)
  | writeMem (h : HostHdr) (ws : List Word)
  | linkStatus (h : HostHdr) (ws : List Word)
  | linkRetrain (h : HostHdr) (ws : List Word)
  | linkTest (h : HostHdr) (ws : List Word)
  | marchRun (h : HostHdr) (ws : List Word)
  | marchResult (h : HostHdr) (ws : List Word)
  | unlockPassword (h : HostHdr) (ws : List Word)
  | unlockChallenge (h : HostHdr) (ws : List Word)
  | unlockResponse (h : HostHdr) (ws : List Word)
  | nonceExpire
  | lock (h : HostHdr) (ws : List Word)
  | attest (h : HostHdr) (ws : List Word)
  | dbgHalt (h : HostHdr) (ws : List Word)
  | dbgResume (h : HostHdr) (ws : List Word)
  | dbgStep (h : HostHdr) (ws : List Word)
  | dbgReplyTimeout
  | dbgRead (h : HostHdr) (ws : List Word)
  | dbgWrite (h : HostHdr) (ws : List Word)
  | dbgBreak (h : HostHdr) (ws : List Word)
  | dbgWatch (h : HostHdr) (ws : List Word)
  | dbgVterm (h : HostHdr) (ws : List Word)
  | dbgGong (h : HostHdr) (ws : List Word)
  | dbgStatus (h : HostHdr) (ws : List Word)
  | healthReport (h : HostHdr) (ws : List Word)
  | avsStatus (h : HostHdr) (ws : List Word)
  | queuePush (h : HostHdr) (ws : List Word)
  | queueStatus (h : HostHdr) (ws : List Word)
  | svc (h : HostHdr) (ws : List Word)
  | mbxDataRead
  | mbxReplyAppend (w : Word)
  | mailboxSend (w : Word)
  | supervisorReady
  | mailboxTimeout
  | replyQueueEntry
  | privateRead (octets : Nat) (ddr : Option Octet)
  | ibiRetry (nack : Bool)
  | entdaa (da : BitVec 7)
  | setdasa (static : BitVec 7) (da : BitVec 7)
  | rstdaa
  | enec
  | disec
  | getpid
  | getbcr
  | getdcr
  | getstatus (busErr : Bool)
  | getmxds
  | setmwl (v : Fin 65536)
  | getmwl
  | setmrl (v : Fin 65536)
  | getmrl
  | enthdr0
  | rstact (b : Octet)
  | targetResetPattern
  | otpProgram (m : Master) (w : Word)
  | otpGenerateSecret (m : Master) (w : Word)
  | otpProgramDone (ok : Bool)
  | haltRequest (m : Master) (n : EngId)
  | resume (m : Master) (n : EngId)
  | halt (e : EngId)
  | gongFire (m : Master) (g : Fin 8)
  | gongDelivery (g : Fin 8)
  | txdWrite (e : EngId) (w : Word)
  | rxdRead (e : EngId)
  | avsUpdate (readOk : Bool) (writeOk : Bool) (readback : Fin 1024) (mpath : Fin 1024) (worst : Fin 24)
  | thermalSample (tmax : BitVec 9) (sensor : Fin 12)
  | thermalStep
  | thermtrip
  | thermtripRelease
  | ageingReplan (shift : Fin 1024)
  | hlthEvtRead
  | swdtKick
  | swdtBite
  | sectionGate (m : Master) (s : SectId)
  | sectionPowerRestore (m : Master) (s : SectId)
  | sectionPowerUpDone (s : SectId)
  | fence (m : Master) (s : SectId) (w : Word)
  | fenceDone (s : SectId)
  | aonPowerOn
  | resetNLow
  | resetNRelease (addrSel : Fin 4)
  | pgoodLow
  | refclkSysLoss
  | refclkSysReturn
  | refclkLnLoss
  | fuseLoadEnd (f : FuseLoad)
  | selftestEnd (safeNLow : Bool)
  | registerWrite (m : Master) (a : Word) (w : Word)
  | pgoodRelease
  | privateWrite (octets : List Octet) (ddr : Option Octet) (safeNLow : Bool)
  | exportFrameComplete (k : SvcLane)
  deriving DecidableEq, Repr

end Sys2Proof
end

