-- ==== Sys2Proof/Decode.lean ====
section
/-! DEFINITION. Words that spell a command. spec/opcode_table.json gives no row any bits: the block's commands are events and
operations, not words it decodes. -/

namespace Sys2Proof

/-- The command that a word spells by the table's bits: none, for no row gives bits. -/
def decodeTableWord (_nbits _w : Nat) : Option Instr := none

end Sys2Proof
end

