-- ==== Sys2Proof/Config.lean ====
section
/-! DEFINITION. What the spec leaves open: FREE VALUES, each an opaque constant with no body, so that no proof can see a value of it
and every statement holds whatever it is. -/

namespace Sys2Proof

/-- What a word of a memory region reads as whose contents are undefined (R24, R322, R399, R431): the number of the event
that made the region undefined, and the word's key. Free value, notes/assumptions/4.md. -/
opaque Config.freeWord : Nat → Nat → Word

/-- A value that the spec leaves open once, drawn with the counter State.fresh. Free value, notes/assumptions/4.md. -/
opaque Config.freeNat : Nat → Nat

/-- An octet of a nonce or of the random bit generator, drawn with State.fresh and its index (R436, R442). -/
opaque Config.freeOctet : Nat → Nat → Octet

end Sys2Proof
end

