-- ==== Sys2Proof/Machine/Bits.lean ====
section
/-! DEFINITION. Bit fields, sign extension, and the packing of words into octets (R2, R4, R5). -/

namespace Sys2Proof.Machine

/-- Bits hi:lo of a word, as a number (pseudocode x[hi:lo]). -/
def fld (w : Word) (hi lo : Nat) : Nat := (w.toNat >>> lo) % 2 ^ (hi + 1 - lo)

/-- Bit i of a word. -/
def bit (w : Word) (i : Nat) : Bool := w.getLsbD i

/-- The mask with ones in bits hi:lo. -/
def maskOf (hi lo : Nat) : Word := BitVec.ofNat 36 ((2 ^ (hi + 1 - lo) - 1) <<< lo)

/-- `w` with bits hi:lo replaced by `v` (modulo the width of the field). -/
def setFld (w : Word) (hi lo v : Nat) : Word :=
  (w &&& ~~~ (maskOf hi lo)) ||| (BitVec.ofNat 36 ((v % 2 ^ (hi + 1 - lo)) <<< lo))

/-- `w` with bit i set to `b`. -/
def setBit (w : Word) (i : Nat) (b : Bool) : Word := setFld w i i (if b then 1 else 0)

/-- A number placed in bits hi:lo of an otherwise zero word. -/
def put (hi lo v : Nat) : Word := setFld 0 hi lo v

/-- The low n bits of a number read as two's complement. -/
def sext (n v : Nat) : Int :=
  let u := v % 2 ^ n
  if n = 0 then 0 else if u < 2 ^ (n - 1) then (u : Int) else (u : Int) - (2 ^ n : Nat)

/-- A signed number wrapped to a word. -/
def wordOfInt (i : Int) : Word := BitVec.ofInt 36 i

/-- Addition that stops at `cap` (a saturating counter). -/
def satAdd (a b cap : Nat) : Nat := if a + b ≤ cap then a + b else cap

/-- Half H1 (bits 35:18) and half H0 (bits 17:0) of a word (Table 0.1). -/
def h1 (w : Word) : Half := w.extractLsb' 18 18
def h0 (w : Word) : Half := w.extractLsb' 0 18
def ofHalves (hi lo : Half) : Word := (hi ++ lo).cast (by decide)

/-- Byte j (0-3) of a word, little-endian (R2). -/
def byteOf (w : Word) (j : Nat) : Byte9 := w.extractLsb' (9 * j) 9

/-- `w` with byte j replaced (R2). -/
def setByteOf (w : Word) (j : Nat) (b : Byte9) : Word := setFld w (9 * j + 8) (9 * j) b.toNat

/-- Two words travel as nine octets, least significant bit first (R4). -/
def packPair (w0 w1 : Word) : List Octet :=
  let v := w1.toNat * 2 ^ 36 + w0.toNat
  (List.range 9).map (fun k => BitVec.ofNat 8 (v >>> (8 * k)))

/-- The octets of a list of words; an odd count is completed by one zero word (R4, R5). -/
def packWords : List Word → List Octet
  | [] => []
  | [w] => packPair w 0
  | w0 :: w1 :: ws => packPair w0 w1 ++ packWords ws

/-- The value of a list of octets, octet 0 least significant. -/
def octetsVal : List Octet → Nat
  | [] => 0
  | o :: os => o.toNat + 256 * octetsVal os

/-- The words carried by octets in groups of nine (the inverse of `packWords`); a short last group is dropped. -/
def unpackWords : Nat → List Octet → List Word
  | 0, _ => []
  | n + 1, os =>
    if os.length < 9 then [] else
      let v := octetsVal (os.take 9)
      BitVec.ofNat 36 v :: BitVec.ofNat 36 (v >>> 36) :: unpackWords n (os.drop 9)

/-- An octet string stored four octets per word in bits 31:0, octet 0 in bits 7:0 (Scope, Words on octet interfaces). -/
def octetsOfWord (w : Word) : List Octet := (List.range 4).map (fun k => w.extractLsb' (8 * k) 8)
def octetsOfWords (ws : List Word) : List Octet := ws.flatMap octetsOfWord

/-- The words that hold an octet string, four octets a word. -/
def wordsOfOctets : Nat → List Octet → List Word
  | 0, _ => []
  | n + 1, os => if os.isEmpty then [] else BitVec.ofNat 36 (octetsVal (os.take 4)) :: wordsOfOctets n (os.drop 4)

/-- The number of ones among the low n bits. -/
def popcount (w : Word) : Nat := (List.range 36).foldl (fun a i => if bit w i then a + 1 else a) 0

/-- n octets of a number, most significant first. -/
def beOctets : Nat → Nat → List Octet
  | 0, _ => []
  | n + 1, v => BitVec.ofNat 8 (v / 256 ^ n) :: beOctets n v

end Sys2Proof.Machine
end

