-- ==== Sys2Proof/Machine/RegTable.lean ====
section
/-! DEFINITION. The device registers (R8-R12, R33, R34): their names, addresses, fields, access types and reset words,
one row per register table of spec/, in the order of the tables. -/

namespace Sys2Proof.Machine

/-- Register access types, Table 0.4 (R8). -/
inductive Access where
  | ro | rw | w1c | rc | wo | rwl | rwt
  deriving DecidableEq, Repr

/-- One row of a register table: bits hi:lo and their access type. Bits in no row are reserved (R9). -/
structure Field where
  hi : Nat
  lo : Nat
  acc : Access
  deriving DecidableEq, Repr

/-- The device registers by the manual's names; arguments are the instance numbers (s section, n lane or debug entry, k, j,
c cluster, e engine, u check unit: 0-47 the cluster units s*8+c, 48 and 49 the device units; o: 0-5 SECs_PRGN, 6 HELM_SPRGN). -/
inductive Reg where
  | HOST_DEVID
  | HOST_CAPS
  | BEAT_CTL
  | BEAT_PERIOD
  | BEAT_STS
  | BEAT_NUM
  | BEAT_NUM_LOAD
  | BEAT_EDGE_ERR
  | BEAT_FMIN_SCHED
  | SEC_FRAME (s : Nat)
  | SEC_BUDGET (s : Nat)
  | SEC_ENTRY (s : Nat)
  | SEC_STALL_LIMIT (s : Nat)
  | SEC_OVERRUN (s : Nat)
  | SEC_STALL (s : Nat)
  | SEC_SLACK (s : Nat)
  | QM_THR
  | QM_EVT
  | QM_STS
  | QM_DROPS
  | QM_PUSH_D (j : Nat)
  | QM_PUSH
  | QM_OCC
  | QM_HOFF
  | QM_HOFF_BEAT
  | GLV_CTL
  | GLV_STS
  | GLV_EVT
  | GLV_TRIPS
  | GLV_TSEL
  | GLV_TW (k : Nat)
  | GLV_LAST
  | GLV_STATE
  | GLV_CMD
  | SEC_MODE (s : Nat)
  | SEC_CFG (s : Nat)
  | SEC_DBELL (s : Nat)
  | SEC_DCINV (s : Nat)
  | SEC_ECC (s : Nat)
  | SEC_ECC_ADDR (s : Nat)
  | PRGN_BASE (o k : Nat)
  | PRGN_ATTR (o k : Nat)
  | SEC_SEM (s c j : Nat)
  | SEC_DMA_POST (s c e : Nat)
  | SEC_DMA_STS (s c e : Nat)
  | SEC_USABLE (s : Nat)
  | SEC_PLACE (s : Nat)
  | SEC_POST (s : Nat)
  | SEC_XQ (s : Nat)
  | SEC_XQ_MAX (s : Nat)
  | LN_FRM (n : Nat)
  | LN_RPL (n : Nat)
  | LN_PSTS (n : Nat)
  | LN_CTL (n : Nat)
  | LN_STS (n : Nat)
  | LN_FAULT (n : Nat)
  | LN_TXEQ (n : Nat)
  | LN_EQ_STS (n : Nat)
  | LN_EYE (n : Nat)
  | LN_EYE_THR (n : Nat)
  | LN_TEST (n : Nat)
  | LN_PRBS_ERR (n : Nat)
  | LN_ALIGN (n : Nat)
  | LN_HUBID (n k : Nat)
  | LN_SCALE (n k : Nat)
  | LN_MSG_TX (n : Nat)
  | LN_MSG_TXC (n : Nat)
  | LN_MSG_RX (n : Nat)
  | LN_MSG_RXS (n : Nat)
  | EXP_CTL
  | EXP_MAP
  | EXP_SRCID
  | EXPK_CFG (k : Nat)
  | EXPK_STS (k : Nat)
  | EXPK_TXFR (k : Nat)
  | EXPK_TXREC (k : Nat)
  | EXPK_DROP (k : Nat)
  | EXPK_RX (k : Nat)
  | EXP_TPL (k j : Nat)
  | CKU_CTL (u : Nat)
  | CKU_ADDR (u : Nat)
  | CKU_LEN (u : Nat)
  | CKU_EXP (u : Nat)
  | CKU_RES (u : Nat)
  | CKU_STS (u : Nat)
  | MARCH_CTL
  | MARCH_STS
  | MARCH_FAIL
  | HOST_STATE
  | HOST_STATE_ERR
  | HOST_I3C
  | HOST_MBX_STS
  | HOST_MBX_DATA
  | HOST_MBX_REPLY
  | HOST_MBX_RCTL
  | HELM_STS
  | HELM_VSTS
  | HELM_ARB
  | HELM_OTPCTL
  | HELM_OTPDATA
  | HELM_OTP (w : Nat)
  | DBG_CTL
  | DBG_LEVEL
  | DBG_GONG (g : Nat)
  | DBG_ECTL (n : Nat)
  | DBG_ESTS (n : Nat)
  | DBG_BCTL (n k : Nat)
  | DBG_WCTL (n k : Nat)
  | HLTH_CTL
  | HLTH_STS
  | HLTH_EVT
  | HLTH_AVS
  | HLTH_MARGIN
  | HLTH_AGE
  | HLTH_HOURS
  | HLTH_LIFE
  | HLTH_CLK
  | HLTH_THERM
  | HLTH_SWDT
  | HLTH_ECC
  | HLTH_ECC_ADDR
  | SEC_STATE (s : Nat)
  | SEC_FENCE (s : Nat)
  | SEC_PWR (s : Nat)
  deriving DecidableEq, Repr

/-- The fields of each register table. -/
def Reg.fields : Reg → List Field
  | .HOST_DEVID => [⟨35,20,.ro⟩, ⟨19,12,.ro⟩, ⟨11,8,.ro⟩, ⟨7,4,.ro⟩]
  | .HOST_CAPS => [⟨35,32,.ro⟩, ⟨31,28,.ro⟩, ⟨27,24,.ro⟩, ⟨23,19,.ro⟩, ⟨18,16,.ro⟩, ⟨15,11,.ro⟩, ⟨10,6,.ro⟩]
  | .BEAT_CTL => [⟨12,12,.ro⟩, ⟨11,8,.rwl⟩, ⟨4,4,.ro⟩, ⟨3,3,.wo⟩, ⟨2,2,.rw⟩, ⟨1,1,.rw⟩, ⟨0,0,.rwl⟩]
  | .BEAT_PERIOD => [⟨13,0,.rwl⟩]
  | .BEAT_STS => [⟨3,3,.w1c⟩, ⟨2,2,.w1c⟩, ⟨1,1,.w1c⟩, ⟨0,0,.ro⟩]
  | .BEAT_NUM => [⟨35,0,.ro⟩]
  | .BEAT_NUM_LOAD => [⟨35,0,.rw⟩]
  | .BEAT_EDGE_ERR => [⟨15,0,.rc⟩]
  | .BEAT_FMIN_SCHED => [⟨22,12,.ro⟩, ⟨10,0,.ro⟩]
  | .SEC_FRAME _ => [⟨7,4,.rw⟩, ⟨0,0,.rw⟩]
  | .SEC_BUDGET _ => [⟨28,18,.rw⟩, ⟨17,0,.rw⟩]
  | .SEC_ENTRY _ => [⟨20,19,.rw⟩, ⟨18,16,.rw⟩, ⟨13,0,.rw⟩]
  | .SEC_STALL_LIMIT _ => [⟨9,0,.rw⟩]
  | .SEC_OVERRUN _ => [⟨35,32,.ro⟩, ⟨31,0,.ro⟩]
  | .SEC_STALL _ => [⟨22,19,.ro⟩, ⟨18,18,.ro⟩, ⟨17,0,.ro⟩]
  | .SEC_SLACK _ => [⟨35,35,.ro⟩, ⟨17,0,.ro⟩]
  | .QM_THR => [⟨12,8,.rw⟩, ⟨2,0,.rw⟩]
  | .QM_EVT => [⟨35,35,.rc⟩, ⟨20,16,.rc⟩, ⟨15,0,.rc⟩]
  | .QM_STS => [⟨9,9,.w1c⟩, ⟨8,0,.ro⟩]
  | .QM_DROPS => [⟨35,0,.rc⟩]
  | .QM_PUSH_D _ => [⟨35,0,.rw⟩]
  | .QM_PUSH => [⟨35,34,.ro⟩, ⟨15,0,.wo⟩]
  | .QM_OCC => [⟨28,21,.ro⟩, ⟨20,16,.ro⟩, ⟨15,0,.rw⟩]
  | .QM_HOFF => [⟨35,35,.rw⟩, ⟨34,33,.ro⟩, ⟨32,25,.rw⟩, ⟨24,16,.rw⟩, ⟨14,0,.rw⟩]
  | .QM_HOFF_BEAT => [⟨35,0,.rw⟩]
  | .GLV_CTL => [⟨2,2,.ro⟩, ⟨1,1,.rw⟩, ⟨0,0,.ro⟩]
  | .GLV_STS => [⟨17,9,.ro⟩, ⟨4,4,.w1c⟩, ⟨3,3,.w1c⟩, ⟨2,2,.w1c⟩, ⟨1,1,.w1c⟩, ⟨0,0,.w1c⟩]
  | .GLV_EVT => [⟨35,35,.rc⟩, ⟨34,30,.rc⟩, ⟨29,15,.rc⟩, ⟨14,0,.rc⟩]
  | .GLV_TRIPS => [⟨35,0,.rc⟩]
  | .GLV_TSEL => [⟨35,35,.ro⟩, ⟨34,31,.ro⟩, ⟨14,0,.rw⟩]
  | .GLV_TW _ => [⟨35,0,.rwt⟩]
  | .GLV_LAST => [⟨35,0,.ro⟩]
  | .GLV_STATE => [⟨35,0,.ro⟩]
  | .GLV_CMD => [⟨35,34,.wo⟩, ⟨33,32,.ro⟩, ⟨23,15,.rw⟩, ⟨14,0,.rw⟩]
  | .SEC_MODE _ => [⟨31,0,.rw⟩]
  | .SEC_CFG _ => [⟨0,0,.rw⟩]
  | .SEC_DBELL _ => [⟨32,32,.wo⟩, ⟨31,0,.wo⟩]
  | .SEC_DCINV _ => [⟨32,32,.wo⟩, ⟨31,0,.wo⟩]
  | .SEC_ECC _ => [⟨35,24,.rc⟩, ⟨23,12,.rc⟩, ⟨0,0,.w1c⟩]
  | .SEC_ECC_ADDR _ => [⟨35,0,.ro⟩]
  | .PRGN_BASE _ _ => [⟨35,6,.rw⟩]
  | .PRGN_ATTR _ _ => [⟨35,35,.rw⟩, ⟨34,29,.rw⟩, ⟨28,28,.rw⟩, ⟨27,27,.rw⟩, ⟨26,25,.rw⟩, ⟨24,23,.rw⟩]
  | .SEC_SEM _ _ _ => [⟨35,35,.wo⟩, ⟨34,34,.wo⟩, ⟨11,10,.ro⟩, ⟨9,9,.ro⟩, ⟨7,0,.ro⟩]
  | .SEC_DMA_POST _ _ _ => [⟨15,0,.wo⟩]
  | .SEC_DMA_STS _ _ _ => [⟨35,35,.w1c⟩, ⟨34,34,.w1c⟩, ⟨33,33,.ro⟩, ⟨32,30,.ro⟩]
  | .SEC_USABLE _ => [⟨31,0,.ro⟩]
  | .SEC_PLACE _ => [⟨35,35,.ro⟩, ⟨34,32,.ro⟩, ⟨31,30,.ro⟩, ⟨29,24,.ro⟩]
  | .SEC_POST _ => [⟨35,18,.rc⟩, ⟨17,0,.rc⟩]
  | .SEC_XQ _ => [⟨35,35,.w1c⟩, ⟨17,0,.rc⟩]
  | .SEC_XQ_MAX _ => [⟨15,0,.rw⟩]
  | .LN_FRM _ => [⟨35,25,.ro⟩, ⟨24,17,.ro⟩, ⟨16,10,.ro⟩, ⟨9,5,.ro⟩]
  | .LN_RPL _ => [⟨35,27,.rc⟩, ⟨26,18,.rc⟩, ⟨17,9,.rc⟩, ⟨8,0,.rc⟩]
  | .LN_PSTS _ => [⟨4,4,.w1c⟩, ⟨3,3,.w1c⟩, ⟨2,2,.w1c⟩, ⟨1,1,.ro⟩, ⟨0,0,.w1c⟩]
  | .LN_CTL _ => [⟨8,6,.rw⟩, ⟨5,5,.rw⟩, ⟨4,4,.rw⟩, ⟨3,2,.wo⟩, ⟨0,0,.rw⟩]
  | .LN_STS _ => [⟨35,35,.w1c⟩, ⟨34,34,.ro⟩, ⟨33,33,.w1c⟩, ⟨27,23,.ro⟩, ⟨22,19,.ro⟩, ⟨14,0,.ro⟩]
  | .LN_FAULT _ => [⟨10,10,.ro⟩, ⟨9,9,.ro⟩, ⟨8,8,.ro⟩, ⟨7,4,.ro⟩, ⟨3,0,.ro⟩]
  | .LN_TXEQ _ => [⟨20,20,.ro⟩, ⟨19,19,.ro⟩, ⟨18,13,.ro⟩, ⟨12,6,.ro⟩, ⟨5,0,.ro⟩]
  | .LN_EQ_STS _ => [⟨35,35,.ro⟩, ⟨34,34,.ro⟩, ⟨33,30,.ro⟩, ⟨29,24,.ro⟩, ⟨15,8,.ro⟩]
  | .LN_EYE _ => [⟨35,35,.ro⟩, ⟨34,33,.ro⟩, ⟨23,15,.ro⟩, ⟨14,5,.ro⟩]
  | .LN_EYE_THR _ => [⟨23,15,.rw⟩, ⟨14,5,.rw⟩]
  | .LN_TEST _ => [⟨5,4,.rw⟩, ⟨3,3,.rw⟩, ⟨2,2,.rw⟩, ⟨1,1,.rw⟩]
  | .LN_PRBS_ERR _ => [⟨35,35,.ro⟩, ⟨31,0,.rc⟩]
  | .LN_ALIGN _ => [⟨35,35,.ro⟩, ⟨28,18,.ro⟩, ⟨17,0,.ro⟩]
  | .LN_HUBID _ _ => [⟨35,0,.ro⟩]
  | .LN_SCALE _ _ => [⟨35,0,.ro⟩]
  | .LN_MSG_TX _ => [⟨35,0,.wo⟩]
  | .LN_MSG_TXC _ => [⟨26,18,.rw⟩, ⟨17,17,.wo⟩, ⟨16,15,.ro⟩]
  | .LN_MSG_RX _ => [⟨35,0,.rc⟩]
  | .LN_MSG_RXS _ => [⟨10,10,.w1c⟩, ⟨9,0,.ro⟩]
  | .EXP_CTL => [⟨1,1,.rw⟩, ⟨0,0,.rw⟩]
  | .EXP_MAP => [⟨31,0,.rw⟩]
  | .EXP_SRCID => [⟨35,0,.rw⟩]
  | .EXPK_CFG _ => [⟨35,35,.rw⟩, ⟨34,34,.rw⟩, ⟨33,33,.rw⟩, ⟨32,32,.rw⟩, ⟨27,14,.rw⟩, ⟨7,0,.rw⟩]
  | .EXPK_STS _ => [⟨35,35,.ro⟩, ⟨34,34,.ro⟩, ⟨33,33,.w1c⟩, ⟨32,32,.w1c⟩, ⟨31,31,.w1c⟩, ⟨6,0,.ro⟩]
  | .EXPK_TXFR _ => [⟨35,0,.rc⟩]
  | .EXPK_TXREC _ => [⟨35,0,.rc⟩]
  | .EXPK_DROP _ => [⟨35,18,.rc⟩, ⟨17,0,.rc⟩]
  | .EXPK_RX _ => [⟨35,18,.rc⟩, ⟨17,0,.rc⟩]
  | .EXP_TPL _ _ => [⟨31,0,.rw⟩]
  | .CKU_CTL _ => [⟨35,35,.wo⟩, ⟨34,34,.wo⟩, ⟨33,32,.rw⟩, ⟨31,31,.rw⟩, ⟨30,30,.rw⟩, ⟨29,29,.rw⟩, ⟨28,28,.rw⟩, ⟨27,26,.rw⟩, ⟨25,23,.rw⟩, ⟨15,0,.rw⟩]
  | .CKU_ADDR _ => [⟨35,0,.rw⟩]
  | .CKU_LEN _ => [⟨22,0,.rw⟩]
  | .CKU_EXP _ => [⟨35,0,.rw⟩]
  | .CKU_RES _ => [⟨35,0,.ro⟩]
  | .CKU_STS _ => [⟨35,35,.ro⟩, ⟨34,34,.w1c⟩, ⟨33,33,.w1c⟩, ⟨32,32,.w1c⟩, ⟨31,31,.w1c⟩, ⟨30,28,.ro⟩, ⟨22,0,.ro⟩]
  | .MARCH_CTL => [⟨35,35,.wo⟩, ⟨34,34,.wo⟩, ⟨33,32,.rw⟩, ⟨31,31,.rw⟩, ⟨26,24,.rw⟩, ⟨23,16,.rw⟩, ⟨15,0,.rw⟩]
  | .MARCH_STS => [⟨35,35,.ro⟩, ⟨34,34,.w1c⟩, ⟨33,32,.ro⟩, ⟨31,31,.w1c⟩, ⟨30,30,.w1c⟩, ⟨29,29,.w1c⟩, ⟨26,18,.ro⟩, ⟨17,0,.ro⟩]
  | .MARCH_FAIL => [⟨35,0,.ro⟩]
  | .HOST_STATE => [⟨26,18,.ro⟩, ⟨17,17,.ro⟩, ⟨16,16,.ro⟩, ⟨8,0,.ro⟩]
  | .HOST_STATE_ERR => [⟨35,0,.rc⟩]
  | .HOST_I3C => [⟨15,15,.ro⟩, ⟨14,8,.ro⟩, ⟨7,7,.ro⟩, ⟨1,0,.ro⟩]
  | .HOST_MBX_STS => [⟨35,35,.ro⟩, ⟨33,33,.w1c⟩, ⟨32,32,.w1c⟩, ⟨23,15,.ro⟩, ⟨9,0,.ro⟩]
  | .HOST_MBX_DATA => [⟨35,0,.rc⟩]
  | .HOST_MBX_REPLY => [⟨35,0,.wo⟩]
  | .HOST_MBX_RCTL => [⟨35,35,.wo⟩, ⟨34,26,.rw⟩, ⟨25,17,.rw⟩, ⟨16,16,.wo⟩, ⟨7,0,.rw⟩]
  | .HELM_STS => [⟨35,33,.ro⟩, ⟨32,32,.ro⟩, ⟨31,31,.ro⟩, ⟨30,30,.ro⟩, ⟨29,26,.ro⟩, ⟨25,22,.ro⟩, ⟨21,21,.ro⟩, ⟨20,20,.ro⟩]
  | .HELM_VSTS => [⟨35,27,.ro⟩, ⟨26,19,.ro⟩, ⟨18,18,.ro⟩, ⟨17,17,.ro⟩, ⟨16,16,.ro⟩, ⟨15,15,.ro⟩, ⟨14,14,.ro⟩, ⟨13,13,.ro⟩, ⟨12,6,.ro⟩]
  | .HELM_ARB => [⟨27,21,.ro⟩, ⟨20,14,.ro⟩, ⟨13,7,.ro⟩, ⟨6,0,.ro⟩]
  | .HELM_OTPCTL => [⟨35,35,.wo⟩, ⟨34,33,.rw⟩, ⟨32,31,.ro⟩, ⟨9,0,.rw⟩]
  | .HELM_OTPDATA => [⟨35,0,.rw⟩]
  | .HELM_OTP _ => [⟨35,0,.ro⟩]
  | .DBG_CTL => [⟨0,0,.rw⟩]
  | .DBG_LEVEL => [⟨5,5,.ro⟩, ⟨4,2,.ro⟩, ⟨1,0,.ro⟩]
  | .DBG_GONG _ => [⟨35,35,.wo⟩, ⟨34,34,.w1c⟩, ⟨33,33,.rw⟩, ⟨32,32,.rw⟩, ⟨31,31,.rw⟩, ⟨30,30,.rw⟩, ⟨15,0,.rc⟩]
  | .DBG_ECTL _ => [⟨35,35,.wo⟩, ⟨34,34,.wo⟩, ⟨33,33,.rw⟩, ⟨31,24,.rw⟩, ⟨15,0,.rw⟩]
  | .DBG_ESTS _ => [⟨35,35,.ro⟩, ⟨34,34,.ro⟩, ⟨33,33,.ro⟩, ⟨32,32,.ro⟩, ⟨31,29,.ro⟩, ⟨28,26,.ro⟩, ⟨7,0,.ro⟩]
  | .DBG_BCTL _ _ => [⟨35,35,.rw⟩, ⟨34,33,.rw⟩, ⟨32,32,.rw⟩, ⟨31,29,.rw⟩, ⟨28,28,.rw⟩, ⟨27,27,.rw⟩, ⟨26,26,.rw⟩, ⟨25,23,.rw⟩]
  | .DBG_WCTL _ _ => [⟨35,35,.rw⟩, ⟨34,33,.rw⟩, ⟨32,32,.rw⟩, ⟨31,29,.rw⟩, ⟨28,28,.rw⟩, ⟨27,27,.rw⟩, ⟨26,26,.rw⟩, ⟨25,23,.rw⟩, ⟨21,20,.rw⟩]
  | .HLTH_CTL => [⟨35,35,.rw⟩, ⟨34,34,.rw⟩, ⟨33,33,.rw⟩, ⟨32,32,.rw⟩, ⟨23,16,.rw⟩, ⟨15,0,.rw⟩]
  | .HLTH_STS => [⟨35,35,.ro⟩, ⟨34,34,.ro⟩, ⟨33,33,.ro⟩, ⟨32,32,.w1c⟩, ⟨31,31,.w1c⟩, ⟨30,30,.w1c⟩, ⟨8,0,.ro⟩]
  | .HLTH_EVT => [⟨35,35,.rc⟩, ⟨34,29,.rc⟩, ⟨19,0,.rc⟩]
  | .HLTH_AVS => [⟨31,22,.ro⟩, ⟨21,12,.ro⟩, ⟨9,0,.ro⟩]
  | .HLTH_MARGIN => [⟨35,26,.ro⟩, ⟨25,15,.ro⟩, ⟨14,10,.ro⟩, ⟨9,0,.ro⟩]
  | .HLTH_AGE => [⟨35,28,.ro⟩, ⟨27,18,.ro⟩, ⟨17,0,.ro⟩]
  | .HLTH_HOURS => [⟨35,0,.rw⟩]
  | .HLTH_LIFE => [⟨35,0,.ro⟩]
  | .HLTH_CLK => [⟨21,11,.ro⟩, ⟨10,0,.rw⟩]
  | .HLTH_THERM => [⟨35,27,.ro⟩, ⟨26,23,.ro⟩, ⟨22,14,.rw⟩, ⟨13,5,.rw⟩]
  | .HLTH_SWDT => [⟨35,35,.rw⟩, ⟨34,34,.wo⟩, ⟨31,16,.ro⟩, ⟨15,0,.rw⟩]
  | .HLTH_ECC => [⟨35,24,.rc⟩, ⟨23,12,.rc⟩]
  | .HLTH_ECC_ADDR => [⟨35,0,.ro⟩]
  | .SEC_STATE _ => [⟨35,35,.w1c⟩, ⟨34,34,.w1c⟩, ⟨33,33,.w1c⟩, ⟨2,0,.ro⟩]
  | .SEC_FENCE _ => [⟨35,35,.wo⟩, ⟨34,33,.ro⟩, ⟨4,0,.rw⟩]
  | .SEC_PWR _ => [⟨35,35,.rw⟩, ⟨34,34,.ro⟩, ⟨33,33,.ro⟩]

/-- The reset word of each register (R9); registers loaded from OTP or trims, and those computed from other state, are
filled in at fuse load or on reading. -/
def Reg.reset : Reg → Word
  | .HOST_DEVID => 0x92365C100#36
  | .HOST_CAPS => 0x684847C00#36
  | .BEAT_CTL => 0x000000500#36
  | .BEAT_PERIOD => 0x0000003E8#36
  | .BEAT_STS => 0x000000000#36
  | .BEAT_NUM => 0x000000000#36
  | .BEAT_NUM_LOAD => 0x000000000#36
  | .BEAT_EDGE_ERR => 0x000000000#36
  | .BEAT_FMIN_SCHED => 0x000640000#36
  | .SEC_FRAME _ => 0x000000000#36
  | .SEC_BUDGET _ => 0x000000000#36
  | .SEC_ENTRY _ => 0x000100000#36
  | .SEC_STALL_LIMIT _ => 0x00000003C#36
  | .SEC_OVERRUN _ => 0x000000000#36
  | .SEC_STALL _ => 0x000000000#36
  | .SEC_SLACK _ => 0x000000000#36
  | .QM_THR => 0x000000C01#36
  | .QM_EVT => 0x000000000#36
  | .QM_STS => 0x000000000#36
  | .QM_DROPS => 0x000000000#36
  | .QM_PUSH_D _ => 0x000000000#36
  | .QM_PUSH => 0x000000000#36
  | .QM_OCC => 0x000000000#36
  | .QM_HOFF => 0x000000000#36
  | .QM_HOFF_BEAT => 0x000000000#36
  | .GLV_CTL => 0x000000002#36
  | .GLV_STS => 0x000000000#36
  | .GLV_EVT => 0x000000000#36
  | .GLV_TRIPS => 0x000000000#36
  | .GLV_TSEL => 0x000000000#36
  | .GLV_TW _ => 0#36
  | .GLV_LAST => 0x000000000#36
  | .GLV_STATE => 0xEC0000000#36
  | .GLV_CMD => 0x000000000#36
  | .SEC_MODE _ => 0x000000000#36
  | .SEC_CFG _ => 0x000000000#36
  | .SEC_DBELL _ => 0x000000000#36
  | .SEC_DCINV _ => 0x000000000#36
  | .SEC_ECC _ => 0x000000000#36
  | .SEC_ECC_ADDR _ => 0x000000000#36
  | .PRGN_BASE o k => if o = 6 ∧ k = 0 then 0x080000000#36 else 0
  | .PRGN_ATTR o k => if o = 6 ∧ k = 0 then 0xA9A000000#36 else 0
  | .SEC_SEM _ _ _ => 0x000000000#36
  | .SEC_DMA_POST _ _ _ => 0x000000000#36
  | .SEC_DMA_STS _ _ _ => 0x100000000#36
  | .SEC_USABLE _ => 0x0FFFFFFFF#36
  | .SEC_PLACE _ => 0x000000000#36
  | .SEC_POST _ => 0x000000000#36
  | .SEC_XQ _ => 0x000000000#36
  | .SEC_XQ_MAX _ => 0x000000000#36
  | .LN_FRM _ => 0x000000000#36
  | .LN_RPL _ => 0x000000000#36
  | .LN_PSTS _ => 0x000000000#36
  | .LN_CTL _ => 0x000000050#36
  | .LN_STS _ => 0x000000000#36
  | .LN_FAULT _ => 0x000000000#36
  | .LN_TXEQ _ => 0x000001000#36
  | .LN_EQ_STS _ => 0x000000000#36
  | .LN_EYE _ => 0x000000000#36
  | .LN_EYE_THR _ => 0x0000A1900#36
  | .LN_TEST _ => 0x000000000#36
  | .LN_PRBS_ERR _ => 0x000000000#36
  | .LN_ALIGN _ => 0x000000000#36
  | .LN_HUBID _ _ => 0x000000000#36
  | .LN_SCALE _ _ => 0x000000000#36
  | .LN_MSG_TX _ => 0x000000000#36
  | .LN_MSG_TXC _ => 0x000000000#36
  | .LN_MSG_RX _ => 0x000000000#36
  | .LN_MSG_RXS _ => 0x000000000#36
  | .EXP_CTL => 0x000000000#36
  | .EXP_MAP => 0x0E4E4E4E4#36
  | .EXP_SRCID => 0x000000000#36
  | .EXPK_CFG _ => 0x10900000A#36
  | .EXPK_STS _ => 0x000000000#36
  | .EXPK_TXFR _ => 0x000000000#36
  | .EXPK_TXREC _ => 0x000000000#36
  | .EXPK_DROP _ => 0x000000000#36
  | .EXPK_RX _ => 0x000000000#36
  | .EXP_TPL _ _ => 0x000000000#36
  | .CKU_CTL _ => 0x000000001#36
  | .CKU_ADDR _ => 0x000000000#36
  | .CKU_LEN _ => 0x000000000#36
  | .CKU_EXP _ => 0x000000000#36
  | .CKU_RES _ => 0x000000000#36
  | .CKU_STS _ => 0x000000000#36
  | .MARCH_CTL => 0x080000064#36
  | .MARCH_STS => 0x000000000#36
  | .MARCH_FAIL => 0x000000000#36
  | .HOST_STATE => 0x000000000#36
  | .HOST_STATE_ERR => 0x000000000#36
  | .HOST_I3C => 0x000000000#36
  | .HOST_MBX_STS => 0x000000000#36
  | .HOST_MBX_DATA => 0x000000000#36
  | .HOST_MBX_REPLY => 0x000000000#36
  | .HOST_MBX_RCTL => 0x00000000A#36
  | .HELM_STS => 0#36
  | .HELM_VSTS => 0x000000000#36
  | .HELM_ARB => 0#36
  | .HELM_OTPCTL => 0x000000000#36
  | .HELM_OTPDATA => 0x000000000#36
  | .HELM_OTP _ => 0#36
  | .DBG_CTL => 0x000000000#36
  | .DBG_LEVEL => 0x000000000#36
  | .DBG_GONG _ => 0x000000000#36
  | .DBG_ECTL _ => 0x000000000#36
  | .DBG_ESTS _ => 0x000000000#36
  | .DBG_BCTL _ _ => 0x000000000#36
  | .DBG_WCTL _ _ => 0x000000000#36
  | .HLTH_CTL => 0xE000F2238#36
  | .HLTH_STS => 0x000000000#36
  | .HLTH_EVT => 0x000000000#36
  | .HLTH_AVS => 0x0002EE000#36
  | .HLTH_MARGIN => 0#36
  | .HLTH_AGE => 0x0F0000000#36
  | .HLTH_HOURS => 0x000000000#36
  | .HLTH_LIFE => 0xFFFFFFFFF#36
  | .HLTH_CLK => 0x000320640#36
  | .HLTH_THERM => 0x0001A4C80#36
  | .HLTH_SWDT => 0x0000003E8#36
  | .HLTH_ECC => 0x000000000#36
  | .HLTH_ECC_ADDR => 0x000000000#36
  | .SEC_STATE _ => 0x000000000#36
  | .SEC_FENCE _ => 0x000000000#36
  | .SEC_PWR _ => 0x000000000#36

/-- The byte address of each register. -/
def Reg.addr : Reg → Nat
  | .HOST_DEVID => 0x0C0010000
  | .HOST_CAPS => 0x0C0010004
  | .BEAT_CTL => 0x0C0000000
  | .BEAT_PERIOD => 0x0C0000004
  | .BEAT_STS => 0x0C0000008
  | .BEAT_NUM => 0x0C000000C
  | .BEAT_NUM_LOAD => 0x0C0000010
  | .BEAT_EDGE_ERR => 0x0C0000014
  | .BEAT_FMIN_SCHED => 0x0C0000018
  | .SEC_FRAME s => 0xc0200100 + s * 0x10000
  | .SEC_BUDGET s => 0xc0200104 + s * 0x10000
  | .SEC_ENTRY s => 0xc0200108 + s * 0x10000
  | .SEC_STALL_LIMIT s => 0xc020010c + s * 0x10000
  | .SEC_OVERRUN s => 0xc0200110 + s * 0x10000
  | .SEC_STALL s => 0xc0200114 + s * 0x10000
  | .SEC_SLACK s => 0xc0200118 + s * 0x10000
  | .QM_THR => 0x0C0030000
  | .QM_EVT => 0x0C0030004
  | .QM_STS => 0x0C0030008
  | .QM_DROPS => 0x0C003000C
  | .QM_PUSH_D j => 0xc0030020 + 4 * j
  | .QM_PUSH => 0x0C0030040
  | .QM_OCC => 0x0C0030044
  | .QM_HOFF => 0x0C0030048
  | .QM_HOFF_BEAT => 0x0C003004C
  | .GLV_CTL => 0x0C0020000
  | .GLV_STS => 0x0C0020004
  | .GLV_EVT => 0x0C0020008
  | .GLV_TRIPS => 0x0C002000C
  | .GLV_TSEL => 0x0C0020010
  | .GLV_TW k => 0xc0020020 + 4 * k
  | .GLV_LAST => 0x0C002003C
  | .GLV_STATE => 0x0C0020040
  | .GLV_CMD => 0x0C0020044
  | .SEC_MODE s => 0xc020011c + s * 0x10000
  | .SEC_CFG s => 0xc0200120 + s * 0x10000
  | .SEC_DBELL s => 0xc0200124 + s * 0x10000
  | .SEC_DCINV s => 0xc0200128 + s * 0x10000
  | .SEC_ECC s => 0xc020012c + s * 0x10000
  | .SEC_ECC_ADDR s => 0xc0200130 + s * 0x10000
  | .PRGN_BASE o k => if o = 6 then 0x0C0500100 + 8 * k else 0x0C0200200 + o * 0x10000 + 8 * k
  | .PRGN_ATTR o k => if o = 6 then 0x0C0500104 + 8 * k else 0x0C0200204 + o * 0x10000 + 8 * k
  | .SEC_SEM s c j => 0xc0201000 + s * 0x10000 + c * 0x100 + 4 * j
  | .SEC_DMA_POST s c e => 0xc0202000 + s * 0x10000 + c * 0x20 + 8 * e
  | .SEC_DMA_STS s c e => 0xc0202004 + s * 0x10000 + c * 0x20 + 8 * e
  | .SEC_USABLE s => 0xc0200134 + s * 0x10000
  | .SEC_PLACE s => 0xc0200138 + s * 0x10000
  | .SEC_POST s => 0xc020013c + s * 0x10000
  | .SEC_XQ s => 0xc0200140 + s * 0x10000
  | .SEC_XQ_MAX s => 0xc0200144 + s * 0x10000
  | .LN_FRM n => 0xc0100200 + n * 0x1000
  | .LN_RPL n => 0xc0100204 + n * 0x1000
  | .LN_PSTS n => 0xc0100208 + n * 0x1000
  | .LN_CTL n => 0xc0100000 + n * 0x1000
  | .LN_STS n => 0xc0100004 + n * 0x1000
  | .LN_FAULT n => 0xc0100008 + n * 0x1000
  | .LN_TXEQ n => 0xc010000c + n * 0x1000
  | .LN_EQ_STS n => 0xc0100010 + n * 0x1000
  | .LN_EYE n => 0xc0100014 + n * 0x1000
  | .LN_EYE_THR n => 0xc0100018 + n * 0x1000
  | .LN_TEST n => 0xc010001c + n * 0x1000
  | .LN_PRBS_ERR n => 0xc0100020 + n * 0x1000
  | .LN_ALIGN n => 0xc0100024 + n * 0x1000
  | .LN_HUBID n k => 0xc0100040 + n * 0x1000 + 4 * k
  | .LN_SCALE n k => 0xc0100050 + n * 0x1000 + 4 * k
  | .LN_MSG_TX n => 0xc0100300 + n * 0x1000
  | .LN_MSG_TXC n => 0xc0100304 + n * 0x1000
  | .LN_MSG_RX n => 0xc0100308 + n * 0x1000
  | .LN_MSG_RXS n => 0xc010030c + n * 0x1000
  | .EXP_CTL => 0x0C0040000
  | .EXP_MAP => 0x0C0040004
  | .EXP_SRCID => 0x0C0040008
  | .EXPK_CFG k => 0xc0040100 + k * 0x100
  | .EXPK_STS k => 0xc0040104 + k * 0x100
  | .EXPK_TXFR k => 0xc0040108 + k * 0x100
  | .EXPK_TXREC k => 0xc004010c + k * 0x100
  | .EXPK_DROP k => 0xc0040110 + k * 0x100
  | .EXPK_RX k => 0xc0040114 + k * 0x100
  | .EXP_TPL k j => 0xc0040140 + k * 0x100 + 4 * j
  | .CKU_CTL u => if u < 48 then 0x0C0203000 + (u / 8) * 0x10000 + (u % 8) * 0x40 + 0 else 0x0C0310000 + (u - 48) * 0x40 + 0
  | .CKU_ADDR u => if u < 48 then 0x0C0203000 + (u / 8) * 0x10000 + (u % 8) * 0x40 + 4 else 0x0C0310000 + (u - 48) * 0x40 + 4
  | .CKU_LEN u => if u < 48 then 0x0C0203000 + (u / 8) * 0x10000 + (u % 8) * 0x40 + 8 else 0x0C0310000 + (u - 48) * 0x40 + 8
  | .CKU_EXP u => if u < 48 then 0x0C0203000 + (u / 8) * 0x10000 + (u % 8) * 0x40 + 12 else 0x0C0310000 + (u - 48) * 0x40 + 12
  | .CKU_RES u => if u < 48 then 0x0C0203000 + (u / 8) * 0x10000 + (u % 8) * 0x40 + 16 else 0x0C0310000 + (u - 48) * 0x40 + 16
  | .CKU_STS u => if u < 48 then 0x0C0203000 + (u / 8) * 0x10000 + (u % 8) * 0x40 + 20 else 0x0C0310000 + (u - 48) * 0x40 + 20
  | .MARCH_CTL => 0x0C0320000
  | .MARCH_STS => 0x0C0320004
  | .MARCH_FAIL => 0x0C0320008
  | .HOST_STATE => 0x0C0010008
  | .HOST_STATE_ERR => 0x0C001000C
  | .HOST_I3C => 0x0C0010010
  | .HOST_MBX_STS => 0x0C0010014
  | .HOST_MBX_DATA => 0x0C0010018
  | .HOST_MBX_REPLY => 0x0C001001C
  | .HOST_MBX_RCTL => 0x0C0010020
  | .HELM_STS => 0x0C0500000
  | .HELM_VSTS => 0x0C0500004
  | .HELM_ARB => 0x0C0500008
  | .HELM_OTPCTL => 0x0C050000C
  | .HELM_OTPDATA => 0x0C0500010
  | .HELM_OTP w => 0x0C0501000 + 4 * w
  | .DBG_CTL => 0x0C0400000
  | .DBG_LEVEL => 0x0C0400004
  | .DBG_GONG g => 0xc0400100 + 4 * g
  | .DBG_ECTL n => 0x0C0401000 + n * 0x40
  | .DBG_ESTS n => 0x0C0401004 + n * 0x40
  | .DBG_BCTL n k => 0x0C0401010 + n * 0x40 + 4 * k
  | .DBG_WCTL n k => 0x0C0401020 + n * 0x40 + 4 * k
  | .HLTH_CTL => 0x0C0300000
  | .HLTH_STS => 0x0C0300004
  | .HLTH_EVT => 0x0C0300008
  | .HLTH_AVS => 0x0C030000C
  | .HLTH_MARGIN => 0x0C0300010
  | .HLTH_AGE => 0x0C0300014
  | .HLTH_HOURS => 0x0C0300018
  | .HLTH_LIFE => 0x0C030001C
  | .HLTH_CLK => 0x0C0300020
  | .HLTH_THERM => 0x0C0300024
  | .HLTH_SWDT => 0x0C0300028
  | .HLTH_ECC => 0x0C030002C
  | .HLTH_ECC_ADDR => 0x0C0300030
  | .SEC_STATE s => 0xc0200000 + s * 0x10000
  | .SEC_FENCE s => 0xc0200004 + s * 0x10000
  | .SEC_PWR s => 0xc0200008 + s * 0x10000

/-! The register at an address, block by block (Table 1.7); `none` where the block holds no register (R34). -/

def Reg.inBeat (off : Nat) : Option Reg :=
  if off = 0x0 then some .BEAT_CTL
  else if off = 0x4 then some .BEAT_PERIOD
  else if off = 0x8 then some .BEAT_STS
  else if off = 0xc then some .BEAT_NUM
  else if off = 0x10 then some .BEAT_NUM_LOAD
  else if off = 0x14 then some .BEAT_EDGE_ERR
  else if off = 0x18 then some .BEAT_FMIN_SCHED
  else none
def Reg.inHost (off : Nat) : Option Reg :=
  if off = 0x0 then some .HOST_DEVID
  else if off = 0x4 then some .HOST_CAPS
  else if off = 0x8 then some .HOST_STATE
  else if off = 0xc then some .HOST_STATE_ERR
  else if off = 0x10 then some .HOST_I3C
  else if off = 0x14 then some .HOST_MBX_STS
  else if off = 0x18 then some .HOST_MBX_DATA
  else if off = 0x1c then some .HOST_MBX_REPLY
  else if off = 0x20 then some .HOST_MBX_RCTL
  else none
def Reg.inGlv (off : Nat) : Option Reg :=
  if off = 0x0 then some .GLV_CTL
  else if off = 0x4 then some .GLV_STS
  else if off = 0x8 then some .GLV_EVT
  else if off = 0xc then some .GLV_TRIPS
  else if off = 0x10 then some .GLV_TSEL
  else if off = 0x3c then some .GLV_LAST
  else if off = 0x40 then some .GLV_STATE
  else if off = 0x44 then some .GLV_CMD
  else if 0x20 ≤ off ∧ off < 0x3C then some (.GLV_TW ((off - 0x20) / 4))
  else none
def Reg.inQm (off : Nat) : Option Reg :=
  if off = 0x0 then some .QM_THR
  else if off = 0x4 then some .QM_EVT
  else if off = 0x8 then some .QM_STS
  else if off = 0xc then some .QM_DROPS
  else if off = 0x40 then some .QM_PUSH
  else if off = 0x44 then some .QM_OCC
  else if off = 0x48 then some .QM_HOFF
  else if off = 0x4c then some .QM_HOFF_BEAT
  else if 0x20 ≤ off ∧ off < 0x40 then some (.QM_PUSH_D ((off - 0x20) / 4))
  else none
def Reg.inExpLane (k off : Nat) : Option Reg :=
  if off = 0x0 then some (.EXPK_CFG k)
  else if off = 0x4 then some (.EXPK_STS k)
  else if off = 0x8 then some (.EXPK_TXFR k)
  else if off = 0xc then some (.EXPK_TXREC k)
  else if off = 0x10 then some (.EXPK_DROP k)
  else if off = 0x14 then some (.EXPK_RX k)
  else if 0x40 ≤ off ∧ off < 0x80 then some (.EXP_TPL k ((off - 0x40) / 4))
  else none
def Reg.inExp (off : Nat) : Option Reg :=
  if off = 0x0 then some .EXP_CTL
  else if off = 0x4 then some .EXP_MAP
  else if off = 0x8 then some .EXP_SRCID
  else if 0x100 ≤ off ∧ off < 0x500 then Reg.inExpLane ((off - 0x100) / 0x100) (off % 0x100) else none
def Reg.inLane (n off : Nat) : Option Reg :=
  if off = 0x200 ∧ n < 16 then some (.LN_FRM n)
  else if off = 0x204 ∧ n < 16 then some (.LN_RPL n)
  else if off = 0x208 ∧ n < 16 then some (.LN_PSTS n)
  else if off = 0x0 then some (.LN_CTL n)
  else if off = 0x4 then some (.LN_STS n)
  else if off = 0x8 then some (.LN_FAULT n)
  else if off = 0xc then some (.LN_TXEQ n)
  else if off = 0x10 then some (.LN_EQ_STS n)
  else if off = 0x14 then some (.LN_EYE n)
  else if off = 0x18 then some (.LN_EYE_THR n)
  else if off = 0x1c then some (.LN_TEST n)
  else if off = 0x20 then some (.LN_PRBS_ERR n)
  else if off = 0x24 then some (.LN_ALIGN n)
  else if off = 0x300 then some (.LN_MSG_TX n)
  else if off = 0x304 then some (.LN_MSG_TXC n)
  else if off = 0x308 then some (.LN_MSG_RX n)
  else if off = 0x30c then some (.LN_MSG_RXS n)
  else if 0x40 ≤ off ∧ off < 0x50 then some (.LN_HUBID n ((off - 0x40) / 4))
  else if 0x50 ≤ off ∧ off < 0x60 then some (.LN_SCALE n ((off - 0x50) / 4))
  else none
def Reg.inCku (u off : Nat) : Option Reg :=
  if off = 0 then some (.CKU_CTL u)
  else if off = 4 then some (.CKU_ADDR u)
  else if off = 8 then some (.CKU_LEN u)
  else if off = 12 then some (.CKU_EXP u)
  else if off = 16 then some (.CKU_RES u)
  else if off = 20 then some (.CKU_STS u)
  else none
def Reg.inSec (s off : Nat) : Option Reg :=
  if off = 0x100 then some (.SEC_FRAME s)
  else if off = 0x104 then some (.SEC_BUDGET s)
  else if off = 0x108 then some (.SEC_ENTRY s)
  else if off = 0x10c then some (.SEC_STALL_LIMIT s)
  else if off = 0x110 then some (.SEC_OVERRUN s)
  else if off = 0x114 then some (.SEC_STALL s)
  else if off = 0x118 then some (.SEC_SLACK s)
  else if off = 0x11c then some (.SEC_MODE s)
  else if off = 0x120 then some (.SEC_CFG s)
  else if off = 0x124 then some (.SEC_DBELL s)
  else if off = 0x128 then some (.SEC_DCINV s)
  else if off = 0x12c then some (.SEC_ECC s)
  else if off = 0x130 then some (.SEC_ECC_ADDR s)
  else if off = 0x134 then some (.SEC_USABLE s)
  else if off = 0x138 then some (.SEC_PLACE s)
  else if off = 0x13c then some (.SEC_POST s)
  else if off = 0x140 then some (.SEC_XQ s)
  else if off = 0x144 then some (.SEC_XQ_MAX s)
  else if off = 0x0 then some (.SEC_STATE s)
  else if off = 0x4 then some (.SEC_FENCE s)
  else if off = 0x8 then some (.SEC_PWR s)
  else if 0x200 ≤ off ∧ off < 0x240 ∧ off % 8 = 0 then some (.PRGN_BASE s ((off - 0x200) / 8))
  else if 0x200 ≤ off ∧ off < 0x240 then some (.PRGN_ATTR s ((off - 0x200) / 8))
  else if 0x1000 ≤ off ∧ off < 0x1800 then some (.SEC_SEM s ((off - 0x1000) / 0x100) ((off % 0x100) / 4))
  else if 0x2000 ≤ off ∧ off < 0x2100 ∧ off % 8 = 0 then some (.SEC_DMA_POST s ((off - 0x2000) / 0x20) ((off % 0x20) / 8))
  else if 0x2000 ≤ off ∧ off < 0x2100 then some (.SEC_DMA_STS s ((off - 0x2000) / 0x20) ((off % 0x20) / 8))
  else if 0x3000 ≤ off ∧ off < 0x3200 then Reg.inCku (s * 8 + (off - 0x3000) / 0x40) (off % 0x40) else none
def Reg.inHlth (off : Nat) : Option Reg :=
  if off = 0x0 then some .HLTH_CTL
  else if off = 0x4 then some .HLTH_STS
  else if off = 0x8 then some .HLTH_EVT
  else if off = 0xc then some .HLTH_AVS
  else if off = 0x10 then some .HLTH_MARGIN
  else if off = 0x14 then some .HLTH_AGE
  else if off = 0x18 then some .HLTH_HOURS
  else if off = 0x1c then some .HLTH_LIFE
  else if off = 0x20 then some .HLTH_CLK
  else if off = 0x24 then some .HLTH_THERM
  else if off = 0x28 then some .HLTH_SWDT
  else if off = 0x2c then some .HLTH_ECC
  else if off = 0x30 then some .HLTH_ECC_ADDR
  else none
def Reg.inMarch (off : Nat) : Option Reg :=
  if off = 0x0 then some .MARCH_CTL
  else if off = 0x4 then some .MARCH_STS
  else if off = 0x8 then some .MARCH_FAIL
  else none
def Reg.inDbgEntry (n off : Nat) : Option Reg :=
  if off = 0 then some (.DBG_ECTL n)
  else if off = 4 then some (.DBG_ESTS n)
  else if 0x10 ≤ off ∧ off < 0x20 then some (.DBG_BCTL n ((off - 0x10) / 4))
  else if 0x20 ≤ off ∧ off < 0x30 then some (.DBG_WCTL n ((off - 0x20) / 4))
  else none
def Reg.inDbg (off : Nat) : Option Reg :=
  if off = 0x0 then some .DBG_CTL
  else if off = 0x4 then some .DBG_LEVEL
  else if 0x100 ≤ off ∧ off < 0x120 then some (.DBG_GONG ((off - 0x100) / 4))
  else if 0x1000 ≤ off ∧ off < 0x1000 + 193 * 0x40 then Reg.inDbgEntry ((off - 0x1000) / 0x40) (off % 0x40) else none
def Reg.inHelm (off : Nat) : Option Reg :=
  if off = 0x0 then some .HELM_STS
  else if off = 0x4 then some .HELM_VSTS
  else if off = 0x8 then some .HELM_ARB
  else if off = 0xc then some .HELM_OTPCTL
  else if off = 0x10 then some .HELM_OTPDATA
  else if 0x100 ≤ off ∧ off < 0x140 ∧ off % 8 = 0 then some (.PRGN_BASE 6 ((off - 0x100) / 8))
  else if 0x100 ≤ off ∧ off < 0x140 then some (.PRGN_ATTR 6 ((off - 0x100) / 8))
  else if 0x1000 ≤ off ∧ off < 0x2000 then some (.HELM_OTP ((off - 0x1000) / 4))
  else none

/-- The register at a byte address; `none` for an address that is not aligned or holds no register. -/
def Reg.ofAddr (a : Nat) : Option Reg :=
  if a % 4 ≠ 0 ∨ a < 0x0C0000000 ∨ 0x0C1000000 ≤ a then none
  else
    let b := (a - 0x0C0000000) / 0x10000
    let off := a % 0x10000
    if b = 0x00 then Reg.inBeat off else if b = 0x01 then Reg.inHost off
    else if b = 0x02 then Reg.inGlv off else if b = 0x03 then Reg.inQm off
    else if b = 0x04 then Reg.inExp off
    else if b = 0x10 ∨ b = 0x11 then
      let n := (a - 0x0C0100000) / 0x1000
      if n < 20 then Reg.inLane n (a % 0x1000) else none
    else if 0x20 ≤ b ∧ b < 0x26 then Reg.inSec (b - 0x20) off
    else if b = 0x30 then Reg.inHlth off
    else if b = 0x31 then (if off < 0x80 then Reg.inCku (48 + off / 0x40) (off % 0x40) else none)
    else if b = 0x32 then Reg.inMarch off
    else if b = 0x40 then Reg.inDbg off
    else if b = 0x50 then Reg.inHelm off
    else none

/-- The address lies inside a block of Table 1.7 (R34). -/
def Reg.inBlock (a : Nat) : Bool :=
  if a < 0x0C0000000 ∨ 0x0C1000000 ≤ a then false
  else
    let b := (a - 0x0C0000000) / 0x10000
    decide (b ≤ 0x04 ∨ (0x0C0100000 ≤ a ∧ a < 0x0C0114000) ∨ (0x20 ≤ b ∧ b < 0x26) ∨ b = 0x30 ∨ b = 0x31 ∨ b = 0x32
      ∨ b = 0x40 ∨ b = 0x50)

/-- The place of a register's name in the list above. -/
def Reg.idx : Reg → Nat
  | .HOST_DEVID => 0
  | .HOST_CAPS => 1
  | .BEAT_CTL => 2
  | .BEAT_PERIOD => 3
  | .BEAT_STS => 4
  | .BEAT_NUM => 5
  | .BEAT_NUM_LOAD => 6
  | .BEAT_EDGE_ERR => 7
  | .BEAT_FMIN_SCHED => 8
  | .SEC_FRAME _ => 9
  | .SEC_BUDGET _ => 10
  | .SEC_ENTRY _ => 11
  | .SEC_STALL_LIMIT _ => 12
  | .SEC_OVERRUN _ => 13
  | .SEC_STALL _ => 14
  | .SEC_SLACK _ => 15
  | .QM_THR => 16
  | .QM_EVT => 17
  | .QM_STS => 18
  | .QM_DROPS => 19
  | .QM_PUSH_D _ => 20
  | .QM_PUSH => 21
  | .QM_OCC => 22
  | .QM_HOFF => 23
  | .QM_HOFF_BEAT => 24
  | .GLV_CTL => 25
  | .GLV_STS => 26
  | .GLV_EVT => 27
  | .GLV_TRIPS => 28
  | .GLV_TSEL => 29
  | .GLV_TW _ => 30
  | .GLV_LAST => 31
  | .GLV_STATE => 32
  | .GLV_CMD => 33
  | .SEC_MODE _ => 34
  | .SEC_CFG _ => 35
  | .SEC_DBELL _ => 36
  | .SEC_DCINV _ => 37
  | .SEC_ECC _ => 38
  | .SEC_ECC_ADDR _ => 39
  | .PRGN_BASE _ _ => 40
  | .PRGN_ATTR _ _ => 41
  | .SEC_SEM _ _ _ => 42
  | .SEC_DMA_POST _ _ _ => 43
  | .SEC_DMA_STS _ _ _ => 44
  | .SEC_USABLE _ => 45
  | .SEC_PLACE _ => 46
  | .SEC_POST _ => 47
  | .SEC_XQ _ => 48
  | .SEC_XQ_MAX _ => 49
  | .LN_FRM _ => 50
  | .LN_RPL _ => 51
  | .LN_PSTS _ => 52
  | .LN_CTL _ => 53
  | .LN_STS _ => 54
  | .LN_FAULT _ => 55
  | .LN_TXEQ _ => 56
  | .LN_EQ_STS _ => 57
  | .LN_EYE _ => 58
  | .LN_EYE_THR _ => 59
  | .LN_TEST _ => 60
  | .LN_PRBS_ERR _ => 61
  | .LN_ALIGN _ => 62
  | .LN_HUBID _ _ => 63
  | .LN_SCALE _ _ => 64
  | .LN_MSG_TX _ => 65
  | .LN_MSG_TXC _ => 66
  | .LN_MSG_RX _ => 67
  | .LN_MSG_RXS _ => 68
  | .EXP_CTL => 69
  | .EXP_MAP => 70
  | .EXP_SRCID => 71
  | .EXPK_CFG _ => 72
  | .EXPK_STS _ => 73
  | .EXPK_TXFR _ => 74
  | .EXPK_TXREC _ => 75
  | .EXPK_DROP _ => 76
  | .EXPK_RX _ => 77
  | .EXP_TPL _ _ => 78
  | .CKU_CTL _ => 79
  | .CKU_ADDR _ => 80
  | .CKU_LEN _ => 81
  | .CKU_EXP _ => 82
  | .CKU_RES _ => 83
  | .CKU_STS _ => 84
  | .MARCH_CTL => 85
  | .MARCH_STS => 86
  | .MARCH_FAIL => 87
  | .HOST_STATE => 88
  | .HOST_STATE_ERR => 89
  | .HOST_I3C => 90
  | .HOST_MBX_STS => 91
  | .HOST_MBX_DATA => 92
  | .HOST_MBX_REPLY => 93
  | .HOST_MBX_RCTL => 94
  | .HELM_STS => 95
  | .HELM_VSTS => 96
  | .HELM_ARB => 97
  | .HELM_OTPCTL => 98
  | .HELM_OTPDATA => 99
  | .HELM_OTP _ => 100
  | .DBG_CTL => 101
  | .DBG_LEVEL => 102
  | .DBG_GONG _ => 103
  | .DBG_ECTL _ => 104
  | .DBG_ESTS _ => 105
  | .DBG_BCTL _ _ => 106
  | .DBG_WCTL _ _ => 107
  | .HLTH_CTL => 108
  | .HLTH_STS => 109
  | .HLTH_EVT => 110
  | .HLTH_AVS => 111
  | .HLTH_MARGIN => 112
  | .HLTH_AGE => 113
  | .HLTH_HOURS => 114
  | .HLTH_LIFE => 115
  | .HLTH_CLK => 116
  | .HLTH_THERM => 117
  | .HLTH_SWDT => 118
  | .HLTH_ECC => 119
  | .HLTH_ECC_ADDR => 120
  | .SEC_STATE _ => 121
  | .SEC_FENCE _ => 122
  | .SEC_PWR _ => 123

/-- The instance numbers of a register. -/
def Reg.par : Reg → Nat × Nat × Nat
  | .HOST_DEVID => (0, 0, 0)
  | .HOST_CAPS => (0, 0, 0)
  | .BEAT_CTL => (0, 0, 0)
  | .BEAT_PERIOD => (0, 0, 0)
  | .BEAT_STS => (0, 0, 0)
  | .BEAT_NUM => (0, 0, 0)
  | .BEAT_NUM_LOAD => (0, 0, 0)
  | .BEAT_EDGE_ERR => (0, 0, 0)
  | .BEAT_FMIN_SCHED => (0, 0, 0)
  | .SEC_FRAME p => (p, 0, 0)
  | .SEC_BUDGET p => (p, 0, 0)
  | .SEC_ENTRY p => (p, 0, 0)
  | .SEC_STALL_LIMIT p => (p, 0, 0)
  | .SEC_OVERRUN p => (p, 0, 0)
  | .SEC_STALL p => (p, 0, 0)
  | .SEC_SLACK p => (p, 0, 0)
  | .QM_THR => (0, 0, 0)
  | .QM_EVT => (0, 0, 0)
  | .QM_STS => (0, 0, 0)
  | .QM_DROPS => (0, 0, 0)
  | .QM_PUSH_D p => (p, 0, 0)
  | .QM_PUSH => (0, 0, 0)
  | .QM_OCC => (0, 0, 0)
  | .QM_HOFF => (0, 0, 0)
  | .QM_HOFF_BEAT => (0, 0, 0)
  | .GLV_CTL => (0, 0, 0)
  | .GLV_STS => (0, 0, 0)
  | .GLV_EVT => (0, 0, 0)
  | .GLV_TRIPS => (0, 0, 0)
  | .GLV_TSEL => (0, 0, 0)
  | .GLV_TW p => (p, 0, 0)
  | .GLV_LAST => (0, 0, 0)
  | .GLV_STATE => (0, 0, 0)
  | .GLV_CMD => (0, 0, 0)
  | .SEC_MODE p => (p, 0, 0)
  | .SEC_CFG p => (p, 0, 0)
  | .SEC_DBELL p => (p, 0, 0)
  | .SEC_DCINV p => (p, 0, 0)
  | .SEC_ECC p => (p, 0, 0)
  | .SEC_ECC_ADDR p => (p, 0, 0)
  | .PRGN_BASE p q => (p, q, 0)
  | .PRGN_ATTR p q => (p, q, 0)
  | .SEC_USABLE p => (p, 0, 0)
  | .SEC_PLACE p => (p, 0, 0)
  | .SEC_POST p => (p, 0, 0)
  | .SEC_XQ p => (p, 0, 0)
  | .SEC_XQ_MAX p => (p, 0, 0)
  | .LN_FRM p => (p, 0, 0)
  | .LN_RPL p => (p, 0, 0)
  | .LN_PSTS p => (p, 0, 0)
  | .LN_CTL p => (p, 0, 0)
  | .LN_STS p => (p, 0, 0)
  | .LN_FAULT p => (p, 0, 0)
  | .LN_TXEQ p => (p, 0, 0)
  | .LN_EQ_STS p => (p, 0, 0)
  | .LN_EYE p => (p, 0, 0)
  | .LN_EYE_THR p => (p, 0, 0)
  | .LN_TEST p => (p, 0, 0)
  | .LN_PRBS_ERR p => (p, 0, 0)
  | .LN_ALIGN p => (p, 0, 0)
  | .LN_HUBID p q => (p, q, 0)
  | .LN_SCALE p q => (p, q, 0)
  | .LN_MSG_TX p => (p, 0, 0)
  | .LN_MSG_TXC p => (p, 0, 0)
  | .LN_MSG_RX p => (p, 0, 0)
  | .LN_MSG_RXS p => (p, 0, 0)
  | .EXP_CTL => (0, 0, 0)
  | .EXP_MAP => (0, 0, 0)
  | .EXP_SRCID => (0, 0, 0)
  | .EXPK_CFG p => (p, 0, 0)
  | .EXPK_STS p => (p, 0, 0)
  | .EXPK_TXFR p => (p, 0, 0)
  | .EXPK_TXREC p => (p, 0, 0)
  | .EXPK_DROP p => (p, 0, 0)
  | .EXPK_RX p => (p, 0, 0)
  | .EXP_TPL p q => (p, q, 0)
  | .CKU_CTL p => (p, 0, 0)
  | .CKU_ADDR p => (p, 0, 0)
  | .CKU_LEN p => (p, 0, 0)
  | .CKU_EXP p => (p, 0, 0)
  | .CKU_RES p => (p, 0, 0)
  | .CKU_STS p => (p, 0, 0)
  | .MARCH_CTL => (0, 0, 0)
  | .MARCH_STS => (0, 0, 0)
  | .MARCH_FAIL => (0, 0, 0)
  | .HOST_STATE => (0, 0, 0)
  | .HOST_STATE_ERR => (0, 0, 0)
  | .HOST_I3C => (0, 0, 0)
  | .HOST_MBX_STS => (0, 0, 0)
  | .HOST_MBX_DATA => (0, 0, 0)
  | .HOST_MBX_REPLY => (0, 0, 0)
  | .HOST_MBX_RCTL => (0, 0, 0)
  | .HELM_STS => (0, 0, 0)
  | .HELM_VSTS => (0, 0, 0)
  | .HELM_ARB => (0, 0, 0)
  | .HELM_OTPCTL => (0, 0, 0)
  | .HELM_OTPDATA => (0, 0, 0)
  | .HELM_OTP p => (p, 0, 0)
  | .DBG_CTL => (0, 0, 0)
  | .DBG_LEVEL => (0, 0, 0)
  | .DBG_GONG p => (p, 0, 0)
  | .DBG_ECTL p => (p, 0, 0)
  | .DBG_ESTS p => (p, 0, 0)
  | .DBG_BCTL p q => (p, q, 0)
  | .DBG_WCTL p q => (p, q, 0)
  | .HLTH_CTL => (0, 0, 0)
  | .HLTH_STS => (0, 0, 0)
  | .HLTH_EVT => (0, 0, 0)
  | .HLTH_AVS => (0, 0, 0)
  | .HLTH_MARGIN => (0, 0, 0)
  | .HLTH_AGE => (0, 0, 0)
  | .HLTH_HOURS => (0, 0, 0)
  | .HLTH_LIFE => (0, 0, 0)
  | .HLTH_CLK => (0, 0, 0)
  | .HLTH_THERM => (0, 0, 0)
  | .HLTH_SWDT => (0, 0, 0)
  | .HLTH_ECC => (0, 0, 0)
  | .HLTH_ECC_ADDR => (0, 0, 0)
  | .SEC_STATE p => (p, 0, 0)
  | .SEC_FENCE p => (p, 0, 0)
  | .SEC_PWR p => (p, 0, 0)
  | .SEC_SEM p q r => (p, q, r)
  | .SEC_DMA_POST p q r => (p, q, r)
  | .SEC_DMA_STS p q r => (p, q, r)

/-- Two numbers as one (Cantor's pairing by squares): no two pairs share a number. -/
def pairNum (p q : Nat) : Nat := if p < q then q * q + p else p * p + p + q

/-- The key of a register in State.regs: its name and its instance numbers. Every register has its own key. -/
def Reg.key (r : Reg) : Nat := r.idx + 256 * pairNum r.par.1 (pairNum r.par.2.1 r.par.2.2)

/-- A register of each name. -/
def Reg.rep : Nat → Option Reg
  | 0 => some .HOST_DEVID
  | 1 => some .HOST_CAPS
  | 2 => some .BEAT_CTL
  | 3 => some .BEAT_PERIOD
  | 4 => some .BEAT_STS
  | 5 => some .BEAT_NUM
  | 6 => some .BEAT_NUM_LOAD
  | 7 => some .BEAT_EDGE_ERR
  | 8 => some .BEAT_FMIN_SCHED
  | 9 => some (.SEC_FRAME 0)
  | 10 => some (.SEC_BUDGET 0)
  | 11 => some (.SEC_ENTRY 0)
  | 12 => some (.SEC_STALL_LIMIT 0)
  | 13 => some (.SEC_OVERRUN 0)
  | 14 => some (.SEC_STALL 0)
  | 15 => some (.SEC_SLACK 0)
  | 16 => some .QM_THR
  | 17 => some .QM_EVT
  | 18 => some .QM_STS
  | 19 => some .QM_DROPS
  | 20 => some (.QM_PUSH_D 0)
  | 21 => some .QM_PUSH
  | 22 => some .QM_OCC
  | 23 => some .QM_HOFF
  | 24 => some .QM_HOFF_BEAT
  | 25 => some .GLV_CTL
  | 26 => some .GLV_STS
  | 27 => some .GLV_EVT
  | 28 => some .GLV_TRIPS
  | 29 => some .GLV_TSEL
  | 30 => some (.GLV_TW 0)
  | 31 => some .GLV_LAST
  | 32 => some .GLV_STATE
  | 33 => some .GLV_CMD
  | 34 => some (.SEC_MODE 0)
  | 35 => some (.SEC_CFG 0)
  | 36 => some (.SEC_DBELL 0)
  | 37 => some (.SEC_DCINV 0)
  | 38 => some (.SEC_ECC 0)
  | 39 => some (.SEC_ECC_ADDR 0)
  | 40 => some (.PRGN_BASE 0 0)
  | 41 => some (.PRGN_ATTR 0 0)
  | 42 => some (.SEC_SEM 0 0 0)
  | 43 => some (.SEC_DMA_POST 0 0 0)
  | 44 => some (.SEC_DMA_STS 0 0 0)
  | 45 => some (.SEC_USABLE 0)
  | 46 => some (.SEC_PLACE 0)
  | 47 => some (.SEC_POST 0)
  | 48 => some (.SEC_XQ 0)
  | 49 => some (.SEC_XQ_MAX 0)
  | 50 => some (.LN_FRM 0)
  | 51 => some (.LN_RPL 0)
  | 52 => some (.LN_PSTS 0)
  | 53 => some (.LN_CTL 0)
  | 54 => some (.LN_STS 0)
  | 55 => some (.LN_FAULT 0)
  | 56 => some (.LN_TXEQ 0)
  | 57 => some (.LN_EQ_STS 0)
  | 58 => some (.LN_EYE 0)
  | 59 => some (.LN_EYE_THR 0)
  | 60 => some (.LN_TEST 0)
  | 61 => some (.LN_PRBS_ERR 0)
  | 62 => some (.LN_ALIGN 0)
  | 63 => some (.LN_HUBID 0 0)
  | 64 => some (.LN_SCALE 0 0)
  | 65 => some (.LN_MSG_TX 0)
  | 66 => some (.LN_MSG_TXC 0)
  | 67 => some (.LN_MSG_RX 0)
  | 68 => some (.LN_MSG_RXS 0)
  | 69 => some .EXP_CTL
  | 70 => some .EXP_MAP
  | 71 => some .EXP_SRCID
  | 72 => some (.EXPK_CFG 0)
  | 73 => some (.EXPK_STS 0)
  | 74 => some (.EXPK_TXFR 0)
  | 75 => some (.EXPK_TXREC 0)
  | 76 => some (.EXPK_DROP 0)
  | 77 => some (.EXPK_RX 0)
  | 78 => some (.EXP_TPL 0 0)
  | 79 => some (.CKU_CTL 0)
  | 80 => some (.CKU_ADDR 0)
  | 81 => some (.CKU_LEN 0)
  | 82 => some (.CKU_EXP 0)
  | 83 => some (.CKU_RES 0)
  | 84 => some (.CKU_STS 0)
  | 85 => some .MARCH_CTL
  | 86 => some .MARCH_STS
  | 87 => some .MARCH_FAIL
  | 88 => some .HOST_STATE
  | 89 => some .HOST_STATE_ERR
  | 90 => some .HOST_I3C
  | 91 => some .HOST_MBX_STS
  | 92 => some .HOST_MBX_DATA
  | 93 => some .HOST_MBX_REPLY
  | 94 => some .HOST_MBX_RCTL
  | 95 => some .HELM_STS
  | 96 => some .HELM_VSTS
  | 97 => some .HELM_ARB
  | 98 => some .HELM_OTPCTL
  | 99 => some .HELM_OTPDATA
  | 100 => some (.HELM_OTP 0)
  | 101 => some .DBG_CTL
  | 102 => some .DBG_LEVEL
  | 103 => some (.DBG_GONG 0)
  | 104 => some (.DBG_ECTL 0)
  | 105 => some (.DBG_ESTS 0)
  | 106 => some (.DBG_BCTL 0 0)
  | 107 => some (.DBG_WCTL 0 0)
  | 108 => some .HLTH_CTL
  | 109 => some .HLTH_STS
  | 110 => some .HLTH_EVT
  | 111 => some .HLTH_AVS
  | 112 => some .HLTH_MARGIN
  | 113 => some .HLTH_AGE
  | 114 => some .HLTH_HOURS
  | 115 => some .HLTH_LIFE
  | 116 => some .HLTH_CLK
  | 117 => some .HLTH_THERM
  | 118 => some .HLTH_SWDT
  | 119 => some .HLTH_ECC
  | 120 => some .HLTH_ECC_ADDR
  | 121 => some (.SEC_STATE 0)
  | 122 => some (.SEC_FENCE 0)
  | 123 => some (.SEC_PWR 0)
  | _ => none

/-- What an unlisted register reads as: its reset word. Region 0 of HELM_SPRGN alone has a reset word that its name does not
decide. -/
def Reg.dflt (k : Nat) : Word :=
  if k = Reg.key (.PRGN_BASE 6 0) then Reg.reset (.PRGN_BASE 6 0)
  else if k = Reg.key (.PRGN_ATTR 6 0) then Reg.reset (.PRGN_ATTR 6 0)
  else match Reg.rep (k % 256) with | some r => r.reset | none => 0

/-- Keys of the registers that are reset with the always-on domain only (Table 1.7, DBG). -/
def Reg.alwaysOn (k : Nat) : Bool :=
  match Reg.rep (k % 256) with | some r => decide (0x0C0400000 ≤ r.addr ∧ r.addr < 0x0C0410000) | none => false

/-! The named fields, by the manual's names (bits hi, lo). -/
def F.HOST_DEVID_PART : Nat × Nat := (35, 20)
def F.HOST_DEVID_FAMILY : Nat × Nat := (19, 12)
def F.HOST_DEVID_MAJOR : Nat × Nat := (11, 8)
def F.HOST_DEVID_MINOR : Nat × Nat := (7, 4)
def F.HOST_CAPS_SECTIONS : Nat × Nat := (35, 32)
def F.HOST_CAPS_CLUSTERS : Nat × Nat := (31, 28)
def F.HOST_CAPS_ENGINES : Nat × Nat := (27, 24)
def F.HOST_CAPS_CH_LANES : Nat × Nat := (23, 19)
def F.HOST_CAPS_SVC_LANES : Nat × Nat := (18, 16)
def F.HOST_CAPS_CH_LOG2 : Nat × Nat := (15, 11)
def F.HOST_CAPS_Q_LOG2 : Nat × Nat := (10, 6)
def F.BEAT_CTL_POL : Nat × Nat := (12, 12)
def F.BEAT_CTL_WINDOW : Nat × Nat := (11, 8)
def F.BEAT_CTL_LOCKED : Nat × Nat := (4, 4)
def F.BEAT_CTL_RELOCK : Nat × Nat := (3, 3)
def F.BEAT_CTL_LOAD_ARM : Nat × Nat := (2, 2)
def F.BEAT_CTL_OUT_EN : Nat × Nat := (1, 1)
def F.BEAT_CTL_SRC : Nat × Nat := (0, 0)
def F.BEAT_PERIOD_PERIOD : Nat × Nat := (13, 0)
def F.BEAT_STS_SHORT : Nat × Nat := (3, 3)
def F.BEAT_STS_EDGE_ERR : Nat × Nat := (2, 2)
def F.BEAT_STS_LOST : Nat × Nat := (1, 1)
def F.BEAT_STS_HOLDOVER : Nat × Nat := (0, 0)
def F.BEAT_NUM_NUM : Nat × Nat := (35, 0)
def F.BEAT_NUM_LOAD_VALUE : Nat × Nat := (35, 0)
def F.BEAT_EDGE_ERR_COUNT : Nat × Nat := (15, 0)
def F.BEAT_FMIN_SCHED_CCLK_MHZ : Nat × Nat := (22, 12)
def F.BEAT_FMIN_SCHED_FMIN_MHZ : Nat × Nat := (10, 0)
def F.SEC_FRAME_OVR_LIMIT : Nat × Nat := (7, 4)
def F.SEC_FRAME_STYLE : Nat × Nat := (0, 0)
def F.SEC_BUDGET_MHZ : Nat × Nat := (28, 18)
def F.SEC_BUDGET_CYC : Nat × Nat := (17, 0)
def F.SEC_ENTRY_RING : Nat × Nat := (20, 19)
def F.SEC_ENTRY_IMASK : Nat × Nat := (18, 16)
def F.SEC_ENTRY_PARCEL : Nat × Nat := (13, 0)
def F.SEC_STALL_LIMIT_LIMIT : Nat × Nat := (9, 0)
def F.SEC_OVERRUN_CONSEC : Nat × Nat := (35, 32)
def F.SEC_OVERRUN_COUNT : Nat × Nat := (31, 0)
def F.SEC_STALL_EXPIRED : Nat × Nat := (22, 19)
def F.SEC_STALL_SCHED : Nat × Nat := (18, 18)
def F.SEC_STALL_CYC : Nat × Nat := (17, 0)
def F.SEC_SLACK_VALID : Nat × Nat := (35, 35)
def F.SEC_SLACK_END_CYC : Nat × Nat := (17, 0)
def F.QM_THR_REC_HIGH : Nat × Nat := (12, 8)
def F.QM_THR_STEP_LOW : Nat × Nat := (2, 0)
def F.QM_EVT_VALID : Nat × Nat := (35, 35)
def F.QM_EVT_OCC : Nat × Nat := (20, 16)
def F.QM_EVT_Q : Nat × Nat := (15, 0)
def F.QM_STS_EVT_OVF : Nat × Nat := (9, 9)
def F.QM_STS_EVT_CNT : Nat × Nat := (8, 0)
def F.QM_DROPS_COUNT : Nat × Nat := (35, 0)
def F.QM_PUSH_D_DATA : Nat × Nat := (35, 0)
def F.QM_PUSH_STS : Nat × Nat := (35, 34)
def F.QM_PUSH_Q : Nat × Nat := (15, 0)
def F.QM_OCC_DROPS : Nat × Nat := (28, 21)
def F.QM_OCC_OCC : Nat × Nat := (20, 16)
def F.QM_OCC_Q : Nat × Nat := (15, 0)
def F.QM_HOFF_ARM : Nat × Nat := (35, 35)
def F.QM_HOFF_STS : Nat × Nat := (34, 33)
def F.QM_HOFF_OWNER : Nat × Nat := (32, 25)
def F.QM_HOFF_COUNT : Nat × Nat := (24, 16)
def F.QM_HOFF_FIRST : Nat × Nat := (14, 0)
def F.QM_HOFF_BEAT_BEAT : Nat × Nat := (35, 0)
def F.GLV_CTL_SAFE : Nat × Nat := (2, 2)
def F.GLV_CTL_EVT_IE : Nat × Nat := (1, 1)
def F.GLV_CTL_LOCK : Nat × Nat := (0, 0)
def F.GLV_STS_EVT_CNT : Nat × Nat := (17, 9)
def F.GLV_STS_TIGHT_REJ : Nat × Nat := (4, 4)
def F.GLV_STS_REL_REJ : Nat × Nat := (3, 3)
def F.GLV_STS_CMP_ERR : Nat × Nat := (2, 2)
def F.GLV_STS_SAFE_SEEN : Nat × Nat := (1, 1)
def F.GLV_STS_EVT_OVF : Nat × Nat := (0, 0)
def F.GLV_EVT_VALID : Nat × Nat := (35, 35)
def F.GLV_EVT_CAUSE : Nat × Nat := (34, 30)
def F.GLV_EVT_BEAT : Nat × Nat := (29, 15)
def F.GLV_EVT_CH : Nat × Nat := (14, 0)
def F.GLV_TRIPS_COUNT : Nat × Nat := (35, 0)
def F.GLV_TSEL_LVALID : Nat × Nat := (35, 35)
def F.GLV_TSEL_LMODE : Nat × Nat := (34, 31)
def F.GLV_TSEL_CH : Nat × Nat := (14, 0)
def F.GLV_TW_Wk : Nat × Nat := (35, 0)
def F.GLV_LAST_SETP : Nat × Nat := (35, 0)
def F.GLV_STATE_W7 : Nat × Nat := (35, 0)
def F.GLV_CMD_OP : Nat × Nat := (35, 34)
def F.GLV_CMD_STS : Nat × Nat := (33, 32)
def F.GLV_CMD_COUNT : Nat × Nat := (23, 15)
def F.GLV_CMD_FIRST : Nat × Nat := (14, 0)
def F.SEC_MODE_PERF : Nat × Nat := (31, 0)
def F.SEC_CFG_ATOMIC : Nat × Nat := (0, 0)
def F.SEC_DBELL_SVE : Nat × Nat := (32, 32)
def F.SEC_DBELL_ENG : Nat × Nat := (31, 0)
def F.SEC_DCINV_SVE : Nat × Nat := (32, 32)
def F.SEC_DCINV_ENG : Nat × Nat := (31, 0)
def F.SEC_ECC_CORR : Nat × Nat := (35, 24)
def F.SEC_ECC_UNC : Nat × Nat := (23, 12)
def F.SEC_ECC_WDROP : Nat × Nat := (0, 0)
def F.SEC_ECC_ADDR_ADDR : Nat × Nat := (35, 0)
def F.PRGN_BASE_BASE : Nat × Nat := (35, 6)
def F.PRGN_ATTR_EN : Nat × Nat := (35, 35)
def F.PRGN_ATTR_SIZE : Nat × Nat := (34, 29)
def F.PRGN_ATTR_X : Nat × Nat := (28, 28)
def F.PRGN_ATTR_C : Nat × Nat := (27, 27)
def F.PRGN_ATTR_RD : Nat × Nat := (26, 25)
def F.PRGN_ATTR_WR : Nat × Nat := (24, 23)
def F.SEC_SEM_ACQ : Nat × Nat := (35, 35)
def F.SEC_SEM_REL : Nat × Nat := (34, 34)
def F.SEC_SEM_STATE : Nat × Nat := (11, 10)
def F.SEC_SEM_ORPH : Nat × Nat := (9, 9)
def F.SEC_SEM_OWNER : Nat × Nat := (7, 0)
def F.SEC_DMA_POST_ADDR : Nat × Nat := (15, 0)
def F.SEC_DMA_STS_IRQ : Nat × Nat := (35, 35)
def F.SEC_DMA_STS_LOST : Nat × Nat := (34, 34)
def F.SEC_DMA_STS_BUSY : Nat × Nat := (33, 33)
def F.SEC_DMA_STS_FREE : Nat × Nat := (32, 30)
def F.SEC_USABLE_USABLE : Nat × Nat := (31, 0)
def F.SEC_PLACE_VALID : Nat × Nat := (35, 35)
def F.SEC_PLACE_VARIANT : Nat × Nat := (34, 32)
def F.SEC_PLACE_SYM : Nat × Nat := (31, 30)
def F.SEC_PLACE_N : Nat × Nat := (29, 24)
def F.SEC_POST_COLL : Nat × Nat := (35, 18)
def F.SEC_POST_LINK : Nat × Nat := (17, 0)
def F.SEC_XQ_LATE : Nat × Nat := (35, 35)
def F.SEC_XQ_MAXLAT : Nat × Nat := (17, 0)
def F.SEC_XQ_MAX_CYC : Nat × Nat := (15, 0)
def F.LN_FRM_K : Nat × Nat := (35, 25)
def F.LN_FRM_FMV : Nat × Nat := (24, 17)
def F.LN_FRM_UP_RCW : Nat × Nat := (16, 10)
def F.LN_FRM_DN_RCW : Nat × Nat := (9, 5)
def F.LN_RPL_UP_NAK : Nat × Nat := (35, 27)
def F.LN_RPL_DN_NAK : Nat × Nat := (26, 18)
def F.LN_RPL_UP_LOST : Nat × Nat := (17, 9)
def F.LN_RPL_DN_LOST : Nat × Nat := (8, 0)
def F.LN_PSTS_MSG_FAIL : Nat × Nat := (4, 4)
def F.LN_PSTS_MSG_DROP : Nat × Nat := (3, 3)
def F.LN_PSTS_NAK_BAD : Nat × Nat := (2, 2)
def F.LN_PSTS_HUB_SAFE : Nat × Nat := (1, 1)
def F.LN_PSTS_SAFE_SEEN : Nat × Nat := (0, 0)
def F.LN_CTL_RETRY : Nat × Nat := (8, 6)
def F.LN_CTL_ADAPT_FREEZE : Nat × Nat := (5, 5)
def F.LN_CTL_PRECODE_EN : Nat × Nat := (4, 4)
def F.LN_CTL_CMD : Nat × Nat := (3, 2)
def F.LN_CTL_EN : Nat × Nat := (0, 0)
def F.LN_STS_EVT : Nat × Nat := (35, 35)
def F.LN_STS_INSVC : Nat × Nat := (34, 34)
def F.LN_STS_EYE_LOW : Nat × Nat := (33, 33)
def F.LN_STS_CAUSE : Nat × Nat := (27, 23)
def F.LN_STS_STATE : Nat × Nat := (22, 19)
def F.LN_STS_LAST : Nat × Nat := (14, 0)
def F.LN_FAULT_NOTERM : Nat × Nat := (10, 10)
def F.LN_FAULT_LOS : Nat × Nat := (9, 9)
def F.LN_FAULT_PAIR : Nat × Nat := (8, 8)
def F.LN_FAULT_SUP : Nat × Nat := (7, 4)
def F.LN_FAULT_GND : Nat × Nat := (3, 0)
def F.LN_TXEQ_INVERT : Nat × Nat := (20, 20)
def F.LN_TXEQ_PRECODE : Nat × Nat := (19, 19)
def F.LN_TXEQ_M1 : Nat × Nat := (18, 13)
def F.LN_TXEQ_MAIN : Nat × Nat := (12, 6)
def F.LN_TXEQ_P1 : Nat × Nat := (5, 0)
def F.LN_EQ_STS_RXINV : Nat × Nat := (35, 35)
def F.LN_EQ_STS_PRECODE_RX : Nat × Nat := (34, 34)
def F.LN_EQ_STS_CTLE : Nat × Nat := (33, 30)
def F.LN_EQ_STS_DFE : Nat × Nat := (29, 24)
def F.LN_EQ_STS_SNR : Nat × Nat := (15, 8)
def F.LN_EYE_VALID : Nat × Nat := (35, 35)
def F.LN_EYE_EYE : Nat × Nat := (34, 33)
def F.LN_EYE_HEIGHT : Nat × Nat := (23, 15)
def F.LN_EYE_WIDTH : Nat × Nat := (14, 5)
def F.LN_EYE_THR_HEIGHT : Nat × Nat := (23, 15)
def F.LN_EYE_THR_WIDTH : Nat × Nat := (14, 5)
def F.LN_TEST_LOOP : Nat × Nat := (5, 4)
def F.LN_TEST_PAT : Nat × Nat := (3, 3)
def F.LN_TEST_CHK : Nat × Nat := (2, 2)
def F.LN_TEST_GEN : Nat × Nat := (1, 1)
def F.LN_PRBS_ERR_LOCK : Nat × Nat := (35, 35)
def F.LN_PRBS_ERR_COUNT : Nat × Nat := (31, 0)
def F.LN_ALIGN_VALID : Nat × Nat := (35, 35)
def F.LN_ALIGN_BADIDX : Nat × Nat := (28, 18)
def F.LN_ALIGN_OFFSET : Nat × Nat := (17, 0)
def F.LN_HUBID_ID : Nat × Nat := (35, 0)
def F.LN_SCALE_LSB : Nat × Nat := (35, 0)
def F.LN_MSG_TX_DATA : Nat × Nat := (35, 0)
def F.LN_MSG_TXC_LEN : Nat × Nat := (26, 18)
def F.LN_MSG_TXC_SEND : Nat × Nat := (17, 17)
def F.LN_MSG_TXC_STS : Nat × Nat := (16, 15)
def F.LN_MSG_RX_DATA : Nat × Nat := (35, 0)
def F.LN_MSG_RXS_OVF : Nat × Nat := (10, 10)
def F.LN_MSG_RXS_CNT : Nat × Nat := (9, 0)
def F.EXP_CTL_CAP_EN : Nat × Nat := (1, 1)
def F.EXP_CTL_EN : Nat × Nat := (0, 0)
def F.EXP_MAP_MAP : Nat × Nat := (31, 0)
def F.EXP_SRCID_SRCID : Nat × Nat := (35, 0)
def F.EXPK_CFG_EN : Nat × Nat := (35, 35)
def F.EXPK_CFG_IPV6 : Nat × Nat := (34, 34)
def F.EXPK_CFG_VLAN : Nat × Nat := (33, 33)
def F.EXPK_CFG_LT_EN : Nat × Nat := (32, 32)
def F.EXPK_CFG_MAXFR : Nat × Nat := (27, 14)
def F.EXPK_CFG_HOLDOFF : Nat × Nat := (7, 0)
def F.EXPK_STS_LINK : Nat × Nat := (35, 35)
def F.EXPK_STS_PAUSED : Nat × Nat := (34, 34)
def F.EXPK_STS_LINK_CHG : Nat × Nat := (33, 33)
def F.EXPK_STS_CAP_OVF : Nat × Nat := (32, 32)
def F.EXPK_STS_ABORT : Nat × Nat := (31, 31)
def F.EXPK_STS_CAP_OCC : Nat × Nat := (6, 0)
def F.EXPK_TXFR_FRAMES : Nat × Nat := (35, 0)
def F.EXPK_TXREC_RECORDS : Nat × Nat := (35, 0)
def F.EXPK_DROP_CAP : Nat × Nat := (35, 18)
def F.EXPK_DROP_ABORT : Nat × Nat := (17, 0)
def F.EXPK_RX_PAUSE : Nat × Nat := (35, 18)
def F.EXPK_RX_DISC : Nat × Nat := (17, 0)
def F.EXP_TPL_DATA : Nat × Nat := (31, 0)
def F.CKU_CTL_START : Nat × Nat := (35, 35)
def F.CKU_CTL_ABORT : Nat × Nat := (34, 34)
def F.CKU_CTL_ALG : Nat × Nat := (33, 32)
def F.CKU_CTL_OCT : Nat × Nat := (31, 31)
def F.CKU_CTL_PER : Nat × Nat := (30, 30)
def F.CKU_CTL_IE : Nat × Nat := (29, 29)
def F.CKU_CTL_REC : Nat × Nat := (28, 28)
def F.CKU_CTL_TAIL : Nat × Nat := (27, 26)
def F.CKU_CTL_NOTIFY : Nat × Nat := (25, 23)
def F.CKU_CTL_NBEATS : Nat × Nat := (15, 0)
def F.CKU_ADDR_ADDR : Nat × Nat := (35, 0)
def F.CKU_LEN_LEN : Nat × Nat := (22, 0)
def F.CKU_EXP_EXP : Nat × Nat := (35, 0)
def F.CKU_RES_RES : Nat × Nat := (35, 0)
def F.CKU_STS_BUSY : Nat × Nat := (35, 35)
def F.CKU_STS_DONE : Nat × Nat := (34, 34)
def F.CKU_STS_MIS : Nat × Nat := (33, 33)
def F.CKU_STS_FMT : Nat × Nat := (32, 32)
def F.CKU_STS_SKIP : Nat × Nat := (31, 31)
def F.CKU_STS_ERR : Nat × Nat := (30, 28)
def F.CKU_STS_CNT : Nat × Nat := (22, 0)
def F.MARCH_CTL_START : Nat × Nat := (35, 35)
def F.MARCH_CTL_ABORT : Nat × Nat := (34, 34)
def F.MARCH_CTL_ALG : Nat × Nat := (33, 32)
def F.MARCH_CTL_REPAIR : Nat × Nat := (31, 31)
def F.MARCH_CTL_KIND : Nat × Nat := (26, 24)
def F.MARCH_CTL_INST : Nat × Nat := (23, 16)
def F.MARCH_CTL_RET_MS : Nat × Nat := (15, 0)
def F.MARCH_STS_BUSY : Nat × Nat := (35, 35)
def F.MARCH_STS_DONE : Nat × Nat := (34, 34)
def F.MARCH_STS_REFUSE : Nat × Nat := (33, 32)
def F.MARCH_STS_NOSPARE : Nat × Nat := (31, 31)
def F.MARCH_STS_UNC : Nat × Nat := (30, 30)
def F.MARCH_STS_ABORTED : Nat × Nat := (29, 29)
def F.MARCH_STS_REPAIRED : Nat × Nat := (26, 18)
def F.MARCH_STS_FAILS : Nat × Nat := (17, 0)
def F.MARCH_FAIL_ADDR : Nat × Nat := (35, 0)
def F.HOST_STATE_PREV : Nat × Nat := (26, 18)
def F.HOST_STATE_SUP : Nat × Nat := (17, 17)
def F.HOST_STATE_STARTED : Nat × Nat := (16, 16)
def F.HOST_STATE_STATE : Nat × Nat := (8, 0)
def F.HOST_STATE_ERR_COUNT : Nat × Nat := (35, 0)
def F.HOST_I3C_DA_VALID : Nat × Nat := (15, 15)
def F.HOST_I3C_DA : Nat × Nat := (14, 8)
def F.HOST_I3C_IBI_EN : Nat × Nat := (7, 7)
def F.HOST_I3C_ADDR_SEL : Nat × Nat := (1, 0)
def F.HOST_MBX_STS_CMD : Nat × Nat := (35, 35)
def F.HOST_MBX_STS_LATE : Nat × Nat := (33, 33)
def F.HOST_MBX_STS_ERR : Nat × Nat := (32, 32)
def F.HOST_MBX_STS_TAG : Nat × Nat := (23, 15)
def F.HOST_MBX_STS_CNT : Nat × Nat := (9, 0)
def F.HOST_MBX_DATA_DATA : Nat × Nat := (35, 0)
def F.HOST_MBX_REPLY_DATA : Nat × Nat := (35, 0)
def F.HOST_MBX_RCTL_SEND : Nat × Nat := (35, 35)
def F.HOST_MBX_RCTL_STATUS : Nat × Nat := (34, 26)
def F.HOST_MBX_RCTL_LEN : Nat × Nat := (25, 17)
def F.HOST_MBX_RCTL_READY : Nat × Nat := (16, 16)
def F.HOST_MBX_RCTL_TMO : Nat × Nat := (7, 0)
def F.HELM_STS_LC : Nat × Nat := (35, 33)
def F.HELM_STS_VBUSY : Nat × Nat := (32, 32)
def F.HELM_STS_PBUSY : Nat × Nat := (31, 31)
def F.HELM_STS_MARCH_DIS : Nat × Nat := (30, 30)
def F.HELM_STS_SLOT_VALID : Nat × Nat := (29, 26)
def F.HELM_STS_SLOT_REV : Nat × Nat := (25, 22)
def F.HELM_STS_PWD_SET : Nat × Nat := (21, 21)
def F.HELM_STS_SECRET_SET : Nat × Nat := (20, 20)
def F.HELM_VSTS_STATUS : Nat × Nat := (35, 27)
def F.HELM_VSTS_TYPE : Nat × Nat := (26, 19)
def F.HELM_VSTS_FORM : Nat × Nat := (18, 18)
def F.HELM_VSTS_KEY : Nat × Nat := (17, 17)
def F.HELM_VSTS_PARAM : Nat × Nat := (16, 16)
def F.HELM_VSTS_SIG_EC : Nat × Nat := (15, 15)
def F.HELM_VSTS_SIG_LMS : Nat × Nat := (14, 14)
def F.HELM_VSTS_ARB : Nat × Nat := (13, 13)
def F.HELM_VSTS_SVN : Nat × Nat := (12, 6)
def F.HELM_ARB_CH_MAP : Nat × Nat := (27, 21)
def F.HELM_ARB_SCHED : Nat × Nat := (20, 14)
def F.HELM_ARB_LIMITS : Nat × Nat := (13, 7)
def F.HELM_ARB_SUPER : Nat × Nat := (6, 0)
def F.HELM_OTPCTL_GO : Nat × Nat := (35, 35)
def F.HELM_OTPCTL_OP : Nat × Nat := (34, 33)
def F.HELM_OTPCTL_STS : Nat × Nat := (32, 31)
def F.HELM_OTPCTL_ADDR : Nat × Nat := (9, 0)
def F.HELM_OTPDATA_DATA : Nat × Nat := (35, 0)
def F.HELM_OTP_WORD : Nat × Nat := (35, 0)
def F.DBG_CTL_WDT_DBG_FREEZE : Nat × Nat := (0, 0)
def F.DBG_LEVEL_NONCE : Nat × Nat := (5, 5)
def F.DBG_LEVEL_PWFAIL : Nat × Nat := (4, 2)
def F.DBG_LEVEL_LEVEL : Nat × Nat := (1, 0)
def F.DBG_GONG_FIRE : Nat × Nat := (35, 35)
def F.DBG_GONG_FIRED : Nat × Nat := (34, 34)
def F.DBG_GONG_SRC_TRIP : Nat × Nat := (33, 33)
def F.DBG_GONG_SRC_LOCKED : Nat × Nat := (32, 32)
def F.DBG_GONG_SRC_SAFE : Nat × Nat := (31, 31)
def F.DBG_GONG_SRC_OVR : Nat × Nat := (30, 30)
def F.DBG_GONG_COUNT : Nat × Nat := (15, 0)
def F.DBG_ECTL_HALT : Nat × Nat := (35, 35)
def F.DBG_ECTL_RESUME : Nat × Nat := (34, 34)
def F.DBG_ECTL_HOR : Nat × Nat := (33, 33)
def F.DBG_ECTL_LISTEN : Nat × Nat := (31, 24)
def F.DBG_ECTL_CTXQ : Nat × Nat := (15, 0)
def F.DBG_ESTS_HALTED : Nat × Nat := (35, 35)
def F.DBG_ESTS_PENDING : Nat × Nat := (34, 34)
def F.DBG_ESTS_LOCKED : Nat × Nat := (33, 33)
def F.DBG_ESTS_GATED : Nat × Nat := (32, 32)
def F.DBG_ESTS_CAUSE : Nat × Nat := (31, 29)
def F.DBG_ESTS_COMP : Nat × Nat := (28, 26)
def F.DBG_ESTS_HITS : Nat × Nat := (7, 0)
def F.DBG_BCTL_EN : Nat × Nat := (35, 35)
def F.DBG_BCTL_ACT : Nat × Nat := (34, 33)
def F.DBG_BCTL_FIRE : Nat × Nat := (32, 32)
def F.DBG_BCTL_GRP : Nat × Nat := (31, 29)
def F.DBG_BCTL_RANGE : Nat × Nat := (28, 28)
def F.DBG_BCTL_CTX : Nat × Nat := (27, 27)
def F.DBG_BCTL_SEQ : Nat × Nat := (26, 26)
def F.DBG_BCTL_LNK : Nat × Nat := (25, 23)
def F.DBG_WCTL_EN : Nat × Nat := (35, 35)
def F.DBG_WCTL_ACT : Nat × Nat := (34, 33)
def F.DBG_WCTL_FIRE : Nat × Nat := (32, 32)
def F.DBG_WCTL_GRP : Nat × Nat := (31, 29)
def F.DBG_WCTL_RANGE : Nat × Nat := (28, 28)
def F.DBG_WCTL_CTX : Nat × Nat := (27, 27)
def F.DBG_WCTL_SEQ : Nat × Nat := (26, 26)
def F.DBG_WCTL_LNK : Nat × Nat := (25, 23)
def F.DBG_WCTL_RW : Nat × Nat := (21, 20)
def F.HLTH_CTL_AVS_EN : Nat × Nat := (35, 35)
def F.HLTH_CTL_THR_EN : Nat × Nat := (34, 34)
def F.HLTH_CTL_AGE_EN : Nat × Nat := (33, 33)
def F.HLTH_CTL_MWIN : Nat × Nat := (32, 32)
def F.HLTH_CTL_GB_MIN : Nat × Nat := (23, 16)
def F.HLTH_CTL_HORIZON : Nat × Nat := (15, 0)
def F.HLTH_STS_CRITICAL : Nat × Nat := (35, 35)
def F.HLTH_STS_THROTTLE : Nat × Nat := (34, 34)
def F.HLTH_STS_PEND_DOWN : Nat × Nat := (33, 33)
def F.HLTH_STS_AVS_FAIL : Nat × Nat := (32, 32)
def F.HLTH_STS_SWDT_BITE : Nat × Nat := (31, 31)
def F.HLTH_STS_ECC_UNC : Nat × Nat := (30, 30)
def F.HLTH_STS_EVT_CNT : Nat × Nat := (8, 0)
def F.HLTH_EVT_VALID : Nat × Nat := (35, 35)
def F.HLTH_EVT_CODE : Nat × Nat := (34, 29)
def F.HLTH_EVT_VALUE : Nat × Nat := (19, 0)
def F.HLTH_AVS_READBACK : Nat × Nat := (31, 22)
def F.HLTH_AVS_TARGET : Nat × Nat := (21, 12)
def F.HLTH_AVS_ERR : Nat × Nat := (9, 0)
def F.HLTH_MARGIN_FLOOR : Nat × Nat := (35, 26)
def F.HLTH_MARGIN_VREQ : Nat × Nat := (25, 15)
def F.HLTH_MARGIN_WORST : Nat × Nat := (14, 10)
def F.HLTH_MARGIN_MPATH : Nat × Nat := (9, 0)
def F.HLTH_AGE_GUARD : Nat × Nat := (35, 28)
def F.HLTH_AGE_SHIFT : Nat × Nat := (27, 18)
def F.HLTH_AGE_SLOPE : Nat × Nat := (17, 0)
def F.HLTH_HOURS_HOURS : Nat × Nat := (35, 0)
def F.HLTH_LIFE_HOURS : Nat × Nat := (35, 0)
def F.HLTH_CLK_CEIL : Nat × Nat := (21, 11)
def F.HLTH_CLK_NOM : Nat × Nat := (10, 0)
def F.HLTH_THERM_TMAX : Nat × Nat := (35, 27)
def F.HLTH_THERM_SENSOR : Nat × Nat := (26, 23)
def F.HLTH_THERM_THR_HOT : Nat × Nat := (22, 14)
def F.HLTH_THERM_THR_CLR : Nat × Nat := (13, 5)
def F.HLTH_SWDT_EN : Nat × Nat := (35, 35)
def F.HLTH_SWDT_KICK : Nat × Nat := (34, 34)
def F.HLTH_SWDT_COUNT : Nat × Nat := (31, 16)
def F.HLTH_SWDT_TIMEOUT : Nat × Nat := (15, 0)
def F.HLTH_ECC_QM_UNC : Nat × Nat := (35, 24)
def F.HLTH_ECC_SV_UNC : Nat × Nat := (23, 12)
def F.HLTH_ECC_ADDR_ADDR : Nat × Nat := (35, 0)
def F.SEC_STATE_OVR : Nat × Nat := (35, 35)
def F.SEC_STATE_OSTOP : Nat × Nat := (34, 34)
def F.SEC_STATE_ENGF : Nat × Nat := (33, 33)
def F.SEC_STATE_STATE : Nat × Nat := (2, 0)
def F.SEC_FENCE_GO : Nat × Nat := (35, 35)
def F.SEC_FENCE_STS : Nat × Nat := (34, 33)
def F.SEC_FENCE_ENGINE : Nat × Nat := (4, 0)
def F.SEC_PWR_GATE : Nat × Nat := (35, 35)
def F.SEC_PWR_GATED : Nat × Nat := (34, 34)
def F.SEC_PWR_BUSY : Nat × Nat := (33, 33)

end Sys2Proof.Machine
end

