-- ==== Sys2Proof/Machine/CsrTable.lean ====
section
/-! DEFINITION. The CSRs of an engine (Table 9.1): which numbers exist, the rings that may read and write them (R245), the
access types of their fields (R8, R211) and their reset words, for a schedule engine and for the SVE (engine 192). -/

namespace Sys2Proof.Machine

/-- Whether Table 9.1 lists CSR number n (R211, R245). -/
def csrListed (n : Nat) : Bool :=
  decide (n = 0 ∨ n = 1 ∨ (0x008 ≤ n ∧ n ≤ 0x00B) ∨ (0x010 ≤ n ∧ n ≤ 0x012) ∨ (0x020 ≤ n ∧ n ≤ 0x025) ∨
    (0x030 ≤ n ∧ n ≤ 0x038) ∨ (0x03C ≤ n ∧ n ≤ 0x03F) ∨ (0x040 ≤ n ∧ n ≤ 0x047) ∨ n = 0x050 ∨ n = 0x051 ∨
    n = 0x060 ∨ n = 0x061 ∨ (0x068 ≤ n ∧ n ≤ 0x06B) ∨ (0x100 ≤ n ∧ n ≤ 0x103) ∨ (0x108 ≤ n ∧ n ≤ 0x10B) ∨
    n = 0x120 ∨ n = 0x130 ∨ n = 0x131 ∨ (0x140 ≤ n ∧ n ≤ 0x147))

/-- The least privileged ring that may read CSR n, Table 9.1. -/
def csrReadRing (n : Nat) : Nat :=
  if n = 0x012 ∨ (0x020 ≤ n ∧ n ≤ 0x025) ∨ (0x030 ≤ n ∧ n ≤ 0x037) ∨ n = 0x060 then 1
  else if n = 0x038 ∨ (0x03C ≤ n ∧ n ≤ 0x047) ∨ (0x100 ≤ n ∧ n ≤ 0x10B) then 0
  else if n = 0x061 ∨ n = 0x130 ∨ n = 0x131 then 2
  else 3

/-- The least privileged ring that may write CSR n, Table 9.1; `none` for a write marked "—", ignored in every ring. -/
def csrWriteRing (n : Nat) : Option Nat :=
  if (0x008 ≤ n ∧ n ≤ 0x00B) ∨ n = 0x010 ∨ (0x040 ≤ n ∧ n ≤ 0x047) then none
  else if n = 0x001 ∨ n = 0x011 ∨ n = 0x012 ∨ (0x020 ≤ n ∧ n ≤ 0x023) ∨ (0x068 ≤ n ∧ n ≤ 0x06B) then some 1
  else if n = 0x050 ∨ n = 0x051 then some 3
  else if n = 0x061 ∨ n = 0x130 ∨ n = 0x131 then some 2
  else some 0

/-- The fields of CSR n. -/
def csrFields (n : Nat) : List Field :=
  if n = 0x000 then [⟨11, 11, .rw⟩, ⟨10, 10, .rw⟩, ⟨8, 8, .ro⟩, ⟨2, 2, .rw⟩, ⟨1, 1, .rw⟩, ⟨0, 0, .rw⟩]
  else if n = 0x001 then [⟨19, 16, .ro⟩, ⟨15, 13, .ro⟩, ⟨11, 11, .w1c⟩, ⟨10, 10, .ro⟩, ⟨8, 8, .ro⟩]
  else if 0x008 ≤ n ∧ n ≤ 0x00B then [⟨35, 0, .ro⟩]
  else if n = 0x010 then [⟨1, 0, .ro⟩]
  else if n = 0x011 then [⟨2, 0, .rw⟩]
  else if n = 0x012 then [⟨31, 3, .ro⟩, ⟨2, 2, .w1c⟩, ⟨1, 0, .ro⟩]
  else if n = 0x020 then [⟨30, 0, .rw⟩]
  else if n = 0x021 then [⟨23, 23, .rw⟩, ⟨22, 17, .rw⟩, ⟨16, 15, .rw⟩, ⟨4, 3, .rw⟩, ⟨2, 0, .rw⟩]
  else if n = 0x022 then [⟨5, 0, .rw⟩]
  else if n = 0x023 then [⟨35, 0, .rw⟩]
  else if n = 0x024 then [⟨35, 8, .rw⟩]
  else if n = 0x025 then [⟨35, 10, .rw⟩]
  else if 0x030 ≤ n ∧ n ≤ 0x038 then [⟨35, 3, .rw⟩]
  else if 0x03C ≤ n ∧ n ≤ 0x03F then [⟨35, 0, .rw⟩]
  else if 0x040 ≤ n ∧ n ≤ 0x047 then [⟨35, 0, .ro⟩]
  else if n = 0x050 then [⟨8, 4, .rw⟩, ⟨1, 0, .rw⟩]
  else if n = 0x051 then [⟨17, 16, .ro⟩, ⟨12, 8, .ro⟩, ⟨4, 0, .rw⟩]
  else if n = 0x060 then [⟨35, 35, .rw⟩, ⟨34, 34, .rw⟩, ⟨33, 33, .w1c⟩, ⟨23, 0, .rw⟩]
  else if n = 0x061 then [⟨35, 35, .wo⟩, ⟨23, 0, .ro⟩]
  else if n = 0x068 ∨ n = 0x06A then [⟨35, 34, .rw⟩, ⟨33, 33, .w1c⟩, ⟨32, 32, .rw⟩, ⟨23, 0, .rw⟩]
  else if n = 0x069 ∨ n = 0x06B then [⟨23, 0, .rw⟩]
  else if 0x100 ≤ n ∧ n ≤ 0x103 then [⟨30, 0, .rw⟩]
  else if 0x108 ≤ n ∧ n ≤ 0x10B then [⟨35, 0, .rw⟩]
  else if n = 0x120 then [⟨15, 0, .rw⟩]
  else if n = 0x130 then [⟨35, 34, .ro⟩, ⟨31, 0, .wo⟩]
  else if n = 0x131 then [⟨35, 35, .rc⟩, ⟨31, 0, .rc⟩]
  else if 0x140 ≤ n ∧ n ≤ 0x147 then [⟨35, 0, .rw⟩]
  else []

/-- The reset word of CSR n in engine e (R9), the SVE's where the tables give it one of its own. -/
def csrReset (e n : Nat) : Word :=
  if n = 0x000 then (if e = 192 then 0x000000D00#36 else 0x000000C00#36)
  else if n = 0x001 then (if e = 192 then 0x000000100#36 else 0)
  else if n = 0x008 then (if e = 192 then 0x6010017FF#36 else 0x601001FFF#36)
  else if n = 0x009 then (if e = 192 then 0x8444A000B#36 else 0x8444A0009#36)
  else if n = 0x00A then 0x04040840A#36
  else if n = 0x00B then (if e = 192 then 0xFF0001000#36 else BitVec.ofNat 36 (0x002040000 + e * 0x010000000))
  else if n = 0x011 then 0x000000007#36
  else if n = 0x060 then 0x400FFFFFF#36
  else if n = 0x061 then 0x000FFFFFF#36
  else 0

/-- CSRs that the debug domain keeps (BRK, WCH, DBG_TXD, DBG_RXD), not the engine. -/
def csrInDebug (n : Nat) : Bool := decide (0x100 ≤ n ∧ n ≤ 0x10B) || decide (n = 0x130) || decide (n = 0x131)

end Sys2Proof.Machine
end

