-- ==== Sys2Proof/Machine/SMap.lean ====
section
/-! DEFINITION. A sparse table: a list of (key, value) pairs in ONE canonical form, keys strictly rising and no entry
equal to what an unlisted key reads as. Every indexed piece of the state (memory words, registers, engines, lanes,
channels, queues) is kept in it, so that equal contents are equal data. -/

namespace Sys2Proof.Machine

/-- Sparse table over natural keys. -/
abbrev SMap (α : Type) := List (Nat × α)

/-- Reading: what is listed at the key, else what an unlisted key reads as. -/
def SMap.get {α : Type} (d : Nat → α) : SMap α → Nat → α
  | [], k => d k
  | (k', v') :: m, k => if k = k' then v' else SMap.get d m k

/-- Dropping every entry whose key satisfies `p`. -/
def SMap.drop {α : Type} (p : Nat → Bool) (m : SMap α) : SMap α := m.filter (fun e => !p e.1)

/-- An entry in its place by key. -/
def SMap.insert {α : Type} (k : Nat) (v : α) : SMap α → SMap α
  | [] => [(k, v)]
  | (k', v') :: m => if k < k' then (k, v) :: (k', v') :: m else (k', v') :: SMap.insert k v m

/-- Writing keeps the canonical form: writing the value an unlisted key reads as removes the entry. -/
def SMap.set {α : Type} [DecidableEq α] (d : Nat → α) (m : SMap α) (k : Nat) (v : α) : SMap α :=
  let m' := SMap.drop (fun j => j == k) m
  if v = d k then m' else SMap.insert k v m'

/-- Changing every listed entry by `f`; entries that become their default leave the table. An unlisted key is not visited,
so `f k` must keep the default of `k`. -/
def SMap.update {α : Type} [DecidableEq α] (d : Nat → α) (f : Nat → α → α) (m : SMap α) : SMap α :=
  (m.map Prod.fst).foldl (fun acc k => SMap.set d acc k (f k (SMap.get d m k))) m

/-- Every key of the table lies above `lo`, keys rise, and no entry equals its default. -/
def SMap.wfFrom {α : Type} [DecidableEq α] (d : Nat → α) (lo : Nat) : SMap α → Bool
  | [] => true
  | (k, v) :: m => decide (lo ≤ k) && decide (v ≠ d k) && SMap.wfFrom d (k + 1) m

/-- The canonical form. -/
def SMap.wf {α : Type} [DecidableEq α] (d : Nat → α) (m : SMap α) : Bool := SMap.wfFrom d 0 m

end Sys2Proof.Machine
end

