-- ==== Sys2Proof/Machine/State.lean ====
section
/-! DEFINITION. The state of the block: everything the spec gives the device, as plain data, with its reset. -/

namespace Sys2Proof.Machine

/-! ## The engine (chapters 05 to 09) -/

/-- A short operation in flight (R141): the unit, the cycle in which it completes, the cycle its trigger was moved, the
result ports it writes, and the flags an fpu operation raises (R237) with its trigger's code address (R239). -/
structure Flight where
  unit : Nat
  due : Nat
  trig : Nat
  writes : List (Nat × Word)
  flags : Nat
  enabled : Nat
  pc : Word
  deriving DecidableEq, Repr

/-- A long operation in progress: its result, flags and the enabled traps captured at its trigger (R200, R227, R240), the
cycle its trigger was moved and the cycle in which it completes (R141, R143). -/
structure LongOp where
  res : Word
  flags : Nat
  enabled : Nat
  pc : Word
  trig : Nat
  due : Nat
  deriving DecidableEq, Repr

/-- A branch whose delay slots are still to issue (R154, R253): bundles still to issue, taken, target,
and whether the fetch unit fetched the other path (R157). -/
structure PendBranch where
  ds : Nat
  taken : Bool
  target : Word
  late : Bool := false
  deriving DecidableEq, Repr

/-- A trigger held by a busy iterative unit (R144): its socket, the operands as captured (a: o; b, c: src and dst of
stm; t: the trigger value), FPCTL as it stood when the trigger arrived (R227), the code address of its bundle, the branch that was
pending before it. -/
structure HeldTrig where
  socket : Nat
  a : Word
  b : Word := 0
  c : Word := 0
  t : Word
  ctl : Word
  pc : Word
  branch : Option PendBranch := none
  deriving DecidableEq, Repr

/-- The stream unit (R217-R222): OP of Table 7.9 (0 none), words still to be written, next source and destination, the
captured stm.o, whether it is suspended (R269), the first cycle in which it may write a word (R220), and the four words of
the record that ingest is copying (R219; empty between records). -/
structure Stm where
  op : Nat
  cnt : Nat
  src : Word
  dst : Word
  opnd : Word
  susp : Bool
  start : Nat
  rcd : List Word
  deriving DecidableEq, Repr

/-- A store-buffer entry (R159): canonical byte address (Ops.lean), the bytes it writes (lowest first), whether it is a
post (R305), whether it takes a global path (R162), its place in the engine's program order, the ring that issued it
(R295, R296), and whether it is one part of a split store (R278, R284). -/
structure SbEntry where
  addr : Nat
  bytes : List Byte9
  post : Bool
  glob : Bool
  seq : Nat
  ring : Nat
  split : Bool
  deriving DecidableEq, Repr

/-- A store that has left the store buffer and is not yet acknowledged (R162): its bytes travel the device matrix, the
mesh or the cross-section queues. xq: among the accesses to one other section, its place in the order in which they set out (R312). -/
structure OutStore where
  addr : Nat
  bytes : List Byte9
  cross : Bool
  seq : Nat
  ring : Nat
  split : Bool
  xq : Nat := 0
  deriving DecidableEq, Repr

/-- A load or atomic that has been triggered and has not returned (R142, R160, R213, R214): canonical byte address, the
address as issued, bytes read, whether they are sign-extended, its kind (0 load, 1 tas, 2 lr, 3 sc), the store data of tas
and sc, the data already known (a full match of the store buffer, a cache hit, an atomic already performed), whether a
data-cache line must be fetched first (R286), the cycle and bundle of its trigger, its place in program order, its ring,
whether `fwd` came from a data-cache line, the bytes of its first part once that is performed (R278, R285), and the word in which
it met an uncorrectable error during a halt, whose fault waits for the resume (R290, R452); xq as in OutStore. -/
structure Load where
  addr : Nat
  iss : Nat
  size : Nat
  signed : Bool
  kind : Nat
  data : Word
  fwd : Option (List Byte9)
  miss : Bool
  trig : Nat
  pc : Word
  seq : Nat
  ring : Nat
  hit : Bool
  part1 : Option (List Byte9)
  bad : Option Nat := none
  xq : Nat := 0
  deriving DecidableEq, Repr

/-- A post on the section mesh (R305-R310). -/
structure Post where
  eng : Nat
  addr : Nat
  bytes : List Byte9
  seq : Nat
  deriving DecidableEq, Repr

/-- A cache line of 8 words (R156, R286): the canonical byte address of its first word. -/
structure CacheLine where
  base : Nat
  words : List Word
  deriving DecidableEq, Repr

/-- A chio read that waits for its slot (R64): word k, channel, the cycle its trigger was moved. -/
structure WaitRead where
  k : Nat
  ch : Nat
  trig : Nat
  deriving DecidableEq, Repr

/-- One engine, a schedule engine or the SVE. Ports are keyed by their socket numbers (Table 6.5).
d, a, p, sp, pc, ring, imask: D0-D31, A0-A14, P1-P7, the banked stack pointers, PC, RING, IMASK. flights: short operations
in flight; done: per unit, the cycle of its last completion; aInc: post-increments not yet visible (register, value, cycle);
seqNo: program order of lsu operations; spadAcc: the cycles, from the last count on, in which lsu0 or lsu1 accesses the local scratchpad; nextPc: the bundle after a fence that has not completed; wdtPre: cycles since the
watchdog last counted; divOp, fplOp, held, stm, longop: the long units; fpLong, fpShort: FP faults pending (trigger's code
address, flags); sb, sbWait, outStores, loads0, loads1: the store buffer, stores that found it full, and the accesses in flight; branch: delay slots to issue;
rsTop, rsDepth, rs: the return stack; acc: ACC0-ACC3; resv: the reserved word; icMiss: the missing I-cache line and the first cycle in
which it may arrive (R156); iDirect: the line just fetched that an uncorrectable word kept out of the I-cache; iSoft, iBad: the keys of
the words of I-cache lines with a single-bit or an uncorrectable error (R288, R289); icache, dcache, pred: caches and the
fetch predictor; fence: the fence waited for; efWait, efDone: waiting at endframe, endframe completed; waitRead: the streamed
read that holds the section; early: the load units whose results an early read awaits (R143); csr: the CSRs held as words;
csrLate: the CSR write of the bundle before (number, value, the cycle from which it governs, R211); cntDue: the conflict counters of a
halted engine have still to take what they counted before the halt (R302); irqSince: the pending interrupt
sources with the cycle from which each is acceptable (R247); cyc: unstalled cycles since cycle 0; wdtPend: WATCHDOG is pending and is
acceptable from this cycle on (R275);
locked, fenced, halted, haltReq, haltComp, cmpStop (a comparator has matched the bundle at the PC, which does not issue), stepLeft, stepNoInt, stepIssued, exemptOnce: run control; inBeat: the engine has
entered the beat (the SVE: is out of reset); bundlePc: the last bundle issued; fresh: no bundle has issued
since an acceptance, a gate entry or a return (R247); tickAt: the cycle up to which timers and the stream unit have counted. -/
structure Engine where
  d : SMap Word
  a : SMap Word
  p : BitVec 8
  sp : SMap Word
  pc : Word
  ring : BitVec 2
  imask : BitVec 3
  opnd : SMap Word
  res : SMap Word
  flights : List Flight
  done : SMap Nat
  aInc : List (Nat × Word × Nat)
  seqNo : Nat
  spadAcc : List Nat
  nextPc : Option Word
  wdtPre : Nat
  divOp : Option LongOp
  fplOp : Option LongOp
  held : List HeldTrig
  stm : Stm
  longop : Option Word
  fpLong : Option (Word × Nat)
  fpShort : Option (Word × Nat)
  sb : List SbEntry
  sbWait : List SbEntry
  outStores : List OutStore
  loads0 : List Load
  loads1 : List Load
  branch : Option PendBranch
  rsTop : BitVec 4
  rsDepth : BitVec 5
  rs : SMap Word
  acc : SMap (BitVec 80)
  resv : Option Nat
  icache : SMap (Option CacheLine)
  icMiss : Option (Nat × Nat)
  iDirect : Option Nat
  iSoft : List Nat
  iBad : List Nat
  dcache : SMap (Option CacheLine)
  pred : SMap (BitVec 2)
  fence : Option (BitVec 2)
  efWait : Bool
  efDone : Bool
  waitRead : Option WaitRead
  early : List Nat
  csr : SMap Word
  csrLate : Option (Nat × Word × Nat)
  cntDue : Bool
  irqSince : List (Nat × Nat)
  cyc : Nat
  wdtPend : Option Nat
  locked : Bool
  fenced : Bool
  halted : Bool
  haltReq : Option (BitVec 3)
  haltComp : BitVec 3
  cmpStop : Bool
  stepLeft : Option Nat
  stepNoInt : Bool
  stepIssued : Nat
  exemptOnce : Bool
  inBeat : Bool
  bundlePc : Word
  fresh : Bool
  tickAt : Nat
  deriving DecidableEq, Repr

/-! ## Sections and clusters (chapters 02, 10, 11, 19) -/

/-- A chio push on its way to the QM (R94): channel and its four words. -/
structure PushEntry where
  ch : Nat
  words : List Word
  deriving DecidableEq, Repr

/-- One section's control state beside its registers. stalls: per unstalled cycle, the length of the stall that lies before it
(R63); stallCyc: their sum; dbgSems: the semaphores (64 c + j) whose last acquirer was the debug domain; xqNo: how many accesses from other sections have set
out to this one (R312). -/
structure Section where
  stalls : SMap Nat
  stallCyc : Nat
  sched : Bool
  expired : Nat
  laneExpired : List Nat
  endCyc : Nat
  pushBuf : List PushEntry
  pushCnt : Nat
  startAt : Option Word
  startRel : Bool
  stopAt : Option Word
  dbgHalted : Bool
  dbgRestart : Bool
  posts : List Post
  useMask : Word
  fencing : Option Nat
  dbgSems : SMap Bool
  xqNo : Nat
  deriving DecidableEq, Repr

/-- A DMA descriptor as the context copied it at the post (R298): W0-W2, its address, the posting engine's ring, whether a
word of it was uncorrectable. -/
structure Desc where
  w0 : Word
  w1 : Word
  w2 : Word
  addr : Nat
  ring : Nat
  bad : Bool
  deriving DecidableEq, Repr

/-- One DMA context: queued descriptors and the running one (R298, R299). -/
structure DmaCtx where
  queue : List Desc
  running : Option Desc
  deriving DecidableEq, Repr

/-! ## Channels, queues and the Glove (chapters 03, 04) -/

/-- The words W0-W7 of one stored copy of a Glove entry (Tables 4.1 to 4.3). -/
structure GlvEntry where
  w0 : Word
  w1 : Word
  w2 : Word
  w3 : Word
  w4 : Word
  w5 : Word
  w6 : Word
  w7 : Word
  deriving DecidableEq, Repr

/-- What an ingress bank holds for one channel (R49, R82, R87): 0 not arrived, 1 valid, 2 failed checks, 3 lost,
4 arrived without a record (R338, R88). -/
structure Slot where
  st : BitVec 3
  w0 : Word
  w1 : Word
  w2 : Word
  w3 : Word
  deriving DecidableEq, Repr

/-- A setpoint held in an egress bank (R50): mode and SETP. -/
structure Setpoint where
  mode : BitVec 4
  setp : Word
  deriving DecidableEq, Repr

/-- One channel: the two stored copies of its Glove entry (R32, R132), the last-good
record (R108, the reference of R112), the mode in force at the hub and the mode sent and not yet applied (R116),
the egress banks (R50), whether the owner wrote a setpoint in this beat (R118), whether its downstream codeword was lost
(R349), the slew reference of this beat's writes (R112), whether it was PARKED or TRIPPED at the last boundary (R87), the two ingress banks (R49), the device's own owner
table (R75, R100), whether a limits image has covered it since the device reset (R423), whether a copy of the entry holds an
uncorrectable error (R132). -/
structure Chan where
  g0 : GlvEntry
  g1 : GlvEntry
  lgValid : Bool
  lgMode : BitVec 4
  lgSetp : Word
  inForce : BitVec 4
  sentMode : Option (BitVec 4)
  eg : Option Setpoint
  egSend : Option Setpoint
  wrote : Bool
  lostDn : Bool
  slew : Option Word
  tripB : Bool
  ing0 : Slot
  ing1 : Slot
  populated : Bool
  owner : BitVec 8
  covered : Bool
  bad0 : Bool
  bad1 : Bool
  deriving DecidableEq, Repr

/-- One hardware queue (R89-R96): the slot of its oldest entry, occupancy, pending drop count, the drop tag of each
entry slot, the head entry and the occupancy staged at the last boundary (R91), and whether it was popped in this beat. -/
structure Queue where
  head : Nat
  occ : Nat
  drops : Nat
  tags : List Nat
  stWords : List Word
  stOcc : Nat
  popped : Bool
  deriving DecidableEq, Repr

/-! ## Lanes (chapters 12, 13) and the export unit (chapter 14) -/

/-- A management message (R340-R342): type, its words after the header, whether an ACK is asked for, and while it waits
for one its SEQ and the attempts made. -/
structure Msg where
  mtype : Nat
  words : List Word
  ackReq : Bool
  seq : Nat
  attempts : Nat
  deriving DecidableEq, Repr

/-- A codeword the device sent: the slot it was sent in, the nominal slot of its content, TYPE, header, payload (R327-R330). -/
structure TxCw where
  slot : Nat
  q : Nat
  ty : Nat
  hdr : BitVec 28
  pay : List Word
  deriving DecidableEq, Repr

/-- One lane beside its registers. trainDone: TRAIN has ended and waits for its boundary (R358); hello, scaled: HELLO and SCALE have come
in this pass (R361); ffe, slicer: the FFE taps and the slicer thresholds (R359); cwSince: codewords since the last adaptation step
(R360); alignDue: W1 of the ALIGN message that the next BEAT codeword carries (R362). -/
structure Lane where
  markers : Nat
  markerLock : Bool
  cwGood : Nat
  cwBad : Nat
  cwLock : Bool
  adaptGood : Nat
  rxSent : Nat
  rxRecv : Nat
  trainDone : Bool
  txCtl : BitVec 16
  txSts : BitVec 16
  quick : Bool
  noRetry : Bool
  shortsDone : Bool
  hello : Bool
  scaled : Bool
  ffe : List Int
  slicer : List Int
  cwSince : Nat
  alignDue : Option Word
  mapUpAck : Bool
  mapDnAck : Bool
  alignCnt : Nat
  readyB : Option Word
  readyAck : Bool
  readySeq : Nat
  seqNext : Nat
  acks : List Nat
  out : List Msg
  waitAck : List Msg
  dnSlot : Nat
  dnShift : Nat
  dnSent : List TxCw
  dnReplay : List (Nat × Nat)
  dnReplays : Nat
  dnReplaysPrev : Nat
  nakDue : List (Nat × Nat)
  naks : Nat
  upExpect : List (Nat × Nat)
  upShift : Nat
  beatOk : Bool
  beatBad : Bool
  beatMiss : Nat
  dnLostBits : Word
  safeDue : Bool
  safeSent : Nat
  lastTx : Option TxCw
  txBuf : List Word
  rxBuf : List Word
  svcSeq : Nat
  testPend : Option Word
  testGo : Bool
  deriving DecidableEq, Repr

/-- A frame of the export unit (R375-R378): the template and configuration captured at its first item, SEQ, the beat of
the first item, the items, and how many of them are record entries. -/
structure Frame where
  tpl : List Word
  cfg : Word
  seq : Word
  beat : Word
  srcId : Word
  items : List (List Word)
  recs : Nat
  deriving DecidableEq, Repr

/-- One service lane beside its registers: the frame under construction, whether its holdoff is over, the frame being sent, SEQ of the next frame, the capture buffer (R381), the queue last served (R380), the last frame's octets. -/
structure Svc where
  build : Option Frame
  holdOver : Bool
  sending : Option Frame
  seq : Word
  cap : List (List Word)
  last : Nat
  lastFrame : List Octet
  deriving DecidableEq, Repr

/-! ## Check units and the march engine (chapter 15) -/

/-- One check unit beside its registers: armed for periodic starts and the boundaries left to the next one (R392). -/
structure Cku where
  armed : Bool
  due : Nat
  deriving DecidableEq, Repr

/-- The march engine beside its registers: the run in progress (KIND, INST, ALG), the retention waits still to come,
whether the boot march runs, whether the run is allowed only because its engines are fenced (R396), and the spare rows used,
keyed by memory and bank. -/
structure March where
  busy : Bool
  kind : Nat
  inst : Nat
  alg : Nat
  waits : Nat
  boot : Bool
  fencedOnly : Bool
  spares : SMap Nat
  deriving DecidableEq, Repr

/-! ## Host interface (chapter 16), Helm (chapter 17), debug (chapter 18), health (chapter 19), pins -/

/-- A reply packet: status, tag, words (Table 16.3); STATE is taken when it is queued; whether its command had NOIBI. -/
structure Reply where
  status : Nat
  tag : BitVec 9
  words : List Word
  noibi : Bool
  state : BitVec 9
  deriving DecidableEq, Repr

/-- An open load session (R416, R526): image type, target section, words announced, words received, closing, the tag and NOIBI of
its LOAD_END. Of a schedule image also how far steps 2 to 5 of R321 have come: the status of steps 2 and 3 with the variant and SYM,
once their words have arrived; how many acts of steps 4 and 5 are done; the base B of R317, none where a record has failed the load. -/
structure Session where
  type : Nat
  target : Nat
  count : Nat
  words : List Word
  closing : Bool
  tag : BitVec 9
  noibi : Bool
  sel : Option (Nat × Nat × Nat) := none
  acts : Nat := 0
  relB : Option Word := some 0
  deriving DecidableEq, Repr

/-- A firmware command awaiting its reply (R419), and the reply Table 16.7 gives it. -/
structure FwCmd where
  opcode : Nat
  tag : BitVec 9
  noibi : Bool
  status : Nat
  words : List Word
  deriving DecidableEq, Repr

/-- A DBG_HALT or DBG_STEP whose reply waits for the halts (R471). -/
structure HaltWait where
  opcode : Nat
  tag : BitVec 9
  noibi : Bool
  targets : List Nat
  deriving DecidableEq, Repr

/-- The command sequencer and the I3C target. The first five fields are always-on (R402, R522). -/
structure Seq where
  da : Option (BitVec 7)
  ibiEn : Bool
  mwl : Nat
  mrl : Nat
  rstact : Nat
  busErr : Bool
  hdr : Bool
  replies : List Reply
  outside : List Reply
  readPos : Nat
  lastRead : List Octet
  ibis : List Nat
  ibiOut : Option Nat
  session : Option Session
  fw : Option FwCmd
  timedOut : Bool
  mbx : List Word
  mbxReply : List Word
  haltWait : List HaltWait
  startRel : Option Word
  resetPend : Bool
  safePend : Bool
  stopReplies : List FwCmd
  evlog : List (Word × Word)
  lastCcc : List Octet
  nacked : Bool
  deriving DecidableEq, Repr

/-- One lane of the channel-map/lane image in force (Table 17.8). -/
structure MapLane where
  lane : Nat
  ident : Word
  mask : Word
  scale : List Word
  fmv : Nat
  up : List Nat
  dn : List Nat
  firstUp : Nat
  firstDn : Nat
  deriving DecidableEq, Repr

/-- One owner block of the channel-map/lane image (Table 17.8). -/
structure OwnBlock where
  first : Nat
  count : Nat
  sect : Nat
  leng : Nat
  deriving DecidableEq, Repr

/-- The channel-map/lane image in force. -/
structure ChMap where
  lanes : List MapLane
  blocks : List OwnBlock
  deriving DecidableEq, Repr

/-- Helm: the OTP words and which of them are uncorrectable, the lifecycle in effect, fuse load done, measurements and SVNs
by kind (0 supervisor, 1 limits, 2 channel map, 3 + s schedule of section s), the OTP word being programmed with the bits to
set, the channel-map/lane image in force, and the private identity key derived at fuse load (R438). -/
structure Helm where
  otp : SMap Word
  otpBad : SMap Bool
  lc : Nat
  loaded : Bool
  meas : SMap (List Octet)
  svn : SMap Nat
  prog : Option (Nat × Word)
  chmap : Option ChMap
  idKey : Option Nat
  deriving DecidableEq, Repr

/-- The debug domain (always-on): level, password failures, the nonce held, the response octets received and their
TOTAL, the lifecycle last recorded, comparator addresses (n * 8 + k, k 0-3 BRK, 4-7 WCH), terminal buffers, and the
Gong firings still to be delivered to each engine. -/
structure Dbg where
  level : Nat
  pwFail : Nat
  nonce : Option (List Octet)
  resp : List Octet
  respTotal : Nat
  recLc : Nat
  cmp : SMap Word
  txd : SMap (Option Word)
  txLost : SMap Bool
  rxd : SMap (Option Word)
  deliver : SMap Nat
  deriving DecidableEq, Repr

/-- A transaction on the AVSBus (R472): write or read, CmdDataType, rail, the data of a write in mV. -/
structure AvsTrans where
  write : Bool
  cmdType : Nat
  rail : Nat
  data : Nat
  deriving DecidableEq, Repr

/-- The health block beside its registers: consecutive failed updates, consecutive updates with negative margin, thermal
steps, the event store, a raise of F (R477: 0 none, 1 waiting for the supply, 2 settled), the updates it has waited and whether its
write has been answered, VREQ of the latest update (R473), the AVSBus transactions of the latest update in order, whether writes of the
regulator are stopped (R474). -/
structure Health where
  fails : Nat
  negCnt : Nat
  tsteps : Nat
  evts : List Word
  raise : Nat
  raiseT : Nat
  raiseSent : Bool
  vreq : Int
  bus : List AvsTrans
  stopped : Bool
  deriving DecidableEq, Repr

/-- The beat generator beside its registers: first boundary made (R37), period in force in 10 ns units, consecutive good
periods of BEAT_IN (R43), aligned to it, RELOCK armed (R47), whether the last boundary pulsed BEAT_OUT (R42), the length of the beat
in progress where an edge of BEAT_IN has fixed it (10 ns units). -/
structure BeatGen where
  started : Bool
  period : Nat
  lockCnt : Nat
  aligned : Bool
  relock : Bool
  outPulse : Bool
  length : Option Nat
  deriving DecidableEq, Repr

/-- The pins and the conditions that hold the device reset domain in reset (R25). -/
structure Pins where
  resetNLow : Bool
  pgoodLow : Bool
  refSysLost : Bool
  thermtrip : Bool
  safeNLow : Bool
  safeSeenBoot : Bool
  addrSel : BitVec 2
  deriving DecidableEq, Repr

/-- The whole block. -/
structure State where
  beat : BeatGen
  regs : SMap Word
  mem : SMap Word
  undef : SMap Nat
  eccSoft : SMap Bool
  eccBad : SMap Bool
  eng : SMap Engine
  sec : SMap Section
  dma : SMap DmaCtx
  chan : SMap Chan
  queue : SMap Queue
  qmEvts : List Word
  qmBusy : Option Nat
  glvEvts : List Word
  glvCmd : Option Bool
  lane : SMap Lane
  svc : SMap Svc
  cku : SMap Cku
  march : March
  seq : Seq
  helm : Helm
  dbg : Dbg
  health : Health
  pins : Pins
  fresh : Nat
  pending : List Instr
  deriving DecidableEq, Repr

/-! ## What an unlisted entry of each table reads as: the reset of one instance -/

def Stm.reset : Stm := { op := 0, cnt := 0, src := 0, dst := 0, opnd := 0, susp := false, start := 0, rcd := [] }

/-- An engine after a section reset (R54, R204, R209, R243; registers for which the spec gives no reset value are 0,
notes/assumptions/2.md). IMASK resets to 7 (its register table), a predictor counter to 0b01 (R157). -/
def Engine.reset : Engine :=
  { d := [], a := [], p := 0, sp := [], pc := 0, ring := 0, imask := 7, opnd := [], res := [], flights := [], done := [],
    aInc := [], seqNo := 0, spadAcc := [], nextPc := none, wdtPre := 0, divOp := none, fplOp := none, held := [], stm := Stm.reset,
    longop := none, fpLong := none, fpShort := none, sb := [], sbWait := [], outStores := [], loads0 := [], loads1 := [], branch := none,
    rsTop := 0, rsDepth := 0, rs := [], acc := [], resv := none, icache := [], icMiss := none, iDirect := none, iSoft := [], iBad := [], dcache := [], pred := [],
    fence := none, efWait := false, efDone := false, waitRead := none, early := [], csr := [], csrLate := none, cntDue := false, irqSince := [], cyc := 0, wdtPend := none,
    locked := false, fenced := false, halted := false, haltReq := none, haltComp := 0, cmpStop := false, stepLeft := none,
    stepNoInt := false, stepIssued := 0, exemptOnce := false, inBeat := false, bundlePc := 0, fresh := false, tickAt := 0 }

def Section.reset : Section :=
  { stalls := [], stallCyc := 0, sched := false, expired := 0, laneExpired := [], endCyc := 0, pushBuf := [], pushCnt := 0,
    startAt := none, startRel := false, stopAt := none, dbgHalted := false,
    dbgRestart := false, posts := [], useMask := 0, fencing := none, dbgSems := [], xqNo := 0 }

def DmaCtx.reset : DmaCtx := { queue := [], running := none }

/-- The Glove entry of a channel after a device reset (R111): W0-W5 zero, W6 with only the OPEN mode, every action OPEN and
OWNER 255, W7 PARKED with cause INIT and action OPEN. -/
def GlvEntry.reset : GlvEntry :=
  { w0 := 0, w1 := 0, w2 := 0, w3 := 0, w4 := 0, w5 := 0, w6 := 0x8554FF000#36, w7 := 0xEC0000000#36 }

def Slot.empty : Slot := { st := 0, w0 := 0, w1 := 0, w2 := 0, w3 := 0 }

/-- A channel after a device reset (R111); OPEN is in force at its hub (R116); it is unpopulated and has no owner (R75). -/
def Chan.reset : Chan :=
  { g0 := GlvEntry.reset, g1 := GlvEntry.reset, lgValid := false, lgMode := 0, lgSetp := 0,
    inForce := 4, sentMode := none, eg := none, egSend := none, wrote := false, lostDn := false, slew := none, tripB := true, ing0 := Slot.empty,
    ing1 := Slot.empty, populated := false, owner := 255, covered := false, bad0 := false, bad1 := false }

def Queue.reset : Queue := { head := 0, occ := 0, drops := 0, tags := [], stWords := [], stOcc := 0, popped := false }

def Lane.reset : Lane :=
  { markers := 0, markerLock := false, cwGood := 0, cwBad := 0, cwLock := false, adaptGood := 0, rxSent := 0, rxRecv := 0,
    trainDone := false, txCtl := 0, txSts := 0, quick := false, noRetry := false, shortsDone := false, hello := false,
    scaled := false, ffe := List.replicate 12 0, slicer := List.replicate 3 0, cwSince := 256, alignDue := none,
    mapUpAck := false, mapDnAck := false, alignCnt := 0, readyB := none, readyAck := false, readySeq := 0,
    seqNext := 0, acks := [], out := [], waitAck := [], dnSlot := 0, dnShift := 0, dnSent := [], dnReplay := [],
    dnReplays := 0, dnReplaysPrev := 0, nakDue := [], naks := 0, upExpect := [], upShift := 0, beatOk := false, beatBad := false,
    beatMiss := 0, dnLostBits := 0, safeDue := false, safeSent := 0, lastTx := none, txBuf := [], rxBuf := [], svcSeq := 0,
    testPend := none, testGo := false }

def Svc.reset : Svc :=
  { build := none, holdOver := false, sending := none, seq := 0, cap := [], last := 0, lastFrame := [] }

def Cku.reset : Cku := { armed := false, due := 0 }

def March.reset : March :=
  { busy := false, kind := 0, inst := 0, alg := 0, waits := 0, boot := false, fencedOnly := false,
    spares := [] }

/-- The command sequencer after power-on of VDD_AON (R522) and a device reset. -/
def Seq.reset : Seq :=
  { da := none, ibiEn := false, mwl := 2313, mrl := 2313, rstact := 1, busErr := false, hdr := false, replies := [],
    outside := [], readPos := 0, lastRead := [], ibis := [], ibiOut := none, session := none, fw := none, timedOut := false, mbx := [],
    mbxReply := [], haltWait := [], startRel := none, resetPend := false, safePend := false, stopReplies := [], evlog := [], lastCcc := [], nacked := false }

def Helm.reset : Helm :=
  { otp := [], otpBad := [], lc := 0, loaded := false, meas := [], svn := [], prog := none, chmap := none,
    idKey := none }

/-- The debug domain after power-on of VDD_AON with a blank OTP: the level is full outside OWNED and INVALID (R440). -/
def Dbg.reset : Dbg :=
  { level := 2, pwFail := 0, nonce := none, resp := [], respTotal := 0, recLc := 0, cmp := [], txd := [], txLost := [],
    rxd := [], deliver := [] }

def Health.reset : Health :=
  { fails := 0, negCnt := 0, tsteps := 0, evts := [], raise := 0, raiseT := 0, raiseSent := false, vreq := 0,
    bus := [], stopped := false }

def BeatGen.reset : BeatGen :=
  { started := false, period := 1000, lockCnt := 0, aligned := false, relock := false, outPulse := false, length := none }

def Pins.reset : Pins :=
  { resetNLow := false, pgoodLow := false, refSysLost := false, thermtrip := false, safeNLow := false,
    safeSeenBoot := false, addrSel := 0 }

/-- The device right after power-on and the release of RESET_N, at the start of the boot sequence (state POWERUP, R421):
every register at its reset value, every memory at what an unlisted word reads as, every queue empty. -/
def State.reset : State :=
  { beat := BeatGen.reset, regs := [], mem := [], undef := [], eccSoft := [], eccBad := [], eng := [], sec := [], dma := [],
    chan := [], queue := [], qmEvts := [], qmBusy := none, glvEvts := [], glvCmd := none, lane := [], svc := [], cku := [],
    march := March.reset, seq := Seq.reset, helm := Helm.reset, dbg := Dbg.reset, health := Health.reset,
    pins := Pins.reset, fresh := 0, pending := [] }

/-- Why a step stops with a fault. No rule of the spec stops the block, and no meaning of this model answers a fault;
the one constructor stands for a command that is no row of the table, which cannot be written: safe. -/
inductive Fault where
  | noSuchCommand
  deriving DecidableEq, Repr

/-- Why a step is refused. `notModelled` is answered only by an arm of Dispatch.lean for a command that has no meaning
yet: safe, since the model says nothing about it. -/
inductive Refusal where
  | notModelled (mnemonic : String)
  deriving DecidableEq, Repr

end Sys2Proof.Machine
end

