-- ==== Sys2Proof/Machine/Ops.lean ====
section
/-! DEFINITION. The named operations over the state that every family uses: reading and changing one register, engine,
section, lane, channel or queue; the address map (R28-R32); memory words and bytes with their check bits (R2, R288, R289);
free values; event stores. -/

namespace Sys2Proof.Machine

/-! ## Device registers as the hardware sees them -/

/-- The stored word of a register. -/
def State.reg (s : State) (r : Reg) : Word := SMap.get Reg.dflt s.regs r.key
/-- The hardware sets a whole register. -/
def State.setReg (s : State) (r : Reg) (w : Word) : State := { s with regs := SMap.set Reg.dflt s.regs r.key w }
/-- Field f of register r, as a number. -/
def State.getF (s : State) (r : Reg) (f : Nat × Nat) : Nat := fld (s.reg r) f.1 f.2
/-- The hardware sets field f of register r. -/
def State.setF (s : State) (r : Reg) (f : Nat × Nat) (v : Nat) : State := s.setReg r (setFld (s.reg r) f.1 f.2 v)
/-- One-bit fields. -/
def State.getB (s : State) (r : Reg) (f : Nat × Nat) : Bool := bit (s.reg r) f.2
def State.setB (s : State) (r : Reg) (f : Nat × Nat) (b : Bool) : State := s.setF r f (if b then 1 else 0)
/-- A saturating counter field. -/
def State.incF (s : State) (r : Reg) (f : Nat × Nat) (n : Nat := 1) : State :=
  s.setF r f (satAdd (s.getF r f) n (2 ^ (f.1 + 1 - f.2) - 1))

/-- A software write applied to a stored word under the access types of its fields (R8, R9): RW sets, W1C clears the bits
written 1, everything else keeps its value; RWL sets while `locked` is false (R11). -/
def applyWrite (fs : List Field) (locked : Bool) (old w : Word) : Word :=
  fs.foldl (fun acc f =>
    match f.acc with
    | .rw => setFld acc f.hi f.lo (fld w f.hi f.lo)
    | .rwl => if locked then acc else setFld acc f.hi f.lo (fld w f.hi f.lo)
    | .w1c => setFld acc f.hi f.lo ((fld old f.hi f.lo) &&& (2 ^ (f.hi + 1 - f.lo) - 1 - fld w f.hi f.lo))
    | _ => acc) old

/-- What a software read returns of a stored word: WO fields and reserved bits read as zero (R8, R9). -/
def readMask (fs : List Field) (w : Word) : Word :=
  fs.foldl (fun acc f => if f.acc = .wo then acc else setFld acc f.hi f.lo (fld w f.hi f.lo)) 0

/-- The word left by a read: RC fields are cleared (R8). -/
def readClear (fs : List Field) (w : Word) : Word :=
  fs.foldl (fun acc f => if f.acc = .rc then setFld acc f.hi f.lo 0 else acc) w

/-! ## Free values -/

/-- A fresh free value of n bits: nothing constrains it. The counter makes each one a new value. -/
def State.drawNat (s : State) (n : Nat) : Nat × State :=
  (Config.freeNat s.fresh % 2 ^ n, { s with fresh := s.fresh + 1 })

/-! ## Engines, sections and the other numbered parts -/

def State.engine (s : State) (n : Nat) : Engine := SMap.get (fun _ => Engine.reset) s.eng n
def State.setEngine (s : State) (n : Nat) (x : Engine) : State :=
  { s with eng := SMap.set (fun _ => Engine.reset) s.eng n x }
def State.modEngine (s : State) (n : Nat) (f : Engine → Engine) : State := s.setEngine n (f (s.engine n))

def State.sect (s : State) (k : Nat) : Section := SMap.get (fun _ => Section.reset) s.sec k
def State.setSect (s : State) (k : Nat) (x : Section) : State :=
  { s with sec := SMap.set (fun _ => Section.reset) s.sec k x }
def State.modSect (s : State) (k : Nat) (f : Section → Section) : State := s.setSect k (f (s.sect k))

/-- The context of engine n is entry n (R298). -/
def State.dmaCtx (s : State) (n : Nat) : DmaCtx := SMap.get (fun _ => DmaCtx.reset) s.dma n
def State.setDma (s : State) (n : Nat) (x : DmaCtx) : State :=
  { s with dma := SMap.set (fun _ => DmaCtx.reset) s.dma n x }

def State.ch (s : State) (c : Nat) : Chan := SMap.get (fun _ => Chan.reset) s.chan c
def State.setCh (s : State) (c : Nat) (x : Chan) : State :=
  { s with chan := SMap.set (fun _ => Chan.reset) s.chan c x }
def State.modCh (s : State) (c : Nat) (f : Chan → Chan) : State := s.setCh c (f (s.ch c))

def State.q (s : State) (k : Nat) : Queue := SMap.get (fun _ => Queue.reset) s.queue k
def State.setQ (s : State) (k : Nat) (x : Queue) : State :=
  { s with queue := SMap.set (fun _ => Queue.reset) s.queue k x }

def State.ln (s : State) (n : Nat) : Lane := SMap.get (fun _ => Lane.reset) s.lane n
def State.setLn (s : State) (n : Nat) (x : Lane) : State :=
  { s with lane := SMap.set (fun _ => Lane.reset) s.lane n x }
def State.modLn (s : State) (n : Nat) (f : Lane → Lane) : State := s.setLn n (f (s.ln n))

def State.sv (s : State) (k : Nat) : Svc := SMap.get (fun _ => Svc.reset) s.svc k
def State.setSv (s : State) (k : Nat) (x : Svc) : State :=
  { s with svc := SMap.set (fun _ => Svc.reset) s.svc k x }

def State.ckUnit (s : State) (u : Nat) : Cku := SMap.get (fun _ => Cku.reset) s.cku u
def State.setCku (s : State) (u : Nat) (x : Cku) : State :=
  { s with cku := SMap.set (fun _ => Cku.reset) s.cku u x }

/-- The section of a schedule engine (R16). -/
def sectOf (n : Nat) : Nat := n / 32
/-- The cluster (0-47) of a schedule engine. -/
def cluOf (n : Nat) : Nat := n / 4
def isSve (n : Nat) : Bool := n == 192
/-- The engine number that FEAT3.SELF and OWNER fields use: 255 for the SVE (R296). -/
def selfNum (n : Nat) : Nat := if n = 192 then 255 else n

/-- The number of the present beat. -/
def State.beatNum (s : State) : Nat := s.getF .BEAT_NUM F.BEAT_NUM_NUM

/-- Section states, Table 16.5a: 0 EMPTY, 1 LOADED, 2 RUNNING, 3 STOPPED, 4 FENCED. -/
def State.sectState (s : State) (k : Nat) : Nat := s.getF (.SEC_STATE k) F.SEC_STATE_STATE
/-- A FENCED section counts as RUNNING (R414). -/
def State.running (s : State) (k : Nat) : Bool := let x := s.sectState k; x == 2 || x == 4
/-- The section's power domain is off or still powering up (R490). -/
def State.gated (s : State) (k : Nat) : Bool :=
  s.getB (.SEC_PWR k) F.SEC_PWR_GATED || s.getB (.SEC_PWR k) F.SEC_PWR_BUSY

/-- Device states, Table 16.5. -/
def State.devState (s : State) : Nat := s.getF .HOST_STATE F.HOST_STATE_STATE

/-! ## Engine registers by name -/

/-- CSR n as the engine's own storage holds it. -/
def Engine.csrW (x : Engine) (e n : Nat) : Word := SMap.get (csrReset e) x.csr n
def Engine.setCsrW (x : Engine) (e n : Nat) (w : Word) : Engine := { x with csr := SMap.set (csrReset e) x.csr n w }
def Engine.dReg (x : Engine) (i : Nat) : Word := SMap.get (fun _ => 0) x.d i
def Engine.setD (x : Engine) (i : Nat) (w : Word) : Engine := { x with d := SMap.set (fun _ => 0) x.d i w }
def Engine.spOf (x : Engine) (r : Nat) : Word := SMap.get (fun _ => 0) x.sp r
def Engine.setSp (x : Engine) (r : Nat) (w : Word) : Engine := { x with sp := SMap.set (fun _ => 0) x.sp r w }
/-- A15 is the stack pointer of the present ring (R180, R244). -/
def Engine.aReg (x : Engine) (i : Nat) : Word :=
  if i = 15 then x.spOf x.ring.toNat else SMap.get (fun _ => 0) x.a i
def Engine.setA (x : Engine) (i : Nat) (w : Word) : Engine :=
  if i = 15 then x.setSp x.ring.toNat w else { x with a := SMap.set (fun _ => 0) x.a i w }
/-- P0 reads as 1 and ignores writes; Pn holds whether the value moved to it was not zero (R179). -/
def Engine.pReg (x : Engine) (i : Nat) : Bool := if i = 0 then true else x.p.getLsbD i
def Engine.setP (x : Engine) (i : Nat) (w : Word) : Engine :=
  if i = 0 then x
  else { x with p := (x.p &&& ~~~ (BitVec.ofNat 8 (2 ^ i))) ||| (if w = 0 then 0 else BitVec.ofNat 8 (2 ^ i)) }
/-- The value last moved to the operand port with this socket number. -/
def Engine.port (x : Engine) (k : Nat) : Word := SMap.get (fun _ => 0) x.opnd k
def Engine.setPort (x : Engine) (k : Nat) (w : Word) : Engine := { x with opnd := SMap.set (fun _ => 0) x.opnd k w }
/-- The result port with this socket number. -/
def Engine.result (x : Engine) (k : Nat) : Word := SMap.get (fun _ => 0) x.res k
def Engine.setResult (x : Engine) (k : Nat) (w : Word) : Engine := { x with res := SMap.set (fun _ => 0) x.res k w }
def Engine.accOf (x : Engine) (k : Nat) : BitVec 80 := SMap.get (fun _ => 0) x.acc k
def Engine.setAcc (x : Engine) (k : Nat) (v : BitVec 80) : Engine := { x with acc := SMap.set (fun _ => 0) x.acc k v }
def Engine.rsEntry (x : Engine) (k : Nat) : Word := SMap.get (fun _ => 0) x.rs k
def Engine.setRs (x : Engine) (k : Nat) (w : Word) : Engine := { x with rs := SMap.set (fun _ => 0) x.rs k w }
def Engine.doneAt (x : Engine) (u : Nat) : Nat := SMap.get (fun _ => 0) x.done u
def Engine.setDone (x : Engine) (u c : Nat) : Engine := { x with done := SMap.set (fun _ => 0) x.done u c }
/-- Performance mode (ENG_CTL.MODE, R147). -/
def Engine.perf (x : Engine) (e : Nat) : Bool := bit (x.csrW e 0) 8
def Engine.loadsOf (x : Engine) (u : Nat) : List Load := if u = 0 then x.loads0 else x.loads1
def Engine.setLoads (x : Engine) (u : Nat) (l : List Load) : Engine :=
  if u = 0 then { x with loads0 := l } else { x with loads1 := l }

/-! ## The address map -/

/-- Base of the global window of cluster (s, c), by cluster number 0-47 (R30). -/
def windowBase (c : Nat) : Nat := 0x010000000 + (c / 8) * 0x2000000 + (c % 8) * 0x400000

/-- Where an access leads. Memory bytes are named by a canonical byte address: their address in the map that every master
shares (Tables 1.5 and 1.6), and 2^36 + the local address for the SVE's own local memories, which no window shows. -/
inductive Loc where
  | mem (ca : Nat)
  | glv (off : Nat)
  | dev (a : Nat)
  deriving DecidableEq, Repr

def spadBase (n : Nat) : Nat := if n = 192 then 2 ^ 36 else windowBase (n / 4) + 0x100000 + (n % 4) * 0x40000
def schedBase (n : Nat) : Nat := if n = 192 then 2 ^ 36 + 0x40000 else windowBase (n / 4) + 0x120000 + (n % 4) * 0x40000

/-- The memory a canonical byte address lies in. -/
inductive MemId where
  | spad (n : Nat)
  | sched (n : Nat)
  | shared (c : Nat)
  | queue
  | sup
  deriving DecidableEq, Repr

/-- A number for each memory, the key of State.undef. -/
def MemId.key : MemId → Nat
  | .sched n => 5 * n
  | .spad n => 5 * n + 1
  | .shared c => 5 * c + 2
  | .queue => 3
  | .sup => 4

/-- The cluster window that holds an address, and the offset in it (R30). -/
def windowOf (a : Nat) : Option (Nat × Nat) :=
  if 0x010000000 ≤ a ∧ a < 0x01C000000 then
    let o := a - 0x010000000
    some ((o / 0x2000000) * 8 + (o % 0x2000000) / 0x400000, o % 0x400000)
  else none

/-- The memory of a global-window offset, Table 1.6; `none` for offsets the table does not list. -/
def windowMem (c off : Nat) : Option MemId :=
  if off < 0x40000 then some (.shared c)
  else
    let o := off - 0x100000
    if 0x100000 ≤ off ∧ o < 0x100000 ∧ o % 0x40000 < 0x10000 then some (.spad (c * 4 + o / 0x40000))
    else
      let o2 := off - 0x120000
      if 0x120000 ≤ off ∧ o2 < 0x100000 ∧ o2 % 0x40000 < 0x8000 then some (.sched (c * 4 + o2 / 0x40000)) else none

/-- The memory of a canonical byte address. -/
def memOf (ca : Nat) : Option MemId :=
  match windowOf ca with
  | some (c, off) => windowMem c off
  | none =>
    if 0x040000000 ≤ ca ∧ ca < 0x041000000 then some .queue
    else if 0x080000000 ≤ ca ∧ ca < 0x080100000 then some .sup
    else if 2 ^ 36 ≤ ca ∧ ca < 2 ^ 36 + 0x10000 then some (.spad 192)
    else if 2 ^ 36 + 0x40000 ≤ ca ∧ ca < 2 ^ 36 + 0x48000 then some (.sched 192)
    else none

/-- The size of a memory in words (Table 1.9) and its first canonical byte address. -/
def MemId.words : MemId → Nat
  | .spad _ => 16384
  | .sched _ => 8192
  | .shared _ => 65536
  | .queue => 4194304
  | .sup => 262144

def MemId.base : MemId → Nat
  | .spad n => spadBase n
  | .sched n => schedBase n
  | .shared c => windowBase c
  | .queue => 0x040000000
  | .sup => 0x080000000

/-- The section a memory belongs to, `none` outside the sections. -/
def MemId.sect : MemId → Option Nat
  | .spad n => if n < 192 then some (n / 32) else none
  | .sched n => if n < 192 then some (n / 32) else none
  | .shared c => some (c / 8)
  | _ => none

/-- The ranges of Table 1.5 that every master sees alike (all but the local ranges). -/
def globalLoc (a : Nat) : Option Loc :=
  if 0x0C0000000 ≤ a ∧ a < 0x0C1000000 then some (.dev a)
  else if 0x0C1000000 ≤ a ∧ a < 0x0C1100000 then some (.glv (a - 0x0C1000000))
  else if a < 2 ^ 36 then (match memOf a with | some _ => some (.mem a) | none => none)
  else none

/-- Where byte address a of engine n leads (R28); `none` where Table 1.5 has nothing for that engine (R29). -/
def engineLoc (n a : Nat) : Option Loc :=
  if a < 0x10000 then some (.mem (spadBase n + a))
  else if 0x40000 ≤ a ∧ a < 0x48000 then some (.mem (schedBase n + (a - 0x40000)))
  else if 0x80000 ≤ a ∧ a < 0xC0000 then
    (if n < 192 then some (.mem (windowBase (n / 4) + (a - 0x80000))) else none)
  else globalLoc a

/-! ## Memory words and bytes -/

/-- What a word that is not listed reads as: zero, the contents that the boot march leaves (R396, R400), unless the memory
has been made undefined since (State.undef), when it is a free value. -/
def memDflt (undef : SMap Nat) (k : Nat) : Word :=
  match memOf (4 * k) with
  | none => 0
  | some m => let g := SMap.get (fun _ => 0) undef m.key; if g = 0 then 0 else Config.freeWord g k

/-- The memory of a march target (Table 15.5); caches and Glove copies are no addressed memory. -/
def marchMemId (kind inst : Nat) : Option MemId :=
  let n := if inst = 255 then 192 else inst
  if kind = 0 then some (.sched n)
  else if kind = 1 then some (.spad n)
  else if kind = 4 then some (.shared inst)
  else if kind = 5 then some .sup
  else if kind = 6 then some .queue
  else none

/-- The memory that a destructive march run holds (R396). -/
def State.marchMem (s : State) : Option MemId :=
  let m := s.march
  if !m.busy || m.alg == 1 then none else marchMemId m.kind m.inst

/-- The word lies in a memory that a destructive march run holds; the boot march holds every memory. -/
def State.memHeld (s : State) (ca : Nat) : Bool :=
  s.march.boot || match s.marchMem with
  | some m => decide (memOf (4 * (ca / 4)) = some m)
  | none => false

/-- The word that holds canonical byte address ca; a held memory reads as zero (R396). -/
def State.word (s : State) (ca : Nat) : Word :=
  if s.memHeld ca then 0 else SMap.get (memDflt s.undef) s.mem (ca / 4)

/-- Any write to a word clears every reservation on it (R215). -/
def State.clearResv (s : State) (k : Nat) : State :=
  let f := fun (_ : Nat) (x : Engine) => if x.resv = some k then { x with resv := none } else x
  { s with eng := SMap.update (fun _ => Engine.reset) f s.eng }

/-- Writing a whole word: fresh check bits (R289), reservations cleared (R215). A store to a held memory is dropped (R396). -/
def State.setWord (s : State) (ca : Nat) (w : Word) : State :=
  if s.memHeld ca then s
  else State.clearResv { s with
    mem := SMap.set (memDflt s.undef) s.mem (ca / 4) w
    eccSoft := SMap.set (fun _ => false) s.eccSoft (ca / 4) false
    eccBad := SMap.set (fun _ => false) s.eccBad (ca / 4) false } (ca / 4)

def State.isBad (s : State) (ca : Nat) : Bool := !s.memHeld ca && SMap.get (fun _ => false) s.eccBad (ca / 4)
def State.isSoft (s : State) (ca : Nat) : Bool := SMap.get (fun _ => false) s.eccSoft (ca / 4)
/-- One of the two stored copies of a Glove entry is uncorrectable (R132). -/
def Chan.bad (x : Chan) : Bool := x.bad0 || x.bad1
/-- Copy i is. -/
def Chan.badOf (x : Chan) (i : Nat) : Bool := if i = 0 then x.bad0 else x.bad1
def Chan.setBad (x : Chan) (i : Nat) (b : Bool) : Chan := if i = 0 then { x with bad0 := b } else { x with bad1 := b }

/-- An uncorrectable error arises in a memory word, or in a stored copy of a Glove entry (R132): in which of the two is free. -/
def State.markBad (s : State) (ca : Nat) : State :=
  match globalLoc ca with
  | some (.glv off) => let (v, s) := s.drawNat 1; s.modCh (off / 32) (fun x => x.setBad v true)
  | _ => { s with eccBad := SMap.set (fun _ => false) s.eccBad (ca / 4) true }
def State.markSoft (s : State) (ca : Nat) : State :=
  { s with eccSoft := SMap.set (fun _ => false) s.eccSoft (ca / 4) true }

/-- Byte j of memory, by canonical byte address (R2). -/
def State.byte (s : State) (ca : Nat) : Byte9 := byteOf (s.word ca) (ca % 4)

/-- n bytes from canonical address ca, lowest first. -/
def State.bytes (s : State) (ca n : Nat) : List Byte9 := (List.range n).map (fun j => s.byte (ca + j))

/-- The word formed by up to four bytes, lowest first. -/
def wordOfBytes (bs : List Byte9) : Word :=
  (List.range 4).foldl (fun w j => match bs[j]? with | some b => setByteOf w j b | none => w) 0

/-- Writing consecutive words. -/
def State.setWords (s : State) (ca : Nat) : List Word → State
  | [] => s
  | w :: ws => (s.setWord ca w).setWords (ca + 4) ws

/-- Reading consecutive words. -/
def State.words (s : State) (ca n : Nat) : List Word := (List.range n).map (fun i => s.word (ca + 4 * i))

/-- Forgetting the contents of a memory: its listed words and ECC marks go, and its words read as generation `g`
(0: zero, otherwise undefined). -/
def State.resetMem (s : State) (m : MemId) (g : Nat) : State :=
  let inside := fun k => decide (memOf (4 * k) = some m)
  { s with
    mem := SMap.drop inside s.mem
    eccSoft := SMap.drop inside s.eccSoft
    eccBad := SMap.drop inside s.eccBad
    undef := SMap.set (fun _ => 0) s.undef m.key g }

/-- A memory filled with zeros (R321, R396). -/
def State.zeroMem (s : State) (m : MemId) : State := s.resetMem m 0

/-- A memory whose contents become undefined (R24, R322, R399): a new generation of free values. -/
def State.scramble (s : State) (m : MemId) : State :=
  { s.resetMem m (s.fresh + 1) with fresh := s.fresh + 1 }

/-! ## Event stores (R98, R133, R485) -/

/-- A 256-entry store: a full one discards the new event. The Bool says whether it was discarded. -/
def pushEvt (l : List Word) (w : Word) : List Word × Bool := if l.length < 256 then (l ++ [w], false) else (l, true)

/-- A health event of Table 19.1. A full store discards it (R485). -/
def State.healthEvt (s : State) (code value : Nat) : State :=
  let w := setFld (put 34 29 code) 19 0 value
  { s with health := { s.health with evts := (pushEvt s.health.evts w).1 } }

/-- Supervisor firmware runs: the SVE has started at the entry point of an accepted image and is not LOCKED. -/
def State.fwRuns (s : State) : Bool := (s.engine 192).inBeat && !(s.engine 192).locked && !(s.engine 192).fenced

/-- The event log that supervisor firmware keeps (R519): 1,024 entries, an overwrite sets LOST (bit 26 of W1) in the entry
that becomes the oldest. Entries are made while firmware runs, before READY too: Glove trips and health events as it drains their
stores. -/
def State.logEvt (s : State) (src data : Nat) : State :=
  if s.fwRuns then
    let e := (BitVec.ofNat 36 s.beatNum, setFld (put 35 27 src) 25 0 data)
    let l := s.seq.evlog ++ [e]
    let l' := if l.length ≤ 1024 then l else
      match l.drop 1 with
      | (b, w) :: t => (b, setBit w 26 true) :: t
      | [] => []
    { s with seq := { s.seq with evlog := l' } }
  else s

/-! ## Errors found in memory words (R288, R289, R486) -/

/-- Section k stalls for d cycles before its unstalled cycle c (R62, R63): causes that meet before one cycle make one stall,
which lasts until the last of them ends; the lengths of different cycles add up. -/
def State.sectStall (s : State) (k c d : Nat) : State :=
  let x := s.sect k
  let old := SMap.get (fun _ => 0) x.stalls c
  if d ≤ old then s
  else s.setSect k { x with stalls := SMap.set (fun _ => 0) x.stalls c d, stallCyc := x.stallCyc + (d - old) }

/-- Who reads a word: an engine, a DMA context or check unit of a section (no engine's cycle is known for it), or a master
outside the sections. -/
inductive Reader where
  | engine (n : Nat)
  | unit (k : Nat)
  | outside
  deriving DecidableEq, Repr

/-- A counter CSR of Table 10.6 counts d; it holds while its engine is halted (R302). -/
def Engine.countCsr (x : Engine) (e n d : Nat) : Engine :=
  if x.halted then x else x.setCsrW e n (BitVec.ofNat 36 (satAdd (x.csrW e n).toNat d (2 ^ 36 - 1)))

/-- The conflict counters 0x140 to 0x143 (Table 10.6) count waits for banks, which the model does not follow: how far they have
counted since they were last looked at is free. They hold in a halt (notes/assumptions/50.md). -/
def State.cntCatch (s : State) (e : Nat) : State :=
  let x := s.engine e
  if x.halted && !x.cntDue then s
  else (List.range 4).foldl (fun st k =>
    let p := st.drawNat 36
    p.2.modEngine e (fun x => x.setCsrW e (0x140 + k) (BitVec.ofNat 36 (satAdd (x.csrW e (0x140 + k)).toNat p.1 (2 ^ 36 - 1)))))
    (s.setEngine e { x with cntDue := false })

/-- A corrected read of a memory of section `sec` (R288): counted for that section and for the engine that reads. The reader's section
stalls one cycle for it (R62). The cycle of a read by a DMA context or a check unit is taken as a stall cycle of its own, which merges
with no other cause (R63): the spec does not say when it falls, and it is the model's choice (notes/assumptions/49.md). -/
def State.eccCount (s : State) (sec : Option Nat) (reader : Reader) : State :=
  let s := match sec with
    | some sc => s.incF (.SEC_ECC sc) F.SEC_ECC_CORR
    | none => s
  match reader with
  | .engine n =>
    let s := s.modEngine n (fun x => x.countCsr n 0x145 1)
    if n < 192 then s.sectStall (sectOf n) (s.engine n).cyc 1 else s
  | .unit k => s.modSect k (fun x => { x with stallCyc := x.stallCyc + 1 })
  | .outside => s

/-- A corrected read of an addressed word; its error stands until the bank writes the word back. -/
def State.eccCorrected (s : State) (ca : Nat) (reader : Reader) : State :=
  (s.markSoft ca).eccCount ((memOf ca).bind MemId.sect) reader

/-- A word in which a single-bit error stands is read: the read is corrected (R288). -/
def State.softRead (s : State) (ca : Nat) (reader : Reader) : State :=
  if s.isSoft ca && !s.isBad ca && !s.memHeld ca then s.eccCorrected (4 * (ca / 4)) reader else s

/-- The words that hold n bytes from ca, by the address of their first byte. -/
def wordsIn (ca n : Nat) : List Nat :=
  (List.range ((ca + n - 1) / 4 + 1 - ca / 4)).map (fun i => 4 * (ca / 4 + i))

/-- The words that hold n bytes from ca are read. -/
def State.softReads (s : State) (ca n : Nat) (reader : Reader) : State :=
  if n = 0 then s else (wordsIn ca n).foldl (fun st k => st.softRead k reader) s

/-- Errors that have arisen in words by the moment of a command: an uncorrectable one or a single-bit one in each word named
by its key. -/
def State.upset (s : State) (l : List Upset) : State :=
  l.foldl (fun st u => if u.icache then st else if u.bad then st.markBad (4 * u.key) else st.markSoft (4 * u.key)) s

/-- Errors that have arisen in words of engine e's I-cache lines. -/
def State.upsetCache (s : State) (e : Nat) (l : List Upset) : State :=
  s.modEngine e (fun x => { x with
    iBad := (l.filter (fun u => u.icache && u.bad)).map (fun u => u.key) ++ x.iBad
    iSoft := (l.filter (fun u => u.icache && !u.bad)).map (fun u => u.key) ++ x.iSoft })

/-- An uncorrectable read in a memory of section sc is logged (R289). -/
def State.eccLog (s : State) (sc ca : Nat) : State :=
  ((s.incF (.SEC_ECC sc) F.SEC_ECC_UNC).setReg (.SEC_ECC_ADDR sc) (BitVec.ofNat 36 (4 * (ca / 4)))).logEvt 7 sc

/-- An uncorrectable read (R289, R486): logged for the section with its global-window byte address, or in the health block
for queue and supervisor memory. The errors of the SVE's local memories are counted nowhere that the spec names. -/
def State.eccUncorrectable (s : State) (ca : Nat) : State :=
  let s := s.markBad ca
  match memOf ca with
  | some .queue =>
    ((((s.incF .HLTH_ECC F.HLTH_ECC_QM_UNC).setReg .HLTH_ECC_ADDR (BitVec.ofNat 36 (4 * (ca / 4)))).setB .HLTH_STS
      F.HLTH_STS_ECC_UNC true).healthEvt 0x07 0).logEvt 7 7
  | some .sup =>
    ((((s.incF .HLTH_ECC F.HLTH_ECC_SV_UNC).setReg .HLTH_ECC_ADDR (BitVec.ofNat 36 (4 * (ca / 4)))).setB .HLTH_STS
      F.HLTH_STS_ECC_UNC true).healthEvt 0x07 1).logEvt 7 7
  | some m =>
    match m.sect with
    | some sc => s.eccLog sc ca
    | none => s
  | none => s

/-! ## Storing bytes (Table 10.3) -/

/-- Writing the bytes bs at ca into the word with key k: whole words take fresh check bits; a byte or half store to a word
with an uncorrectable error is dropped and logged, and SECs_ECC.WDROP sets (Table 10.3, R289). -/
def State.storeWordBytes (s : State) (ca : Nat) (bs : List Byte9) (k : Nat) : State :=
  let hit := fun j => decide (ca ≤ 4 * k + j ∧ 4 * k + j < ca + bs.length)
  let whole := hit 0 && hit 1 && hit 2 && hit 3
  if s.isBad (4 * k) && !whole then
    let s := s.eccUncorrectable (4 * k)
    match (memOf (4 * k)).bind MemId.sect with
    | some sc => s.setB (.SEC_ECC sc) F.SEC_ECC_WDROP true
    | none => s
  else
    let w := (List.range 4).foldl (fun w j =>
      if hit j then (match bs[4 * k + j - ca]? with | some b => setByteOf w j b | none => w) else w) (s.word (4 * k))
    s.setWord (4 * k) w

/-- Writing bytes at a canonical address, word by word. -/
def State.storeBytes (s : State) (ca : Nat) (bs : List Byte9) : State :=
  if bs.isEmpty then s
  else
    (List.range ((ca + bs.length - 1) / 4 + 1 - ca / 4)).foldl (fun st i => st.storeWordBytes ca bs (ca / 4 + i)) s

end Sys2Proof.Machine
end

