-- ==== Sys2Proof/Machine/Signal.lean ====
section
/-! DEFINITION. Signals that several families raise: ALERT_N (R48, R132, R476), in-band interrupts (R407, R523), changes of
device state (Table 16.5), the Gong (R465). -/

namespace Sys2Proof.Machine

/-- ALERT_N is asserted while any of its conditions holds: BEAT_STS LOST, EDGE_ERR or SHORT (R48), GLV_STS.CMP_ERR (R132),
HLTH_STS CRITICAL or AVS_FAIL (R476). -/
def State.alertN (s : State) : Bool :=
  s.getB .BEAT_STS F.BEAT_STS_LOST || s.getB .BEAT_STS F.BEAT_STS_EDGE_ERR || s.getB .BEAT_STS F.BEAT_STS_SHORT ||
  s.getB .GLV_STS F.GLV_STS_CMP_ERR || s.getB .HLTH_STS F.HLTH_STS_CRITICAL || s.getB .HLTH_STS F.HLTH_STS_AVS_FAIL

/-- The device reset domain is held in reset (R25, R480, R507). -/
def State.held (s : State) : Bool := s.pins.resetNLow || s.pins.pgoodLow || s.pins.refSysLost || s.pins.thermtrip

/-- The blocks of the device reset domain are in reset, from the recognition of a reset until fuse load ends (R501, Table 17.1): I3C_SDA
is released, so that the target acknowledges and answers nothing. -/
def State.blocksHeld (s : State) : Bool := s.held || !s.helm.loaded

/-- The level of SAFE_N that a command tells. -/
def State.safeLevel (s : State) (low : Bool) : State := { s with pins := { s.pins with safeNLow := low } }

/-- Pending in-band interrupts are kept in the order of their data bytes (R407). -/
def ibiInsert (c : Nat) : List Nat → List Nat
  | [] => [c]
  | x :: l => if c < x then c :: x :: l else if c = x then x :: l else x :: ibiInsert c l

/-- A condition for an in-band interrupt arises: it is raised only while interrupts are enabled (R407, R523). Data bytes:
1 REPLY, 2 ALERT, 3 SAFE, 4 STATE. -/
def State.ibi (s : State) (c : Nat) : State :=
  if s.seq.ibiEn then { s with seq := { s.seq with ibis := ibiInsert c s.seq.ibis } } else s

/-- A change of the state in which ALERT_N may assert: asserting it raises ALERT. -/
def State.withAlert (s : State) (f : State → State) : State :=
  let s' := f s
  if s'.alertN && !s.alertN then s'.ibi 2 else s'

/-- HOST_STATE.STATE takes a value; a change raises STATE (R407). -/
def State.setDevState (s : State) (v : Nat) : State :=
  if s.devState = v then s else (s.setF .HOST_STATE F.HOST_STATE_STATE v).ibi 4

/-- The device state apart from SAFE: STATE, or PREV while the device is SAFE (6). -/
def State.baseState (s : State) : Nat := if s.devState = 6 then s.getF .HOST_STATE F.HOST_STATE_PREV else s.devState

/-- A transition that Table 16.5 gives: while the device is SAFE it updates PREV and STATE stays SAFE (R412). FAULT is left
only by a device reset. -/
def State.moveDevState (s : State) (v : Nat) : State :=
  if s.baseState = 7 then s
  else if s.devState = 6 then s.setF .HOST_STATE F.HOST_STATE_PREV v else s.setDevState v

/-- A Gong group fires: FIRED sets, COUNT counts, and a delivery is on its way (R465, R466). -/
def State.fireGong (s : State) (g : Nat) : State :=
  let s := (s.setB (.DBG_GONG g) F.DBG_GONG_FIRED true).incF (.DBG_GONG g) F.DBG_GONG_COUNT
  let n := SMap.get (fun _ => 0) s.dbg.deliver g
  { s with dbg := { s.dbg with deliver := SMap.set (fun _ => 0) s.dbg.deliver g (n + 1) } }

/-- An event fires every group that enables its source field (R465). -/
def State.fireSource (s : State) (src : Nat × Nat) : State :=
  (List.range 8).foldl (fun st g => if st.getB (.DBG_GONG g) src then st.fireGong g else st) s

end Sys2Proof.Machine
end

