-- ==== Sys2Proof/Machine/Glove.lean ====
section
/-! DEFINITION. The Glove (chapter 04): the channel entry, its states, trips, parks and releases, the downstream and
upstream checks, the record of a downstream slot, and the freshness evaluation at a boundary. -/

namespace Sys2Proof.Machine

/-! ## The entry (Tables 4.1 to 4.3) -/

def GlvEntry.word (x : GlvEntry) (k : Nat) : Word :=
  match k with
  | 0 => x.w0 | 1 => x.w1 | 2 => x.w2 | 3 => x.w3 | 4 => x.w4 | 5 => x.w5 | 6 => x.w6 | _ => x.w7

def GlvEntry.setWordK (x : GlvEntry) (k : Nat) (w : Word) : GlvEntry :=
  match k with
  | 0 => { x with w0 := w } | 1 => { x with w1 := w } | 2 => { x with w2 := w } | 3 => { x with w3 := w }
  | 4 => { x with w4 := w } | 5 => { x with w5 := w } | 6 => { x with w6 := w } | _ => { x with w7 := w }

def GlvEntry.modeOk (x : GlvEntry) (m : Nat) : Bool := decide (m ≤ 4) && bit x.w6 (31 + m)
def GlvEntry.actUp (x : GlvEntry) : Nat := fld x.w6 30 29
def GlvEntry.actDn (x : GlvEntry) : Nat := fld x.w6 28 27
def GlvEntry.actStale (x : GlvEntry) : Nat := fld x.w6 26 25
def GlvEntry.actPark (x : GlvEntry) : Nat := fld x.w6 24 23
def GlvEntry.actHalt (x : GlvEntry) : Nat := fld x.w6 22 21
def GlvEntry.owner (x : GlvEntry) : Nat := fld x.w6 19 12
def GlvEntry.debounce (x : GlvEntry) : Nat := fld x.w6 11 8
def GlvEntry.freshUp (x : GlvEntry) : Nat := fld x.w6 7 4
def GlvEntry.freshDn (x : GlvEntry) : Nat := fld x.w6 3 0
/-- 0 ACTIVE, 1 ARMED, 2 TRIPPED, 3 PARKED. -/
def GlvEntry.state (x : GlvEntry) : Nat := fld x.w7 35 34
def GlvEntry.act (x : GlvEntry) : Nat := fld x.w7 33 32
def GlvEntry.cause (x : GlvEntry) : Nat := fld x.w7 31 27
def GlvEntry.dbc (x : GlvEntry) : Nat := fld x.w7 26 23
def GlvEntry.fdn (x : GlvEntry) : Nat := fld x.w7 22 19
def GlvEntry.fup (x : GlvEntry) : Nat := fld x.w7 18 15

/-- Both stored copies take the same change (R32). -/
def Chan.modEntry (x : Chan) (f : GlvEntry → GlvEntry) : Chan := { x with g0 := f x.g0, g1 := f x.g1 }
/-- W7 of both copies. -/
def Chan.modW7 (x : Chan) (f : Word → Word) : Chan := x.modEntry (fun g => { g with w7 := f g.w7 })

/-- ACTIVE or ARMED. -/
def Chan.live (x : Chan) : Bool := decide (x.g0.state < 2)

/-- The channels that have an entry different from reset. -/
def State.channels (s : State) : List Nat := s.chan.map (fun e => e.1)

/-! ## Trips, parks and releases (R120-R123, R133) -/

/-- A transition into TRIPPED is posted, counted, and may fire the Gong (R133, R465). -/
def State.glvPostTrip (s : State) (c cause : Nat) : State :=
  let w := setBit (put 34 30 cause) 35 true
  let w := setFld (setFld w 29 15 s.beatNum) 14 0 c
  let (l, lost) := pushEvt s.glvEvts w
  let s := { s with glvEvts := l }
  let s := if lost then s.setB .GLV_STS F.GLV_STS_EVT_OVF true else s
  (s.incF .GLV_TRIPS F.GLV_TRIPS_COUNT).fireSource F.DBG_GONG_SRC_TRIP

/-- A cause reaches channel c (R120, R121): `trip` says whether it enters TRIPPED or PARKED, `act` is its action. The first
cause is latched; a further one may strengthen the action, replaces only HALT, and trips if either cause trips. The event of a PARKED
channel that becomes TRIPPED holds the arriving cause, not the one that W7 keeps: the model's choice (notes/assumptions/49.md). -/
def State.glvEnter (s : State) (c : Nat) (trip : Bool) (cause act : Nat) : State :=
  let x := s.ch c
  let old := x.g0.state
  let st := if trip || old == 2 then 2 else 3
  let act' := if old < 2 then act else if x.g0.act < act then act else x.g0.act
  let cause' := if old < 2 then cause else if x.g0.cause = 0x1A then cause else x.g0.cause
  let last := if st = old then fld x.g0.w7 14 0 else s.beatNum
  let w7 := fun w => setFld (setFld (setFld (setFld w 35 34 st) 33 32 act') 31 27 cause') 14 0 last
  let s' := s.setCh c (x.modW7 w7)
  if st = 2 ∧ old ≠ 2 then s'.glvPostTrip c cause else s'

/-- The device's Glove trips and parks, with the action that Table 4.6 gives each cause. -/
def State.glvTripDn (s : State) (c cause : Nat) : State := s.glvEnter c true cause (s.ch c).g0.actDn
def State.glvTripUp (s : State) (c cause : Nat) : State := s.glvEnter c true cause (s.ch c).g0.actUp
def State.glvTripOpen (s : State) (c cause : Nat) : State := s.glvEnter c true cause 2
def State.glvTripStale (s : State) (c cause : Nat) : State := s.glvEnter c true cause (s.ch c).g0.actStale

/-- A Glove table copy that a destructive march run holds reads as zero (R396). -/
def State.glvHeld (s : State) : Bool := s.march.busy && s.march.kind == 7 && s.march.alg != 1

/-- Table integrity (R132): differing or uncorrectable copies trip the channel with TBL and set CMP_ERR. The Bool says
whether the entry may be used. -/
def State.glvCompare (s : State) (c : Nat) : State × Bool :=
  let x := s.ch c
  if x.g0 != x.g1 || x.bad || s.glvHeld then
    ((s.withAlert (fun st => st.setB .GLV_STS F.GLV_STS_CMP_ERR true)).glvTripOpen c 0x1D, false)
  else (s, true)

/-- An access to channel c's entry: it is compared, and used only if the comparison allows it (R132). The trip of an entry that fails takes
the place of what the access would have done. -/
def State.glvUse (s : State) (c : Nat) (f : State → State) : State := let (s, ok) := s.glvCompare c; if ok then f s else s

/-- Channel c parks with a cause, and its ACT_PARK (R120). -/
def State.glvPark (s : State) (c cause : Nat) : State := s.glvUse c (fun s => s.glvEnter c false cause (s.ch c).g0.actPark)

/-- A HALT park applies only to an ACTIVE or ARMED channel (R122). -/
def State.glvHalt (s : State) (c : Nat) : State :=
  s.glvUse c (fun s => if (s.ch c).live then s.glvEnter c false 0x1A (s.ch c).g0.actHalt else s)

/-- Every channel satisfying `p` takes `f`. -/
def State.forChannels (s : State) (p : Nat → Chan → Bool) (f : State → Nat → State) : State :=
  s.channels.foldl (fun st c => if p c (st.ch c) then f st c else st) s

/-- The owner engine lies in section k. -/
def ownedBy (k : Nat) (x : Chan) : Bool := let o := x.g0.owner; decide (o < 192) && o / 32 == k

/-- ARMED with CAUSE and ACT cleared (R123). -/
def State.glvArm (s : State) (c : Nat) : State :=
  s.setCh c ((s.ch c).modW7 (fun w =>
    setFld (setFld (setFld (setFld w 35 34 1) 33 32 0) 31 27 0) 14 0 s.beatNum))

/-- The channels of a section whose last halted engine resumes: those that HALT parked become ARMED (R122). -/
def State.glvUnhalt (s : State) (c : Nat) : State := s.glvUse c (fun s => s.glvArm c)

/-- The lane of channel c leaves service: it trips with LINK (R119). -/
def State.glvLink (s : State) (c : Nat) : State := s.glvUse c (fun s => s.glvTripStale c 0x12)

/-- Whether the release of channel c is refused: the cases of R123, and a channel that no limits image covers (R423). -/
def State.releaseRefused (s : State) (c : Nat) : Bool :=
  let x := s.ch c
  let o := x.g0.owner
  decide (192 ≤ o) || !s.running (o / 32) || s.devState == 6 || !x.populated || x.g0.cause == 0x1D ||
    !s.getB .GLV_CTL F.GLV_CTL_LOCK || !x.covered

/-- A release (R123): a channel ARMED or ACTIVE already is left alone; a refusal sets REL_REJ. An entry that fails the comparison of
R132 is refused as one with cause TBL. The Nat is 0 when nothing changed, 1 when the channel became ARMED, 2 when refused. -/
def State.glvRelease (s : State) (c : Nat) : State × Nat :=
  let (s, ok) := s.glvCompare c
  if ok && (s.ch c).live then (s, 0)
  else if !ok || s.releaseRefused c then (s.setB .GLV_STS F.GLV_STS_REL_REJ true, 2)
  else (s.glvArm c, 1)

/-- Word k of the two copies of an entry as a read obtains them. A copy that a march run holds reads as zero, and the other one shows
W7, which is the Glove's own. -/
def glvCopies (x : Chan) (held : Nat → Bool) (k : Nat) : Word × Word :=
  if k = 7 ∧ held 0 ≠ held 1 then (let w := if held 0 then x.g1.w7 else x.g0.w7; (w, w))
  else (if held 0 then 0 else x.g0.word k, if held 1 then 0 else x.g1.word k)

/-- A read of word k of channel c's entry (R32, R132): both copies are compared first. A word on which the copies do not
agree, or of an uncorrectable entry, is a free value; W7 is the Glove's own, with the trip in it, and free only in the bits in which its
copies differ. -/
def State.glvReadWord (s : State) (c k : Nat) : Word × State :=
  let held := fun i => s.march.boot || (s.glvHeld && s.march.inst == i)
  let x := s.ch c
  let s := if s.march.boot then s else (s.glvCompare c).1
  let p := glvCopies (if k = 7 then s.ch c else x) held k
  if p.1 = p.2 ∧ (k = 7 ∨ !x.bad) then (p.1, s)
  else
    let (v, s) := s.drawNat 36
    let m : Word := if k = 7 then p.1 ^^^ p.2 else BitVec.allOnes 36
    ((p.1 &&& ~~~m) ||| (BitVec.ofNat 36 v &&& m), s)

/-! ## Records -/

/-- One step of CRC-9 (R81). -/
def crc9Step (c : Nat) (b : Bool) : Nat :=
  let fb := (c >>> 8) % 2 == 1
  let c' := (c <<< 1) % 512
  if fb != b then c' ^^^ 0x169 else c'

/-- CRC-9 of a record: W0 bits 35:0, then bits 35:9 of W1 or W3 (R81). -/
def crc9 (wa wb : Word) : Nat :=
  let c := (List.range 36).foldl (fun c i => crc9Step c (bit wa (35 - i))) 0x1FF
  (List.range 27).foldl (fun c i => crc9Step c (bit wb (35 - i))) c

/-- Word W1 of a setpoint record (Table 3.2). -/
def setpointW1 (mode c beat : Nat) (setp : Word) : Word :=
  let w := setFld (setFld (put 35 32 mode) 31 17 c) 16 9 beat
  setFld w 8 0 (crc9 setp w)

/-! ## Downstream (R109-R113, R124) -/

/-- The slew reference: SETP of the last record sent, if that was CC; both writes of a beat use the same one (R112). -/
def Chan.slewRef (x : Chan) : Word :=
  match x.slew with
  | some r => r
  | none => if x.lgMode = 1 then x.lgSetp else 0

/-- The downstream checks of Table 4.5 in order: the cause of the first failure. -/
def downCheck (x : Chan) (e mode : Nat) (setp : Word) : Option Nat :=
  let g := x.g0
  if g.owner ≠ e then some 0x01
  else if !g.modeOk mode then some 0x02
  else if mode = 1 ∧ (setp.toInt > (g.w0.toNat : Int) ∨ setp.toInt < -(g.w1.toNat : Int)) then some 0x03
  else if mode = 2 ∧ (setp.toInt > g.w2.toInt ∨ setp.toInt < g.w3.toInt) then some 0x03
  else if mode = 1 ∧ (setp.toInt - x.slewRef.toInt).natAbs > g.w4.toNat then some 0x04
  else none

/-- A setpoint that chio writes into the egress bank (R50, R112, R113): checked for an ACTIVE or ARMED channel; discarded
unchecked for another. A second write of a beat replaces the first. -/
def State.glvSetpoint (s : State) (e c mode : Nat) (setp : Word) : State :=
  let (s, ok) := s.glvCompare c
  if !ok then s
  else
    let x := s.ch c
    if !x.live then s.setCh c { x with wrote := true }
    else
      let x := { x with slew := some x.slewRef }
      match downCheck x e mode setp with
      | some cause => (s.setCh c { x with wrote := true }).glvTripDn c cause
      | none =>
        s.setCh c { x.modW7 (fun w => setFld w 22 19 0) with
          wrote := true, eg := some { mode := BitVec.ofNat 4 mode, setp := setp } }

/-- The substitute record of an action (R110): 0 HOLD, 1 ZERO, otherwise OPEN. -/
def Chan.substitute (x : Chan) (act : Nat) : Nat × Word :=
  if act = 0 then (if x.lgValid then (x.lgMode.toNat, x.lgSetp) else (3, 0))
  else if act = 1 then (3, 0) else (4, 0)

/-- A record is sent: one in a mode other than NOUPDATE becomes the last-good record (R108, R113) and will be in force at
the hub from the applying boundary (R116). -/
def Chan.sent (x : Chan) (mode : Nat) (setp : Word) : Chan :=
  if mode = 0 then x
  else { x with
    lgValid := true, lgMode := BitVec.ofNat 4 mode, lgSetp := setp, sentMode := some (BitVec.ofNat 4 mode) }

/-- The mode and SETP of channel c's downstream slot now, and the state after it is sent (R80, R109, R110, R124). -/
def State.glvSlot (s : State) (c : Nat) : (Nat × Word) × State :=
  let x := s.ch c
  let st := x.g0.state
  if st = 0 then
    match x.egSend with
    | some sp => ((sp.mode.toNat, sp.setp), s.setCh c { x.sent sp.mode.toNat sp.setp with egSend := none })
    | none => ((0, 0), s)
  else if st = 1 then
    match x.egSend with
    | some sp =>
      let y := (x.sent sp.mode.toNat sp.setp).modW7 (fun w => setFld (setFld (setFld w 35 34 0) 26 15 0) 14 0 s.beatNum)
      ((sp.mode.toNat, sp.setp), s.setCh c { y with egSend := none })
    | none =>
      let (m, v) := x.substitute x.g0.actPark
      ((m, v), s.setCh c (x.sent m v))
  else
    let (m, v) := x.substitute x.g0.act
    ((m, v), s.setCh c (x.sent m v))

/-! ## Upstream (R115-R117) -/

/-- The window tests of Table 4.6 on a valid record: the lowest code that fails. -/
def upViolation (x : Chan) (w0 w1 w2 w3 : Word) : Option Nat :=
  let g := x.g0
  let inf := x.inForce.toNat
  let temp := sext 18 (fld w2 35 18)
  if inf ≠ 4 ∧ (w0.toInt > g.w2.toInt ∨ w0.toInt < g.w3.toInt) then some 0x08
  else if w1.toInt > (g.w0.toNat : Int) ∨ w1.toInt < -(g.w1.toNat : Int) then some 0x09
  else if temp > sext 18 (fld g.w5 35 18) ∨ temp < sext 18 (fld g.w5 17 0) then some 0x0A
  else if bit w3 34 then some 0x0B
  else if bit w3 35 ∧ (inf = 1 ∨ inf = 2 ∨ inf = 3) then some 0x0C
  else none

/-- The Glove's checks of a valid measurement record of channel c. HFLT and REVERSE trip at once (R117); the window tests
of an ACTIVE channel are debounced (R115); a DBC above a DEBOUNCE tightened since trips at this check (R131). -/
def State.glvUpstream (s : State) (c : Nat) (w0 w1 w2 w3 : Word) : State :=
  let (s, ok) := s.glvCompare c
  if !ok then s
  else
    let x := s.ch c
    let st := x.g0.state
    if 2 ≤ st then s
    else if st = 1 then
      (if w0.toInt < 0 ∧ !bit w3 35 then s.glvTripOpen c 0x0D
       else if bit w3 32 then s.glvTripOpen c 0x0E else s)
    else
      match upViolation x w0 w1 w2 w3 with
      | some cause =>
        if bit w3 32 ∧ x.g0.dbc < x.g0.debounce then
          (s.setCh c (x.modW7 (fun w => setFld w 26 23 (x.g0.dbc + 1)))).glvTripOpen c 0x0E
        else if x.g0.debounce ≤ x.g0.dbc then
          (if bit w3 32 then s.glvEnter c true cause 2 else s.glvTripUp c cause)
        else s.setCh c (x.modW7 (fun w => setFld w 26 23 (x.g0.dbc + 1)))
      | none =>
        let s := s.setCh c (x.modW7 (fun w => setFld w 26 23 0))
        if bit w3 32 then s.glvTripOpen c 0x0E else s

/-! ## Freshness (R118) -/

/-- Channel c, if ACTIVE, at the boundary that ends a beat; `had` says whether the closing ingress bank held a valid record. A channel
that is stale both ways trips once, with the lower code (R121). A lost downstream codeword counts as one further beat (R349). A count above a limit tightened since trips here (R131). -/
def State.glvFresh (s : State) (c : Nat) (had : Bool) : State :=
  let (s, ok) := if (s.ch c).g0.state = 0 then s.glvCompare c else (s, false)
  let x := s.ch c
  if !ok then s
  else
    let g := x.g0
    let staleUp := !had && decide (g.freshUp ≤ g.fup)
    let missed := (if x.wrote then 0 else 1) + (if x.lostDn then 1 else 0)
    let staleDn := decide (g.freshDn < g.fdn + missed) && decide (0 < missed)
    let up := if had then 0 else if staleUp then g.fup else g.fup + 1
    let dn := if staleDn then max g.fdn g.freshDn else g.fdn + missed
    let s := s.setCh c (x.modW7 (fun w => setFld (setFld w 18 15 up) 22 19 dn))
    if staleUp then s.glvTripStale c 0x10 else if staleDn then s.glvTripStale c 0x11 else s

/-- The owner fields of a channel change together in the device's table and in Glove W6 (R100, R106). -/
def Chan.setOwner (x : Chan) (o : Nat) : Chan :=
  { x.modEntry (fun g => { g with w6 := setFld g.w6 19 12 o }) with owner := BitVec.ofNat 8 o }

/-- The device changes the owner of channel c. The change reads the entry, so it compares the copies (R132); one that fails takes the new
owner too, as the device's table must agree with W6 (R106). -/
def State.glvOwner (s : State) (c o : Nat) : State := ((s.glvCompare c).1).modCh c (fun x => x.setOwner o)

end Sys2Proof.Machine
end

