-- ==== Sys2Proof/Machine/Qm.lean ====
section
/-! DEFINITION. The Queue Manager (chapter 03): entries in queue memory (R31, R89), pushes and pops (R93-R98), the staging
at a boundary (R91), the section push buffer (R94), the supervisor push registers, the handoff checks (R99). -/

namespace Sys2Proof.Machine

/-- Step queues are 0-32767, record queues 32768-65535 (R89). -/
def isStepQ (q : Nat) : Bool := decide (q < 32768)
def qDepth (q : Nat) : Nat := if isStepQ q then 8 else 16
def qWords (q : Nat) : Nat := if isStepQ q then 8 else 4
/-- Byte address of entry slot j of queue q (R31). -/
def qSlotAddr (q j : Nat) : Nat := 0x040000000 + q * 0x100 + j * (4 * qWords q)

/-- The QM reads a queue word: an uncorrectable one is delivered as zero and logged (Table 10.3, R486). -/
def State.qmReadWord (s : State) (ca : Nat) : Word × State :=
  if s.isBad ca then (0, s.eccUncorrectable ca) else (s.word ca, s)

def State.qmReadWords (s : State) (ca : Nat) : Nat → List Word × State
  | 0 => ([], s)
  | n + 1 =>
    let (w, s) := s.qmReadWord ca
    let (ws, s) := s.qmReadWords (ca + 4) n
    (w :: ws, s)

/-- A threshold event (R98): VALID, OCC, Q. A full store sets EVT_OVF. -/
def State.qmEvent (s : State) (q occ : Nat) : State :=
  let w := setFld (setFld (setBit 0 35 true) 20 16 occ) 15 0 q
  let (l, lost) := pushEvt s.qmEvts w
  let s := { s with qmEvts := l }
  if lost then s.setB .QM_STS F.QM_STS_EVT_OVF true else s

/-- An overflow drop of record queue q (R95): its drop count and QM_DROPS count it. -/
def State.qmDrop (s : State) (q : Nat) : State :=
  let x := s.q q
  (s.setQ q { x with drops := satAdd x.drops 1 255 }).incF .QM_DROPS F.QM_DROPS_COUNT

/-- A push that reaches queue q (R93, R95, R98). Outcome 0 OK, 1 FULL (step queue), 2 DROP (record queue). `evt` says
whether a crossing posts an event (R98: not for supervisor pushes to step queues). -/
def State.qmPush (s : State) (q : Nat) (ws : List Word) : State × Nat :=
  let x := s.q q
  if qDepth q ≤ x.occ then
    (if isStepQ q then (s, 1) else (s.qmDrop q, 2))
  else
    let slot := (x.head + x.occ) % qDepth q
    let s := s.setWords (qSlotAddr q slot) (ws.take (qWords q))
    let occ := x.occ + 1
    let s := s.setQ q { x with occ := occ, drops := 0, tags := x.tags ++ [x.drops] }
    let hi := s.getF .QM_THR F.QM_THR_REC_HIGH
    if !isStepQ q && decide (x.occ < hi) && decide (hi ≤ occ) then (s.qmEvent q occ, 0) else (s, 0)

/-- Removing the oldest entry of queue q: its slot is freed (R92, R96). -/
def Queue.popHead (x : Queue) (depth : Nat) : Queue :=
  { x with head := (x.head + 1) % depth, occ := x.occ - 1, tags := x.tags.drop 1 }

/-- A pop of a step queue through chio (R92, R93, R98). The entry leaves the queue at the trigger, so that a supervisor push later in the
beat finds its place free, and a threshold event is posted at once: R93 says only that it leaves before the next boundary, and the moment
is the model's choice (notes/assumptions/49.md). -/
def State.qmPopStep (s : State) (q : Nat) : State :=
  let x := s.q q
  if x.occ = 0 then s
  else
    let s := s.setQ q { x.popHead 8 with popped := true }
    let lo := s.getF .QM_THR F.QM_THR_STEP_LOW
    if lo < x.occ ∧ x.occ - 1 ≤ lo then s.qmEvent q (x.occ - 1) else s

/-- An export pop of a record queue (R90, R96): its four words and its drop tag. -/
def State.qmPopRecord (s : State) (q : Nat) : Option (List Word × Nat) × State :=
  let x := s.q q
  if x.occ = 0 then (none, s)
  else
    let (ws, s) := s.qmReadWords (qSlotAddr q x.head) 4
    (some (ws, x.tags.headD 0), s.setQ q (x.popHead 16))

/-- Staging of one queue at a boundary (R91): the head entry of a populated channel's step queue and the occupancy. -/
def State.qmStage (s : State) (q : Nat) : State :=
  let x := s.q q
  if isStepQ q && decide (0 < x.occ) && (s.ch q).populated then
    let (ws, s) := s.qmReadWords (qSlotAddr q x.head) 8
    s.setQ q { x with stWords := ws, stOcc := x.occ, popped := false }
  else s.setQ q { x with stWords := [], stOcc := x.occ, popped := false }

/-- The queues that have a record in the state. -/
def State.queues (s : State) : List Nat := s.queue.map (fun e => e.1)

/-! ## The section push buffer (R94) -/

/-- A chio push enters the section's buffer; the 1,025th and later of a beat are overflow drops (R94). The Bool says
whether it was taken. Such a drop is counted at its trigger, before the buffered pushes have reached the QM: R94 leaves the moment
open, and this is the model's choice (notes/assumptions/49.md). -/
def State.pushBuffer (s : State) (k : Nat) (c : Nat) (ws : List Word) : State × Bool :=
  let x := s.sect k
  if x.pushCnt < 1024 then
    (s.setSect k { x with pushBuf := x.pushBuf ++ [{ ch := c, words := ws }], pushCnt := x.pushCnt + 1 }, true)
  else (s.qmDrop (32768 + c), false)

/-- The oldest buffered push of section k reaches the QM. -/
def State.pushReach (s : State) (k : Nat) : State :=
  let x := s.sect k
  match x.pushBuf with
  | [] => s
  | p :: rest => ((s.setSect k { x with pushBuf := rest }).qmPush (32768 + p.ch) p.words).1

/-- Every buffered push reaches the QM before the boundary (R94). -/
def State.pushReachAll (s : State) (k : Nat) : Nat → State
  | 0 => s
  | n + 1 => (s.pushReach k).pushReachAll k n

/-! ## Supervisor pushes -/

/-- A write to QM_PUSH (R93): ignored while STS reads 3. The push is made; STS reads busy until it completes. -/
def State.qmPushWrite (s : State) (w : Word) : State :=
  if s.getF .QM_PUSH F.QM_PUSH_STS = 3 then s
  else
    let q := fld w 15 0
    let ws := (List.range 8).map (fun j => s.reg (.QM_PUSH_D j))
    let (s, r) := s.qmPush q ws
    { s.setF .QM_PUSH F.QM_PUSH_STS 3 with qmBusy := some r }

/-- The push completes and STS gives its outcome. -/
def State.qmPushFinish (s : State) : State :=
  match s.qmBusy with
  | some r => { s.setF .QM_PUSH F.QM_PUSH_STS r with qmBusy := none }
  | none => s

/-- A read of QM_EVT removes the oldest event (R98); 0 when there is none. -/
def State.qmEvtPop (s : State) : Word × State :=
  match s.qmEvts with
  | [] => (0, s)
  | w :: l => (w, { s with qmEvts := l })

/-! ## Handoff (R99-R103) -/

/-- The channels of a block. -/
def blockOf (first count : Nat) : List Nat := (List.range count).map (fun i => first + i)

/-- How many channels engine o owns in the device's table. -/
def State.ownedCount (s : State) (o : Nat) : Nat :=
  (s.chan.filter (fun e => e.2.owner.toNat == o && e.2.populated)).length

/-- The refusals of R99 for owner o and a block, apart from the one on B. -/
def State.handoffRefused (s : State) (o first count : Nat) : Bool :=
  let blk := blockOf first count
  decide (192 ≤ o) || decide (count = 0) || decide (256 < count) || decide (32768 < first + count) ||
  blk.any (fun c => !(s.ch c).populated) ||
  decide (256 < s.ownedCount o + (blk.filter (fun c => (s.ch c).owner.toNat != o)).length) ||
  !(s.sectState (o / 32) == 1 || s.running (o / 32))

/-- Arming (R99): refused with STS 3, else STS 1. A write while armed is ignored (R103). -/
def State.handoffArm (s : State) (w : Word) : State :=
  if s.getF .QM_HOFF F.QM_HOFF_STS = 1 then s
  else
    let w' := setFld (setFld 0 32 16 (fld w 32 16)) 14 0 (fld w 14 0)
    let b := s.getF .QM_HOFF_BEAT F.QM_HOFF_BEAT_BEAT
    let d := (b + 2 ^ 36 - (s.beatNum + 2) % 2 ^ 36) % 2 ^ 36
    if decide (2 ^ 35 ≤ d) || s.handoffRefused (fld w 32 25) (fld w 14 0) (fld w 24 16) then
      s.setReg .QM_HOFF (setFld w' 34 33 3)
    else s.setReg .QM_HOFF (setBit (setFld w' 34 33 1) 35 true)

/-- Cancelling (R103): while armed, STS reads 0 and OWNER, COUNT and FIRST keep their values. Otherwise the write sets
the fields it carries, and the outcome stays. -/
def State.handoffCancel (s : State) (w : Word) : State :=
  if s.getF .QM_HOFF F.QM_HOFF_STS = 1 then
    (s.setF .QM_HOFF F.QM_HOFF_STS 0).setB .QM_HOFF F.QM_HOFF_ARM false
  else s.setReg .QM_HOFF (setFld (setFld (s.reg .QM_HOFF) 32 16 (fld w 32 16)) 14 0 (fld w 14 0))

/-- An armed handoff at boundary B (R100, R493): checked again, for a fenced new owner and the conditions of R99, then the owner of
the block changes in the device's table and in Glove W6 together. -/
def State.handoffExecute (s : State) : State :=
  if s.getF .QM_HOFF F.QM_HOFF_STS = 1 ∧ s.getF .QM_HOFF_BEAT F.QM_HOFF_BEAT_BEAT = s.beatNum then
    let o := s.getF .QM_HOFF F.QM_HOFF_OWNER
    let s := s.setB .QM_HOFF F.QM_HOFF_ARM false
    if (s.engine o).fenced || s.handoffRefused o (s.getF .QM_HOFF F.QM_HOFF_FIRST) (s.getF .QM_HOFF F.QM_HOFF_COUNT) then
      s.setF .QM_HOFF F.QM_HOFF_STS 3
    else
      let s := (blockOf (s.getF .QM_HOFF F.QM_HOFF_FIRST) (s.getF .QM_HOFF F.QM_HOFF_COUNT)).foldl
        (fun st c => st.glvOwner c o) s
      s.setF .QM_HOFF F.QM_HOFF_STS 2
  else s

end Sys2Proof.Machine
end

