-- ==== Sys2Proof/Machine/Reply.lean ====
section
/-! DEFINITION. Replies of the command sequencer (R405, R406, R410), the end of a load session (R416, R428, R526), a section
that becomes EMPTY (R322, R438), and the end of supervisor firmware (R413). -/

namespace Sys2Proof.Machine

/-! ## Status codes, Table 16.4 -/
def stOK : Nat := 0x000
def stBUSY : Nat := 0x001
def stBAD_OPCODE : Nat := 0x002
def stSTATE : Nat := 0x003
def stBAD_PARAM : Nat := 0x004
def stBAD_CHECK : Nat := 0x005
def stAUTH : Nat := 0x006
def stSIG_FAIL : Nat := 0x007
def stROLLBACK : Nat := 0x008
def stNO_RESOURCE : Nat := 0x009
def stTIMEOUT : Nat := 0x00A
def stNOPEEK : Nat := 0x00B
def stPARTIAL : Nat := 0x00C

def State.modSeq (s : State) (f : Seq → Seq) : State := { s with seq := f s.seq }

/-- The section states in the layout of GET_STATUS W0. -/
def State.sectStates (s : State) : Word :=
  (List.range 6).foldl (fun w k => setFld w (3 * k + 2) (3 * k) (s.sectState k)) 0

/-- A reply enters the queue of four: STATE is taken now, and one that enters an empty queue raises REPLY unless its
command had NOIBI (R406, R407). -/
def State.enqueueReply (s : State) (r : Reply) : State :=
  let first := s.seq.replies.isEmpty
  let s := { s with seq := { s.seq with
    replies := s.seq.replies ++ [{ r with state := BitVec.ofNat 9 s.devState }] } }
  if first && !r.noibi then s.ibi 1 else s

/-- A command completes: its reply enters the queue, or waits outside while four are queued (R406). Every reply with status
STATE is counted (R410). -/
def State.reply (s : State) (status : Nat) (tag : BitVec 9) (noibi : Bool) (words : List Word) : State :=
  let s := if status = stSTATE then s.incF .HOST_STATE_ERR F.HOST_STATE_ERR_COUNT else s
  let r : Reply := { status := status, tag := tag, words := words, noibi := noibi, state := 0 }
  if s.seq.replies.length < 4 && s.seq.outside.isEmpty then s.enqueueReply r
  else { s with seq := { s.seq with outside := s.seq.outside ++ [r] } }

/-- A STATE reply carries the section states (R410). -/
def State.replyState (s : State) (tag : BitVec 9) (noibi : Bool) : State :=
  s.reply stSTATE tag noibi [s.sectStates]

/-- The mailbox is empty and no firmware command is awaited. -/
def State.clearMailbox (s : State) : State :=
  let s := s.setReg .HOST_MBX_STS (setFld (setBit (s.reg .HOST_MBX_STS) 35 false) 23 15 0)
  { s with seq := { s.seq with fw := none, mbx := [], mbxReply := [] } }

/-- The boundary that the reply of a STOP_SECTION in the mailbox (opcode 0x031) waits for: its section stops there (R489). -/
def State.stopBeat (s : State) : Option Word :=
  s.seq.fw.bind (fun f => if f.opcode = 0x031 then f.words[0]? else none)

/-- A STOP_SECTION is in the mailbox and its boundary still lies ahead: a section is still to stop there. -/
def State.stopWaits (s : State) : Bool :=
  match s.stopBeat with
  | some b => (List.range 6).any (fun k => (s.sect k).stopAt == some b)
  | none => false

/-! ## A section that becomes EMPTY -/

/-- The memories of a section. -/
def sectMems (k : Nat) : List MemId :=
  (List.range 32).flatMap (fun i => [MemId.sched (k * 32 + i), .spad (k * 32 + i)]) ++ (List.range 8).map (fun c => MemId.shared (k * 8 + c))

/-- No valid placement (Table 16.5a); the section's measurement clears (R438). -/
def State.emptySection (s : State) (k : Nat) : State :=
  let s := s.setF (.SEC_STATE k) F.SEC_STATE_STATE 0
  let s := s.setB (.SEC_PLACE k) F.SEC_PLACE_VALID false
  let s := { s with helm := { s.helm with
    meas := SMap.set (fun _ => []) s.helm.meas (3 + k) [], svn := SMap.set (fun _ => 0) s.helm.svn (3 + k) 0 } }
  s.modSect k (fun x => { x with startAt := none, stopAt := none })

/-- A load that fails leaves the section EMPTY and the contents of its memories undefined (R322). -/
def State.loadFailed (s : State) (k : Nat) : State := (sectMems k).foldl (fun st m => st.scramble m) (s.emptySection k)

/-! ## The load session -/

/-- The device states in which LOAD_BEGIN of a type is legal, Table 16.6: type 0x01 also in SAFE when PREV is
AWAIT_SUPERVISOR. -/
def loadLegal (ty st prev : Nat) : Bool :=
  if ty = 1 then st == 2 || (st == 6 && prev == 2)
  else if ty = 4 then st == 3 || st == 4
  else decide (3 ≤ st ∧ st ≤ 6)

/-- A LOAD_END that stands in the mailbox goes with its session. -/
def State.endCmd (s : State) : State := if s.seq.fw.any (fun f => f.opcode == 0x022) then s.clearMailbox else s

/-- A session ends without acceptance: its target section is left under R322 (R428), and a LOAD_END that still awaits its
reply gets `status`. -/
def State.endSession (s : State) (status : Nat) : State :=
  match s.seq.session with
  | none => s
  | some x =>
    let s := { s.endCmd with seq := { s.endCmd.seq with session := none } }
    let s := if x.type = 3 then s.loadFailed x.target else s
    if !x.closing then s else if status = stSTATE then s.replyState x.tag x.noibi else s.reply status x.tag x.noibi []

/-- A change of device state ends a session whose LOAD_BEGIN is no longer legal (R416). -/
def State.sessionCheck (s : State) : State :=
  match s.seq.session with
  | some x => if loadLegal x.type s.devState (s.getF .HOST_STATE F.HOST_STATE_PREV) then s else s.endSession stSTATE
  | none => s

/-- A reset of section k ends a session that targets it as LOAD_ABORT would (R428). -/
def State.sessionSect (s : State) (k : Nat) : State :=
  match s.seq.session with
  | some x => if x.type = 3 ∧ x.target = k then s.endSession stSTATE else s
  | none => s

/-- A firmware command that gets no reply is answered TIMEOUT (R413, R419); the session of a LOAD_END closes with that reply (R526). -/
def State.timeoutFirmware (s : State) : State :=
  match s.seq.fw with
  | some f =>
    let s := if f.opcode = 0x022 then s.endSession stTIMEOUT else (s.clearMailbox).reply stTIMEOUT f.tag f.noibi []
    { s with seq := { s.seq with timedOut := true } }
  | none => s

/-- HOST_STATE.SUP clears (R413): TIMEOUT answers a firmware command that still awaits its reply, a LOAD_END that firmware is
to complete among them. -/
def State.clearSup (s : State) : State :=
  let s := (s.setB .HOST_STATE F.HOST_STATE_SUP false).timeoutFirmware
  match s.seq.session with
  | some x => if x.closing ∧ 3 ≤ x.type then s.endSession stTIMEOUT else s
  | none => s

end Sys2Proof.Machine
end

