-- ==== Sys2Proof/Machine/Operands.lean ====
section
/-! DEFINITION. Sockets and moves (chapter 06): the socket table, the short subsets, the split of a bundle into moves, field
specifications, the trigger value of the post-increment forms. -/

namespace Sys2Proof.Machine

/-! ## Units and sockets (Table 6.5) -/

/-- Function units by their FEAT0.UNITS bit, and 13 for the iterative path of the fpu (R144, R191). -/
def uAlu0 : Nat := 0
def uAlu1 : Nat := 1
def uBfu : Nat := 2
def uMul : Nat := 3
def uDiv : Nat := 4
def uMac : Nat := 5
def uFpu : Nat := 6
def uLsu0 : Nat := 7
def uLsu1 : Nat := 8
def uCu : Nat := 9
def uStm : Nat := 10
def uChio : Nat := 11
def uLim : Nat := 12
def uFpl : Nat := 13

/-- The unit a trigger socket starts; `none` when the number is no trigger socket. -/
def trigUnit (k : Nat) : Option Nat :=
  if 0x04C ≤ k ∧ k ≤ 0x05F then some uAlu0
  else if 0x06C ≤ k ∧ k ≤ 0x07F then some uAlu1
  else if 0x090 ≤ k ∧ k ≤ 0x097 then some uBfu
  else if 0x0B0 ≤ k ∧ k ≤ 0x0B4 then some uMul
  else if 0x0D0 ≤ k ∧ k ≤ 0x0D3 then some uDiv
  else if 0x110 ≤ k ∧ k ≤ 0x12B then some uMac
  else if (0x150 ≤ k ∧ k ≤ 0x15A) ∨ (0x160 ≤ k ∧ k ≤ 0x167) then some uFpu
  else if (0x190 ≤ k ∧ k ≤ 0x19C) ∨ (0x1A0 ≤ k ∧ k ≤ 0x1A9) then some uLsu0
  else if (0x1D0 ≤ k ∧ k ≤ 0x1DC) ∨ (0x1E0 ≤ k ∧ k ≤ 0x1E9) then some uLsu1
  else if 0x210 ≤ k ∧ k ≤ 0x224 then some uCu
  else if 0x250 ≤ k ∧ k ≤ 0x255 then some uStm
  else if 0x270 ≤ k ∧ k ≤ 0x275 then some uChio
  else none

/-- The unit of an operand port (a destination that starts nothing); stm.src and stm.dst among them. -/
def portUnit (k : Nat) : Option Nat :=
  if k = 0x040 then some uAlu0 else if k = 0x060 then some uAlu1
  else if k = 0x080 ∨ k = 0x081 then some uBfu
  else if k = 0x0A0 then some uMul else if k = 0x0C0 then some uDiv else if k = 0x100 then some uMac
  else if k = 0x140 ∨ k = 0x141 then some uFpu
  else if k = 0x180 ∨ k = 0x181 then some uLsu0
  else if k = 0x1C0 ∨ k = 0x1C1 then some uLsu1
  else if k = 0x200 ∨ k = 0x201 then some uCu
  else if k = 0x240 ∨ k = 0x241 ∨ k = 0x242 then some uStm
  else if k = 0x260 then some uChio
  else if k = 0x280 ∨ k = 0x281 then some uLim
  else none

/-- The unit of a result port (a source); lim.y and the progress ports of stm among them. -/
def resUnit (k : Nat) : Option Nat :=
  if k = 0x041 then some uAlu0 else if k = 0x061 then some uAlu1 else if k = 0x084 then some uBfu
  else if k = 0x0A4 then some uMul else if k = 0x0C4 then some uDiv else if k = 0x104 then some uMac
  else if k = 0x144 then some uFpu else if k = 0x145 then some uFpl
  else if k = 0x184 ∨ k = 0x185 then some uLsu0
  else if k = 0x1C4 ∨ k = 0x1C5 then some uLsu1
  else if k = 0x204 then some uCu
  else if k = 0x241 ∨ k = 0x242 ∨ k = 0x244 then some uStm
  else if k = 0x264 ∨ k = 0x265 then some uChio
  else if k = 0x284 then some uLim
  else none

/-- Whether FEAT0.UNITS of engine e has unit u: the SVE has no chio (R182, R191). -/
def unitPresent (e u : Nat) : Bool := !(e == 192 && u == uChio)

/-- A source socket of engine e (R186, R182). -/
def isSource (e k : Nat) : Bool :=
  decide (k ≤ 0x037) || (decide (0x3E0 ≤ k) && decide (k ≤ 0x3FF)) ||
    (match resUnit k with | some u => unitPresent e u | none => false)

/-- A destination socket of engine e (R186, R182). -/
def isDest (e k : Nat) : Bool :=
  decide (k ≤ 0x037) ||
    (match trigUnit k with | some u => unitPresent e u | none => false) ||
    (match portUnit k with | some u => unitPresent e u | none => false)

/-- Ports and triggers of mac and fpu, to which A registers do not connect (R181). -/
def macOrFpuDest (k : Nat) : Bool := decide (0x100 ≤ k) && decide (k ≤ 0x167)

/-! ## Short subsets (Tables 6.7 and 6.8) -/

def shortPorts : List Nat :=
  [0x040, 0x060, 0x080, 0x081, 0x0A0, 0x0C0, 0x100, 0x140, 0x141, 0x180, 0x181, 0x1C0, 0x1C1, 0x200, 0x201, 0x240, 0x241,
   0x242, 0x260, 0x280, 0x281]
/-- add, sub, and, or, xor, shl, shr, sar, ceq, clt, cltu, cle of an alu whose add is socket b. -/
def shortAlu (b : Nat) : List Nat := [b, b + 1, b + 2, b + 3, b + 4, b + 6, b + 7, b + 8, b + 14, b + 16, b + 17, b + 18]
def shortTail : List Nat :=
  [0x190, 0x196, 0x195, 0x199, 0x1D0, 0x1D6, 0x1D5, 0x1D9, 0x114, 0x115, 0x120, 0x121, 0x155, 0x157, 0x158, 0x270, 0x271,
   0x219, 0x21A, 0x213, 0x214, 0x210, 0x0B0, 0x090, 0x091, 0x092, 0x096]

/-- The socket of a short destination code (Table 6.7). -/
def shortDst (c : Nat) : Nat :=
  if c < 0x38 then c
  else (shortPorts ++ shortAlu 0x04C ++ shortAlu 0x06C ++ shortTail).getD (c - 0x38) 0

def shortResults : List Nat :=
  [0x041, 0x061, 0x084, 0x0A4, 0x0C4, 0x104, 0x144, 0x145, 0x184, 0x185, 0x1C4, 0x1C5, 0x204, 0x244, 0x241, 0x242, 0x264,
   0x265, 0x284]

/-- The socket of a short source code (Table 6.8); codes 0x6B-0x7F are reserved and map to a number that is no source. -/
def shortSrc (c : Nat) : Nat :=
  if c < 0x30 then c
  else if c < 0x50 then 0x3E0 + (c - 0x30)
  else if c < 0x63 then shortResults.getD (c - 0x50) 0x3DF
  else if c < 0x6B then 0x30 + (c - 0x63)
  else 0x3DF

/-! ## Moves and bundles (R171-R178) -/

/-- The source of a move: a socket or an immediate. -/
inductive Src where
  | sock (k : Nat)
  | imm (w : Word)
  deriving DecidableEq, Repr

/-- A decoded move: guard predicate and its negation, destination, source, and whether a must-be-zero field is not zero. -/
structure Move where
  prd : Nat
  neg : Bool
  dst : Nat
  src : Src
  bad : Bool
  deriving DecidableEq, Repr

/-- The never guard: P0 negated (R176, R178). -/
def Move.never (m : Move) : Bool := m.prd == 0 && m.neg

/-- A short move (Table 6.2). -/
def decodeShort (p : Half) : Move :=
  let g := (p.toNat >>> 14) % 4
  { prd := if g = 3 then 1 else g, neg := g == 3, dst := shortDst (p.toNat % 128),
    src := .sock (shortSrc ((p.toNat >>> 7) % 128)), bad := false }

/-- A long move (Table 6.3); with I = 0 bits 8:0 must be zero (R177). -/
def decodeLong (w : Word) : Move :=
  { prd := fld w 31 29, neg := bit w 32, dst := fld w 28 19,
    src := if bit w 33 then .imm (wordOfInt (sext 19 (fld w 18 0))) else .sock (fld w 18 9),
    bad := !bit w 33 && fld w 8 0 != 0 }

/-- Splitting a bundle at code address pc (R174): the moves, the address of the next bundle, and whether the sixth move had
E = 0. `parcel` reads a code parcel. -/
def splitBundle (parcel : Nat → Half) : Nat → Nat → List Move → (List Move × Nat × Bool)
  | 0, p, acc => (acc, p, true)
  | n + 1, p, acc =>
    let f := parcel p
    let (m, p') := if f.getLsbD 17 then (decodeLong (ofHalves f (parcel (p + 1))), p + 2) else (decodeShort f, p + 1)
    if f.getLsbD 16 then (acc ++ [m], p', false) else splitBundle parcel n p' (acc ++ [m])

/-- The code address of the bundle after the one at p. -/
def nextBundle (parcel : Nat → Half) (p : Nat) : Nat := (splitBundle parcel 6 p []).2.1

/-! ## Field specifications and post-increment values -/

/-- Effective length and position of a field specification (R196). -/
def fieldSpec (w : Word) : Nat × Nat :=
  let len := fld w 11 6
  let pos := fld w 5 0
  (if 36 ≤ pos then 0 else if len ≤ 36 - pos then len else 36 - pos, pos)

/-- The trigger value of a post-increment form (Table 6.6): INC, MOD, AREG. -/
def incSpec (t : Word) : Int × Nat × Nat := (sext 10 (fld t 18 9), fld t 8 4, fld t 3 0)

/-- A MOD value that raises ILLEGAL_SOCKET (R187). -/
def incBad (t : Word) : Bool := let m := (incSpec t).2.1; decide (1 ≤ m ∧ m ≤ 3) || decide (17 ≤ m)

/-- The register's new value (R187). -/
def incValue (t a : Word) : Word :=
  let (inc, md, _) := incSpec t
  let sum := a + wordOfInt inc
  if md = 0 then sum
  else let m := BitVec.ofNat 36 (2 ^ md - 1); (a &&& ~~~ m) ||| (sum &&& m)

end Sys2Proof.Machine
end

