-- ==== Sys2Proof/Machine/Stall.lean ====
section
/-! DEFINITION. Section stalls and the waits of an engine (R18, R62, R63, R67, R150): which waits an engine is in, when a section
stands still, which activity goes on, how a wait is counted. -/

namespace Sys2Proof.Machine

/-- Two byte ranges overlap. -/
def overlaps (a n b m : Nat) : Bool := decide (a < b + m) && decide (b < a + n)

/-- A load of the engine is held by the store buffer (R160): it has its data from no entry, and older entries hold bytes of it. -/
def Engine.loadHeld (x : Engine) : Bool :=
  (x.loads0 ++ x.loads1).any (fun l => l.fwd.isNone &&
    (x.sb ++ x.sbWait).any (fun b => decide (b.seq < l.seq) && overlaps b.addr b.bytes.length l.addr l.size))

/-- A read of the result of lsu unit u would be early (R143): its latest load has not returned, and no other of the unit has
since it was triggered. -/
def Engine.earlyLoad (x : Engine) (u : Nat) : Bool :=
  match (x.loadsOf (u - uLsu0)).getLast? with
  | some l => decide (x.doneAt u ≤ l.trig)
  | none => false

/-- The engine is in a wait that ends with another command: a fence beyond its minimum cost, a trigger held by a busy unit, a
full store buffer, a load held by it, a streamed read, an early read of a load. -/
def Engine.waits (x : Engine) : Bool :=
  x.fence.isSome || !x.held.isEmpty || !x.sbWait.isEmpty || x.loadHeld || x.waitRead.isSome || x.early.any x.earlyLoad

/-- Engine e stalls its section (R62, R150): a running deterministic-mode engine in a wait; in performance mode only a streamed
read does (R67). -/
def State.engStalls (s : State) (e : Nat) : Bool :=
  let x := s.engine e
  x.waitRead.isSome || (!x.perf e && x.inBeat && !x.locked && !x.fenced && !x.halted && x.waits)

/-- Section k stands still (R18). -/
def State.stalled (s : State) (k : Nat) : Bool := (List.range 32).any (fun i => s.engStalls (k * 32 + i))

/-- The clock of engine e stands still: its section is stalled. -/
def State.engStalled (s : State) (e : Nat) : Bool := decide (e < 192) && s.stalled (sectOf e)

/-- An activity of engine e goes on: the section is not stalled, or the engine's own wait awaits it (R150). -/
def State.advances (s : State) (e : Nat) (awaited : Engine → Bool) : Bool :=
  !s.engStalled e || (s.engStalls e && awaited (s.engine e))

/-- An activity that a halt of the engine stops as well (Table 18.3). -/
def State.unitRuns (s : State) (e : Nat) (awaited : Engine → Bool) : Bool := !(s.engine e).halted && s.advances e awaited

/-- The engine waits for a long operation: a fence.l or fence.a, or a trigger held by a unit whose sockets lie in lo to hi. -/
def Engine.awaitsLong (x : Engine) (lo hi : Nat) : Bool :=
  (match x.fence with | some k => k != 0 | none => false) || x.held.any (fun h => decide (lo ≤ h.socket ∧ h.socket ≤ hi))

/-- The engine waits for every store of its own: a fence.m or fence.a. -/
def Engine.awaitsAll (x : Engine) : Bool := match x.fence with | some k => k != 1 | none => false

/-- The engine waits for its store buffer: a fence.m or fence.a, a full store buffer, a load that it holds. -/
def Engine.awaitsStores (x : Engine) : Bool := x.awaitsAll || !x.sbWait.isEmpty || x.loadHeld

/-- The loads of the units whose results an early read awaits. -/
def Engine.earlyAwaited (x : Engine) : List Load :=
  x.early.flatMap (fun u => x.loadsOf (u - uLsu0)) |>.filter (fun l => l.fwd.isNone)

/-- The engine waits for its store number q of program order to the n bytes from a, which has left the store buffer: a fence.m or
fence.a, a load that an early read or the store buffer awaits and that must see it (R161), or an awaited entry of the store buffer
that must follow it. -/
def Engine.awaitsStore (x : Engine) (q a n : Nat) : Bool :=
  x.awaitsAll || (if x.loadHeld then x.loads0 ++ x.loads1 else x.earlyAwaited).any (fun l =>
      l.fwd.isNone && decide (q < l.seq) && overlaps a n l.addr l.size) ||
    (x.awaitsStores && x.sb.any (fun b => decide (q < b.seq) && overlaps a n b.addr b.bytes.length))

/-- A wait of a deterministic engine is a schedule stall of d cycles (R150, R302). -/
def State.countStall (s : State) (e d : Nat) : State :=
  let x := s.engine e
  let x := x.setCsrW e 0x001 (setBit (x.csrW e 0x001) 11 true)
  let s := s.setEngine e (x.countCsr e 0x144 d)
  (s.modSect (sectOf e) (fun k => { k with sched := true })).sectStall (sectOf e) x.cyc d

/-- A wait begins that ends with another command. In deterministic mode it is a schedule stall, and how many cycles it will have
lasted is a free value of at least one (notes/assumptions/4.md). In performance mode its cycles pass one by one, each with a
BUNDLE_ISSUE that finds the engine waiting (State.waitCycle). -/
def State.waitBegin (s : State) (e : Nat) : State :=
  if (s.engine e).perf e then s
  else
    let p := s.drawNat 18
    p.2.countStall e (p.1 + 1)

/-- One cycle in which a performance-mode engine's issue is held (R67, R302). -/
def State.waitCycle (s : State) (e : Nat) : State :=
  let x := s.engine e
  if x.perf e then s.setEngine e { x.countCsr e 0x146 1 with cyc := x.cyc + 1 } else s

end Sys2Proof.Machine
end

