-- ==== Sys2Proof/Machine/Units.lean ====
section
/-! DEFINITION. What the integer units compute (chapter 07): the ALU operations, the bit-field unit, the multiplier, the
divider and the multiply-accumulate unit, as functions of their operands. -/

namespace Sys2Proof.Machine

/-! ## ALU (R194, R195): o is the operand port, t the trigger value -/

def ofBool (b : Bool) : Word := if b then 1 else 0
/-- The shift amount t[5:0]. -/
def shAmt (t : Word) : Nat := fld t 5 0

def aluAdd (o t : Word) : Word := o + t
def aluSub (o t : Word) : Word := o - t
def aluAnd (o t : Word) : Word := o &&& t
def aluOr (o t : Word) : Word := o ||| t
def aluXor (o t : Word) : Word := o ^^^ t
def aluAndn (o t : Word) : Word := o &&& ~~~ t
def aluShl (o t : Word) : Word := if 36 ≤ shAmt t then 0 else o <<< shAmt t
def aluShr (o t : Word) : Word := if 36 ≤ shAmt t then 0 else o >>> shAmt t
def aluSar (o t : Word) : Word := if 36 ≤ shAmt t then (if bit o 35 then BitVec.allOnes 36 else 0) else o.sshiftRight (shAmt t)
def aluRol (o t : Word) : Word := let n := shAmt t % 36; (o <<< n) ||| (o >>> (36 - n))
def aluMin (o t : Word) : Word := if o.slt t then o else t
def aluMax (o t : Word) : Word := if o.slt t then t else o
def aluMinu (o t : Word) : Word := if o.ult t then o else t
def aluMaxu (o t : Word) : Word := if o.ult t then t else o
def aluCeq (o t : Word) : Word := ofBool (o == t)
def aluCne (o t : Word) : Word := ofBool (o != t)
def aluClt (o t : Word) : Word := ofBool (o.slt t)
def aluCltu (o t : Word) : Word := ofBool (o.ult t)
def aluCle (o t : Word) : Word := ofBool (o.sle t)
def aluCleu (o t : Word) : Word := ofBool (o.ule t)

/-! ## Bit-field unit (R196-R198) -/

def bfuExt (o t : Word) : Word := let (l, p) := fieldSpec t; wordOfInt (sext l (o.toNat >>> p))
def bfuExtu (o t : Word) : Word := let (l, p) := fieldSpec t; BitVec.ofNat 36 ((o.toNat >>> p) % 2 ^ l)
/-- ins: o with the field that o2 names replaced by the low bits of the value. -/
def bfuIns (o o2 v : Word) : Word :=
  let (l, p) := fieldSpec o2
  if l = 0 then o else setFld o (p + l - 1) p v.toNat
def bfuClz (v : Word) : Word := BitVec.ofNat 36 (if v = 0 then 36 else 35 - Nat.log2 v.toNat)
/-- Trailing zeros of v, counting from bit `i`; `n` bits remain. -/
def ctzFrom (v : Word) : Nat → Nat → Nat
  | 0, i => i
  | n + 1, i => if bit v i then i else ctzFrom v n (i + 1)
def bfuCtz (v : Word) : Word := BitVec.ofNat 36 (ctzFrom v 36 0)
def bfuPopc (v : Word) : Word := BitVec.ofNat 36 (popcount v)
/-- perm (Table 7.3): output byte j from control nibble j. -/
def permByte (o : Word) (nib : Nat) : Byte9 :=
  let b := byteOf o (nib % 4)
  match nib / 4 with
  | 0 => b
  | 1 => 0
  | 2 => if b.getLsbD 8 then 0x1FF else 0
  | _ => 0x1FF
def bfuPerm (o t : Word) : Word :=
  (List.range 4).foldl (fun w j => setByteOf w j (permByte o (fld t (4 * j + 3) (4 * j)))) 0
def bfuSwh (v : Word) : Word := ofHalves (h0 v) (h1 v)

/-! ## Multiplier (R199) -/

def mulMul (o t : Word) : Word := o * t
def mulMulh (o t : Word) : Word := wordOfInt ((o.toInt * t.toInt) / 2 ^ 36)
def mulMulhu (o t : Word) : Word := BitVec.ofNat 36 ((o.toNat * t.toNat) / 2 ^ 36)
def mulMul12 (o t : Word) : Word := wordOfInt (sext 12 o.toNat * sext 12 t.toNat)
def mulMul24 (o t : Word) : Word := wordOfInt (sext 24 o.toNat * sext 24 t.toNat)

/-- Operation and latency of mul in the order of its trigger sockets (Table 7.4). -/
def mulFns : List ((Word → Word → Word) × Nat) :=
  [(mulMul, 3), (mulMulh, 3), (mulMulhu, 3), (mulMul12, 1), (mulMul24, 2)]

/-- The operation with trigger socket 0x0B0 + i. -/
def mulAt (i : Nat) : (Word → Word → Word) × Nat := mulFns.getD i (mulMul, 3)

/-! ## Divider (R200-R202): truncation toward zero; the remainder takes the sign of the dividend -/

def divDiv (o t : Word) : Word := wordOfInt (Int.tdiv o.toInt t.toInt)
def divDivu (o t : Word) : Word := BitVec.ofNat 36 (o.toNat / t.toNat)
def divRem (o t : Word) : Word := wordOfInt (Int.tmod o.toInt t.toInt)
def divRemu (o t : Word) : Word := BitVec.ofNat 36 (o.toNat % t.toNat)
/-- The operands of R202, whose quotient is 2^35. -/
def divOverflows (o t : Word) : Bool := o == 0x800000000#36 && t == 0xFFFFFFFFF#36

/-! ## Multiply-accumulate (R203-R205) -/

/-- The signed product, sign-extended to 80 bits. -/
def macProd (o t : Word) : BitVec 80 := BitVec.ofInt 80 (o.toInt * t.toInt)

/-- rd: shift, round (0 truncation, 1 nearest-even, 2 nearest-away) and saturate (R205). -/
def macRead (acc : BitVec 80) (t : Word) : Word :=
  let a := acc.toInt
  let sh := fld t 5 0
  let rnd := fld t 7 6
  let q := a / (2 ^ sh : Nat)
  let r := a - q * (2 ^ sh : Nat)
  let h : Int := ((2 ^ (sh - 1) : Nat) : Int)
  let q := if sh = 0 then q
    else if rnd = 1 ∧ (r > h ∨ (r = h ∧ q % 2 = 1)) then q + 1
    else if rnd = 2 ∧ (r > h ∨ (r = h ∧ 0 ≤ a)) then q + 1
    else q
  if bit t 8 ∧ q > 2 ^ 35 - 1 then 0x7FFFFFFFF#36
  else if bit t 8 ∧ q < -(2 ^ 35 : Int) then 0x800000000#36
  else wordOfInt q

/-- get: part 0 bits 35:0, part 1 bits 71:36, part 2 bits 79:72 (Table 7.5). -/
def macPart (acc : BitVec 80) (part : Nat) : Word :=
  if part = 2 then BitVec.ofNat 36 (acc.toNat >>> 72) else BitVec.ofNat 36 (acc.toNat >>> (36 * part))

/-- put: one part replaced (Table 7.5). -/
def macSetPart (acc : BitVec 80) (part : Nat) (o : Word) : BitVec 80 :=
  let w := if part = 2 then 8 else 36
  let m := (2 ^ w - 1) <<< (36 * part)
  (acc &&& ~~~ (BitVec.ofNat 80 m)) ||| BitVec.ofNat 80 ((o.toNat % 2 ^ w) <<< (36 * part))

end Sys2Proof.Machine
end

