-- ==== Sys2Proof/Machine/Entry.lean ====
section
/-! DEFINITION. Taking an entry and returning from one (chapter 09): the vector table, the frame, faults and their
escalation, stacking failures, LOCKED, interrupts, gates, and the return of rti and retg. -/

namespace Sys2Proof.Machine

/-! ## Writing a CSR -/

/-- A write to DBG_TXD (R467). -/
def State.txdPut (s : State) (e : Nat) (w : Word) : State :=
  if (SMap.get (fun _ => none) s.dbg.txd e).isSome then
    { s with dbg := { s.dbg with txLost := SMap.set (fun _ => false) s.dbg.txLost e true } }
  else { s with dbg := { s.dbg with txd := SMap.set (fun _ => none) s.dbg.txd e (some (setFld w 35 32 0)) } }

/-- A software write of CSR n by the access types of its fields (R8), with the actions of KICK (R275) and DBG_TXD. -/
def State.csrWrite (s : State) (e n : Nat) (w : Word) : State :=
  let x := s.engine e
  if n = 0x011 then s.setEngine e { x with imask := BitVec.ofNat 3 (fld w 2 0) }
  else if 0x03C ≤ n ∧ n ≤ 0x03F then s.setEngine e (x.setSp (n - 0x03C) w)
  else if 0x100 ≤ n ∧ n ≤ 0x103 then
    { s with dbg := { s.dbg with cmp := SMap.set (fun _ => 0) s.dbg.cmp (e * 8 + (n - 0x100)) (applyWrite (csrFields n) false 0 w) } }
  else if 0x108 ≤ n ∧ n ≤ 0x10B then
    { s with dbg := { s.dbg with cmp := SMap.set (fun _ => 0) s.dbg.cmp (e * 8 + 4 + (n - 0x108)) w } }
  else if n = 0x061 then
    (if bit w 35 then s.setEngine e (x.setCsrW e 0x061 (put 23 0 (fld (x.csrW e 0x060) 23 0))) else s)
  else if n = 0x130 then s.txdPut e w
  else if 0x140 ≤ n ∧ n ≤ 0x143 then (s.cntCatch e).modEngine e (fun x => x.setCsrW e n w)
  else s.setEngine e (x.setCsrW e n (applyWrite (csrFields n) false (x.csrW e n) w))

/-- A CSR write that is still held takes its place (R211). -/
def State.csrSettle (s : State) (e : Nat) : State :=
  match (s.engine e).csrLate with
  | some (n, w, _) => (s.modEngine e (fun x => { x with csrLate := none })).csrWrite e n w
  | none => s

/-! ## Units at an entry and at any later cycle -/

/-- FPSTS: the sticky flags take the flags of a completed operation (R237). -/
def Engine.orFlags (x : Engine) (e fl : Nat) : Engine :=
  x.setCsrW e 0x051 (x.csrW e 0x051 ||| BitVec.ofNat 36 (fl % 32))

/-- A short operation completes (R141, R237, R239): its result ports, its flags, and a pending fault when it raises an
enabled flag; two at one boundary make one fault that names the earlier. -/
def Engine.land (x : Engine) (e : Nat) (f : Flight) : Engine :=
  let x := f.writes.foldl (fun y p => y.setResult p.1 p.2) x
  let x := if f.writes.isEmpty then x else x.setDone f.unit f.due
  let x := if f.flags = 0 then x else x.orFlags e f.flags
  if f.flags &&& f.enabled = 0 then x
  else match x.fpShort with
    | none => { x with fpShort := some (f.pc, f.flags) }
    | some (p, fl) => { x with fpShort := some (p, fl ||| f.flags) }

/-- Flights land in the order of their completion, the later-triggered of one cycle last (R142). -/
def flightBefore (a b : Flight) : Bool := decide (a.due < b.due) || (a.due == b.due && decide (a.trig ≤ b.trig))

def insertFlight (f : Flight) : List Flight → List Flight
  | [] => [f]
  | g :: l => if flightBefore g f then g :: insertFlight f l else f :: g :: l

/-- Every operation due in or before cycle c completes. -/
def Engine.landUpTo (x : Engine) (e c : Nat) : Engine :=
  let now := x.flights.filter (fun f => decide (f.due ≤ c))
  now.foldl (fun y f => y.land e f) { x with flights := x.flights.filter (fun f => !decide (f.due ≤ c)) }

/-- The first held trigger whose socket lies in lo..hi, and the others. -/
def takeHeld (lo hi : Nat) : List HeldTrig → Option HeldTrig × List HeldTrig
  | [] => (none, [])
  | h :: l => if lo ≤ h.socket ∧ h.socket ≤ hi then (some h, l) else let (r, l') := takeHeld lo hi l; (r, h :: l')

/-- Every short operation in flight completes (R266, R520), and behind it one that a busy mul holds. -/
def Engine.landAll (x : Engine) (e : Nat) : Engine :=
  let x := x.flights.foldl (fun y f => y.land e f) { x with flights := [] }
  match takeHeld 0x0B0 0x0B4 x.held with
  | (some h, rest) => { x.setResult 0x0A4 ((mulAt (h.socket - 0x0B0)).1 h.a h.t) with held := rest }
  | (none, _) => x

/-- Post-increments that have become visible in or before cycle c (R187). -/
def Engine.applyInc (x : Engine) (c : Nat) : Engine :=
  let now := x.aInc.filter (fun p => decide (p.2.2 ≤ c))
  now.foldl (fun y p => y.setA p.1 p.2.1) { x with aInc := x.aInc.filter (fun p => !decide (p.2.2 ≤ c)) }

/-! ## The frame (Tables 9.3 and 9.5) -/

/-- Where a word of a stack, vector table or gate table may lie: the local scratchpad, or supervisor memory for the SVE;
its canonical address (R248, R250, R259). -/
def ctrlLoc (e a : Nat) : Option Nat :=
  if a + 4 ≤ 0x10000 then some (spadBase e + a)
  else if e = 192 ∧ 0x080000000 ≤ a ∧ a + 4 ≤ 0x080100000 then some a
  else none

/-- REGION and OFFSET of a code address (Table 9.5); `none` outside Table 6.1. -/
def codeRegion (t : Nat) : Option (Nat × Nat) :=
  if t < 0x4000 then some (0, t)
  else if 0x40000 ≤ t ∧ t < 0x60000 then some (1, t - 0x40000)
  else if 0x40000000 ≤ t ∧ t < 0x40080000 then some (2, t - 0x40000000)
  else none

/-- The code address of REGION and OFFSET. -/
def regionCode (r o : Nat) : Nat := if r = 0 then o else if r = 1 then 0x40000 + o else 0x40000000 + o

/-- Bits 32:7 of W4 for the pending branch (Table 9.5): zero when no delay slot is left; a taken target outside Table 6.1
has no REGION, and its REGION and OFFSET are the free value `free` (22 bits). -/
def pendWord (br : Option PendBranch) (efw : Bool) (free : Nat) : Word :=
  match br with
  | none => setBit 0 10 efw
  | some b =>
    let w := setBit (setBit (put 8 7 b.ds) 9 b.taken) 10 efw
    match codeRegion b.target.toNat with
    | some (r, o) => setFld (setFld w 32 13 o) 12 11 r
    | none => setFld w 32 11 free

/-- Cycles since cycle 0 of the beat, stalls included (R250, W7); since the last boundary for the SVE. -/
def State.beatCycles (s : State) (e : Nat) : Nat :=
  (s.engine e).cyc + (if e < 192 then (s.sect (sectOf e)).stallCyc else 0)

/-- ESTS as an entry writes it: EFV kept, KIND, ORIG, PRING, PIMASK (R250). -/
def Engine.entryEsts (x : Engine) (e kind orig : Nat) : Word :=
  let w := setBit 0 23 (bit (x.csrW e 0x021) 23)
  setFld (setFld (setFld (setFld w 22 17 orig) 16 15 kind) 4 3 x.ring.toNat) 2 0 x.imask.toNat

/-- The eight frame words. -/
def State.frame (s : State) (e : Nat) (epc ests : Word) (efw : Bool) : List Word :=
  let x := s.engine e
  let t := x.rsTop.toNat
  let cyc := s.beatCycles e
  [epc, ests, setFld (put 8 4 x.rsDepth.toNat) 3 0 t, x.rsEntry ((t + 15) % 16),
   pendWord x.branch efw (Config.freeNat s.fresh) ||| BitVec.ofNat 36 (x.p.toNat >>> 1),
   x.dReg 0, x.dReg 1,
   setFld (put 35 18 s.beatNum) 17 0 (if cyc ≤ 0x3FFFF then cyc else 0x3FFFF)]

/-- The stack conditions of R250 for ring r with stack pointer sp: the canonical address of the frame. -/
def Engine.frameLoc (x : Engine) (e r : Nat) (sp : Nat) : Option Nat :=
  if sp % 8 = 0 ∧ sp ≤ (x.csrW e (0x034 + r)).toNat ∧ (x.csrW e (0x030 + r)).toNat + 0x20 ≤ sp then
    match ctrlLoc e (sp - 0x20), ctrlLoc e (sp - 4) with
    | some lo, some hi => if hi = lo + 0x1C then some lo else none
    | _, _ => none
  else none

/-! ## The vector table (R248) -/

inductive VecRead where
  | unreadable (a : Nat)
  | invalid
  | entry (w : Word)
  deriving DecidableEq, Repr

/-- Entry v of the vector table of engine e. -/
def State.vector (s : State) (e v : Nat) : VecRead :=
  let a := ((s.engine e).csrW e 0x024).toNat + 4 * v
  match ctrlLoc e a with
  | none => .unreadable a
  | some ca => if s.isBad ca then .unreadable a else
      let w := s.word ca
      if bit w 35 then .entry w else .invalid

/-- A word of a vector, gate table or frame is read: an uncorrectable one is logged (R289, R486), a single-bit error is
corrected and counted (R288). -/
def State.ctrlSeen (s : State) (e a : Nat) : State :=
  match ctrlLoc e a with
  | some ca => if s.isBad ca then s.eccUncorrectable ca else s.softRead ca (.engine e)
  | none => s

/-- Entry v of the vector table is read. -/
def State.vectorSeen (s : State) (e v : Nat) : State := s.ctrlSeen e (((s.engine e).csrW e 0x024).toNat + 4 * v)

/-! ## LOCKED (R265) -/

/-- The engine is halted, or in a step, which is no resume (R459). -/
def Engine.inHalt (x : Engine) : Bool := x.halted || x.stepLeft.isSome

/-- Some engine of section k is halted or in a step. -/
def State.anyHalted (s : State) (k : Nat) : Bool := (List.range 32).any (fun i => (s.engine (k * 32 + i)).inHalt)

/-- A halt of engine n has ended without a resume (R457): where it was the last of its section, R455 does not apply at the next
boundary. -/
def State.haltEnded (s : State) (n : Nat) (was : Bool) : State :=
  if was && decide (n < 192) && !s.anyHalted (sectOf n) then s.modSect (sectOf n) (fun x => { x with dbgHalted := false }) else s

/-- An engine becomes LOCKED: it issues nothing further, any halt of it ends (R457), the Gong fires, its channels are parked
with SECTION, SECTION_FAULT is raised (ENGF); for the SVE, SUP clears (R413). -/
def State.lockEngine (s : State) (e : Nat) : State :=
  let was := (s.engine e).inHalt
  let s := (s.modEngine e (fun x => { x with locked := true, halted := false, haltReq := none, stepLeft := none, stepNoInt := false })).haltEnded e was
  let s := s.fireSource F.DBG_GONG_SRC_LOCKED
  if e < 192 then
    let s := s.forChannels (fun _ x => x.g0.owner == e) (fun st c => st.glvPark c 0x1B)
    (s.setB (.SEC_STATE (sectOf e)) F.SEC_STATE_ENGF true).logEvt 4 e
  else s.clearSup

/-! ## Entering -/

/-- What every entry does to the engine beside the frame (R251, R252, R266): short operations complete, a running stm
operation is suspended, the reservation is cleared, the pending branch and the endframe wait are in the frame. The first
handler bundle issues six cycles after the bundle that does not issue. After an acceptance or a gate entry (`calm`) no interrupt
is accepted before that bundle (R247). -/
def Engine.intoHandler (x : Engine) (e : Nat) (ring imask entry : Nat) (calm : Bool) : Engine :=
  let x := (x.applyInc (x.cyc + 2)).landAll e
  { x with
    pc := BitVec.ofNat 36 entry, ring := BitVec.ofNat 2 ring, imask := BitVec.ofNat 3 imask, resv := none,
    branch := none, efWait := false, nextPc := none, fence := none, early := [],
    stm := { x.stm with susp := x.stm.susp || x.stm.op != 0 }, cyc := x.cyc + 6, fresh := calm }

/-- An entry of KIND 1 or 2 is an acceptance or a gate entry. -/
def calmKind (kind : Nat) : Bool := kind == 1 || kind == 2

/-- EPC, ESTS, ECAUSE and EADDR take the values of an entry (R251, R255). -/
def Engine.setCause (x : Engine) (e : Nat) (epc ests : Word) (code : Nat) (eaddr : Word) : Engine :=
  (((x.setCsrW e 0x020 epc).setCsrW e 0x021 ests).setCsrW e 0x022 (BitVec.ofNat 36 code)).setCsrW e 0x023 eaddr

/-- A stacking failure (R264, R521, R265): the frame goes to EFRAME0-7, EFV sets, ECAUSE is STACK_FAULT, the ring-0 SP is
loaded from SP0_RESET, and entry 0x0F is entered without a frame; LOCKED when EFV is set already or 0x0F cannot be used. -/
def State.stackFail (s : State) (e : Nat) (ws : List Word) (eaddr : Word) : State :=
  let s := s.csrSettle e
  let x := (s.engine e).applyInc ((s.engine e).cyc + 2)
  if bit (x.csrW e 0x021) 23 then s.lockEngine e
  else
    let epc := ws.getD 0 0
    let ests := setBit (ws.getD 1 0) 23 true
    let x := (List.range 8).foldl (fun y k => y.setCsrW e (0x040 + k) (ws.getD k 0)) x
    let x := (x.setCause e epc ests 0x0B eaddr).setSp 0 (x.csrW e 0x038)
    let s := s.setEngine e x
    let s := { s with fresh := s.fresh + 1 }
    let v := s.vector e 0x0F
    let s := s.vectorSeen e 0x0F
    match v with
    | .entry w => s.modEngine e (fun y => y.intoHandler e 0 7 (fld w 30 0) (calmKind (fld ests 16 15)))
    | _ => s.lockEngine e

/-- Pushing the frame on the stack of the handler's ring and entering (R250 to R252). A CSR write still held and a
post-increment of the bundle before complete first, so that the frame and SP are what the bundles before have left (R187,
R211, R266). The model's choice (notes/assumptions/49.md): the frame goes to memory at once, past stores of the engine that still stand
in its store buffer, and leaves the lines of the SVE's data cache as they are; R250 says nothing of either. -/
def State.enter (s : State) (e kind code orig : Nat) (eaddr epc : Word) (ring imask entry : Nat) (efw : Bool) : State :=
  let s := s.csrSettle e
  let s := s.setEngine e ((s.engine e).applyInc ((s.engine e).cyc + 2))
  let x := s.engine e
  let ests := x.entryEsts e kind orig
  let ws := s.frame e epc ests efw
  let sp := x.spOf ring
  match x.frameLoc e ring sp.toNat with
  | none => s.stackFail e ws sp
  | some ca =>
    let s := s.setWords ca ws
    let s := { s with fresh := s.fresh + 1 }
    s.modEngine e (fun y =>
      ((y.setCause e epc ests code eaddr).setSp ring (sp - 0x20)).intoHandler e ring imask entry (calmKind kind))

/-- A double fault (R257): entry 0x0F in ring 0 with IMASK 7, ESTS.ORIG the escalated code; LOCKED when it cannot be used. -/
def State.doubleFault (s : State) (e code : Nat) (eaddr epc : Word) (efw : Bool) : State :=
  let v := s.vector e 0x0F
  let s := s.vectorSeen e 0x0F
  match v with
  | .entry w => s.enter e 3 0x0F code eaddr epc 0 7 (fld w 30 0) efw
  | _ => s.lockEngine e

/-- The more privileged of an entry's RING and the interrupted ring (R249). -/
def handlerRing (w : Word) (x : Engine) : Nat :=
  let r := fld w 34 34
  if r < x.ring.toNat then r else x.ring.toNat

/-- The stacking failure of a vector entry that cannot be read (R248): the error is logged, the frame is the one that the
entry would have written. -/
def State.vectorFail (s : State) (e v kind : Nat) (epc : Word) (efw : Bool) (a : Nat) : State :=
  let s := (s.vectorSeen e v).csrSettle e
  s.stackFail e (s.frame e epc ((s.engine e).entryEsts e kind 0) efw) (BitVec.ofNat 36 a)

/-- TAKING A FAULT: cause `code`, EADDR, and the code address at which execution resumes (R249, R255, R257). -/
def State.faultEntry (s : State) (e code : Nat) (eaddr epc : Word) (efw : Bool := false) : State :=
  let x := s.engine e
  if x.imask = 7 then s.doubleFault e code eaddr epc efw
  else
    match s.vector e code with
    | .unreadable a => s.vectorFail e code 0 epc efw a
    | .invalid => (s.vectorSeen e code).doubleFault e code eaddr epc efw
    | .entry w => (s.vectorSeen e code).enter e 0 code 0 eaddr epc (handlerRing w x) (fld w 33 31) (fld w 30 0) efw

/-- An FP fault (R239, R240): LAST takes the flags, LONG says whether fdiv or fsqrt raised them. -/
def State.fpFault (s : State) (e : Nat) (long : Bool) (flags : Nat) (eaddr epc : Word) (efw : Bool := false) : State :=
  let s := s.modEngine e (fun x => x.setCsrW e 0x051 (setBit (setFld (x.csrW e 0x051) 12 8 flags) 16 long))
  s.faultEntry e 0x07 eaddr epc efw

/-- A pending long-operation fault is taken: LPEND clears (R240). -/
def State.fpLongFault (s : State) (e : Nat) (epc : Word) (efw : Bool := false) : Option State :=
  match (s.engine e).fpLong with
  | some (pc, fl) =>
    let s := s.modEngine e (fun x => { x.setCsrW e 0x051 (setBit (x.csrW e 0x051) 17 false) with fpLong := none })
    some (s.fpFault e true fl pc epc efw)
  | none => none

/-- A recorded LONGOP is delivered (R258). -/
def State.longopFault (s : State) (e : Nat) (epc : Word) (efw : Bool := false) : Option State :=
  match (s.engine e).longop with
  | some a => some ((s.modEngine e (fun x => { x with longop := none })).faultEntry e 0x08 a epc efw)
  | none => none

/-! ## Gates (R259, R260) -/

/-- What a TRAP does: refuses with a fault of its bundle (code and EADDR), or enters. `epc` is the bundle after it. -/
inductive GateRes where
  | refuse (code : Nat) (eaddr : Word)
  | into (w : Word)
  deriving DecidableEq, Repr

def State.gate (s : State) (e n : Nat) : GateRes :=
  let x := s.engine e
  let a := (x.csrW e 0x025).toNat + 4 * n
  match ctrlLoc e a with
  | none => .refuse 0x03 (BitVec.ofNat 36 a)
  | some ca =>
    if s.isBad ca then .refuse 0x09 (BitVec.ofNat 36 a)
    else
      let w := s.word ca
      if !bit w 31 || decide (fld w 33 32 < x.ring.toNat) || decide (x.ring.toNat < fld w 35 34) then
        .refuse 0x02 (BitVec.ofNat 36 n)
      else .into w

/-- Entering gate n: KIND 2, ECAUSE TRAP, EADDR n, IMASK unchanged, the frame on TRING's stack (R260). -/
def State.gateEnter (s : State) (e n : Nat) (w epc : Word) : State :=
  s.enter e 2 0x0E 0 (BitVec.ofNat 36 n) epc (fld w 35 34) (s.engine e).imask.toNat (fld w 30 0) false

/-! ## Returns (R261 to R263) -/

/-- A code address that lies in Table 6.1. -/
def codeOk (t : Nat) : Bool := (codeRegion t).isSome

/-- Whether bits 32:7 of a frame's W4 are malformed (R263). -/
def pendBad (w4 : Word) : Bool :=
  let ds := fld w4 8 7
  decide (ds = 3) || (decide (ds ≠ 0) && (fld w4 12 11 == 3 ||
    (bit w4 9 && !codeOk (regionCode (fld w4 12 11) (fld w4 32 13)))))

/-- A frame is malformed (R263). -/
def frameBad (w0 w2 w4 : Word) : Bool := pendBad w4 || decide (16 < fld w2 8 4) || !codeOk w0.toNat

/-- The pending branch that bits 32:7 of W4 describe (R253). -/
def pendOf (w4 : Word) : Option PendBranch :=
  if fld w4 8 7 = 0 then none
  else some { ds := fld w4 8 7, taken := bit w4 9,
              target := BitVec.ofNat 36 (regionCode (fld w4 12 11) (fld w4 32 13)) }

/-- The checks of R261 in order: the fault, or the canonical address of the frame. SP is as it stands when the trigger
arrives, post-increments visible by then included (R187). The model's choices (notes/assumptions/49.md): all 8 words are read, and an
uncorrectable one is found (R289), after the checks on the stack and on the ring of rti and before the check of PRING; and they are read
from memory, past the store buffer and the data cache. -/
def State.returnCheck (s : State) (e : Nat) (isRti : Bool) : Sum (Nat × Word) Nat :=
  let x := (s.engine e).applyInc ((s.engine e).cyc + 1)
  let r := x.ring.toNat
  let sp := x.spOf r
  match x.frameLoc e r (sp.toNat + 0x20) with
  | none => .inl (0x0B, sp)
  | some ca =>
    if isRti && decide (2 ≤ r) then .inl (0x02, BitVec.ofNat 36 r)
    else
      match (List.range 8).find? (fun k => s.isBad (ca + 4 * k)) with
      | some k => .inl (0x09, sp + BitVec.ofNat 36 (4 * k))
      | none =>
        let pring := fld (s.word (ca + 4)) 4 3
        if pring < r then .inl (0x02, BitVec.ofNat 36 pring)
        else if frameBad (s.word ca) (s.word (ca + 8)) (s.word (ca + 16)) then .inl (0x01, 0)
        else .inr ca

/-- RETURNING from an entry through the frame at ca (R262, R253, R254, R269). SP is popped as the checks found it; a
post-increment of A15 in the return's own bundle is lost to it. A suspended operation with no word left to write completes. -/
def State.returnFrom (s : State) (e : Nat) (isRti : Bool) (ca : Nat) : State :=
  let w := fun k => s.word (ca + 4 * k)
  (s.softReads ca 32 (.engine e)).modEngine e (fun x =>
    let r := x.ring.toNat
    let x := x.applyInc (x.cyc + 1)
    let x := { x with aInc := x.aInc.filter (fun p => p.1 != 15) }
    let x := x.applyInc (x.cyc + 2)
    let x := x.setSp r (x.spOf r + 0x20)
    let x := (x.setD 0 (w 5)).setD 1 (w 6)
    let top := fld (w 2) 3 0
    let x := x.setRs ((top + 15) % 16) (w 3)
    { x with
      p := BitVec.ofNat 8 ((fld (w 4) 6 0) <<< 1), rsTop := BitVec.ofNat 4 top, rsDepth := BitVec.ofNat 5 (fld (w 2) 8 4),
      ring := BitVec.ofNat 2 (fld (w 1) 4 3), imask := if isRti then BitVec.ofNat 3 (fld (w 1) 2 0) else x.imask,
      pc := w 0, branch := pendOf (w 4), efWait := bit (w 4) 10,
      stm := { x.stm with susp := false, start := if x.stm.susp then x.cyc + 6 else x.stm.start, op := if x.stm.cnt = 0 then 0 else x.stm.op }, cyc := x.cyc + 6, fresh := true })

end Sys2Proof.Machine
end

