-- ==== Sys2Proof/Machine/Exec.lean ====
section
/-! DEFINITION. One operation of a function unit: what its trigger answers (R140, R141, R144, R146), how a precise fault of
it is taken, and how a command that asserts its trigger ends. Every operation of chapters 05 to 08 is a function from the
state and the trigger value to this answer; BUNDLE_ISSUE uses the same functions. -/

namespace Sys2Proof.Machine

/-- What a command answers. -/
abbrev Out := Host.Outcome State Fault Refusal

/-- An operation that starts: the state with its effects other than the result ports, its latency L, the result ports it
writes at completion, the flags it raises, and the trap enables in force when its trigger arrived (R227). -/
structure OpRes where
  st : State
  lat : Nat
  writes : List (Nat × Word)
  flags : Nat
  enabled : Nat

/-- A precise fault at the trigger's bundle: a cause with its EADDR, an operand exception of the fpu (R238), a pending long
FP fault that the trigger delivers (R240), a recorded LONGOP that it delivers (R258). -/
inductive OpTrap where
  | code (c : Nat) (ea : Word)
  | fp (long : Bool) (flags : Nat)
  | fpLong
  | longop
  deriving DecidableEq, Repr

/-- What a trigger does: starts, faults, or is held by a busy iterative unit (R144). -/
inductive OpOut where
  | ok (r : OpRes)
  | trap (t : OpTrap)
  | held (h : HeldTrig)

/-- An operation that starts with no result port to write. -/
def OpOut.plain (s : State) (lat : Nat := 0) : OpOut := .ok { st := s, lat := lat, writes := [], flags := 0, enabled := 0 }
/-- An operation that writes one result port. -/
def OpOut.one (s : State) (lat k : Nat) (w : Word) : OpOut :=
  .ok { st := s, lat := lat, writes := [(k, w)], flags := 0, enabled := 0 }

/-- Taking the fault of a trigger. An operand exception sets its flags in FPSTS and in LAST; the spec states no EADDR for it
(R238): a free value. -/
def State.takeTrap (s : State) (e : Nat) (tr : OpTrap) (epc : Word) (efw : Bool := false) : State :=
  match tr with
  | .code c ea => s.faultEntry e c ea epc efw
  | .fp long fl =>
    let (v, s) := s.drawNat 36
    (s.modEngine e (fun x => x.orFlags e fl)).fpFault e long fl (BitVec.ofNat 36 v) epc efw
  | .fpLong => (s.fpLongFault e epc efw).getD s
  | .longop => (s.longopFault e epc efw).getD s

/-- The end of a command that asserts a trigger of unit u of engine e: the operation's effects and its result at once, or its
precise fault at the present bundle, or the trigger is held. A post-increment becomes visible (R187). -/
def State.opRow (s : State) (e u : Nat) : OpOut → State
  | .ok r => r.st.modEngine e (fun x =>
      (x.land e { unit := u, due := x.cyc, trig := x.cyc, writes := r.writes, flags := r.flags, enabled := r.enabled, pc := x.pc }).applyInc (x.cyc + 2))
  | .trap t => s.takeTrap e t (s.engine e).pc
  | .held h => (s.modEngine e (fun x => { x with held := x.held ++ [h] })).waitBegin e

/-- The engine stands before the bundle of a held trigger again, which delivers a fault there and does not start. -/
def Engine.unhold (x : Engine) (h : HeldTrig) (rest : List HeldTrig) : Engine := { x with held := rest, branch := h.branch }

/-- The trap enables of FPCTL in the order of the flags (R227, R238). -/
def trapEnables (ctl : Word) : Nat := fld ctl 8 4

end Sys2Proof.Machine
end

