-- ==== Sys2Proof/Machine/Alu.lean ====
section
/-! DEFINITION. The commands of alu0, alu1 and bfu (R194-R198). -/

namespace Sys2Proof.Machine

/-! ## alu (R194, R195): unit u = 0, 1 has its sockets 0x20 apart -/

def aluOp (f : Word → Word → Word) (s : State) (e u : Nat) (t : Word) : OpOut :=
  .one s 1 (0x041 + 0x20 * u) (f ((s.engine e).port (0x040 + 0x20 * u)) t)

/-- The operations in the order of the trigger sockets (Table 6.5). -/
def aluFns : List (Word → Word → Word) :=
  [aluAdd, aluSub, aluAnd, aluOr, aluXor, aluAndn, aluShl, aluShr, aluSar, aluRol, aluMin, aluMax, aluMinu, aluMaxu, aluCeq,
   aluCne, aluClt, aluCltu, aluCle, aluCleu]

def aluRow (f : Word → Word → Word) (e : EngId) (u : Fin 2) (t : Word) (s : State) : Out :=
  .next (s.opRow e (uAlu0 + u) (aluOp f s e u t))

def execAdd (e : EngId) (u : Fin 2) (t : Word) (s : State) : Out := aluRow aluAdd e u t s
def execSub (e : EngId) (u : Fin 2) (t : Word) (s : State) : Out := aluRow aluSub e u t s
def execAnd (e : EngId) (u : Fin 2) (t : Word) (s : State) : Out := aluRow aluAnd e u t s
def execOr (e : EngId) (u : Fin 2) (t : Word) (s : State) : Out := aluRow aluOr e u t s
def execXor (e : EngId) (u : Fin 2) (t : Word) (s : State) : Out := aluRow aluXor e u t s
def execAndn (e : EngId) (u : Fin 2) (t : Word) (s : State) : Out := aluRow aluAndn e u t s
def execShl (e : EngId) (u : Fin 2) (t : Word) (s : State) : Out := aluRow aluShl e u t s
def execShr (e : EngId) (u : Fin 2) (t : Word) (s : State) : Out := aluRow aluShr e u t s
def execSar (e : EngId) (u : Fin 2) (t : Word) (s : State) : Out := aluRow aluSar e u t s
def execRol (e : EngId) (u : Fin 2) (t : Word) (s : State) : Out := aluRow aluRol e u t s
def execMin (e : EngId) (u : Fin 2) (t : Word) (s : State) : Out := aluRow aluMin e u t s
def execMax (e : EngId) (u : Fin 2) (t : Word) (s : State) : Out := aluRow aluMax e u t s
def execMinu (e : EngId) (u : Fin 2) (t : Word) (s : State) : Out := aluRow aluMinu e u t s
def execMaxu (e : EngId) (u : Fin 2) (t : Word) (s : State) : Out := aluRow aluMaxu e u t s
def execCeq (e : EngId) (u : Fin 2) (t : Word) (s : State) : Out := aluRow aluCeq e u t s
def execCne (e : EngId) (u : Fin 2) (t : Word) (s : State) : Out := aluRow aluCne e u t s
def execClt (e : EngId) (u : Fin 2) (t : Word) (s : State) : Out := aluRow aluClt e u t s
def execCltu (e : EngId) (u : Fin 2) (t : Word) (s : State) : Out := aluRow aluCltu e u t s
def execCle (e : EngId) (u : Fin 2) (t : Word) (s : State) : Out := aluRow aluCle e u t s
def execCleu (e : EngId) (u : Fin 2) (t : Word) (s : State) : Out := aluRow aluCleu e u t s

/-! ## bfu (R196-R198): operands o, o2 and the trigger value -/

def bfuOp (f : Word → Word → Word → Word) (s : State) (e : Nat) (t : Word) : OpOut :=
  let x := s.engine e
  .one s 1 0x084 (f (x.port 0x080) (x.port 0x081) t)

/-- The operations in the order of the trigger sockets (Table 6.5). -/
def bfuFns : List (Word → Word → Word → Word) :=
  [fun o _ t => bfuExt o t, fun o _ t => bfuExtu o t, bfuIns, fun _ _ t => bfuClz t, fun _ _ t => bfuCtz t,
   fun _ _ t => bfuPopc t, fun o _ t => bfuPerm o t, fun _ _ t => bfuSwh t]

def bfuRow (f : Word → Word → Word → Word) (e : EngId) (t : Word) (s : State) : Out :=
  .next (s.opRow e uBfu (bfuOp f s e t))

def execExt (e : EngId) (t : Word) (s : State) : Out := bfuRow (fun o _ v => bfuExt o v) e t s
def execExtu (e : EngId) (t : Word) (s : State) : Out := bfuRow (fun o _ v => bfuExtu o v) e t s
def execIns (e : EngId) (t : Word) (s : State) : Out := bfuRow (bfuIns) e t s
def execClz (e : EngId) (t : Word) (s : State) : Out := bfuRow (fun _ _ v => bfuClz v) e t s
def execCtz (e : EngId) (t : Word) (s : State) : Out := bfuRow (fun _ _ v => bfuCtz v) e t s
def execPopc (e : EngId) (t : Word) (s : State) : Out := bfuRow (fun _ _ v => bfuPopc v) e t s
def execPerm (e : EngId) (t : Word) (s : State) : Out := bfuRow (fun o _ v => bfuPerm o v) e t s
def execSwh (e : EngId) (t : Word) (s : State) : Out := bfuRow (fun _ _ v => bfuSwh v) e t s

end Sys2Proof.Machine
end

