-- ==== Sys2Proof/Machine/Chio.lean ====
section
/-! DEFINITION. The commands of chio (R76, R83-R88, R92-R97, R64-R66). -/

namespace Sys2Proof.Machine

/-! ## Status and banks -/

/-- chio.st (Table 3.5). REC_OCC and STEP_OCC are the occupancies of the last boundary: the status of a pop, and of later operations of
the same beat, still counts the entry popped. The spec does not say whether it does, and it is the model's choice
(notes/assumptions/49.md). -/
def State.chioSt (s : State) (c code flags : Nat) (exp lost chk : Bool) : Word :=
  let w := setFld (put 24 20 (s.q (32768 + c)).stOcc) 19 16 (s.q c).stOcc
  let w := setBit (setFld w 11 8 flags) 7 (s.ch c).tripB
  setFld (setBit (setBit (setBit w 6 exp) 5 lost) 4 chk) 3 0 code

/-- chio.st of an engine that does not own the channel: every other field reads zero (R87). -/
def chioNotOwner : Word := 2

/-- Whether engine e owns channel c (R75, R76). -/
def State.owns (s : State) (e c : Nat) : Bool := decide (e < 192) && (s.ch c).populated && (s.ch c).owner.toNat == e

/-- The lane of a channel (R74). -/
def laneOfCh (c : Nat) : Nat := c / 2048

/-- STYLE of a section: pipelined schedules read the bank of the beat before (R51). -/
def State.streamed (s : State) (k : Nat) : Bool := s.getB (.SEC_FRAME k) F.SEC_FRAME_STYLE

/-- The beat whose bank section k reads (R51). -/
def State.readBeat (s : State) (k : Nat) : Nat := if s.streamed k then s.beatNum else (s.beatNum + 2 ^ 36 - 1) % 2 ^ 36

/-- What the bank of a beat holds for channel c. -/
def State.slotOf (s : State) (c beat : Nat) : Slot := if beat % 2 = 0 then (s.ch c).ing0 else (s.ch c).ing1

def Slot.word (x : Slot) (k : Nat) : Word := match k with | 0 => x.w0 | 1 => x.w1 | 2 => x.w2 | _ => x.w3

/-! ## rd (R64-R66, R82, R88) -/

/-- The result of a read that does not wait: chio.y and chio.st. -/
def State.chioRecord (s : State) (c k : Nat) (sl : Slot) : Word × Word :=
  if sl.st = 1 then (sl.word k, s.chioSt c 0 (fld sl.w3 35 32) false false false)
  else (0, s.chioSt c 1 0 false (sl.st == 3) (sl.st == 2))

/-- The lane is down or has no valid BEAT codeword in this beat (R66). -/
def State.laneDown (s : State) (n : Nat) : Bool := !s.getB (.LN_STS n) F.LN_STS_INSVC || (s.ln n).beatBad

/-- What the channel-map/lane image in force gives lane n; a lane it does not describe has an empty map, under FMV 0 (R525). -/
def State.laneMap (s : State) (n : Nat) : MapLane :=
  match (s.helm.chmap.bind (fun m => m.lanes.find? (fun l => l.lane == n))) with
  | some l => l
  | none => { lane := n, ident := 0, mask := 0, scale := [], fmv := 0, up := [], dn := [], firstUp := 0, firstDn := 0 }

/-- A read of a slot that has not arrived waits in a streamed schedule, unless R65 or R66 ends it at once
or the upstream map gives the channel no slot. -/
def State.chioWaits (s : State) (e c : Nat) : Bool :=
  let k := sectOf e
  (s.slotOf c (s.readBeat k)).st == 0 && s.streamed k && !s.laneDown (laneOfCh c) &&
    !(s.sect k).laneExpired.contains (laneOfCh c) && (s.laneMap (laneOfCh c)).up.contains (c % 2048)

/-- chio.y and chio.st of a read that does not wait. -/
def State.chioReadNow (s : State) (e c k : Nat) : Word × Word :=
  let sec := sectOf e
  let sl := s.slotOf c (s.readBeat sec)
  if sl.st = 0 ∧ s.streamed sec ∧ !s.laneDown (laneOfCh c) ∧ (s.sect sec).laneExpired.contains (laneOfCh c) then
    (0, s.chioSt c 1 0 true false false)
  else s.chioRecord c k sl

def chioRes (s : State) (y st : Word) : OpOut :=
  .ok { st := s, lat := 2, writes := [(0x264, y), (0x265, st)], flags := 0, enabled := 0 }

/-- The SVE has no chio: its sockets are no destinations (R182). -/
def chioAbsent (e : Nat) : Bool := e == 192

/-- A read waits: the section stalls until the slot arrives or R64 ends the wait (R62). How many cycles that will have taken is a
free value of at least one (notes/assumptions/4.md). -/
def State.readWait (s : State) (e c k : Nat) : State :=
  let (d, s) := s.drawNat 18
  let x := s.engine e
  (s.setEngine e { x with waitRead := some { k := k, ch := c, trig := x.cyc } }).sectStall (sectOf e) x.cyc (d + 1)

def chioRdOp (s : State) (e : Nat) (t : Word) : OpOut :=
  let c := fld t 14 0
  let k := fld t 17 16
  if chioAbsent e then .trap (.code 0x01 0)
  else if !s.owns e c then chioRes s 0 chioNotOwner
  else if s.chioWaits e c then .plain (s.readWait e c k) 2
  else let (y, st) := s.chioReadNow e c k; chioRes s y st

/-- The waiting read of engine e obtains its result: the operation goes on and completes in the third cycle after its trigger was
moved (R141, Table 3.4), behind those triggered before it. -/
def State.chioWake (s : State) (e : Nat) (y st : Word) : State :=
  s.modEngine e (fun x =>
    let t := match x.waitRead with | some w => w.trig | none => x.cyc
    let f : Flight := { unit := uChio, due := t + 3, trig := t, writes := [(0x264, y), (0x265, st)], flags := 0, enabled := 0, pc := x.pc }
    let x := { x with waitRead := none, flights := insertFlight f x.flights }
    x.landUpTo e x.cyc)

/-- Every waiting read whose slot has arrived or is lost returns (R64). -/
def State.chioArrivals (s : State) : State :=
  (s.eng.map (fun p => p.1)).foldl (fun st e =>
    match (st.engine e).waitRead with
    | some w => if st.chioWaits e w.ch then st else let (y, v) := st.chioReadNow e w.ch w.k; st.chioWake e y v
    | none => st) s

/-- The wait limit of the section passes: the read returns MISSING with EXPIRED, and later reads of the lane in this beat do
not wait (R64, R65). -/
def execStreamedWaitExpiry (e : EngId) (s : State) : Out :=
  match (s.engine e).waitRead with
  | some w =>
    let s := s.modSect (sectOf e) (fun x => { x with
      laneExpired := laneOfCh w.ch :: x.laneExpired, expired := satAdd x.expired 1 15 })
    .next ((s.chioWake e 0 (s.chioSt w.ch 1 0 true false false)).chioArrivals)
  | none => .next s

/-! ## wr, pop, peek, push, occ -/

/-- wr: the setpoint goes to the egress bank through the Glove (R50, R112). -/
def chioWrOp (s : State) (e : Nat) (t : Word) : OpOut :=
  let c := fld t 14 0
  if chioAbsent e then .trap (.code 0x01 0)
  else if !s.owns e c then chioRes s 0 chioNotOwner
  else chioRes (s.glvSetpoint e c (fld t 19 16) ((s.engine e).port 0x260)) 0 (s.chioSt c 0 0 false false false)

/-- The refusal of a chio.o address for n bytes (R84): EADDR is the address when it is no multiple of 8, else the first byte
outside the scratchpad. -/
def chioAddrBad (a n : Nat) : Option Word :=
  if a % 8 ≠ 0 then some (BitVec.ofNat 36 a)
  else if 0x10000 ≤ a then some (BitVec.ofNat 36 a)
  else if 0x10000 < a + n then some (BitVec.ofNat 36 0x10000)
  else none

/-- A store of the engine that memory does not show yet: its place in program order, address and bytes. -/
structure OldStore where
  seq : Nat
  addr : Nat
  bytes : List Byte9

/-- The engine's stores that memory does not show yet, wherever they stand. -/
def Engine.oldStores (x : Engine) : List OldStore :=
  x.outStores.map (fun o => { seq := o.seq, addr := o.addr, bytes := o.bytes }) ++
    (x.sb ++ x.sbWait).map (fun b => { seq := b.seq, addr := b.addr, bytes := b.bytes })

/-- A list of stores in program order. -/
def insertStore (o : OldStore) : List OldStore → List OldStore
  | [] => [o]
  | p :: l => if o.seq < p.seq then o :: p :: l else p :: insertStore o l

/-- The stores issued before a pop to the words it writes, and those before them to the engine's scratchpad, are performed in
program order before the entry words are written, so that a load of R85 returns the new words. -/
def State.popDrain (s : State) (e ca : Nat) : State :=
  let x := s.engine e
  let hit := x.oldStores.filter (fun o => overlaps o.addr o.bytes.length ca 32)
  if hit.isEmpty then s
  else
    let last := hit.foldl (fun n o => max n o.seq) 0
    let own := fun (a seq : Nat) => memOf a == some (.spad e) && decide (seq ≤ last)
    let l := (x.oldStores.filter (fun o => own o.addr o.seq)).foldl (fun l o => insertStore o l) []
    let y := { x with
      outStores := x.outStores.filter (fun o => !own o.addr o.seq), sb := x.sb.filter (fun b => !own b.addr b.seq)
      sbWait := x.sbWait.filter (fun b => !own b.addr b.seq) }
    l.foldl (fun st o => st.storeBytes o.addr o.bytes) (s.setEngine e y)

/-- pop and peek (R84, R85, R92). Two points are the model's choice (notes/assumptions/49.md): a chio.o address that R84 refuses
raises MEM_PROT whether or not the engine owns the channel; and all eight words are written when the trigger arrives, so a load
issued before cycle t+6 returns the new words, and a store issued in cycles t+1 to t+5 leaves its own value. -/
def chioPopOp (pop : Bool) (s : State) (e : Nat) (t : Word) : OpOut :=
  let c := fld t 14 0
  let a := ((s.engine e).port 0x260).toNat
  if chioAbsent e then .trap (.code 0x01 0)
  else match chioAddrBad a 32 with
    | some ea => .trap (.code 0x03 ea)
    | none =>
      if !s.owns e c then chioRes s 0 chioNotOwner
      else
        let q := s.q c
        if q.popped then chioRes s 0 (s.chioSt c 4 0 false false false)
        else if q.stOcc = 0 then chioRes s 0 (s.chioSt c 3 0 false false false)
        else
          let st := s.chioSt c 0 0 false false false
          let s := (s.popDrain e (spadBase e + a)).setWords (spadBase e + a) q.stWords
          chioRes (if pop then s.qmPopStep c else s) 0 st

/-- Byte ca as the engine's own loads observe it (R86, R161): of the stores that hold it and that memory does not show yet, the
latest, else memory. -/
def State.byteSeen (s : State) (e ca : Nat) : Byte9 :=
  let l := ((s.engine e).oldStores.filter (fun b => decide (b.addr ≤ ca ∧ ca < b.addr + b.bytes.length))).foldl
    (fun l o => insertStore o l) []
  match l.getLast? with
  | some b => b.bytes.getD (ca - b.addr) 0
  | none => s.byte ca

/-- A word that a push reads: an uncorrectable one, unless the engine's stores hold all of it, is zero and is logged (Table 10.3);
a single-bit error is corrected and counted (R288). -/
def State.pushWord (s : State) (e ca : Nat) : Word × State :=
  let held := (List.range 4).all (fun j => (s.engine e).oldStores.any (fun b => decide (b.addr ≤ ca + j ∧ ca + j < b.addr + b.bytes.length)))
  if held then (wordOfBytes ((List.range 4).map (fun j => s.byteSeen e (ca + j))), s)
  else if s.isBad ca then (0, s.eccUncorrectable ca)
  else (wordOfBytes ((List.range 4).map (fun j => s.byteSeen e (ca + j))), s.softRead ca (.engine e))

/-- The four words of the record at address a, read from the scratchpad. -/
def State.pushRecord (s : State) (e a : Nat) : List Word × State :=
  (List.range 4).foldl (fun (p : List Word × State) k =>
    let (w, st) := p.2.pushWord e (spadBase e + a + 4 * k)
    (p.1 ++ [w], st)) ([], s)

/-- push: 4 words to the section push buffer (R86, R94, R97). MEM_PROT comes before the check of ownership, as for pop
(notes/assumptions/49.md). -/
def chioPushOp (s : State) (e : Nat) (t : Word) : OpOut :=
  let c := fld t 14 0
  let a := ((s.engine e).port 0x260).toNat
  if chioAbsent e then .trap (.code 0x01 0)
  else match chioAddrBad a 16 with
    | some ea => .trap (.code 0x03 ea)
    | none =>
      if !s.owns e c then chioRes s 0 chioNotOwner
      else
        let (ws, s) := s.pushRecord e a
        let (s, ok) := s.pushBuffer (sectOf e) c ws
        chioRes s 0 (s.chioSt c (if ok then 0 else 5) 0 false false false)

def chioOccOp (s : State) (e : Nat) (t : Word) : OpOut :=
  let c := fld t 14 0
  if chioAbsent e then .trap (.code 0x01 0)
  else if !s.owns e c then chioRes s 0 chioNotOwner
  else chioRes s 0 (s.chioSt c 0 0 false false false)

def execChioRd (e : EngId) (t : Word) (s : State) : Out := .next (s.opRow e uChio (chioRdOp s e t))
def execChioWr (e : EngId) (t : Word) (s : State) : Out := .next (s.opRow e uChio (chioWrOp s e t))
def execChioPop (e : EngId) (t : Word) (s : State) : Out := .next (s.opRow e uChio (chioPopOp true s e t))
def execChioPeek (e : EngId) (t : Word) (s : State) : Out := .next (s.opRow e uChio (chioPopOp false s e t))
def execChioPush (e : EngId) (t : Word) (s : State) : Out := .next (s.opRow e uChio (chioPushOp s e t))
def execChioOcc (e : EngId) (t : Word) (s : State) : Out := .next (s.opRow e uChio (chioOccOp s e t))

/-! ## lim (R184, R185) -/

/-- One half of lim.y is written; the other keeps its value. -/
def Engine.limWrite (x : Engine) (hi : Bool) (v : Word) : Engine :=
  let y := x.result 0x284
  x.setResult 0x284 (if hi then setFld y 35 18 (fld v 17 0) else setFld y 17 0 (fld v 17 0))

def execLimLo (e : EngId) (v : Word) (s : State) : Out := .next (s.modEngine e (fun x => x.limWrite false v))
def execLimHi (e : EngId) (v : Word) (s : State) : Out := .next (s.modEngine e (fun x => x.limWrite true v))

/-! ## The supervisor's queue registers and the push buffer as commands (R93, R94, R98) -/

def execPushReachQm (k : SectId) (s : State) : Out := .next (s.pushReach k)
def execQmPush (w : Word) (s : State) : Out := .next (s.qmPushWrite w)
def execQmPushDone (s : State) : Out := .next s.qmPushFinish
def execQmEvtRead (s : State) : Out := .next s.qmEvtPop.2
def execHandoffArm (w : Word) (s : State) : Out := .next (s.handoffArm w)
def execHandoffCancel (w : Word) (s : State) : Out := .next (s.handoffCancel w)

end Sys2Proof.Machine
end

