-- ==== Sys2Proof/Machine/Crc.lean ====
section
/-! DEFINITION. The reflected 32-bit CRCs: CRC-32C of host packets (R405) and the frame check sequence of IEEE 802.3
(R375); and the CRC-4 of a codeword header (R329). -/

namespace Sys2Proof.Machine

/-- One octet of a reflected CRC with polynomial `poly`. -/
def crc32Octet (poly : Nat) (c : Nat) (o : Octet) : Nat :=
  (List.range 8).foldl (fun c _ => if c % 2 = 1 then (c / 2) ^^^ poly else c / 2) (c ^^^ o.toNat)

/-- The CRC of octets: initial value and final XOR of all ones. -/
def crc32 (poly : Nat) (os : List Octet) : Nat := (os.foldl (crc32Octet poly) 0xFFFFFFFF) ^^^ 0xFFFFFFFF

/-- CRC-32C (R405): polynomial 0x1EDC6F41, reflected. -/
def crc32c (os : List Octet) : Nat := crc32 0x82F63B78 os

/-- The CRC-32 of IEEE 802.3: polynomial 0x04C11DB7, reflected. -/
def crc32Ieee (os : List Octet) : Nat := crc32 0xEDB88320 os

/-- HCHECK of a codeword header: CRC-4 over bits 27:4, most significant first (R329). -/
def hcheck (h : BitVec 28) : Nat :=
  (List.range 24).foldl (fun c i =>
    let fb := decide (c / 8 % 2 = 1) != h.getLsbD (27 - i)
    let c' := (c * 2) % 16
    if fb then c' ^^^ 3 else c') 0xF

end Sys2Proof.Machine
end

