-- ==== Sys2Proof/Machine/Export.lean ====
section
/-! DEFINITION. The export unit of the service lanes (chapter 14): the frame under construction, the record queues and the
capture buffer that feed it, the octets of a frame, PAUSE, and the link. -/

namespace Sys2Proof.Machine

/-! ## The octets of a frame (R375-R377) -/

/-- The ones-complement sum of 16-bit groups; an odd last octet is padded with zero. -/
def onesSum : List Octet → Nat
  | [] => 0
  | [a] => a.toNat * 256
  | a :: b :: os => a.toNat * 256 + b.toNat + onesSum os

def fold16 (v : Nat) : Nat := let a := v % 65536 + v / 65536; let b := a % 65536 + a / 65536; b % 65536 + b / 65536

/-- The checksum of IPv4 and UDP. -/
def inetChecksum (os : List Octet) : Nat := 65535 - fold16 (onesSum os)

def Frame.ipv6 (f : Frame) : Bool := bit f.cfg 34
def Frame.vlan (f : Frame) : Bool := bit f.cfg 33
def Frame.maxfr (f : Frame) : Nat := fld f.cfg 27 14
def Frame.t (f : Frame) (j : Nat) : Word := f.tpl.getD j 0

/-- The words of the payload: the export header of Table 14.3 and the items. -/
def Frame.payWords (f : Frame) (k : Nat) : List Word :=
  [setFld (setFld (put 35 27 1) 26 25 k) 24 16 f.items.length, f.seq, f.beat, f.srcId] ++ f.items.flatten

/-- Octets from the destination address to the FCS of a frame whose payload has n words (R376, R378). -/
def Frame.octetCount (f : Frame) (n : Nat) : Nat :=
  14 + (if f.vlan then 4 else 0) + (if f.ipv6 then 40 else 20) + 8 + 4 + 9 * ((n + 1) / 2)

/-- How many words the payload has. -/
def Frame.payLen (f : Frame) : Nat := 4 + (f.items.map List.length).sum

/-- The UDP datagram, with its checksum over the pseudo header (R375). -/
def Frame.udp (f : Frame) (src dst : List Octet) (pay : List Octet) : List Octet :=
  let len := 8 + pay.length
  let ports := beOctets 2 (fld (f.t 4) 31 16) ++ beOctets 2 (fld (f.t 4) 15 0)
  let pseudo := if f.ipv6 then src ++ dst ++ beOctets 4 len ++ beOctets 4 17 else src ++ dst ++ beOctets 2 17 ++ beOctets 2 len
  let c := inetChecksum (pseudo ++ ports ++ beOctets 2 len ++ beOctets 2 0 ++ pay)
  ports ++ beOctets 2 len ++ beOctets 2 (if c = 0 then 65535 else c) ++ pay

/-- The whole frame of service lane k, from the destination address to the FCS (R375). -/
def Frame.octets (f : Frame) (k : Nat) : List Octet :=
  let macs := octetsOfWords [f.t 0, f.t 1, f.t 2]
  let tag := if f.vlan then beOctets 2 0x8100 ++ beOctets 2 (fld (f.t 3) 31 16) else []
  let ttl := fld (f.t 3) 15 8
  let tos := fld (f.t 3) 7 0
  let pay := packWords (f.payWords k)
  let body :=
    if f.ipv6 then
      let src := octetsOfWords [f.t 5, f.t 6, f.t 7, f.t 8]
      let dst := octetsOfWords [f.t 9, f.t 10, f.t 11, f.t 12]
      beOctets 2 0x86DD ++ beOctets 4 (6 * 2 ^ 28 + tos * 2 ^ 20 + fld (f.t 13) 19 0) ++ beOctets 2 (8 + pay.length) ++
        beOctets 1 17 ++ beOctets 1 ttl ++ src ++ dst ++ f.udp src dst pay
    else
      let src := octetsOfWord (f.t 5)
      let dst := octetsOfWord (f.t 9)
      let hdr := fun (c : Nat) => beOctets 1 0x45 ++ beOctets 1 tos ++ beOctets 2 (28 + pay.length) ++ beOctets 2 0 ++
        beOctets 2 0x4000 ++ beOctets 1 ttl ++ beOctets 1 17 ++ beOctets 2 c ++ src ++ dst
      beOctets 2 0x0800 ++ hdr (inetChecksum (hdr 0)) ++ f.udp src dst pay
  let fr := macs ++ tag ++ body
  let c := crc32Ieee fr
  fr ++ (List.range 4).map (fun j => BitVec.ofNat 8 (c >>> (8 * j)))

/-! ## Draining (R378-R381) -/

/-- The service lane of channel lane l (EXP_MAP). -/
def State.expLane (s : State) (l : Nat) : Nat := fld (s.reg .EXP_MAP) (2 * l + 1) (2 * l)

/-- The record queues mapped to service lane k that hold an entry, in ascending order. -/
def State.expReady (s : State) (k : Nat) : List Nat :=
  s.queues.filter (fun q => decide (32768 ≤ q) && decide (0 < (s.q q).occ) && s.expLane ((q - 32768) / 2048) == k)

/-- The queue served next, round-robin after the one last served (R380). -/
def State.expNext (s : State) (k : Nat) : Option Nat :=
  let l := s.expReady k
  match l.find? (fun q => decide ((s.sv k).last < q)) with
  | some q => some q
  | none => l.head?

/-- The frame under construction, or a new one whose template, configuration, SEQ and beat are captured now. -/
def State.expFrame (s : State) (k : Nat) : Frame :=
  match (s.sv k).build with
  | some f => f
  | none =>
    { tpl := (List.range 16).map (fun j => s.reg (.EXP_TPL k j)), cfg := s.reg (.EXPK_CFG k), seq := (s.sv k).seq,
      beat := s.reg .BEAT_NUM, srcId := s.reg .EXP_SRCID, items := [], recs := 0 }

/-- Service lane k may start a frame (R372, R374); EN is that of the frame under construction, which its first item captured (R378). -/
def State.expOn (s : State) (k : Nat) : Bool :=
  s.getB (.EXPK_STS k) F.EXPK_STS_LINK && bit (s.expFrame k).cfg F.EXPK_CFG_EN.1 && s.getB .EXP_CTL F.EXP_CTL_EN &&
    !s.getB (.EXPK_STS k) F.EXPK_STS_PAUSED

/-- Words of the item available next: 5 for a record entry, 143 for a capture item. -/
def State.expAvail (s : State) (k : Nat) : Option Nat :=
  if (s.expNext k).isSome then some 5 else if (s.sv k).cap.isEmpty then none else some 143

/-- The next item fits the frame (R378). -/
def State.expFits (s : State) (k : Nat) : Bool :=
  match s.expAvail k with
  | some n => let f := s.expFrame k; decide (f.octetCount (f.payLen + n) ≤ f.maxfr)
  | none => false

/-- The frame takes one item; the first item of a frame takes a frame number. -/
def State.expAdd (s : State) (k : Nat) (item : List Word) (recs : Nat) : State :=
  let f := s.expFrame k
  let x := s.sv k
  let x := if x.build.isNone then { x with seq := x.seq + 1, holdOver := fld f.cfg 7 0 == 0 } else x
  s.setSv k { x with build := some { f with items := f.items ++ [item], recs := f.recs + recs } }

/-- A record item: the prefix of Table 14.4 and the entry (R377, R380). -/
def State.expTake (s : State) (k : Nat) : State :=
  if s.expOn k && s.expFits k then
    match s.expNext k with
    | some q =>
      match s.qmPopRecord q with
      | (some (ws, tag), s) =>
        let pre := setFld (setFld (setFld (put 35 33 1) 32 25 tag) 24 16 4) 14 0 (q - 32768)
        let s := s.expAdd k (pre :: ws) 1
        s.setSv k { s.sv k with last := q }
      | (none, s) => s
    | none =>
      match (s.sv k).cap with
      | it :: rest => (s.setSv k { s.sv k with cap := rest }).expAdd k it 0
      | [] => s
  else s

/-- The frame closes and its transmission begins (R378, R372). -/
def State.expSend (s : State) (k : Nat) : State :=
  let x := s.sv k
  match x.build with
  | some f =>
    if s.expOn k && x.sending.isNone && (if (s.expAvail k).isSome then !s.expFits k else x.holdOver) then
      s.setSv k { x with build := none, holdOver := false, sending := some f, lastFrame := f.octets k }
    else s
  | none => s

/-- The frame has been sent complete. -/
def State.expDone (s : State) (k : Nat) : State :=
  match (s.sv k).sending with
  | some f =>
    ((s.setSv k { s.sv k with sending := none }).incF (.EXPK_TXFR k) F.EXPK_TXFR_FRAMES).incF (.EXPK_TXREC k)
      F.EXPK_TXREC_RECORDS f.recs
  | none => s

/-- Frames that a fall of LINK abandons (R382). -/
def State.expAbort (s : State) (k : Nat) : State :=
  let x := s.sv k
  if x.build.isNone && x.sending.isNone then s
  else
    let recs := (match x.build with | some f => f.recs | none => 0) + (match x.sending with | some f => f.recs | none => 0)
    ((s.setSv k { x with build := none, holdOver := false, sending := none }).incF (.EXPK_DROP k)
      F.EXPK_DROP_ABORT recs).setB (.EXPK_STS k) F.EXPK_STS_ABORT true

/-- A change of LINK (R372, R382). -/
def State.expLink (s : State) (k : Nat) (up : Bool) : State :=
  if s.getB (.EXPK_STS k) F.EXPK_STS_LINK = up then s
  else
    let s := (s.setB (.EXPK_STS k) F.EXPK_STS_LINK up).setB (.EXPK_STS k) F.EXPK_STS_LINK_CHG true
    if up then s else s.expAbort k

/-- A Capture codeword from channel lane n (R381): its 142 words become an item of the mapped lane's buffer. -/
def State.captureIn (s : State) (n : Nat) (ws : List Word) : State :=
  let k := s.expLane n
  if s.getB .EXP_CTL F.EXP_CTL_CAP_EN && s.getB (.EXPK_STS k) F.EXPK_STS_LINK then
    let x := s.sv k
    if x.cap.length < 64 then
      let pre := setFld (setFld (put 35 33 2) 24 16 142) 14 0 (fld (ws.getD 0 0) 31 17)
      s.setSv k { x with cap := x.cap ++ [pre :: ws] }
    else (s.incF (.EXPK_DROP k) F.EXPK_DROP_CAP).setB (.EXPK_STS k) F.EXPK_STS_CAP_OVF true
  else s

/-- A PAUSE frame that is honoured (R374). -/
def State.expPause (s : State) (k quanta : Nat) : State :=
  (s.incF (.EXPK_RX k) F.EXPK_RX_PAUSE).setB (.EXPK_STS k) F.EXPK_STS_PAUSED (quanta != 0)

/-- The quanta of a MAC control PAUSE frame (IEEE 802.3 Annex 31B) with a correct FCS, of 64 to 9,216 octets, addressed to
01-80-C2-00-00-01 or to the source address in the template of service lane k (R371, R373); none of any other frame. -/
def State.pauseQuanta (s : State) (k : Nat) (os : List Octet) : Option Nat :=
  let n := os.length
  let c := crc32Ieee (os.take (n - 4))
  let own := ((octetsOfWords [s.reg (.EXP_TPL k 0), s.reg (.EXP_TPL k 1), s.reg (.EXP_TPL k 2)]).drop 6).take 6
  let fcs := (List.range 4).map (fun j => BitVec.ofNat 8 (c >>> (8 * j)))
  let dst := os.take 6
  if 64 ≤ n ∧ n ≤ 9216 ∧ os.drop (n - 4) = fcs ∧ (dst = [0x01, 0x80, 0xC2, 0x00, 0x00, 0x01] ∨ dst = own) ∧
      (os.drop 12).take 4 = [0x88, 0x08, 0x00, 0x01] then
    some (256 * (os.getD 16 0).toNat + (os.getD 17 0).toNat)
  else none

/-- A received frame: a PAUSE frame is honoured, every other frame is counted and discarded (R373). -/
def State.expRx (s : State) (k : Nat) (os : List Octet) : State :=
  match s.pauseQuanta k os with
  | some q => s.expPause k q
  | none => s.incF (.EXPK_RX k) F.EXPK_RX_DISC

def State.expUnpause (s : State) (k : Nat) : State := s.setB (.EXPK_STS k) F.EXPK_STS_PAUSED false

/-- HOLDOFF has passed since the first item of the frame (R378). -/
def State.expHoldoff (s : State) (k : Nat) : State :=
  if (s.sv k).build.isSome then s.setSv k { s.sv k with holdOver := true } else s

/-! ## The commands -/

def execExportItemTake (k : SvcLane) (s : State) : Out := .next (s.expTake k)
def execExportFrameSend (k : SvcLane) (s : State) : Out := .next (s.expSend k)
def execExportFrameComplete (k : SvcLane) (s : State) : Out := .next (s.expDone k)
def execExportHoldoffExpire (k : SvcLane) (s : State) : Out := .next (s.expHoldoff k)
def execPause (k : SvcLane) (octets : List Octet) (s : State) : Out := .next (s.expRx k octets)
def execPauseExpire (k : SvcLane) (s : State) : Out := .next (s.expUnpause k)
def execRxFrameDiscard (k : SvcLane) (octets : List Octet) (s : State) : Out := .next (s.expRx k octets)
def execLinkChange (k : SvcLane) (up : Bool) (s : State) : Out := .next (s.expLink k up)

end Sys2Proof.Machine
end

