-- ==== Sys2Proof/Machine/Lane.lean ====
section
/-! DEFINITION. The state of a lane (chapter 13): its states and exits, leaving and entering service (R352-R354, R362-R366),
the management messages it sends (R340-R343, R370, Table 13.6). -/

namespace Sys2Proof.Machine

/-! ## Lane states, Table 13.1 -/

def lsOFF : Nat := 0
def lsDETECT : Nat := 1
def lsCHECK : Nat := 2
def lsLOCK : Nat := 3
def lsTRAIN : Nat := 4
def lsADAPT : Nat := 5
def lsIDENT : Nat := 6
def lsMAP : Nat := 7
def lsALIGN : Nat := 8
def lsACTIVE : Nat := 9
def lsTEST : Nat := 10
def lsFAULT : Nat := 11

def State.laneState (s : State) (n : Nat) : Nat := s.getF (.LN_STS n) F.LN_STS_STATE
def State.laneCause (s : State) (n : Nat) : Nat := s.getF (.LN_STS n) F.LN_STS_CAUSE
/-- Frames are sent and received from ADAPT to ACTIVE (R358). -/
def State.framing (s : State) (n : Nat) : Bool := decide (lsADAPT ≤ s.laneState n ∧ s.laneState n ≤ lsACTIVE)
def State.inService (s : State) (n : Nat) : Bool := s.getB (.LN_STS n) F.LN_STS_INSVC

/-- K of R332 for a period in 10 ns units. -/
def kOf (period : Nat) : Nat := 7 * period / 68 - 3
def State.kNow (s : State) : Nat := kOf s.beat.period

/-- The populated indices of lane n, ascending (R434): those that the owner blocks cover. -/
def State.populatedOf (s : State) (n : Nat) : List Nat :=
  ((s.chan.filter (fun e => e.1 / 2048 == n && e.2.populated)).map (fun e => e.1 % 2048))

/-- Record codewords of a direction: ceil(M / R) (R337). -/
def rcw (m r : Nat) : Nat := (m + r - 1) / r

/-- LNn_FRM shows K, FMV and the record codewords of the map in force. -/
def State.frmUpdate (s : State) (n : Nat) : State :=
  let m := s.laneMap n
  s.setReg (.LN_FRM n) (setFld (setFld (setFld (put 35 25 s.kNow) 24 17 m.fmv) 16 10 (rcw m.up.length 35)) 9 5 (rcw m.dn.length 71))

/-! ## Messages the device sends -/

/-- A message is queued; one that asks for an ACK takes the next SEQ (R342). The Nat is its SEQ. -/
def State.sendMsg (s : State) (n mtype : Nat) (words : List Word) (ack : Bool) : State × Nat :=
  let x := s.ln n
  let seq := if ack then x.seqNext else 0
  (s.setLn n { x with
    seqNext := if ack then (x.seqNext + 1) % 512 else x.seqNext
    out := x.out ++ [{ mtype := mtype, words := words, ackReq := ack, seq := seq, attempts := 0 }] }, seq)

/-- Runs cut from the lowest index upward: at most 70 channels in a message. -/
def chunkRuns (fuel first count : Nat) : List (Nat × Nat) :=
  match fuel with
  | 0 => []
  | k + 1 => if count ≤ 70 then [(first, count)] else (first, 70) :: chunkRuns k (first + 70) (count - 70)

/-- Maximal runs of consecutive indices. -/
def maxRuns : List Nat → List (Nat × Nat)
  | [] => []
  | i :: l =>
    match maxRuns l with
    | (f, c) :: r => if f = i + 1 then (i, c + 1) :: r else (i, 1) :: (f, c) :: r
    | [] => [(i, 1)]

/-- W0 and W1 of `count` channels from c, as reads of the table obtain them (R132): an entry that fails its comparison trips, and
free values are sent for it. -/
def State.limitWords (s : State) (c : Nat) : Nat → List Word × State
  | 0 => ([], s)
  | n + 1 =>
    let (w0, s) := s.glvReadWord c 0
    let (w1, s) := s.glvReadWord c 1
    let (ws, s) := s.limitWords (c + 1) n
    (w0 :: w1 :: ws, s)

/-- The LIMITS messages of the given populated indices of lane n (R343, Table 12.7). -/
def State.sendLimits (s : State) (n : Nat) (idx : List Nat) : State :=
  ((maxRuns idx).flatMap (fun r => chunkRuns 30 r.1 r.2)).foldl (fun st r =>
    let (ws, st) := st.limitWords (n * 2048 + r.1) r.2
    (st.sendMsg n 0x020 (setFld (put 17 11 r.2) 10 0 r.1 :: ws) true).1) s

/-- A LIMITS message of the lane is queued or not acknowledged (R362). -/
def Lane.limitsPending (x : Lane) : Bool := (x.out ++ x.waitAck).any (fun m => m.mtype == 0x020)

/-- The MAP messages of one direction: parts of 414 entries (R362, Table 13.6). -/
def mapParts (dir fmv first : Nat) (l : List Nat) : List (List Word) :=
  let parts := max 1 ((l.length + 413) / 414)
  (List.range parts).map (fun p =>
    let w1 := setFld (setFld (setFld (setFld (setFld (put 35 35 dir) 34 27 fmv) 26 24 p) 23 23 (if p + 1 = parts then 1 else 0)) 22 12
      first) 11 0 l.length
    w1 :: (List.range 138).map (fun i =>
      let e := fun j => l.getD (414 * p + 3 * i + j) 0
      setFld (setFld (put 32 22 (e 0)) 21 11 (e 1)) 10 0 (e 2)))

/-! ## Moving between states -/

/-- Messages of bring-up, LIMITS messages and ACKs belong to one pass of bring-up; SVC messages outlive it. -/
def Lane.flush (x : Lane) : Lane :=
  { x with
    acks := [], out := x.out.filter (fun m => m.mtype == 0x040), waitAck := x.waitAck.filter (fun m => m.mtype == 0x040)
    readyB := none, readyAck := false, testPend := none, testGo := false, nakDue := [], upExpect := [], dnReplay := [], dnSent := [], alignDue := none }

/-- The status field of the first training frames of a state: what the transmitter does already (Table 13.4). A quick retrain keeps the
inversion in force (R365). -/
def State.trainSts (s : State) (n : Nat) : BitVec 16 := if s.getB (.LN_TXEQ n) F.LN_TXEQ_INVERT then 0x0080#16 else 0

/-- The work a lane begins when it enters a state. -/
def State.laneBegin (s : State) (n st : Nat) : State :=
  if st = lsCHECK then
    (s.setReg (.LN_FAULT n) 0).modLn n (fun x => { x with shortsDone := false })
  else if st = lsLOCK then s.modLn n (fun x => { x with markers := 0, markerLock := false, txCtl := 0, txSts := s.trainSts n })
  else if st = lsTRAIN then
    s.modLn n (fun x => { x with rxSent := 0, rxRecv := 0, trainDone := false, txCtl := 0, txSts := s.trainSts n })
  else if st = lsADAPT then s.modLn n (fun x => { x with cwGood := 0, cwBad := 0, cwLock := false, adaptGood := 0, hello := false, scaled := false })
  else if st = lsIDENT then
    (s.sendMsg n 0x010 [s.reg .HOST_DEVID, setFld (put 19 12 1) 4 0 n] true).1
  else if st = lsMAP then
    let m := s.laneMap n
    let s := s.modLn n (fun x => { x with mapUpAck := false, mapDnAck := false })
    (mapParts 0 m.fmv m.firstUp m.up ++ mapParts 1 m.fmv m.firstDn m.dn).foldl (fun st ws => (st.sendMsg n 0x012 ws true).1) s
  else if st = lsALIGN then
    (s.modLn n (fun x => { x with alignCnt := 0, readyB := none, readyAck := false })).sendLimits n (s.populatedOf n)
  else s

/-- A pattern is checked in TEST (R368): what the checker has found since it was last looked at, and whether it is locked, are free. -/
def State.prbsCatch (s : State) (n : Nat) : State :=
  if s.laneState n = lsTEST ∧ s.getB (.LN_TEST n) F.LN_TEST_CHK then
    let (v, s) := s.drawNat 33
    (s.setB (.LN_PRBS_ERR n) F.LN_PRBS_ERR_LOCK (decide (v % 2 = 1))).setF (.LN_PRBS_ERR n) F.LN_PRBS_ERR_COUNT
      (min (2 ^ 32 - 1) (s.getF (.LN_PRBS_ERR n) F.LN_PRBS_ERR_COUNT + v / 2))
  else s

/-- The checker stops; the errors that it has found stay to be read. -/
def State.prbsStop (s : State) (n : Nat) : State := (s.prbsCatch n).setB (.LN_PRBS_ERR n) F.LN_PRBS_ERR_LOCK false

/-- A short flag or LOS of the last CHECK is set: the pins are held at high impedance, or nothing is received, and the lane never enters
service (R356). -/
def State.laneBarred (s : State) (n : Nat) : Bool := fld (s.reg (.LN_FAULT n)) 9 0 != 0

/-- STATE takes a value. A change of STATE sets EVT and LAST (R354) and enters the event log (source 3); a restart in the same
STATE records its cause alone. A lane that stops framing drops the messages of that pass, and precoding, which belongs to codewords, is
no longer in force (R357). -/
def State.laneGoto (s : State) (n st cause : Nat) : State :=
  let changed := s.laneState n != st
  let s := if s.laneState n = lsTEST then s.prbsStop n else s
  let w := setBit (setFld (s.reg (.LN_STS n)) 27 23 cause) 34 (st == lsACTIVE)
  let w := if changed then setFld (setFld (setBit w 35 true) 22 19 st) 14 0 s.beatNum else w
  let s := s.setReg (.LN_STS n) w
  let s := if changed then s.logEvt 3 (n * 2 ^ 16 + cause) else s
  let s := if st < lsADAPT ∨ lsACTIVE < st then (s.modLn n Lane.flush).setB (.LN_TXEQ n) F.LN_TXEQ_PRECODE false else s
  s.laneBegin n st

/-- The next state after a cause (R365, R353). A quick retrain goes to LOCK; a hold stays in FAULT with no retry. -/
def laneNext (cause : Nat) (quick hold : Bool) : Nat :=
  if cause = 0x13 ∨ cause = 0x14 then (if hold then lsFAULT else if quick then lsLOCK else lsDETECT)
  else if cause = 0x15 then lsOFF
  else if cause = 0x16 then lsTEST
  else lsFAULT

/-- Every ACTIVE or ARMED channel of lane n trips with LINK (R119). -/
def State.laneTrip (s : State) (n : Nat) : State :=
  s.forChannels (fun c x => c / 2048 == n && x.live) (fun st c => st.glvLink c)

/-- The lane leaves its state for a cause: out of ACTIVE it leaves service first (R364), and waiting reads return (R66). -/
def State.laneLeave (s : State) (n cause : Nat) (quick hold : Bool) : State :=
  let was := s.inService n
  let s := s.modLn n (fun x => { x with quick := quick, noRetry := hold })
  let s := if was then s.laneTrip n else s
  let s := s.laneGoto n (laneNext cause quick hold) cause
  if was then s.chioArrivals else s

/-- A failure or a timeout (R353). -/
def State.laneFail (s : State) (n cause : Nat) : State := s.laneLeave n cause (s.ln n).quick (s.ln n).noRetry

/-- A full bring-up starts at preset 1 of Table 13.5 (R358); a quick retrain keeps the taps (R365). -/
def State.lanePreset (s : State) (n : Nat) : State := s.setReg (.LN_TXEQ n) 0x1000#36

/-- A retrain or hold command, from LNn_CTL.CMD or the hub (R366). -/
def State.laneCommand (s : State) (n cmd cause : Nat) : State :=
  if s.laneState n = lsOFF then s
  else if cmd = 1 then (s.laneLeave n cause false false).lanePreset n
  else if cmd = 2 then s.laneLeave n cause true false
  else if cmd = 3 then s.laneLeave n cause false true
  else s

/-- EN (Table 13.1, R366). -/
def State.laneSetEn (s : State) (n : Nat) (en : Bool) : State :=
  let s := s.setB (.LN_CTL n) F.LN_CTL_EN en
  if en then
    (if s.laneState n = lsOFF then
      (s.modLn n (fun x => { x with quick := false, noRetry := false })).lanePreset n |>.laneGoto n lsDETECT (s.laneCause n)
     else s)
  else if s.laneState n = lsOFF then s
  else s.laneLeave n 0x15 false false

/-- A write to LNn_CTL. -/
def State.laneCtlWrite (s : State) (n : Nat) (w : Word) : State :=
  let en := bit w 0
  let was := s.laneState n
  let s := s.setReg (.LN_CTL n) (applyWrite (Reg.fields (.LN_CTL n)) false (s.reg (.LN_CTL n)) w)
  let s := s.laneSetEn n en
  if en && was != lsOFF then s.laneCommand n (fld w 3 2) 0x13 else s

/-- LOCK ends once marker lock holds and BEAT_CTL.LOCKED is 1 (Table 13.1). -/
def State.laneTryTrain (s : State) (n : Nat) : State :=
  if s.laneState n = lsLOCK ∧ (s.ln n).markerLock ∧ s.getB .BEAT_CTL F.BEAT_CTL_LOCKED then s.laneGoto n lsTRAIN (s.laneCause n)
  else s

/-- The timeout of the present state expires (Table 13.1). LOCK has none once marker lock holds. -/
def State.laneTimeout (s : State) (n : Nat) : State :=
  let st := s.laneState n
  if st = lsDETECT then (s.setB (.LN_FAULT n) F.LN_FAULT_NOTERM true).laneFail n 0x01
  else if st = lsCHECK then (s.setB (.LN_FAULT n) F.LN_FAULT_LOS true).laneFail n 0x05
  else if st = lsLOCK ∧ !(s.ln n).markerLock ∧ n < 16 then s.laneFail n 0x06
  else if st = lsTRAIN then s.laneFail n 0x07
  else if st = lsADAPT then s.laneFail n 0x08
  else if st = lsIDENT then s.laneFail n 0x0A
  else if st = lsMAP then s.laneFail n 0x0C
  else if st = lsALIGN then s.laneFail n 0x0D
  else s

/-! ## READY (R362) -/

/-- In ALIGN, READY naming B = BEAT_NUM + 2 is sent once the offset has been inside the window in 4 consecutive beats and
every LIMITS message queued for the lane has been acknowledged. -/
def State.laneTryReady (s : State) (n : Nat) : State :=
  let x := s.ln n
  if s.laneState n = lsALIGN ∧ x.readyB = none ∧ 4 ≤ x.alignCnt ∧ !x.limitsPending then
    let b := BitVec.ofNat 36 (s.beatNum + 2)
    let (s, seq) := s.sendMsg n 0x015 [b] true
    s.modLn n (fun x => { x with readyB := some b, readyAck := false, readySeq := seq })
  else s

/-- A READY whose boundary has passed is withdrawn. -/
def Lane.dropReady (x : Lane) : Lane :=
  { x with
    readyB := none, readyAck := false
    out := x.out.filter (fun m => m.mtype != 0x015), waitAck := x.waitAck.filter (fun m => m.mtype != 0x015) }

/-- The lane enters service: the mode in force at its hub is OPEN (R116); in state SAFE the SAFE ordered set goes out at
the first slot boundary (R363). -/
def State.laneEnterService (s : State) (n : Nat) : State :=
  let s := s.laneGoto n lsACTIVE (s.laneCause n)
  let s := s.modLn n (fun x => { x.dropReady with
    beatMiss := 0, dnLostBits := 0, safeDue := s.devState == 6, nakDue := [], upExpect := [], upShift := 0, naks := 0, cwSince := 256 })
  s.forChannels (fun c _ => c / 2048 == n) (fun st c => st.modCh c (fun x => { x with inForce := 4, sentMode := none }))

/-! ## The lane at a boundary -/

/-- A lane at boundary b (R358, R362, R336, R332): b is the number of the beat that opens; the closing beat's BEAT codeword
is judged first. -/
def State.laneBoundary (s : State) (n : Nat) : State :=
  let x := s.ln n
  let miss := if x.beatOk then 0 else x.beatMiss + 1
  let s := s.setLn n { x with
    beatMiss := miss, beatOk := false, beatBad := false, alignCnt := if x.beatOk then x.alignCnt else 0
    dnSlot := 0, dnShift := 0, dnSent := [], dnReplay := [], dnReplaysPrev := x.dnReplays, dnReplays := 0, nakDue := [], naks := 0
    upExpect := [], upShift := 0, lastTx := none }
  if s.inService n && decide (2 ≤ miss) then s.laneFail n 0x0E
  else if x.testGo then s.laneLeave n 0x16 false false
  else if s.laneState n = lsTRAIN && x.trainDone then
    let s := s.setB (.LN_TXEQ n) F.LN_TXEQ_PRECODE (x.txSts.getLsbD 8)
    s.laneGoto n lsADAPT (s.laneCause n)
  else if s.laneState n = lsALIGN then
    match x.readyB with
    | some b =>
      if b.toNat = s.beatNum then
        (if x.readyAck then s.laneEnterService n else (s.modLn n Lane.dropReady).laneTryReady n)
      else s
    | none => s.laneTryReady n
  else s

/-! ## SAFE on a lane (R350) -/

/-- The SAFE ordered set: the codeword in flight is lost and is never replayed. -/
def State.laneSafeSet (s : State) (n : Nat) : State :=
  if s.inService n then
    s.modLn n (fun x =>
      let gone := match x.lastTx with | some t => x.dnSent.filter (fun y => y.slot != t.slot) | none => x.dnSent
      { x with dnSent := gone, lastTx := none, safeSent := x.safeSent + 1, safeDue := false })
  else s

/-- SAFE (R126, R127): the lanes send the ordered set, every channel is parked, SAFE_SEEN sets and the device enters SAFE. -/
def State.enterSafe (s : State) : State :=
  let s := (List.range 16).foldl (fun st n => st.laneSafeSet n) s
  let s := s.forChannels (fun _ _ => true) (fun st c => st.glvPark c 0x1C)
  let s := (s.setB .GLV_STS F.GLV_STS_SAFE_SEEN true).fireSource F.DBG_GONG_SRC_SAFE
  if s.devState = 6 then s
  else ((s.setF .HOST_STATE F.HOST_STATE_PREV s.devState).setDevState 6).sessionCheck

/-- SAFE asked for: in POWERUP and SELFTEST it waits for the end of SELFTEST (R412). -/
def State.askSafe (s : State) : State :=
  if s.devState < 2 then { s with seq := { s.seq with safePend := true } } else s.enterSafe

/-! ## The SVC messages of firmware (R370) -/

def State.msgTxAppend (s : State) (n : Nat) (w : Word) : State :=
  s.modLn n (fun x => if x.txBuf.length < 256 then { x with txBuf := x.txBuf ++ [w] } else x)

/-- A write to LNn_MSG_TXC: LEN takes the value written; SEND sends the first LEN buffered words as MTYPE 0x040, unless a
message is pending, fewer than LEN words are buffered, or LEN lies outside 1-141. -/
def State.msgTxcWrite (s : State) (n : Nat) (w : Word) : State :=
  let len := fld w 26 18
  let s := s.setF (.LN_MSG_TXC n) F.LN_MSG_TXC_LEN len
  let x := s.ln n
  if bit w 17 && s.getF (.LN_MSG_TXC n) F.LN_MSG_TXC_STS != 1 && decide (1 ≤ len ∧ len ≤ 141 ∧ len ≤ x.txBuf.length) then
    let (s, seq) := s.sendMsg n 0x040 (x.txBuf.take len) true
    (s.modLn n (fun x => { x with txBuf := x.txBuf.drop len, svcSeq := seq })).setF (.LN_MSG_TXC n) F.LN_MSG_TXC_STS 1
  else s

/-- A read of LNn_MSG_RX. -/
def State.msgRxPop (s : State) (n : Nat) : Word × State :=
  match (s.ln n).rxBuf with
  | [] => (0, s)
  | w :: l => (w, s.modLn n (fun x => { x with rxBuf := l }))

/-- A received message enters the receive buffer, header first, if all of it fits 512 words. -/
def State.msgRxIn (s : State) (n : Nat) (ws : List Word) : State :=
  if (s.ln n).rxBuf.length + ws.length ≤ 512 then s.modLn n (fun x => { x with rxBuf := x.rxBuf ++ ws })
  else s.setB (.LN_MSG_RXS n) F.LN_MSG_RXS_OVF true

/-! ## Tests and the eye (R368, R369) -/

/-- A write to LNn_TEST. Hub loopback is accepted from ADAPT to ACTIVE only, and begins at the boundary after the ACK of
the TEST message. -/
def State.laneTestWrite (s : State) (n : Nat) (w : Word) : State :=
  let v := setFld 0 5 1 (fld w 5 1)
  if v = 0 then
    let s := (s.prbsStop n).setReg (.LN_TEST n) 0
    if s.laneState n = lsTEST then
      ((s.lanePreset n).modLn n (fun x => { x with quick := false, noRetry := false })).laneGoto n lsDETECT (s.laneCause n)
    else s.modLn n (fun x => { x with testPend := none, testGo := false })
  else if fld v 5 4 = 3 then
    (if s.framing n then
      let s := (s.prbsStop n).setReg (.LN_TEST n) v
      let (s, seq) := s.sendMsg n 0x017 [1] true
      s.modLn n (fun x => { x with testPend := some (BitVec.ofNat 36 seq), testGo := false })
     else s)
  else
    let s := (s.prbsStop n).setReg (.LN_TEST n) v
    if s.laneState n = lsTEST then s else s.laneLeave n 0x16 false false

/-- A result of the eye monitor, which runs in every state of Table 13.1 from ADAPT onwards (R369). EYE_LOW posts a health event (Table 19.1). -/
def State.laneEye (s : State) (n eye height width : Nat) : State :=
  if lsADAPT ≤ s.laneState n then
    let s := s.setReg (.LN_EYE n) (setFld (setFld (setFld (setBit 0 35 true) 34 33 eye) 23 15 height) 14 5 width)
    if height < s.getF (.LN_EYE_THR n) F.LN_EYE_THR_HEIGHT ∨ width < s.getF (.LN_EYE_THR n) F.LN_EYE_THR_WIDTH then
      let s' := s.setB (.LN_STS n) F.LN_STS_EYE_LOW true
      if s.getB (.LN_STS n) F.LN_STS_EYE_LOW then s' else s'.healthEvt 0x09 n
    else s
  else s

end Sys2Proof.Machine
end

