-- ==== Sys2Proof/Machine/BeatCtl.lean ====
section
/-! DEFINITION. The beat generator's registers and its input (R38, R39, R43-R48): the qualification of BEAT_IN edges, RELOCK,
and writes to BEAT_PERIOD and BEAT_CTL. Times are in units of 10 ns. -/

namespace Sys2Proof.Machine

/-- One of BEAT_STS LOST, EDGE_ERR or SHORT sets: ALERT_N asserts and firmware logs a beat event (R48, source 0x005). -/
def State.beatFlag (s : State) (f : Nat × Nat) : State :=
  let s := s.withAlert (fun st => st.setB .BEAT_STS f true)
  s.logEvt 5 (fld (s.reg .BEAT_STS) 3 0)

/-! ## BEAT_PERIOD (R37-R39) -/

/-- The record codewords of one direction end no later than data codeword K - 1 (R337). -/
def mapFits (k first count : Nat) : Bool := count == 0 || decide (first + count ≤ k)

/-- Every frame map of the image in force fits under K. -/
def State.mapsFit (s : State) (k : Nat) : Bool :=
  match s.helm.chmap with
  | none => true
  | some m => m.lanes.all (fun l => mapFits k l.firstUp (rcw l.up.length 35) && mapFits k l.firstDn (rcw l.dn.length 71))

/-- A write to BEAT_PERIOD: ignored while LOCKED, outside 500-10,000, or where a frame map would not fit. The beat that the
next boundary opens is the first of the new period. -/
def State.beatPeriodWrite (s : State) (w : Word) : State :=
  let p := fld w 13 0
  if s.getB .BEAT_CTL F.BEAT_CTL_LOCKED || decide (p < 500 ∨ 10000 < p) || !s.mapsFit (kOf p) then s
  else s.setF .BEAT_PERIOD F.BEAT_PERIOD_PERIOD p

/-! ## BEAT_CTL -/

/-- RELOCK: the next suitable edge realigns the boundary. It has an effect only while BEAT_IN is followed. -/
def State.beatRelock (s : State) : State :=
  if s.getB .BEAT_CTL F.BEAT_CTL_SRC then { s with beat := { s.beat with relock := true } } else s

/-- A write to BEAT_CTL. Clearing OUT_EN ends a pulse of BEAT_OUT (R42). Setting SRC keeps local boundaries and holds HOLDOVER until BEAT_IN has qualified (R43). -/
def State.beatCtlWrite (s : State) (w : Word) : State :=
  let was := s.getB .BEAT_CTL F.BEAT_CTL_SRC
  let s := s.setReg .BEAT_CTL (applyWrite (Reg.fields .BEAT_CTL) (s.getB .BEAT_CTL F.BEAT_CTL_LOCKED) (s.reg .BEAT_CTL) w)
  let src := s.getB .BEAT_CTL F.BEAT_CTL_SRC
  let s := if src = was then s
    else { s.setB .BEAT_STS F.BEAT_STS_HOLDOVER src with
      beat := { s.beat with lockCnt := 0, aligned := false, relock := false } }
  let s := { s with beat := { s.beat with outPulse := s.beat.outPulse && s.getB .BEAT_CTL F.BEAT_CTL_OUT_EN } }
  if bit w 3 then s.beatRelock else s

/-! ## BEAT_IN edges -/

/-- A difference of at most w. -/
def near (a b w : Nat) : Bool := decide (a ≤ b + w ∧ b ≤ a + w)

/-- The boundary aligns to this edge: the beat in progress ends `len` after its boundary. -/
def State.beatAlign (s : State) (len : Nat) : State :=
  { s.setB .BEAT_STS F.BEAT_STS_HOLDOVER false with
    beat := { s.beat with lockCnt := 3, aligned := true, relock := false, length := some len } }

/-- The active level of BEAT_IN is the one held for less than half the period (R44); `high` of the period `len` it was high. Where both
levels are held for exactly half of it, neither qualifies and POL stays: the spec does not say, and it is the model's choice
(notes/assumptions/49.md). -/
def State.beatLevel (s : State) (len high : Nat) : State :=
  if 2 * high = len then s else s.setB .BEAT_CTL F.BEAT_CTL_POL (decide (len < 2 * high))

/-- An active edge, `sinceEdge` after the edge before it, in which time BEAT_IN was high for `high`, and `sinceBoundary` after the
last boundary. The boundary that an aligned edge makes follows it by 40 ns (R44) as BEAT_BOUNDARY; an edge within the window of a
boundary that the device has made itself (R45) realigns the next one. The model's choices (notes/assumptions/49.md): an edge that
comes while BEAT_IN is acquired (R43) is not counted in BEAT_EDGE_ERR, and SHORT sets only under RELOCK, not when the alignment after
the acquisition ends a local beat early. -/
def State.beatEdge (s : State) (sinceEdge sinceBoundary high : Nat) : State :=
  let p := s.beat.period
  let w := s.getF .BEAT_CTL F.BEAT_CTL_WINDOW
  if !s.getB .BEAT_CTL F.BEAT_CTL_SRC then s
  else if s.beat.relock && decide (p ≤ 2 * sinceBoundary) then
    let s := s.beatAlign (sinceBoundary + 4)
    if sinceBoundary + 4 < p then s.beatFlag F.BEAT_STS_SHORT else s
  else if !s.beat.aligned then
    (if 3 ≤ s.beat.lockCnt then s.beatAlign (sinceBoundary + 4)
     else
      let n := if near sinceEdge p w then s.beat.lockCnt + 1 else 0
      let s := s.beatLevel sinceEdge high
      { s with beat := { s.beat with lockCnt := n } })
  else if near (sinceBoundary + 4) p w then s.beatAlign (sinceBoundary + 4)
  else if s.getB .BEAT_STS F.BEAT_STS_HOLDOVER && decide (sinceBoundary + 4 ≤ w) then s.beatAlign (sinceBoundary + 4 + p)
  else (s.incF .BEAT_EDGE_ERR F.BEAT_EDGE_ERR_COUNT).beatFlag F.BEAT_STS_EDGE_ERR

def execBeatInEdge (sinceEdge sinceBoundary high : Nat) (s : State) : Out :=
  .next (s.beatEdge sinceEdge sinceBoundary high)
def execRelock (s : State) : Out := .next (s.beatCtlWrite (setBit (s.reg .BEAT_CTL) 3 true))
def execBeatPeriodWrite (w : Word) (s : State) : Out := .next (s.beatPeriodWrite w)

end Sys2Proof.Machine
end

