-- ==== Sys2Proof/Machine/Check.lean ====
section
/-! DEFINITION. The check units (R384-R393) and the march engine (R394-R399): what a check computes, when a run starts and
what it leaves. -/

namespace Sys2Proof.Machine

/-! ## Check algorithms (R386-R388, Table 15.2) -/

/-- One bit of the reflected CRC of R386. -/
def ckuBit (pr c : Nat) (b : Bool) : Nat := if decide (c % 2 = 1) != b then (c / 2) ^^^ pr else c / 2

/-- The low n bits of a word, from bit 0 upward. -/
def ckuWord (pr n c : Nat) (w : Word) : Nat := (List.range n).foldl (fun c i => ckuBit pr c (bit w i)) c

/-- The CRC of words in word mode. -/
def ckuCrc (pr : Nat) (ws : List Word) : Nat := (ws.foldl (ckuWord pr 36) 0xFFFFFFFF) ^^^ 0xFFFFFFFF

/-- The CRC in octet mode: the last word supplies only `tail` octets. -/
def ckuOctets (pr tail : Nat) : Nat → List Word → Nat
  | c, [] => c
  | c, [w] => ckuWord pr (8 * tail) c w
  | c, w :: ws => ckuOctets pr tail (ckuWord pr 32 c w) ws

/-- How many records of `size` words fail R81. -/
def crc9Fails (size : Nat) : Nat → List Word → Nat
  | 0, _ => 0
  | n + 1, ws =>
    let last := ws.getD (size - 1) 0
    (if crc9 (ws.headD 0) last = fld last 8 0 then 0 else 1) + crc9Fails size n (ws.drop size)

/-- RES of a completed check. -/
def ckuResult (ctl : Word) (ws : List Word) : Word :=
  let pr := if fld ctl 33 32 = 0 then 0x82F63B78 else 0xEDB88320
  let tail := if fld ctl 27 26 = 0 then 4 else fld ctl 27 26
  if fld ctl 33 32 = 2 then
    let size := if bit ctl 28 then 4 else 2
    BitVec.ofNat 36 (crc9Fails size (ws.length / size) ws)
  else if fld ctl 33 32 = 3 then ws.foldl (· + ·) 0
  else if bit ctl 31 then BitVec.ofNat 36 (ckuOctets pr tail 0xFFFFFFFF ws ^^^ 0xFFFFFFFF)
  else BitVec.ofNat 36 (ckuCrc pr ws)

/-! ## Check units: 0-47 the clusters', 48 and 49 the device's -/

/-- A START that R389 refuses with CFG. -/
def State.ckuCfgBad (s : State) (u : Nat) (w : Word) : Bool :=
  let len := s.getF (.CKU_LEN u) F.CKU_LEN_LEN
  let alg := fld w 33 32
  len == 0 || decide ((if u < 48 then 65536 else 4194304) < len) || (s.reg (.CKU_ADDR u)).toNat % 4 != 0 ||
    (bit w 31 && decide (2 ≤ alg)) || (alg == 2 && len % (if bit w 28 then 4 else 2) != 0) || (bit w 30 && fld w 15 0 == 0)

/-- The memory is one that unit u may read (Table 15.1). -/
def ckuMayRead (u : Nat) : MemId → Bool
  | .spad n => decide (n < 192) && (n / 4 == u || decide (48 ≤ u))
  | .sched n => decide (n < 192) && (n / 4 == u || decide (48 ≤ u))
  | .shared c => c == u || decide (48 ≤ u)
  | .queue => decide (48 ≤ u)
  | .sup => decide (48 ≤ u)

/-- The whole region lies in one memory of Table 15.1. -/
def State.ckuRegionOk (s : State) (u : Nat) : Bool :=
  let a := (s.reg (.CKU_ADDR u)).toNat
  let len := s.getF (.CKU_LEN u) F.CKU_LEN_LEN
  decide (a < 2 ^ 36) && (match memOf a with
    | some m => ckuMayRead u m && decide (a + 4 * len ≤ m.base + 4 * m.words)
    | none => false)

/-- A check ends with an error code and the words read. -/
def State.ckuEnd (s : State) (u err cnt : Nat) : State :=
  let w := setBit (setBit (s.reg (.CKU_STS u)) 35 false) 34 true
  s.setReg (.CKU_STS u) (setFld (setFld w 30 28 err) 22 0 cnt)

/-- The words of the region up to and without the first uncorrectable one. -/
def State.ckuWords (s : State) (a : Nat) : Nat → List Word × Bool
  | 0 => ([], true)
  | n + 1 => if s.isBad a then ([], false) else let (ws, ok) := s.ckuWords (a + 4) n; (s.word a :: ws, ok)

/-- Who reads for unit u: a cluster's unit reads within its section, a device unit from outside. -/
def ckuReader (u : Nat) : Reader := if u < 48 then .unit (u / 8) else .outside

/-- The unit reads the first n words of its region as memory stands now: corrected reads are counted (R288), in octet mode a word
with bits 35:32 set raises FMT (R388), an uncorrectable word ends the check with DATA and counts among the words read (R389). The
words, unless the check has ended. -/
def State.ckuRead (s : State) (u n : Nat) : Option (List Word) × State :=
  let a := (s.reg (.CKU_ADDR u)).toNat
  let (ws, ok) := s.ckuWords a n
  let s := s.softReads a (4 * ws.length) (ckuReader u)
  let s := if bit (s.reg (.CKU_CTL u)) 31 && ws.any (fun w => fld w 35 32 != 0) then s.setB (.CKU_STS u) F.CKU_STS_FMT true else s
  if ok then (some ws, s) else (none, (s.eccUncorrectable (a + 4 * ws.length)).ckuEnd u 2 (ws.length + 1))

/-- ABORT (R393): the check stops with ERR ABORTED. How many words it had read is a free value of at most LEN; they have had
their effects. -/
def State.ckuAbort (s : State) (u : Nat) : State :=
  let p := s.drawNat 23
  let n := p.1 % (s.getF (.CKU_LEN u) F.CKU_LEN_LEN + 1)
  match p.2.ckuRead u n with
  | (some _, t) => t.ckuEnd u 4 n
  | (none, t) => t

/-- A write to STS (R391): writing 1 to DONE also clears ERR. -/
def State.ckuStsWrite (s : State) (u : Nat) (w : Word) : State :=
  let r := Reg.CKU_STS u
  let s := s.setReg r (applyWrite (Reg.fields r) false (s.reg r) w)
  if bit w 34 then s.setF r F.CKU_STS_ERR 0 else s

/-- A check begins: outside Table 15.1 it ends at once with ADDR. -/
def State.ckuBegin (s : State) (u : Nat) : State :=
  if s.ckuRegionOk u then s.setB (.CKU_STS u) F.CKU_STS_BUSY true else s.ckuEnd u 1 0

/-- A write to CTL (R389, R392, R393). -/
def State.ckuCtlWrite (s : State) (u : Nat) (w : Word) : State :=
  let r := Reg.CKU_CTL u
  let busy := s.getB (.CKU_STS u) F.CKU_STS_BUSY
  let per := bit w 30
  let s := if per then s else s.setCku u { s.ckUnit u with armed := false }
  if busy then
    let s := s.setB r F.CKU_CTL_PER per
    if bit w 34 then s.ckuAbort u else s
  else
    let s := s.setReg r (applyWrite (Reg.fields r) false (s.reg r) w)
    if bit w 35 then
      if s.ckuCfgBad u w then s.ckuEnd u 3 (s.getF (.CKU_STS u) F.CKU_STS_CNT)
      else if per then s.setCku u { armed := true, due := 0 }
      else (s.setCku u { s.ckUnit u with armed := false }).ckuBegin u
    else s

/-- The check completes (R388, R390); a cluster's unit reads nothing while its section stands still (R385). `ups`: errors that have
arisen in words of memory by then. -/
def State.ckuFinish (s : State) (u : Nat) (ups : List Upset) : State :=
  let s := s.upset ups
  if s.getB (.CKU_STS u) F.CKU_STS_BUSY && !(decide (u < 48) && s.stalled (u / 8)) then
    let ctl := s.reg (.CKU_CTL u)
    match s.ckuRead u (s.getF (.CKU_LEN u) F.CKU_LEN_LEN) with
    | (none, s) => s
    | (some ws, s) =>
      let res := ckuResult ctl ws
      let mis := if fld ctl 33 32 = 2 then res != 0 else res != s.reg (.CKU_EXP u)
      let s := (s.setReg (.CKU_RES u) res).ckuEnd u 0 ws.length
      if mis then s.setB (.CKU_STS u) F.CKU_STS_MIS true else s
  else s

/-- A beat boundary for an armed unit (R392). -/
def State.ckuBoundary (s : State) (u : Nat) : State :=
  let x := s.ckUnit u
  if !x.armed then s
  else if x.due = 0 then
    let s := s.setCku u { x with due := fld (s.reg (.CKU_CTL u)) 15 0 - 1 }
    if s.getB (.CKU_STS u) F.CKU_STS_BUSY then s.setB (.CKU_STS u) F.CKU_STS_SKIP true else s.ckuBegin u
  else s.setCku u { x with due := x.due - 1 }

/-- A reset or power gating of section k aborts the checks of its cluster check units (R393); what is armed stays armed. -/
def State.checkAbortSect (s : State) (k : Nat) : State :=
  (List.range 8).foldl (fun st c =>
    let u := k * 8 + c
    if st.getB (.CKU_STS u) F.CKU_STS_BUSY then st.ckuAbort u else st) s

def execCheckStart (u : CkuId) (w : Word) (s : State) : Out := .next (s.ckuCtlWrite u (setBit w 35 true))
def execCheckAbort (u : CkuId) (s : State) : Out := .next (s.ckuCtlWrite u (setBit (setBit (s.reg (.CKU_CTL u)) 34 true) 35 false))
def execCheckComplete (u : CkuId) (ups : List Upset) (s : State) : Out := .next (s.ckuFinish u ups)

/-! ## The march engine -/

/-- The section of a march target. -/
def marchSect (kind inst : Nat) : Option Nat :=
  if kind ≤ 3 then (if inst < 192 then some (inst / 32) else none)
  else if kind = 4 then some (inst / 8)
  else none

/-- KIND, INST, ALG and RET_MS that R395 refuses with BAD. -/
def marchBad (alg kind inst ret : Nat) : Bool :=
  let ok := if kind ≤ 3 then decide (inst < 192 ∨ inst = 255) else if kind = 4 then decide (inst < 48)
    else if kind = 7 then decide (inst < 2) else inst == 0
  !ok || alg == 3 || (alg == 1 && (kind == 2 || kind == 3)) || (alg == 2 && ret == 0)

/-- The words of the target that have a mark of `l`, by the address of their first byte. -/
def marchMarked (l : SMap Bool) (kind inst : Nat) : List Nat :=
  match marchMemId kind inst with
  | some m => (l.filter (fun p => p.2 && decide (memOf (4 * p.1) = some m))).map (fun p => 4 * p.1)
  | none => []

/-- A word of the target, or a channel's entry in the Glove copy, is known to be uncorrectable. -/
def State.marchBadRow (s : State) (kind inst : Nat) : Bool :=
  !(marchMarked s.eccBad kind inst).isEmpty || (kind == 7 && s.chan.any (fun p => p.2.badOf inst))

/-- The section is idle for a destructive run. -/
def State.marchIdle (s : State) (k : Nat) : Bool := !s.running k

/-- The engines whose fence alone may allow the run (Table 15.5). -/
def State.marchFenced (s : State) (kind inst : Nat) : Bool :=
  if kind ≤ 3 then decide (inst < 192) && (s.engine inst).fenced
  else kind == 4 && (List.range 4).all (fun e => (s.engine (4 * inst + e)).fenced)

/-- Table 15.5's condition for a destructive run. -/
def State.marchAllowed (s : State) (kind inst : Nat) : Bool :=
  let st := s.devState
  match marchSect kind inst with
  | some k => s.marchIdle k || s.marchFenced kind inst
  | none =>
    if kind = 6 then decide (1 ≤ st ∧ st ≤ 3)
    else if kind = 7 then !s.getB .GLV_CTL F.GLV_CTL_LOCK
    else decide (1 ≤ st ∧ st ≤ 2)

/-- MARCH_CTL.START (R395): the REFUSE code. -/
def State.marchRefuse (s : State) (w : Word) : Nat :=
  let alg := fld w 33 32
  let kind := fld w 26 24
  let inst := fld w 23 16
  if marchBad alg kind inst (fld w 15 0) then 2
  else if (match marchSect kind inst with | some k => s.gated k | none => false) then 3
  else if alg != 1 && !s.marchAllowed kind inst then 1
  else 0

/-- A run begins. -/
def State.marchBegin (s : State) (w : Word) : State :=
  let kind := fld w 26 24
  let inst := fld w 23 16
  let alg := fld w 33 32
  let fo := match marchSect kind inst with | some k => !s.marchIdle k | none => false
  let s := s.setB .MARCH_STS F.MARCH_STS_BUSY true
  { s with march := { s.march with busy := true, kind := kind, inst := inst, alg := alg, waits := if alg = 2 then 2 else 0, fencedOnly := fo } }

/-- The entry of channel c in a copy with undefined contents: free values of generation g. -/
def GlvEntry.free (g c : Nat) : GlvEntry :=
  let w := fun k => Config.freeWord g (8 * c + k)
  { w0 := w 0, w1 := w 1, w2 := w 2, w3 := w 3, w4 := w 4, w5 := w 5, w6 := w 6, w7 := w 7 }

/-- One copy of a channel's entry is replaced. -/
def Chan.setCopy (x : Chan) (i : Nat) (g : GlvEntry) : Chan := if i = 0 then { x with g0 := g } else { x with g1 := g }

/-- Copy i of the entries of the channels below n becomes undefined: a new generation of free values. -/
def State.freeCopy (s : State) (i n : Nat) : State :=
  { (List.range n).foldl (fun st c => st.modCh c (fun x => x.setCopy i (GlvEntry.free (s.fresh + 1) c))) s with fresh := s.fresh + 1 }

/-- A cache of `sets` sets with undefined contents (R399): whether a line is held, its tag and its words are free values of
generation g. -/
def freeCache (g sets : Nat) : SMap (Option CacheLine) :=
  (List.range (2 * sets)).filterMap (fun k =>
    if Config.freeNat (g + 2 * k) % 2 = 0 then none
    else
      let base := (Config.freeNat (g + 2 * k + 1) % (2 ^ 31 / sets) * sets + k / 2) * 32
      some (k, some { base := base, words := (List.range 8).map (fun j => Config.freeWord g (8 * k + j)) }))

/-- What a destructive run leaves in its target when it completes (`done`) or stops: zeros, R111 entries, empty caches, or
undefined contents (R396, R399). -/
def State.marchLeaves (s : State) (kind inst : Nat) (done : Bool) : State :=
  let n := if inst = 255 then 192 else inst
  let g := s.fresh + 1
  if kind = 2 then
    { s.modEngine n (fun x => { x with icache := if done then [] else freeCache g 256 }) with fresh := if done then s.fresh else s.fresh + 1024 }
  else if kind = 3 then
    { s.modEngine n (fun x => { x with dcache := if done then [] else freeCache g 64 }) with fresh := if done then s.fresh else s.fresh + 1024 }
  else match marchMemId kind inst with
  | some m => if done then s.zeroMem m else s.scramble m
  | none =>
    if done then s.channels.foldl (fun st c => st.modCh c (fun x => (x.setCopy inst GlvEntry.reset).setBad inst false)) s
    else s.freeCopy inst 32768

/-- A preserving run has tested the words of its target that lie below address `stop`: a single-bit error in one is read, corrected and
counted, and is gone once the row has been written back (R288, R397). -/
def State.marchScrub (s : State) (kind inst stop : Nat) : State :=
  ((marchMarked s.eccSoft kind inst).filter (fun a => decide (a < stop))).foldl (fun st a =>
    let st := st.softRead a .outside
    if st.isBad a then st else { st with eccSoft := SMap.set (fun _ => false) st.eccSoft (a / 4) false }) s

/-- The first read of a row of the target that was not known to be uncorrectable finds it so: which row is free. Its byte address, if the
target is an addressed memory. -/
def State.marchUnc (s : State) (kind inst : Nat) : List Nat × State :=
  match marchMemId kind inst with
  | some m => let (v, s) := s.drawNat 22; ([m.base + 4 * (v % m.words)], s)
  | none => let (c, s) := s.drawNat 15; ([], if kind = 7 then s.modCh c (fun x => x.setBad inst true) else s)

/-- The end of a run: BUSY clears, DONE sets, and a destructive run leaves its section EMPTY unless only a fence allowed
it (R396). -/
def State.marchEnd (s : State) (done : Bool) : State :=
  let m := s.march
  let s := { s with march := { m with busy := false, waits := 0, fencedOnly := false } }
  let s := (s.setB .MARCH_STS F.MARCH_STS_BUSY false).setB .MARCH_STS F.MARCH_STS_DONE true
  if m.alg = 1 then s
  else
    let s := s.marchLeaves m.kind m.inst done
    match marchSect m.kind m.inst with
    | some k => if m.fencedOnly then s else s.emptySection k
    | none => s

/-- Each failing row raises FLOOR by 5 mV, up to 850 mV, and posts SRAM_FLOOR (R482). -/
def State.floorRaise (s : State) : State :=
  let v := min 850 (s.getF .HLTH_MARGIN F.HLTH_MARGIN_FLOOR + 5)
  (s.setF .HLTH_MARGIN F.HLTH_MARGIN_FLOOR v).healthEvt 0x08 v

/-- The key of the spare rows of one bank of the target. -/
def spareKey (m : March) (bank : Nat) : Nat := (m.kind * 256 + m.inst) * 64 + bank

/-- One failing row (R398): with `repair` a spare of its bank replaces it while one is left. -/
def State.marchRow (s : State) (repair : Bool) (f : FailRow) : State :=
  let s := s.incF .MARCH_STS F.MARCH_STS_FAILS
  let s := s.floorRaise
  if repair then
    let k := spareKey s.march f.bank
    let used := SMap.get (fun _ => 0) s.march.spares k
    if used < 2 then
      { s with march := { s.march with spares := SMap.set (fun _ => 0) s.march.spares k (used + 1) } }.incF .MARCH_STS
        F.MARCH_STS_REPAIRED
    else s.setB .MARCH_STS F.MARCH_STS_NOSPARE true
  else s

/-- What a run reports (R398): its failing rows, and whether a preserving run left an uncorrectable row untested (R397). `bad` are the
uncorrectable words that it read: each read is logged (R289, R486). -/
def State.marchReport (s : State) (repair : Bool) (fails : List FailRow) (bad : List Nat) (unc : Bool) : State :=
  let s := (s.setF .MARCH_STS F.MARCH_STS_FAILS 0).setF .MARCH_STS F.MARCH_STS_REPAIRED 0
  let s := s.setReg .MARCH_FAIL (match fails with | f :: _ => f.addr | [] => 0)
  let s := fails.foldl (fun st f => st.marchRow repair f) s
  let s := if s.march.alg = 1 then bad.foldl (fun st a => st.eccUncorrectable a) s else s
  if unc && s.march.alg == 1 then s.setB .MARCH_STS F.MARCH_STS_UNC true else s

/-- A run completes with its failing rows. A row of a preserving run that is known to be uncorrectable is left untested; `unc` says
that its first read of another one was. -/
def State.marchFinish (s : State) (fails : List FailRow) (unc : Bool) : State :=
  if s.march.busy && s.march.waits == 0 then
    let m := s.march
    let known := marchMarked s.eccBad m.kind m.inst
    let u := unc || s.marchBadRow m.kind m.inst
    let (more, s) := if unc && m.alg == 1 then s.marchUnc m.kind m.inst else ([], s)
    let s := if m.alg = 1 then s.marchScrub m.kind m.inst (2 ^ 36) else s
    (s.marchReport (s.getB .MARCH_CTL F.MARCH_CTL_REPAIR) fails (known ++ more) u).marchEnd true
  else s

/-- n failing rows of which nothing is known: each address and bank is a free value. -/
def State.freeRows (s : State) : Nat → List FailRow × State
  | 0 => ([], s)
  | n + 1 =>
    let a := s.drawNat 36
    let b := a.2.drawNat 6
    let r := b.2.freeRows n
    ({ addr := BitVec.ofNat 36 a.1, bank := b.1 } :: r.1, r.2)

/-- A run stops at a row boundary (R399). The failing rows it had found by then are free, and so is whether it had come to an
uncorrectable row not known before, and the address up to which it had tested. A preserving run repairs as it goes, a destructive one at
its end only (R398). -/
def State.marchAbort (s : State) : State :=
  let m := s.march
  let n := s.drawNat 18
  let c := n.2.drawNat 1
  let l := c.2.freeRows n.1
  let e := l.2.drawNat 36
  let known := (marchMarked s.eccBad m.kind m.inst).filter (fun a => decide (a < e.1))
  let (more, t) := if c.1 = 1 ∧ m.alg = 1 then e.2.marchUnc m.kind m.inst else ([], e.2)
  let t := if m.alg = 1 then t.marchScrub m.kind m.inst e.1 else t
  let t := t.marchReport (m.alg == 1 && s.getB .MARCH_CTL F.MARCH_CTL_REPAIR) l.1 (known ++ more) (c.1 == 1 || !known.isEmpty)
  (t.marchEnd false).setB .MARCH_STS F.MARCH_STS_ABORTED true

/-- A write to MARCH_CTL: START is ignored while a run is in progress (also the boot march's), and beside an ABORT: that is the model's
choice (notes/assumptions/49.md). -/
def State.marchCtlWrite (s : State) (w : Word) : State :=
  let s := s.setReg .MARCH_CTL (applyWrite (Reg.fields .MARCH_CTL) false (s.reg .MARCH_CTL) w)
  let s := if bit w 34 && s.march.busy then s.marchAbort else s
  if bit w 35 && !s.march.busy && !s.march.boot && !bit w 34 then
    let code := s.marchRefuse w
    let s := s.setF .MARCH_STS F.MARCH_STS_REFUSE code
    if code = 0 then s.marchBegin w else s
  else s

/-- A reset or power gating of section k stops a run on its memories (R399). -/
def State.marchAbortSect (s : State) (k : Nat) : State :=
  if s.march.busy && marchSect s.march.kind s.march.inst == some k then
    s.marchAbort
  else s

/-- A retention wait ends. -/
def State.retentionEnd (s : State) : State :=
  if s.march.busy then { s with march := { s.march with waits := s.march.waits - 1 } } else s

def execMarchStart (w : Word) (s : State) : Out := .next (s.marchCtlWrite (setBit w 35 true))
def execMarchAbort (s : State) : Out := .next (s.marchCtlWrite (setBit (s.reg .MARCH_CTL) 34 true))
def execRetentionWaitEnd (s : State) : Out := .next s.retentionEnd
def execMarchComplete (fails : List FailRow) (unc : Bool) (s : State) : Out := .next (s.marchFinish fails unc)

end Sys2Proof.Machine
end

