-- ==== Sys2Proof/Machine/Access.lean ====
section
/-! DEFINITION. Which accesses an engine may make: the address map (R28, R29), protection regions (R291-R295), device
registers (R13), the Glove window (R129), code stores (R166), schedule memories of others (R169), the staging window (R427),
cross-section accesses (R313), memories of a fenced engine (R492), alignment (R278). -/

namespace Sys2Proof.Machine

/-- The section number, or 6 for the SVE's regions. -/
def regionSet (e : Nat) : Nat := if e = 192 then 6 else sectOf e

/-- Whether region k of set o covers byte a (R291). -/
def State.covers (s : State) (o k a : Nat) : Bool :=
  let at' := s.reg (.PRGN_ATTR o k)
  let sz := fld at' 34 29
  bit at' 35 && decide (6 ≤ sz ∧ sz ≤ 36) && (a >>> sz == (s.reg (.PRGN_BASE o k)).toNat >>> sz)

/-- The attributes of the lowest-numbered region that covers byte a as engine e issues it. -/
def State.region (s : State) (e a : Nat) : Option Word :=
  ((List.range 8).find? (fun k => s.covers (regionSet e) k a)).map (fun k => s.reg (.PRGN_ATTR (regionSet e) k))

def attrX (w : Word) : Bool := bit w 28
def attrC (w : Word) : Bool := bit w 27
def attrRD (w : Word) : Nat := fld w 26 25
def attrWR (w : Word) : Nat := fld w 24 23

/-- The ranges of Table 1.5 as an engine sees them. -/
inductive Rng where
  | spad | sched | shared | window | queue | sup | dev | glv
  deriving DecidableEq, Repr

/-- The range of byte address a, for an engine that can reach it (R28, R29). -/
def rangeOf (e a : Nat) : Option Rng :=
  match engineLoc e a with
  | none => none
  | some (.glv _) => if e = 192 then some .glv else none
  | some (.dev a) => if Reg.inBlock a then some .dev else none
  | some (.mem ca) =>
    if a < 0x10000 then some .spad
    else if a < 0x48000 then some .sched
    else if a < 0xC0000 then some .shared
    else match memOf ca with
      | some .queue => some .queue
      | some .sup => if e = 192 then some .sup else none
      | _ => some .window

/-- Table 10.4: the least privileged ring that may read or write where no region covers the byte. Writes of the local
schedule memory are decided by the code-store rule. -/
def tableRing (write : Bool) : Rng → Nat
  | .spad | .shared => if write then 2 else 3
  | .sched => if write then 3 else 1
  | .window => if write then 1 else 3
  | .queue | .dev => 1
  | .sup => if write then 0 else 1
  | .glv => 0

/-- The ring check of one byte (R291, R292). -/
def State.ringOk (s : State) (e ring a : Nat) (write : Bool) (r : Rng) : Bool :=
  match r with
  | .glv => decide (ring = 0)
  | .queue => decide (ring ≤ 1) && (match s.region e a with
      | some w => decide (ring ≤ (if write then attrWR w else attrRD w)) | none => true)
  | r => match s.region e a with
      | some w => decide (ring ≤ (if write then attrWR w else attrRD w))
      | none => decide (ring ≤ tableRing write r)

/-- Whether byte a is executable for engine e beside its local schedule memory (R293): marked X, in the own cluster shared
memory of a performance-mode engine, or in supervisor memory of the SVE. -/
def State.marked (s : State) (e a : Nat) : Bool :=
  match rangeOf e a with
  | some .shared => (s.engine e).perf e && ((s.region e a).map attrX).getD false
  | some .sup => ((s.region e a).map attrX).getD false
  | _ => false

/-- A store of byte a by engine e is a code store (R166): its own schedule memory by whatever address, or a byte marked
executable for it. -/
def State.isCode (s : State) (e a : Nat) : Bool :=
  (match engineLoc e a with
   | some (.mem ca) => memOf ca == some (.sched e)
   | _ => false) || s.marked e a

/-- Code stores are permitted in rings 0 and 1 with CODEWR set (R166). -/
def Engine.codeWr (x : Engine) (e : Nat) : Bool := decide (x.ring.toNat ≤ 1) && bit (x.csrW e 0) 2

/-- A region covers byte a of a schedule memory: it never permits a store there that is no code store (R292). -/
def State.schedCovered (s : State) (e a : Nat) : Bool :=
  (s.region e a).isSome && (match engineLoc e a with
    | some (.mem ca) => (match memOf ca with | some (.sched _) => true | _ => false)
    | _ => false)

/-- The refusal of one byte of an access of `size` bytes at `a0`: 0x03 MEM_PROT or 0x0A CODE_WRITE. Where a ring or a region refuses a
code store that R166 refuses as well, the cause is MEM_PROT: the spec gives no precedence, and it is the model's choice
(notes/assumptions/49.md). -/
def State.byteRefused (s : State) (e a0 size a : Nat) (write : Bool) : Option Nat :=
  let x := s.engine e
  let ring := x.ring.toNat
  match rangeOf e a with
  | none => some 0x03
  | some r =>
    if !s.ringOk e ring a write r then some 0x03
    else if r = .dev ∧ ¬ (size = 4 ∧ a0 % 4 = 0) then some 0x03
    else if r = .glv ∧ write ∧ s.getB .GLV_CTL F.GLV_CTL_LOCK then some 0x03
    else if r = .sup ∧ 0x0800F0000 ≤ a then some 0x03
    else
      let other := r = .window ∧ e < 192 ∧ ((engineLoc e a).bind (fun l => match l with
        | .mem ca => (memOf ca).bind MemId.sect | _ => none)) ≠ some (sectOf e)
      if other ∧ x.perf e = false ∧ s.getF (.SEC_XQ_MAX (sectOf e)) F.SEC_XQ_MAX_CYC = 0 then some 0x03
      else if write then
        (if s.isCode e a then (if x.codeWr e then none else some 0x0A)
         else if s.schedCovered e a then some 0x03
         else match engineLoc e a with
          | some (.mem ca) => (match memOf ca with
              | some (.sched n) => if n < 192 ∧ (s.running (sectOf n) ∨ (s.engine n).fenced) then some 0x03 else none
              | some (.spad n) => if n ≠ e ∧ (s.engine n).fenced then some 0x03 else none
              | _ => none)
          | _ => none)
      else none

/-- The first refused byte of an access, with its cause (R272: every byte is checked before any is written). An ld2
or st2 whose address is not a multiple of 4 is refused at that address (R278). -/
def State.accessRefused (s : State) (e a size : Nat) (write : Bool) : Option (Nat × Word) :=
  if size = 8 ∧ a % 4 ≠ 0 then some (0x03, BitVec.ofNat 36 a)
  else
    ((List.range size).findSome? (fun j =>
      let b := (a + j) % 2 ^ 36
      (s.byteRefused e a size b write).map (fun c => (c, BitVec.ofNat 36 b))))

/-- The canonical byte address of a permitted access (Ops.lean): device registers and the Glove window keep their address. -/
def canonOf (e a : Nat) : Nat :=
  match engineLoc e a with
  | some (.mem ca) => ca
  | some (.glv off) => 0x0C1000000 + off
  | some (.dev d) => d
  | none => a

/-- Whether an access takes a global path (R162): every range but the local ones and the own cluster's. -/
def globalPath (a : Nat) : Bool := decide (0xC0000 ≤ a)

/-- Whether the bytes of a load are cacheable for engine e (R286, R293): every one of them. A line lies within one region,
since the smallest region has 64 aligned bytes. -/
def State.cacheable (s : State) (e a size : Nat) : Bool :=
  (s.engine e).perf e && (List.range size).all (fun j => let b := (a + j) % 2 ^ 36
    match rangeOf e b with
    | some .shared | some .window | some .sup => ((s.region e b).map attrC).getD false
    | _ => false)

/-- The ranges in which tas, lr and sc work (R216). -/
def atomicRange (e a : Nat) : Bool :=
  a % 4 == 0 && (match rangeOf e a with
    | some .spad | some .shared | some .sup => true
    | some .window => (match engineLoc e a with
        | some (.mem ca) => (match memOf ca with | some (.shared _) => true | _ => false)
        | _ => false)
    | _ => false)

/-- A store that a post carries (R305): deterministic mode, every byte in the shared memory of another cluster of the
engine's own section, by its global window. -/
def State.isPost (s : State) (e a size : Nat) : Bool :=
  decide (e < 192) && !(s.engine e).perf e && decide (0xC0000 ≤ a) &&
  (List.range size).all (fun j => match memOf (a + j) with
    | some (.shared c) => c / 8 == sectOf e && c != cluOf e
    | _ => false)

end Sys2Proof.Machine
end

