-- ==== Sys2Proof/Machine/GlvCmd.lean ====
section
/-! DEFINITION. The Glove's commands and tightening (R12, R130, R131, R134, R135) and its event store (R133). -/

namespace Sys2Proof.Machine

/-! ## Tightening (R12, Tables 4.1 and 4.2) -/

/-- An action code that may replace another: the same, or a larger one that is not the reserved 3 (R12, R105). -/
def actTighter (old new : Nat) : Bool := decide (old ≤ new) && (new != 3 || old == 3)

/-- Word W6 apart from OWNER and the reserved bit, which take no part (R134). -/
def w6Tighter (o n : Word) : Bool :=
  (List.range 5).all (fun k => !bit n (31 + k) || bit o (31 + k)) &&
  actTighter (fld o 30 29) (fld n 30 29) && actTighter (fld o 28 27) (fld n 28 27) && actTighter (fld o 26 25) (fld n 26 25) &&
  actTighter (fld o 24 23) (fld n 24 23) && actTighter (fld o 22 21) (fld n 22 21) &&
  decide (fld n 11 8 ≤ fld o 11 8) && decide (fld n 7 4 ≤ fld o 7 4) && decide (fld n 3 0 ≤ fld o 3 0)

/-- Every field of word Wk is equal to, or more restrictive than, its present value (R12). -/
def tighter (k : Nat) (o n : Word) : Bool :=
  if k = 2 then decide (n.toInt ≤ o.toInt)
  else if k = 3 then decide (o.toInt ≤ n.toInt)
  else if k = 5 then decide (sext 18 (fld n 35 18) ≤ sext 18 (fld o 35 18)) && decide (sext 18 (fld o 17 0) ≤ sext 18 (fld n 17 0))
  else if k = 6 then w6Tighter o n
  else decide (n.toNat ≤ o.toNat)

/-- A write to W6 keeps OWNER and the reserved bit. -/
def keepOwner (o n : Word) : Word := setFld n 20 12 (fld o 20 12)

/-- A write to GLV_TWk (R130): accepted for both copies, or discarded with TIGHT_REJ. An accepted change of W0 or W1 goes to
the hub of a lane in ALIGN or ACTIVE where the channel is populated (R114, R343). An entry whose copies disagree takes no write (R132); the boot march
holds both copies, and the write is dropped (R396). -/
def State.glvTighten (s : State) (k : Nat) (w : Word) : State :=
  let c := s.getF .GLV_TSEL F.GLV_TSEL_CH
  if s.march.boot then s
  else
  let (s, same) := s.glvCompare c
  let o := (s.ch c).g0.word k
  if same && tighter k o w then
    let n := if k = 6 then keepOwner o w else w
    let s := s.modCh c (fun x => x.modEntry (fun g => g.setWordK k n))
    let st := s.laneState (c / 2048)
    if k ≤ 1 ∧ n ≠ o ∧ (st = lsALIGN ∨ st = lsACTIVE) ∧ (s.ch c).populated then s.sendLimits (c / 2048) [c % 2048] else s
  else s.setB .GLV_STS F.GLV_STS_TIGHT_REJ true

/-! ## GLV_CMD (R135) -/

/-- The channels of a block park with a cause. -/
def State.parkBlock (s : State) (first count cause : Nat) : State := (blockOf first count).foldl (fun st c => st.glvPark c cause) s

/-- The channels of a block are released: how many became ARMED, how many were refused. -/
def State.releaseBlock (s : State) (first count : Nat) : State × Nat × Nat :=
  (blockOf first count).foldl (fun (acc : State × Nat × Nat) c =>
    let (st, r) := acc.1.glvRelease c
    (st, if r = 1 then acc.2.1 + 1 else acc.2.1, if r = 2 then acc.2.2 + 1 else acc.2.2)) (s, 0, 0)

/-- A write to GLV_CMD. STS is busy until the command completes; `glvCmd` holds whether a channel was refused. -/
def State.glvCmdWrite (s : State) (w : Word) : State :=
  if s.getF .GLV_CMD F.GLV_CMD_STS = 1 then s
  else
    let first := fld w 14 0
    let count := fld w 23 15
    let op := fld w 35 34
    let s := (s.setF .GLV_CMD F.GLV_CMD_COUNT count).setF .GLV_CMD F.GLV_CMD_FIRST first
    if (op ≠ 1 ∧ op ≠ 2) ∨ count = 0 then s.setF .GLV_CMD F.GLV_CMD_STS 0
    else if 256 < count ∨ 32768 < first + count then s.setF .GLV_CMD F.GLV_CMD_STS 3
    else if op = 1 then { (s.parkBlock first count 0x19).setF .GLV_CMD F.GLV_CMD_STS 1 with glvCmd := some false }
    else
      let (s, _, r) := s.releaseBlock first count
      { s.setF .GLV_CMD F.GLV_CMD_STS 1 with glvCmd := some (r != 0) }

/-- The command completes. -/
def State.glvCmdFinish (s : State) : State :=
  match s.glvCmd with
  | some r => { s.setF .GLV_CMD F.GLV_CMD_STS (if r then 2 else 0) with glvCmd := none }
  | none => s

/-- A read of GLV_EVT removes the oldest event; firmware logs the trip (source 1). -/
def State.glvEvtPop (s : State) : Word × State :=
  match s.glvEvts with
  | [] => (0, s)
  | w :: l => (w, { s with glvEvts := l }.logEvt 1 (fld w 34 30 * 2 ^ 16 + fld w 14 0))

/-- The write of GLV_CMD that a row stands for. -/
def glvCmdWord (op first count : Nat) : Word := setFld (setFld (put 35 34 op) 23 15 count) 14 0 first

def execGlvTighten (k : Fin 7) (w : Word) (s : State) : Out := .next (s.glvTighten k w)
def execGlvCmdPark (first : Fin 32768) (count : Fin 512) (s : State) : Out := .next (s.glvCmdWrite (glvCmdWord 1 first count))
def execGlvCmdRelease (first : Fin 32768) (count : Fin 512) (s : State) : Out := .next (s.glvCmdWrite (glvCmdWord 2 first count))
def execGlvCmdDone (s : State) : Out := .next s.glvCmdFinish
def execGlvEvtRead (s : State) : Out := .next s.glvEvtPop.2

end Sys2Proof.Machine
end

