-- ==== Sys2Proof/Machine/Crypto.lean ====
section
/-! DEFINITION. The cryptographic functions that the spec takes from named standards, as those standards define them
(notes/assumptions/51.md): SHA-256 and SHA-384 (FIPS 180-4; R425, R441), HMAC (FIPS 198-1) and the counter-mode KDF of NIST
SP 800-108 (R438), ECDSA over P-384 (FIPS 186-5, SP 800-186; R425, R439), LMS (RFC 8554; R425). -/

namespace Sys2Proof.Machine

/-! ## Octet strings and numbers -/

/-- A big-endian number. -/
def beVal (os : List Octet) : Nat := os.foldl (fun a o => 256 * a + o.toNat) 0

/-- Four octets from position i on, as a big-endian number. -/
def be32 (os : List Octet) (i : Nat) : Nat := beVal ((List.range 4).map (fun j => os.getD (i + j) 0))

/-- An octet string in pieces of n octets. -/
def pieces (n : Nat) (os : List Octet) : List (List Octet) :=
  (List.range (os.length / n)).map (fun i => (os.drop (n * i)).take n)

/-! ## SHA-2 (FIPS 180-4) -/

/-- The integer part of the n-th root of v, bit by bit: the root so far is r, and bits below 2^b are still to be found. -/
def rootBits (n v : Nat) : Nat → Nat → Nat
  | 0, r => r
  | b + 1, r => rootBits n v b (if (r + 2 ^ b) ^ n ≤ v then r + 2 ^ b else r)

/-- The first `count` bits of the fractional part of the n-th root of p. -/
def rootFrac (n count p : Nat) : Nat := rootBits n (p * 2 ^ (n * count)) (count + 5) 0 % 2 ^ count

/-- The primes below 410: there are eighty. -/
def primes410 : List Nat := (List.range 410).filter (fun n => decide (2 ≤ n) && (List.range n).all (fun d => d < 2 || n % d != 0))

/-- What SHA-256 and SHA-384 differ in beside their word width w: the round constants, the rotations of the two functions of a round,
and the rotations and the shift of the two functions of the message schedule. -/
structure Sha2 (w : Nat) where
  consts : List (BitVec w)
  onA : List Nat
  onE : List Nat
  early : List Nat × Nat
  late : List Nat × Nat

/-- The rotations of x by the numbers of a list, added without carries. -/
def rotSum {w : Nat} (l : List Nat) (x : BitVec w) : BitVec w := l.foldr (fun n y => x.rotateRight n ^^^ y) 0

/-- The message schedule, newest word first: n more words. -/
def Sha2.extend {w : Nat} (c : Sha2 w) : Nat → List (BitVec w) → List (BitVec w)
  | 0, l => l
  | n + 1, l =>
    let back := fun i => l.getD (i - 1) 0
    let mix := fun (f : List Nat × Nat) (x : BitVec w) => rotSum f.1 x ^^^ x >>> f.2
    c.extend n ((back 16 + back 7 + mix c.early (back 15) + mix c.late (back 2)) :: l)

/-- A round as two recurrences: of the working variables a to d and e to h, each four are the last four values of one sequence, newest
first. Each sequence takes one value more. -/
def Sha2.advance {w : Nat} (c : Sha2 w) (q : List (BitVec w) × List (BitVec w)) (km : BitVec w) : List (BitVec w) × List (BitVec w) :=
  let a := fun i => q.1.getD i 0
  let e := fun i => q.2.getD i 0
  let choice := e 2 ^^^ e 0 &&& (e 1 ^^^ e 2)
  let majority := a 0 &&& a 1 ||| a 2 &&& (a 0 ||| a 1)
  let t := km + choice + rotSum c.onE (e 0) + e 3
  ((t + majority + rotSum c.onA (a 0)) :: q.1, (t + a 3) :: q.2)

/-- The chaining value after a block of 16 words. -/
def Sha2.chain {w : Nat} (c : Sha2 w) (v block : List (BitVec w)) : List (BitVec w) :=
  let ws := (c.extend (c.consts.length - 16) block.reverse).reverse
  let q := (List.zipWith (· + ·) c.consts ws).foldl c.advance (v.take 4, v.drop 4)
  List.zipWith (· + ·) v (q.1.take 4 ++ q.2.take 4)

/-- The padded message: a one bit, zeros, and the length in bits, in whole blocks of 2 w octets. -/
def shaPad (w : Nat) (os : List Octet) : List Octet :=
  let tail := (os.length + 1 + w / 4) % (2 * w)
  os ++ 0x80 :: List.replicate ((2 * w - tail) % (2 * w)) 0 ++ beOctets (w / 4) (8 * os.length)

/-- The words of an octet string. -/
def shaWords (w : Nat) (os : List Octet) : List (BitVec w) := (pieces (w / 8) os).map (fun o => BitVec.ofNat w (beVal o))

/-- The digest of an octet string from the first chaining value v, with its words as octets. -/
def Sha2.digest {w : Nat} (c : Sha2 w) (v : List (BitVec w)) (os : List Octet) : List Octet :=
  ((pieces (2 * w) (shaPad w os)).foldl (fun v b => c.chain v (shaWords w b)) v).flatMap (fun x => beOctets (w / 8) x.toNat)

/-- The functions of SHA-384; its constants are the fractional parts of the cube roots of the first 80 primes. -/
def sha2of64 : Sha2 64 :=
  { consts := primes410.map (fun p => BitVec.ofNat 64 (rootFrac 3 64 p)), onA := [28, 34, 39], onE := [14, 18, 41], early := ([1, 8], 7),
    late := ([19, 61], 6) }
/-- The functions of SHA-256, with the first 64 primes. -/
def sha2of32 : Sha2 32 :=
  { consts := (primes410.take 64).map (fun p => BitVec.ofNat 32 (rootFrac 3 32 p)), onA := [2, 13, 22], onE := [6, 11, 25],
    early := ([7, 18], 3), late := ([17, 19], 10) }

/-- SHA-384, 48 octets: it starts from the square roots of the ninth to sixteenth primes. -/
def sha384 (os : List Octet) : List Octet :=
  (sha2of64.digest (((primes410.drop 8).take 8).map (fun p => BitVec.ofNat 64 (rootFrac 2 64 p))) os).take 48
/-- SHA-256, 32 octets: it starts from the square roots of the first eight primes. -/
def sha256 (os : List Octet) : List Octet :=
  sha2of32.digest ((primes410.take 8).map (fun p => BitVec.ofNat 32 (rootFrac 2 32 p))) os

/-! ## HMAC-SHA-384 and the KDF in counter mode -/

/-- HMAC (FIPS 198-1) with the block of SHA-384, 128 octets; a longer key is hashed first. -/
def hmac384 (key os : List Octet) : List Octet :=
  let k := if 128 < key.length then sha384 key else key
  let k := k ++ List.replicate (128 - k.length) 0
  sha384 (k.map (fun o => o ^^^ 0x5C) ++ sha384 (k.map (fun o => o ^^^ 0x36) ++ os))

/-- The label "BYS-9236 DEVICE IDENTITY" (R438). -/
def kdfLabel : List Octet :=
  [0x42, 0x59, 0x53, 0x2D, 0x39, 0x32, 0x33, 0x36, 0x20, 0x44, 0x45, 0x56, 0x49, 0x43, 0x45, 0x20, 0x49, 0x44, 0x45, 0x4E, 0x54, 0x49, 0x54, 0x59]

/-- The 448 bits of R438, as 56 octets. -/
def kdf448 (secret devId : List Octet) : List Octet :=
  let it := fun i => hmac384 secret (beOctets 4 i ++ kdfLabel ++ [0] ++ devId ++ beOctets 4 448)
  (it 1 ++ it 2).take 56

/-! ## P-384 (SP 800-186) -/

def p384P : Nat := 2 ^ 384 - 2 ^ 128 - 2 ^ 96 + 2 ^ 32 - 1
/-- The order of the base point. -/
def p384N : Nat := 0xffffffffffffffffffffffffffffffffffffffffffffffffc7634d81f4372ddf581a0db248b0a77aecec196accc52973
def p384B : Nat := 0xb3312fa7e23ee7e4988e056be3f82d19181d9c6efe8141120314088f5013875ac656398d8a2ed19d2a85c8edd3ec2aef
/-- The base point. -/
def p384G : Nat × Nat :=
  (0xaa87ca22be8b05378eb1c71ef320ad746e1d3b628ba79b9859f741e082542a385502f25dbf55296c3a545e3872760ab7,
   0x3617de4a96262c6f5d9e98bf9292dc29f8f41dbd289a147ce9da3113b5f0b8c00a60b1ce1d7e819d7a431d7c90ea0e5f)

/-- a to the power e, e below 2^384, modulo m. -/
def powMod (m a e : Nat) : Nat :=
  (List.range 384).foldl (fun r i => let r := r * r % m; if (e >>> (383 - i)) % 2 = 1 then r * a % m else r) 1
/-- The inverse of a modulo the prime m. -/
def invMod (m a : Nat) : Nat := powMod m a (m - 2)
/-- a - b modulo m, both below m. -/
def subMod (m a b : Nat) : Nat := (a + m - b) % m

/-- The point (x, y) lies on y^2 = x^3 - 3 x + b. -/
def p384On (q : Nat × Nat) : Bool :=
  decide (q.1 < p384P ∧ q.2 < p384P) && decide (q.2 * q.2 % p384P = subMod p384P ((q.1 * q.1 * q.1 + p384B) % p384P) (3 * q.1 % p384P))

/-- The sum of two points of the curve; none is the identity. -/
def p384Add : Option (Nat × Nat) → Option (Nat × Nat) → Option (Nat × Nat)
  | none, b => b
  | a, none => a
  | some (x1, y1), some (x2, y2) =>
    if x1 = x2 ∧ (y1 + y2) % p384P = 0 then none
    else
      let l := if x1 = x2 then subMod p384P (3 * x1 * x1 % p384P) 3 * invMod p384P (2 * y1 % p384P) % p384P
        else subMod p384P y2 y1 * invMod p384P (subMod p384P x2 x1) % p384P
      let x3 := subMod p384P (l * l % p384P) ((x1 + x2) % p384P)
      some (x3, subMod p384P (l * subMod p384P x1 x3 % p384P) y1)

/-- k times a point, k below 2^384. -/
def p384Mul (k : Nat) (q : Nat × Nat) : Option (Nat × Nat) :=
  (List.range 384).foldl (fun r i => let r := p384Add r r; if (k >>> (383 - i)) % 2 = 1 then p384Add r (some q) else r) none

/-! ## ECDSA with P-384 (FIPS 186-5) -/

/-- A point or a pair of numbers of 48 octets each. -/
def pair48 (os : List Octet) : Nat × Nat := (beVal (os.take 48), beVal ((os.drop 48).take 48))

/-- A valid public key: a point of the curve other than the identity, which has no coordinates. -/
def ecdsaKeyOk (key : List Octet) : Bool := p384On (pair48 key)

/-- The signature (r, s) verifies over the hash value e under the public key. -/
def ecdsaVerify (key e sig : List Octet) : Bool :=
  let rs := pair48 sig
  let w := invMod p384N rs.2
  decide (1 ≤ rs.1 ∧ rs.1 < p384N ∧ 1 ≤ rs.2 ∧ rs.2 < p384N) &&
    (match p384Add (p384Mul (beVal e * w % p384N) p384G) (p384Mul (rs.1 * w % p384N) (pair48 key)) with
     | some (x, _) => x % p384N == rs.1
     | none => false)

/-- The signature of the hash value e under the private key d with the per-message secret number k. -/
def ecdsaSign (d k : Nat) (e : List Octet) : List Octet :=
  let r := (match p384Mul k p384G with | some (x, _) => x | none => 0) % p384N
  beOctets 48 r ++ beOctets 48 (invMod p384N k * ((beVal e + r * d) % p384N) % p384N)

/-! ## LMS with SHA-256 (RFC 8554) -/

/-- Digit i of w bits of an octet string. -/
def lmDigit (w : Nat) (os : List Octet) (i : Nat) : Nat :=
  ((os.getD (i * w / 8) 0).toNat >>> (8 - (w * (i % (8 / w)) + w))) % 2 ^ w

/-- The checksum of a digest's 256 / w digits, as two octets; for w 4 it is shifted left by 4. -/
def lmCksm (w : Nat) (os : List Octet) : List Octet :=
  let sum := (List.range (256 / w)).foldl (fun a i => a + (2 ^ w - 1 - lmDigit w os i)) 0
  beOctets 2 (if w = 4 then sum <<< 4 else sum)

/-- The number of digits of a digest with its checksum. -/
def lmDigits (w : Nat) : Nat := if w = 4 then 67 else 34

/-- Steps a to 2^w - 2 of a chain: n of them, from step j on. -/
def lmChain (pre : List Octet) : Nat → Nat → List Octet → List Octet
  | 0, _, t => t
  | n + 1, j, t => lmChain pre n (j + 1) (sha256 (pre ++ beOctets 1 j ++ t))

/-- The candidate LM-OTS key from a signature (C, then the digits' chains) of a message. -/
def lmOtsKey (w : Nat) (id : List Octet) (q : Nat) (c ys msg : List Octet) : List Octet :=
  let pre := id ++ beOctets 4 q
  let d := sha256 (pre ++ beOctets 2 0x8181 ++ c ++ msg)
  let dc := d ++ lmCksm w d
  sha256 (pre ++ beOctets 2 0x8080 ++ (List.range (lmDigits w)).flatMap (fun i =>
    let a := lmDigit w dc i
    lmChain (pre ++ beOctets 2 i) (2 ^ w - 1 - a) a ((ys.drop (32 * i)).take 32)))

/-- Up the tree from node number `node` with value t along the path. -/
def lmRoot (id : List Octet) : List (List Octet) → Nat → List Octet → List Octet
  | [], _, t => t
  | x :: path, node, t =>
    lmRoot id path (node / 2) (sha256 (id ++ beOctets 4 (node / 2) ++ beOctets 2 0x8383 ++ (if node % 2 = 1 then x ++ t else t ++ x)))

/-- The LMS signature of a message verifies under a public key (LMS type 7 or 8: height 15 or 20; LMOTS type 3 or 4: w 4 or 8). -/
def lmsVerify (key msg sig : List Octet) : Bool :=
  let h := if be32 key 0 = 7 then 15 else 20
  let w := if be32 key 4 = 3 then 4 else 8
  let id := (key.drop 8).take 16
  let q := be32 sig 0
  let n := 32 * lmDigits w
  let leaf := sha256 (id ++ beOctets 4 (2 ^ h + q) ++ beOctets 2 0x8282 ++ lmOtsKey w id q ((sig.drop 8).take 32) ((sig.drop 40).take n) msg)
  decide (q < 2 ^ h) && lmRoot id (pieces 32 ((sig.drop (44 + n)).take (32 * h))) (2 ^ h + q) leaf == (key.drop 24).take 32

end Sys2Proof.Machine
end

