-- ==== Sys2Proof/Machine/Health.lean ====
section
/-! DEFINITION. The health block (chapter 19): supply control (R472-R475), the clock frequency (R476-R478), thermal steps
(R479), the ageing re-plan (R481-R484), its event store (R485), the supervisor watchdog's count (R487). -/

namespace Sys2Proof.Machine

/-! ## Frequencies, MHz -/

/-- FMIN_SCHED (R60): the largest budget frequency among the sections that are not EMPTY. -/
def State.fminSched (s : State) : Nat :=
  (List.range 6).foldl (fun a k => if s.sectState k = 0 then a else max a (s.getF (.SEC_BUDGET k) F.SEC_BUDGET_MHZ)) 0

/-- The present CCLK frequency F, as BEAT_FMIN_SCHED reports it. -/
def State.cclk (s : State) : Nat := s.getF .BEAT_FMIN_SCHED F.BEAT_FMIN_SCHED_CCLK_MHZ

def floor50 (n : Nat) : Nat := n / 50 * 50
def ceil50 (n : Nat) : Nat := (n + 49) / 50 * 50

/-- The upper bound on F of R476 before the thermal steps. -/
def State.fTop (s : State) : Nat := min (s.getF .HLTH_CLK F.HLTH_CLK_NOM) (s.getF .HLTH_CLK F.HLTH_CLK_CEIL)
/-- The lower bounds of R476. -/
def State.fLow (s : State) : Nat := max s.fminSched 800

/-- F by R476, and whether no multiple of 50 MHz satisfies its bounds. -/
def State.fTarget (s : State) : Nat × Bool :=
  let f := floor50 (s.fTop - 50 * s.health.tsteps)
  if s.fLow ≤ f then (f, false) else (ceil50 s.fLow, true)

/-- A raise of F begins (R477): TARGET is 850 mV and the raise waits for the supply. AVS_FAIL forbids raises (R474). -/
def State.raiseBegin (s : State) : State :=
  if s.health.raise = 0 ∧ s.cclk < s.fTarget.1 ∧ !s.getB .HLTH_STS F.HLTH_STS_AVS_FAIL then
    { s.setF .HLTH_AVS F.HLTH_AVS_TARGET 850 with health := { s.health with raise := 1, raiseT := 0, raiseSent := false } }
  else s

/-- A pending ageing step takes effect at a boundary (R483): MWIN is open, or the guardband is spent. -/
def State.ageingStep (s : State) : State :=
  let spent := decide ((850 + s.getF .HLTH_AGE F.HLTH_AGE_GUARD : Int) < s.health.vreq)
  if s.getB .HLTH_STS F.HLTH_STS_PEND_DOWN && (s.getB .HLTH_CTL F.HLTH_CTL_MWIN || spent) then
    let ceil := s.getF .HLTH_CLK F.HLTH_CLK_CEIL - 50
    let s := (s.setF .HLTH_CLK F.HLTH_CLK_CEIL ceil).setB .HLTH_STS F.HLTH_STS_PEND_DOWN false
    { s with health := { s.health with negCnt := 0 } }.healthEvt 0x02 ceil
  else s

/-- F at a boundary (R476, R477, R60): it falls at once, and rises once the supply has settled; CRITICAL follows. -/
def State.clockBoundary (s : State) : State :=
  let s := s.ageingStep
  let (f, crit) := s.fTarget
  let up := s.health.raise == 2 && !s.getB .HLTH_STS F.HLTH_STS_AVS_FAIL
  let s :=
    if f ≤ s.cclk ∨ up then
      { s.setF .BEAT_FMIN_SCHED F.BEAT_FMIN_SCHED_CCLK_MHZ f with health := { s.health with raise := 0 } }
    else s.raiseBegin
  let was := s.getB .HLTH_STS F.HLTH_STS_CRITICAL
  let s := s.withAlert (fun st => st.setB .HLTH_STS F.HLTH_STS_CRITICAL crit)
  if crit && !was then s.healthEvt 0x03 s.cclk else s

/-- A write to HLTH_CLK.NOM (R478). -/
def State.nomWrite (s : State) (w : Word) : State :=
  let v := fld w 10 0
  if v % 50 = 0 ∧ 800 ≤ v ∧ v ≤ s.getF .HLTH_CLK F.HLTH_CLK_CEIL then s.setF .HLTH_CLK F.HLTH_CLK_NOM v else s

/-! ## The AVS update (R472-R474, R477) -/

/-- A Voltage transaction on rail 0 (R472); one that fails counts in ERR (R474). -/
def State.avsTransact (s : State) (write : Bool) (data : Nat) (ok : Bool) : State :=
  let s := { s with health := { s.health with bus := s.health.bus ++ [{ write := write, cmdType := 0, rail := 0, data := data }] } }
  if ok then s else s.incF .HLTH_AVS F.HLTH_AVS_ERR

/-- The read back of VDD_CORE. -/
def State.avsRead (s : State) (ok : Bool) (readback : Nat) : State :=
  let s := s.avsTransact false 0 ok
  if ok then s.setF .HLTH_AVS F.HLTH_AVS_READBACK readback else s

/-- An update that succeeds: the failures before it are no longer consecutive, and writes of the regulator go on (R474). -/
def State.avsGood (s : State) : State := { s with health := { s.health with fails := 0, stopped := false } }

/-- A failed update (R474): the third in a row stops the regulator writes; a raise that is open waits to begin again. -/
def State.avsFail (s : State) : State :=
  let n := s.health.fails + 1
  let s := { s with health := { s.health with fails := n } }
  if n = 3 then
    let s := { s with health := { s.health with stopped := true, raise := 0 } }
    (s.withAlert (fun st => st.setB .HLTH_STS F.HLTH_STS_AVS_FAIL true)).healthEvt 0x06 (s.getF .HLTH_AVS F.HLTH_AVS_ERR)
  else s

/-- TARGET for a required voltage (R473): between max(650, FLOOR) and 850 mV, and within 10 mV of the previous TARGET. -/
def State.avsTarget (s : State) (vreq : Nat) : Nat :=
  let lo := max 650 (s.getF .HLTH_MARGIN F.HLTH_MARGIN_FLOOR)
  let t := min 850 (max lo vreq)
  let prev := s.getF .HLTH_AVS F.HLTH_AVS_TARGET
  min (prev + 10) (max (prev - 10) t)

/-- VREQ is computed; the field shows it where it can, and a free value for one below 0. -/
def State.setVreq (s : State) (v : Int) : State :=
  let (f, s) := if 0 ≤ v then (v.toNat, s) else s.drawNat 11
  { s.setF .HLTH_MARGIN F.HLTH_MARGIN_VREQ f with health := { s.health with vreq := v } }

/-- Steps 2 to 4 of an update whose read back succeeded: VREQ = READBACK - MPATH + GUARD, and TARGET. -/
def State.avsNormal (s : State) (readback mpath worst : Nat) : State :=
  let v : Int := (readback + s.getF .HLTH_AGE F.HLTH_AGE_GUARD : Int) - mpath
  let t := s.avsTarget v.toNat
  let s := ((s.setVreq v).setF .HLTH_MARGIN F.HLTH_MARGIN_MPATH mpath).setF .HLTH_MARGIN F.HLTH_MARGIN_WORST worst
  let s := s.setF .HLTH_AVS F.HLTH_AVS_TARGET t
  let n := if (850 : Int) < v then s.health.negCnt + 1 else 0
  let s := { s with health := { s.health with negCnt := n } }
  if 100 ≤ n ∧ !s.getB .HLTH_STS F.HLTH_STS_THROTTLE ∧ !s.getB .HLTH_STS F.HLTH_STS_PEND_DOWN then
    (s.setB .HLTH_STS F.HLTH_STS_PEND_DOWN true).healthEvt 0x01 v.toNat
  else s

/-- An update while a raise waits (R477): 850 mV is written until the write is answered, and read back until it is within 2 mV. A failed
transaction makes a failed update, and so does every fifth update, 5 ms on, that has not settled. While writes are stopped, AVS_FAIL
having been cleared before an update succeeded, the raise waits, and an update is its read alone (R474). -/
def State.avsRaise (s : State) (rd wr : Bool) (readback : Nat) : State :=
  if s.health.stopped then
    let s := s.avsRead rd readback
    if rd then s.avsGood else s.avsFail
  else
  let sent := s.health.raiseSent || wr
  let s := if s.health.raiseSent then s else s.avsTransact true 850 wr
  let s := s.avsRead rd readback
  let t := s.health.raiseT + 1
  let h := { s.health with raiseSent := sent, raiseT := if 5 ≤ t then 0 else t }
  if sent && rd && decide (848 ≤ readback ∧ readback ≤ 852) then { s with health := { h with raise := 2, raiseT := 0 } }.avsGood
  else if !sent || !rd || decide (5 ≤ t) then { s with health := h }.avsFail
  else { s with health := h }

/-- One update: `rd` and `wr` say whether its read and its write succeed. None runs before the end of fuse load. While writes are stopped
an update is its read alone, and one that succeeds lets them go on. -/
def State.avsUpdate (s : State) (rd wr : Bool) (readback mpath worst : Nat) : State :=
  if s.devState = 0 ∨ (!s.getB .HLTH_CTL F.HLTH_CTL_AVS_EN ∧ s.health.raise ≠ 1) then s
  else
    let s := { s with health := { s.health with bus := [] } }
    if s.health.raise = 1 then s.avsRaise rd wr readback
    else
      let s := s.avsRead rd readback
      if !rd then s.avsFail
      else if s.health.raise = 2 then s.avsGood
      else
        let off := s.health.stopped
        let s := s.avsNormal readback mpath worst
        if off then s.avsGood
        else
          let s := s.avsTransact true (s.getF .HLTH_AVS F.HLTH_AVS_TARGET) wr
          if wr then s.avsGood else s.avsFail

/-! ## Temperature (R479) -/

def State.thermalSample (s : State) (tmax sensor : Nat) : State :=
  if s.devState = 0 then s
  else (s.setF .HLTH_THERM F.HLTH_THERM_TMAX tmax).setF .HLTH_THERM F.HLTH_THERM_SENSOR sensor

/-- TSTEPS takes a value; THROTTLE shows whether it is above 0. -/
def State.setTsteps (s : State) (n : Nat) : State :=
  let was := s.health.tsteps
  let s := { s.setB .HLTH_STS F.HLTH_STS_THROTTLE (decide (0 < n)) with health := { s.health with tsteps := n } }
  if was = 0 ∧ 0 < n then
    s.healthEvt 0x04 (s.getF .HLTH_THERM F.HLTH_THERM_SENSOR * 2 ^ 16 + s.getF .HLTH_THERM F.HLTH_THERM_TMAX)
  else if 0 < was ∧ n = 0 then s.healthEvt 0x05 s.cclk
  else s

/-- Every 10 ms while THR_EN is 1. TSTEPS never rises past the value at which F reaches its floor. -/
def State.thermalStep (s : State) : State :=
  let t := sext 9 (s.getF .HLTH_THERM F.HLTH_THERM_TMAX)
  let hot := decide (sext 9 (s.getF .HLTH_THERM F.HLTH_THERM_THR_HOT) ≤ t)
  let clr := decide (t ≤ sext 9 (s.getF .HLTH_THERM F.HLTH_THERM_THR_CLR))
  let n := s.health.tsteps
  if s.devState = 0 ∨ !s.getB .HLTH_CTL F.HLTH_CTL_THR_EN ∨ hot = clr then s
  else if hot then (if ceil50 s.fLow + 50 * n < floor50 s.fTop then s.setTsteps (n + 1) else s)
  else s.setTsteps (n - 1)

/-! ## Ageing (R481) -/

/-- GUARD = max(GB_MIN, ceil(SLOPE * HORIZON / 1,000)). A value that does not fit the field is a free value: the spec states
none. -/
def State.setGuard (s : State) (slope : Nat) : State :=
  let g := max (s.getF .HLTH_CTL F.HLTH_CTL_GB_MIN) ((slope * s.getF .HLTH_CTL F.HLTH_CTL_HORIZON + 999) / 1000)
  if g < 256 then s.setF .HLTH_AGE F.HLTH_AGE_GUARD g
  else let (v, s) := s.drawNat 8; s.setF .HLTH_AGE F.HLTH_AGE_GUARD v

/-- HLTH_LIFE from the latest VREQ and the new slope. -/
def State.lifeOf (s : State) (slope : Nat) : Word :=
  let v := s.health.vreq
  if 850 < v then 0 else if slope = 0 then 0xFFFFFFFFF else BitVec.ofNat 36 ((850 - v).toNat * 1000 / slope)

/-- The hourly re-plan with the largest ageing shift measured, mV. -/
def State.ageingReplan (s : State) (shift : Nat) : State :=
  if s.devState = 0 ∨ !s.getB .HLTH_CTL F.HLTH_CTL_AGE_EN then s
  else
    let s := s.setReg .HLTH_HOURS (s.reg .HLTH_HOURS + 1)
    let h := (s.reg .HLTH_HOURS).toNat
    let slope := if 100 ≤ h then shift * 1000 / h else 0
    let s := (s.setF .HLTH_AGE F.HLTH_AGE_SHIFT shift).setF .HLTH_AGE F.HLTH_AGE_SLOPE slope
    let s := s.setGuard slope
    s.setReg .HLTH_LIFE (s.lifeOf slope)

/-! ## The event store (R485) -/

/-- A read of HLTH_EVT: the oldest event leaves, and firmware logs it (source 0x006). -/
def State.hlthEvtPop (s : State) : Word × State :=
  match s.health.evts with
  | [] => (0, s)
  | w :: l =>
    let s := { s with health := { s.health with evts := l } }
    (setBit w 35 true, s.logEvt 6 (fld w 34 29 * 2 ^ 20 + fld w 19 0))

/-! ## The supervisor watchdog's count (R487) -/

/-- The count is loaded from TIMEOUT. -/
def State.swdtLoad (s : State) : State := s.setF .HLTH_SWDT F.HLTH_SWDT_COUNT (s.getF .HLTH_SWDT F.HLTH_SWDT_TIMEOUT)

/-- The watchdog holds during a halt of the SVE at full debug level with WDT_DBG_FREEZE (R470). -/
def State.swdtFrozen (s : State) : Bool :=
  (s.engine 192).halted && s.dbg.level == 2 && s.getB .DBG_CTL F.DBG_CTL_WDT_DBG_FREEZE

/-- COUNT while the watchdog counts: the milliseconds that have passed since it was last looked at are not modelled, so that how far it
has fallen is free; it has not reached 0, which is its bite. -/
def State.swdtCatch (s : State) : State :=
  let n := s.getF .HLTH_SWDT F.HLTH_SWDT_COUNT
  if s.getB .HLTH_SWDT F.HLTH_SWDT_EN && !s.swdtFrozen && n != 0 then
    let (v, s) := s.drawNat 16
    s.setF .HLTH_SWDT F.HLTH_SWDT_COUNT (v % n + 1)
  else s

/-- A write to HLTH_SWDT: KICK, and setting EN, load the count; clearing EN leaves it where it is. -/
def State.swdtWrite (s : State) (w : Word) : State :=
  let was := s.getB .HLTH_SWDT F.HLTH_SWDT_EN
  let s := s.swdtCatch
  let s := s.setReg .HLTH_SWDT (applyWrite (Reg.fields .HLTH_SWDT) false (s.reg .HLTH_SWDT) w)
  if bit w 34 || (bit w 35 && !was) then s.swdtLoad else s

def execAvsUpdate (readOk writeOk : Bool) (readback mpath : Fin 1024) (worst : Fin 24) (s : State) : Out :=
  .next (s.avsUpdate readOk writeOk readback mpath worst)
def execThermalSample (tmax : BitVec 9) (sensor : Fin 12) (s : State) : Out := .next (s.thermalSample tmax.toNat sensor)
def execThermalStep (s : State) : Out := .next s.thermalStep
def execAgeingReplan (shift : Fin 1024) (s : State) : Out := .next (s.ageingReplan shift)
def execHlthEvtRead (s : State) : Out := .next s.hlthEvtPop.2
def execSwdtKick (s : State) : Out := .next s.swdtLoad

end Sys2Proof.Machine
end

