-- ==== Sys2Proof/Machine/Flags.lean ====
section
/-! DEFINITION. Binary36 arithmetic and its exception flags (chapter 08, R223-R236): decoding, one rounding function for
every format, and the result and flags of each operation. Flags are numbered as FPSTS bits 4:0: IV 16, DZ 8, OF 4, UF 2,
NX 1 (R237). -/

namespace Sys2Proof.Machine

/-- A floating-point value: a NaN, an infinity, or (-1)^s * m * 2^e (R223). -/
inductive FpVal where
  | nan
  | inf (s : Bool)
  | fin (s : Bool) (m : Nat) (e : Int)
  deriving DecidableEq, Repr

/-- A format: precision in bits, least exponent of the unit in the last place, and the exponent field that means infinity. -/
structure FpFormat where
  prec : Nat
  qmin : Int
  emax : Nat
  deriving DecidableEq, Repr

def fmt36 : FpFormat := { prec := 27, qmin := -280, emax := 511 }
def fmt32 : FpFormat := { prec := 24, qmin := -149, emax := 255 }
def fmt16 : FpFormat := { prec := 11, qmin := -24, emax := 31 }

/-- What an operation delivers: the result, the flags it raises, and whether one of them is an operand exception (R238). -/
structure FpRes where
  res : Word
  flags : Nat
  opExc : Bool
  deriving DecidableEq, Repr

def fIV : Nat := 16
def fDZ : Nat := 8
def fOF : Nat := 4
def fUF : Nat := 2
def fNX : Nat := 1

/-- The value with sign s, exponent field e and trailing significand f in a format of precision p (R223, R236). -/
def fpDecode (fm : FpFormat) (s : Bool) (e f : Nat) : FpVal :=
  if e = 0 then .fin s f fm.qmin
  else if e < fm.emax then .fin s (2 ^ (fm.prec - 1) + f) (fm.qmin + (e : Int) - 1)
  else if f = 0 then .inf s else .nan

def fpSign (x : Word) : Bool := bit x 35
def fpVal (x : Word) : FpVal := fpDecode fmt36 (fpSign x) (fld x 34 26) (fld x 25 0)
def fpIsNan (x : Word) : Bool := fld x 34 26 == 511 && fld x 25 0 != 0
/-- A NaN is signalling when bit 25 is 0 (R224). -/
def fpIsSnan (x : Word) : Bool := fpIsNan x && !bit x 25
/-- The quiet form of a NaN (R230). -/
def fpQuiet (x : Word) : Word := setBit x 25 true
def fpDefaultNan : Word := 0x7FE000000#36

/-- The word with sign, exponent and trailing significand of a format whose fields are packed at the bottom. -/
def fpPack (fm : FpFormat) (s : Bool) (e f : Nat) : Nat :=
  (if s then (fm.emax + 1) * 2 ^ (fm.prec - 1) else 0) + e * 2 ^ (fm.prec - 1) + f

def fpInf (fm : FpFormat) (s : Bool) : Nat := fpPack fm s fm.emax 0
def fpMax (fm : FpFormat) (s : Bool) : Nat := fpPack fm s (fm.emax - 1) (2 ^ (fm.prec - 1) - 1)

def bitLen (m : Nat) : Nat := if m = 0 then 0 else Nat.log2 m + 1

/-- Whether the magnitude is rounded up, for the kept part n and the discarded part rem of 2^shift (R227: rounding modes
0 nearest-even, 1 toward zero, 2 toward +Inf, 3 toward -Inf). -/
def roundUp (rm : Nat) (s : Bool) (n rem shift : Nat) : Bool :=
  if rem = 0 then false
  else if rm = 0 then decide (2 * rem > 2 ^ shift) || (decide (2 * rem = 2 ^ shift) && n % 2 == 1)
  else if rm = 1 then false
  else if rm = 2 then !s
  else s

/-- m * 2^e to the multiples of 2^q: the multiple and whether it is inexact. -/
def roundAt (rm : Nat) (s : Bool) (m : Nat) (e q : Int) : Nat × Bool :=
  if q ≤ e then (m * 2 ^ (e - q).toNat, false)
  else
    let sh := (q - e).toNat
    let n := m / 2 ^ sh
    let rem := m % 2 ^ sh
    (if roundUp rm s n rem sh then n + 1 else n, rem != 0)

/-- Rounding a non-zero exact magnitude m * 2^e of sign s to a format (R227, R228): the packed result and OF, UF, NX.
Tininess is detected after rounding as if the exponent range were unbounded. -/
def fpRound (fm : FpFormat) (rm : Nat) (s : Bool) (m : Nat) (e : Int) : Nat × Nat :=
  let q0 : Int := (bitLen m : Int) + e - (fm.prec : Int)
  let q : Int := if q0 < fm.qmin then fm.qmin else q0
  let (n, inexact) := roundAt rm s m e q
  let (n, q) := if n = 2 ^ fm.prec then (n / 2, q + 1) else (n, q)
  let ef : Nat := if n < 2 ^ (fm.prec - 1) then 0 else (q - fm.qmin + 1).toNat
  if fm.emax ≤ ef then
    let up := if rm = 0 then true else if rm = 1 then false else if rm = 2 then !s else s
    (if up then fpInf fm s else fpMax fm s, fOF + fNX)
  else
    let (nu, _) := roundAt rm s m e q0
    let tiny := decide ((bitLen nu : Int) + q0 < fm.qmin + (fm.prec : Int))
    let fl := (if inexact then fNX else 0) + (if tiny && inexact then fUF else 0)
    (fpPack fm s ef (if ef = 0 then n else n - 2 ^ (fm.prec - 1)), fl)

/-- A rounded magnitude in binary36; a zero magnitude is a zero of the sign. -/
def fpOf (rm : Nat) (s : Bool) (m : Nat) (e : Int) : FpRes :=
  if m = 0 then { res := BitVec.ofNat 36 (fpPack fmt36 s 0 0), flags := 0, opExc := false }
  else let (v, fl) := fpRound fmt36 rm s m e; { res := BitVec.ofNat 36 v, flags := fl, opExc := false }

def fpExact (w : Word) : FpRes := { res := w, flags := 0, opExc := false }
def fpInvalid : FpRes := { res := fpDefaultNan, flags := fIV, opExc := true }

/-- The result when an operand is a NaN (R230): the first NaN in order, quiet; IV when any operand is signalling. -/
def fpNan (xs : List Word) : FpRes :=
  let iv := xs.any fpIsSnan
  match xs.find? fpIsNan with
  | some x => { res := fpQuiet x, flags := if iv then fIV else 0, opExc := iv }
  | none => fpInvalid

/-- A signed zero of an exact zero sum of operands of opposite sign: -0 toward -Inf, +0 otherwise (R229). -/
def fpZeroSum (rm : Nat) : FpRes := fpExact (if rm = 3 then 0x800000000#36 else 0)

/-- (-1)^s m 2^e as an integer multiple of 2^q, for q ≤ e. -/
def scaled (s : Bool) (m : Nat) (e q : Int) : Int :=
  let v : Int := ((m * 2 ^ (e - q).toNat : Nat) : Int)
  if s then -v else v

/-- The sum of two finite values, rounded once (R225, R229). -/
def fpAddFin (rm : Nat) (s1 : Bool) (m1 : Nat) (e1 : Int) (s2 : Bool) (m2 : Nat) (e2 : Int) : FpRes :=
  let q := if e1 < e2 then e1 else e2
  let t := scaled s1 m1 e1 q + scaled s2 m2 e2 q
  if t = 0 then
    (if m1 = 0 ∧ m2 = 0 ∧ s1 = s2 then fpExact (if s1 then 0x800000000#36 else 0) else fpZeroSum rm)
  else fpOf rm (decide (t < 0)) t.natAbs q

/-- The sum of two values that are no NaNs. -/
def fpAddVal (rm : Nat) : FpVal → FpVal → FpRes
  | .inf s, .inf t => if s = t then fpExact (BitVec.ofNat 36 (fpInf fmt36 s)) else fpInvalid
  | .inf s, _ => fpExact (BitVec.ofNat 36 (fpInf fmt36 s))
  | _, .inf t => fpExact (BitVec.ofNat 36 (fpInf fmt36 t))
  | .fin s m e, .fin t n f => fpAddFin rm s m e t n f
  | _, _ => fpInvalid

def fpNegVal : FpVal → FpVal
  | .nan => .nan
  | .inf s => .inf (!s)
  | .fin s m e => .fin (!s) m e

/-- fadd: a + b. -/
def fpAdd (rm : Nat) (a b : Word) : FpRes :=
  if fpIsNan a || fpIsNan b then fpNan [a, b] else fpAddVal rm (fpVal a) (fpVal b)

/-- fsub: a - b. -/
def fpSub (rm : Nat) (a b : Word) : FpRes :=
  if fpIsNan a || fpIsNan b then fpNan [a, b] else fpAddVal rm (fpVal a) (fpNegVal (fpVal b))

/-- fmul: a * b. -/
def fpMul (rm : Nat) (a b : Word) : FpRes :=
  if fpIsNan a || fpIsNan b then fpNan [a, b] else
  match fpVal a, fpVal b with
  | .inf s, .inf t => fpExact (BitVec.ofNat 36 (fpInf fmt36 (xor s t)))
  | .inf s, .fin t m _ => if m = 0 then fpInvalid else fpExact (BitVec.ofNat 36 (fpInf fmt36 (xor s t)))
  | .fin s m _, .inf t => if m = 0 then fpInvalid else fpExact (BitVec.ofNat 36 (fpInf fmt36 (xor s t)))
  | .fin s m e, .fin t n f => fpOf rm (xor s t) (m * n) (e + f)
  | _, _ => fpInvalid

/-- Whether a * b is the invalid 0 * Inf. -/
def fpMulInvalid (a b : Word) : Bool :=
  match fpVal a, fpVal b with
  | .inf _, .fin _ m _ => m == 0
  | .fin _ m _, .inf _ => m == 0
  | _, _ => false

/-- fma: a * b + c, rounded once. 0 * Inf raises IV whatever c is; a quiet NaN c is then returned (R228, R230). -/
def fpFma (rm : Nat) (a b c : Word) : FpRes :=
  if fpMulInvalid a b then
    (if fpIsNan c then { res := fpQuiet c, flags := fIV, opExc := true } else fpInvalid)
  else if fpIsNan a || fpIsNan b || fpIsNan c then fpNan [a, b, c]
  else
    match fpVal a, fpVal b with
    | .fin s m e, .fin t n f => fpAddVal rm (.fin (xor s t) (m * n) (e + f)) (fpVal c)
    | _, _ => fpAddVal rm (.inf (xor (fpSign a) (fpSign b))) (fpVal c)

/-- fdiv: a / b. DZ for a finite non-zero a by zero; 0/0 and Inf/Inf are invalid (R228). -/
def fpDiv (rm : Nat) (a b : Word) : FpRes :=
  if fpIsNan a || fpIsNan b then fpNan [a, b] else
  match fpVal a, fpVal b with
  | .inf _, .inf _ => fpInvalid
  | .inf s, .fin t _ _ => fpExact (BitVec.ofNat 36 (fpInf fmt36 (xor s t)))
  | .fin s _ _, .inf t => fpExact (BitVec.ofNat 36 (fpPack fmt36 (xor s t) 0 0))
  | .fin s m e, .fin t n f =>
    if n = 0 then
      (if m = 0 then fpInvalid
       else { res := BitVec.ofNat 36 (fpInf fmt36 (xor s t)), flags := fDZ, opExc := true })
    else
      let v := m * 2 ^ 60
      let qt := v / n
      fpOf rm (xor s t) (2 * qt + (if v % n = 0 then 0 else 1)) (e - f - 61)
  | _, _ => fpInvalid

/-- floor of the square root, bit by bit: `n` bits remain to be tried below the partial root r. -/
def isqrt (v : Nat) : Nat → Nat → Nat
  | 0, r => r
  | n + 1, r => let r' := r + 2 ^ n; isqrt v n (if r' * r' ≤ v then r' else r)

/-- fsqrt: the square root of b; a value below zero is invalid, -0 gives -0 (R228, R229). -/
def fpSqrt (rm : Nat) (b : Word) : FpRes :=
  if fpIsNan b then fpNan [b] else
  match fpVal b with
  | .inf s => if s then fpInvalid else fpExact b
  | .fin s m e =>
    if m = 0 then fpExact b
    else if s then fpInvalid
    else
      let (m', e') := if e % 2 = 0 then (m, e) else (2 * m, e - 1)
      let v := m' * 2 ^ 60
      let r := isqrt v 48 0
      fpOf rm false (2 * r + (if r * r = v then 0 else 1)) (e' / 2 - 31)
  | .nan => fpInvalid

/-- fabs and fneg change only bit 35 and raise no flag (R231). -/
def fpAbs (b : Word) : FpRes := fpExact (setBit b 35 false)
def fpNeg (b : Word) : FpRes := fpExact (setBit b 35 (!fpSign b))

/-- An order key of a value that is no NaN; both zeros have key 0. -/
def fpKey (x : Word) : Int := let m : Int := (fld x 34 0 : Int); if fpSign x then -m else m

/-- a below b with -0 taken as less than +0 (R232). -/
def fpLess (a b : Word) : Bool :=
  decide (fpKey a < fpKey b) || (decide (fpKey a = fpKey b) && fpSign a && !fpSign b)

/-- fmin and fmax (R232): one NaN gives the other operand, two NaNs follow R230; a signalling NaN raises IV. -/
def fpMinMax (mx : Bool) (a b : Word) : FpRes :=
  let iv := fpIsSnan a || fpIsSnan b
  if fpIsNan a && fpIsNan b then fpNan [a, b]
  else
    let r := if fpIsNan a then b else if fpIsNan b then a
      else if mx then (if fpLess a b then b else a) else (if fpLess b a then b else a)
    { res := r, flags := if iv then fIV else 0, opExc := iv }

/-- fcmp (R233, Table 8.5). -/
def fpCmp (a b : Word) : FpRes :=
  let iv := fpIsSnan a || fpIsSnan b
  let r : Nat := if fpIsNan a || fpIsNan b then 8
    else if fpKey a > fpKey b then 4 else if fpKey a = fpKey b then 2 else 1
  { res := BitVec.ofNat 36 r, flags := if iv then fIV else 0, opExc := iv }

/-- i2f and u2f: an integer rounded to binary36 (R235). -/
def fpOfInt (rm : Nat) (i : Int) : FpRes := fpOf rm (decide (i < 0)) i.natAbs 0
def fpI2f (rm : Nat) (b : Word) : FpRes := fpOfInt rm b.toInt
def fpU2f (rm : Nat) (b : Word) : FpRes := fpOfInt rm (b.toNat : Int)

/-- f2i and f2u: rounded to an integer of the range lo..hi; below or above it, or for a NaN, IV with the limit (R234). -/
def fpToInt (rm : Nat) (lo hi : Int) (b : Word) : FpRes :=
  match fpVal b with
  | .nan => { res := wordOfInt hi, flags := fIV, opExc := true }
  | .inf s => { res := wordOfInt (if s then lo else hi), flags := fIV, opExc := false }
  | .fin s m e =>
    let (n, inexact) := roundAt rm s m e 0
    let v : Int := if s then -(n : Int) else (n : Int)
    if v < lo then { res := wordOfInt lo, flags := fIV, opExc := false }
    else if hi < v then { res := wordOfInt hi, flags := fIV, opExc := false }
    else { res := wordOfInt v, flags := if inexact then fNX else 0, opExc := false }
def fpF2i (rm : Nat) (b : Word) : FpRes := fpToInt rm (-(2 ^ 35 : Int)) (2 ^ 35 - 1) b
def fpF2u (rm : Nat) (b : Word) : FpRes := fpToInt rm 0 (2 ^ 36 - 1) b

/-- Widening from an interchange format with `sig` trailing bits: exact for numbers; a NaN keeps its sign and its trailing
significand aligned at the top, is made quiet, and raises IV when signalling (R236). -/
def fpWiden (fm : FpFormat) (sig : Nat) (s : Bool) (e f : Nat) : FpRes :=
  match fpDecode fm s e f with
  | .nan =>
    let iv := f < 2 ^ (sig - 1)
    { res := fpQuiet (BitVec.ofNat 36 (fpPack fmt36 s 511 (f * 2 ^ (26 - sig)))), flags := if iv then fIV else 0, opExc := iv }
  | .inf s => fpExact (BitVec.ofNat 36 (fpInf fmt36 s))
  | .fin s m e => fpOf 0 s m e
def fpW2f (b : Word) : FpRes := fpWiden fmt32 23 (bit b 31) (fld b 30 23) (fld b 22 0)
def fpH2f (b : Word) : FpRes := fpWiden fmt16 10 (bit b 15) (fld b 14 10) (fld b 9 0)

/-- Narrowing to an interchange format with `sig` trailing bits, rounding once (R236). -/
def fpNarrow (fm : FpFormat) (sig rm : Nat) (b : Word) : FpRes :=
  let s := fpSign b
  match fpVal b with
  | .nan =>
    let f := fld b 25 0 / 2 ^ (26 - sig)
    let fq := if f < 2 ^ (sig - 1) then f + 2 ^ (sig - 1) else f
    let iv := fpIsSnan b
    { res := BitVec.ofNat 36 (fpPack fm s fm.emax fq), flags := if iv then fIV else 0, opExc := iv }
  | .inf s => fpExact (BitVec.ofNat 36 (fpInf fm s))
  | .fin s m e =>
    if m = 0 then fpExact (BitVec.ofNat 36 (fpPack fm s 0 0))
    else let (v, fl) := fpRound fm rm s m e; { res := BitVec.ofNat 36 v, flags := fl, opExc := false }
def fpF2w (rm : Nat) (b : Word) : FpRes := fpNarrow fmt32 23 rm b
def fpF2h (rm : Nat) (b : Word) : FpRes := fpNarrow fmt16 10 rm b

end Sys2Proof.Machine
end

