-- ==== Sys2Proof/Machine/MulDiv.lean ====
section
/-! DEFINITION. The commands of mul, div and mac (R199-R205). -/

namespace Sys2Proof.Machine

/-! ## mul (R199, Table 7.4) -/

def mulOp (f : Word → Word → Word) (lat : Nat) (s : State) (e : Nat) (t : Word) : OpOut :=
  .one s lat 0x0A4 (f ((s.engine e).port 0x0A0) t)

def mulRow (f : Word → Word → Word) (lat : Nat) (e : EngId) (t : Word) (s : State) : Out :=
  .next (s.opRow e uMul (mulOp f lat s e t))

def execMul (e : EngId) (t : Word) (s : State) : Out := mulRow mulMul 3 e t s
def execMulh (e : EngId) (t : Word) (s : State) : Out := mulRow mulMulh 3 e t s
def execMulhu (e : EngId) (t : Word) (s : State) : Out := mulRow mulMulhu 3 e t s
def execMul12 (e : EngId) (t : Word) (s : State) : Out := mulRow mulMul12 1 e t s
def execMul24 (e : EngId) (t : Word) (s : State) : Out := mulRow mulMul24 2 e t s

/-! ## div (R200-R202): a long operation; k is 0 div, 1 divu, 2 rem, 3 remu -/

def divFn (k : Nat) : Word → Word → Word :=
  match k with | 0 => divDiv | 1 => divDivu | 2 => divRem | _ => divRemu

/-- A div operation in progress, from its captured operands: its trigger was moved in cycle c and arrives in cycle a, so that it
completes in cycle a + 19. -/
def Engine.startDiv (x : Engine) (k : Nat) (o t : Word) (pc : Word) (c a : Nat) : Engine :=
  { x with divOp := some { res := divFn k o t, flags := 0, enabled := 0, pc := pc, trig := c, due := a + 19 } }

/-- A trigger that finds a division which ends in the cycle of its arrival, or before, is accepted without waiting. -/
def Engine.divBusy (x : Engine) : Bool := match x.divOp with | some l => decide (x.cyc + 1 < l.due) | none => false

/-- The division in progress ends in the cycle in which the present trigger arrives: its result is in flight until then. -/
def Engine.divRelease (x : Engine) : Engine :=
  match x.divOp with
  | some l =>
    let f : Flight := { unit := uDiv, due := x.cyc + 1, trig := l.trig, writes := [(0x0C4, l.res)], flags := 0, enabled := 0, pc := l.pc }
    { x with divOp := none, flights := insertFlight f x.flights }
  | none => x

def divTrig (k : Nat) (s : State) (e : Nat) (t : Word) : OpOut :=
  let x := s.engine e
  let o := x.port 0x0C0
  if t = 0 then .trap (.code 0x05 0)
  else if k = 0 ∧ divOverflows o t ∧ bit (x.csrW e 0) 0 then .trap (.code 0x06 0)
  else if x.divBusy then .held { socket := 0x0D0 + k, a := o, t := t, ctl := x.csrW e 0x050, pc := x.pc, branch := x.branch }
  else .plain (s.setEngine e (x.divRelease.startDiv k o t x.pc x.cyc (x.cyc + 1))) 19

def execDiv (e : EngId) (t : Word) (s : State) : Out := .next (s.opRow e uDiv (divTrig 0 s e t))
def execDivu (e : EngId) (t : Word) (s : State) : Out := .next (s.opRow e uDiv (divTrig 1 s e t))
def execRem (e : EngId) (t : Word) (s : State) : Out := .next (s.opRow e uDiv (divTrig 2 s e t))
def execRemu (e : EngId) (t : Word) (s : State) : Out := .next (s.opRow e uDiv (divTrig 3 s e t))

/-- The div operation completes in cycle c: div.y takes its result. A held trigger arrives then, with its captured operands (R144); the
operation that has completed did so after that trigger was moved (R143). -/
def Engine.divDone (x : Engine) (l : LongOp) (c : Nat) : Engine :=
  let x := { (x.setResult 0x0C4 l.res).setDone uDiv c with divOp := none }
  let (h, rest) := takeHeld 0x0D0 0x0D3 x.held
  match h with
  | some h => { (x.setDone uDiv (c + 1)).startDiv (h.socket - 0x0D0) h.a h.t h.pc c c with held := rest }
  | none => x

/-- DIV_COMPLETE: in a stall only when it is awaited, and not while the engine is halted (R150, R452). -/
def execDivComplete (e : EngId) (s : State) : Out :=
  match (s.engine e).divOp with
  | some l =>
    if s.unitRuns e (fun x => x.awaitsLong 0x0D0 0x0D3) then .next (s.modEngine e (fun x => x.divDone l x.cyc)) else .next s
  | none => .next s

/-! ## mac (R203-R205): the accumulator changes in trigger order -/

def macAccOp (f : BitVec 80 → Word → Word → BitVec 80) (k : Nat) (s : State) (e : Nat) (t : Word) : OpOut :=
  let x := s.engine e
  .plain (s.setEngine e (x.setAcc k (f (x.accOf k) (x.port 0x100) t))) 3

def macMulF (_ : BitVec 80) (o t : Word) : BitVec 80 := macProd o t
def macMacF (a : BitVec 80) (o t : Word) : BitVec 80 := a + macProd o t
def macMsubF (a : BitVec 80) (o t : Word) : BitVec 80 := a - macProd o t
def macClrF (_ : BitVec 80) (_ _ : Word) : BitVec 80 := 0

/-- rd: RND = 3 is ILLEGAL_SOCKET (R205). -/
def macRdOp (k : Nat) (s : State) (e : Nat) (t : Word) : OpOut :=
  if fld t 7 6 = 3 then .trap (.code 0x01 0) else .one s 3 0x104 (macRead ((s.engine e).accOf k) t)
/-- get and put: part 3 is ILLEGAL_SOCKET (R204). -/
def macGetOp (k : Nat) (s : State) (e : Nat) (t : Word) : OpOut :=
  if fld t 1 0 = 3 then .trap (.code 0x01 0) else .one s 3 0x104 (macPart ((s.engine e).accOf k) (fld t 1 0))
def macPutOp (k : Nat) (s : State) (e : Nat) (t : Word) : OpOut :=
  if fld t 1 0 = 3 then .trap (.code 0x01 0)
  else
    let x := s.engine e
    .plain (s.setEngine e (x.setAcc k (macSetPart (x.accOf k) (fld t 1 0) (x.port 0x100)))) 3

/-- The mac operation with trigger socket 0x110 + i: kind i / 4 on accumulator i mod 4 (Table 6.5). -/
def macAt (i : Nat) (s : State) (e : Nat) (t : Word) : OpOut :=
  match i / 4 with
  | 0 => macAccOp macMulF (i % 4) s e t
  | 1 => macAccOp macMacF (i % 4) s e t
  | 2 => macAccOp macMsubF (i % 4) s e t
  | 3 => macAccOp macClrF (i % 4) s e t
  | 4 => macRdOp (i % 4) s e t
  | 5 => macGetOp (i % 4) s e t
  | _ => macPutOp (i % 4) s e t

def execMacMul (e : EngId) (k : Fin 4) (t : Word) (s : State) : Out := .next (s.opRow e uMac (macAccOp macMulF k s e t))
def execMacMac (e : EngId) (k : Fin 4) (t : Word) (s : State) : Out := .next (s.opRow e uMac (macAccOp macMacF k s e t))
def execMacMsub (e : EngId) (k : Fin 4) (t : Word) (s : State) : Out := .next (s.opRow e uMac (macAccOp macMsubF k s e t))
def execMacClr (e : EngId) (k : Fin 4) (t : Word) (s : State) : Out := .next (s.opRow e uMac (macAccOp macClrF k s e t))
def execMacRd (e : EngId) (k : Fin 4) (t : Word) (s : State) : Out := .next (s.opRow e uMac (macRdOp k s e t))
def execMacGet (e : EngId) (k : Fin 4) (t : Word) (s : State) : Out := .next (s.opRow e uMac (macGetOp k s e t))
def execMacPut (e : EngId) (k : Fin 4) (t : Word) (s : State) : Out := .next (s.opRow e uMac (macPutOp k s e t))

end Sys2Proof.Machine
end

