-- ==== Sys2Proof/Machine/Fpu.lean ====
section
/-! DEFINITION. The commands of the fpu (R225-R241). a is fpu.o, b is fpu.o2 for fma and the trigger value otherwise, c is
the trigger value of fma. -/

namespace Sys2Proof.Machine

/-- A short operation of the given latency: `f` takes the rounding mode, fpu.o, fpu.o2 and the trigger value. An enabled
operand exception is a precise FP fault (R238). -/
def fpuOp (f : Nat → Word → Word → Word → FpRes) (lat : Nat) (s : State) (e : Nat) (t : Word) : OpOut :=
  let x := s.engine e
  let ctl := x.csrW e 0x050
  let r := f (fld ctl 1 0) (x.port 0x140) (x.port 0x141) t
  if r.opExc && (r.flags &&& trapEnables ctl &&& (fIV + fDZ) != 0) then .trap (.fp false r.flags)
  else .ok { st := s, lat := lat, writes := [(0x144, r.res)], flags := r.flags, enabled := trapEnables ctl }

def fpF1 (f : Word → FpRes) : Nat → Word → Word → Word → FpRes := fun _ _ _ t => f t
def fpR1 (f : Nat → Word → FpRes) : Nat → Word → Word → Word → FpRes := fun rm _ _ t => f rm t
def fpR2 (f : Nat → Word → Word → FpRes) : Nat → Word → Word → Word → FpRes := fun rm a _ t => f rm a t
def fpF2 (f : Word → Word → FpRes) : Nat → Word → Word → Word → FpRes := fun _ a _ t => f a t

/-- Function and latency in the order of the sockets 0x150-0x158 and 0x160-0x167 (Tables 6.5 and 8.3). -/
def fpuFns : List ((Nat → Word → Word → Word → FpRes) × Nat) :=
  [(fpF1 fpAbs, 1), (fpF1 fpNeg, 1), (fpF2 (fpMinMax false), 2), (fpF2 (fpMinMax true), 2), (fpF2 fpCmp, 2), (fpR2 fpAdd, 4),
   (fpR2 fpSub, 4), (fpR2 fpMul, 4), (fpFma, 5)]
def fpuConv : List ((Nat → Word → Word → Word → FpRes) × Nat) :=
  [(fpR1 fpI2f, 3), (fpR1 fpU2f, 3), (fpR1 fpF2i, 3), (fpR1 fpF2u, 3), (fpF1 fpW2f, 3), (fpR1 fpF2w, 3), (fpF1 fpH2f, 3),
   (fpR1 fpF2h, 3)]

def fpuRow (f : Nat → Word → Word → Word → FpRes) (lat : Nat) (e : EngId) (t : Word) (s : State) : Out :=
  .next (s.opRow e uFpu (fpuOp f lat s e t))

def execFabs (e : EngId) (t : Word) (s : State) : Out := fpuRow (fpF1 fpAbs) 1 e t s
def execFneg (e : EngId) (t : Word) (s : State) : Out := fpuRow (fpF1 fpNeg) 1 e t s
def execFmin (e : EngId) (t : Word) (s : State) : Out := fpuRow (fpF2 (fpMinMax false)) 2 e t s
def execFmax (e : EngId) (t : Word) (s : State) : Out := fpuRow (fpF2 (fpMinMax true)) 2 e t s
def execFcmp (e : EngId) (t : Word) (s : State) : Out := fpuRow (fpF2 fpCmp) 2 e t s
def execFadd (e : EngId) (t : Word) (s : State) : Out := fpuRow (fpR2 fpAdd) 4 e t s
def execFsub (e : EngId) (t : Word) (s : State) : Out := fpuRow (fpR2 fpSub) 4 e t s
def execFmul (e : EngId) (t : Word) (s : State) : Out := fpuRow (fpR2 fpMul) 4 e t s
def execFma (e : EngId) (t : Word) (s : State) : Out := fpuRow fpFma 5 e t s
def execI2f (e : EngId) (t : Word) (s : State) : Out := fpuRow (fpR1 fpI2f) 3 e t s
def execU2f (e : EngId) (t : Word) (s : State) : Out := fpuRow (fpR1 fpU2f) 3 e t s
def execF2i (e : EngId) (t : Word) (s : State) : Out := fpuRow (fpR1 fpF2i) 3 e t s
def execF2u (e : EngId) (t : Word) (s : State) : Out := fpuRow (fpR1 fpF2u) 3 e t s
def execW2f (e : EngId) (t : Word) (s : State) : Out := fpuRow (fpF1 fpW2f) 3 e t s
def execF2w (e : EngId) (t : Word) (s : State) : Out := fpuRow (fpR1 fpF2w) 3 e t s
def execH2f (e : EngId) (t : Word) (s : State) : Out := fpuRow (fpF1 fpH2f) 3 e t s
def execF2h (e : EngId) (t : Word) (s : State) : Out := fpuRow (fpR1 fpF2h) 3 e t s

/-! ## The iterative path: fdiv and fsqrt (R225, R240) -/

/-- The result of fdiv (socket 0x159) or fsqrt (0x15A) of captured operands. -/
def fplRes (k rm : Nat) (a t : Word) : FpRes := if k = 0x159 then fpDiv rm a t else fpSqrt rm t

/-- Table 8.3: the latency of fdiv (socket 0x159) and fsqrt (0x15A). -/
def fplLat (k : Nat) : Nat := if k = 0x159 then 14 else 16

/-- An operation of the iterative path starts: its trigger was moved in cycle c and arrives in cycle a. -/
def Engine.startFpl (x : Engine) (k : Nat) (r : FpRes) (ctl pc : Word) (c a : Nat) : Engine :=
  { x with fplOp := some { res := r.res, flags := r.flags, enabled := trapEnables ctl, pc := pc, trig := c, due := a + fplLat k } }

/-- The path is busy when a trigger moved now arrives. -/
def Engine.fplBusy (x : Engine) : Bool := match x.fplOp with | some l => decide (x.cyc + 1 < l.due) | none => false

/-- The operation in progress will raise an enabled flag: its completion makes a fault pending (R240). -/
def Engine.fplRaises (x : Engine) : Bool := match x.fplOp with | some l => l.flags &&& l.enabled != 0 | none => false

/-- The operation in progress, which raises no enabled flag, ends in the cycle in which the present trigger arrives. -/
def Engine.fplRelease (x : Engine) : Engine :=
  match x.fplOp with
  | some l =>
    let f : Flight := { unit := uFpl, due := x.cyc + 1, trig := l.trig, writes := [(0x145, l.res)], flags := l.flags, enabled := 0, pc := l.pc }
    { x with fplOp := none, flights := insertFlight f x.flights }
  | none => x

/-- The trigger of fdiv or fsqrt: an enabled operand exception first (R238, R256), then a pending long fault (R240), then
the wait for the path (R144). An operation in progress that will make a fault pending delivers it at this trigger, so the
trigger waits for it whatever it was to deliver. -/
def fplTrig (k : Nat) (s : State) (e : Nat) (t : Word) : OpOut :=
  let x := s.engine e
  let ctl := x.csrW e 0x050
  let r := fplRes k (fld ctl 1 0) (x.port 0x140) t
  if r.opExc && (r.flags &&& trapEnables ctl &&& (fIV + fDZ) != 0) then .trap (.fp true r.flags)
  else if x.fpLong.isSome then .trap .fpLong
  else if x.fplBusy || x.fplRaises then .held { socket := k, a := x.port 0x140, t := t, ctl := ctl, pc := x.pc, branch := x.branch }
  else .plain (s.setEngine e (x.fplRelease.startFpl k r ctl x.pc x.cyc (x.cyc + 1))) (fplLat k)

def execFdiv (e : EngId) (t : Word) (s : State) : Out := .next (s.opRow e uFpl (fplTrig 0x159 s e t))
def execFsqrt (e : EngId) (t : Word) (s : State) : Out := .next (s.opRow e uFpl (fplTrig 0x15A s e t))

/-- fdiv or fsqrt completes in cycle c into fpu.yl; an enabled flag sets LPEND (R240). -/
def Engine.fplDone (x : Engine) (e : Nat) (l : LongOp) (c : Nat) : Engine :=
  let x := { ((x.setResult 0x145 l.res).setDone uFpl c).orFlags e l.flags with fplOp := none }
  if l.flags &&& l.enabled = 0 then x
  else { x.setCsrW e 0x051 (setBit (x.csrW e 0x051) 17 true) with fpLong := some (l.pc, l.flags) }

/-- The iterative path is free in cycle c: a held trigger arrives then, with its captured operands (R144). One that finds a long fault
pending stays, for it delivers that fault and does not start (R240). -/
def Engine.fplHeld (x : Engine) (c : Nat) : Engine :=
  match takeHeld 0x159 0x15A x.held with
  | (some h, rest) =>
    if x.fpLong.isSome || x.fplOp.isSome then x
    else { (x.setDone uFpl (c + 1)).startFpl h.socket (fplRes h.socket (fld h.ctl 1 0) h.a h.t) h.ctl h.pc c c with held := rest }
  | (none, _) => x

/-- A held trigger of fdiv or fsqrt delivers the pending long fault at its own bundle (R240). -/
def State.fplDeliver (s : State) (e : Nat) : Option State :=
  let x := s.engine e
  match takeHeld 0x159 0x15A x.held with
  | (some h, rest) => if x.fplOp.isSome then none else (s.setEngine e (x.unhold h rest)).fpLongFault e h.pc
  | (none, _) => none

/-- The iterative path is free: a held trigger starts, or delivers a pending long fault. -/
def State.fplNext (s : State) (e : Nat) : State :=
  (s.fplDeliver e).getD (s.modEngine e (fun x => x.fplHeld x.cyc))

/-- FP_LONG_COMPLETE: in a stall only when it is awaited, and not while the engine is halted (R150, R452). -/
def execFpLongComplete (e : EngId) (s : State) : Out :=
  match (s.engine e).fplOp with
  | some l =>
    if s.unitRuns e (fun x => x.awaitsLong 0x159 0x15A) then .next ((s.modEngine e (fun x => x.fplDone e l x.cyc)).fplNext e)
    else .next s
  | none => .next s

/-- The boundary lets a pending short fault be taken (R239): R208 does not hold it, and no fence is awaited. In performance mode a fault
that falls due while a fence is awaited is taken at the boundary after the fence, before the bundle that then would issue: the spec
does not say so, and it is the model's choice (notes/assumptions/50.md). -/
def Engine.shortNow (x : Engine) : Bool := x.fpShort.isSome && x.branch.isNone && x.fence.isNone

/-- The pending short fault is taken at a boundary (R239); the boundaries that R208 holds defer it. -/
def State.fpShortFault (s : State) (e : Nat) : State :=
  let x := s.engine e
  match x.fpShort, x.branch with
  | some (pc, fl), none =>
    (s.setEngine e { x with fpShort := none }).fpFault e false fl pc x.pc x.efWait
  | _, _ => s

end Sys2Proof.Machine
end

