-- ==== Sys2Proof/Machine/Csr.lean ====
section
/-! DEFINITION. CSRs (R211, R245, Table 9.1): pending interrupts (Table 9.6), reading and writing a CSR by software, and the
commands csrr and csrw. -/

namespace Sys2Proof.Machine

/-! ## Interrupt sources (Table 9.6) -/

/-- A check unit reports something (R391). -/
def State.ckuIrq (s : State) (u : Nat) : Bool :=
  s.getB (.CKU_CTL u) F.CKU_CTL_IE && (s.getB (.CKU_STS u) F.CKU_STS_MIS || s.getB (.CKU_STS u) F.CKU_STS_FMT ||
    s.getF (.CKU_STS u) F.CKU_STS_ERR != 0)

/-- The CHECK interrupt of engine e: a unit that names it; device units (48, 49) name the SVE (R391). -/
def State.checkPending (s : State) (e : Nat) : Bool :=
  if e < 192 then s.ckuIrq (cluOf e) && s.getF (.CKU_CTL (cluOf e)) F.CKU_CTL_NOTIFY == e % 4
  else s.ckuIrq 48 || s.ckuIrq 49 || (List.range 48).any (fun u => s.ckuIrq u && s.getF (.CKU_CTL u) F.CKU_CTL_NOTIFY == 4)

/-- SECTION_FAULT: OVR, OSTOP or ENGF in a SECs_STATE, or SECs_XQ.LATE (R71, R265, R314). -/
def State.sectionFault (s : State) : Bool :=
  (List.range 6).any (fun k => s.getB (.SEC_STATE k) F.SEC_STATE_OVR || s.getB (.SEC_STATE k) F.SEC_STATE_OSTOP ||
    s.getB (.SEC_STATE k) F.SEC_STATE_ENGF || s.getB (.SEC_XQ k) F.SEC_XQ_LATE)

/-- LANE: a lane has EVT, EYE_LOW, MSG_FAIL or a message waiting (R354). -/
def State.lanePending (s : State) : Bool :=
  (List.range 20).any (fun n => s.getB (.LN_STS n) F.LN_STS_EVT || s.getB (.LN_STS n) F.LN_STS_EYE_LOW ||
    s.getB (.LN_PSTS n) F.LN_PSTS_MSG_FAIL || !(s.ln n).rxBuf.isEmpty)

/-- EXPORT: LINK_CHG, CAP_OVF or ABORT in an EXPk_STS (R383). -/
def State.exportPending (s : State) : Bool :=
  (List.range 4).any (fun k => s.getB (.EXPK_STS k) F.EXPK_STS_LINK_CHG || s.getB (.EXPK_STS k) F.EXPK_STS_CAP_OVF ||
    s.getB (.EXPK_STS k) F.EXPK_STS_ABORT)

/-- Interrupt vector 0x20 + k of engine e is pending. -/
def State.intPending (s : State) (e k : Nat) : Bool :=
  let x := s.engine e
  let sve := e == 192
  match k with
  | 0 => bit (x.csrW e 0x068) 33
  | 1 => bit (x.csrW e 0x06A) 33
  | 2 => bit (x.csrW e 0x012) 2
  | 3 => !sve && s.getB (.SEC_DMA_STS (sectOf e) (cluOf e % 8) (e % 4)) F.SEC_DMA_STS_IRQ
  | 4 => s.checkPending e
  | 5 => sve && !s.qmEvts.isEmpty
  | 6 => sve && s.sectionFault
  | 7 => (SMap.get (fun _ => none) s.dbg.rxd e).isSome
  | 8 => sve && !s.glvEvts.isEmpty && s.getB .GLV_CTL F.GLV_CTL_EVT_IE
  | 9 => sve && s.getB .HOST_MBX_STS F.HOST_MBX_STS_CMD
  | 10 => sve && !s.health.evts.isEmpty
  | 11 => sve && s.lanePending
  | 12 => sve && (s.getB .BEAT_STS F.BEAT_STS_LOST || s.getB .BEAT_STS F.BEAT_STS_EDGE_ERR || s.getB .BEAT_STS F.BEAT_STS_SHORT)
  | 13 => sve && s.exportPending
  | _ => false

/-! ## Reading a CSR -/

/-- ENG_STS: the stored SSTALL and MODE with the computed bits. -/
def Engine.sts (x : Engine) (e : Nat) : Word :=
  let w := setFld (setBit 0 11 (bit (x.csrW e 1) 11)) 19 16 x.sb.length
  let w := setBit (setBit (setBit w 15 x.divOp.isSome) 14 x.fplOp.isSome) 13 (x.stm.op != 0)
  setBit (setBit w 10 x.efWait) 8 (x.perf e)

/-- The value of CSR n of engine e as the hardware shows it. -/
def State.csrValue (s : State) (e n : Nat) : Word :=
  let x := s.engine e
  if n = 0x001 then x.sts e
  else if n = 0x009 ∧ e < 192 then setFld (x.csrW e n) 1 0 (if s.getF (.SEC_CFG (sectOf e)) F.SEC_CFG_ATOMIC = 0 then 1 else 2)
  else if n = 0x010 then put 1 0 x.ring.toNat
  else if n = 0x011 then put 2 0 x.imask.toNat
  else if n = 0x012 then (List.range 32).foldl (fun w k => setBit w k (s.intPending e k)) 0
  else if 0x03C ≤ n ∧ n ≤ 0x03F then x.spOf (n - 0x03C)
  else if 0x100 ≤ n ∧ n ≤ 0x103 then SMap.get (fun _ => 0) s.dbg.cmp (e * 8 + (n - 0x100))
  else if 0x108 ≤ n ∧ n ≤ 0x10B then SMap.get (fun _ => 0) s.dbg.cmp (e * 8 + 4 + (n - 0x108))
  else if n = 0x130 then
    setBit (setBit 0 35 (SMap.get (fun _ => none) s.dbg.txd e).isSome) 34 (SMap.get (fun _ => false) s.dbg.txLost e)
  else if n = 0x131 then
    (match SMap.get (fun _ => none) s.dbg.rxd e with | some w => setBit w 35 true | none => 0)
  else x.csrW e n

/-- A read of DBG_RXD returns the word and empties the buffer (R467). -/
def State.rxdEmpty (s : State) (e : Nat) : State :=
  { s with dbg := { s.dbg with rxd := SMap.set (fun _ => none) s.dbg.rxd e none } }

/-- A software read of CSR n. -/
def State.csrRead (s : State) (e n : Nat) : Word × State :=
  let s := if 0x140 ≤ n ∧ n ≤ 0x143 then s.cntCatch e else s
  (readMask (csrFields n) (s.csrValue e n), if n = 0x131 then s.rxdEmpty e else s)

/-! ## csrr and csrw (R211, R245) -/

/-- The flags that operations raise which complete in or before the cycle in which a trigger moved now arrives (R237). -/
def Engine.flagsDue (x : Engine) : Nat :=
  (x.flights.filter (fun f => decide (f.due ≤ x.cyc + 1))).foldl (fun a f => a ||| f.flags) 0 |||
    (match x.fplOp with | some l => if l.due ≤ x.cyc + 1 then l.flags else 0 | none => 0)

/-- csrr: the CSR as it stands when the trigger arrives; FPSTS with the flags of every operation completed by then (R237). -/
def csrrOp (s : State) (e : Nat) (t : Word) : OpOut :=
  let n := fld t 11 0
  if !csrListed n then .trap (.code 0x01 0)
  else if csrReadRing n < (s.engine e).ring.toNat then .trap (.code 0x02 (BitVec.ofNat 36 n))
  else
    let (w, s) := s.csrRead e n
    .one s 1 0x204 (if n = 0x051 then w ||| BitVec.ofNat 36 ((s.engine e).flagsDue % 32) else w)

/-- csrw: the write is made in the cycle in which the trigger arrives and governs the engine from the next cycle on (R211), so
it is held until then, until the triggers of the next bundle arrive, or until an entry or a halt comes first (State.csrSettle). FPSTS governs
nothing at a boundary and is written at once, before the flags of that cycle are ORed in (R237). A write that Table 9.1 marks
with a dash is ignored in every ring. -/
def csrwOp (s : State) (e : Nat) (t : Word) : OpOut :=
  let n := fld t 11 0
  if !csrListed n then .trap (.code 0x01 0)
  else match csrWriteRing n with
    | none => .plain s
    | some r =>
      if r < (s.engine e).ring.toNat then .trap (.code 0x02 (BitVec.ofNat 36 n))
      else if n = 0x051 then .plain (s.csrWrite e n ((s.engine e).port 0x200))
      else .plain (s.modEngine e (fun x => { x with csrLate := some (n, x.port 0x200, x.cyc + 2) }))

/-! A write that is still held has been made when the trigger of a csrr or csrw arrives. -/

def execCsrr (e : EngId) (t : Word) (s : State) : Out := let s := s.csrSettle e; .next (s.opRow e uCu (csrrOp s e t))
def execCsrw (e : EngId) (t : Word) (s : State) : Out :=
  let s := s.csrSettle e
  .next ((s.opRow e uCu (csrwOp s e t)).csrSettle e)

/-! ## The terminal buffers as commands (R467) -/

def execTxdWrite (e : EngId) (w : Word) (s : State) : Out := .next (s.txdPut e w)
def execRxdRead (e : EngId) (s : State) : Out := .next (s.rxdEmpty e)

end Sys2Proof.Machine
end

