-- ==== Sys2Proof/Machine/Fetch.lean ====
section
/-! DEFINITION. Fetching code: which code addresses an engine may fetch (R151, R155, R172, R293, R427), the parcels it reads
(R171), the I-cache (R156). -/

namespace Sys2Proof.Machine

/-- The byte address, as engine e issues it, of code address p; `none` outside Table 6.1. -/
def codeByte (p : Nat) : Option Nat :=
  match codeRegion p with
  | some (0, o) => some (0x40000 + 2 * o)
  | some (1, o) => some (0x80000 + 2 * o)
  | some (_, o) => some (0x080000000 + 2 * o)
  | none => none

/-- Whether engine e may not fetch the parcel at p (R151, R155, R293). -/
def State.fetchRefused (s : State) (e p : Nat) : Bool :=
  match codeRegion p with
  | none => true
  | some (0, _) => false
  | some (r, o) =>
    let a := if r = 1 then 0x80000 + 2 * o else 0x080000000 + 2 * o
    !((s.engine e).perf e && (if r = 1 then decide (e < 192) else decide (e = 192)) && s.marked e a &&
      s.ringOk e (s.engine e).ring.toNat a false (if r = 1 then .shared else .sup) && !(r == 2 && decide (0x0800F0000 ≤ a)))

/-- The canonical byte address of the word that holds parcel p. -/
def codeCanon (e p : Nat) : Nat := match codeByte p with | some a => canonOf e a | none => 0

/-- Code that is read through the I-cache: everything but the local schedule memory (R155). -/
def cachedCode (p : Nat) : Bool := match codeRegion p with | some (0, _) => false | some _ => true | none => false

/-- The I-cache line that holds canonical byte address ca. -/
def Engine.iLine (x : Engine) (ca : Nat) : Option CacheLine :=
  let k := (ca / 32 % 256) * 2
  match SMap.get (fun _ => none) x.icache k, SMap.get (fun _ => none) x.icache (k + 1) with
  | some l, r => if l.base = ca / 32 * 32 then some l else r.filter (fun l => l.base == ca / 32 * 32)
  | none, r => r.filter (fun l => l.base == ca / 32 * 32)

/-- The parcel at code address p as engine e reads it: from an I-cache line that holds it, else from memory. -/
def State.codeParcel (s : State) (e p : Nat) : Half :=
  if (codeByte p).isNone then 0
  else
    let ca := codeCanon e p
    let w := match (if cachedCode p then (s.engine e).iLine ca else none) with
      | some l => l.words.getD (ca % 32 / 4) 0
      | none => s.word ca
    if p % 2 = 0 then h0 w else h1 w

/-- The code address of the bundle that follows the one at p. -/
def State.codeNext (s : State) (e p : Nat) : Nat := nextBundle (s.codeParcel e) p

end Sys2Proof.Machine
end

