-- ==== Sys2Proof/Machine/Cu.lean ====
section
/-! DEFINITION. The commands of the control unit: branches and the return stack (R154, R157, R206-R210), trap, rti and retg
(R259-R263), fences and isync (R163, R164), endframe (R55, R165). -/

namespace Sys2Proof.Machine

/-! ## Return stack (R209) -/

def Engine.rsPush (x : Engine) (ra : Word) : Engine :=
  { x.setRs x.rsTop.toNat ra with rsTop := x.rsTop + 1, rsDepth := if x.rsDepth.toNat < 16 then x.rsDepth + 1 else x.rsDepth }

/-- The popped entry and the stack after. -/
def Engine.rsPop (x : Engine) : Word × Engine :=
  let t := x.rsTop - 1
  (x.rsEntry t.toNat, { x with rsTop := t, rsDepth := if x.rsDepth = 0 then 0 else x.rsDepth - 1 })

/-! ## Prediction (R157) -/

/-- The fetch predictor counts a branch of a performance-mode engine, index bits 7:0 of the branch bundle's address. While PRED_EN
is 0 the counters hold: R157 says only that prediction is disabled, so this is the model's choice (notes/assumptions/49.md). -/
def Engine.predCount (x : Engine) (e : Nat) (pc : Nat) (taken : Bool) : Engine :=
  if x.perf e && bit (x.csrW e 0) 11 then
    let i := pc % 256
    let c := SMap.get (fun _ => 1) x.pred i
    { x with pred := SMap.set (fun _ => 1) x.pred i (if taken then (if c = 3 then 3 else c + 1) else (if c = 0 then 0 else c - 1)) }
  else x

/-! ## Branches (Table 7.7): b is 0 jmp, 1 call, 2 ret, 3 beq, 4 bne, 5 blt, 6 bge, 7 bltu, 8 bgeu, 9 bz, 10 bnz -/

def branchTaken (b : Nat) (o t : Word) : Bool :=
  match b with
  | 3 => o == t | 4 => o != t | 5 => o.slt t | 6 => !o.slt t | 7 => o.ult t | 8 => !o.ult t | 9 => t == 0 | 10 => t != 0
  | _ => true

/-- The code address of the bundle that follows the one at the PC. -/
def State.nextOf (s : State) (e : Nat) : Nat := s.codeNext e (s.engine e).pc.toNat

/-- A branch decides; its two delay-slot bundles are still to issue (R154). In a delay slot it is illegal (R208). nx is the bundle after
the branch bundle as that bundle was fetched (R168); call pushes the second one after it (R207). -/
def branchOp (b nx : Nat) (s : State) (e : Nat) (t : Word) : OpOut :=
  let x := s.engine e
  let rsTrap := bit (x.csrW e 0) 1
  if x.branch.isSome then .trap (.code 0x01 0)
  else if b = 1 ∧ x.rsDepth = 16 ∧ rsTrap then .trap (.code 0x0C 0)
  else if b = 2 ∧ x.rsDepth = 0 ∧ rsTrap then .trap (.code 0x0D 0)
  else
    let taken := branchTaken b (x.port 0x200) t
    let (target, x) :=
      if b = 1 then (t, x.rsPush (BitVec.ofNat 36 (s.codeNext e (s.codeNext e nx))))
      else if b = 2 then x.rsPop
      else if b = 0 then (t, x)
      else (x.port 0x201, x)
    let x := x.predCount e x.pc.toNat taken
    .plain (s.setEngine e { x with branch := some { ds := 2, taken := taken, target := target } })

/-- The engine goes on to the next bundle n, or from the second delay slot of a branch to its target (R154). -/
def Engine.advance (x : Engine) (n : Word) : Engine :=
  match x.branch with
  | none => { x with pc := n }
  | some b =>
    if 1 < b.ds then { x with pc := n, branch := some { b with ds := b.ds - 1 } }
    else { x with pc := if b.taken then b.target else n, branch := none, cyc := if b.late then x.cyc + 1 else x.cyc }

/-- The end of a bundle whose next bundle in code order is n; `old` is the branch that was pending before it. A bundle that
holds a branch goes on to its first delay slot; one that waits for a fence stays. -/
def Engine.endBundle (x : Engine) (old : Option PendBranch) (n : Word) : Engine :=
  if x.fence.isSome then { x with nextPc := some n }
  else if old.isNone && x.branch.isSome then { x with pc := n }
  else x.advance n

/-- The end of a command that asserts a cu trigger which ends its bundle. -/
def State.cuRow (s : State) (e : Nat) (o : OpOut) : State :=
  let n := BitVec.ofNat 36 (s.nextOf e)
  let s' := s.opRow e uCu o
  match o with
  | .ok _ => s'.modEngine e (fun x => x.endBundle (s.engine e).branch n)
  | _ => s'

def execJmp (e : EngId) (t : Word) (s : State) : Out := .next (s.cuRow e (branchOp 0 (s.nextOf e) s e t))
def execCall (e : EngId) (t : Word) (s : State) : Out := .next (s.cuRow e (branchOp 1 (s.nextOf e) s e t))
def execRet (e : EngId) (t : Word) (s : State) : Out := .next (s.cuRow e (branchOp 2 (s.nextOf e) s e t))
def execBeq (e : EngId) (t : Word) (s : State) : Out := .next (s.cuRow e (branchOp 3 (s.nextOf e) s e t))
def execBne (e : EngId) (t : Word) (s : State) : Out := .next (s.cuRow e (branchOp 4 (s.nextOf e) s e t))
def execBlt (e : EngId) (t : Word) (s : State) : Out := .next (s.cuRow e (branchOp 5 (s.nextOf e) s e t))
def execBge (e : EngId) (t : Word) (s : State) : Out := .next (s.cuRow e (branchOp 6 (s.nextOf e) s e t))
def execBltu (e : EngId) (t : Word) (s : State) : Out := .next (s.cuRow e (branchOp 7 (s.nextOf e) s e t))
def execBgeu (e : EngId) (t : Word) (s : State) : Out := .next (s.cuRow e (branchOp 8 (s.nextOf e) s e t))
def execBz (e : EngId) (t : Word) (s : State) : Out := .next (s.cuRow e (branchOp 9 (s.nextOf e) s e t))
def execBnz (e : EngId) (t : Word) (s : State) : Out := .next (s.cuRow e (branchOp 10 (s.nextOf e) s e t))

/-! ## trap, rti, retg: a check that may fault, then the entry or the return -/

/-- The fault of a trap's bundle, if the gate is refused (R260). -/
def trapCheck (s : State) (e : Nat) (t : Word) : Option OpTrap :=
  if (s.engine e).branch.isSome then some (.code 0x01 0)
  else match s.gate e (fld t 7 0) with
    | .refuse c ea => some (.code c ea)
    | .into _ => none

/-- The trap enters its gate; EPC names nx, the bundle after the trap bundle as that bundle was fetched (R168). -/
def State.trapGo (s : State) (e : Nat) (t : Word) (nx : Nat) : State :=
  match s.gate e (fld t 7 0) with
  | .refuse _ _ => s
  | .into w => (s.ctrlSeen e (((s.engine e).csrW e 0x025).toNat + 4 * fld t 7 0)).gateEnter e (fld t 7 0) w (BitVec.ofNat 36 nx)

def returnFault (s : State) (e : Nat) (isRti : Bool) : Option OpTrap :=
  if (s.engine e).branch.isSome then some (.code 0x01 0)
  else match s.returnCheck e isRti with
    | .inl (c, ea) => some (.code c ea)
    | .inr _ => none

def State.returnGo (s : State) (e : Nat) (isRti : Bool) : State :=
  match s.returnCheck e isRti with
  | .inl _ => s
  | .inr ca => s.returnFrom e isRti ca

/-- A word of a frame that a return finds uncorrectable is logged (R289). -/
def State.trapLogged (s : State) (e : Nat) (tr : OpTrap) : State :=
  match tr with
  | .code 0x09 ea => (match ctrlLoc e ea.toNat with | some ca => s.eccUncorrectable ca | none => s)
  | _ => s

def execTrap (e : EngId) (t : Word) (s : State) : Out :=
  match trapCheck s e t with
  | some tr => .next ((s.trapLogged e tr).takeTrap e tr (s.engine e).pc)
  | none => .next (s.trapGo e t (s.nextOf e))

def execRti (e : EngId) (s : State) : Out :=
  match returnFault s e true with
  | some tr => .next ((s.trapLogged e tr).takeTrap e tr (s.engine e).pc)
  | none => .next (s.returnGo e true)

def execRetg (e : EngId) (s : State) : Out :=
  match returnFault s e false with
  | some tr => .next ((s.trapLogged e tr).takeTrap e tr (s.engine e).pc)
  | none => .next (s.returnGo e false)

/-! ## Fences (Table 5.3): kind 0 fence.m, 1 fence.l, 2 fence.a -/

/-- Every store of the engine has drained and is acknowledged. -/
def State.storesDone (s : State) (e : Nat) : Bool :=
  let x := s.engine e
  x.sb.isEmpty && x.sbWait.isEmpty && x.outStores.isEmpty &&
    !(decide (e < 192) && (s.sect (sectOf e)).posts.any (fun p => p.eng == e))

/-- Every div, fdiv, fsqrt and stm operation has completed; a suspended stm operation is not waited for. -/
def State.longDone (s : State) (e : Nat) : Bool :=
  let x := s.engine e
  x.divOp.isNone && x.fplOp.isNone && x.held.isEmpty && (x.stm.op == 0 || x.stm.susp)

def State.fenceMet (s : State) (e kind : Nat) : Bool := (kind == 1 || s.storesDone e) && (kind == 0 || s.longDone e)

/-- The pending fault that a completing fence.l or fence.a raises (R164, R240, R258). -/
def Engine.longPending (x : Engine) : Option OpTrap :=
  if x.fpLong.isSome then some .fpLong else if x.longop.isSome then some .longop else none

/-- A fence whose condition holds completes at once; otherwise the engine waits for FENCE_COMPLETE. A pending fault that it raises at
once takes away the bundle's other moves, as a precise fault does: the model's choice (notes/assumptions/49.md). -/
def fenceOp (kind : Nat) (s : State) (e : Nat) : OpOut :=
  if s.fenceMet e kind then
    match (if kind = 0 then none else (s.engine e).longPending) with
    | some tr => .trap tr
    | none => .plain s
  else .plain ((s.modEngine e (fun x => { x with fence := some (BitVec.ofNat 2 kind) })).waitBegin e)

def execFenceL (e : EngId) (s : State) : Out := .next (s.cuRow e (fenceOp 1 s e))
def execFenceM (e : EngId) (s : State) : Out := .next (s.cuRow e (fenceOp 0 s e))
def execFenceA (e : EngId) (s : State) : Out := .next (s.cuRow e (fenceOp 2 s e))

/-- The bundle that holds the fence for which the engine waits. A halt has moved the PC on to the next bundle (State.haltTake). -/
def Engine.fencePc (x : Engine) : Word := if x.nextPc.isSome then x.pc else x.bundlePc

/-- The engine goes on to the bundle after its fence. -/
def Engine.fencePass (x : Engine) : Engine :=
  match x.nextPc with
  | some n => { x with fence := none, nextPc := none }.advance n
  | none => { x with fence := none }

/-- isync: the fetched bundles, the line buffer and every I-cache line go. In a delay slot it is illegal (R208). -/
def isyncOp (s : State) (e : Nat) : OpOut :=
  if (s.engine e).branch.isSome then .trap (.code 0x01 0)
  else .plain (s.modEngine e (fun x => { x with icache := [], icMiss := none, iDirect := none }))

def execIsync (e : EngId) (s : State) : Out := .next (s.cuRow e (isyncOp s e))

/-! ## endframe (R55, R56, R165, R240, R258) -/

/-- The trigger of endframe: a pending long fault is taken at this bundle, else the wait of fence.a begins. -/
def endframeOp (s : State) (e : Nat) : OpOut :=
  let x := s.engine e
  if x.branch.isSome then .trap (.code 0x01 0)
  else match x.longPending with
    | some tr => .trap tr
    | none => .plain (s.setEngine e { x with efWait := true, efDone := false })

def execEndframe (e : EngId) (s : State) : Out := .next (s.opRow e uCu (endframeOp s e))

/-- The engines of section k that run code: in the USE set of the schedule in force, not LOCKED and not fenced (R57). -/
def State.runners (s : State) (k : Nat) : List Nat :=
  (List.range 32).filterMap (fun i =>
    let n := k * 32 + i
    if bit (s.sect k).useMask i && !(s.engine n).locked && !(s.engine n).fenced then some n else none)

/-- The section has finished its beat (R57). -/
def State.sectFinished (s : State) (k : Nat) : Bool := (s.runners k).all (fun n => (s.engine n).efDone)

end Sys2Proof.Machine
end

