-- ==== Sys2Proof/Machine/Halt.lean ====
section
/-! DEFINITION. Halts and resumes of engines, and the delivery of the Gong (R450-R459, R466, R468). -/

namespace Sys2Proof.Machine

/-- A halt request reaches engine n (R450); causes of DBG_ESTS: 1 command, 2 Gong, 3 instruction comparator, 4 watchpoint, 5 end
of step, 6 halt at start. It has no effect on a halted engine. -/
def State.requestHalt (s : State) (n cause comp : Nat) : State :=
  let x := s.engine n
  if x.halted || x.locked || x.fenced || x.haltReq.isSome then s
  else s.setEngine n { x with haltReq := some (BitVec.ofNat 3 cause), haltComp := BitVec.ofNat 3 comp, cmpStop := false }

/-- The boundary at which a request may take effect (R451): a bundle boundary of a running engine (its section RUNNING and
powered), no section stall, no tas still to be performed. A request that comes while the section waits for its restart takes
effect at the entry (R454, R455). -/
def State.canHalt (s : State) (n : Nat) : Bool :=
  let x := s.engine n
  x.inBeat && !(decide (n < 192) && (!s.running (sectOf n) || s.gated (sectOf n) || (s.sect (sectOf n)).dbgRestart)) &&
    !s.engStalled n && !(x.loads0 ++ x.loads1).any (fun l => l.kind == 1 && l.fwd.isNone)

/-- The reply of a DBG_HALT (opcode 0x080) or DBG_STEP (0x082) that has waited for its targets (Table 18.4): PARTIAL when one of
them has not halted. -/
def State.haltReply (s : State) (w : HaltWait) : State :=
  let up := w.targets.filter (fun n => (s.engine n).halted)
  let st := if up.length = w.targets.length then stOK else stPARTIAL
  if w.opcode = 0x080 then
    s.reply st w.tag w.noibi [BitVec.ofNat 36 up.length, BitVec.ofNat 36 (w.targets.length - up.length)]
  else s.reply st w.tag w.noibi [BitVec.ofNat 36 (s.engine (w.targets.headD 0)).stepIssued]

/-- Every waiting reply whose targets have all halted is queued. -/
def State.haltReplies (s : State) : State :=
  let ready := fun (w : HaltWait) => w.targets.all (fun n => (s.engine n).halted)
  (s.seq.haltWait.filter ready).foldl (fun st w => st.haltReply w)
    { s with seq := { s.seq with haltWait := s.seq.haltWait.filter (fun w => !ready w) } }

/-- The engine at the boundary of a halt: an engine that waits for a fence stands before the bundle after it, which a debug access
reads as the PC (R449); the fence is still awaited. -/
def Engine.haltPc (x : Engine) : Engine :=
  match x.fence, x.nextPc with
  | some k, some n => { { x with fence := none, nextPc := none }.advance n with fence := some k }
  | _, _ => x

/-- The request takes effect: the reservation is cleared (R215), the section's channels park with HALT when its first engine
halts (R122, R453). -/
def State.haltTake (s : State) (n : Nat) : State :=
  let s := s.csrSettle n
  let s := if n = 192 then s.swdtCatch else s
  let x := (s.engine n).haltPc
  match x.haltReq with
  | none => s
  | some c =>
    let first := decide (n < 192) && !s.anyHalted (sectOf n)
    let s := s.setEngine n { x with halted := true, haltReq := none, stepLeft := none, stepNoInt := false, resv := none, cntDue := true }
    let s := s.setF (.DBG_ESTS n) F.DBG_ESTS_CAUSE c.toNat
    let s := if c = 3 ∨ c = 4 then s.setF (.DBG_ESTS n) F.DBG_ESTS_COMP x.haltComp.toNat else s
    let s :=
      if first then
        (s.modSect (sectOf n) (fun k => { k with dbgHalted := true })).forChannels (fun _ x => ownedBy (sectOf n) x)
          (fun st c => st.glvHalt c)
      else s
    s.haltReplies

/-- A halt request that waits takes effect if the boundary allows it. -/
def State.haltTry (s : State) (n : Nat) : State := if s.canHalt n then s.haltTake n else s

/-- What a resume or the start of a step does to the engine (R461, R463, R468). -/
def Engine.leaveHalt (x : Engine) (e : Nat) : Engine :=
  let ctl := x.csrW e 0x060
  let x := if bit ctl 34 then { x.setCsrW e 0x061 (put 23 0 (fld ctl 23 0)) with wdtPre := 0 } else x
  { x with halted := false, haltReq := none, exemptOnce := true }

/-- Engine n is resumed (R455, R456); one that is not halted is skipped (Table 18.4). The SVE
refetches as isync does. When the last halted engine of a section is resumed, the section waits for the next boundary and restarts there, and channels whose cause is HALT become ARMED (R122). -/
def State.resumeEngine (s : State) (n : Nat) : State :=
  let x := s.engine n
  if !x.halted then s
  else
    let s := (s.setEngine n { x.leaveHalt n with stepLeft := none }).setF (.DBG_ESTS n) F.DBG_ESTS_HITS 0
    if n = 192 then s.modEngine n (fun x => { x with icache := [], icMiss := none, iDirect := none })
    else if s.anyHalted (sectOf n) then s
    else
      (s.modSect (sectOf n) (fun k => { k with dbgRestart := true })).forChannels
        (fun _ x => ownedBy (sectOf n) x && x.g0.cause == 0x1A && !x.live) (fun st c => st.glvUnhalt c)

/-- A step of c bundles begins (R459): it is no resume for the section. -/
def State.stepEngine (s : State) (n c : Nat) (noInt : Bool) : State :=
  let x := s.engine n
  if !x.halted then s
  else (s.setEngine n { x.leaveHalt n with stepLeft := some c, stepNoInt := noInt, stepIssued := 0 }).setF (.DBG_ESTS n)
    F.DBG_ESTS_HITS 0

/-- A halt of section k's engines ends without a resume (R457). -/
def State.dropHalts (s : State) (k : Nat) : State :=
  let s := (List.range 32).foldl (fun st i =>
    let n := k * 32 + i
    let x := st.engine n
    if x.halted || x.haltReq.isSome || x.stepLeft.isSome then
      st.setEngine n { x with halted := false, haltReq := none, stepLeft := none, stepNoInt := false }
    else st) s
  s.modSect k (fun x => { x with dbgHalted := false, dbgRestart := false })

/-- One firing of group g is delivered to every engine whose LISTEN includes it (R466). -/
def State.gongDeliver (s : State) (g : Nat) : State :=
  let n := SMap.get (fun _ => 0) s.dbg.deliver g
  if n = 0 then s
  else
    let s := { s with dbg := { s.dbg with deliver := SMap.set (fun _ => 0) s.dbg.deliver g (n - 1) } }
    (List.range 193).foldl (fun st k =>
      if bit (st.reg (.DBG_ECTL k)) (24 + g) then st.requestHalt k 2 0 else st) s

/-- A master may use the halt, resume and Gong registers: the SVE may not touch its own entry (R446). -/
def dbgEntryOk (m : Master) (n : Nat) : Bool :=
  match m with
  | .engine _ _ => false
  | .sve r0 => r0 && n != 192
  | .debug => true

end Sys2Proof.Machine
end

