-- ==== Sys2Proof/Machine/Sect.lean ====
section
/-! DEFINITION. The shared facilities of a section: cluster semaphores (R296, R297), cluster DMA (R298-R301), data-cache
invalidation (R287), doorbells (R274), fencing (R491, R492), power gating (R490), the section reset (R25). -/

namespace Sys2Proof.Machine

/-! ## Semaphores -/

/-- The number a master shows in OWNER: engine 0-191, 255 the SVE. The debug domain has no number of its own and shows 255 too
(notes/assumptions/21.md); it is another holder than the SVE. -/
def masterNum : Master → Nat
  | .engine n _ => n
  | .sve _ => 255
  | .debug => 255

/-- Semaphore j of cluster c was last acquired by the debug domain. -/
def Section.dbgSem (x : Section) (c j : Nat) : Bool := SMap.get (fun _ => false) x.dbgSems (64 * c + j)

/-- ACQ = 1 (R296): a FREE or ORPHANED semaphore becomes HELD by the writer. -/
def State.semAcquire (s : State) (m : Master) (k c j : Nat) : State :=
  let r := Reg.SEC_SEM k c j
  let st := s.getF r F.SEC_SEM_STATE
  if st = 1 then s
  else
    (((s.setF r F.SEC_SEM_STATE 1).setB r F.SEC_SEM_ORPH (st == 2)).setF r F.SEC_SEM_OWNER (masterNum m)).modSect k
      (fun x => { x with dbgSems := SMap.set (fun _ => false) x.dbgSems (64 * c + j) (m == .debug) })

/-- REL = 1 from the holder, or from the SVE in ring 0, makes the semaphore FREE. -/
def State.semRelease (s : State) (m : Master) (k c j : Nat) : State :=
  let r := Reg.SEC_SEM k c j
  let holder := s.getF r F.SEC_SEM_STATE == 1 && s.getF r F.SEC_SEM_OWNER == masterNum m && (s.sect k).dbgSem c j == (m == .debug)
  if holder || m == .sve true then (s.setF r F.SEC_SEM_STATE 0).setB r F.SEC_SEM_ORPH false else s

/-- The semaphores and DMA ports of section k do nothing for master m: the section stands still, and the write arrives when the stall has
ended (R18). A write of the debug domain is taken to arrive outside a stall, whenever its command comes (notes/assumptions/49.md). -/
def State.portStill (s : State) (m : Master) (k : Nat) : Bool := s.stalled k && m != .debug

/-- A write to a semaphore register: both bits set has no effect. -/
def State.semWrite (s : State) (m : Master) (k c j : Nat) (w : Word) : State :=
  if s.portStill m k || (bit w 35 && bit w 34) then s
  else if bit w 35 then s.semAcquire m k c j
  else if bit w 34 then s.semRelease m k c j
  else s

/-- Every semaphore that engine n holds becomes ORPHANED (R297). -/
def State.orphanSems (s : State) (n : Nat) : State :=
  (List.range 512).foldl (fun st i =>
    let r := Reg.SEC_SEM (sectOf n) (i / 64) (i % 64)
    if st.getF r F.SEC_SEM_STATE = 1 ∧ st.getF r F.SEC_SEM_OWNER = n then st.setF r F.SEC_SEM_STATE 2 else st)
    ((List.range 3072).foldl (fun st i =>
      let r := Reg.SEC_SEM (i / 512) (i % 512 / 64) (i % 64)
      if i / 512 ≠ sectOf n ∧ st.getF r F.SEC_SEM_STATE = 1 ∧ st.getF r F.SEC_SEM_OWNER = n then st.setF r F.SEC_SEM_STATE 2 else st) s)

/-- Every semaphore of section k is FREE. -/
def State.freeSems (s : State) (k : Nat) : State :=
  (List.range 512).foldl (fun st i =>
    let r := Reg.SEC_SEM k (i / 64) (i % 64)
    (st.setF r F.SEC_SEM_STATE 0).setB r F.SEC_SEM_ORPH false) s

def execSemAcquire (m : Master) (k : SectId) (c : Fin 8) (j : Fin 64) (s : State) : Out :=
  .next (if s.portStill m k then s else s.semAcquire m k c j)
def execSemRelease (m : Master) (k : SectId) (c : Fin 8) (j : Fin 64) (s : State) : Out :=
  .next (if s.portStill m k then s else s.semRelease m k c j)

/-! ## Data caches (R287) and doorbells (R274) -/

/-- The engines a mask names: bit c * 4 + e of section k, bit 32 the SVE. -/
def maskEngines (k : Nat) (w : Word) : List Nat :=
  ((List.range 32).filter (fun i => bit w i)).map (fun i => k * 32 + i) ++ (if bit w 32 then [192] else [])

def State.dcacheInv (s : State) (k : Nat) (w : Word) : State :=
  (maskEngines k w).foldl (fun st n => st.modEngine n (fun x => { x with dcache := [] })) s

def State.doorbell (s : State) (k : Nat) (w : Word) : State :=
  (maskEngines k w).foldl (fun st n => st.modEngine n (fun x => x.setCsrW n 0x012 (setBit (x.csrW n 0x012) 2 true))) s

def execDcacheInvalidate (k : SectId) (w : Word) (s : State) : Out := .next (s.dcacheInv k w)
def execDoorbell (k : SectId) (w : Word) (s : State) : Out := .next (s.doorbell k w)

/-! ## DMA: cluster c (0-47), context x of engine 4c + x -/

def dmaSts (c x : Nat) : Reg := .SEC_DMA_STS (c / 8) (c % 8) x

/-- FREE follows the queue. -/
def State.dmaFree (s : State) (c x : Nat) : State :=
  s.setF (dmaSts c x) F.SEC_DMA_STS_FREE (4 - (s.dmaCtx (4 * c + x)).queue.length)

/-- A post (R298): by the context's own engine only; W0-W2 are copied, with the ring in which the engine posted them (R295); a full
queue discards it. In a stall of the section it has not arrived yet (R18). -/
def State.dmaPost (s : State) (m : Master) (c x : Nat) (w : Word) : State :=
  let n := 4 * c + x
  match m with
  | .debug => s
  | .sve _ => s
  | .engine k ring =>
    let ctx := s.dmaCtx n
    if k.val ≠ n ∨ s.stalled (sectOf n) = true then s
    else if 4 ≤ ctx.queue.length then s.setB (dmaSts c x) F.SEC_DMA_STS_LOST true
    else
      let a := fld w 15 0 / 16 * 16
      let ca := spadBase n + a
      let bad := (List.range 3).find? (fun k => s.isBad (ca + 4 * k))
      let d : Desc := { w0 := s.word ca, w1 := s.word (ca + 4), w2 := s.word (ca + 8), addr := a, ring := ring, bad := bad.isSome }
      let s := match bad with | some k => s.eccUncorrectable (ca + 4 * k) | none => s.softReads ca 12 (.unit (sectOf n))
      (s.setDma n { ctx with queue := ctx.queue ++ [d] }).dmaFree c x

/-- The memory of a descriptor address in the posting engine's view, if R299 lists its range. -/
def dmaMem (n a : Nat) : Option MemId :=
  if 0x040000000 ≤ a then none
  else match engineLoc n a with
    | some (.mem ca) => memOf ca
    | _ => none

/-- Every word of a range lies in one memory that the descriptor may use (R169, R292, R295, R299, R492). The local schedule range takes
code stores only (Table 10.4), which a descriptor does not make. -/
def State.dmaRangeOk (s : State) (n ring a count : Nat) (write : Bool) : Bool :=
  a % 4 == 0 && (match dmaMem n a with
    | none => false
    | some m =>
      (match m with
       | .sched k => !write || !(s.running (sectOf k) || (s.engine k).fenced)
       | .spad k => !write || k == n || !(s.engine k).fenced
       | _ => true) &&
      (List.range count).all (fun j =>
        let b := a + 4 * j
        dmaMem n b == some m && !(write && s.marked n b) &&
        (match rangeOf n b with
         | some .sched => !write && s.ringOk n ring b false .sched
         | some r => s.ringOk n ring b write r && !(write && s.schedCovered n b)
         | none => false)))

/-- The check of a descriptor when it starts (R299). -/
def State.dmaBad (s : State) (n : Nat) (d : Desc) : Bool :=
  let count := fld d.w2 16 0
  let fill := bit d.w2 34
  decide (count = 0 ∨ 65536 < count) || fld d.w2 33 17 != 0 || !s.dmaRangeOk n d.ring d.w1.toNat count true ||
    (!fill && !s.dmaRangeOk n d.ring d.w0.toNat count false)

/-- A descriptor ends (R300): W3 in the scratchpad, then STS.IRQ. CODE: 0 OK, 1 ADDR, 2 DATA, 3 ABORTED. -/
def State.dmaEnd (s : State) (c x : Nat) (d : Desc) (code cnt : Nat) : State :=
  let n := 4 * c + x
  let w := setFld (setFld (setBit 0 35 true) 34 32 code) 16 0 cnt
  let s := s.setWord (spadBase n + d.addr + 12) w
  let s := s.setDma n { s.dmaCtx n with running := none }
  let s := (s.setB (dmaSts c x) F.SEC_DMA_STS_BUSY false).dmaFree c x
  if bit d.w2 35 then s.setB (dmaSts c x) F.SEC_DMA_STS_IRQ true else s

/-- A context moves nothing while its engine is halted (R301) or its section stands still (R18, R299) or is gated. -/
def State.dmaHeld (s : State) (n : Nat) : Bool := (s.engine n).halted || s.stalled (sectOf n) || s.gated (sectOf n)

/-- The context takes its next descriptor. -/
def State.dmaStart (s : State) (c x : Nat) : State :=
  let n := 4 * c + x
  let ctx := s.dmaCtx n
  match ctx.running, ctx.queue with
  | none, d :: rest =>
    if s.dmaHeld n then s
    else
      let s := (s.setDma n { queue := rest, running := some d }).dmaFree c x
      if d.bad then s.dmaEnd c x d 2 0
      else if s.dmaBad n d then s.dmaEnd c x d 1 0
      else s.setB (dmaSts c x) F.SEC_DMA_STS_BUSY true
  | _, _ => s

/-- The words of a running descriptor move in ascending order; the count moved before an uncorrectable source word. -/
def State.dmaMove (s : State) (n : Nat) (d : Desc) (j : Nat) : Nat → Nat × Bool × State
  | 0 => (j, false, s)
  | k + 1 =>
    let src := canonOf n (d.w0.toNat + 4 * j)
    let dst := canonOf n (d.w1.toNat + 4 * j)
    if bit d.w2 34 then (s.setWord dst d.w0).dmaMove n d (j + 1) k
    else if s.isBad src then (j, true, s.eccUncorrectable src)
    else ((s.softRead src (.unit (sectOf n))).setWord dst (s.word src)).dmaMove n d (j + 1) k

/-- A memory that the descriptor reads or writes belongs to a section that stands still (R18). -/
def State.dmaStill (s : State) (n : Nat) (d : Desc) : Bool :=
  let still := fun (a : Nat) => match (dmaMem n a).bind MemId.sect with | some k => s.stalled k | none => false
  still d.w1.toNat || (!bit d.w2 34 && still d.w0.toNat)

/-- The running descriptor ends; `ups`: errors that have arisen in words of memory by then. -/
def State.dmaFinish (s : State) (c x : Nat) (ups : List Upset) : State :=
  let s := s.upset ups
  let n := 4 * c + x
  match (s.dmaCtx n).running with
  | none => s
  | some d =>
    if s.dmaHeld n || s.dmaStill n d then s
    else
      let (j, err, s) := s.dmaMove n d 0 (fld d.w2 16 0)
      s.dmaEnd c x d (if err then 2 else 0) j

/-- Fencing ends the running descriptor, which has moved a free number of its words by then, and the queued ones (R301;
notes/assumptions/25.md). -/
def State.dmaAbort (s : State) (n : Nat) : State :=
  let ctx := s.dmaCtx n
  let s := match ctx.running with
    | some d =>
      let p := s.drawNat 17
      let (j, err, s) := p.2.dmaMove n d 0 (p.1 % (fld d.w2 16 0 + 1))
      s.dmaEnd (n / 4) (n % 4) d (if err then 2 else 3) j
    | none => s
  let s := ctx.queue.foldl (fun st d => st.dmaEnd (n / 4) (n % 4) d 3 0) s
  (s.setDma n DmaCtx.reset).dmaFree (n / 4) (n % 4)

def execDmaPost (m : Master) (c : CluId) (x : Fin 4) (w : Word) (s : State) : Out := .next (s.dmaPost m c x w)
def execDmaDescriptorStart (c : CluId) (x : Fin 4) (s : State) : Out := .next (s.dmaStart c x)
def execDmaDescriptorEnd (c : CluId) (x : Fin 4) (ups : List Upset) (s : State) : Out := .next (s.dmaFinish c x ups)

/-! ## Section reset (R25, R287, R297, R310) and its memories -/

/-- The section reset domain returns to reset; fences last until a device reset (R492), and one in progress goes on (R491). -/
def State.resetSectionDomain (s : State) (k : Nat) : State :=
  let s := ((s.dropHalts k).checkAbortSect k).marchAbortSect k
  let s := (List.range 32).foldl (fun st i =>
    let n := k * 32 + i
    let f := (st.engine n).fenced
    let st := st.setEngine n { Engine.reset with fenced := f }
    ((st.setDma n DmaCtx.reset).setB (dmaSts (n / 4) (n % 4)) F.SEC_DMA_STS_BUSY false).dmaFree (n / 4) (n % 4)) s
  let s := s.freeSems k
  let s := s.setReg (.SEC_OVERRUN k) 0
  s.setSect k { Section.reset with fencing := (s.sect k).fencing, xqNo := (s.sect k).xqNo }

/-- A store by the SVE or another engine on its way to section k is not part of the section's reset domain; the section's own
stores and posts are discarded with it. -/
def State.resetSection (s : State) (k : Nat) : State := ((s.resetSectionDomain k).emptySection k).sessionSect k

/-! ## Fencing (R491) -/

/-- GO = 1: a fence in progress completes and the write is ignored; a gated section refuses; a fenced engine reads done. -/
def State.fenceGo (s : State) (k : Nat) (w : Word) : State :=
  let r := Reg.SEC_FENCE k
  if !bit w 35 then s.setF r F.SEC_FENCE_ENGINE (fld w 4 0)
  else if s.getF r F.SEC_FENCE_STS = 1 then s
  else
    let s := s.setF r F.SEC_FENCE_ENGINE (fld w 4 0)
    let n := k * 32 + fld w 4 0
    if s.getB (.SEC_PWR k) F.SEC_PWR_GATED then s.setF r F.SEC_FENCE_STS 3
    else if (s.engine n).fenced then s.setF r F.SEC_FENCE_STS 2
    else (s.setF r F.SEC_FENCE_STS 1).modSect k (fun x => { x with fencing := some n })

def execFence (_m : Master) (k : SectId) (w : Word) (s : State) : Out := .next (s.fenceGo k w)

/-! ## Power gating (R490): only the SVE in ring 0 writes SECs_PWR. A section that is still powering up may be gated again. -/

def State.sectGate (s : State) (m : Master) (k : Nat) : State :=
  if m = .sve true ∧ (s.sectState k = 0 ∨ s.sectState k = 3) ∧ !s.getB (.SEC_PWR k) F.SEC_PWR_GATED then
    let s := (s.resetSection k).setB (.SEC_PWR k) F.SEC_PWR_BUSY false
    (s.setB (.SEC_PWR k) F.SEC_PWR_GATE true).setB (.SEC_PWR k) F.SEC_PWR_GATED true
  else s

def State.sectRestore (s : State) (m : Master) (k : Nat) : State :=
  if m = .sve true ∧ s.getB (.SEC_PWR k) F.SEC_PWR_GATED then
    ((s.setB (.SEC_PWR k) F.SEC_PWR_GATE false).setB (.SEC_PWR k) F.SEC_PWR_GATED false).setB (.SEC_PWR k) F.SEC_PWR_BUSY true
  else s

/-- Power is back: the section reset; the contents of its memories are undefined (R24); the debug domain has kept its
settings (R27). -/
def State.sectPowered (s : State) (k : Nat) : State :=
  if s.getB (.SEC_PWR k) F.SEC_PWR_BUSY then
    let s := (s.resetSection k).setB (.SEC_PWR k) F.SEC_PWR_BUSY false
    (sectMems k).foldl (fun st m => st.scramble m) s
  else s

def execSectionGate (m : Master) (k : SectId) (s : State) : Out := .next (s.sectGate m k)
def execSectionPowerRestore (m : Master) (k : SectId) (s : State) : Out := .next (s.sectRestore m k)
def execSectionPowerUpDone (k : SectId) (s : State) : Out := .next (s.sectPowered k)

end Sys2Proof.Machine
end

