-- ==== Sys2Proof/Machine/Reset.lean ====
section
/-! DEFINITION. The reset domains (Table 1.4, R25-R27): the supervisor reset (R487, R494), the device reset (R408, R421), the
power-on of the always-on domain (R522), and a section reset. -/

namespace Sys2Proof.Machine

/-! ## Supervisor -/

/-- HELM_SPRGN take their reset values (R294). -/
def State.resetSprgn (s : State) : State :=
  (List.range 8).foldl (fun st k =>
    (st.setReg (.PRGN_BASE 6 k) (Reg.reset (.PRGN_BASE 6 k))).setReg (.PRGN_ATTR 6 k) (Reg.reset (.PRGN_ATTR 6 k))) s

/-- The measurement and SVN of one kind of image (R438, Table 17.11). -/
def State.setMeas (s : State) (kind : Nat) (d : List Octet) (svn : Nat) : State :=
  { s with helm := { s.helm with
    meas := SMap.set (fun _ => []) s.helm.meas kind d, svn := SMap.set (fun _ => 0) s.helm.svn kind svn } }

/-- The SVE returns to reset; a fence of its memories lasts (R400, R492). -/
def State.resetSve (s : State) : State := s.setEngine 192 { Engine.reset with fenced := (s.engine 192).fenced }

/-- What a supervisor reset does to the supervisor domain: SUP clears, the SVE and its regions reset, supervisor memory is undefined
(R418), the event log is empty (R519), the supervisor measurement clears (R438), the watchdog is off (R487). -/
def State.clearSupervisor (s : State) : State :=
  let s := s.swdtCatch.clearSup
  let s := (s.resetSve.resetSprgn).scramble .sup
  let s := { s with seq := { s.seq with evlog := [] } }
  (s.setMeas 0 [] 0).setB .HLTH_SWDT F.HLTH_SWDT_EN false

/-- A supervisor reset: the supervisor domain is reset, the open session is discarded (R494), and the device awaits a supervisor. -/
def State.supervisorReset (s : State) : State :=
  let s := s.clearSupervisor.endSession stSTATE
  if 3 ≤ s.baseState ∧ s.baseState ≤ 5 then (s.moveDevState 2).sessionCheck else s

/-- The supervisor watchdog reaches 0 (R487, R470). -/
def State.swdtBite (s : State) : State :=
  if s.getB .HLTH_SWDT F.HLTH_SWDT_EN && !s.swdtFrozen then
    let s := (s.setF .HLTH_SWDT F.HLTH_SWDT_COUNT 0).supervisorReset
    (s.setB .HLTH_STS F.HLTH_STS_SWDT_BITE true).healthEvt 0x0A 0
  else s

def execSwdtBite (s : State) : Out := .next s.swdtBite

/-! ## The OTP word that decides the lifecycle -/

def State.otpWord (s : State) (w : Nat) : Word := SMap.get (fun _ => 0) s.helm.otp w

/-- The majority of bits i, i + 4 and i + 8. -/
def maj3 (w : Word) (i : Nat) : Bool :=
  (bit w i && bit w (i + 4)) || (bit w i && bit w (i + 8)) || (bit w (i + 4) && bit w (i + 8))

/-- Lifecycle bits 3:0 of word 0x000 after the vote (Table 17.9). -/
def lcBits (w : Word) : Nat := (List.range 4).foldl (fun a i => if maj3 w i then a + 2 ^ i else a) 0

/-- The lifecycle code of a pattern (R437): 7 INVALID. -/
def lcOf (p : Nat) : Nat :=
  if p = 0 then 0 else if p = 1 then 1 else if p = 3 then 2 else if p = 7 then 3 else if p = 11 ∨ p = 15 then 4 else 7

/-- Word 0x000 of OTP decides the lifecycle (R437, R527). -/
def State.fusedLc (s : State) : Nat :=
  if SMap.get (fun _ => false) s.helm.otpBad 0 then 7 else lcOf (lcBits (s.otpWord 0))

/-- DBG_LEVEL at a reset of the debug domain: none in OWNED and INVALID, full otherwise (R440). -/
def State.levelAtReset (s : State) : Nat := if s.fusedLc = 3 ∨ s.fusedLc = 7 then 0 else 2

/-! ## Device -/

/-- The OTP words that a program of word w fills: the device secret is eight words. -/
def jobWords (w : Nat) : List Nat := if w = 0x0A0 then (List.range 8).map (0x0A0 + ·) else [w]

/-- The OTP words of an interrupted program of word w hold undefined values (R499). -/
def State.otpUndef (s : State) (w : Nat) : State :=
  (jobWords w).foldl (fun st i =>
    let (v, st) := st.drawNat 36
    { st with helm := { st.helm with otp := SMap.set (fun _ => 0) st.helm.otp i (BitVec.ofNat 36 v) } }) s

/-- A reset interrupts a program that is under way (R499). -/
def State.otpInterrupt (s : State) : State :=
  match s.helm.prog with
  | none => s
  | some (w, _) => { s.otpUndef w with helm := { (s.otpUndef w).helm with prog := none } }

/-- The device reset domain returns to reset (R25, R408): what stays is the always-on domain (the I3C items of R402, the
debug domain), the OTP, the pins. A change of STATE raises its in-band interrupt (R407). -/
def State.deviceReset (s : State) : State :=
  let s := s.otpInterrupt
  let r : State := { State.reset with
    regs := SMap.drop (fun a => !Reg.alwaysOn a) s.regs
    seq := { Seq.reset with da := s.seq.da, ibiEn := s.seq.ibiEn, mwl := s.seq.mwl, mrl := s.seq.mrl, rstact := s.seq.rstact }
    helm := { Helm.reset with otp := s.helm.otp, otpBad := s.helm.otpBad }
    dbg := s.dbg
    pins := { s.pins with safeSeenBoot := false }
    fresh := s.fresh
    pending := s.pending }
  if s.devState = 0 then r else r.ibi 4

/-- Power-on of VDD_AON (R24, R522): everything but the OTP returns to its power-on value. RESET_N and PGOOD are still low
(Table 20.4). -/
def State.aonPowerOn (s : State) : State :=
  let s := s.otpInterrupt
  { State.reset with
    helm := { Helm.reset with otp := s.helm.otp, otpBad := s.helm.otpBad }
    dbg := { Dbg.reset with level := s.levelAtReset }
    pins := { Pins.reset with resetNLow := true, pgoodLow := true }
    fresh := s.fresh
    pending := s.pending }

def State.setPins (s : State) (f : Pins → Pins) : State := { s with pins := f s.pins }

def execAonPowerOn (s : State) : Out := .next s.aonPowerOn
def execResetNLow (s : State) : Out := .next (s.setPins (fun p => { p with resetNLow := true })).deviceReset
/-- ADDR_SEL is sampled as RESET_N rises (its register table). -/
def execResetNRelease (addrSel : Fin 4) (s : State) : Out :=
  .next (if s.pins.resetNLow then s.setPins (fun p => { p with resetNLow := false, addrSel := BitVec.ofNat 2 addrSel }) else s)
def execPgoodLow (s : State) : Out := .next (s.setPins (fun p => { p with pgoodLow := true })).deviceReset
def execPgoodRelease (s : State) : Out := .next (s.setPins (fun p => { p with pgoodLow := false }))
def execRefclkSysLoss (s : State) : Out := .next (s.setPins (fun p => { p with refSysLost := true })).deviceReset
def execRefclkSysReturn (s : State) : Out := .next (s.setPins (fun p => { p with refSysLost := false }))
/-- THERMTRIP_N is asserted while `thermtrip` holds (R480). -/
def execThermtrip (s : State) : Out := .next (s.setPins (fun p => { p with thermtrip := true })).deviceReset
def execThermtripRelease (s : State) : Out := .next (s.setPins (fun p => { p with thermtrip := false }))

end Sys2Proof.Machine
end

