-- ==== Sys2Proof/Machine/Helm.lean ====
section
/-! DEFINITION. Helm (chapter 17): the OTP and what may be programmed (R435-R437), the lifecycle at fuse load (R422, R527),
the debug unlock (R440-R444), identity and attestation (R438, R439). -/

namespace Sys2Proof.Machine

/-! ## OTP words -/

def State.setOtp (s : State) (w : Nat) (v : Word) : State :=
  { s with helm := { s.helm with otp := SMap.set (fun _ => 0) s.helm.otp w v } }

/-- Words `a` to `a + n - 1` as octets, four a word. -/
def State.otpOctets (s : State) (a n : Nat) : List Octet := octetsOfWords ((List.range n).map (fun i => s.otpWord (a + i)))

/-- The number of anti-rollback bits of image type t, 1-4 (R435). -/
def State.arb (s : State) (t : Nat) : Nat :=
  popcount (s.otpWord (0x081 + 2 * (t - 1)) &&& 0xFFFFFFFF#36) + popcount (s.otpWord (0x082 + 2 * (t - 1)) &&& 0xFFFFFFFF#36)

/-- One further bit of the field of type t: the lowest that is clear (the spec names no order of the bits). -/
def State.arbStep (s : State) (t : Nat) : State :=
  let a := 0x081 + 2 * (t - 1)
  match (List.range 64).find? (fun i => !bit (s.otpWord (a + i / 32)) (i % 32)) with
  | some i => s.setOtp (a + i / 32) (setBit (s.otpWord (a + i / 32)) (i % 32) true)
  | none => s

/-- The counter of type t advances to `n` (R430). -/
def State.arbCommit (s : State) (t n : Nat) : State := (List.range (n - s.arb t)).foldl (fun st _ => st.arbStep t) s

/-- HELM_ARB. -/
def State.helmArb (s : State) : Word := setFld (setFld (setFld (put 6 0 (s.arb 1)) 13 7 (s.arb 2)) 20 14 (s.arb 3)) 27 21 (s.arb 4)

/-- Some OTP word from `a` on, of n, is programmed. -/
def State.otpSet (s : State) (a n : Nat) : Bool := (List.range n).any (fun j => s.otpWord (a + j) != 0)

/-- The device secret is programmed. -/
def State.secretSet (s : State) : Bool := s.otpSet 0x0A0 8
/-- The password hash is not all zero. -/
def State.pwdSet (s : State) : Bool := s.otpSet 0x090 12

/-- HELM_STS once fuse load has ended. -/
def State.helmSts (s : State) : Word :=
  if !s.helm.loaded then 0
  else
    let w := setFld (put 35 33 s.helm.lc) 32 32 (match s.seq.session with | some x => if x.closing then 1 else 0 | none => 0)
    let w := setBit (setBit w 31 s.helm.prog.isSome) 30 (bit (s.otpWord 0x007) 0)
    let w := setFld w 29 22 0
    let w := setFld (setFld w 29 26 (fld (s.otpWord 0x080) 3 0)) 25 22 (fld (s.otpWord 0x080) 7 4)
    setBit (setBit w 21 s.pwdSet) 20 (s.helm.lc != 4 && s.secretSet)

/-- HELM_OTPw: words that Table 17.9 marks not readable read as zero. -/
def State.helmOtp (s : State) (w : Nat) : Word :=
  if !s.helm.loaded ∨ (0x090 ≤ w ∧ w ≤ 0x09B) ∨ (0x0A0 ≤ w ∧ w ≤ 0x0A7) then 0 else s.otpWord w

/-! ## Programming (R436) -/

/-- The lifecycle conditions of Table 17.10 for setting lifecycle bit i. -/
def State.lcBitOk (s : State) (i : Nat) : Bool :=
  let p := lcBits (s.otpWord 0)
  if i = 0 then s.otpSet 0x008 12 && s.otpSet 0x014 12 && s.otpSet 0x001 4
  else if i = 1 then p % 2 == 1 && s.secretSet
  else if i = 2 then p % 4 == 3 && bit (s.otpWord 0x080) 0
  else (p == 7 && s.dbg.level == 2) || p == 3

/-- The bits of SLOTS that a request may set: VALID with its slot; REVOKED never for the last slot that is VALID and not
REVOKED. -/
def State.slotsOk (s : State) (new full : Word) : Bool :=
  let owned := s.helm.lc == 3 && s.dbg.level == 2
  let live := fld full 3 0 &&& (15 - fld full 7 4)
  (List.range 36).all (fun i => !bit new i ||
    (if i = 0 then s.helm.lc == 2 else if i < 4 then owned else decide (i < 8) && owned && live != 0))

/-- Whether Table 17.9 permits setting the bits `d` in word w. -/
def State.otpAllowed (s : State) (w : Nat) (d : Word) : Bool :=
  let lc := s.helm.lc
  let owned := lc == 3 && s.dbg.level == 2
  let new := d &&& ~~~ (s.otpWord w)
  if w = 0 then (List.range 36).all (fun i => !bit new i || (decide (i < 12) && s.lcBitOk (i % 4)))
  else if w ≤ 0x006 then lc == 0
  else if w = 0x007 then decide (lc ≤ 1)
  else if w ≤ 0x01F then lc == 0
  else if w ≤ 0x037 then lc == 2
  else if w ≤ 0x07F then owned
  else if w = 0x080 then s.slotsOk new (s.otpWord w ||| d)
  else if 0x090 ≤ w ∧ w ≤ 0x09B then (lc == 2 || owned) && s.otpWord w == 0
  else if 0x0C0 ≤ w ∧ w ≤ 0x3FF then decide (lc ≤ 1)
  else false

/-- A master whose requests Helm may accept: the SVE in ring 0, or the debug domain at full level. -/
def State.otpMaster (s : State) (m : Master) : Bool :=
  match m with
  | .sve r0 => r0
  | .debug => s.dbg.level == 2
  | .engine _ _ => false

/-- A write to HELM_OTPCTL. GO is ignored while STS is 1. OP 2 names no word: it fills the device secret, words 0x0A0 on. -/
def State.otpCtlWrite (s : State) (m : Master) (w : Word) : State :=
  let r := Reg.HELM_OTPCTL
  let busy := s.getF r F.HELM_OTPCTL_STS == 1
  let s := s.setReg r (applyWrite (Reg.fields r) false (s.reg r) w)
  let op := fld w 34 33
  if !bit w 35 || busy || op == 0 || op == 3 then s
  else
    let a := fld w 9 0
    let d := s.reg .HELM_OTPDATA
    let ok := s.otpMaster m && (if op = 1 then s.otpAllowed a d else s.helm.lc == 1)
    if ok then
      { s.setF r F.HELM_OTPCTL_STS 1 with helm := { s.helm with prog := some (if op = 1 then (a, d) else (0x0A0, 0)) } }
    else s.setF r F.HELM_OTPCTL_STS 3

/-- The device secret: 256 bits of Helm's random bit generator, four octets a word. -/
def State.fillSecret (s : State) : State :=
  (List.range 8).foldl (fun st i => let (v, st) := st.drawNat 32; st.setOtp (0x0A0 + i) (st.otpWord (0x0A0 + i) ||| BitVec.ofNat 36 v)) s

/-- A program completes. One that a supply leaving its range interrupted leaves its words undefined (R499). -/
def State.otpDone (s : State) (ok : Bool) : State :=
  match s.helm.prog with
  | none => s
  | some (w, d) =>
    let s := { s with helm := { s.helm with prog := none } }
    let s := s.setF .HELM_OTPCTL F.HELM_OTPCTL_STS 2
    if !ok then s.otpUndef w
    else if w = 0x0A0 then s.fillSecret
    else s.setOtp w (s.otpWord w ||| d)

def execOtpProgram (m : Master) (w : Word) (s : State) : Out := .next (s.otpCtlWrite m (setFld (setBit w 35 true) 34 33 1))
def execOtpGenerateSecret (m : Master) (w : Word) (s : State) : Out := .next (s.otpCtlWrite m (setFld (setBit w 35 true) 34 33 2))
def execOtpProgramDone (ok : Bool) (s : State) : Out := .next (s.otpDone ok)

/-! ## The debug level (R440-R444) -/

/-- The nonce goes, and with it a partial response. -/
def State.dropNonce (s : State) : State := { s with dbg := { s.dbg with nonce := none, resp := [], respTotal := 0 } }

/-- The debug level takes a value. What the supervisor watchdog has counted before level 2, at which a halt of the SVE can freeze it, stands (R470). -/
def State.setLevel (s : State) (n : Nat) : State :=
  let s := if n = 2 then s.swdtCatch else s
  { s with dbg := { s.dbg with level := n } }

/-- What a fuse load that reports lifecycle lc does to the debug domain (R440). -/
def State.levelAtFuse (s : State) (lc : Nat) : State :=
  let s' := { s with dbg := { s.dbg with recLc := lc } }
  if lc = 3 then (if s.dbg.recLc = 3 then s' else (s'.setLevel 0).dropNonce)
  else if lc = 7 then s'.setLevel 0
  else s'.setLevel 2

/-- UNLOCK_PASSWORD: the status of its reply. -/
def State.unlockPassword (s : State) (pw : List Octet) : Nat × State :=
  if s.helm.lc ≠ 3 then (stOK, s)
  else if 5 ≤ s.dbg.pwFail then (stAUTH, s)
  else if s.pwdSet ∧ sha384 pw = s.otpOctets 0x090 12 then (stOK, if s.dbg.level = 0 then s.setLevel 1 else s)
  else (stAUTH, { s with dbg := { s.dbg with pwFail := s.dbg.pwFail + 1 } })

/-- UNLOCK_CHALLENGE: a fresh nonce of 48 octets, a free value. -/
def State.unlockChallenge (s : State) : List Octet × State :=
  let n := (List.range 48).map (fun i => Config.freeOctet s.fresh i)
  (n, { s with fresh := s.fresh + 1, dbg := { s.dbg with nonce := some n, resp := [], respTotal := 0 } })

/-- L of Table 17.4 for an LMS type and an LMOTS type. -/
def lmsLen (lms ots : Nat) : Option Nat :=
  if lms = 7 ∧ ots = 3 then some 2668 else if lms = 7 ∧ ots = 4 then some 1612
  else if lms = 8 ∧ ots = 3 then some 2828 else if lms = 8 ∧ ots = 4 then some 1772 else none

/-- The LMS and LMOTS types inside an LMS signature equal those of its key (RFC 8554: the LMOTS type after q, the LMS type
after the LMOTS signature of 4 + 32 + 32 p octets, p 67 for W4 and 34 for W8). -/
def lmsTypesAgree (key sig : List Octet) : Bool :=
  let ots := be32 key 4
  let off := 4 + 36 + 32 * (if ots = 3 then 67 else 34)
  be32 sig 4 == ots && be32 sig off == be32 key 0

/-- Slot j is VALID and not REVOKED. -/
def State.slotOk (s : State) (j : Nat) : Bool := bit (s.otpWord 0x080) j && !bit (s.otpWord 0x080) (4 + j)

/-- Both public keys hash to the key hashes held from OTP word `a` on. -/
def State.keysMatch (s : State) (a : Nat) (ec lms : List Octet) : Bool :=
  sha384 ec == s.otpOctets a 12 && sha384 lms == s.otpOctets (a + 12) 12

/-- DEVICE_ID, 16 octets. -/
def State.deviceId (s : State) : List Octet := s.otpOctets 0x001 4

/-- Whether a complete response string verifies under the nonce (R443, Table 17.12). -/
def State.responseOk (s : State) (nonce r : List Octet) : Bool :=
  let slot := (r.getD 0 0).toNat
  let ec := (r.drop 4).take 96
  let ecSig := (r.drop 100).take 96
  let key := (r.drop 196).take 56
  let sig := r.drop 252
  let e := sha384 (nonce ++ s.deviceId)
  decide (slot ≤ 3) && (r.drop 1).take 3 == [0, 0, 0] && lmsLen (be32 key 0) (be32 key 4) == some sig.length && s.slotOk slot &&
    s.keysMatch (0x020 + 24 * slot) ec key && ecdsaKeyOk ec && lmsTypesAgree key sig && ecdsaVerify ec e ecSig &&
    lmsVerify key e sig

/-- UNLOCK_RESPONSE: one part (R418, R442, R443). -/
def State.unlockResponse (s : State) (total off : Nat) (part : List Octet) : Nat × State :=
  if s.helm.lc ≠ 3 then (stOK, s)
  else match s.dbg.nonce with
  | none => (stAUTH, s)
  | some n =>
    if off ≠ s.dbg.resp.length ∨ (0 < off ∧ total ≠ s.dbg.respTotal) then
      (stAUTH, { s with dbg := { s.dbg with resp := [], respTotal := 0 } })
    else
      let r := s.dbg.resp ++ part
      if r.length < total then (stOK, { s with dbg := { s.dbg with resp := r, respTotal := total } })
      else
        let ok := s.responseOk n r
        let s := s.dropNonce
        if ok then (stOK, s.setLevel 2) else (stAUTH, s)

/-- LOCK (R444). -/
def State.lockDebug (s : State) : State := if s.helm.lc = 3 then (s.setLevel 0).dropNonce else s

def execNonceExpire (s : State) : Out := .next s.dropNonce

/-- DBG_LEVEL. -/
def State.dbgLevel (s : State) : Word := setFld (setFld (put 1 0 s.dbg.level) 4 2 s.dbg.pwFail) 5 5 (if s.dbg.nonce.isSome then 1 else 0)

/-! ## Attestation (R438, R439) -/

/-- A measurement: 48 octets, zero when no image of its kind is in force. -/
def State.measOf (s : State) (k : Nat) : List Octet :=
  match SMap.get (fun _ => []) s.helm.meas k with
  | [] => List.replicate 48 0
  | m => m

/-- An octet string of 4 n octets as n words. -/
def wordsN (n : Nat) (os : List Octet) : List Word := (List.range n).map (fun i => BitVec.ofNat 36 (octetsVal ((os.drop (4 * i)).take 4)))

/-- Words W0-W134 of Table 17.11. -/
def State.evidence (s : State) (nonce : List Word) : List Word :=
  [setFld (setFld (setFld (put 35 27 1) 26 18 s.devState) 10 8 s.helm.lc) 6 5 s.dbg.level] ++
  (List.range 4).map (fun i => s.otpWord (1 + i)) ++ nonce ++ (List.range 9).flatMap (fun k => wordsN 12 (s.measOf k)) ++
  (List.range 9).map (fun k => put 6 0 (SMap.get (fun _ => 0) s.helm.svn k)) ++ [s.helmArb]

/-- The private identity key that fuse load derives from the device secret (R438, FIPS 186-5 A.2.1). -/
def State.deriveKey (s : State) : Nat := beVal (kdf448 (s.otpOctets 0x0A0 8) s.deviceId) % (p384N - 1) + 1

/-- The evidence with its signature by the identity key; the per-message secret number of the signature is a free value. -/
def State.attest (s : State) (nonce : List Word) : List Word × State :=
  let ws := s.evidence nonce
  let p := s.drawNat 384
  (ws ++ wordsN 24 (ecdsaSign (s.helm.idKey.getD 0) (p.1 % (p384N - 1) + 1) (sha384 (packWords ws))), p.2)

end Sys2Proof.Machine
end

