-- ==== Sys2Proof/Machine/Mailbox.lean ====
section
/-! DEFINITION. The firmware mailbox (R413, R419, R420, R519). -/

namespace Sys2Proof.Machine

/-- The sequencer hands a firmware command over (steps 1 and 2 of R419): its header and parameter words, CMD and TAG. The
reply that Table 16.7 gives it stands in `f`. Words of a LOAD_END under verification that firmware has not read stay before them. -/
def State.handOver (s : State) (f : FwCmd) (hdr : Word) (ws : List Word) : State :=
  let s := s.setReg .HOST_MBX_STS (setFld (setBit (s.reg .HOST_MBX_STS) 35 true) 23 15 f.tag.toNat)
  let old := if s.seq.fw.isSome then s.seq.mbx else []
  { s with seq := { s.seq with fw := some f, timedOut := false, mbx := old ++ hdr :: ws, mbxReply := [] } }

/-- A read of HOST_MBX_DATA removes the next command word; 0 when there is none. -/
def State.mbxPop (s : State) : Word × State :=
  match s.seq.mbx with
  | [] => (0, s)
  | w :: l => (w, { s with seq := { s.seq with mbx := l } })

/-- A write to HOST_MBX_REPLY: words beyond 511 are ignored. -/
def State.mbxAppend (s : State) (w : Word) : State :=
  if s.seq.mbxReply.length < 511 then { s with seq := { s.seq with mbxReply := s.seq.mbxReply ++ [w] } } else s

/-- READY = 1: HOST_STATE.SUP sets. -/
def State.supReady (s : State) : State := s.setB .HOST_STATE F.HOST_STATE_SUP true

/-- SEND = 1 (steps 5 and 6 of R419): a LEN that differs from the words appended is ignored with ERR; after a timeout the reply
is discarded with LATE; with neither there is no reply to send, and ERR sets (notes/assumptions/8.md). Two replies wait after their
SEND: that of a STOP_SECTION is queued at its boundary (R489), and that of a LOAD_END when verification ends, with the status and words
of its outcome (R418; notes/assumptions/50.md). -/
def State.mbxSend (s : State) (status len : Nat) : State :=
  match s.seq.fw with
  | some f =>
    if s.seq.mbxReply.length ≠ len then s.setB .HOST_MBX_STS F.HOST_MBX_STS_ERR true
    else if s.stopWaits then
      s.clearMailbox.modSeq (fun q => { q with stopReplies := q.stopReplies ++ [{ f with status := status, words := s.seq.mbxReply }] })
    else if f.opcode = 0x022 then s.clearMailbox
    else s.clearMailbox.reply status f.tag f.noibi s.seq.mbxReply
  | none =>
    if s.seq.timedOut then { s.setB .HOST_MBX_STS F.HOST_MBX_STS_LATE true with seq := { s.seq with mbxReply := [] } }
    else s.setB .HOST_MBX_STS F.HOST_MBX_STS_ERR true

/-- A write to HOST_MBX_RCTL. -/
def State.mbxRctl (s : State) (w : Word) : State :=
  let s := s.setReg .HOST_MBX_RCTL (applyWrite (Reg.fields .HOST_MBX_RCTL) false (s.reg .HOST_MBX_RCTL) w)
  let s := if bit w 16 then s.supReady else s
  if bit w 35 then s.mbxSend (fld w 34 26) (fld w 25 17) else s

def execMbxDataRead (s : State) : Out := .next s.mbxPop.2
def execMbxReplyAppend (w : Word) (s : State) : Out := .next (s.mbxAppend w)
def execMailboxSend (w : Word) (s : State) : Out := .next (s.mbxRctl (setBit w 35 true))
def execSupervisorReady (s : State) : Out := .next (s.mbxRctl (setBit (setBit (s.reg .HOST_MBX_RCTL) 16 true) 35 false))
def execMailboxTimeout (s : State) : Out := .next s.timeoutFirmware

end Sys2Proof.Machine
end

