-- ==== Sys2Proof/Machine/RegBus.lean ====
section
/-! DEFINITION. Register accesses over the peripheral bus (R8-R12, R33, R34): what a read of a register returns and removes,
and what a write does. One dispatcher for every master: the commands of the table that are register accesses call the same
operations. -/

namespace Sys2Proof.Machine

/-! ## Reads -/

/-- DBG_ESTSn with its computed bits. -/
def State.dbgEsts (s : State) (n : Nat) : Word :=
  let x := s.engine n
  let w := setBit (setBit (s.reg (.DBG_ESTS n)) 35 x.halted) 34 x.haltReq.isSome
  setBit (setBit w 33 x.locked) 32 (decide (n < 192) && s.gated (sectOf n))

/-- HOST_I3C shows the always-on state of R402 and the pins. -/
def State.hostI3c (s : State) : Word :=
  let w := match s.seq.da with | some a => setFld (setBit 0 15 true) 14 8 a.toNat | none => 0
  setFld (setBit w 7 s.seq.ibiEn) 1 0 s.pins.addrSel.toNat

/-- LNn_PRBS_ERR: LOCK, and the errors since the last read. -/
def State.prbsErr (s : State) (n : Nat) : Word × State := let s := s.prbsCatch n; (s.reg (.LN_PRBS_ERR n), s)

/-- A channel's words shown through GLV_TSEL. -/
def State.glvSel (s : State) : Nat := s.getF .GLV_TSEL F.GLV_TSEL_CH

/-- The present word of a register before its access types apply: stored, or computed from the state it shows. -/
def State.present (s : State) (r : Reg) : Word × State :=
  let w := s.reg r
  match r with
  | .QM_STS => (setFld w 8 0 s.qmEvts.length, s)
  | .QM_OCC => let x := s.q (fld w 15 0); (setFld (setFld w 28 21 x.drops) 20 16 x.occ, s)
  | .GLV_CTL => (setBit w 2 (s.devState == 6), s)
  | .GLV_STS => (setFld w 17 9 s.glvEvts.length, s)
  | .GLV_TSEL => let x := s.ch s.glvSel; (setFld (setBit w 35 x.lgValid) 34 31 x.lgMode.toNat, s)
  | .GLV_TW k => s.glvReadWord s.glvSel k
  | .GLV_LAST => ((s.ch s.glvSel).lgSetp, s)
  | .GLV_STATE => s.glvReadWord s.glvSel 7
  | .LN_PRBS_ERR n => s.prbsErr n
  | .LN_MSG_RXS n => (setFld w 9 0 (s.ln n).rxBuf.length, s)
  | .EXPK_STS k => (setFld w 6 0 (s.sv k).cap.length, s)
  | .BEAT_FMIN_SCHED => (setFld w 10 0 s.fminSched, s)
  | .HOST_I3C => (s.hostI3c, s)
  | .HOST_MBX_STS => (setFld w 9 0 s.seq.mbx.length, s)
  | .HELM_STS => (s.helmSts, s)
  | .HELM_ARB => (s.helmArb, s)
  | .HELM_OTP k => (s.helmOtp k, s)
  | .DBG_LEVEL => (s.dbgLevel, s)
  | .DBG_ESTS n => (s.dbgEsts n, s)
  | .HLTH_STS => (setFld w 8 0 s.health.evts.length, s)
  | .HLTH_SWDT => let s := s.swdtCatch; (s.reg .HLTH_SWDT, s)
  | _ => (w, s)

/-- The pop ports: a read removes the oldest item; under peek nothing is removed (R10, R420). -/
def State.popPort (s : State) (peek : Bool) (r : Reg) : Option (Word × State) :=
  let keep := fun (p : Word × State) => if peek then (p.1, s) else p
  match r with
  | .QM_EVT => some (keep s.qmEvtPop)
  | .GLV_EVT => some (keep s.glvEvtPop)
  | .HLTH_EVT => some (keep s.hlthEvtPop)
  | .LN_MSG_RX n => some (keep (s.msgRxPop n))
  | .HOST_MBX_DATA => some (if peek then (0, s) else s.mbxPop)
  | _ => none

/-- A read of a register: its word with WO fields and reserved bits zero; RC fields are cleared unless the read peeks. -/
def State.readReg (s : State) (peek : Bool) (r : Reg) : Word × State :=
  match s.popPort peek r with
  | some p => p
  | none =>
    let (w, s) := s.present r
    (readMask r.fields w, if peek || r.fields.all (fun f => f.acc != .rc) then s else s.setReg r (readClear r.fields (s.reg r)))

/-- A word read at a byte address of the register space (R34). -/
def State.regRead (s : State) (_m : Master) (peek : Bool) (a : Nat) : Word × State :=
  match Reg.ofAddr a with
  | some r => s.readReg peek r
  | none => (0, s)

/-! ## Writes -/

/-- The write of a register that no operation belongs to: its access types alone. -/
def State.plainWrite (s : State) (r : Reg) (w : Word) : State := s.setReg r (applyWrite r.fields false (s.reg r) w)

/-- The word with a field taken from the register's present word. -/
def State.keepField (s : State) (r : Reg) (f : Nat × Nat) (w : Word) : Word := setFld w f.1 f.2 (s.getF r f)

/-- A write that a running section ignores (R73, R170, R294, SECs_CFG, SECs_XQ_MAX). -/
def State.unlessRunning (s : State) (k : Nat) (r : Reg) (w : Word) : State := if s.running k then s else s.plainWrite r w

/-- DBG_GONGg: the sources, FIRED and FIRE. -/
def State.gongWrite (s : State) (m : Master) (g : Nat) (w : Word) : State :=
  if !dbgEntryOk m 0 then s
  else
    let s := s.plainWrite (.DBG_GONG g) w
    if bit w 35 then s.fireGong g else s

/-- DBG_ECTLn: a halt request (cause 1), then a resume. -/
def State.ectlWrite (s : State) (m : Master) (n : Nat) (w : Word) : State :=
  if !dbgEntryOk m n then s
  else
    let s := s.plainWrite (.DBG_ECTL n) w
    let s := if bit w 35 then s.requestHalt n 1 0 else s
    if bit w 34 then s.resumeEngine n else s

/-- A comparator's control word; an ACT of 3 is ignored. -/
def State.cmpCtlWrite (s : State) (m : Master) (n : Nat) (r : Reg) (w : Word) : State :=
  if !dbgEntryOk m n then s
  else s.plainWrite r (if fld w 34 33 = 3 then s.keepField r (34, 33) w else w)

/-- What a write does to a register. A field whose written value its table calls out of range keeps its value. -/
def State.writeReg (s : State) (m : Master) (r : Reg) (w : Word) : State :=
  match r with
  | .BEAT_CTL => s.beatCtlWrite w
  | .BEAT_PERIOD => s.beatPeriodWrite w
  | .SEC_FRAME k => s.unlessRunning k r w
  | .SEC_BUDGET k => s.unlessRunning k r w
  | .SEC_ENTRY k => s.unlessRunning k r w
  | .SEC_MODE k => s.unlessRunning k r w
  | .SEC_CFG k => s.unlessRunning k r w
  | .SEC_XQ_MAX k => s.unlessRunning k r w
  | .SEC_STALL_LIMIT _ => if fld w 9 0 = 0 then s else s.plainWrite r w
  | .SEC_DBELL k => s.doorbell k w
  | .SEC_DCINV k => s.dcacheInv k w
  | .SEC_SEM k c j => s.semWrite m k c j w
  | .SEC_DMA_POST k c x => s.dmaPost m (8 * k + c) x w
  | .SEC_FENCE k => s.fenceGo k w
  | .SEC_PWR k => if bit w 35 then s.sectGate m k else s.sectRestore m k
  | .PRGN_BASE o _ => if o = 6 then (if m = .sve true then s.plainWrite r w else s) else s.unlessRunning o r w
  | .PRGN_ATTR o _ => if o = 6 then (if m = .sve true then s.plainWrite r w else s) else s.unlessRunning o r w
  | .QM_THR => s.plainWrite r (if 1 ≤ fld w 12 8 ∧ fld w 12 8 ≤ 16 then w else s.keepField r F.QM_THR_REC_HIGH w)
  | .QM_PUSH => (match m with | .engine _ _ => s | _ => s.qmPushWrite w)
  | .QM_HOFF => if bit w 35 then s.handoffArm w else s.handoffCancel w
  | .QM_HOFF_BEAT => if s.getF .QM_HOFF F.QM_HOFF_STS = 1 then s else s.plainWrite r w
  | .GLV_TW k => s.glvTighten k w
  | .GLV_CMD => s.glvCmdWrite w
  | .LN_CTL n => s.laneCtlWrite n w
  | .LN_TEST n => s.laneTestWrite n w
  | .LN_MSG_TX n => s.msgTxAppend n w
  | .LN_MSG_TXC n => s.msgTxcWrite n w
  | .EXPK_CFG _ =>
    s.plainWrite r (if 1024 ≤ fld w 27 14 ∧ fld w 27 14 ≤ 9216 then w else s.keepField r F.EXPK_CFG_MAXFR w)
  | .CKU_CTL u => s.ckuCtlWrite u w
  | .CKU_ADDR u => if s.getB (.CKU_STS u) F.CKU_STS_BUSY then s else s.plainWrite r w
  | .CKU_LEN u => if s.getB (.CKU_STS u) F.CKU_STS_BUSY then s else s.plainWrite r w
  | .CKU_EXP u => if s.getB (.CKU_STS u) F.CKU_STS_BUSY then s else s.plainWrite r w
  | .CKU_STS u => s.ckuStsWrite u w
  | .MARCH_CTL => s.marchCtlWrite w
  | .HOST_MBX_REPLY => s.mbxAppend w
  | .HOST_MBX_RCTL => s.mbxRctl w
  | .HELM_OTPCTL => s.otpCtlWrite m w
  | .DBG_CTL => if m = .debug then s.swdtCatch.plainWrite r w else s
  | .DBG_GONG g => s.gongWrite m g w
  | .DBG_ECTL n => s.ectlWrite m n w
  | .DBG_BCTL n _ => s.cmpCtlWrite m n r w
  | .DBG_WCTL n _ => s.cmpCtlWrite m n r w
  | .HLTH_CLK => s.nomWrite w
  | .HLTH_SWDT => s.swdtWrite w
  | _ => s.plainWrite r w

/-- A word written at a byte address of the register space (R34). -/
def State.regWrite (s : State) (m : Master) (a : Nat) (w : Word) : State :=
  match Reg.ofAddr a with
  | some r => s.writeReg m r w
  | none => s

/-- REGISTER_WRITE (R8). -/
def execRegisterWrite (m : Master) (a : Word) (w : Word) (s : State) : Out := .next (s.regWrite m a.toNat w)

def execGongFire (m : Master) (g : Fin 8) (s : State) : Out := .next (s.gongWrite m g (setBit (setBit (s.reg (.DBG_GONG g)) 35 true) 34 false))
def execGongDelivery (g : Fin 8) (s : State) : Out := .next (s.gongDeliver g)
def execHaltRequest (m : Master) (n : EngId) (s : State) : Out := .next (s.ectlWrite m n (setBit (setBit (s.reg (.DBG_ECTL n)) 35 true) 34 false))
def execResume (m : Master) (n : EngId) (s : State) : Out := .next (s.ectlWrite m n (setBit (setBit (s.reg (.DBG_ECTL n)) 35 false) 34 true))

end Sys2Proof.Machine
end

