-- ==== Sys2Proof/Machine/Data.lean ====
section
/-! DEFINITION. Data accesses by canonical address: memory, device registers and the Glove window alike; the data caches
(R286, R287). -/

namespace Sys2Proof.Machine

/-! ## The Glove table window (R32, R107, R129) -/

/-- A read of a window word compares both copies first (R32, R132). -/
def State.glvWindowRead (s : State) (off : Nat) : Word × State :=
  s.glvReadWord (off / 32) (off % 32 / 4)

/-- The words from a window word on. -/
def State.glvWindowWords (s : State) (off : Nat) : Nat → List Word × State
  | 0 => ([], s)
  | n + 1 =>
    let (w, s) := s.glvWindowRead (off % 0x100000)
    let (ws, s) := s.glvWindowWords (off + 4) n
    (w :: ws, s)

/-- A window write changes both copies; OWNER is changed only by the device (R106) and W7 only by the Glove (R107). An entry that fails
the comparison takes none: only a limits image repairs it (R132), and one that a march run holds takes none (R396). The model's choice
(notes/assumptions/49.md): the reserved action code 3 and the reserved bit 20 of W6 are stored as written; code 3 then acts as OPEN. -/
def State.glvWindowWrite (s : State) (off : Nat) (w : Word) : State :=
  let k := off % 32 / 4
  if s.march.boot then s
  else
  let (s, ok) := s.glvCompare (off / 32)
  if k = 7 || !ok then s
  else s.modCh (off / 32) (fun x =>
    x.modEntry (fun g => g.setWordK k (if k = 6 then setFld w 19 12 g.owner else w)))

/-! ## By canonical address -/

/-- The bytes that a read of n bytes at a canonical address obtains. A device register is read as a whole word, with the
effects of its access types. -/
def State.readCanon (s : State) (m : Master) (ca n : Nat) : List Byte9 × State :=
  match globalLoc ca with
  | some (.dev a) => let (w, s) := s.regRead m false a; ((List.range n).map (fun j => byteOf w ((ca + j) % 4)), s)
  | some (.glv off) =>
    let (ws, s) := s.glvWindowWords (off / 4 * 4) ((off + n - 1) / 4 + 1 - off / 4)
    ((List.range n).map (fun j => byteOf (ws.getD ((off + j) / 4 - off / 4) 0) ((off + j) % 4)), s)
  | _ => (s.bytes ca n, s)

/-- The store of bytes at a canonical address. GLV_CTL.LOCK is judged as a window store is issued, so that one issued before LOCK sets
still changes the entry when it is performed: the model's choice (notes/assumptions/49.md). -/
def State.writeCanon (s : State) (m : Master) (ca : Nat) (bs : List Byte9) : State :=
  match globalLoc ca with
  | some (.dev a) => s.regWrite m a (wordOfBytes bs)
  | some (.glv off) =>
    (List.range bs.length).foldl (fun st j =>
      let o := (off + j) % 0x100000
      st.glvWindowWrite o (setByteOf ((st.ch (o / 32)).g0.word (o % 32 / 4)) (o % 4) (bs.getD j 0))) s
  | _ => s.storeBytes ca bs

/-! ## Memories, semaphores and DMA ports in a stall (R18) -/

/-- The section of canonical address ca stands still. -/
def State.memStalled (s : State) (ca : Nat) : Bool := match (memOf ca).bind MemId.sect with | some k => s.stalled k | none => false

/-- The section whose clock serves canonical address ca: a memory of the section, a semaphore, a DMA post register. -/
def portSect (ca : Nat) : Option Nat :=
  match globalLoc ca with
  | some (.dev a) => (match Reg.ofAddr a with
      | some (.SEC_SEM k _ _) => some k
      | some (.SEC_DMA_POST k _ _) => some k
      | _ => none)
  | _ => (memOf ca).bind MemId.sect

/-- An access of engine e to canonical address ca must wait: another section, which serves it, stands still. Whether the engine's own
section does is for State.advances. -/
def State.portHeld (s : State) (e ca : Nat) : Bool :=
  match portSect ca with
  | some k => !(decide (e < 192) && k == sectOf e) && s.stalled k
  | none => false

/-- An access of engine e to canonical address ca waits for the end of a stall of the section that serves it, which does not await the
access itself (R18, R150). -/
def State.portStalled (s : State) (e ca : Nat) (awaited : Engine → Bool) : Bool :=
  s.portHeld e ca || (decide (e < 192) && portSect ca == some (sectOf e) && !s.advances e awaited)

/-! ## Data cache -/

/-- The line that holds canonical byte address ca, if either way of its set has it. -/
def Engine.dLine (x : Engine) (ca : Nat) : Option CacheLine :=
  let k := (ca / 32 % 64) * 2
  match SMap.get (fun _ => none) x.dcache k, SMap.get (fun _ => none) x.dcache (k + 1) with
  | some l, r => if l.base = ca / 32 * 32 then some l else r.filter (fun l => l.base == ca / 32 * 32)
  | none, r => r.filter (fun l => l.base == ca / 32 * 32)

/-- n bytes from the cache, when every line they need is present. -/
def Engine.dBytes (x : Engine) (ca n : Nat) : Option (List Byte9) :=
  (List.range n).foldr (fun j acc =>
    match acc, x.dLine (ca + j) with
    | some bs, some l => some (byteOf (l.words.getD ((ca + j) % 32 / 4) 0) ((ca + j) % 4) :: bs)
    | _, _ => none) (some [])

/-- A store updates the lines it hits (write-through, R286). -/
def CacheLine.store (l : CacheLine) (ca : Nat) (bs : List Byte9) : CacheLine :=
  { l with words := (List.range 8).map (fun i =>
      (List.range 4).foldl (fun w j =>
        let b := l.base + 4 * i + j
        if ca ≤ b ∧ b < ca + bs.length then setByteOf w j (bs.getD (b - ca) 0) else w) (l.words.getD i 0)) }

def Engine.dStore (x : Engine) (ca : Nat) (bs : List Byte9) : Engine :=
  { x with dcache := SMap.update (fun _ => none) (fun _ l => l.map (fun c => c.store ca bs)) x.dcache }

end Sys2Proof.Machine
end

