-- ==== Sys2Proof/Machine/Lsu.lean ====
section
/-! DEFINITION. The commands of the load-store units and of the store paths (R142, R159-R162, R166-R169, R187, R188,
R212-R216, R278, R284-R290, R305-R312). Unit u = 0, 1 has its sockets 0x40 apart. -/

namespace Sys2Proof.Machine

/-- Who accesses device registers for engine e in a ring. -/
def masterOf (e ring : Nat) : Master := if h : e < 192 then .engine ⟨e, h⟩ (Fin.ofNat 4 ring) else .sve (ring == 0)

def lsuUnit (u : Nat) : Nat := uLsu0 + u

/-! ## Stores -/

/-- The bytes that a store of the given size writes: st2 writes o, then o2. -/
def Engine.storeData (x : Engine) (u size : Nat) : List Byte9 :=
  let o := x.port (0x180 + 0x40 * u)
  let o2 := x.port (0x181 + 0x40 * u)
  ((List.range 4).map (byteOf o) ++ (List.range 4).map (byteOf o2)).take size

/-- The entries of one store enter the store buffer, or wait when it has no room for all of them (R159, R284). -/
def Engine.sbPush (x : Engine) (l : List SbEntry) : Engine :=
  if x.sb.length + l.length ≤ 8 ∧ x.sbWait = [] then { x with sb := x.sb ++ l } else { x with sbWait := x.sbWait ++ l }

/-- An I-cache drops the lines that hold any byte from ca to ca + n - 1. -/
def Engine.iDrop (x : Engine) (ca n : Nat) : Engine :=
  { x with icache := SMap.update (fun _ => none) (fun _ l => l.filter (fun c => !overlaps c.base 32 ca n)) x.icache }

/-- A permitted code store (R167): memory is written at once, matching lines of the engine's own I-cache go. -/
def State.codeStore (s : State) (e ca : Nat) (bs : List Byte9) : State :=
  (s.storeBytes ca bs).modEngine e (fun x => (x.iDrop ca bs.length).dStore ca bs)

/-- The parts of an access (R278): one, or two when the bytes lie in two aligned double words. -/
def partsOf (a : Nat) (bs : List Byte9) : List (Nat × List Byte9) :=
  let n := 8 - a % 8
  if bs.length ≤ n then [(a, bs)] else [(a, bs.take n), (a + n, bs.drop n)]

/-- Where an access of n bytes at a lies in two aligned double words, the length of its first part (R278). -/
def splitAt (a n : Nat) : Option Nat := if n ≤ 8 - a % 8 then none else some (8 - a % 8)

/-- The store-buffer entries of a store, one per part. -/
def Engine.sbEntries (x : Engine) (ca : Nat) (bs : List Byte9) (post glob : Bool) : List SbEntry :=
  let ps := partsOf ca bs
  (ps.zip (List.range ps.length)).map (fun p =>
    { addr := p.1.1, bytes := p.1.2, post := post, glob := glob, seq := x.seqNo + p.2, ring := x.ring.toNat, split := decide (ps.length ≠ 1) })

/-- A store of `size` bytes at byte address a. One that finds the store buffer full begins a wait (R150). -/
def storeOp (size u : Nat) (s : State) (e : Nat) (a : Word) : OpOut :=
  match s.accessRefused e a.toNat size true with
  | some (c, ea) => .trap (.code c ea)
  | none =>
    let x := s.engine e
    let bs := x.storeData u size
    let ca := canonOf e a.toNat
    if (List.range size).any (fun j => s.isCode e (a.toNat + j)) then .plain (s.codeStore e ca bs)
    else
      let l := x.sbEntries ca bs (s.isPost e a.toNat size) (globalPath a.toNat)
      let y := { x.sbPush l with seqNo := x.seqNo + l.length }
      let s := s.setEngine e y
      .plain (if x.sbWait.isEmpty && !y.sbWait.isEmpty then s.waitBegin e else s)

/-! ## Loads -/

/-- The store-buffer entries that hold any byte of an access, oldest first. -/
def Engine.sbHits (x : Engine) (ca n : Nat) : List SbEntry :=
  (x.sb ++ x.sbWait).filter (fun b => overlaps b.addr b.bytes.length ca n)

/-- A full match (R160): the youngest entry that holds any of the bytes holds all of them. -/
def Engine.sbForward (x : Engine) (ca n : Nat) : Option (List Byte9) :=
  match (x.sbHits ca n).getLast? with
  | some b => if b.addr ≤ ca ∧ ca + n ≤ b.addr + b.bytes.length then some ((b.bytes.drop (ca - b.addr)).take n) else none
  | none => none

/-- The section that a canonical address belongs to, if it is another than engine e's own: the access crosses sections. -/
def crossSect (e ca : Nat) : Option Nat :=
  if e < 192 then ((memOf ca).bind MemId.sect).filter (fun k => k != sectOf e) else none

/-- An access of engine e to canonical address ca sets out: its place among the accesses that cross to the same section (R312). -/
def State.crossOut (s : State) (e ca : Nat) : Nat × State :=
  match crossSect e ca with
  | some m => ((s.sect m).xqNo, s.modSect m (fun c => { c with xqNo := c.xqNo + 1 }))
  | none => (0, s)

/-- An access joins those in flight of its unit; one that the store buffer holds begins a wait (R150, R160). -/
def State.loadIssue (s : State) (e u : Nat) (l : Load) : State :=
  let x := s.engine e
  let (q, s) := if l.fwd.isNone then s.crossOut e l.addr else (0, s)
  let y := { x.setLoads u (x.loadsOf u ++ [{ l with xq := q }]) with seqNo := x.seqNo + 1 }
  let s := s.setEngine e y
  if !x.loadHeld && y.loadHeld then s.waitBegin e else s

/-- A load of `size` bytes. -/
def loadOp (size : Nat) (signed : Bool) (u : Nat) (s : State) (e : Nat) (a : Word) : OpOut :=
  match s.accessRefused e a.toNat size false with
  | some (c, ea) => .trap (.code c ea)
  | none =>
    let x := s.engine e
    let ca := canonOf e a.toNat
    let fw := x.sbForward ca size
    let cached := fw.isNone && (x.sbHits ca size).isEmpty && s.cacheable e a.toNat size
    let hit := if cached then x.dBytes ca size else none
    let miss := cached && hit.isNone
    let l : Load :=
      { addr := ca, iss := a.toNat, size := size, signed := signed, kind := 0, data := 0,
        fwd := if fw.isSome then fw else hit, miss := miss, trig := x.cyc, pc := x.pc, seq := x.seqNo, ring := x.ring.toNat,
        hit := hit.isSome, part1 := none }
    let s := if miss then s.modEngine e (fun x => x.countCsr e 0x147 1) else s
    .plain (s.loadIssue e u l) 2

/-- An older store of the engine to any byte of the load has not been performed (R160, R161). -/
def State.olderStore (s : State) (e : Nat) (l : Load) : Bool :=
  let x := s.engine e
  (x.sb ++ x.sbWait).any (fun b => decide (b.seq < l.seq) && overlaps b.addr b.bytes.length l.addr l.size) ||
  x.outStores.any (fun o => decide (o.seq < l.seq) && overlaps o.addr o.bytes.length l.addr l.size) ||
  (decide (e < 192) && (s.sect (sectOf e)).posts.any (fun p =>
    p.eng == e && decide (p.seq < l.seq) && overlaps p.addr p.bytes.length l.addr l.size))

/-! ## Atomics (R188, R212-R216): kind 1 tas, 2 lr, 3 sc -/

/-- Whether engine e has the form: tas, or lr and sc. -/
def State.atomicOffered (s : State) (e kind : Nat) : Bool :=
  e == 192 || (s.getF (.SEC_CFG (sectOf e)) F.SEC_CFG_ATOMIC == (if kind = 1 then 0 else 1))

/-- The store of a tas or sc is performed: memory, and the engine's own I-cache drops the line that holds the word (R167). -/
def State.atomicStore (s : State) (e ca : Nat) (data : Word) : State := (s.setWord ca data).modEngine e (fun x => x.iDrop ca 4)

/-- The access at the target, indivisible: the word returned in y. Every sc clears the reservation (R214), also one whose
write a march run drops (R396). -/
def State.atomicPerform (s : State) (e kind ca : Nat) (data : Word) : Word × State :=
  let w := s.word ca
  if kind = 1 then (w, if w = 0 then s.atomicStore e ca data else s)
  else if kind = 2 then (w, s.modEngine e (fun x => { x with resv := some (ca / 4) }))
  else
    let ok := (s.engine e).resv = some (ca / 4)
    let s := s.modEngine e (fun x => { x with resv := none })
    if ok then (0, s.atomicStore e ca data) else (1, s)

/-- An atomic that no earlier store of its engine to the word still has to follow, and whose memory is in no stall, is performed at once
(R161, R213); `l` is the access as triggered. -/
def State.atomicStart (s : State) (e kind ca : Nat) (data : Word) (l : Load) : Load × State :=
  if !s.olderStore e l && !s.isBad ca && !s.portHeld e ca then
    let (w, s) := (s.softRead ca (.engine e)).atomicPerform e kind ca data
    ({ l with fwd := some ((List.range 4).map (byteOf w)) }, s)
  else (l, s)

def atomicOp (kind u : Nat) (s : State) (e : Nat) (a : Word) : OpOut :=
  if !s.atomicOffered e kind then .trap (.code 0x01 0)
  else if !atomicRange e a.toNat then .trap (.code 0x03 a)
  else
    match (if kind = 3 then none else s.accessRefused e a.toNat 4 false).or
        (if kind = 2 then none else s.accessRefused e a.toNat 4 true) with
    | some (c, ea) => .trap (.code c ea)
    | none =>
      let x := s.engine e
      let ca := canonOf e a.toNat
      let data := x.port (0x180 + 0x40 * u)
      let l : Load :=
        { addr := ca, iss := a.toNat, size := 4, signed := false, kind := kind, data := data, fwd := none, miss := false,
          trig := x.cyc, pc := x.pc, seq := x.seqNo, ring := x.ring.toNat, hit := false, part1 := none }
      let (l, s) := s.atomicStart e kind ca data l
      .plain (s.loadIssue e u l) 2

/-! ## The forms in the order of their sockets, and post-increment (R187) -/

/-- Form i: ld, ldh, ldhu, ldb, ldbu, ld2, st, sth, stb, st2. -/
def lsuForm (i u : Nat) (s : State) (e : Nat) (a : Word) : OpOut :=
  match i with
  | 0 => loadOp 4 false u s e a
  | 1 => loadOp 2 true u s e a
  | 2 => loadOp 2 false u s e a
  | 3 => loadOp 1 true u s e a
  | 4 => loadOp 1 false u s e a
  | 5 => loadOp 8 false u s e a
  | 6 => storeOp 4 u s e a
  | 7 => storeOp 2 u s e a
  | 8 => storeOp 1 u s e a
  | _ => storeOp 8 u s e a

/-- The access of a local scratchpad address uses the scratchpad: a load or an atomic in the cycle in which its trigger
arrives, a store in the next, in which it drains (R159, R220, R279). -/
def OpOut.spad (o : OpOut) (e : Nat) (a : Word) (store : Bool) : OpOut :=
  match o with
  | .ok r => .ok (if a.toNat < 0x10000 then
      { r with st := r.st.modEngine e (fun x => { x with spadAcc := x.spadAcc ++ [x.cyc + (if store then 2 else 1)] }) } else r)
  | o => o

/-- Form i is a store. -/
def lsuStores (i : Nat) : Bool := decide (6 ≤ i)

/-- The post-increment form: the access at A[AREG] as it stands when the trigger arrives, then the new value, visible from
two cycles after the trigger was moved. -/
def lsuInc (i u : Nat) (s : State) (e : Nat) (t : Word) : OpOut :=
  if incBad t then .trap (.code 0x01 0)
  else
    let x := s.engine e
    let r := (incSpec t).2.2
    let a := (x.applyInc (x.cyc + 1)).aReg r
    match (lsuForm i u s e a).spad e a (lsuStores i) with
    | .ok o => .ok { o with st := o.st.modEngine e (fun y => { y with aInc := y.aInc ++ [(r, incValue t a, x.cyc + 2)] }) }
    | o => o

def lsuRow (i : Nat) (e : EngId) (u : Fin 2) (a : Word) (s : State) : Out :=
  .next (s.opRow e (lsuUnit u) ((lsuForm i u s e a).spad e a (lsuStores i)))
def lsuIncRow (i : Nat) (e : EngId) (u : Fin 2) (t : Word) (s : State) : Out :=
  .next (s.opRow e (lsuUnit u) (lsuInc i u s e t))
def atomicRow (kind : Nat) (e : EngId) (u : Fin 2) (a : Word) (s : State) : Out :=
  .next (s.opRow e (lsuUnit u) (atomicOp kind u s e a))

def execLd (e : EngId) (u : Fin 2) (a : Word) (s : State) : Out := lsuRow 0 e u a s
def execLdh (e : EngId) (u : Fin 2) (a : Word) (s : State) : Out := lsuRow 1 e u a s
def execLdhu (e : EngId) (u : Fin 2) (a : Word) (s : State) : Out := lsuRow 2 e u a s
def execLdb (e : EngId) (u : Fin 2) (a : Word) (s : State) : Out := lsuRow 3 e u a s
def execLdbu (e : EngId) (u : Fin 2) (a : Word) (s : State) : Out := lsuRow 4 e u a s
def execLd2 (e : EngId) (u : Fin 2) (a : Word) (s : State) : Out := lsuRow 5 e u a s
def execSt (e : EngId) (u : Fin 2) (a : Word) (s : State) : Out := lsuRow 6 e u a s
def execSth (e : EngId) (u : Fin 2) (a : Word) (s : State) : Out := lsuRow 7 e u a s
def execStb (e : EngId) (u : Fin 2) (a : Word) (s : State) : Out := lsuRow 8 e u a s
def execSt2 (e : EngId) (u : Fin 2) (a : Word) (s : State) : Out := lsuRow 9 e u a s
def execLdP (e : EngId) (u : Fin 2) (t : Word) (s : State) : Out := lsuIncRow 0 e u t s
def execLdhP (e : EngId) (u : Fin 2) (t : Word) (s : State) : Out := lsuIncRow 1 e u t s
def execLdhuP (e : EngId) (u : Fin 2) (t : Word) (s : State) : Out := lsuIncRow 2 e u t s
def execLdbP (e : EngId) (u : Fin 2) (t : Word) (s : State) : Out := lsuIncRow 3 e u t s
def execLdbuP (e : EngId) (u : Fin 2) (t : Word) (s : State) : Out := lsuIncRow 4 e u t s
def execLd2P (e : EngId) (u : Fin 2) (t : Word) (s : State) : Out := lsuIncRow 5 e u t s
def execStP (e : EngId) (u : Fin 2) (t : Word) (s : State) : Out := lsuIncRow 6 e u t s
def execSthP (e : EngId) (u : Fin 2) (t : Word) (s : State) : Out := lsuIncRow 7 e u t s
def execStbP (e : EngId) (u : Fin 2) (t : Word) (s : State) : Out := lsuIncRow 8 e u t s
def execSt2P (e : EngId) (u : Fin 2) (t : Word) (s : State) : Out := lsuIncRow 9 e u t s
def execTas (e : EngId) (u : Fin 2) (a : Word) (s : State) : Out := atomicRow 1 e u a s
def execLr (e : EngId) (u : Fin 2) (a : Word) (s : State) : Out := atomicRow 2 e u a s
def execSc (e : EngId) (u : Fin 2) (a : Word) (s : State) : Out := atomicRow 3 e u a s

/-! ## Completion of loads (R142, R160, R290) -/

/-- The value of a load in y: sign-extended or zero-extended. -/
def loadValue (l : Load) (bs : List Byte9) : Word :=
  let w := wordOfBytes (bs.take 4)
  if l.signed then wordOfInt (sext (9 * l.size) w.toNat) else w

/-- A load returns: the result ports of its unit take its data, ld2's second word in y2. -/
def Engine.loadReturn (x : Engine) (u i : Nat) (l : Load) (bs : List Byte9) : Engine :=
  let x := x.setLoads u ((x.loadsOf u).eraseIdx i)
  let x := x.setResult (0x184 + 0x40 * u) (loadValue l bs)
  let x := if l.size = 8 then x.setResult (0x185 + 0x40 * u) (wordOfBytes (bs.drop 4)) else x
  x.setDone (lsuUnit u) x.cyc

/-- The canonical address of the first word of an access that is uncorrectable. -/
def State.badWord (s : State) (ca n : Nat) : Option Nat :=
  ((List.range (n + 3)).map (fun j => (ca / 4 + j) * 4)).find? (fun k => decide (k < ca + n) && s.isBad k)

/-- What the check bits showed for the first word that a command reads. -/
def State.eccSeen (s : State) (ca : Nat) : Ecc → State
  | .clean => s
  | .corrected => s.markSoft (4 * (ca / 4))
  | .uncorrectable => s.markBad (4 * (ca / 4))

/-- A word of the data cache in which an error is found: its line goes, and the access is a miss (R286). -/
def Engine.dError (x : Engine) (u i : Nat) (l : Load) : Engine :=
  let x := { x with dcache := SMap.update (fun _ => none) (fun _ c => c.filter (fun c => c.base != l.addr / 32 * 32)) x.dcache }
  x.setLoads u ((x.loadsOf u).modify i (fun l => { l with fwd := none, hit := false, miss := true }))

/-- One part of a load is performed: its bytes, or the address of an uncorrectable word. A Glove copy in which the read finds one fails
its comparison (R132). -/
def State.loadPart (s : State) (e : Nat) (l : Load) (ca n : Nat) (ecc : Ecc) : Sum Nat (List Byte9) × State :=
  if (memOf ca).isNone then
    let s := match globalLoc ca, ecc with | some (.glv _), .uncorrectable => s.markBad ca | _, _ => s
    let (bs, s) := s.readCanon (masterOf e l.ring) ca n
    (.inr bs, s)
  else
    let s := (s.eccSeen ca ecc).softReads ca n (.engine e)
    match s.badWord ca n with
    | some k => (.inl k, s)
    | none => (.inr (s.bytes ca n), s)

/-- The bank writes back a corrected word in its next cycle with no other access (R288): its error is gone. -/
def execEccWriteback (k : Nat) (s : State) : Out :=
  .next (if s.memStalled (4 * k) then s else { s with eccSoft := SMap.set (fun _ => false) s.eccSoft k false })

/-! ## The store paths -/

/-- The write of a store entry at its target: memory, a register, the Glove window; the engine's own data cache follows. -/
def State.performStore (s : State) (e ring ca : Nat) (bs : List Byte9) : State :=
  s.writeCanon (masterOf e ring) ca bs

/-- A waiting store takes freed entries, both parts of a split one together. -/
def Engine.sbRefill (x : Engine) : Engine :=
  match x.sbWait with
  | [] => x
  | b :: l =>
    let n := match l with | c :: _ => if b.split && c.split && c.seq == b.seq + 1 then 2 else 1 | [] => 1
    if x.sb.length + n ≤ 8 then { x with sb := x.sb ++ (b :: l).take n, sbWait := (b :: l).drop n } else x

/-- The transactions of an access (R312): one of up to a double word for each part still to be performed. -/
def Load.parts (l : Load) : Nat := if (splitAt l.addr l.size).isSome && l.part1.isNone then 2 else 1

/-- The accesses to section m that have set out and are not performed, from every other section: place in the order, source section,
transactions. -/
def State.crossTo (s : State) (m : Nat) : List (Nat × Nat × Nat) :=
  s.eng.flatMap (fun p =>
    (p.2.outStores.filter (fun o => crossSect p.1 o.addr == some m)).map (fun o => (o.xq, sectOf p.1, 1)) ++
    ((p.2.loads0 ++ p.2.loads1).filter (fun l => l.fwd.isNone && crossSect p.1 l.addr == some m)).map (fun l => (l.xq, sectOf p.1, l.parts)))

/-- The transactions of section k that still stand in its egress queue because the 64 entries of section m's one ingress queue hold those
that set out before them. In which order two bridges fill one ingress queue is open: the model takes them as they set out
(notes/assumptions/49.md). -/
def State.crossWaiting (s : State) (k m : Nat) : Nat :=
  let l := s.crossTo m
  (l.filter (fun a => a.2.1 == k &&
    decide (64 ≤ (l.filter (fun b => decide (b.1 < a.1))).foldl (fun n b => n + b.2.2) 0))).foldl (fun n a => n + a.2.2) 0

/-- The egress queue of section k, of 64 entries, is full (R312). -/
def State.egressFull (s : State) (k : Nat) : Bool :=
  decide (64 ≤ (List.range 6).foldl (fun n m => n + s.crossWaiting k m) 0)

/-- Entry i of the store buffer must stay. Entries whose bytes overlap leave in program order (R159), an older load of the same bytes
reads first, and a store to memory of the engine's own waits for an older one to the same bytes on a global path (R161). A full
egress queue holds the entry (R312). -/
def State.drainHeld (s : State) (e i : Nat) : Bool :=
  let x := s.engine e
  match x.sb[i]? with
  | none => false
  | some b =>
    let n := b.bytes.length
    (x.sb.take i).any (fun o => overlaps o.addr o.bytes.length b.addr n) ||
      (x.loads0 ++ x.loads1).any (fun l => l.fwd.isNone && decide (l.seq < b.seq) && overlaps l.addr l.size b.addr n) ||
      (!b.glob && x.outStores.any (fun o => overlaps o.addr o.bytes.length b.addr n)) ||
      (b.glob && (crossSect e b.addr).isSome && s.egressFull (sectOf e))

/-- Entry i of the store buffer leaves it: to its own memory at once, to the mesh as a post, or to a global path. -/
def State.drainOut (s : State) (e i : Nat) : State :=
  let x := s.engine e
  match x.sb[i]? with
  | none => s
  | some b =>
    let x := ({ x with sb := x.sb.eraseIdx i }.sbRefill).dStore b.addr b.bytes
    if b.post then
      (s.setEngine e x).modSect (sectOf e) (fun c =>
        { c with posts := c.posts ++ [{ eng := e, addr := b.addr, bytes := b.bytes, seq := b.seq }] })
    else if b.glob then
      let (q, s) := s.crossOut e b.addr
      s.setEngine e { x with outStores := x.outStores ++
        [{ addr := b.addr, bytes := b.bytes, cross := (crossSect e b.addr).isSome, seq := b.seq, ring := b.ring, split := b.split, xq := q }] }
    else (s.setEngine e x).storeBytes b.addr b.bytes

/-- Entry i of the store buffer leaves it unless it must stay. -/
def State.drainOne (s : State) (e i : Nat) : State := if s.drainHeld e i then s else s.drainOut e i

/-- The other part of a split store to the local scratchpad that is in the store buffer. -/
def Engine.sbPartner (x : Engine) (e i : Nat) : Option Nat :=
  match x.sb[i]? with
  | none => none
  | some b =>
    if b.split && !b.glob && memOf b.addr == some (.spad e) then
      (List.range x.sb.length).find? (fun j => match x.sb[j]? with
        | some c => c.split && (c.seq == b.seq + 1 || c.seq + 1 == b.seq) && (c.addr == b.addr + b.bytes.length || c.addr + c.bytes.length == b.addr)
        | none => false)
    else none

/-- STORE_DRAIN: in a stall only a store that is awaited leaves (R150). In the local scratchpad both parts of a split store are
performed in the same cycle (R284), so that neither leaves while the other must stay. -/
def State.storeDrain (s : State) (e i : Nat) : State :=
  if !s.advances e Engine.awaitsStores then s
  else
    match (s.engine e).sbPartner e i with
    | some j => if s.drainHeld e i || s.drainHeld e j then s else (s.drainOut e (max i j)).drainOut e (min i j)
    | none => s.drainOne e i

def execStoreDrain (e : EngId) (i : Nat) (s : State) : Out := .next (s.storeDrain e i)

/-- Outstanding store i is performed at its target and acknowledged (R162), after any older one to the same bytes, and in no stall of the
section whose memory, semaphore or DMA port it is (R18). -/
def State.outDone (s : State) (e i : Nat) (cross : Bool) : Option State :=
  let x := s.engine e
  match x.outStores[i]? with
  | none => none
  | some o =>
    if o.cross != cross || (x.outStores.take i).any (fun p => overlaps p.addr p.bytes.length o.addr o.bytes.length) ||
        s.portStalled e o.addr (fun y => y.awaitsStore o.seq o.addr o.bytes.length) then none
    else some ((s.setEngine e { x with outStores := x.outStores.eraseIdx i }).performStore e o.ring o.addr o.bytes)

def execGlobalStoreAck (e : EngId) (i : Nat) (s : State) : Out := .next ((s.outDone e i false).getD s)

/-- The bridge measures a cross-section store while a bound is declared (R314). -/
def State.crossMeasure (s : State) (k cycles : Nat) : State :=
  let mx := s.getF (.SEC_XQ_MAX k) F.SEC_XQ_MAX_CYC
  if mx = 0 then s
  else
    let lat := if cycles ≤ 0x3FFFF then cycles else 0x3FFFF
    let s := if s.getF (.SEC_XQ k) F.SEC_XQ_MAXLAT < lat then s.setF (.SEC_XQ k) F.SEC_XQ_MAXLAT lat else s
    if mx < cycles then s.setB (.SEC_XQ k) F.SEC_XQ_LATE true else s

/-- A cross-section store is performed (R312), and measured. -/
def State.crossDone (s : State) (e i cycles : Nat) : State :=
  match s.outDone e i true with
  | none => s
  | some s => s.crossMeasure (sectOf e) cycles

def execCrossSectionStoreDone (e : EngId) (i : Nat) (cycles : Nat) (s : State) : Out := .next (s.crossDone e i cycles)

/-- The bank of a cluster shared memory that serves byte address ca: consecutive double words lie in the 16 banks in turn. -/
def bankOf (ca : Nat) : Nat := ca / 8 % 16

/-- Two posts share the path to one bank: one source cluster, one memory, one bank. -/
def samePath (o p : Post) : Bool := cluOf o.eng == cluOf p.eng && memOf o.addr == memOf p.addr && bankOf o.addr == bankOf p.addr

/-- Post i of section k must wait for an older one: of its engine to the same bytes, or of its source cluster, which travels the
same path, to the same bank (R307, R308). -/
def State.postBehind (s : State) (k i : Nat) (p : Post) : Bool :=
  ((s.sect k).posts.take i).any (fun o =>
    (o.eng == p.eng && overlaps o.addr o.bytes.length p.addr p.bytes.length) ||
    samePath o p)

/-- A stall awaits post i of section k (R150): the stalling engine waits for that post, or for one behind it on the same path. -/
def State.postAwaited (s : State) (k i : Nat) (p : Post) : Bool :=
  ((s.sect k).posts.drop i).any (fun q =>
    samePath p q && s.engStalls q.eng && (s.engine q.eng).awaitsStore q.seq q.addr q.bytes.length)

/-- A post is performed at its target bank (R308); the cycles it waited for links and for the bank are counted. None advances
in a stall, but for one that the stall awaits (R150, R303). -/
def State.postDone (s : State) (k i link coll : Nat) : State :=
  let c := s.sect k
  match c.posts[i]? with
  | none => s
  | some p =>
    if s.postBehind k i p || (s.stalled k && !s.postAwaited k i p) then s
    else
      let s := s.setSect k { c with posts := c.posts.eraseIdx i }
      let s := (s.incF (.SEC_POST k) F.SEC_POST_LINK link).incF (.SEC_POST k) F.SEC_POST_COLL coll
      s.storeBytes p.addr p.bytes

def execPostPerformed (k : SectId) (i : Nat) (link : Nat) (coll : Nat) (s : State) : Out := .next (s.postDone k i link coll)

end Sys2Proof.Machine
end

