-- ==== Sys2Proof/Machine/Fence.lean ====
section
/-! DEFINITION. What a fence does to an engine when it completes (R491, R492; R400 for the boot march). -/

namespace Sys2Proof.Machine

/-- The stores in the store buffer of engine n from entry i on leave it, oldest first; no stall holds them. One that must stay, with those
that must follow it, drains later. -/
def State.drainSb (s : State) (n i : Nat) : Nat → State
  | 0 => s
  | k + 1 => if s.drainHeld n i then s.drainSb n (i + 1) k else (s.drainOut n i).drainSb n i k

/-- A store that a fence completes is measured where it crosses sections (R314); how long it took is free. -/
def State.crossTime (s : State) (n : Nat) (cross : Bool) : State :=
  if cross && decide (n < 192) then
    let p := s.drawNat 18
    p.2.crossMeasure (sectOf n) p.1
  else s

/-- The stores of engine n that are on global paths are performed, oldest first. -/
def State.outAll (s : State) (n : Nat) : State :=
  let x := s.engine n
  x.outStores.foldl (fun st o => (st.performStore n o.ring o.addr o.bytes).crossTime n o.cross) (s.setEngine n { x with outStores := [] })

/-- The first k entries of the store buffer leave it, each behind those that were on global paths, so that nothing holds it. -/
def State.sbAll (s : State) (n : Nat) : Nat → State
  | 0 => s
  | k + 1 => ((s.outAll n).drainOut n 0).sbAll n k

/-- Every store of engine n already in its store buffer is performed, in order; a store that found it full is not one of them. -/
def State.drainAll (s : State) (n : Nat) : State :=
  let s := s.modEngine n (fun x => { x with sbWait := [], loads0 := [], loads1 := [] })
  (s.sbAll n (s.engine n).sb.length).outAll n

/-- The effects of a fence on engine n. -/
def State.fenceEngine (s : State) (n : Nat) : State :=
  let k := sectOf n
  let s := s.drainAll n
  let s := s.dmaAbort n
  let s := s.orphanSems n
  let was := (s.engine n).inHalt
  let s := s.modEngine n (fun x => { x with
    fenced := true, halted := false, haltReq := none, stepLeft := none, stepNoInt := false, waitRead := none, early := [], fence := none,
    csrLate := none, flights := [], held := [], divOp := none,
    fplOp := none, stm := Stm.reset, inBeat := false })
  let s := s.haltEnded n was
  let s := s.forChannels (fun _ x => x.g0.owner == n) (fun st c => (st.glvPark c 0x1B).glvOwner c 255)
  let s := s.setReg (.SEC_USABLE k) (setBit (s.reg (.SEC_USABLE k)) (n % 32) false)
  let s := (s.setB (.SEC_STATE k) F.SEC_STATE_ENGF true).logEvt 4 n
  if s.sectState k = 2 ∧ bit (s.sect k).useMask (n % 32) then s.setF (.SEC_STATE k) F.SEC_STATE_STATE 4 else s

/-- The fence completes. -/
def State.fenceFinish (s : State) (k : Nat) : State :=
  match (s.sect k).fencing with
  | some n => ((s.modSect k (fun x => { x with fencing := none })).fenceEngine n).setF (.SEC_FENCE k) F.SEC_FENCE_STS 2
  | none => s

def execFenceDone (k : SectId) (s : State) : Out := .next (s.fenceFinish k)

end Sys2Proof.Machine
end

