-- ==== Sys2Proof/Machine/Stm.lean ====
section
/-! DEFINITION. The commands of the stream unit (R217-R222, R258, R269). OP: 1 copy, 2 fill, 3 gath, 4 ingest (Table 7.9). -/

namespace Sys2Proof.Machine

/-! ## Checks at the trigger (R218) -/

/-- The range of a stream address, if stm may use it: deterministic mode the scratchpad only. The number names the one
memory that the whole of the operand must lie in. -/
def State.stmRange (s : State) (e a : Nat) : Option Nat :=
  match rangeOf e a with
  | some .spad => some 0
  | some .shared => if (s.engine e).perf e then some 1 else none
  | some .window =>
    if !(s.engine e).perf e then none
    else match memOf (canonOf e a) with
      | some (.shared c) => some (1000 + c)
      | some (.spad n) => some (2000 + n)
      | _ => none
  | _ => none

/-- Word a may be read or written by a stream operation of engine e that started in range r. -/
def State.stmWordOk (s : State) (e a : Nat) (write : Bool) (r : Nat) : Bool :=
  s.stmRange e a == some r && a % 4 == 0 && !(write && s.marked e a) &&
  (match rangeOf e a with | some g => s.ringOk e (s.engine e).ring.toNat a write g | none => false)

/-- The first refused address of n words from a by `step`. -/
def State.stmRefused (s : State) (e : Nat) (a : Word) (step : Word) (n : Nat) (write : Bool) : Option Word :=
  match s.stmRange e a.toNat with
  | none => some a
  | some r => (List.range n).findSome? (fun j =>
      let b := a + step * BitVec.ofNat 36 j
      if s.stmWordOk e b.toNat write r then none else some b)

/-- The check of an operation: its cause and EADDR, or none. A stride that is no multiple of 4 is refused at the address that it
leads to, whatever the count. -/
def State.stmCheck (s : State) (e op : Nat) (src dst o t : Word) : Option OpTrap :=
  let n := t.toNat
  let lim := if op = 4 then 2048 else 65536
  if lim < n ∨ (op = 4 ∧ 2048 < fld src 10 0 + n) ∨ (op = 4 ∧ e = 192) then some (.code 0x01 0)
  else if n = 0 then none
  else
    let rd := if op = 1 then s.stmRefused e src 4 n false
      else if op = 3 then (s.stmRefused e src o n false).or (if o.toNat % 4 = 0 then none else some (src + o)) else none
    match rd.or (s.stmRefused e dst 4 (if op = 4 then 4 * n else n) true) with
    | some a => some (.code 0x03 a)
    | none => none

/-- The address of save or restore (R218): a multiple of 8, in the scratchpad. -/
def State.saveRefused (s : State) (e a : Nat) (write : Bool) : Option Word :=
  if a % 8 ≠ 0 then some (BitVec.ofNat 36 a)
  else s.stmRefused e (BitVec.ofNat 36 a) 4 4 write |>.or (if a + 16 ≤ 0x10000 then none else some (BitVec.ofNat 36 a))

/-! ## Moving words -/

/-- The record that ingest writes for channel c, as it stands when it is read: the bank's, or the words of an absent one
(R219). -/
def State.ingestRecord (s : State) (e c : Nat) : List Word :=
  let b := s.readBeat (sectOf e)
  let sl := s.slotOf c b
  if s.owns e c && sl.st == 1 then [sl.w0, sl.w1, sl.w2, sl.w3]
  else [0, 0, 0, setFld (put 31 17 c) 16 9 (b % 256 + 128)]

/-- One word moves. An uncorrectable source word records a LONGOP and stops the operation at that word (R258). ingest reads each
record as a whole at its first word, so that it is written as present or as absent (R219). A line of the engine's own data cache that
holds the word keeps what it held, after a fence.l too, until it is invalidated: R286 says only that stm neither reads nor fills the
cache, and it is the model's choice (notes/assumptions/49.md). -/
def State.stmStep (s : State) (e : Nat) : State :=
  let x := s.engine e
  let m := x.stm
  if m.op = 0 ∨ m.susp ∨ x.longop.isSome then s
  else if m.cnt = 0 then s.modEngine e (fun x => { x with stm := { x.stm with op := 0 } })
  else
    let ca := canonOf e m.src.toNat
    let reads := m.op = 1 ∨ m.op = 3
    if reads ∧ s.isBad ca then
      (s.eccUncorrectable ca).modEngine e (fun x => { x with longop := some m.src, stm := { x.stm with op := 0 } })
    else
      let k := (4 - m.cnt % 4) % 4
      let rcd := if m.op = 4 ∧ (k = 0 ∨ m.rcd = []) then s.ingestRecord e (fld m.src 14 0) else m.rcd
      let w := if m.op = 2 then m.opnd else if m.op = 4 then rcd.getD k 0 else s.word ca
      let src := if m.op = 1 then m.src + 4 else if m.op = 3 then m.src + m.opnd
        else if m.op = 4 ∧ k = 3 then m.src + 1 else m.src
      let cnt := m.cnt - 1
      let s := if reads then s.softRead ca (.engine e) else s
      (s.setWord (canonOf e m.dst.toNat) w).modEngine e (fun x =>
        { x with stm := { x.stm with
            op := if cnt = 0 then 0 else m.op, cnt := cnt, src := src, dst := m.dst + 4
            rcd := if m.op = 4 ∧ k ≠ 3 then rcd else [] } })

/-- Up to n words move. -/
def State.stmRun (s : State) (e : Nat) : Nat → State
  | 0 => s
  | n + 1 => if (s.engine e).stm.op = 0 then s else (s.stmStep e).stmRun e n

/-! ## Starting -/

/-- An operation starts with its operands. -/
def Engine.startStm (x : Engine) (op : Nat) (src dst o t : Word) : Engine :=
  let n := if op = 4 then 4 * t.toNat else t.toNat
  { x with stm := { op := if n = 0 then 0 else op, cnt := n, src := src, dst := dst, opnd := o, susp := false, start := x.cyc + 3, rcd := [] } }

/-- The words of Table 7.9. Of an idle unit only OP is stated; the other three words as 0 are the model's choice
(notes/assumptions/49.md). -/
def Stm.area (m : Stm) : List Word :=
  if m.op = 0 then [0, 0, 0, 0] else [setFld (put 35 33 m.op) 16 0 m.cnt, m.src, m.dst, m.opnd]

/-- save: the state of the unit goes to the scratchpad (R222). -/
def State.stmSave (s : State) (e a : Nat) : State := s.setWords (canonOf e a) (s.engine e).stm.area

/-- restore: the operation described becomes the suspended one; an uncorrectable word of the area records a LONGOP (R289). -/
def State.stmRestore (s : State) (e a : Nat) : State :=
  let ca := canonOf e a
  match s.badWord ca 16 with
  | some k => (s.eccUncorrectable k).modEngine e (fun x => { x with longop := some (BitVec.ofNat 36 (a + (k - ca))) })
  | none =>
    let s := s.softReads ca 16 (.engine e)
    let w0 := s.word ca
    let op := fld w0 35 33
    s.modEngine e (fun x => { x with stm :=
      if op = 0 then { x.stm with op := 0, cnt := 0, susp := false, rcd := [] }
      else { op := op, cnt := fld w0 16 0, src := s.word (ca + 4), dst := s.word (ca + 8), opnd := s.word (ca + 12),
             susp := true, start := x.cyc + 3, rcd := [] } })

/-- The OP of a save area that restore refuses (Table 7.9). -/
def State.restoreBad (s : State) (e a : Nat) : Bool :=
  let ca := canonOf e a
  (s.badWord ca 16).isNone && decide (4 < fld (s.word ca) 35 33)

/-! ## Triggers: i is 0 copy, 1 fill, 2 gath, 3 ingest, 4 save, 5 restore -/

/-- The unit is at work on an operation that is not suspended. -/
def Engine.stmBusy (x : Engine) : Bool := x.stm.op != 0 && !x.stm.susp

/-- The effect of a trigger that the unit accepts. A trigger of copy, fill, gath or ingest discards a suspended operation
(R269). -/
def State.stmAccept (s : State) (e i : Nat) (src dst o t : Word) : State :=
  if i ≤ 3 then (if t = 0 then s else s.modEngine e (fun x => x.startStm (i + 1) src dst o t))
  else if i = 4 then s.stmSave e t.toNat
  else s.stmRestore e t.toNat

def stmOp (i : Nat) (s : State) (e : Nat) (t : Word) : OpOut :=
  let x := s.engine e
  let src := x.port 0x241
  let dst := x.port 0x242
  let o := x.port 0x240
  let bad : Option OpTrap :=
    if i ≤ 3 then s.stmCheck e (i + 1) src dst o t
    else match s.saveRefused e t.toNat (i == 4) with
      | some a => some (.code 0x03 a)
      | none => if i = 5 ∧ s.restoreBad e t.toNat then some (.code 0x01 0) else none
  match bad with
  | some tr => .trap tr
  | none =>
    if x.longop.isSome then .trap .longop
    else if x.stmBusy then .held { socket := 0x250 + i, a := o, b := src, c := dst, t := t, ctl := 0, pc := x.pc, branch := x.branch }
    else .plain (s.stmAccept e i src dst o t) 6

def execCopy (e : EngId) (t : Word) (s : State) : Out := .next (s.opRow e uStm (stmOp 0 s e t))
def execFill (e : EngId) (t : Word) (s : State) : Out := .next (s.opRow e uStm (stmOp 1 s e t))
def execGath (e : EngId) (t : Word) (s : State) : Out := .next (s.opRow e uStm (stmOp 2 s e t))
def execIngest (e : EngId) (t : Word) (s : State) : Out := .next (s.opRow e uStm (stmOp 3 s e t))
def execSave (e : EngId) (t : Word) (s : State) : Out := .next (s.opRow e uStm (stmOp 4 s e t))
def execRestore (e : EngId) (t : Word) (s : State) : Out := .next (s.opRow e uStm (stmOp 5 s e t))

/-- The unit is free: a held trigger is accepted with its captured operands (R144). One that finds a LONGOP recorded stays, for it
delivers that fault and does not start (R258). -/
def State.stmNext (s : State) (e : Nat) : State :=
  let x := s.engine e
  match takeHeld 0x250 0x255 x.held with
  | (some h, rest) =>
    if x.longop.isSome then s else (s.setEngine e { x with held := rest }).stmAccept e (h.socket - 0x250) h.b h.c h.a h.t
  | (none, _) => s

/-- A held trigger of the stream unit delivers the recorded LONGOP at its own bundle (R258). -/
def State.stmDeliver (s : State) (e : Nat) : Option State :=
  let x := s.engine e
  match takeHeld 0x250 0x255 x.held with
  | (some h, rest) => if x.stmBusy then none else (s.setEngine e (x.unhold h rest)).longopFault e h.pc
  | (none, _) => none

/-- The operation meets an error at its next word (R258): it stops there and records a LONGOP. An ECC error of a source word is
logged (R289); an error response of a global path is not one. -/
def State.stmStop (s : State) (e : Nat) (ecc : Bool) : State :=
  let x := s.engine e
  let reads := x.stm.op = 1 ∨ x.stm.op = 3
  let ca := canonOf e x.stm.src.toNat
  let s := if ecc && decide reads && (memOf ca).isSome then s.eccUncorrectable ca else s
  s.modEngine e (fun x => { x with longop := some (if reads then x.stm.src else x.stm.dst), stm := { x.stm with op := 0 } })

/-- The operation writes its last word, or after `stop` more words meets an error. In a stall it goes on only when it is awaited,
and not while its engine is halted (R150, R452). -/
def State.stmComplete (s : State) (e : Nat) (stop : Option (Nat × Bool)) : State :=
  let x := s.engine e
  if !x.stmBusy || !s.unitRuns e (fun x => x.awaitsLong 0x250 0x255) then s
  else
    let n := match stop with | some k => if k.1 < x.stm.cnt then k.1 else x.stm.cnt | none => x.stm.cnt
    let s := s.stmRun e n
    let s := match stop with
      | some k => if (s.engine e).stm.op = 0 then s else s.stmStop e k.2
      | none => s
    if (s.engine e).stm.op = 0 then (s.stmDeliver e).getD (s.stmNext e) else s

def execStmComplete (e : EngId) (stop : Option (Nat × Bool)) (s : State) : Out := .next (s.stmComplete e stop)

end Sys2Proof.Machine
end

