-- ==== Sys2Proof/Machine/Boundary.lean ====
section
/-! DEFINITION. What the boundary before a bundle finds: the cycles that have passed for the timers, the watchdog and the stream
unit (R220, R273, R275), the operations that have completed (R141, R144), the interrupt sources that have been asserted (R247).
The commands of timer and watchdog expiry. -/

namespace Sys2Proof.Machine

/-! ## Timers and the watchdog (R273, R275) -/

/-- n counts of a timer; reaching 0 sets PEND, and COUNT takes RELOAD under AUTO. -/
def Engine.timerCount (x : Engine) (e k n : Nat) : Engine :=
  let ctl := x.csrW e (0x068 + 2 * k)
  let c := fld (x.csrW e (0x069 + 2 * k)) 23 0
  if c = 0 ∨ n = 0 then x
  else if n < c then x.setCsrW e (0x069 + 2 * k) (put 23 0 (c - n))
  else
    let rl := fld ctl 23 0
    let left := if bit ctl 34 ∧ rl ≠ 0 then rl - (n - c) % rl else 0
    (x.setCsrW e (0x068 + 2 * k) (setBit ctl 33 true)).setCsrW e (0x069 + 2 * k) (put 23 0 left)

/-- Timer k counts n cycles (UNIT 0) or n boundaries (UNIT 1) while EN is 1. -/
def Engine.timerTick (x : Engine) (e k n : Nat) (beats : Bool) : Engine :=
  let ctl := x.csrW e (0x068 + 2 * k)
  if bit ctl 35 ∧ bit ctl 32 = beats then x.timerCount e k n else x

/-- The watchdog reaches 0 in cycle c: EXPIRED sets, COUNT reloads, WATCHDOG is raised at the next boundary that R247 allows, which
is one of cycle c + 2 or later. -/
def Engine.wdtFire (x : Engine) (e c : Nat) : Engine :=
  let ctl := x.csrW e 0x060
  { (x.setCsrW e 0x060 (setBit ctl 33 true)).setCsrW e 0x061 (put 23 0 (fld ctl 23 0)) with wdtPend := some (c + 2) }

/-- The watchdog counts n cycles after cycle c, one count per 1,024. -/
def Engine.wdtTick (x : Engine) (e c n : Nat) : Engine :=
  if bit (x.csrW e 0x060) 35 then
    let p := x.wdtPre + n
    let left := fld (x.csrW e 0x061) 23 0
    let y := { x with wdtPre := p % 1024 }
    if p / 1024 = 0 then y
    else if p / 1024 < left then y.setCsrW e 0x061 (put 23 0 (left - p / 1024))
    else y.wdtFire e (c + (1024 * max left 1 - x.wdtPre))
  else x

/-- The cycle, of the n after cycle c, in which timer k of the engine passes to 0, if there is one. -/
def Engine.timerEnds (x : Engine) (e k c n : Nat) : List (Nat × Nat) :=
  let ctl := x.csrW e (0x068 + 2 * k)
  let left := fld (x.csrW e (0x069 + 2 * k)) 23 0
  if bit ctl 35 && !bit ctl 32 && !bit ctl 33 && decide (left ≠ 0 ∧ left ≤ n) then [(k, c + left + 2)] else []

/-- How many words the stream unit writes in the cycles from the last count up to cycle c: in deterministic mode one in each cycle in which no
lsu accesses the scratchpad; in performance mode a free number (R220). -/
def State.stmWords (s : State) (e c : Nat) : Nat × State :=
  let x := s.engine e
  let lo := if x.tickAt + 1 < x.stm.start then x.stm.start else x.tickAt + 1
  if c < lo then (0, s)
  else if x.perf e then
    let (v, s) := s.drawNat 17
    (v % (x.stm.cnt + 1), s)
  else
    let busy := (x.spadAcc.filter (fun k => decide (lo ≤ k ∧ k ≤ c))).eraseDups
    (c + 1 - lo - busy.length, s)

/-- The cycles from the last count up to cycle c pass: timers, watchdog, stream unit. -/
def State.tickTo (s : State) (e c : Nat) : State :=
  let x := s.engine e
  let n := c - x.tickAt
  let ends := x.timerEnds e 0 x.tickAt n ++ x.timerEnds e 1 x.tickAt n
  let y := ((x.timerTick e 0 n false).timerTick e 1 n false).wdtTick e x.tickAt n
  let (words, s) := if x.stmBusy then s.stmWords e c else (0, s)
  let s := s.setEngine e { y with
    tickAt := c, spadAcc := x.spadAcc.filter (fun k => decide (c < k)), irqSince := x.irqSince ++ ends }
  if !x.stmBusy then s
  else
    let s := s.stmRun e words
    if (s.engine e).stm.op = 0 ∧ (s.engine e).longop.isNone then s.stmNext e else s

/-- The cycles up to the present one pass. A CSR write that governs from an earlier one of them does so from there on (R211). -/
def State.tick (s : State) (e : Nat) : State :=
  let x := s.engine e
  match x.csrLate with
  | some (_, _, c) => if c ≤ x.cyc then ((s.tickTo e c).csrSettle e).tickTo e x.cyc else s.tickTo e x.cyc
  | none => s.tickTo e x.cyc

/-- The forced expiry of a running timer. A timer holds in a halt, and one that counts cycles in a stall (R273, R452). -/
def execTimerExpire (e : EngId) (n : Fin 2) (s : State) : Out :=
  let x := s.engine e
  let ctl := x.csrW e (0x068 + 2 * n)
  if bit ctl 35 && !x.halted && (bit ctl 32 || !s.engStalled e) then
    .next (s.setEngine e (x.timerCount e n (fld (x.csrW e (0x069 + 2 * n)) 23 0)))
  else .next s

/-- The forced expiry of a running watchdog, which holds in stalls and halts (R275, R468). -/
def execWatchdogExpire (e : EngId) (s : State) : Out :=
  let x := s.engine e
  if bit (x.csrW e 0x060) 35 && !x.halted && !s.engStalled e then .next (s.setEngine e (x.wdtFire e x.cyc)) else .next s

/-! ## Operations that complete by time (R141, R144) -/

/-- The long operations that end in or before cycle c complete. -/
def Engine.landLong (x : Engine) (e c : Nat) : Engine :=
  let x := match x.divOp with | some l => if l.due ≤ c then x.divDone l l.due else x | none => x
  match x.fplOp with | some l => if l.due ≤ c then x.fplDone e l l.due else x | none => x

/-- mul is free: a held trigger arrives in the cycle in which the operation before it completed (R144). -/
def Engine.mulHeld (x : Engine) : Engine :=
  if x.flights.any (fun f => f.unit == uMul) then x
  else match takeHeld 0x0B0 0x0B4 x.held with
    | (some h, rest) =>
      let f := mulAt (h.socket - 0x0B0)
      let c := x.doneAt uMul
      { x with
        held := rest
        flights := insertFlight { unit := uMul, due := c + f.2, trig := c, writes := [(0x0A4, f.1 h.a h.t)], flags := 0, enabled := 0, pc := h.pc } x.flights }
    | (none, _) => x

/-- The operations due in or before cycle c complete, and triggers held by their units start (R141, R144). -/
def Engine.landBy (x : Engine) (e c : Nat) : Engine :=
  let x := ((x.landUpTo e c).mulHeld.landUpTo e c).landLong e c
  x.fplHeld (x.doneAt uFpl)

/-! ## Interrupt sources, and the boundary -/

/-- The pending interrupt sources, each with the cycle from which on it is acceptable: two after the one in which it asserted
(R247). A source that was not pending at the boundary before has asserted in the present cycle. -/
def State.irqSample (s : State) (e : Nat) : State :=
  let x := s.engine e
  let l := (List.range 14).filterMap (fun k =>
    if s.intPending e k then some (k, match x.irqSince.find? (fun p => p.1 == k) with | some p => p.2 | none => x.cyc + 2) else none)
  s.setEngine e { x with irqSince := l }

/-- The engine runs: not LOCKED, fenced or halted, entered into the beat; its section RUNNING, powered, not held for a
restart and not stalled. -/
def State.mayRun (s : State) (e : Nat) : Bool :=
  let x := s.engine e
  !x.locked && !x.fenced && !x.halted && x.inBeat &&
  (if e < 192 then s.running (sectOf e) && !s.gated (sectOf e) && !(s.sect (sectOf e)).dbgRestart && !s.stalled (sectOf e) else true)

/-- What a boundary finds done: the cycles since the last count, a CSR write that governs by now, the operations that complete in or
before its cycle, the post-increments that are visible in it, the interrupt sources. -/
def State.atBoundary (s : State) (e : Nat) : State :=
  ((s.tick e).modEngine e (fun x => (x.landBy e x.cyc).applyInc x.cyc)).irqSample e

end Sys2Proof.Machine
end

