-- ==== Sys2Proof/Machine/Complete.lean ====
section
/-! DEFINITION. The commands that end a wait of an engine: loads return (R142, R160, R290), data-cache lines arrive (R286), a fence
and endframe complete (R55, R163-R165, R240, R258). -/

namespace Sys2Proof.Machine

/-! ## Loads -/

/-- The ECC fault of a load (R289, R290): EPC the load's bundle, EADDR the byte address as issued of the first byte of the
access in the failed word; the result port is unchanged. The entry is made at the boundary of the present cycle; that of a halted
engine waits for its resume (R452). -/
def State.loadEccFault (s : State) (e u i : Nat) (l : Load) (k : Nat) : State :=
  let s := if l.bad.isSome then s else s.eccUncorrectable k
  if (s.engine e).halted then s.modEngine e (fun x => x.setLoads u ((x.loadsOf u).modify i (fun l => { l with bad := some k })))
  else
    let s := s.modEngine e (fun x => x.setLoads u ((x.loadsOf u).eraseIdx i))
    if (s.engine e).locked || !(s.engine e).inBeat then s
    else (s.atBoundary e).faultEntry e 0x09 (BitVec.ofNat 36 (l.iss + (k - l.addr))) l.pc (s.engine e).efWait

/-- An access may return: its unit's clock runs, or the stall awaits it; on a halted engine only transactions on a global path
complete; the memory or semaphore that serves it stands in no stall (R18, R150, R452). -/
def State.loadRuns (s : State) (e u : Nat) (l : Load) : Bool :=
  (!(s.engine e).halted || globalPath l.iss) && s.advances e (fun x => x.early.contains (lsuUnit u)) && !s.portHeld e l.addr

/-- A load reads memory or a register: in two parts, one command each, when it is split, but for the local scratchpad, which
performs both in one cycle (R278, R284, R285). -/
def State.loadRead (s : State) (e u i : Nat) (l : Load) (ecc : Ecc) : State :=
  match (if l.iss < 0x10000 then none else splitAt l.addr l.size), l.part1 with
  | some n, none =>
    match s.loadPart e l l.addr n ecc with
    | (.inl k, s) => s.loadEccFault e u i l k
    | (.inr bs, s) => s.modEngine e (fun x => x.setLoads u ((x.loadsOf u).modify i (fun l => { l with part1 := some bs })))
  | some n, some bs1 =>
    match s.loadPart e l (l.addr + n) (l.size - n) ecc with
    | (.inl k, s) => s.loadEccFault e u i l k
    | (.inr bs, s) => s.modEngine e (fun x => x.loadReturn u i l (bs1 ++ bs))
  | none, _ =>
    match s.loadPart e l l.addr l.size ecc with
    | (.inl k, s) => s.loadEccFault e u i l k
    | (.inr bs, s) => s.modEngine e (fun x => x.loadReturn u i l bs)

/-- A tas, lr or sc that was not performed at its trigger is performed and returns. -/
def State.atomicRead (s : State) (e u i : Nat) (l : Load) (ecc : Ecc) : State :=
  let s := (s.eccSeen l.addr ecc).softReads l.addr 4 (.engine e)
  match s.badWord l.addr 4 with
  | some k => s.loadEccFault e u i l k
  | none =>
    let (w, s) := s.atomicPerform e l.kind l.addr l.data
    s.modEngine e (fun x => x.loadReturn u i l ((List.range 4).map (byteOf w)))

/-- The i-th outstanding access of unit u returns. Nothing happens while it must wait: for an older store to the same bytes,
for its cache line, for its section's clock. -/
def State.loadComplete (s : State) (e u i : Nat) (ecc : Ecc) : State :=
  let x := s.engine e
  match (x.loadsOf u)[i]? with
  | none => s
  | some l =>
    if !s.loadRuns e u l then s
    else if l.bad.isSome then s.loadEccFault e u i l (l.bad.getD 0)
    else match l.fwd with
      | some bs =>
        if l.hit && ecc != .clean then s.setEngine e ((x.dError u i l).countCsr e 0x147 1)
        else s.setEngine e (x.loadReturn u i l bs)
      | none =>
        if l.miss || s.olderStore e l then s
        else if l.kind = 0 then s.loadRead e u i l ecc
        else s.atomicRead e u i l ecc

def execLoadComplete (e : EngId) (u : Fin 2) (i : Nat) (ecc : Ecc) (s : State) : Out := .next (s.loadComplete e u i ecc)

/-- A data-cache line is fetched into a way of its set (R286). A line with an uncorrectable word is logged and not kept: the load
then reads memory. Nothing happens while a store of the engine to the line is on its way. -/
def State.dFill (s : State) (e u i way : Nat) (ecc : Ecc) : State :=
  let x := s.engine e
  match (x.loadsOf u)[i]? with
  | none => s
  | some l =>
    if !l.miss || s.engStalled e || s.portHeld e l.addr then s
    else
      match (List.range l.size).find? (fun j => (x.dLine (l.addr + j)).isNone) with
      | none =>
        s.setEngine e (x.loadReturn u i l ((x.dBytes l.addr l.size).getD []))
      | some j =>
        let base := (l.addr + j) / 32 * 32
        if x.outStores.any (fun o => overlaps o.addr o.bytes.length base 32) then s
        else
          let s := (s.eccSeen (l.addr + j) ecc).softReads base 32 (.engine e)
          match s.badWord base 32 with
          | some k =>
            let s := if (s.badWord l.addr l.size).isSome then s else s.eccUncorrectable k
            let s := s.modEngine e (fun x => x.setLoads u ((x.loadsOf u).modify i (fun l => { l with miss := false })))
            s.loadComplete e u i .clean
          | none =>
            let x := s.engine e
            let key := (base / 32 % 64) * 2 + way
            let x := { x with dcache := SMap.set (fun _ => none) x.dcache key (some { base := base, words := s.words base 8 }) }
            match x.dBytes l.addr l.size with
            | some bs => s.setEngine e (x.loadReturn u i l bs)
            | none => s.setEngine e x

def execDcacheFill (e : EngId) (u : Fin 2) (i : Nat) (way : Fin 2) (ecc : Ecc) (s : State) : Out :=
  .next (s.dFill e u i way ecc)

/-! ## Fences and endframe -/

/-- The awaited condition is met at this boundary. A pending short FP fault comes first: it is left to the boundary before the bundle
that then would issue, and LPEND stays set (R240, R256). Else a pending long fault is raised at the fence bundle; else the next
bundle may issue. The other moves of the fence bundle had their effects as it issued, and keep them when the fault is raised here; where
the fence completes at once (fenceOp) the bundle has none. The spec does not say which, and it is the model's choice
(notes/assumptions/49.md). -/
def State.fenceDone (s : State) (e : Nat) : State :=
  match (s.engine e).fence with
  | none => s
  | some k =>
    let b := s.atBoundary e
    if !b.fenceMet e k.toNat || !s.unitRuns e (fun x => x.fence.isSome) then s
    else
      let x := b.engine e
      let y := x.fencePass
      if y.shortNow then b.setEngine e y
      else match (if k = 0 then none else x.longPending) with
        | some tr => b.takeTrap e tr x.fencePc
        | none => b.setEngine e y

def execFenceComplete (e : EngId) (s : State) : Out := .next (s.fenceDone e)

/-- endframe completes once stores and long operations have finished (R55); a fault that became pending in the wait is taken
at that bundle first (R240), a short FP fault before it (R256). An endframe that has not completed when an interrupt is accepted
waits in the frame and can complete only after the return, so a boundary during the handler overruns: R56 does not say so, and
it is the model's choice (notes/assumptions/49.md). -/
def State.endframeDone (s : State) (e : Nat) : State :=
  let b := s.atBoundary e
  let x := b.engine e
  if x.efWait && !x.efDone && b.fenceMet e 2 && s.unitRuns e (fun _ => false) then
    if x.shortNow then b.fpShortFault e
    else match x.longPending with
      | some tr => b.takeTrap e tr x.pc true
      | none => b.setEngine e { x with efDone := true }
  else s

/-- endframe completes in a cycle of the beat, stalls included; SECs_SLACK takes the last one of the section (R73). -/
def State.endframeComplete (s : State) (e : Nat) : State :=
  let s' := s.endframeDone e
  if e < 192 ∧ (s'.engine e).efDone ∧ !(s.engine e).efDone then
    s'.modSect (sectOf e) (fun x => { x with endCyc := max x.endCyc (s'.beatCycles e) })
  else s'

def execEndframeComplete (e : EngId) (s : State) : Out := .next (s.endframeComplete e)

end Sys2Proof.Machine
end

