-- ==== Sys2Proof/Machine/Issue.lean ====
section
/-! DEFINITION. BUNDLE_ISSUE: the boundary before a bundle (halts, faults, WATCHDOG, interrupts: R246, R247, R256, R451) and
the issue of the bundle (R136-R158, R171-R188, R207, R208, R460-R463); INTERRUPT_ACCEPT, HALT, ICACHE_FILL, timer and
watchdog expiry (R273, R275). -/

namespace Sys2Proof.Machine

/-! ## Fetch -/

/-- What fetching the bundle at the PC gives: a fault (with the word in which it found an uncorrectable error, and whether that is a word
of an I-cache line), an I-cache line that is missing, or its moves and the next bundle. -/
inductive Fetched where
  | fault (c : Nat) (ea : Word) (word : Option (Nat × Bool))
  | miss (base : Nat)
  | bundle (ms : List Move) (next : Nat) (tooLong : Bool)
  deriving DecidableEq, Repr

def State.fetchBundle (s : State) (e : Nat) : Fetched :=
  let x := s.engine e
  let p := x.pc.toNat
  let (ms, nx, long) := splitBundle (s.codeParcel e) 6 p []
  let ps := (List.range (nx - p)).map (fun i => p + i)
  let stop := ps.findSome? (fun q =>
    if s.fetchRefused e q then some (Fetched.fault 0x03 (BitVec.ofNat 36 q) none)
    else
      let ca := codeCanon e q
      let hit := cachedCode q && (x.iLine ca).isSome
      if cachedCode q && !hit && x.iDirect != some (ca / 32 * 32) then some (.miss (ca / 32 * 32))
      else if (if hit then x.iBad.contains (ca / 4) else s.isBad ca) then
        some (.fault 0x09 (BitVec.ofNat 36 (((codeByte q).getD 0) / 4 * 4)) (some (ca / 4 * 4, hit)))
      else none)
  match stop with
  | some f => f
  | none => .bundle ms nx long

/-- The section that counts the errors of engine e's caches. -/
def cacheSect (e : Nat) : Option Nat := if e < 192 then some (sectOf e) else none

/-- A word of an I-cache line with a single-bit error is read: corrected, and written back into the line (R288). That the write-back comes
with the read is the model's choice (notes/assumptions/49.md). -/
def State.iCorrect (s : State) (e k : Nat) : State :=
  let x := s.engine e
  if (x.iLine k).isSome && x.iSoft.contains (k / 4) then
    (s.setEngine e { x with iSoft := x.iSoft.filter (· != k / 4) }).eccCount (cacheSect e) (.engine e)
  else s

/-- The words of the parcels from p up to nx are read, in memory or in the I-cache: a single-bit error is corrected (R288). -/
def State.fetchSeen (s : State) (e p nx : Nat) : State :=
  let ca := codeCanon e p
  if !cachedCode p then s.softReads ca (2 * (nx - p)) (.engine e)
  else (wordsIn ca (2 * (nx - p))).foldl (fun st k => st.iCorrect e k) s

/-- The uncorrectable word of a fetch is logged (R289). A word of an I-cache line is logged at the address of the word it copies; those of
the SVE's caches are counted nowhere that the spec names. -/
def State.fetchLogged (s : State) (e : Nat) : Option (Nat × Bool) → State
  | some (ca, true) => (match cacheSect e with | some sc => s.eccLog sc ca | none => s)
  | some (ca, false) => s.eccUncorrectable ca
  | none => s

/-- The missing I-cache line arrives, in its tenth cycle or later (R156); during a halt the engine's cycles stand still, and the line may
arrive whenever the path delivers it. One with an uncorrectable word is logged, unless the fetch of the bundle will find that word, and
is not kept: memory supplies the bundles of that line (R289). -/
def State.iFill (s : State) (e way : Nat) : State :=
  match (s.engine e).icMiss with
  | none => s
  | some (base, ready) =>
    if !(s.engine e).halted && decide ((s.engine e).cyc < ready) then s
    else
      let s := s.softReads base 32 (.engine e)
      match s.badWord base 32 with
      | some k =>
        let s := s.modEngine e (fun x => { x with icMiss := none, iDirect := some base })
        (match s.fetchBundle e with
         | .fault 0x09 _ _ => s
         | _ => s.eccUncorrectable k)
      | none =>
        let x := s.engine e
        let key := (base / 32 % 256) * 2 + way
        let out := fun (l : List Nat) => l.filter (fun k => k / 8 != base / 32)
        s.setEngine e { x with
          icache := SMap.set (fun _ => none) x.icache key (some { base := base, words := s.words base 8 })
          icMiss := none, iDirect := none, iSoft := out x.iSoft, iBad := out x.iBad }

def execIcacheFill (e : EngId) (way : Fin 2) (s : State) : Out := .next (if s.engStalled e then s else s.iFill e way)

/-! ## Static checks (R139, R174, R177, R181, R182, R188, R208) -/

/-- A list names some number twice. -/
def hasDup : List Nat → Bool
  | [] => false
  | k :: l => l.contains k || hasDup l

/-- The cu triggers that may not stand in a delay slot (R208). -/
def slotIllegal (k : Nat) : Bool := decide (0x210 ≤ k ∧ k ≤ 0x21D) || k == 0x221 || k == 0x224

def State.moveIllegal (s : State) (e : Nat) (slot : Bool) (m : Move) : Bool :=
  m.bad || !isDest e m.dst ||
  (match m.src with
   | .sock k => !isSource e k || (decide (0x020 ≤ k ∧ k ≤ 0x02F) && macOrFpuDest m.dst)
   | .imm _ => false) ||
  ((m.dst == 0x19A || m.dst == 0x1DA) && !s.atomicOffered e 1) ||
  ((m.dst == 0x19B || m.dst == 0x19C || m.dst == 0x1DB || m.dst == 0x1DC) && !s.atomicOffered e 2) ||
  (slot && slotIllegal m.dst)

/-- The bundle raises ILLEGAL_SOCKET whatever its guards hold. -/
def State.bundleIllegal (s : State) (e : Nat) (ms : List Move) (tooLong : Bool) : Bool :=
  let l := ms.filter (fun m => !m.never)
  tooLong || l.any (s.moveIllegal e (s.engine e).branch.isSome) || hasDup (l.map (fun m => m.dst)) ||
    hasDup (l.filterMap (fun m => trigUnit m.dst))

/-! ## Reading sources (R137, R138, R142, R143) -/

def Engine.guard (x : Engine) (m : Move) : Bool := if m.neg then !x.pReg m.prd else x.pReg m.prd

/-- The value of a source socket. -/
def Engine.source (x : Engine) (k : Nat) : Word :=
  if k < 0x20 then x.dReg k
  else if k < 0x30 then x.aReg (k - 0x20)
  else if k < 0x38 then (if x.pReg (k - 0x30) then 1 else 0)
  else if 0x3E0 ≤ k then wordOfInt ((k : Int) - 0x3E8)
  else if k = 0x241 then x.stm.src
  else if k = 0x242 then x.stm.dst
  else if k = 0x244 then BitVec.ofNat 36 x.stm.cnt
  else x.result k

def Engine.srcVal (x : Engine) (m : Move) : Word := match m.src with | .imm w => w | .sock k => x.source k

/-- The latest flight of unit u. -/
def Engine.lastFlight (x : Engine) (u : Nat) : Option Flight :=
  (x.flights.filter (fun f => f.unit == u && !f.writes.isEmpty)).foldl (fun a f =>
    match a with | some g => if g.trig ≤ f.trig then some f else a | none => some f) none

/-- The unit whose result port a move reads. -/
def Move.resUnit (m : Move) : Option Nat := match m.src with | .sock k => Machine.resUnit k | .imm _ => none

/-- The flights that early reads of the bundle wait for (R143). -/
def Engine.earlyFlights (x : Engine) (units : List Nat) : List Flight :=
  units.filterMap (fun u => (x.lastFlight u).filter (fun f => decide (x.cyc < f.due) && decide (x.doneAt u ≤ f.trig)))

/-- The load units whose results the bundle reads too early: the loads return with commands of their own. -/
def Engine.earlyLoads (x : Engine) (units : List Nat) : List Nat :=
  units.filter (fun u => (u == uLsu0 || u == uLsu1) && x.earlyLoad u)

/-- A long operation whose result the bundle reads too early: no operation of its unit has completed since it was triggered. -/
def Engine.earlyLong (x : Engine) (units : List Nat) (u : Nat) (op : Option LongOp) : Option LongOp :=
  op.filter (fun l => units.contains u && decide (x.doneAt u ≤ l.trig))

/-! ## Delivering values (R137, R179, R180, R184) -/

/-- A value arrives at a destination that starts nothing. A move to an A register takes precedence over a post-increment that
would become visible with it (R187). -/
def Engine.deliver (x : Engine) (k : Nat) (w : Word) : Engine :=
  if k < 0x20 then x.setD k w
  else if k < 0x30 then
    { x.setA (k - 0x20) w with aInc := x.aInc.filter (fun p => !(p.1 == k - 0x20 && p.2.2 == x.cyc + 1)) }
  else if k < 0x38 then x.setP (k - 0x30) w
  else if k = 0x280 then x.limWrite false w
  else if k = 0x281 then x.limWrite true w
  else x.setPort k w

/-! ## Triggers -/

/-- The operation of a trigger socket, but for trap, rti and retg; nx is the bundle after its own. -/
def opAt (k nx : Nat) (s : State) (e : Nat) (t : Word) : OpOut :=
  if 0x04C ≤ k ∧ k ≤ 0x05F then aluOp (aluFns.getD (k - 0x04C) aluAdd) s e 0 t
  else if 0x06C ≤ k ∧ k ≤ 0x07F then aluOp (aluFns.getD (k - 0x06C) aluAdd) s e 1 t
  else if 0x090 ≤ k ∧ k ≤ 0x097 then bfuOp (bfuFns.getD (k - 0x090) (fun o _ _ => o)) s e t
  else if 0x0B0 ≤ k ∧ k ≤ 0x0B4 then let f := mulAt (k - 0x0B0); mulOp f.1 f.2 s e t
  else if 0x0D0 ≤ k ∧ k ≤ 0x0D3 then divTrig (k - 0x0D0) s e t
  else if 0x110 ≤ k ∧ k ≤ 0x12B then macAt (k - 0x110) s e t
  else if 0x150 ≤ k ∧ k ≤ 0x158 then let f := fpuFns.getD (k - 0x150) (fpFma, 5); fpuOp f.1 f.2 s e t
  else if k = 0x159 ∨ k = 0x15A then fplTrig k s e t
  else if 0x160 ≤ k ∧ k ≤ 0x167 then let f := fpuConv.getD (k - 0x160) (fpFma, 3); fpuOp f.1 f.2 s e t
  else if 0x190 ≤ k ∧ k ≤ 0x199 then (lsuForm (k - 0x190) 0 s e t).spad e t (lsuStores (k - 0x190))
  else if 0x19A ≤ k ∧ k ≤ 0x19C then (atomicOp (k - 0x199) 0 s e t).spad e t false
  else if 0x1A0 ≤ k ∧ k ≤ 0x1A9 then lsuInc (k - 0x1A0) 0 s e t
  else if 0x1D0 ≤ k ∧ k ≤ 0x1D9 then (lsuForm (k - 0x1D0) 1 s e t).spad e t (lsuStores (k - 0x1D0))
  else if 0x1DA ≤ k ∧ k ≤ 0x1DC then (atomicOp (k - 0x1D9) 1 s e t).spad e t false
  else if 0x1E0 ≤ k ∧ k ≤ 0x1E9 then lsuInc (k - 0x1E0) 1 s e t
  else if 0x210 ≤ k ∧ k ≤ 0x21A then branchOp (k - 0x210) nx s e t
  else if k = 0x21E then fenceOp 1 s e
  else if k = 0x21F then fenceOp 0 s e
  else if k = 0x220 then fenceOp 2 s e
  else if k = 0x221 then isyncOp s e
  else if k = 0x222 then csrrOp s e t
  else if k = 0x223 then csrwOp s e t
  else if k = 0x224 then endframeOp s e
  else if 0x250 ≤ k ∧ k ≤ 0x255 then stmOp (k - 0x250) s e t
  else match k with
    | 0x270 => chioRdOp s e t
    | 0x271 => chioWrOp s e t
    | 0x272 => chioPopOp true s e t
    | 0x273 => chioPopOp false s e t
    | 0x274 => chioPushOp s e t
    | 0x275 => chioOccOp s e t
    | _ => .plain s

/-- The precise fault of a trigger with its operands in place. -/
def State.trigFault (s : State) (e k nx : Nat) (t : Word) : Option OpTrap :=
  if k = 0x21B then trapCheck s e t
  else if k = 0x21C then returnFault s e true
  else if k = 0x21D then returnFault s e false
  else match opAt k nx s e t with | .trap tr => some tr | _ => none

/-- 0 for a precise fault of the bundle, 1 for a pending long FP fault and 2 for a LONGOP that a trigger delivers (R256). -/
def pendingKind (tr : OpTrap) : Nat := match tr with | .fpLong => 1 | .longop => 2 | _ => 0

/-- The fault of a bundle among its triggers' faults, in bus order: a precise one first, then a pending long FP fault, then
a LONGOP (R256). -/
def pickFault (l : List OpTrap) : Option OpTrap :=
  (l.find? (fun t => pendingKind t == 0)).or ((l.find? (fun t => pendingKind t == 1)).or (l.find? (fun t => pendingKind t == 2)))

/-! ## Comparators (R460-R462) -/

/-- A control word's qualifiers hold (R461). -/
def State.qualifies (s : State) (e : Nat) (ctl : Word) : Bool :=
  (!bit ctl 27 || fld ((s.engine e).csrW e 0x120) 15 0 == fld (s.reg (.DBG_ECTL e)) 15 0) &&
  (!bit ctl 26 || bit (s.reg (.DBG_ESTS e)) (fld ctl 25 23))

def State.cmpAddr (s : State) (e k : Nat) : Nat := (SMap.get (fun _ => 0) s.dbg.cmp (e * 8 + k)).toNat

/-- The last address that comparator j of a group whose first number is `base` covers. -/
def State.cmpHi (s : State) (e base j : Nat) (ctl : Word) : Nat :=
  if bit ctl 28 ∧ j % 2 = 0 then s.cmpAddr e (base + j + 1) else s.cmpAddr e (base + j)

/-- Comparator j only bounds the range of its even neighbour (R460). -/
def isBound (ctl : Nat → Word) (j : Nat) : Bool := j % 2 == 1 && bit (ctl (j - 1)) 28

/-- The instruction comparators that match the bundle at p. -/
def State.brkHits (s : State) (e p : Nat) : List Nat :=
  let ctl := fun j => s.reg (.DBG_BCTL e j)
  (List.range 4).filter (fun j =>
    bit (ctl j) 35 && !isBound ctl j && s.qualifies e (ctl j) && decide (s.cmpAddr e j ≤ p ∧ p ≤ s.cmpHi e 0 j (ctl j)))

/-- The access of an lsu trigger: address, size, reads, writes. -/
def lsuAccess (x : Engine) (k : Nat) (t : Word) : Option (Nat × Nat × Bool × Bool) :=
  let u := if 0x1C0 ≤ k then 0x040 else 0
  let i := k - u
  let size := fun (j : Nat) => [4, 2, 2, 1, 1, 8, 4, 2, 1, 8].getD j 4
  if !(decide (0x190 ≤ k ∧ k ≤ 0x1A9) || decide (0x1D0 ≤ k ∧ k ≤ 0x1E9)) then none
  else if i ≤ 0x199 then some (t.toNat, size (i - 0x190), decide (i < 0x196), decide (0x196 ≤ i))
  else if i ≤ 0x19C then some (t.toNat, 4, i != 0x19C, i != 0x19B)
  else some ((x.aReg (incSpec t).2.2).toNat, size (i - 0x1A0), decide (i < 0x1A6), decide (0x1A6 ≤ i))

/-- The watchpoints that match an access, with the lowest matching byte address. -/
def State.wchHits (s : State) (e : Nat) (acc : Nat × Nat × Bool × Bool) : List (Nat × Nat) :=
  let (a, n, rd, wr) := acc
  let ctl := fun j => s.reg (.DBG_WCTL e j)
  (List.range 4).filterMap (fun j =>
    if bit (ctl j) 35 && !isBound ctl j && s.qualifies e (ctl j) && ((rd && bit (ctl j) 20) || (wr && bit (ctl j) 21)) then
      let lo := s.cmpAddr e (4 + j)
      let hi := s.cmpHi e 4 j (ctl j)
      ((List.range n).find? (fun i => decide (lo ≤ a + i ∧ a + i ≤ hi))).map (fun i => (j, a + i))
    else none)

/-- A match: the hit latch sets, the Gong may fire. Comparator number 0-3 BRK, 4-7 WCH. -/
def State.cmpHit (s : State) (e c : Nat) : State :=
  let ctl := if c < 4 then s.reg (.DBG_BCTL e c) else s.reg (.DBG_WCTL e (c - 4))
  let s := s.setReg (.DBG_ESTS e) (setBit (s.reg (.DBG_ESTS e)) c true)
  if bit ctl 32 then s.fireGong (fld ctl 31 29) else s

def State.cmpAct (s : State) (e c : Nat) : Nat :=
  fld (if c < 4 then s.reg (.DBG_BCTL e c) else s.reg (.DBG_WCTL e (c - 4))) 34 33

/-! ## Executing the triggers of a bundle -/

/-- A trigger of mul that finds the unit busy when it arrives is held (R144). -/
def Engine.mulBusy (x : Engine) (k : Nat) : Bool :=
  trigUnit k == some uMul && (match x.lastFlight uMul with | some f => decide (x.cyc + 1 < f.due) | none => false)

/-- One trigger of the bundle: the operation starts; a result is in flight until its cycle (R141). -/
def State.trigger (s : State) (e k nx : Nat) (t : Word) : State :=
  let u := (trigUnit k).getD 0
  let x := s.engine e
  match (if x.mulBusy k then .held { socket := k, a := x.port 0x0A0, t := t, ctl := x.csrW e 0x050, pc := x.pc, branch := x.branch }
    else opAt k nx s e t) with
  | .ok r => r.st.modEngine e (fun x =>
      if r.writes.isEmpty && r.flags == 0 then x
      else { x with flights := insertFlight { unit := u, due := x.cyc + 1 + r.lat, trig := x.cyc, writes := r.writes, flags := r.flags,
                                              enabled := r.enabled, pc := x.pc } x.flights })
  | .held h => (s.modEngine e (fun x => { x with held := x.held ++ [h] })).waitBegin e
  | .trap _ => s

/-- The triggers in the order in which their effects are applied: by unit, the control unit last. The lsu come before chio, so a
push sees a store triggered in its own bundle; R86 leaves that open and it is the model's choice (notes/assumptions/49.md). -/
def trigOrder (l : List (Nat × Word)) : List (Nat × Word) :=
  (List.range 14).flatMap (fun u => if u = uCu then [] else l.filter (fun p => trigUnit p.1 == some u)) ++
    l.filter (fun p => trigUnit p.1 == some uCu)

/-- The sockets of fdiv and fsqrt, and of div. -/
def isFpl (k : Nat) : Bool := k == 0x159 || k == 0x15A
def isDiv (k : Nat) : Bool := decide (0x0D0 ≤ k ∧ k ≤ 0x0D3)

/-- The cycles that the triggers of a deterministic-mode bundle stall for a busy mul, div, fdiv or fsqrt (R144, R150, R199, R200): until
the operation in progress ends in the cycle in which the trigger arrives. stm takes no fixed time, so its held triggers stay in
Engine.held, as every held trigger of a performance-mode engine does. -/
def Engine.unitWait (x : Engine) (ts : List (Nat × Word)) : Nat :=
  let left := fun (o : Option Nat) => match o with | some due => due - (x.cyc + 1) | none => 0
  max (if ts.any (fun p => trigUnit p.1 == some uMul) then left ((x.lastFlight uMul).map (·.due)) else 0)
    (max (if ts.any (fun p => isDiv p.1) then left (x.divOp.map (·.due)) else 0)
      (if ts.any (fun p => isFpl p.1) then left (x.fplOp.map (·.due)) else 0))

/-- In a stall only the awaited operations advance: they end in the cycle in which the triggers arrive. -/
def Engine.unitFree (x : Engine) (ts : List (Nat × Word)) : Engine :=
  let soon := fun (l : LongOp) => { l with due := min l.due (x.cyc + 1) }
  { x with
    flights := if ts.any (fun p => trigUnit p.1 == some uMul) then
      x.flights.map (fun f => if f.unit = uMul then { f with due := min f.due (x.cyc + 1) } else f) else x.flights
    divOp := if ts.any (fun p => isDiv p.1) then x.divOp.map soon else x.divOp
    fplOp := if ts.any (fun p => isFpl p.1) then x.fplOp.map soon else x.fplOp }

/-! ## The fate of the bundle at a boundary: the state before it (its waits behind it) and after -/

inductive Fate where
  | fault (t : OpTrap) (pre post : State)          -- a fault that the bundle raises or delivers
  | halt (cause comp : Nat) (pre post : State)     -- a comparator halts before the bundle
  | wait (s : State)                               -- the bundle cannot issue yet
  | issue (pre post : State)                       -- the bundle issues

/-- The bundle reads results too early that complete by time (R143). -/
def Engine.readsEarly (x : Engine) (units : List Nat) : Bool :=
  !(x.earlyFlights units).isEmpty || (x.earlyLong units uDiv x.divOp).isSome || (x.earlyLong units uFpl x.fplOp).isSome

/-- The results that a deterministic-mode bundle reads too early complete: in a stall only they advance (R143, R150). -/
def State.awaitResults (s : State) (e : Nat) (units : List Nat) : State :=
  let x := s.engine e
  let fs := x.earlyFlights units
  let dv := x.earlyLong units uDiv x.divOp
  let fp := x.earlyLong units uFpl x.fplOp
  let dues := fs.map (·.due) ++ (dv.map (·.due)).toList ++ (fp.map (·.due)).toList
  let d := dues.foldl (fun a c => max a (c - x.cyc)) 0
  if dues.isEmpty then s
  else
    (s.countStall e d).modEngine e (fun x =>
      let rest := x.flights.filter (fun f => !fs.contains f)
      let y := fs.foldl (fun y f => y.land e { f with due := x.cyc }) { x with flights := rest }
      let y := match dv with | some l => y.divDone l x.cyc | none => y
      match fp with | some l => y.fplDone e l x.cyc | none => y)

/-- A trigger of fdiv or fsqrt of a deterministic-mode engine meets an operation that will make a fault pending: the section stalls until
it completes, and the trigger then delivers the fault (R144, R150, R240). -/
def State.awaitFpl (s : State) (e : Nat) : State :=
  let x := s.engine e
  match x.fplOp with
  | some l =>
    let d := l.due - x.cyc
    let s := if d = 0 then s else s.countStall e d
    s.modEngine e (fun x => x.fplDone e l x.cyc)
  | none => s

/-- The engine as the triggers of a bundle find it on their arrival: what its moves deliver is in place, and the post-increments that
are visible by then. -/
def Engine.arrived (x : Engine) (ms : List Move) : Engine :=
  ((ms.filter (fun m => x.guard m && (trigUnit m.dst).isNone)).foldl (fun y m => y.deliver m.dst (x.srcVal m)) x).applyInc (x.cyc + 1)

/-- The parcels that the code stores of a bundle write, as the engine stands when its triggers arrive: from ca, n bytes. -/
def State.codeStores (s : State) (e : Nat) (ts : List (Nat × Word)) : List (Nat × Nat) :=
  let x := s.engine e
  ts.filterMap (fun p => match lsuAccess x p.1 p.2 with
    | some (a, n, _, true) => if (List.range n).any (fun j => s.isCode e (a + j)) then some (canonOf e a, n) else none
    | _ => none)

/-- The code address to which the engine goes from the bundle that has n as its next in code order. -/
def Engine.pathNext (x : Engine) (n : Nat) : Nat × Engine :=
  match x.branch with
  | some b =>
    if 1 < b.ds then (n, { x with branch := some { b with ds := b.ds - 1 } })
    else (if b.taken != b.late then b.target.toNat else n, { x with branch := none })
  | none => (n, x)

/-- A written parcel lies in one of the two bundles fetched after the one whose next is nx, or in the line buffer, which holds the
line last fetched (R156, R167). -/
def State.codeMatch (s : State) (e nx : Nat) (l : List (Nat × Nat)) : Bool :=
  let (p1, x) := (s.engine e).pathNext nx
  let n1 := s.codeNext e p1
  let (p2, _) := x.pathNext n1
  let n2 := s.codeNext e p2
  let hits := fun (ca n : Nat) => l.any (fun w => overlaps w.1 w.2 ca n)
  hits (codeCanon e p1) (2 * (n1 - p1)) || hits (codeCanon e p2) (2 * (n2 - p2)) ||
    (cachedCode p2 && hits (codeCanon e p2 / 32 * 32) 32)

/-- The extra cycles of a bundle with a code store, a fence or isync (R163, R167): after a code store the next bundle issues in cycle
t+5, in performance mode without a match in cycle t+2. -/
def State.extraCycles (s : State) (e nx : Nat) (ts : List (Nat × Word)) : Nat :=
  let cs := s.codeStores e ts
  if ts.any (fun p => p.1 == 0x221) then 4
  else if !cs.isEmpty then (if (s.engine e).perf e && !s.codeMatch e nx cs then 1 else 4)
  else if ts.any (fun p => decide (0x21E ≤ p.1 ∧ p.1 ≤ 0x220)) then 1 else 0

/-- The prediction of a branch failed (R157): the fetch unit predicts taken only an unconditional branch or one whose target
is an immediate moved in its own bundle. -/
def Engine.mispredicted (x : Engine) (e : Nat) (ms : List Move) (k : Nat) (taken : Bool) : Bool :=
  x.perf e &&
  (let immTgt := ms.any (fun m => m.dst == 0x201 && x.guard m && (match m.src with | .imm _ => true | .sock _ => false))
   let may := bit (x.csrW e 0) 11 && (decide (k ≤ 0x212) || immTgt)
   let c := SMap.get (fun _ => (1 : BitVec 2)) x.pred (x.pc.toNat % 256)
   (may && decide (2 ≤ c.toNat)) != taken)

/-- The bundle issues: values arrive, operations start, and the engine goes on (R137, R140, R153, R154). s has the results of
the present cycle in place, `ms` are the moves whose guards hold, `ts` their triggers, `nx` the next bundle. -/
def State.issueGo (s : State) (e : Nat) (all ms : List Move) (nx : Nat) : State :=
  let x := s.engine e
  let vals := ms.map (fun m => (m.dst, x.srcVal m))
  let ts := vals.filter (fun p => (trigUnit p.1).isSome)
  let old := x.branch
  let x1 := (vals.filter (fun p => (trigUnit p.1).isNone)).foldl (fun y p => y.deliver p.1 p.2) x
  let x1 := { x1 with bundlePc := x.pc, exemptOnce := false, fresh := false, early := [] }
  let extra := (s.setEngine e (x1.applyInc (x1.cyc + 1))).extraCycles e nx ts
  -- the triggers held by a busy unit of fixed latency stall the section here (R144, R150)
  let d := if x1.perf e then 0 else x1.unitWait ts
  let s := s.setEngine e x1
  let s := if d = 0 then s else (s.countStall e d).modEngine e (fun y => y.unitFree ts)
  let s := s.csrSettle e
  let s := (trigOrder ts).foldl (fun st p =>
    if p.1 = 0x21B then st.trapGo e p.2 nx
    else if p.1 = 0x21C then st.returnGo e true
    else if p.1 = 0x21D then st.returnGo e false
    else st.trigger e p.1 nx p.2) s
  let s := s.modEngine e (fun y =>
    let y := match ts.find? (fun p => decide (0x210 ≤ p.1 ∧ p.1 ≤ 0x21A)), y.branch with
      | some p, some b => { y with branch := some { b with late := x.mispredicted e all p.1 b.taken } }
      | _, _ => y
    if ts.any (fun p => decide (0x21B ≤ p.1 ∧ p.1 ≤ 0x21D)) then y
    else
      let y := { y with cyc := y.cyc + 1 + extra }
      if y.efWait && !x.efWait then y else y.endBundle old (BitVec.ofNat 36 nx))
  s.modEngine e (fun y =>
    match y.stepLeft with
    | some n =>
      let y := { y with stepIssued := y.stepIssued + 1 }
      if n ≤ y.stepIssued then (if y.haltReq.isSome then y else { y with haltReq := some 5 }) else y
    | none => y)

/-- The bundle misses in the I-cache: the line is fetched, which takes at least 10 cycles (R156). -/
def State.iMiss (s : State) (e base : Nat) : State :=
  let x := s.engine e
  if x.icMiss.map (·.1) = some base then s else s.setEngine e { x with icMiss := some (base, x.cyc + 10) }

/-- The bundle reads the results of loads that have not returned: the wait begins, once (R143, R150). -/
def State.earlyWait (s : State) (e : Nat) (us : List Nat) : State :=
  if (s.engine e).early = us then s else (s.modEngine e (fun x => { x with early := us })).waitBegin e

/-- The bundle at the PC at this boundary. -/
def State.fate (s : State) (e : Nat) : Fate :=
  match s.fetchBundle e with
  | .fault c ea k => .fault (.code c ea) s (s.fetchLogged e k)
  | .miss base => .wait (s.iMiss e base)
  | .bundle all nx tooLong =>
    let s := s.fetchSeen e (s.engine e).pc.toNat nx
    if s.bundleIllegal e all tooLong then .fault (.code 0x01 0) s s
    else
      let x := s.engine e
      let ms := all.filter (fun m => !m.never && x.guard m)
      let units := ms.filterMap Move.resUnit
      let loads := x.earlyLoads units
      let trigs := (ms.map (fun m => m.dst)).filter (fun k => (trigUnit k).isSome)
      if !loads.isEmpty then .wait (s.earlyWait e loads)
      else if x.perf e && (x.readsEarly units || (x.fplRaises && trigs.any isFpl)) then .wait s
      else
        let s' := s.awaitResults e units
        let s' := if (s'.engine e).fplRaises && trigs.any isFpl then s'.awaitFpl e else s'
        let x := s'.engine e
        let vals := ms.map (fun m => (m.dst, x.srcVal m))
        let ts := vals.filter (fun p => (trigUnit p.1).isSome)
        -- a long operation that ends in the cycle in which a fence arrives has completed for it
        let land := fun (st : State) =>
          if trigs.any (fun k => k == 0x21E || k == 0x220) then st.modEngine e (fun x => x.landLong e (x.cyc + 1)) else st
        -- the operands as they stand when the triggers arrive
        let s1 := (land (s'.setEngine e (x.arrived ms))).csrSettle e
        let brk := if x.exemptOnce then [] else s'.brkHits e x.pc.toNat
        let wch := if x.exemptOnce then []
          else ts.flatMap (fun p => match lsuAccess (s1.engine e) p.1 p.2 with | some a => s'.wchHits e a | none => [])
        let hits := brk ++ wch.map (fun p => p.1 + 4)
        let s2 := hits.foldl (fun st c => st.cmpHit e c) s'
        match hits.find? (fun c => s'.cmpAct e c == 0) with
        | some c => .halt (if c < 4 then 3 else 4) c s' s2
        | none =>
          match hits.find? (fun c => s'.cmpAct e c == 1) with
          | some c =>
            let ea := if c < 4 then x.pc else BitVec.ofNat 36 (((wch.find? (fun p => p.1 + 4 == c)).map (fun p => p.2)).getD 0)
            .fault (.code 0x12 ea) s' s2
          | none =>
            match pickFault (ts.filterMap (fun p => s1.trigFault e p.1 nx p.2)) with
            | some tr => .fault tr s' ((land s2).trapLogged e tr)
            | none => .issue s' ((land s2).issueGo e all ms nx)

/-! ## Dual issue (R158) -/

/-- The sources and the destinations of a bundle's moves that are not "never". -/
def readsOf (l : List Move) : List Nat := l.filterMap (fun m => match m.src with | .sock k => some k | .imm _ => none)

/-- The A registers that the post-increment triggers of a bundle write. -/
def Engine.incRegs (x : Engine) (l : List Move) : List Nat :=
  l.filterMap (fun m =>
    if (decide (0x1A0 ≤ m.dst ∧ m.dst ≤ 0x1A9) || decide (0x1E0 ≤ m.dst ∧ m.dst ≤ 0x1E9)) then some (0x020 + (incSpec (x.srcVal m)).2.2) else none)

/-- Every word of a bundle at p whose next is nx is in the I-cache, the line being fetched included. -/
def State.inCache (s : State) (e p nx : Nat) : Bool :=
  (List.range (nx - p)).all (fun i => cachedCode (p + i) && ((s.engine e).iLine (codeCanon e (p + i))).isSome)

/-- R158: the bundle at the PC (moves `a`, next bundle `nx`) and the one after it (`b`, next `ny`) issue in one cycle. -/
def State.pairOk (s : State) (e : Nat) (a b : List Move) (nx ny : Nat) : Bool :=
  let x := s.engine e
  let p := x.pc.toNat
  let la := a.filter (fun m => !m.never)
  let lb := b.filter (fun m => !m.never)
  let on := fun (l : List Move) (i : Nat) => match l[i]? with | some m => !m.never | none => false
  let trig := fun (l : List Move) => l.filterMap (fun m => trigUnit m.dst)
  let writes := la.map (fun m => m.dst) ++ x.incRegs la
  let ports := (readsOf lb).filterMap Machine.resUnit
  let stores := fun (l : List Move) => (s.setEngine e (x.arrived l)).codeStores e
    (l.filterMap (fun m => if x.guard m && (trigUnit m.dst).isSome then some (m.dst, x.srcVal m) else none))
  let soon := ((x.flights.filter (fun f => f.due == x.cyc + 1)).flatMap (fun f => f.writes.map (fun w => w.1))) ++
    (match x.divOp with | some l => if l.due = x.cyc + 1 then [0x0C4] else [] | none => []) ++
    (match x.fplOp with | some l => if l.due = x.cyc + 1 then [0x145] else [] | none => [])
  x.perf e && bit (x.csrW e 0) 10 && x.branch.isNone &&
  -- both bundles are in the line buffer or the I-cache
  s.inCache e p nx && s.inCache e nx ny &&
  -- the buses are disjoint
  (List.range 6).all (fun i => !(on a i && on b i)) &&
  -- no branch bundle, cu trigger or code store in either
  !(trig la ++ trig lb).contains uCu && (stores la).isEmpty && (stores lb).isEmpty &&
  -- no unit is triggered by both
  (trig lb).all (fun u => !(trig la).contains u) &&
  -- the second reads nothing that the first writes or triggers
  (readsOf lb).all (fun k => !writes.contains k) && lb.all (fun m => !(m.prd != 0 && writes.contains (0x030 + m.prd))) &&
  ports.all (fun u => !(trig la).contains u) && !((readsOf lb).contains 0x284 && (writes.contains 0x280 || writes.contains 0x281)) &&
  -- the second writes nothing that the first writes
  (lb.map (fun m => m.dst) ++ x.incRegs lb).all (fun k => !writes.contains k) &&
  -- the second reads no port that a completion changes in the following cycle
  (readsOf lb).all (fun k => !soon.contains k)

/-- The bundle at the PC and its successor are a pair. -/
def State.pairs (s : State) (e : Nat) : Bool :=
  match s.fetchBundle e with
  | .bundle a nx _ =>
    (match (s.modEngine e (fun x => { x with pc := BitVec.ofNat 36 nx })).fetchBundle e with
     | .bundle b ny _ => s.pairOk e a b nx ny
     | _ => false)
  | _ => false

/-- The second bundle of a pair issues in the cycle of the first, unless a halt request waits, or it faults, halts or has to wait: it is
then left to the next boundary. -/
def State.issueSecond (s : State) (e : Nat) : State :=
  if (s.engine e).haltReq.isSome || (s.engine e).waits then s
  else
    match (s.modEngine e (fun x => { x with cyc := x.cyc - 1 })).fate e with
    | .issue _ t => t
    | _ => s

/-! ## Interrupts (R246-R249, R240, R258) -/

/-- Source k has been asserted for long enough. -/
def Engine.irqReady (x : Engine) (k : Nat) : Bool := x.irqSince.any (fun p => p.1 == k && decide (p.2 ≤ x.cyc))

/-- The interrupt that qualifies: highest LEVEL, then lowest vector. An unreadable entry counts as LEVEL 7 (R248). -/
def State.chooseInt (s : State) (e : Nat) : Option (Nat × VecRead) :=
  let x := s.engine e
  ((List.range 14).foldl (fun (best : Option (Nat × Nat × VecRead)) k =>
    if !(s.intPending e k && x.irqReady k) then best
    else
      let v := s.vector e (0x20 + k)
      let lv := match v with | .entry w => fld w 33 31 | .unreadable _ => 7 | .invalid => 0
      if lv ≤ x.imask.toNat then best
      else match best with
        | some (b, _, _) => if b < lv then some (lv, 0x20 + k, v) else best
        | none => some (lv, 0x20 + k, v)) none).map (fun t => t.2)

/-- An access split between two banks is not complete in both halves (R247, R278). -/
def Engine.splitOpen (x : Engine) : Bool :=
  (x.loads0 ++ x.loads1).any (fun l => l.fwd.isNone && (splitAt l.addr l.size).isSome) ||
    (x.sb ++ x.sbWait).any (fun b => b.split) || x.outStores.any (fun o => o.split)

/-- The boundary is an acceptance point (R247): no branch delay slot is pending (R208), the section is not stalled, no
fence or held trigger is awaited, no split access is half performed, and a bundle has issued since the last entry or return. -/
def State.acceptPoint (s : State) (e : Nat) : Bool :=
  let x := s.engine e
  x.branch.isNone && x.fence.isNone && x.held.isEmpty && !x.fresh && !x.splitOpen && !s.engStalled e

/-- An interrupt is accepted. -/
def State.acceptInt (s : State) (e v : Nat) (r : VecRead) : State :=
  let x := s.engine e
  match r with
  | .unreadable a => s.vectorFail e v 1 x.pc x.efWait a
  | .entry w => (s.vectorSeen e v).enter e 1 v 0 0 x.pc (handlerRing w x) (fld w 33 31) (fld w 30 0) x.efWait
  | .invalid => s

/-- WATCHDOG is taken (R275). -/
def State.wdtFault (s : State) (e : Nat) : State :=
  let x := s.engine e
  (s.setEngine e { x with wdtPend := none }).faultEntry e 0x11 0 x.pc x.efWait

/-- WATCHDOG is pending and acceptable at the present boundary (R247, R275). -/
def Engine.wdtReady (x : Engine) : Bool := match x.wdtPend with | some c => decide (c ≤ x.cyc) | none => false

/-- The pending fault that a held trigger delivers, its unit being free (R240, R258). -/
def State.heldFault (s : State) (e : Nat) : Option State := match s.fplDeliver e with | some t => some t | none => s.stmDeliver e

/-- The events of a boundary that stand behind the bundle's precise fault, in the order of R256: a pending short FP fault; a pending
long FP fault or LONGOP that a held trigger delivers, or the acceptance of an interrupt, which then stays pending (R240, R258);
WATCHDOG; the interrupt. `none` when there is none. -/
def State.boundaryEvent (s : State) (e : Nat) : Option State :=
  let x := s.engine e
  if x.shortNow then some (s.fpShortFault e)
  else if (s.heldFault e).isSome then s.heldFault e
  else if !s.acceptPoint e then none
  else
    let int := if x.stepNoInt then none else s.chooseInt e
    if int.isSome && x.fpLong.isSome then s.fpLongFault e x.pc x.efWait
    else if int.isSome && x.longop.isSome then s.longopFault e x.pc x.efWait
    else if x.wdtReady then some (s.wdtFault e)
    else match int with
      | some (v, r) => some (s.acceptInt e v r)
      | none => none

/-- The fault of a boundary's bundle is taken: a precise one before every other event; one that a trigger delivers behind a pending
short FP fault, and stays pending then (R240, R256). -/
def State.bundleFault (s : State) (e : Nat) (tr : OpTrap) (pre : State) : State :=
  let x := pre.engine e
  if pendingKind tr != 0 && x.shortNow then pre.fpShortFault e else s.takeTrap e tr x.pc

/-- A comparator has matched the bundle at the PC and waits for the boundary to allow its halt: the bundle does not issue, and is not
matched again (R451, R462), whichever request the halt answers. -/
def Engine.cmpHalting (x : Engine) : Bool := x.haltReq.isSome && x.cmpStop

/-- A comparator whose ACT is halt has matched the bundle at the PC: it requests a halt unless a request waits already, and either
way the bundle does not issue. -/
def State.cmpHalt (s : State) (e cause comp : Nat) : State :=
  ((s.requestHalt e cause comp).modEngine e (fun x => { x with cmpStop := true })).haltTry e

/-- The bundle at the PC of a deterministic-mode engine begins a section stall before it can issue: it reads a result too early, or
waits for the fault that its trigger delivers (R143, R150, R240). Its static checks come first. -/
def State.beginsStall (s : State) (e : Nat) : Bool :=
  let x := s.engine e
  !x.perf e && (match s.fetchBundle e with
    | .bundle all _ long =>
      let ms := all.filter (fun m => !m.never && x.guard m)
      let units := ms.filterMap Move.resUnit
      !s.bundleIllegal e all long && (x.readsEarly units || !(x.earlyLoads units).isEmpty || (x.fplRaises && ms.any (fun m => isFpl m.dst)))
    | _ => false)

/-- BUNDLE_ISSUE: one boundary of engine e. A boundary at which a stall begins lets only a pending short FP fault in, which belongs to
it (R239); the others wait for the end of the stall (R247). In performance mode a boundary that finds the engine waiting is one cycle
of the wait. `ups`: errors that have arisen in words of memory by then. -/
def State.bundleIssue (s : State) (e : Nat) (ups : List Upset) : State :=
  let s := (s.upset ups).upsetCache e ups
  if !s.mayRun e then s
  else
    let s := s.atBoundary e
    let x := s.engine e
    if x.haltReq.isSome && s.canHalt e then s.haltTake e
    else if x.cmpHalting then s
    else if x.efWait then
      (match s.boundaryEvent e with
       | some s => s
       | none => s.setEngine e { x with fresh := false, cyc := x.cyc + 1 })
    else if x.waits then (s.boundaryEvent e).getD (s.waitCycle e)
    else if s.beginsStall e && x.shortNow then s.fpShortFault e
    else
      match s.fate e with
      | .fault tr pre post => post.bundleFault e tr pre
      | .halt cause comp pre post =>
        (match pre.boundaryEvent e with
         | some t => t
         | none => post.cmpHalt e cause comp)
      | .wait t => if s.beginsStall e then t else (s.boundaryEvent e).getD (t.waitCycle e)
      | .issue pre post =>
        (match pre.boundaryEvent e with
         | some t => t
         | none => if pre.pairs e then post.issueSecond e else post)

def execBundleIssue (e : EngId) (ups : List Upset) (s : State) : Out := .next (s.bundleIssue e ups)

/-- The bundle at the boundary raises a precise fault, which comes before an interrupt (R256). -/
def State.preciseFault (s : State) (e : Nat) : Bool :=
  let x := s.engine e
  !x.efWait && !x.waits && !s.beginsStall e && (match s.fate e with | .fault tr _ _ => pendingKind tr == 0 | _ => false)

/-- A halt comes before every event of the boundary, or a waiting one keeps the bundle from issuing (R451, R462). -/
def State.haltFirst (s : State) (e : Nat) : Bool :=
  let x := s.engine e
  (x.haltReq.isSome && s.canHalt e) || x.cmpHalting

/-- FP_SHORT_FAULT: the event of the boundary is a pending short FP fault (R239). A boundary with an event before it, the bundle's
precise fault among them (R256), or with no such fault, changes nothing. -/
def State.shortFault (s : State) (e : Nat) : State :=
  if !s.mayRun e then s
  else
    let b := s.atBoundary e
    let x := b.engine e
    if b.haltFirst e || b.preciseFault e || !x.shortNow then s else b.fpShortFault e

def execFpShortFault (e : EngId) (s : State) : Out := .next (s.shortFault e)

/-- INTERRUPT_ACCEPT: the event of the boundary is the acceptance of an interrupt (or of the long fault or LONGOP that takes its
place). At a boundary with another event, or none, nothing happens: the interrupt stays pending. -/
def State.interruptAccept (s : State) (e : Nat) : State :=
  if !s.mayRun e then s
  else
    let b := s.atBoundary e
    let x := b.engine e
    if b.haltFirst e || b.preciseFault e || x.shortNow || (b.heldFault e).isSome || x.stepNoInt || !b.acceptPoint e ||
        (!x.efWait && b.beginsStall e) then s
    else if (b.chooseInt e).isNone || (x.wdtReady && x.fpLong.isNone && x.longop.isNone) then s
    else (b.boundaryEvent e).getD s

def execInterruptAccept (e : EngId) (s : State) : Out := .next (s.interruptAccept e)

/-- HALT: a pending halt request takes effect, with what the boundary finds done (R449, R451). -/
def State.haltNow (s : State) (e : Nat) : State :=
  if (s.engine e).haltReq.isSome && s.canHalt e && !(s.engine e).halted then (s.atBoundary e).haltTake e else s

def execHalt (e : EngId) (s : State) : Out := .next (s.haltNow e)

end Sys2Proof.Machine
end

