-- ==== Sys2Proof/Machine/Link.lean ====
section
/-! DEFINITION. Channel Link (chapter 12): what a lane sends in a downstream slot, what it makes of a received codeword and
of a management message, and the commands of chapters 12 and 13. -/

namespace Sys2Proof.Machine

/-! ## Downstream (R327, R332, R334, R338, R346) -/

def mgmtHeader (m : Msg) : Word :=
  setBit (setFld (setFld (put 35 27 m.mtype) 26 18 m.words.length) 17 9 m.seq) 8 m.ackReq

/-- The messages at the front of a queue that fit `room` words, and the rest, in the order they were queued (R340, R342). -/
def packMsgs : Nat → List Msg → List Msg × List Msg
  | _, [] => ([], [])
  | room, m :: l =>
    if m.words.length + 1 ≤ room then let (a, b) := packMsgs (room - m.words.length - 1) l; (m :: a, b) else ([], m :: l)

/-- How many ACKs fit, and their header words. -/
def ackWords (room : Nat) (acks : List Nat) : List Word :=
  (acks.take room).map (fun q => setFld (put 35 27 0x001) 17 9 q)

/-- Words padded with zeros to n. -/
def padTo (n : Nat) (ws : List Word) : List Word := (ws ++ List.replicate n 0).take n

/-- Lane n fills `room` words with messages: ACKs first (R342), which leave `keep` words to the others. A sent message that asks for an
ACK waits for it. -/
def State.packFrom (s : State) (n room keep : Nat) : List Word × State :=
  let x := s.ln n
  let aw := ackWords (room - keep) x.acks
  let (ms, rest) := packMsgs (room - aw.length) x.out
  let ws := aw ++ ms.flatMap (fun m => mgmtHeader m :: m.words)
  let wait := (ms.filter (fun m => m.ackReq)).map (fun m => { m with attempts := m.attempts + 1 })
  (padTo room ws, s.setLn n { x with acks := x.acks.drop (room - keep), out := rest, waitAck := x.waitAck ++ wait })

/-- The indices of record codeword d of a map (R337). -/
def recIndices (l : List Nat) (first r d : Nat) : List Nat := if d < first then [] else (l.drop ((d - first) * r)).take r

/-- The record codeword with nominal slot q of the downstream map of a lane in service. -/
def State.dnRecords (s : State) (n q : Nat) : List Nat :=
  let m := s.laneMap n
  if s.inService n && decide (1 ≤ q) then recIndices m.dn m.firstDn 71 (q - 1) else []

/-- The payload of a downstream record codeword (R338, R78): the Glove gives each record as the codeword begins (R125). -/
def State.recordWords (s : State) (n : Nat) : List Nat → List Word × State
  | [] => ([], s)
  | i :: l =>
    let c := n * 2048 + i
    let s := (s.glvCompare c).1
    let ((mode, setp), s) := s.glvSlot c
    let (ws, s) := s.recordWords n l
    (setp :: setpointW1 mode c (s.beatNum % 256) setp :: ws, s)

/-- A header (R327, R329). -/
def cwHeader (ty q beat nak : Nat) : BitVec 28 :=
  let h := BitVec.ofNat 28 (ty * 2 ^ 24 + (q % 127) * 2 ^ 17 + (beat % 64) * 2 ^ 11 + nak * 2 ^ 4)
  h ||| BitVec.ofNat 28 (hcheck h)

/-- The content due in nominal slot q: its TYPE and payload. The BEAT codeword carries the ALIGN message that is due (R362). -/
def State.dnContent (s : State) (n q : Nat) : (Nat × List Word) × State :=
  let x := s.ln n
  if q = 0 then
    let w1 := setFld (setFld (setFld (setFld (setBit 0 35 (s.devState == 6)) 34 21 s.beat.period) 20 10 s.kNow) 9 2
      (s.laneMap n).fmv) 1 0 (min 3 (s.ln n).dnReplaysPrev)
    let b := s.reg .BEAT_NUM
    let s := s.modLn n (fun x => match x.alignDue with
      | some w => { x with alignDue := none, out := { mtype := 0x014, words := [w], ackReq := false, seq := 0, attempts := 0 } :: x.out }
      | none => x)
    let (ws, s) := s.packFrom n 140 (if x.alignDue.isSome then 2 else 0)
    ((1, b :: w1 :: ws), s)
  else
    let idx := s.dnRecords n q
    if idx.isEmpty then
      (if q ≤ s.kNow ∧ !((s.ln n).acks.isEmpty && (s.ln n).out.isEmpty) ∧ s.laneState n ≠ lsADAPT then
        let (ws, s) := s.packFrom n 142 0
        ((4, ws), s)
       else ((0, List.replicate 142 0), s))
    else
      let (ws, s) := s.recordWords n idx
      ((2, padTo 142 ws), s)

/-- Lane n sends codeword t: it is kept among the last seven for a replay (R346). -/
def Lane.sendCw (x : Lane) (t : TxCw) : Lane := { x with lastTx := some t, dnSent := (t :: x.dnSent).take 7, dnSlot := x.dnSlot + 1 }

/-- Slot p would end after the next boundary, which an edge of BEAT_IN has fixed: no codeword begins in it (R333). A slot is 2,720
symbols and 10 ns are 280. -/
def State.keptOut (s : State) (p : Nat) : Bool := match s.beat.length with | some l => decide (280 * l < 2720 * (p + 1)) | none => false

/-- The next downstream slot of lane n (R332, R345, R346, R363). -/
def State.slotSend (s : State) (n : Nat) : State :=
  let x := s.ln n
  let p := x.dnSlot
  if !s.framing n || decide (s.kNow + 3 ≤ p) || s.keptOut p then s.modLn n (fun x => { x with lastTx := none })
  else
    let nak := x.nakDue.find? (fun e => e.1 == p)
    let s := if nak.isSome then s.incF (.LN_RPL n) F.LN_RPL_UP_NAK else s
    let nk := match nak with | some e => e.2 % 127 | none => 127
    match x.dnReplay.find? (fun e => e.1 == p) with
    | some (_, q) =>
      let pay := match x.dnSent.find? (fun t => t.q == q) with | some t => t.pay | none => []
      let x := { x with dnShift := x.dnShift + 1, dnReplays := x.dnReplays + 1 }
      s.setLn n (x.sendCw { slot := p, q := q, ty := 3, hdr := cwHeader 3 q s.beatNum nk, pay := pay })
    | none =>
      let q := p - x.dnShift
      let ((ty, pay), s) := s.dnContent n q
      let y := s.ln n
      if y.safeDue then
        s.setLn n { y with safeDue := false, safeSent := y.safeSent + 1, lastTx := none, dnSlot := y.dnSlot + 1 }
      else s.setLn n (y.sendCw { slot := p, q := q, ty := ty, hdr := cwHeader ty q s.beatNum nk, pay := pay })

/-! ## Management messages received (R340-R342, R361, R362, R366, R370) -/

/-- The ACK of a message of the device. -/
def State.ackIn (s : State) (n seq : Nat) : State :=
  let x := s.ln n
  match (x.waitAck ++ x.out.filter (fun m => m.attempts != 0)).find? (fun m => m.ackReq && m.seq == seq) with
  | none => s
  | some m =>
    let keep := fun (y : Msg) => !(y.ackReq && y.seq == seq && y.mtype == m.mtype)
    let s := s.setLn n { x with waitAck := x.waitAck.filter keep, out := x.out.filter (fun y => keep y || y.attempts == 0) }
    let s := if m.mtype = 0x040 ∧ x.svcSeq = seq then s.setF (.LN_MSG_TXC n) F.LN_MSG_TXC_STS 2 else s
    let s := if m.mtype = 0x015 ∧ x.readySeq = seq then s.modLn n (fun x => { x with readyAck := true }) else s
    let s := if m.mtype = 0x017 ∧ x.testPend = some (BitVec.ofNat 36 seq) then s.modLn n (fun x => { x with testGo := true }) else s
    s.laneTryReady n

/-- No ACK has arrived within 8 beats: the message is queued again, or after 3 further attempts it has failed (R342). -/
def State.msgRetry (s : State) (n seq : Nat) : State :=
  let x := s.ln n
  match x.waitAck.find? (fun m => m.seq == seq) with
  | none => s
  | some m =>
    let rest := x.waitAck.filter (fun y => y.seq != seq)
    if m.attempts < 4 then s.setLn n { x with waitAck := rest, out := x.out ++ [m] }
    else
      let s := (s.setLn n { x with waitAck := rest }).setB (.LN_PSTS n) F.LN_PSTS_MSG_FAIL true
      let s := if m.mtype = 0x040 ∧ x.svcSeq = seq then s.setF (.LN_MSG_TXC n) F.LN_MSG_TXC_STS 3 else s
      if m.mtype = 0x020 ∧ (s.laneState n = lsACTIVE ∨ s.laneState n = lsALIGN) then s.laneFail n 0x11 else s

def State.described (s : State) (n : Nat) : Bool :=
  match s.helm.chmap with | some m => m.lanes.any (fun l => l.lane == n) | none => false

/-- What LNn_HUBID holds fails the checks of R361. -/
def State.helloBad (s : State) (n : Nat) : Bool :=
  let w := fun k => s.reg (.LN_HUBID n k)
  let m := s.laneMap n
  fld (w 1) 19 12 != 1 ||
    (s.described n && ((w 0 ^^^ m.ident) &&& m.mask != 0 || decide (fld (w 1) 35 24 < (s.populatedOf n).length)))

/-- What LNn_SCALE holds fails the check of R361. -/
def State.scaleBad (s : State) (n : Nat) : Bool :=
  s.described n && (List.range 4).any (fun k => s.reg (.LN_SCALE n k) != (s.laneMap n).scale.getD k 0)

/-- IDENT judges what has come of HELLO and SCALE (R361, R525): a failed check ends it, both passing leads to MAP. -/
def State.identCheck (s : State) (n : Nat) : State :=
  let x := s.ln n
  if s.laneState n ≠ lsIDENT then s
  else if x.hello && s.helloBad n then s.laneFail n 0x09
  else if x.scaled && s.scaleBad n then s.laneFail n 0x17
  else if x.hello && x.scaled then s.laneGoto n lsMAP (s.laneCause n)
  else s

/-- HELLO and SCALE are stored; those that come in ADAPT are judged when IDENT begins. -/
def State.helloIn (s : State) (n : Nat) (ws : List Word) : State :=
  if s.laneState n = lsIDENT ∨ s.laneState n = lsADAPT then
    let s := (List.range 4).foldl (fun st k => st.setReg (.LN_HUBID n k) (ws.getD k 0)) s
    (s.modLn n (fun x => { x with hello := true })).identCheck n
  else s

def State.scaleIn (s : State) (n : Nat) (ws : List Word) : State :=
  if s.laneState n = lsIDENT ∨ s.laneState n = lsADAPT then
    let s := (List.range 4).foldl (fun st k => st.setReg (.LN_SCALE n k) (ws.getD k 0)) s
    (s.modLn n (fun x => { x with scaled := true })).identCheck n
  else s

/-- A MAP message of direction d has been sent in this MAP state (R362). -/
def Lane.mapSent (x : Lane) (d : Nat) : Bool :=
  let last := fun (m : Msg) => m.mtype == 0x012 && fld (m.words.headD 0) 35 35 == d && fld (m.words.headD 0) 23 23 == 1
  !((x.out.filter (fun m => m.attempts == 0)).any last)

/-- MAP_ACK (R362). -/
def State.mapAckIn (s : State) (n : Nat) (w : Word) : State :=
  let d := fld w 35 35
  if s.laneState n = lsMAP ∧ fld w 34 27 = (s.laneMap n).fmv ∧ (s.ln n).mapSent d then
    if bit w 26 then
      let s := s.modLn n (fun x => if d = 0 then { x with mapUpAck := true } else { x with mapDnAck := true })
      if (s.ln n).mapUpAck && (s.ln n).mapDnAck then s.laneGoto n lsALIGN (s.laneCause n) else s
    else (s.setF (.LN_ALIGN n) F.LN_ALIGN_BADIDX (fld w 25 15)).laneFail n 0x0B
  else s

/-- A RETRAIN message of the hub acts as the command, with cause PARTNER_RETRAIN (R366). -/
def State.retrainIn (s : State) (n : Nat) (w : Word) : State :=
  if fld w 1 0 = 1 ∨ fld w 1 0 = 2 then s.laneCommand n (fld w 1 0) 0x14 else s

/-- One received message (R340-R342): an ACK is owed when it asks for one; a reserved MTYPE is discarded and counted. -/
def State.recvMsg (s : State) (n mtype seq : Nat) (ackReq : Bool) (ws : List Word) : State :=
  if !s.framing n then s
  else
    let known := mtype == 0x001 || (decide (0x010 ≤ mtype) && decide (mtype ≤ 0x017)) || mtype == 0x030 || mtype == 0x040
    let s := if ackReq && known then s.modLn n (fun x => { x with acks := x.acks ++ [seq] }) else s
    let hdr := mgmtHeader { mtype := mtype, words := ws, ackReq := ackReq, seq := seq, attempts := 0 }
    match mtype with
    | 0x001 => s.ackIn n seq
    | 0x010 => s.helloIn n ws
    | 0x011 => s.scaleIn n ws
    | 0x013 => s.mapAckIn n (ws.headD 0)
    | 0x016 => s.retrainIn n (ws.headD 0)
    | 0x030 => s.msgRxIn n (hdr :: ws)
    | 0x040 => s.msgRxIn n (hdr :: ws)
    | _ => if known then s else s.setB (.LN_PSTS n) F.LN_PSTS_MSG_DROP true

/-- Unpacking messages (R340): END or the end of the words ends it; one that would run past the end is discarded and
counted. -/
def State.unpackMsgs (s : State) (n : Nat) : Nat → List Word → State
  | 0, _ => s
  | _, [] => s
  | fuel + 1, h :: ws =>
    let mtype := fld h 35 27
    let len := fld h 26 18
    if mtype = 0 then s
    else if ws.length < len then s.setB (.LN_PSTS n) F.LN_PSTS_MSG_DROP true
    else (s.recvMsg n mtype (fld h 17 9) (bit h 8) (ws.take len)).unpackMsgs n fuel (ws.drop len)

/-! ## Upstream (R331, R335-R339, R344-R349, R359) -/

def cwType (h : BitVec 28) : Nat := (h.extractLsb' 24 4).toNat
def cwIndex (h : BitVec 28) : Nat := (h.extractLsb' 17 7).toNat
def cwBeat (h : BitVec 28) : Nat := (h.extractLsb' 11 6).toNat
def cwNak (h : BitVec 28) : Nat := (h.extractLsb' 4 7).toNat

/-- The FEC decoded it and HCHECK matches. -/
def cwDecodes (cw : Codeword) : Bool := cw.fec && (cw.hdr.extractLsb' 0 4).toNat == hcheck cw.hdr

/-- The indices that the upstream record codeword with nominal slot q carries. -/
def State.upRecords (s : State) (n q : Nat) : List Nat :=
  let m := s.laneMap n
  if 1 ≤ q then recIndices m.up m.firstUp 35 (q - 1) else []

def State.setSlot (s : State) (c : Nat) (x : Slot) : State :=
  s.modCh c (fun y => if s.beatNum % 2 = 0 then { y with ing0 := x } else { y with ing1 := x })

/-- Every channel of a list takes the same slot contents. -/
def State.slotAll (s : State) (n : Nat) (idx : List Nat) (st : BitVec 3) : State :=
  idx.foldl (fun t i => t.setSlot (n * 2048 + i) { Slot.empty with st := st }) s

/-- A record of a record codeword (R82, R338): valid records reach the Glove (R115). -/
def State.recordIn (s : State) (n r i : Nat) (pay : List Word) : State :=
  let c := n * 2048 + i
  let w := fun k => pay.getD (4 * r + k) 0
  if !bit (pay.getD 140 0) r then s.setSlot c { Slot.empty with st := 4 }
  else if crc9 (w 0) (w 3) = fld (w 3) 8 0 ∧ fld (w 3) 31 17 = c ∧ fld (w 3) 16 9 = s.beatNum % 256 then
    (s.setSlot c { st := 1, w0 := w 0, w1 := w 1, w2 := w 2, w3 := w 3 }).glvUpstream c (w 0) (w 1) (w 2) (w 3)
  else s.setSlot c { Slot.empty with st := 2 }

def State.recordsIn (s : State) (n : Nat) (idx : List Nat) (pay : List Word) : State :=
  (List.range idx.length).foldl (fun t r => t.recordIn n r (idx.getD r 0) pay) s

/-- The contents due in nominal slot q are declared lost (R347, R348). -/
def State.upLost (s : State) (n q : Nat) : State :=
  let s := s.incF (.LN_RPL n) F.LN_RPL_UP_LOST
  let s := if q = 0 then s.modLn n (fun x => { x with beatBad := true }) else s
  (s.slotAll n (s.upRecords n q) 3).chioArrivals

/-- The content of nominal slot q fails in slot p: a NAK in downstream slot p + 3 if R345 allows one, else the loss. -/
def State.upFail (s : State) (n p q : Nat) : State :=
  let x := s.ln n
  if x.naks < 2 ∧ p + 6 ≤ s.kNow + 2 then
    s.setLn n { x with naks := x.naks + 1, nakDue := x.nakDue ++ [(p + 3, q)], upExpect := x.upExpect ++ [(p + 6, q)] }
  else s.upLost n q

/-- An upstream BEAT codeword of a lane in service (R335, R336, R349). -/
def State.upBeat (s : State) (n : Nat) (pay : List Word) : State :=
  let w1 := pay.getD 1 0
  let w2 := pay.getD 2 0
  if pay.getD 0 0 ≠ s.reg .BEAT_NUM then s.upLost n 0
  else
    let s := s.modLn n (fun x => { x with beatOk := true, dnLostBits := setFld 0 28 0 (fld w2 28 0) })
    let s := s.setB (.LN_PSTS n) F.LN_PSTS_HUB_SAFE (bit w1 34)
    let s := if bit w1 35 then s.setB (.LN_PSTS n) F.LN_PSTS_SAFE_SEEN true else s
    let s := s.incF (.LN_RPL n) F.LN_RPL_DN_LOST (popcount (setFld 0 28 0 (fld w2 28 0)))
    if bit w1 34 then s.laneFail n 0x0F
    else if fld w1 33 26 ≠ (s.laneMap n).fmv then s.laneFail n 0x10
    else s.unpackMsgs n 142 ((pay.take 142).drop 3)

/-- The content of nominal slot q is taken, as type ty. Where slot 0 brings no BEAT codeword, the lane has no valid one in this beat
(R66). -/
def State.upTake (s : State) (n q ty : Nat) (pay : List Word) : State :=
  let idx := s.upRecords n q
  if q = 0 then (if ty = 1 then s.upBeat n pay else (s.modLn n (fun x => { x with beatBad := true })).chioArrivals)
  else if !idx.isEmpty then
    let s := if ty = 2 then s.recordsIn n idx pay else s.slotAll n idx 4
    let s := if ty = 4 ∨ ty = 5 then s.setB (.LN_PSTS n) F.LN_PSTS_MSG_DROP true else s
    s.chioArrivals
  else if ty = 4 then s.unpackMsgs n 142 (pay.take 142)
  else if ty = 5 then s.captureIn n (padTo 142 pay)
  else s

/-- A NAK that a valid codeword in slot p carries (R346): the content sent in slot p - 3 is sent again in slot p + 3. -/
def State.nakIn (s : State) (n p nak : Nat) : State :=
  if nak = 127 then s
  else
    let s := s.incF (.LN_RPL n) F.LN_RPL_DN_NAK
    match (s.ln n).dnSent.find? (fun t => t.slot + 3 == p && t.q % 127 == nak) with
    | some t => s.modLn n (fun x => { x with dnReplay := x.dnReplay ++ [(p + 3, t.q)] })
    | none => s.setB (.LN_PSTS n) F.LN_PSTS_NAK_BAD true

/-- The upstream slots that a shortened beat keeps out of the frame are lost as if they had failed (R333): what was due in them, and a
replay awaited in them. No NAK can be answered any more. -/
def State.upKeptOut (s : State) (n : Nat) : State :=
  if s.inService n then
    ((List.range (s.kNow + 3)).filter s.keptOut).foldl (fun st p =>
      let x := st.ln n
      match x.upExpect.find? (fun e => e.1 == p) with
      | some (_, q) => (st.setLn n { x with upExpect := x.upExpect.filter (fun e => e.1 != p), upShift := x.upShift + 1 }).upLost n q
      | none => st.upLost n (p - x.upShift)) s
  else s

/-- A codeword of a lane in service. Its NAK is answered first: its payload may end the service (R346). `kind` is the type of the content that a Replay repeats. -/
def State.upService (s : State) (n kind : Nat) (cw : Codeword) : State :=
  let s := s.modLn n (fun x => { x with cwSince := x.cwSince + 1 })
  let x := s.ln n
  let p := cw.slot
  let ty := cwType cw.hdr
  let ok := cwDecodes cw && decide (ty ≤ 5) && cwBeat cw.hdr == s.beatNum % 64
  match x.upExpect.find? (fun e => e.1 == p) with
  | some (_, q0) =>
    let x := { x with upExpect := x.upExpect.filter (fun e => e.1 != p) }
    if ok && ty == 3 && cwIndex cw.hdr == q0 % 127 then
      ((s.setLn n { x with upShift := x.upShift + 1 }).nakIn n p (cwNak cw.hdr)).upTake n q0 kind cw.pay
    else
      let q := p - x.upShift
      if ok && ty != 3 && cwIndex cw.hdr == q % 127 then
        (((s.setLn n x).nakIn n p (cwNak cw.hdr)).upLost n q0).upTake n q ty cw.pay
      else (s.setLn n { x with upShift := x.upShift + 1 }).upLost n q0
  | none =>
    let q := p - x.upShift
    if ok && ty != 3 && cwIndex cw.hdr == q % 127 then (s.nakIn n p (cwNak cw.hdr)).upTake n q ty cw.pay
    else s.upFail n p q

/-- The offset of the hub's BEAT codeword in ALIGN (R362): measured, and sent in an ALIGN message of the next BEAT codeword. -/
def State.alignIn (s : State) (n : Nat) (off : BitVec 18) : State :=
  let inw := decide (off.toInt.natAbs ≤ 64)
  let s := (s.setB (.LN_ALIGN n) F.LN_ALIGN_VALID true).setF (.LN_ALIGN n) F.LN_ALIGN_OFFSET off.toNat
  let s := s.modLn n (fun x => { x with
    alignCnt := if inw then x.alignCnt + 1 else 0, beatOk := true, alignDue := some (setFld (setBit 0 35 inw) 17 0 off.toNat) })
  s.laneTryReady n

/-- Codeword lock and the count of ADAPT (R359). -/
def Lane.adaptCount (x : Lane) (ok fec : Bool) : Lane :=
  let good := if ok then x.cwGood + 1 else 0
  let bad := if fec then 0 else x.cwBad + 1
  let lock := x.cwLock || decide (4 ≤ good)
  { x with cwGood := good, cwBad := bad, cwLock := lock, adaptGood := if !fec then 0 else if x.cwLock then x.adaptGood + 1 else 0 }

/-- A codeword before boundary B: only the FEC and HCHECK count (R359). In ADAPT there is no codeword to take before the lock. -/
def State.upBringup (s : State) (n kind : Nat) (off : BitVec 18) (cw : Codeword) : State :=
  let seen := s.laneState n != lsADAPT || (s.ln n).cwLock
  let s := if s.laneState n = lsADAPT then s.modLn n (fun x => x.adaptCount (cwDecodes cw) cw.fec) else s
  if seen && cwDecodes cw then
    let ty := if cwType cw.hdr = 3 then kind else cwType cw.hdr
    if ty = 1 then
      let w1 := cw.pay.getD 1 0
      let s := s.setB (.LN_PSTS n) F.LN_PSTS_HUB_SAFE (bit w1 34)
      let s := if bit w1 35 then s.setB (.LN_PSTS n) F.LN_PSTS_SAFE_SEEN true else s
      let s := s.unpackMsgs n 142 ((cw.pay.take 142).drop 3)
      if s.laneState n = lsALIGN then s.alignIn n off else s
    else if ty = 4 then s.unpackMsgs n 142 (cw.pay.take 142)
    else if ty = 5 then s.captureIn n (padTo 142 cw.pay)
    else s
  else s

/-- A codeword that arrives on lane n. -/
def State.upCodeword (s : State) (n kind : Nat) (off : BitVec 18) (cw : Codeword) : State :=
  if s.inService n then s.upService n kind cw
  else if s.framing n then s.upBringup n kind off cw
  else s

/-! ## Training (R355-R358) -/

/-- One tap (R358): the magnitude, the limit, the request and the present status give the new magnitude and status. -/
def tapStep (v lim req st : Nat) : Nat × Nat :=
  if req = 0 ∨ req = 3 then (v, 0)
  else if st ≠ 0 then (v, st)
  else if req = 1 then (if v < lim then (v + 1, 1) else (v, 2))
  else (if 0 < v then (v - 1, 1) else (v, 2))

/-- Presets of Table 13.5: M1 and P1. -/
def presetTaps (p : Nat) : Nat × Nat := if p = 1 then (0, 0) else if p = 2 then (4, 8) else (8, 12)

/-- The device answers the partner's control field (R358): its taps and its status field. -/
def State.trainAnswer (s : State) (n : Nat) (c : BitVec 16) (ready : Bool) : State :=
  let x := s.ln n
  let f := fun (hi lo : Nat) => c.toNat / 2 ^ lo % 2 ^ (hi + 1 - lo)
  let st := fun (hi lo : Nat) => x.txSts.toNat / 2 ^ lo % 2 ^ (hi + 1 - lo)
  let m1 := s.getF (.LN_TXEQ n) F.LN_TXEQ_M1
  let p1 := s.getF (.LN_TXEQ n) F.LN_TXEQ_P1
  let pre := c.getLsbD 15 && f 14 13 != 0
  let (m1, p1) := if pre then presetTaps (f 14 13) else (m1, p1)
  let (m1, s1) := tapStep m1 12 (f 12 11) (st 14 13)
  let (p1, s2) := tapStep p1 20 (f 8 7) (st 10 9)
  let s0 := if f 10 9 = 0 then 0 else 3
  let prec := c.getLsbD 6 && s.getB (.LN_CTL n) F.LN_CTL_PRECODE_EN
  let inv := c.getLsbD 5
  let sts := BitVec.ofNat 16 ((if ready then 2 ^ 15 else 0) + s1 * 2 ^ 13 + s0 * 2 ^ 11 + s2 * 2 ^ 9 + (if prec then 2 ^ 8 else 0) +
    (if inv then 2 ^ 7 else 0))
  let eq := setBit (setFld (setFld (setFld (s.reg (.LN_TXEQ n)) 18 13 m1) 12 6 (64 - m1 - p1)) 5 0 p1) 20 inv
  (s.setReg (.LN_TXEQ n) eq).modLn n (fun x => { x with txSts := sts })

/-- One tap request of the device to its partner: held until the partner's status leaves "not updated", then hold; a new
request, which the spec leaves to the receiver, is a free value. -/
def nextReq (old st new : Nat) : Nat := if old ≠ 0 then (if st = 0 then old else 0) else if st = 0 then new % 3 else 0

/-- The device's own control field in the next frame (R358, R365). -/
def State.trainRequest (s : State) (n : Nat) (pst : BitVec 16) : State :=
  let x := s.ln n
  let (v, s) := s.drawNat 16
  let old := fun (lo : Nat) => x.txCtl.toNat / 2 ^ lo % 4
  let st := fun (lo : Nat) => pst.toNat / 2 ^ lo % 4
  let init := if x.rxSent = 0 ∧ x.rxRecv = 0 ∧ x.txCtl = 0 ∧ !x.quick ∧ v % 2 = 1 then 2 ^ 15 + (1 + v / 2 % 3) * 2 ^ 13 else 0
  let r1 := nextReq (old 11) (st 13) (v / 64)
  let r0 := nextReq (old 9) (st 11) (v / 256)
  let rp := nextReq (old 7) (st 9) (v / 1024)
  let prec := if s.getB (.LN_CTL n) F.LN_CTL_PRECODE_EN ∧ v / 16 % 2 = 1 then 2 ^ 6 else 0
  let inv := if v / 32 % 2 = 1 then 2 ^ 5 else 0
  s.modLn n (fun x => { x with txCtl := BitVec.ofNat 16 (init + r1 * 2 ^ 11 + r0 * 2 ^ 9 + rp * 2 ^ 7 + prec + inv) })

/-- A training frame in LOCK or TRAIN (R357, R358). The pins of a shorted lane receive nothing (R356). -/
def State.trainFrame (s : State) (n : Nat) (fr : TrainFrame) : State :=
  let st := s.laneState n
  if (st = lsLOCK ∨ st = lsTRAIN) ∧ !s.laneBarred n then
    let s := if fr.marker && fr.inverted then
        s.setB (.LN_EQ_STS n) F.LN_EQ_STS_RXINV (!s.getB (.LN_EQ_STS n) F.LN_EQ_STS_RXINV) else s
    let s := s.modLn n (fun x =>
      let m := if fr.marker then x.markers + 1 else 0
      { x with markers := m, markerLock := if fr.marker then x.markerLock || decide (4 ≤ m) else false })
    if st = lsLOCK then s.laneTryTrain n
    else if fr.marker then
      let s := (s.trainRequest n fr.status).trainAnswer n fr.control fr.rxDone
      let s := s.setB (.LN_EQ_STS n) F.LN_EQ_STS_PRECODE_RX (fr.status.getLsbD 8)
      s.modLn n (fun x =>
        let sent := if fr.rxDone then x.rxSent + 1 else 0
        let recv := if fr.status.getLsbD 15 then x.rxRecv + 1 else 0
        { x with rxSent := sent, rxRecv := recv, trainDone := x.trainDone || decide (8 ≤ sent ∧ 8 ≤ recv) })
    else s.modLn n (fun x => { x with rxRecv := 0 })
  else s

/-- The common-mode step of DETECT (R355). -/
def State.termDetect (s : State) (n : Nat) (settled : Bool) : State :=
  if s.laneState n = lsDETECT then
    let s := s.setB (.LN_FAULT n) F.LN_FAULT_NOTERM (!settled)
    if settled then s.laneGoto n lsCHECK (s.laneCause n) else s
  else s

/-- The short checks of CHECK end (R355): the lowest cause that applies. -/
def State.shortCheck (s : State) (n gnd sup : Nat) (pair : Bool) : State :=
  if s.laneState n = lsCHECK ∧ !(s.ln n).shortsDone then
    let s := s.setReg (.LN_FAULT n) (setFld (setFld (setBit 0 8 pair) 7 4 sup) 3 0 gnd)
    if gnd ≠ 0 then s.laneFail n 0x02
    else if sup ≠ 0 then s.laneFail n 0x03
    else if pair then s.laneFail n 0x04
    else s.modLn n (fun x => { x with shortsDone := true })
  else s

/-- Receive amplitude is seen in CHECK. Above CHECK a service lane is handed to its PMA: ACTIVE. -/
def State.signalIn (s : State) (n : Nat) : State :=
  if s.laneState n = lsCHECK ∧ (s.ln n).shortsDone then
    (s.setB (.LN_FAULT n) F.LN_FAULT_LOS false).laneGoto n (if n < 16 then lsLOCK else lsACTIVE) (s.laneCause n)
  else s

/-- The parameter at place i of a list one step up or down. -/
def stepAt (l : List Int) (i : Nat) (up : Bool) : List Int := l.set i (l.getD i 0 + (if up then 1 else -1))

/-- One adaptation step, at most once in 256 codewords (R360). The FFE taps and the slicer thresholds show in no register. -/
def State.adaptStep (s : State) (n : Nat) (par : AdaptParam) (up : Bool) : State :=
  if s.laneState n = lsACTIVE ∧ !s.getB (.LN_CTL n) F.LN_CTL_ADAPT_FREEZE ∧ 256 ≤ (s.ln n).cwSince then
    let s := s.modLn n (fun x => { x with cwSince := 0 })
    match par with
    | .ctle =>
      let v := s.getF (.LN_EQ_STS n) F.LN_EQ_STS_CTLE
      s.setF (.LN_EQ_STS n) F.LN_EQ_STS_CTLE (if up then min 15 (v + 1) else v - 1)
    | .dfe =>
      let v := sext 6 (s.getF (.LN_EQ_STS n) F.LN_EQ_STS_DFE)
      let v' := if up then (if v < 31 then v + 1 else v) else (if -32 < v then v - 1 else v)
      s.setF (.LN_EQ_STS n) F.LN_EQ_STS_DFE (BitVec.ofInt 6 v').toNat
    | .ffe i => s.modLn n (fun x => { x with ffe := stepAt x.ffe i up })
    | .slicer i => s.modLn n (fun x => { x with slicer := stepAt x.slicer i up })
  else s

/-! ## The commands -/

/-- SAFE_N is recognised low (R126); the interrupt SAFE is raised (R407). While RESET_N is low SAFE_N is not sampled, and while another
reset holds the device reset domain (R524) the always-on domain alone remembers it, until SELFTEST ends (R412). -/
def execSafeNAssert (s : State) : Out :=
  let s := { s with pins := { s.pins with
    safeNLow := true, safeSeenBoot := s.pins.safeSeenBoot || (decide (s.devState < 2) && !s.pins.resetNLow) } }
  .next (if s.held then s else (s.ibi 3).askSafe)
def execDownstreamSlotSend (n : ChLane) (s : State) : Out := .next (s.slotSend n)
def execUpstreamBeatCodeword (n : ChLane) (off : BitVec 18) (cw : Codeword) (s : State) : Out := .next (s.upCodeword n 1 off cw)
def execUpstreamDataCodeword (n : ChLane) (cw : Codeword) (s : State) : Out := .next (s.upCodeword n 2 0 cw)
def execManagementCodeword (n : ChLane) (cw : Codeword) (s : State) : Out := .next (s.upCodeword n 4 0 cw)
def execCaptureCodeword (n : ChLane) (cw : Codeword) (s : State) : Out := .next (s.upCodeword n 5 0 cw)
def execAck (n : ChLane) (seq : Fin 512) (s : State) : Out := .next (s.recvMsg n 0x001 seq false [])
def execMessageRetry (n : ChLane) (seq : Fin 512) (s : State) : Out := .next (s.msgRetry n seq)
def execHubevt (n : ChLane) (seq : Fin 512) (ackReq : Bool) (ws : List Word) (s : State) : Out := .next (s.recvMsg n 0x030 seq ackReq ws)
def execSvcMessage (n : ChLane) (seq : Fin 512) (ackReq : Bool) (ws : List Word) (s : State) : Out :=
  .next (s.recvMsg n 0x040 seq ackReq ws)
def execHello (n : ChLane) (seq : Fin 512) (w1 w2 w3 w4 : Word) (s : State) : Out := .next (s.recvMsg n 0x010 seq true [w1, w2, w3, w4])
def execScale (n : ChLane) (seq : Fin 512) (w1 w2 w3 w4 : Word) (s : State) : Out := .next (s.recvMsg n 0x011 seq true [w1, w2, w3, w4])
def execMapAck (n : ChLane) (w : Word) (s : State) : Out := .next (s.recvMsg n 0x013 0 false [w])
def execRetrain (n : ChLane) (w : Word) (s : State) : Out := .next (s.recvMsg n 0x016 0 false [w])

def execLaneEnable (n : LaneId) (s : State) : Out := .next (s.laneSetEn n true)
def execLaneDisable (n : LaneId) (s : State) : Out := .next (s.laneSetEn n false)
def execLaneFullRetrain (n : LaneId) (s : State) : Out := .next (s.laneCommand n 1 0x13)
def execLaneQuickRetrain (n : LaneId) (s : State) : Out := .next (s.laneCommand n 2 0x13)
def execLaneHold (n : LaneId) (s : State) : Out := .next (s.laneCommand n 3 0x13)
def execLaneStateTimeout (n : LaneId) (s : State) : Out := .next (s.laneTimeout n)
def execTerminationDetect (n : LaneId) (settled : Bool) (s : State) : Out := .next (s.termDetect n settled)
def execShortCheck (n : LaneId) (gnd sup : BitVec 4) (pair : Bool) (s : State) : Out := .next (s.shortCheck n gnd.toNat sup.toNat pair)
def execSignalDetect (n : LaneId) (s : State) : Out := .next (s.signalIn n)
def execTrainingFrame (n : ChLane) (fr : TrainFrame) (s : State) : Out := .next (s.trainFrame n fr)

/-- Eight consecutive uncorrectable codewords (R359): the lane stays in ADAPT and searches for lock again. -/
def execCodewordLockLoss (n : ChLane) (s : State) : Out :=
  if s.laneState n = lsADAPT ∧ 8 ≤ (s.ln n).cwBad then
    .next (s.modLn n (fun x => { x with cwLock := false, cwGood := 0, cwBad := 0, adaptGood := 0 }))
  else .next s

/-- k free numbers. -/
def State.drawInts : Nat → State → List Int × State
  | 0, s => ([], s)
  | k + 1, s =>
    let (v, s) := s.drawNat 36
    let (l, s) := s.drawInts k
    ((BitVec.ofNat 36 v).toInt :: l, s)

/-- 1,024 consecutive codewords with none uncorrectable (R359). The adaptation leaves its results in LNn_EQ_STS, the FFE taps and the
slicers: free values, since the spec leaves them to the channel. -/
def execAdaptComplete (n : ChLane) (s : State) : Out :=
  if s.laneState n = lsADAPT ∧ 1024 ≤ (s.ln n).adaptGood then
    let (v, s) := s.drawNat 18
    let w := setFld (setFld (setFld (s.reg (.LN_EQ_STS n)) 33 30 (v % 16)) 29 24 (v / 16)) 15 8 (v / 1024)
    let (taps, s) := State.drawInts 12 s
    let (thr, s) := State.drawInts 3 s
    let s := s.modLn n (fun x => { x with ffe := taps, slicer := thr })
    .next (((s.setReg (.LN_EQ_STS n) w).laneGoto n lsIDENT (s.laneCause n)).identCheck n)
  else .next s
def execAdaptStep (n : ChLane) (par : AdaptParam) (up : Bool) (s : State) : Out := .next (s.adaptStep n par up)

/-- Receive amplitude below 40 mV for 1 µs (R364). LNn_FAULT keeps the flags of the last CHECK (R355). -/
def execLossOfSignal (n : LaneId) (s : State) : Out :=
  if s.laneState n = lsACTIVE then .next (s.laneFail n 0x12) else .next s

/-- RETRY × 100 ms have passed in FAULT (R353). -/
def execLaneRetry (n : LaneId) (s : State) : Out :=
  if s.laneState n = lsFAULT ∧ s.getF (.LN_CTL n) F.LN_CTL_RETRY ≠ 0 ∧ !(s.ln n).noRetry then
    .next (((s.lanePreset n).modLn n (fun x => { x with quick := false })).laneGoto n lsDETECT (s.laneCause n))
  else .next s
def execEyeSweep (n : LaneId) (eye : Fin 4) (height : Fin 512) (width : Fin 1024) (s : State) : Out :=
  .next (s.laneEye n eye height width)
def execLaneTest (n : LaneId) (w : Word) (s : State) : Out := .next (s.laneTestWrite n w)
def execMsgTxAppend (n : LaneId) (w : Word) (s : State) : Out := .next (s.msgTxAppend n w)
def execSvcSend (n : LaneId) (w : Word) (s : State) : Out := .next (s.msgTxcWrite n (setBit w 17 true))
def execMsgRxRead (n : LaneId) (s : State) : Out := .next (s.msgRxPop n).2

end Sys2Proof.Machine
end

