-- ==== Sys2Proof/Machine/Beat.lean ====
section
/-! DEFINITION. The beat boundary (chapter 02): the beat number (R40, R41), the banks (R49, R50), freshness (R118, R349), the
staging of queues (R91), the sections' restarts, overruns, starts and stops (R53-R73, R453-R457, R488, R489), the clock
(R477), the check units (R392) and the lanes (R336, R362). -/

namespace Sys2Proof.Machine

/-! ## Engines at a boundary -/

/-- The entry at cycle 0 (R54), with what no beat carries over: branches, fences, waits and held triggers; operations in
flight complete (R520) and loads keep returning. The return stack is empty and its entries keep their contents (R209). A short FP fault
that is pending here, held off by R208 or raised by an operation that completes at the restart, is dropped: R68, R239, R241 and R520
say nothing of it, and it is the model's choice (notes/assumptions/50.md). A source or a WATCHDOG that has asserted before cycle 0,
which lies 8 cycles after the boundary (R53), is acceptable from cycle 0 on (R247). -/
def Engine.enterBeat (x : Engine) (e : Nat) (ent : Word) : Engine :=
  let x := x.landAll e
  let x := x.aInc.foldl (fun y p => y.setA p.1 p.2.1) { x with aInc := [] }
  let ld := fun (l : Load) => { l with trig := 0 }
  let op := fun (l : LongOp) => { l with due := l.due - x.cyc, trig := 0 }
  { x with
    pc := put 13 0 (fld ent 13 0), ring := BitVec.ofNat 2 (fld ent 20 19), imask := BitVec.ofNat 3 (fld ent 18 16)
    rsTop := 0, rsDepth := 0, p := 0, branch := none, fence := none, nextPc := none, held := [], waitRead := none
    icMiss := none, iDirect := none, wdtPend := x.wdtPend.map (fun _ => 0), fpShort := none, efWait := false, efDone := false, inBeat := true, cyc := 0, tickAt := 0, spadAcc := []
    divOp := x.divOp.map op, fplOp := x.fplOp.map op, early := [], irqSince := x.irqSince.map (fun p => (p.1, 0)), done := [], loads0 := x.loads0.map ld, loads1 := x.loads1.map ld, stm := { x.stm with start := 0 }, sbWait := [], fresh := false }

/-- The work of the beat is abandoned (R68): the results of long operations are discarded, stm operations cancelled (cnt, src and dst
keep what they show), reservations cleared, a pending long fault dropped (R241). Short operations complete (R520). -/
def Engine.abandon (x : Engine) (e : Nat) : Engine :=
  let x := x.landAll e
  { x.setCsrW e 0x051 (setBit (x.csrW e 0x051) 17 false) with
    divOp := none, fplOp := none, held := [], stm := { x.stm with op := 0, susp := false, rcd := [] }, longop := none, fpLong := none, resv := none, branch := none
    fence := none, nextPc := none, waitRead := none, early := [], sbWait := [], efWait := false }

/-- Every engine of section k abandons its work; the stores already in its store buffer drain. -/
def State.sectAbandon (s : State) (k : Nat) : State :=
  (List.range 32).foldl (fun st i =>
    let n := k * 32 + i
    if (st.engine n).inBeat then
      let st := st.modEngine n (fun x => x.abandon n)
      st.drainSb n 0 (st.engine n).sb.length
    else st) s

/-- The section issues nothing further. -/
def State.sectStopIssue (s : State) (k : Nat) : State :=
  (List.range 32).foldl (fun st i => st.modEngine (k * 32 + i) (fun x => { x.landAll (k * 32 + i) with inBeat := false, efDone := false })) s

/-- Cycle 0 in every engine of the placement that is not LOCKED or fenced; the hit latches clear (R461); a halt request that
waits takes effect before the first bundle (R454). -/
def State.sectEnter (s : State) (k : Nat) : State :=
  let ent := s.reg (.SEC_ENTRY k)
  let s := s.modSect k (fun x => { x with dbgHalted := false, dbgRestart := false })
  (s.runners k).foldl (fun st n =>
    let st := (((st.csrSettle n).irqSample n).modEngine n (fun x => x.enterBeat n ent)).setF (.DBG_ESTS n) F.DBG_ESTS_HITS 0
    st.haltTry n) s

/-! ## Sections at a boundary -/

/-- The CCLK cycles from cycle 0 of the beat just ended, which lies 8 cycles after its boundary, to the boundary that ended it; the
beat lasted `len` (10 ns units) at F MHz (R53, R73; notes/assumptions/50.md). -/
def State.wallCycles (s : State) (len : Nat) : Nat := len * s.cclk / 100 - 8

/-- SECs_STALL and SECs_SLACK describe the beat just ended, which lasted `cyc` cycles from cycle 0 on (R73). -/
def State.sectReport (s : State) (k cyc : Nat) (fin : Bool) : State :=
  let x := s.sect k
  let cap := fun n => if n ≤ 0x3FFFF then n else 0x3FFFF
  let s := s.setReg (.SEC_STALL k) (setFld (setBit (put 22 19 x.expired) 18 x.sched) 17 0 (cap x.stallCyc))
  let s := s.setReg (.SEC_SLACK k) (setBit (put 17 0 (cap (if fin then x.endCyc else cyc))) 35 fin)
  s.modSect k (fun x => { x with stalls := [], stallCyc := 0, sched := false, expired := 0, laneExpired := [], endCyc := 0, pushCnt := 0 })

/-- The section becomes STOPPED: its halts end (R457), its memories and queues are kept. -/
def State.sectStop (s : State) (k : Nat) : State :=
  let s := (s.sectAbandon k).sectStopIssue k
  ((s.dropHalts k).setF (.SEC_STATE k) F.SEC_STATE_STATE 3).modSect k (fun x => { x with stopAt := none })

/-- An overrun (R69, R71): counted and signalled, then the section restarts, or stops at the limit. -/
def State.sectOverrun (s : State) (k : Nat) : State :=
  let r := Reg.SEC_OVERRUN k
  let s := s.setF r F.SEC_OVERRUN_COUNT (s.getF r F.SEC_OVERRUN_COUNT + 1)
  let s := s.incF r F.SEC_OVERRUN_CONSEC
  let s := ((s.setB (.SEC_STATE k) F.SEC_STATE_OVR true).fireSource F.DBG_GONG_SRC_OVR).logEvt 2 k
  let lim := s.getF (.SEC_FRAME k) F.SEC_FRAME_OVR_LIMIT
  if lim ≠ 0 ∧ lim ≤ s.getF r F.SEC_OVERRUN_CONSEC then
    ((s.sectStop k).setB (.SEC_STATE k) F.SEC_STATE_OSTOP true).forChannels (fun _ x => ownedBy k x) (fun st c => st.glvPark c 0x1B)
  else (s.sectAbandon k).sectEnter k

/-- A RUNNING or FENCED section at boundary `b`. While an engine is halted, boundaries neither restart nor overrun it
(R453); after the last resume it restarts with the abandonments of R68 (R455). -/
def State.sectRunning (s : State) (k cyc : Nat) (b : Word) : State :=
  let fin := s.sectFinished k
  let s := s.sectReport k cyc fin
  let s := if fin && !(s.sect k).dbgHalted then s.setF (.SEC_OVERRUN k) F.SEC_OVERRUN_CONSEC 0 else s
  if (s.sect k).stopAt = some b then s.sectStop k
  else if s.anyHalted k then s
  else if (s.sect k).dbgHalted then (s.sectAbandon k).sectEnter k
  else if fin then s.sectEnter k
  else s.sectOverrun k

/-- The mode of SECs_MODE takes effect (R147), and HOR halts wait for the first bundle (R458). -/
def State.sectModes (s : State) (k : Nat) : State :=
  (List.range 32).foldl (fun st i =>
    let n := k * 32 + i
    let st := st.modEngine n (fun x => x.setCsrW n 0 (setBit (x.csrW n 0) 8 (bit (st.reg (.SEC_MODE k)) i)))
    if st.getB (.DBG_ECTL n) F.DBG_ECTL_HOR && bit (st.sect k).useMask i then st.requestHalt n 6 0 else st) s

/-- A section that START or START_SECTION starts at boundary `b` becomes RUNNING, or FENCED where its placement names a fenced
engine (R488, R492). -/
def State.sectStart (s : State) (k : Nat) (b : Word) : State :=
  if (s.sect k).startAt = some b ∧ (s.sectState k = 1 ∨ s.sectState k = 3) then
    let fenced := (List.range 32).any (fun i => bit (s.sect k).useMask i && (s.engine (k * 32 + i)).fenced)
    let s := s.setF (.SEC_STATE k) F.SEC_STATE_STATE (if fenced then 4 else 2)
    (s.modSect k (fun x => { x with startAt := none })).sectModes k
  else s

/-- Section k at boundary b, the beat before it having lasted `cyc` cycles. A section that ran no schedule in the beat has finished none
and has no cycle 0: SECs_SLACK reads 0 for it (notes/assumptions/50.md). -/
def State.sectBoundary (s : State) (k cyc : Nat) (b : Word) : State :=
  if s.running k then s.sectRunning k cyc b else (s.sectReport k 0 false).sectStart k b

/-- The sections that are started at a boundary enter their first beat after the releases (R123, R53), so that a halt at its start
finds the channels as the release left them (R453). -/
def State.sectFirst (s : State) (was : List Nat) : State :=
  (List.range 6).foldl (fun st k => if !was.contains k && st.running k then st.sectEnter k else st) s

/-- The replies of STOP_SECTION commands that wait for this boundary (R489): those that firmware has sent already, and one that it has not
(notes/assumptions/50.md). -/
def State.stopReply (s : State) (due : Bool) : State :=
  let l := s.seq.stopReplies
  let s := l.foldl (fun st f => st.reply f.status f.tag f.noibi f.words) (s.modSeq (fun q => { q with stopReplies := [] }))
  match s.seq.fw with
  | some f => if due then s.clearMailbox.reply f.status f.tag f.noibi f.words else s
  | none => s

/-- The releases of START and START_SECTION, after the sections have become RUNNING (R123). -/
def State.startReleases (s : State) (b : Word) : State :=
  let s := if s.seq.startRel = some b then
      { s with seq := { s.seq with startRel := none } }.forChannels (fun _ x => x.populated && !x.live && x.g0.cause == 0x18)
        (fun st c => (st.glvRelease c).1)
    else s
  (List.range 6).foldl (fun st k =>
    if (st.sect k).startRel ∧ (st.sect k).startAt.isNone then
      (st.modSect k (fun x => { x with startRel := false })).forChannels
        (fun _ x => ownedBy k x && !x.live && (x.g0.cause == 0x18 || x.g0.cause == 0x19)) (fun st c => (st.glvRelease c).1)
    else st) s

/-! ## Channels at a boundary -/

/-- Channels of record codeword j of lane n's downstream map. -/
def State.dnCodeword (s : State) (n j : Nat) : List Nat := (((s.laneMap n).dn.drop (71 * j)).take 71).map (fun i => n * 2048 + i)

/-- The downstream codewords that hubs reported lost (R349). -/
def State.markLost (s : State) : State :=
  (List.range 16).foldl (fun st n =>
    let w := (st.ln n).dnLostBits
    if w = 0 then st
    else
      let st := (List.range 36).foldl (fun st j =>
        if bit w j then (st.dnCodeword n j).foldl (fun st c => st.modCh c (fun x => { x with lostDn := true })) st else st) st
      st.modLn n (fun x => { x with dnLostBits := 0 })) s

/-- The freshness evaluation of the closing beat (R118). -/
def State.freshness (s : State) (beat : Nat) : State :=
  s.forChannels (fun _ x => x.g0.state == 0) (fun st c => st.glvFresh c ((st.slotOf c beat).st == 1))

/-- What a boundary changes in one channel: the egress bank closes (R50), the mode sent is in force at the hub (R116), the
ingress bank of the new beat is cleared (R49). -/
def Chan.boundary (x : Chan) (even : Bool) : Chan :=
  { x with
    egSend := x.eg, eg := none, wrote := false, slew := none, lostDn := false, inForce := x.sentMode.getD x.inForce, sentMode := none
    tripB := decide (2 ≤ x.g0.state), ing0 := if even then Slot.empty else x.ing0, ing1 := if even then x.ing1 else Slot.empty }

def State.chanBoundary (s : State) : State :=
  { s with chan := SMap.update (fun _ => Chan.reset) (fun _ x => x.boundary (s.beatNum % 2 == 0)) s.chan }

/-! ## Timers and the SVE -/

/-- One boundary for the timers that count beats; a source that they assert has asserted at this boundary (R247). -/
def State.timerBoundary (s : State) : State :=
  (s.eng.map (fun p => p.1)).foldl (fun st n =>
    let x := st.engine n
    if decide (n < 192) && st.gated (sectOf n) then st
    else if x.halted then st.irqSample n
    else (st.setEngine n ((x.timerTick n 0 1 true).timerTick n 1 1 true)).irqSample n) s

/-- The SVE's count of cycles starts again (W7 of a frame); what is in flight keeps its distance. -/
def Engine.rebase (x : Engine) : Engine :=
  let c := x.cyc
  let ld := fun (l : Load) => { l with trig := l.trig - c }
  let op := fun (l : LongOp) => { l with due := l.due - c, trig := l.trig - c }
  { x with
    cyc := 0, tickAt := 0, spadAcc := x.spadAcc.map (fun k => k - c), irqSince := x.irqSince.map (fun p => (p.1, p.2 - c))
    wdtPend := x.wdtPend.map (fun k => k - c), csrLate := x.csrLate.map (fun p => (p.1, p.2.1, p.2.2 - c))
    icMiss := x.icMiss.map (fun p => (p.1, p.2 - c))
    divOp := x.divOp.map op, fplOp := x.fplOp.map op
    done := [], flights := x.flights.map (fun f => { f with due := f.due - c, trig := f.trig - c })
    aInc := x.aInc.map (fun p => (p.1, p.2.1, p.2.2 - c)), loads0 := x.loads0.map ld, loads1 := x.loads1.map ld
    stm := { x.stm with start := x.stm.start - c } }

/-! ## The boundary (R37) -/

/-- The beat number of the beat that opens (R40, R41). -/
def State.nextBeat (s : State) : State :=
  if s.getB .BEAT_CTL F.BEAT_CTL_LOAD_ARM then
    (s.setReg .BEAT_NUM (s.reg .BEAT_NUM_LOAD)).setB .BEAT_CTL F.BEAT_CTL_LOAD_ARM false
  else s.setReg .BEAT_NUM (s.reg .BEAT_NUM + 1)

/-- The queues' part: buffered pushes reach the QM before the boundary (R94), a handoff is carried out (R100), every queue is
staged (R91). -/
def State.queueBoundary (s : State) : State :=
  let s := s.handoffExecute
  s.queues.foldl (fun st q => st.qmStage q) s

/-- What happens before a boundary: buffered pushes reach the QM (R94), and what a shortened beat keeps out of the frame is lost
(R333). -/
def State.beatCloses (s : State) : State :=
  let s := (List.range 6).foldl (fun st k => st.pushReachAll k (st.sect k).pushBuf.length) s
  (List.range 16).foldl (fun st n => st.upKeptOut n) s

/-- One boundary. -/
def State.boundary (s : State) : State :=
  let cyc := s.wallCycles (s.beat.length.getD s.beat.period)
  let s := s.beatCloses
  let old := s.beatNum
  let s := (s.markLost.freshness old).nextBeat
  let b := s.reg .BEAT_NUM
  let s := { s with beat := { s.beat with
    started := true, period := s.getF .BEAT_PERIOD F.BEAT_PERIOD_PERIOD, outPulse := s.getB .BEAT_CTL F.BEAT_CTL_OUT_EN, length := none } }
  let s := s.clockBoundary
  let s := s.chanBoundary.queueBoundary
  let s := s.timerBoundary
  let was := (List.range 6).filter (fun k => s.running k)
  let due := s.stopWaits && s.stopBeat == some b
  let s := (List.range 6).foldl (fun st k => st.sectBoundary k cyc b) s
  let s := ((s.startReleases b).sectFirst was).stopReply due
  let s := (s.tick 192).modEngine 192 Engine.rebase
  let s := (List.range 50).foldl (fun st u => st.ckuBoundary u) s
  (List.range 16).foldl (fun st n => (st.laneBoundary n).frmUpdate n) s

/-- The generator makes boundaries once fuse load has ended (R37). -/
def State.beatBoundary (s : State) : State := if s.beat.started then s.boundary else s

/-- The edge that was expected is missing: HOLDOVER and LOST set, and the device makes the boundary itself (R45). -/
def State.holdover (s : State) : State :=
  if s.beat.started && s.beat.aligned then
    ((s.setB .BEAT_STS F.BEAT_STS_HOLDOVER true).beatFlag F.BEAT_STS_LOST).boundary
  else s

def execBeatBoundary (s : State) : Out := .next s.beatBoundary
def execHoldover (s : State) : Out := .next s.holdover

end Sys2Proof.Machine
end

