-- ==== Sys2Proof/Machine/Debug.lean ====
section
/-! DEFINITION. The debug accesses of DBG_READ and DBG_WRITE: the address map under the limits of R447 (SPACE 0) and the
state of one engine by the indices of Table 18.2 (SPACE 1, R449). -/

namespace Sys2Proof.Machine

/-! ## SPACE 0 -/

/-- A memory whose section is power-gated. -/
def State.memGated (s : State) (m : MemId) : Bool := match m.sect with | some k => s.gated k | none => false

/-- R447 refuses a word access at byte address a; R492 refuses writes to the memories of a fenced engine. -/
def State.dbgRefused (s : State) (a : Nat) (write : Bool) : Bool :=
  a % 4 != 0 || decide (a < 0xC0000) || decide (0x0800F0000 ≤ a ∧ a < 0x080100000) ||
  (match globalLoc a with
   | none => true
   | some (.dev d) => !Reg.inBlock d
   | some (.glv _) => write && s.getB .GLV_CTL F.GLV_CTL_LOCK
   | some (.mem ca) =>
     match memOf ca with
     | none => true
     | some m => s.memGated m || (write && (match m with
         | .sched n => (s.engine n).fenced || (s.running (sectOf n) && !(s.engine n).halted)
         | .spad n => (s.engine n).fenced
         | _ => false)))

/-- The words of a debug read in ascending order, with the address of the mailbox port among them noted (R420); it ends before
the first refused word or the first with an uncorrectable error. -/
def State.dbgReadWords (s : State) (a : Nat) : Nat → List Word × State
  | 0 => ([], s)
  | n + 1 =>
    if s.dbgRefused a false then ([], s)
    else match globalLoc a with
    | some (.mem ca) =>
      if s.isBad ca then ([], s.eccUncorrectable ca)
      else
        let w := s.word ca
        let (ws, s) := (s.softRead ca .outside).dbgReadWords (a + 4) n
        (w :: ws, s)
    | some (.dev d) =>
      let (w, s) := s.regRead .debug true d
      let (ws, s) := s.dbgReadWords (a + 4) n
      (w :: ws, s)
    | some (.glv off) =>
      let (w, s) := s.glvWindowRead off
      let (ws, s) := s.dbgReadWords (a + 4) n
      (w :: ws, s)
    | none => ([], s)

/-- A debug write in ascending order: how many words were written. -/
def State.dbgWriteWords (s : State) (a : Nat) : List Word → Nat × State
  | [] => (0, s)
  | w :: ws =>
    if s.dbgRefused a true then (0, s)
    else
      let s := s.writeCanon .debug a ((List.range 4).map (byteOf w))
      let (k, s) := s.dbgWriteWords (a + 4) ws
      (k + 1, s)

/-! ## SPACE 1 (Table 18.2) -/

/-- The operand ports that Table 18.2 lists. -/
def dbgPorts : List Nat :=
  [0x040, 0x060, 0x080, 0x081, 0x0A0, 0x0C0, 0x100, 0x140, 0x141, 0x180, 0x181, 0x1C0, 0x1C1, 0x200, 0x201, 0x240, 0x260]

/-- The value at an index; `none` where Table 18.2 has none. -/
def State.dbgEngRead (s : State) (n i : Nat) : Option Word :=
  let x := s.engine n
  if i = 0 then some x.pc
  else if i = 1 then some (setFld 0 32 7 (fld (pendWord x.branch x.efWait (Config.freeNat s.fresh)) 32 7))
  else if i = 2 then some (setFld (put 8 4 x.rsDepth.toNat) 3 0 x.rsTop.toNat)
  else if 0x010 ≤ i ∧ i < 0x020 then some (x.rsEntry (i - 0x010))
  else if 0x020 ≤ i ∧ i < 0x02C then some (macPart (x.accOf ((i - 0x020) / 3)) ((i - 0x020) % 3))
  else if 0x400 ≤ i ∧ i < 0x800 then
    let k := i - 0x400
    if isSource n k then some (x.source k)
    else if dbgPorts.contains k && isDest n k then some (x.port k) else none
  else if 0x1000 ≤ i ∧ csrListed (i - 0x1000) then some (readMask (csrFields (i - 0x1000)) (s.csrValue n (i - 0x1000)))
  else none

/-- A write at an index; `none` where it is refused. -/
def State.dbgEngWrite (s : State) (n i : Nat) (w : Word) : Option State :=
  let x := s.engine n
  if i = 0 then some (s.setEngine n { x with pc := setFld w 35 31 0, branch := none, efWait := false })
  else if i = 1 then (if pendBad w then none else some (s.setEngine n { x with branch := pendOf w, efWait := bit w 10 }))
  else if i = 2 then
    (if 16 < fld w 8 4 then none
     else some (s.setEngine n { x with rsDepth := BitVec.ofNat 5 (fld w 8 4), rsTop := BitVec.ofNat 4 (fld w 3 0) }))
  else if 0x010 ≤ i ∧ i < 0x020 then some (s.setEngine n (x.setRs (i - 0x010) w))
  else if 0x020 ≤ i ∧ i < 0x02C then
    some (s.setEngine n (x.setAcc ((i - 0x020) / 3) (macSetPart (x.accOf ((i - 0x020) / 3)) ((i - 0x020) % 3) w)))
  else if 0x400 ≤ i ∧ i < 0x420 then some (s.setEngine n (x.setD (i - 0x400) w))
  else if 0x420 ≤ i ∧ i < 0x430 then some (s.setEngine n (x.setA (i - 0x420) w))
  else if 0x430 ≤ i ∧ i < 0x438 then some (s.setEngine n (x.setP (i - 0x430) w))
  else if 0x1000 ≤ i ∧ csrListed (i - 0x1000) then some (s.csrWrite n (i - 0x1000) w)
  else none

/-- The engine may be examined (R449). -/
def State.dbgEngOk (s : State) (n : Nat) : Bool :=
  let x := s.engine n
  x.halted && !x.locked && !x.fenced && !(decide (n < 192) && s.gated (sectOf n))

def State.dbgEngReads (s : State) (n i : Nat) : Nat → List Word
  | 0 => []
  | k + 1 => match s.dbgEngRead n i with | some w => w :: s.dbgEngReads n (i + 1) k | none => []

def State.dbgEngWrites (s : State) (n i : Nat) : List Word → Nat × State
  | [] => (0, s)
  | w :: ws =>
    match s.dbgEngWrite n i w with
    | some s => let (k, s) := s.dbgEngWrites n (i + 1) ws; (k + 1, s)
    | none => (0, s)

end Sys2Proof.Machine
end

