-- ==== Sys2Proof/Machine/Loader.lean ====
section
/-! DEFINITION. The loader (chapter 11): the layout of a schedule image (R315, R316), the choice of a placement (R319, R320),
the budget (R59), relocation (R317, R318) and the steps of a load (R321-R323); the layout of a channel-map/lane image
(R434) and its acceptance (R323). -/

namespace Sys2Proof.Machine

/-! ## Schedule images -/

/-- A segment (Table 11.6): SPACE, the target (logical engine, or cluster for SPACE 2), first word, length, and the offset of
its data in the body. -/
structure Seg where
  space : Nat
  target : Nat
  start : Nat
  len : Nat
  off : Nat
  deriving DecidableEq, Repr

/-- A placement variant (Table 11.5). -/
structure Variant where
  use : Word
  n : Nat
  perf : Word
  entry : Nat
  cyc : Nat
  segs : List Seg
  rels : List (Word × Word)
  deriving DecidableEq, Repr

/-- Words of the memory of a SPACE. -/
def spaceWords (space : Nat) : Nat := if space = 0 then 8192 else if space = 1 then 16384 else 65536

/-- USE includes the target: the engine, or an engine of the cluster. -/
def useHas (use : Word) (space target : Nat) : Bool :=
  if space = 2 then fld use (4 * target + 3) (4 * target) != 0 else bit use target

/-- The segments from word `pos` of the body, and where they end. -/
def parseSegs (body : List Word) (use : Word) : Nat → Nat → Option (List Seg × Nat)
  | 0, pos => some ([], pos)
  | n + 1, pos =>
    match body[pos]?, body[pos + 1]? with
    | some d0, some d1 =>
      let space := fld d0 35 34
      let target := if space = 2 then fld d0 33 29 / 4 else fld d0 33 29
      let len := if fld d1 16 0 = 0 then 65536 else fld d1 16 0
      let g : Seg := { space := space, target := target, start := fld d0 16 0, len := len, off := pos + 2 }
      if fld d0 28 17 ≠ 0 ∨ fld d1 35 17 ≠ 0 ∨ space = 3 ∨ spaceWords space < g.start + len ∨ body.length < pos + 2 + len ∨
          !useHas use space target then none
      else (parseSegs body use n (pos + 2 + len)).map (fun r => (g :: r.1, r.2))
    | _, _ => none

/-- The relocation records from word `pos`. -/
def parseRels (body : List Word) : Nat → Nat → Option (List (Word × Word))
  | 0, _ => some []
  | n + 1, pos =>
    match body[pos]?, body[pos + 1]? with
    | some a, some b => (parseRels body n (pos + 2)).map (fun r => (a, b) :: r)
    | _, _ => none

/-- No two segments of a variant overlap (R316). -/
def segsDisjoint : List Seg → Bool
  | [] => true
  | g :: l =>
    l.all (fun h => g.space != h.space || g.target != h.target || decide (g.start + g.len ≤ h.start ∨ h.start + h.len ≤ g.start)) &&
      segsDisjoint l

/-- The variant whose header stands at word `off` (R315, R316). -/
def parseVariant (body : List Word) (off : Nat) : Option Variant :=
  if body.length < off + 7 then none
  else
    let h := fun i => body.getD (off + i) 0
    let use := h 0
    let n := fld (h 1) 35 30
    if fld (h 0) 35 32 ≠ 0 ∨ fld (h 1) 29 0 ≠ 0 ∨ fld (h 2) 35 32 ≠ 0 ∨ fld (h 3) 35 21 ≠ 0 ∨ fld (h 4) 35 18 ≠ 0 ∨
        fld (h 5) 35 16 ≠ 0 ∨ fld (h 6) 35 18 ≠ 0 ∨ n = 0 ∨ n ≠ popcount use then none
    else match parseSegs body use (fld (h 5) 15 0) (off + 7) with
    | none => none
    | some (segs, pos) =>
      match parseRels body (fld (h 6) 17 0) pos with
      | none => none
      | some rels =>
        if segsDisjoint segs then
          some { use := use, n := n, perf := h 2, entry := fld (h 3) 20 0, cyc := fld (h 4) 17 0, segs := segs, rels := rels }
        else none

/-- Every variant of the body, or none where a rule of R315 or R316 is broken. -/
def parseVariants (body : List Word) : Option (List Variant) :=
  let w0 := body.getD 0 0
  let nv := fld w0 35 32
  if body.length < 10 ∨ fld w0 18 0 ≠ 0 ∨ fld (body.getD 1 0) 21 16 ≠ 0 ∨ nv = 0 ∨ 8 < nv ∨ fld w0 29 19 = 0 ∨
      (List.range 8).any (fun k => decide (nv ≤ k) && body.getD (2 + k) 0 != 0) then none
  else ((List.range nv).map (fun k => parseVariant body (body.getD (2 + k) 0).toNat)).foldr
    (fun v acc => match v, acc with | some x, some l => some (x :: l) | _, _ => none) (some [])

/-- Each VUSEk equals the USE of variant k, and is zero beyond VARIANTS (R429). -/
def vuseOk (hdr : List Word) (vs : List Variant) : Bool :=
  (List.range 8).all (fun k => hdr.getD (8 + k) 0 == (match vs[k]? with | some v => v.use | none => 0))

/-- σ of Table 11.9 on a cluster c = row * 4 + column. -/
def sigma (sym c : Nat) : Nat :=
  let row := if sym % 2 = 1 then 1 - c / 4 else c / 4
  let col := if 2 ≤ sym then 3 - c % 4 else c % 4
  row * 4 + col

/-- The physical position of logical engine i = c * 4 + e. -/
def physOf (sym i : Nat) : Nat := sigma sym (i / 4) * 4 + i % 4

/-- The bits of a mask moved from logical to physical positions. -/
def physMask (sym : Nat) (w : Word) : Word :=
  (List.range 32).foldl (fun a i => if bit w i then setBit a (physOf sym i) true else a) 0

/-- The placement of a variant under a symmetry fits the usable engines (R319). -/
def fits (usable : Word) (sym : Nat) (v : Variant) : Bool :=
  (List.range 32).all (fun i => !bit v.use i || bit usable (physOf sym i))

/-- The fitting placement with the largest N, then the lowest k, then the lowest SYM (R320). -/
def choosePlacement (usable : Word) (vs : List Variant) : Option (Nat × Nat × Variant) :=
  (vs.zipIdx.flatMap (fun p => (List.range 4).filterMap (fun sym =>
    if fits usable sym p.1 then some (p.2, sym, p.1) else none))).foldl
    (fun best x => match best with
      | none => some x
      | some b => if b.2.2.n < x.2.2.n then some x else some b) none

/-! ## Writing a section -/

/-- Byte address of word `idx` of a memory of section k: SPACE and the physical engine or cluster. -/
def spaceAddr (k space phys idx : Nat) : Nat :=
  (if space = 0 then schedBase (k * 32 + phys) else if space = 1 then spadBase (k * 32 + phys) else windowBase (k * 8 + phys)) + 4 * idx

/-- The physical target of a segment or site. -/
def physTarget (sym space target : Nat) : Nat := if space = 2 then sigma sym target else physOf sym target

/-- Zero-fill of the memories of the placement (step 4 of R321). -/
def State.zeroPlacement (s : State) (k : Nat) (mask : Word) : State :=
  let s := (List.range 32).foldl (fun st i =>
    if bit mask i then (st.zeroMem (.sched (k * 32 + i))).zeroMem (.spad (k * 32 + i)) else st) s
  (List.range 8).foldl (fun st c => if fld mask (4 * c + 3) (4 * c) ≠ 0 then st.zeroMem (.shared (k * 8 + c)) else st) s

/-- The first channel of the block of logical engine i of section k. -/
def State.blockFirst (s : State) (k i : Nat) : Option Nat :=
  (s.helm.chmap.bind (fun m => m.blocks.find? (fun b => b.sect == k && b.leng == i))).map (fun b => b.first)

/-- Parcel p of a schedule memory, and the memory after the parcel is written (R171). -/
def State.parcel (s : State) (base p : Nat) : Nat :=
  let w := s.word (base + 4 * (p / 2))
  if p % 2 = 0 then fld w 17 0 else fld w 35 18
def State.setParcel (s : State) (base p v : Nat) : State :=
  let a := base + 4 * (p / 2)
  s.setWord a (if p % 2 = 0 then setFld (s.word a) 17 0 v else setFld (s.word a) 35 18 v)

/-- A LIM19 patch of value v at parcel p (R317, R318): the long move's first parcel is the high half of the move. -/
def State.patchLim19 (s : State) (base p : Nat) (v : Int) : Option State :=
  let move := s.parcel base p * 2 ^ 18 + s.parcel base (p + 1)
  let m : Word := BitVec.ofNat 36 move
  if 0x3FFE < p ∨ !bit m 35 ∨ !bit m 33 ∨ fld m 18 0 ≠ 0 ∨ v < -262144 ∨ 262143 < v then none
  else
    let m' := setFld m 18 0 (wordOfInt v).toNat
    some ((s.setParcel base p (fld m' 35 18)).setParcel base (p + 1) (fld m' 17 0))

/-- One relocation record: B and the state after it, or none where it fails the load (R317, R318, Table 11.8). B is kept as a
word: LIM19 alone asks for its signed value. -/
def State.relocate (s : State) (k sym : Nat) (use : Word) (b : Word) (r : Word × Word) : Option (Word × State) :=
  let ty := fld r.1 35 32
  let space := fld r.1 31 30
  let site := fld r.1 29 25
  let arg := fld r.1 24 17
  let off := fld r.1 16 0
  let a := r.2
  let base := space == 0 && site == 0 && off == 0
  if ty = 1 then
    (if arg ≠ 0 ∨ space = 3 ∨ !bit use site ∨ spaceWords space ≤ off then none
     else
      let phys := physTarget sym space (if space = 2 then site / 4 else site)
      some (b, s.setWord (spaceAddr k space phys off) (b + a)))
  else if ty = 2 then (if arg = 0 && base then some (BitVec.ofNat 36 (0x010000000 + k * 0x2000000) + a, s) else none)
  else if ty = 3 then (if arg < 8 && base then some (BitVec.ofNat 36 (windowBase (k * 8 + sigma sym arg)) + a, s) else none)
  else if ty = 4 then
    (if arg < 32 && base then some (BitVec.ofNat 36 (spadBase (k * 32 + physOf sym arg)) + a, s) else none)
  else if ty = 5 then
    (if arg ≠ 0 ∨ space ≠ 0 ∨ !bit use site then none
     else (s.patchLim19 (schedBase (k * 32 + physOf sym site)) off (b.toInt + a.toInt)).map (fun st => (b, st)))
  else if ty = 6 then
    (if base then (s.blockFirst k arg).map (fun f => (BitVec.ofNat 36 f + a, s)) else none)
  else if ty = 7 then
    (if base then (s.blockFirst k arg).map (fun f => (BitVec.ofNat 36 (0x040000000 + f * 0x100) + a, s)) else none)
  else none

/-- Steps 6-8 of R321: the section's registers, its placement, the owners that the channel-map/lane image names, LOADED. An engine
may then own more than 256 channels, where a handoff had given it others: the spec does not say what happens, and the model sets the
owners without a check (notes/assumptions/49.md). -/
def State.placeSection (s : State) (k j sym : Nat) (w0 w1 : Word) (v : Variant) : State :=
  let mask := physMask sym v.use
  let s := s.setReg (.SEC_FRAME k) (setFld (put 7 4 (fld w1 25 22)) 0 0 (fld w0 31 31))
  let s := s.setReg (.SEC_BUDGET k) (setFld (put 28 18 (fld w0 29 19)) 17 0 v.cyc)
  let s := s.setReg (.SEC_ENTRY k) (setFld (put 20 16 (v.entry / 2 ^ 16)) 13 0 v.entry)
  let s := s.setReg (.SEC_STALL_LIMIT k) (put 9 0 (if fld w1 35 26 = 0 then 60 else fld w1 35 26))
  let s := s.setF (.SEC_XQ_MAX k) F.SEC_XQ_MAX_CYC (fld w1 15 0)
  let s := s.setF (.SEC_CFG k) F.SEC_CFG_ATOMIC (fld w0 30 30)
  let s := s.setReg (.SEC_MODE k) (physMask sym v.perf)
  let s := (((s.setF (.SEC_PLACE k) F.SEC_PLACE_VARIANT j).setF (.SEC_PLACE k) F.SEC_PLACE_SYM sym).setF (.SEC_PLACE k)
    F.SEC_PLACE_N v.n).setB (.SEC_PLACE k) F.SEC_PLACE_VALID true
  let s := s.modSect k (fun x => { x with useMask := mask })
  let s := match s.helm.chmap with
    | none => s
    | some (m : ChMap) => m.blocks.foldl (fun (st : State) (b : OwnBlock) =>
        if b.sect = k then
          (blockOf b.first b.count).foldl (fun st c =>
            st.glvOwner c (if bit v.use b.leng then k * 32 + physOf sym b.leng else 255)) st
        else st) s
  s.setF (.SEC_STATE k) F.SEC_STATE_STATE 1

/-- The variants as the header tells them before the body has arrived (VUSE0 to VUSE7): all that step 2 asks for. -/
def hdrVariants (hdr : List Word) (n : Nat) : List Variant :=
  (List.range (min 8 n)).map (fun k =>
    { use := hdr.getD (8 + k) 0, n := popcount (hdr.getD (8 + k) 0), perf := 0, entry := 0, cyc := 0, segs := [], rels := [] })

/-- Where the header of variant j stands in the body. -/
def variantAt (body : List Word) (j : Nat) : Nat := (body.getD (2 + j) 0).toNat

/-- Steps 2 and 3 of R321 (R320, R59): the status, the variant and SYM, once the words they need have arrived: the image header, the
first ten body words, the header of the variant chosen. -/
def State.loadSelect (s : State) (k : Nat) (hdr body : List Word) : Option (Nat × Nat × Nat) :=
  if hdr.length < 16 ∨ body.length < 10 then none
  else match choosePlacement (s.reg (.SEC_USABLE k)) (hdrVariants hdr (fld (body.getD 0 0) 35 32)) with
  | none => some (stNO_RESOURCE, 0, 0)
  | some (j, sym, _) =>
    let off := variantAt body j
    if body.length < off + 7 then none
    else
      let mhz := fld (body.getD 0 0) 29 19
      if mhz * s.beat.period < fld (body.getD (off + 4) 0) 17 0 * 100 ∨ s.cclk < mhz then some (stNO_RESOURCE, 0, 0)
      else some (stOK, j, sym)

/-- One act of steps 4 and 5 of R321: the zero-fill, a data word of a segment and its address, a relocation record. -/
inductive LoadAct where
  | zero
  | word (addr : Nat) (w : Word)
  | rel (r : Word × Word)
  deriving DecidableEq, Repr

/-- The data words of `n` segments from word `pos` that have arrived, and where the segments end if all have. A segment that R316 refuses
ends the list: the load fails. -/
def segActs (k sym : Nat) (body : List Word) (use : Word) : Nat → Nat → List LoadAct × Option Nat
  | 0, pos => ([], some pos)
  | n + 1, pos =>
    match body[pos]?, body[pos + 1]? with
    | some d0, some d1 =>
      let space := fld d0 35 34
      let target := if space = 2 then fld d0 33 29 / 4 else fld d0 33 29
      let len := if fld d1 16 0 = 0 then 65536 else fld d1 16 0
      if space = 3 ∨ spaceWords space < fld d0 16 0 + len ∨ !useHas use space target then ([], none)
      else
        let ws := (body.drop (pos + 2)).take len
        let base := spaceAddr k space (physTarget sym space target) (fld d0 16 0)
        let acts := ws.zipIdx.map (fun p => LoadAct.word (base + 4 * p.2) p.1)
        if ws.length < len then (acts, none)
        else
          let r := segActs k sym body use n (pos + 2 + len)
          (acts ++ r.1, r.2)
    | _, _ => ([], none)

/-- The relocation records from word `pos` that have arrived. -/
def relActs (body : List Word) : Nat → Nat → List LoadAct
  | 0, _ => []
  | n + 1, pos =>
    match body[pos]?, body[pos + 1]? with
    | some a, some b => .rel (a, b) :: relActs body n (pos + 2)
    | _, _ => []

/-- The acts of steps 4 and 5 for which the words have arrived, in order: more words only add acts at the end. -/
def loadActs (k sym : Nat) (body : List Word) (off : Nat) : List LoadAct :=
  let r := segActs k sym body (body.getD off 0) (fld (body.getD (off + 5) 0) 15 0) (off + 7)
  .zero :: r.1 ++ (match r.2 with | some pos => relActs body (fld (body.getD (off + 6) 0) 17 0) pos | none => [])

/-- One act is carried out; a relocation record that fails the load leaves no base for those after it. -/
def State.loadAct (s : State) (k sym : Nat) (use : Word) (b : Option Word) : LoadAct → State × Option Word
  | .zero => (s.zeroPlacement k (physMask sym use), b)
  | .word a w => (s.setWord a w, b)
  | .rel r =>
    match b with
    | none => (s, none)
    | some v =>
      match s.relocate k sym use v r with
      | some (v', t) => (t, some v')
      | none => (s, none)

/-- Words of a schedule image have arrived: the acts that they allow are carried out (Table 17.5). -/
def State.loadArrive (s : State) (x : Session) : State × Session :=
  if x.type ≠ 3 then (s, x)
  else
    let body := (x.words.drop 16).take (fld (x.words.getD 2 0) 22 0)
    let sel := match x.sel with | some r => some r | none => s.loadSelect x.target (x.words.take 16) body
    match sel with
    | some (0, j, sym) =>
      let off := variantAt body j
      let as := (loadActs x.target sym body off).drop x.acts
      let r := as.foldl (fun acc a => acc.1.loadAct x.target sym (body.getD off 0) acc.2 a) (s, x.relB)
      (r.1, { x with sel := sel, acts := x.acts + as.length, relB := r.2 })
    | _ => (s, { x with sel := sel })

/-- The outcome of steps 1 to 5 for a whole body, in the order of R321: the status that step 8 of Table 17.6 reports, the variant and
SYM. -/
def loadStatus (x : Session) (hdr body : List Word) : Nat × Nat × Nat :=
  match parseVariants body with
  | none => (stBAD_PARAM, 0, 0)
  | some vs =>
    if !vuseOk hdr vs then (stBAD_PARAM, 0, 0)
    else match x.sel with
    | some (0, j, sym) => if x.relB.isNone then (stBAD_PARAM, 0, 0) else (stOK, j, sym)
    | _ => (stNO_RESOURCE, 0, 0)

/-- The end of the load of a schedule image into its section: the status of step 8 of Table 17.6, with steps 6 to 8 of R321 where it
is OK; a load that fails leaves the section under R322. -/
def State.loadSchedule (s : State) (x : Session) (hdr body : List Word) : Nat × State :=
  let p := loadStatus x hdr body
  match (if p.1 = stOK then (parseVariants body).bind (fun vs => vs[p.2.1]?) else none) with
  | some v => (stOK, s.placeSection x.target p.2.1 p.2.2 (body.getD 0 0) (body.getD 1 0) v)
  | none => (p.1, s.loadFailed x.target)

/-! ## Channel-map/lane images (R434, Table 17.8) -/

/-- The described lanes, ascending. -/
def mapLanes (body : List Word) : List Nat := (List.range 16).filter (fun n => bit (body.getD 0 0) (16 + n))

/-- The owner blocks, after 7 words for each described lane. -/
def parseBlocks (body : List Word) (lanes : Nat) : List OwnBlock :=
  (List.range (fld (body.getD 0 0) 7 0)).map (fun i =>
    let b0 := body.getD (1 + 7 * lanes + 2 * i) 0
    let b1 := body.getD (2 + 7 * lanes + 2 * i) 0
    { first := fld b0 14 0, count := fld b0 27 16, sect := fld b1 10 8, leng := fld b1 4 0 })

/-- The populated indices of lane n under some blocks, ascending. -/
def blockIndices (blocks : List OwnBlock) (n : Nat) : List Nat :=
  (List.range 2048).filter (fun i => blocks.any (fun b => decide (b.first ≤ n * 2048 + i ∧ n * 2048 + i < b.first + b.count)))

/-- The three indices of a word of an explicit list. -/
def listWord (w : Word) : List Nat := [fld w 32 22, fld w 21 11, fld w 10 0]

/-- The explicit list of m indices at word `pos`, if it holds each of `idx` exactly once and zeros beyond m. -/
def parseList (body : List Word) (idx : List Nat) (pos : Nat) : Option (List Nat) :=
  let m := idx.length
  let es := ((body.drop pos).take ((m + 2) / 3)).flatMap listWord
  let l := es.take m
  if (es.drop m).all (fun e => e == 0) && l.length == m && idx.all (fun i => l.contains i) then some l else none

/-- The described lanes with their lists; `pos` is where the next explicit list stands. None where a list breaks R434. -/
def parseMapLanes (body : List Word) (blocks : List OwnBlock) : List Nat → Nat → Nat → Option (List MapLane × Nat)
  | [], _, pos => some ([], pos)
  | n :: l, j, pos =>
    let d := fun i => body.getD (1 + 7 * j + i) 0
    let idx := blockIndices blocks n
    let nw := (idx.length + 2) / 3
    let exU := bit (d 6) 27
    let exD := bit (d 6) 26
    let posD := if exU then pos + nw else pos
    match (if exU then parseList body idx pos else some idx), (if exD then parseList body idx posD else some idx) with
    | some up, some dn =>
      let m : MapLane := { lane := n, ident := d 0, mask := d 1, scale := [d 2, d 3, d 4, d 5], fmv := fld (d 6) 35 28, up := up, dn := dn,
                           firstUp := fld (d 6) 25 15, firstDn := fld (d 6) 14 4 }
      (parseMapLanes body blocks l (j + 1) (if exD then posD + nw else posD)).map (fun r => (m :: r.1, r.2))
    | _, _ => none

/-- Blocks are within their ranges, do not overlap, and no logical engine has two (R434). -/
def blocksOk : List OwnBlock → Bool
  | [] => true
  | b :: l =>
    decide (1 ≤ b.count ∧ b.count ≤ 256 ∧ b.first + b.count ≤ 32768 ∧ b.sect ≤ 5) &&
    l.all (fun c => decide (b.first + b.count ≤ c.first ∨ c.first + c.count ≤ b.first) && !(b.sect == c.sect && b.leng == c.leng)) &&
    blocksOk l

/-- Bits that Table 17.8 does not name are zero. -/
def mapReservedOk (body : List Word) (lanes nblk : Nat) : Bool :=
  fld (body.getD 0 0) 35 32 == 0 && fld (body.getD 0 0) 15 8 == 0 &&
  (List.range lanes).all (fun j => fld (body.getD (1 + 7 * j + 6) 0) 3 0 == 0) &&
  (List.range nblk).all (fun i =>
    let b0 := body.getD (1 + 7 * lanes + 2 * i) 0
    let b1 := body.getD (2 + 7 * lanes + 2 * i) 0
    fld b0 35 28 == 0 && fld b0 15 15 == 0 && fld b1 35 11 == 0 && fld b1 7 5 == 0)

/-- The image of a body under K, or none where R434 refuses it. -/
def parseChMap (body : List Word) (k : Nat) : Option ChMap :=
  let lanes := mapLanes body
  let nblk := fld (body.getD 0 0) 7 0
  let blocks := parseBlocks body lanes.length
  let pos := 1 + 7 * lanes.length + 2 * nblk
  if body.length < pos ∨ 192 < nblk ∨ !mapReservedOk body lanes.length nblk ∨ !blocksOk blocks ∨
      (List.range 16).any (fun n => !lanes.contains n && !(blockIndices blocks n).isEmpty) then none
  else match parseMapLanes body blocks lanes 0 pos with
  | none => none
  | some (ls, e) =>
    if e = body.length ∧ ls.all (fun l => mapFits k l.firstUp (rcw l.up.length 35) && mapFits k l.firstDn (rcw l.dn.length 71)) then
      some { lanes := ls, blocks := blocks }
    else none

/-- The maps and the ownership come into force (R323): LOADED sections become EMPTY, every OWNER becomes 255, and the populated
channels are those of the blocks. -/
def State.applyChMap (s : State) (m : ChMap) : State :=
  let s := { s with helm := { s.helm with chmap := some m } }
  let s := (List.range 6).foldl (fun st k => if st.sectState k = 1 then st.emptySection k else st) s
  let s := s.forChannels (fun _ _ => true) (fun st c => (st.glvOwner c 255).modCh c (fun x => { x with populated := false }))
  let s := m.blocks.foldl (fun (st : State) (b : OwnBlock) =>
    (blockOf b.first b.count).foldl (fun st c => st.modCh c (fun x => { x with populated := true })) st) s
  (List.range 16).foldl (fun st n => st.frmUpdate n) s

end Sys2Proof.Machine
end

