-- ==== Sys2Proof/Machine/Images.lean ====
section
/-! DEFINITION. Images (R424-R434): verification in the order of Table 17.6, and what the acceptance of each type does. -/

namespace Sys2Proof.Machine

/-! ## Parts of an image (R424, Tables 17.2 and 17.3) -/

def imgBodyLen (img : List Word) : Nat := fld (img.getD 2 0) 22 0
def imgBody (img : List Word) : List Word := (img.drop 16).take (imgBodyLen img)
def imgSvn (img : List Word) : Nat := fld (img.getD 1 0) 6 0
def imgSlot (img : List Word) : Nat := fld (img.getD 3 0) 33 32
/-- The signature block as octets. -/
def imgSig (img : List Word) : List Octet := octetsOfWords (img.drop (16 + imgBodyLen img))
def imgEc (img : List Word) : List Octet := (imgSig img).take 96
def imgEcSig (img : List Word) : List Octet := ((imgSig img).drop 96).take 96
def imgKey (img : List Word) : List Octet := ((imgSig img).drop 192).take 56
def imgLmsSig (img : List Word) : List Octet := (imgSig img).drop 248
/-- The digest D of header and body (R425). -/
def imgDigest (img : List Word) : List Octet := sha384 (packWords (img.take (16 + imgBodyLen img)))

/-! ## Steps 1 to 7 of Table 17.6 -/

/-- Step 1: form. -/
def imgFormOk (x : Session) : Bool :=
  let img := x.words
  let h := fun i => img.getD i 0
  let sigWords := img.drop (16 + imgBodyLen img)
  img.length == x.count && decide (16 < img.length) && fld (h 0) 35 27 == 1 && fld (h 0) 26 8 == 0 && fld (h 0) 7 0 == x.type &&
    fld (h 1) 35 7 == 0 && decide (imgSvn img ≤ 64) && fld (h 2) 35 23 == 0 && imgBodyLen img != 0 && fld (h 3) 31 3 == 0 &&
    (x.type != 1 || imgSlot img == 0) &&
    (if x.type = 3 then fld (h 3) 2 0 == x.target && decide (x.target ≤ 5) else fld (h 3) 2 0 == 0) &&
    (List.range 4).all (fun i => fld (h (4 + i)) 35 32 == 0 && (bit (h 3) 34 || h (4 + i) == 0)) &&
    (List.range 8).all (fun i => if x.type = 3 then fld (h (8 + i)) 35 32 == 0 else h (8 + i) == 0) && sigWords.all (fun w => fld w 35 32 == 0) &&
    lmsLen (be32 (imgKey img) 0) (be32 (imgKey img) 4) == some ((sigWords.length - 62) * 4) && decide (62 < sigWords.length)

/-- Table 17.10 accepts the type in the present lifecycle. -/
def typeAccepted (lc ty : Nat) : Bool := lc == 1 || lc == 3 || ((lc == 2 || lc == 4) && ty == 1)

/-- The vendor signs type 0x01 and, in VENDOR_TEST, every type. -/
def vendorSigned (lc ty : Nat) : Bool := ty == 1 || lc == 1

/-- Step 2: lifecycle, device and slot. -/
def State.imgStep2 (s : State) (x : Session) : Bool :=
  let img := x.words
  typeAccepted s.helm.lc x.type &&
    (!bit (img.getD 3 0) 34 || (List.range 4).all (fun i => fld (img.getD (4 + i) 0) 31 0 == fld (s.otpWord (1 + i)) 31 0)) &&
    (vendorSigned s.helm.lc x.type || s.slotOk (imgSlot img))

/-- Step 3: the signer's key hashes. -/
def State.imgStep3 (s : State) (x : Session) : Bool :=
  let img := x.words
  s.keysMatch (if vendorSigned s.helm.lc x.type then 0x008 else 0x020 + 24 * imgSlot img) (imgEc img) (imgKey img)

/-- The outcome of steps 1 to 7: the status, and HELM_VSTS without STATUS. -/
def State.verify (s : State) (x : Session) : Nat × Word :=
  let img := x.words
  let v := setFld (put 26 19 x.type) 12 6 (imgSvn img)
  let d := imgDigest img
  if !imgFormOk x then (stBAD_PARAM, setBit v 18 true)
  else if !s.imgStep2 x || !s.imgStep3 x then (stAUTH, setBit v 17 true)
  else if !(ecdsaKeyOk (imgEc img) && lmsTypesAgree (imgKey img) (imgLmsSig img)) then (stSIG_FAIL, setBit v 16 true)
  else
    let ec := ecdsaVerify (imgEc img) d (imgEcSig img)
    let lms := lmsVerify (imgKey img) d (imgLmsSig img)
    let v := setBit (setBit v 15 (!ec)) 14 (!lms)
    if !ec || !lms then (stSIG_FAIL, v)
    else if imgSvn img < s.arb x.type then (stROLLBACK, setBit v 13 true)
    else (stOK, v)

/-! ## Acceptance -/

/-- SUPERVISOR_READY becomes CONFIGURED once the Glove is locked and a channel-map/lane image is in force (Table 16.5). -/
def State.checkConfigured (s : State) : State :=
  if s.baseState = 3 ∧ s.getB .GLV_CTL F.GLV_CTL_LOCK ∧ s.helm.chmap.isSome then s.moveDevState 4 else s

/-- R431. -/
def supBodyOk (body : List Word) : Bool :=
  let w := body.getD 0 0
  decide (body.length ≤ 245761) && fld w 35 31 == 0 && decide (0x040000000 ≤ w.toNat ∧ w.toNat ≤ 0x040077FFF)

/-- The SVE leaves reset at body W0 in ring 0 with IMASK 7 (R430); with HOR it waits to halt (R458). -/
def State.releaseSve (s : State) (entry : Word) : State :=
  let s := s.resetSve.resetSprgn
  let s := s.modEngine 192 (fun x => { x with pc := entry, ring := 0, imask := 7, inBeat := true })
  if s.getB (.DBG_ECTL 192) F.DBG_ECTL_HOR then s.requestHalt 192 6 0 else s

/-- Step 8 and acceptance of a supervisor image. -/
def State.acceptSup (s : State) (body : List Word) : Nat × State :=
  if !supBodyOk body then (stBAD_PARAM, s)
  else
    let s := s.releaseSve (body.getD 0 0)
    (stOK, (s.moveDevState (if s.getB .HOST_STATE F.HOST_STATE_STARTED then 5 else 3)).checkConfigured)

/-- R432. -/
def limitsBodyOk (body : List Word) : Bool :=
  let w := body.getD 0 0
  let count := fld w 27 16
  fld w 35 28 == 0 && fld w 15 15 == 0 && decide (1 ≤ count ∧ count ≤ 2048 ∧ fld w 14 0 + count ≤ 32768) && body.length == 1 + 7 * count &&
    (List.range count).all (fun i =>
      let g := body.getD (1 + 7 * i + 6) 0
      fld g 20 12 == 0 && [30, 28, 26, 24, 22].all (fun hi => fld g hi (hi - 1) != 3))

/-- The entry of a channel after its limits image (R128): both copies alike, OWNER kept, PARKED with INIT and its ACT_PARK. -/
def Chan.limited (x : Chan) (beat : Nat) (w : Nat → Word) : Chan :=
  let w6 := setFld (w 6) 19 12 x.owner.toNat
  let last := if x.g0.state = 3 then fld x.g0.w7 14 0 else beat
  let g : GlvEntry := { w0 := w 0, w1 := w 1, w2 := w 2, w3 := w 3, w4 := w 4, w5 := w 5, w6 := w6,
                        w7 := setFld (setFld (setFld (put 35 34 3) 33 32 (fld w6 24 23)) 31 27 0x18) 14 0 last }
  { x with g0 := g, g1 := g, lgValid := false, eg := none, egSend := none, covered := true, bad0 := false, bad1 := false }

/-- The LIMITS messages of a block (R114): per lane in ALIGN or ACTIVE, its populated channels. -/
def State.limitsBlock (s : State) (first count : Nat) : State :=
  (List.range 16).foldl (fun st n =>
    let ls := st.laneState n
    if ls = lsALIGN ∨ ls = lsACTIVE then
      let idx := (st.populatedOf n).filter (fun i => decide (first ≤ n * 2048 + i ∧ n * 2048 + i < first + count))
      if idx.isEmpty then st else st.sendLimits n idx
    else st) s

/-- Step 8 and acceptance of a limits image (R129, R432). While LOCK is set it reads the STATE of each channel, so the copies are compared
first (R132). -/
def State.acceptLimits (s : State) (body : List Word) : Nat × State :=
  if !limitsBodyOk body then (stBAD_PARAM, s)
  else
    let first := fld (body.getD 0 0) 14 0
    let count := fld (body.getD 0 0) 27 16
    let s := if s.getB .GLV_CTL F.GLV_CTL_LOCK then (blockOf first count).foldl (fun st c => (st.glvCompare c).1) s else s
    if s.getB .GLV_CTL F.GLV_CTL_LOCK && (blockOf first count).any (fun c => (s.ch c).live) then (stSTATE, s)
    else
      let s := (List.range count).foldl (fun st i =>
        st.modCh (first + i) (fun x => x.limited st.beatNum (fun k => body.getD (1 + 7 * i + k) 0))) s
      ((stOK, ((s.limitsBlock first count).setB .GLV_CTL F.GLV_CTL_LOCK true).checkConfigured))

/-- Step 8 and acceptance of a schedule image: BUSY while its section is gated or a march run holds it. -/
def State.acceptSchedule (s : State) (x : Session) : Nat × State :=
  let k := x.target
  if s.gated k ∨ (s.march.busy ∧ s.march.alg ≠ 1 ∧ marchSect s.march.kind s.march.inst = some k) then (stBUSY, s.loadFailed k)
  else s.loadSchedule x (x.words.take 16) (imgBody x.words)

/-- Step 8 and acceptance of a channel-map/lane image. -/
def State.acceptChMap (s : State) (body : List Word) : Nat × State :=
  match parseChMap body s.kNow with
  | none => (stBAD_PARAM, s)
  | some m => (stOK, (s.applyChMap m).checkConfigured)

/-- Step 8. -/
def State.stepEight (s : State) (x : Session) : Nat × State :=
  let img := x.words
  if x.type = 1 then s.acceptSup (imgBody img)
  else if x.type = 2 then s.acceptLimits (imgBody img)
  else if x.type = 3 then s.acceptSchedule x
  else s.acceptChMap (imgBody img)

/-- The measurement after acceptance (R438): D, or for limits the chain over D. -/
def State.measure (s : State) (x : Session) : State :=
  let d := imgDigest x.words
  let svn := imgSvn x.words
  if x.type = 1 then s.setMeas 0 d svn
  else if x.type = 2 then s.setMeas 1 (sha384 (s.measOf 1 ++ d)) svn
  else if x.type = 3 then s.setMeas (3 + x.target) d svn
  else s.setMeas 2 d svn

/-- The words of LOAD_END's reply. -/
def State.loadEndWords (s : State) (x : Session) : List Word :=
  [BitVec.ofNat 36 x.type, BitVec.ofNat 36 (imgSvn x.words), if x.type = 3 then s.reg (.SEC_PLACE x.target) else 0]

/-- The end of a verification (R429, R430): the session closes, an accepted image takes effect, HELM_VSTS records the outcome
and the reply of LOAD_END is queued. -/
def State.verificationEnd (s : State) : State :=
  match s.seq.session with
  | none => s
  | some x =>
    if !x.closing then s
    else
      let s := { s.endCmd with seq := { s.endCmd.seq with session := none } }
      let (st, v) := s.verify x
      let (st, s) := if st = stOK then s.stepEight x else (st, if x.type = 3 then s.loadFailed x.target else s)
      let s := s.setReg .HELM_VSTS (setFld v 35 27 st)
      if st = stOK then
        let s := if bit (x.words.getD 3 0) 35 && decide (s.arb x.type < imgSvn x.words) then s.arbCommit x.type (imgSvn x.words) else s
        let s := s.measure x
        s.reply stOK x.tag x.noibi (s.loadEndWords x)
      else if st = stSTATE then s.replyState x.tag x.noibi
      else s.reply st x.tag x.noibi []

def execVerificationComplete (s : State) : Out := .next s.verificationEnd

end Sys2Proof.Machine
end

