-- ==== Sys2Proof/Machine/Host.lean ====
section
/-! DEFINITION. The host commands (chapter 16, Tables 16.6, 16.7 and 18.4): the checks of R409 in order, the executor (R411),
and what each command does and replies. A firmware command takes effect as it is handed over (R419), and the reply that the
tables give it stands in the mailbox record until firmware sends it. -/

namespace Sys2Proof.Machine

/-- What a command answers: status, reply words, the state after it. -/
abbrev Rep := Nat × List Word × State

def repOk (s : State) (ws : List Word) : Rep := (stOK, ws, s)
def repFail (s : State) (st : Nat) : Rep := (st, [], s)

/-- The header word of a command (Table 16.2). -/
def hostHeader (opc : Nat) (h : HostHdr) (len : Nat) : Word :=
  setBit (setFld (setFld (put 35 27 opc) 26 18 h.tag.toNat) 17 9 len) 8 h.noibi

/-! ## Check 2: assigned opcodes; check 3: parameters -/

def opAssigned (o : Nat) : Bool :=
  [0x001, 0x002, 0x003, 0x004, 0x010, 0x011, 0x012, 0x020, 0x021, 0x022, 0x023, 0x030, 0x031, 0x032, 0x033, 0x034, 0x040, 0x041,
   0x042, 0x043, 0x050, 0x051, 0x052, 0x060, 0x061, 0x070, 0x071, 0x072, 0x073, 0x074, 0x080, 0x081, 0x082, 0x083, 0x084, 0x085,
   0x086, 0x087, 0x088, 0x089, 0x090, 0x091, 0x0A0, 0x0A1, 0x0F0].contains o

/-- Words of four octets. -/
def octetWords (ws : List Word) : Bool := ws.all (fun w => fld w 35 32 == 0)

/-- An engine number of a debug command: 0-191, or 255 for the SVE (R471). -/
def dbgEngOkNum (n : Nat) : Bool := decide (n < 192) || n == 255

/-- A target word (R471). -/
def targetOk (w : Word) : Bool := if bit w 35 then fld w 34 3 == 0 else fld w 34 8 == 0 && dbgEngOkNum (fld w 7 0)

/-- LEN and every parameter field lie within Tables 16.7 and 18.4, and reserved bits are zero. -/
def paramsOk (o : Nat) (ws : List Word) : Bool :=
  let w0 := ws.getD 0 0
  let w1 := ws.getD 1 0
  let n := ws.length
  if [0x001, 0x002, 0x003, 0x011, 0x012, 0x022, 0x023, 0x030, 0x061, 0x071, 0x073, 0x089, 0x090, 0x091].contains o then n == 0
  else if o = 0x004 then n == 1 && fld w0 35 7 == 0 && fld w0 6 0 != 0
  else if o = 0x010 then
    n == 1 && fld w0 35 7 == 0 && fld w0 3 2 == 0 && decide (fld w0 1 0 ≤ 2) && decide (fld w0 6 4 ≤ 5) && (fld w0 1 0 == 2 || fld w0 6 4 == 0)
  else if o = 0x020 then
    n == 2 && fld w0 35 11 == 0 && decide (1 ≤ fld w0 7 0 ∧ fld w0 7 0 ≤ 4) && decide (fld w0 10 8 ≤ 5) &&
      (fld w0 7 0 == 3 || fld w0 10 8 == 0) && decide (3 ≤ w1.toNat ∧ w1.toNat ≤ 4194304)
  else if o = 0x021 then decide (2 ≤ n)
  else if o = 0x031 ∨ o = 0x032 then n == 1 && decide (w0.toNat ≤ 5)
  else if o = 0x033 ∨ o = 0x034 then n == 2 && decide (w0.toNat < 32768 ∧ 1 ≤ w1.toNat ∧ w0.toNat + w1.toNat ≤ 32768)
  else if o = 0x040 ∨ o = 0x042 then n == 2 && decide (1 ≤ w1.toNat ∧ w1.toNat ≤ 511)
  else if o = 0x041 ∨ o = 0x043 then decide (2 ≤ n)
  else if o = 0x050 then n == 1 && decide (w0.toNat ≤ 19)
  else if o = 0x051 then
    n == 1 && fld w0 35 10 == 0 && fld w0 7 5 == 0 && decide (fld w0 4 0 ≤ 19) && fld w0 9 8 != 0
  else if o = 0x052 then n == 2 && decide (w0.toNat ≤ 19)
  else if o = 0x060 then n == 1 && !bit w0 34
  else if o = 0x070 then
    decide (1 ≤ w0.toNat ∧ w0.toNat ≤ 64) && n == 1 + (w0.toNat + 3) / 4 && octetWords (ws.drop 1)
  else if o = 0x072 then
    decide (2 ≤ n) && fld w0 35 24 == 0 && fld w0 11 0 % 4 == 0 && decide (fld w0 11 0 + 4 * (n - 2) < fld w0 23 12) && octetWords (ws.drop 1)
  else if o = 0x074 then n == 12 && octetWords ws
  else if o = 0x080 ∨ o = 0x081 then n == 1 && targetOk w0
  else if o = 0x082 then
    n == 2 && fld w0 35 9 == 0 && dbgEngOkNum (fld w0 7 0) && decide (1 ≤ w1.toNat ∧ w1.toNat ≤ 65535)
  else if o = 0x083 then
    n == 3 && fld w0 34 8 == 0 && (if bit w0 35 then dbgEngOkNum (fld w0 7 0) else fld w0 7 0 == 0) &&
      decide (1 ≤ (ws.getD 2 0).toNat ∧ (ws.getD 2 0).toNat ≤ 511)
  else if o = 0x084 then
    decide (3 ≤ n) && fld w0 34 8 == 0 && (if bit w0 35 then dbgEngOkNum (fld w0 7 0) else fld w0 7 0 == 0)
  else if o = 0x085 ∨ o = 0x086 then n == 3 && fld w0 35 10 == 0 && dbgEngOkNum (fld w0 7 0)
  else if o = 0x087 then n == 2 && fld w0 35 8 == 0 && dbgEngOkNum (fld w0 7 0) && fld w1 34 32 == 0
  else if o = 0x088 then fld w0 33 3 == 0 && decide (fld w0 35 34 ≤ 2) && n == (if fld w0 35 34 = 1 then 2 else 1)
  else if o = 0x0A0 then decide (w0.toNat < 65536) && n == (if isStepQ w0.toNat then 9 else 5)
  else if o = 0x0A1 then n == 1 && decide (w0.toNat < 65536)
  else true

/-! ## Check 4: Table 16.6 -/

/-- Who executes a command. -/
inductive Exec where
  | seq
  | firmware
  deriving DecidableEq, Repr

/-- Device state in lo..hi, or FAULT where the row says so. -/
def inStates (st lo hi : Nat) : Bool := decide (lo ≤ st ∧ st ≤ hi)

/-- The session of LOAD_DATA, LOAD_END and LOAD_ABORT: open and not closing (R416, R526). -/
def State.openSession (s : State) : Option Session := s.seq.session.filter (fun x => !x.closing)

/-- A destructive march run holds a memory of section k. -/
def State.marchHolds (s : State) (k : Nat) : Bool :=
  s.march.busy && s.march.alg != 1 && marchSect s.march.kind s.march.inst == some k

/-- OFFSET of a LOAD_DATA is the words received so far, where a session takes it (Table 16.7, R418). -/
def State.offsetOk (s : State) (o : Nat) (ws : List Word) : Bool :=
  o != 0x021 || (match s.openSession with
    | some x => (ws.getD 0 0).toNat == x.words.length
    | none => true)

/-- Table 16.6 and its section conditions: `none` for STATE. A load or START_SECTION of a section that a destructive march holds, and
START_SECTION of one that is gated, pass to BUSY in whatever state the section is (R396, R490). -/
def State.legalNow (s : State) (o : Nat) (ws : List Word) : Option Exec :=
  let st := s.devState
  let prev := s.getF .HOST_STATE F.HOST_STATE_PREV
  let w0 := ws.getD 0 0
  let seqIf := fun (b : Bool) => if b then some Exec.seq else none
  let fwIf := fun (b : Bool) => if b then some Exec.firmware else none
  if o ≤ 0x003 then some .seq
  else if o = 0x004 then fwIf (inStates st 3 6)
  else if o = 0x010 then
    (if fld w0 1 0 = 0 then some .seq
     else if fld w0 1 0 = 1 then seqIf (inStates st 3 6)
     else let k := s.sectState (fld w0 6 4); seqIf (inStates st 2 6 && (k == 0 || k == 1 || k == 3)))
  else if o = 0x011 then some .seq
  else if o = 0x012 then seqIf (st == 6)
  else if o = 0x020 then
    let ty := fld w0 7 0
    if s.seq.session.isSome || !loadLegal ty st prev then none
    else if ty ≤ 2 then some .seq
    else if ty = 3 then fwIf (let k := s.sectState (fld w0 10 8); k == 0 || k == 3 || s.marchHolds (fld w0 10 8))
    else some .firmware
  else if o = 0x021 ∨ o = 0x022 then s.openSession.map (fun x => if x.type ≤ 2 then Exec.seq else .firmware)
  else if o = 0x023 then seqIf (inStates st 2 7 && s.openSession.isSome)
  else if o = 0x030 then fwIf (st == 4)
  else if o = 0x031 then fwIf (inStates st 5 6 && s.running w0.toNat)
  else if o = 0x032 then fwIf (inStates st 5 6 &&
    (let k := s.sectState w0.toNat; k == 1 || k == 3 || s.gated w0.toNat || s.marchHolds w0.toNat))
  else if o = 0x033 then fwIf (inStates st 4 6)
  else if o = 0x034 then fwIf (st == 5)
  else if inStates o 0x040 0x052 then fwIf (inStates st 3 6)
  else if inStates o 0x060 0x074 then seqIf (inStates st 2 7)
  else if inStates o 0x080 0x089 then some .seq
  else if o = 0x090 ∨ o = 0x091 then fwIf (inStates st 3 6)
  else if o = 0x0A0 ∨ o = 0x0A1 then fwIf (inStates st 4 6)
  else fwIf (inStates st 3 6)

/-! ## Check 5: access level and lifecycle (R440, Tables 17.10 and 18.1) -/

def State.authOk (s : State) (o : Nat) : Bool :=
  if o = 0x083 ∨ o = 0x087 then decide (1 ≤ s.dbg.level)
  else if inStates o 0x080 0x088 then s.dbg.level == 2
  else if inStates o 0x070 0x072 then s.helm.lc != 7
  else if o = 0x074 then s.helm.idKey.isSome && inStates s.helm.lc 1 3
  else true

/-! ## Check 6: the executor (R411), a held or gated section (R396, R490). A LOAD_END under verification leaves it free -/

def State.hostBusy (s : State) (o : Nat) (x : Exec) (ws : List Word) : Bool :=
  let w0 := ws.getD 0 0
  (x == .firmware && s.seq.fw.any (fun f => f.opcode != 0x022)) ||
  (o == 0x020 && fld w0 7 0 == 3 && (s.gated (fld w0 10 8) || s.marchHolds (fld w0 10 8))) ||
  (o == 0x032 && (s.gated w0.toNat || s.marchHolds w0.toNat)) ||
  (o == 0x060 && s.march.busy)

/-! ## Commands of the sequencer -/

def State.cmdGetStatus (s : State) (h : HostHdr) : Rep :=
  let lvl := s.dbg.level
  let w2 := setBit (setBit (setBit 0 0 h.safeNLow) 1 s.alertN) 2 (s.getB .HOST_STATE F.HOST_STATE_SUP)
  let w2 := setBit (setBit w2 3 (s.getB .GLV_CTL F.GLV_CTL_LOCK)) 4 (s.getB .HOST_STATE F.HOST_STATE_STARTED)
  let w2 := setFld (setFld w2 6 5 lvl) 17 9 (s.getF .HOST_STATE F.HOST_STATE_PREV)
  repOk s [s.sectStates, s.reg .BEAT_NUM, w2, s.reg .HOST_STATE_ERR]

def State.cmdGetIdentity (s : State) : Rep :=
  repOk s ([s.reg .HOST_DEVID] ++ (List.range 4).map (fun i => s.otpWord (1 + i)) ++ [put 2 0 s.helm.lc])

def State.cmdGetFeatures (s : State) : Rep :=
  repOk s ([s.reg .HOST_CAPS] ++ (List.range 6).map (fun k => s.reg (.SEC_USABLE k)) ++
    [setFld (s.reg .BEAT_FMIN_SCHED) 10 0 s.fminSched])

/-- RESET: device scope begins later (DEVICE_RESET_DELAY_END); supervisor and section scope act at once. -/
def State.cmdReset (s : State) (w0 : Word) : Rep :=
  if fld w0 1 0 = 0 then repOk { s with seq := { s.seq with resetPend := true } } []
  else if fld w0 1 0 = 1 then repOk s.supervisorReset []
  else repOk (s.resetSection (fld w0 6 4)) []

/-- CLEAR_SAFE: STATE while SAFE_N is low (R127); otherwise the state in PREV returns. -/
def State.cmdClearSafe (s : State) (h : HostHdr) : Rep :=
  if s.devState ≠ 6 ∨ h.safeNLow then repFail s stSTATE
  else repOk (s.setDevState (s.getF .HOST_STATE F.HOST_STATE_PREV)).sessionCheck []

/-- LOAD_BEGIN: supervisor memory is undefined from here on for type 0x01 (R431); the target section is EMPTY for type 0x03
(R428). -/
def State.cmdLoadBegin (s : State) (ws : List Word) : Rep :=
  let w0 := ws.getD 0 0
  let ty := fld w0 7 0
  let x : Session := { type := ty, target := fld w0 10 8, count := (ws.getD 1 0).toNat, words := [], closing := false, tag := 0, noibi := false }
  let s := { s with seq := { s.seq with session := some x } }
  let s := if ty = 1 then s.scramble .sup else if ty = 3 then s.emptySection x.target else s
  repOk s []

/-- Where word p of an image goes (Table 17.5): of a supervisor image body W1 onward to supervisor memory, header and signature block
to the staging window, body W0 to Helm alone; every word of a limits image to the staging window. The window is filled from its first
word on, in image order (notes/assumptions/50.md). -/
def imgWordAddr (ty bodyLen p : Nat) : Option Nat :=
  if ty = 2 then some (0x0800F0000 + 4 * p)
  else if ty ≠ 1 then none
  else if p < 16 then some (0x0800F0000 + 4 * p)
  else if p = 16 then none
  else if p < 16 + bodyLen then some (0x080000000 + 4 * (p - 17))
  else some (0x0800F0000 + 4 * (p - bodyLen))

/-- The words of an image from number `start` on are stored; none lies outside supervisor memory, and no body word in the staging
window. -/
def State.storeImgWords (s : State) (ty : Nat) (img : List Word) (start : Nat) : State :=
  (List.range (img.length - start)).foldl (fun st i =>
    match imgWordAddr ty (imgBodyLen img) (start + i) with
    | some a => if a < (if 16 ≤ start + i ∧ start + i < 16 + imgBodyLen img ∧ ty = 1 then 0x0800F0000 else 0x080100000) then
        st.setWord a (img.getD (start + i) 0) else st
    | none => st) s

/-- LOAD_DATA: no word may lie beyond the count (R418). OFFSET was checked with the parameters. The words of a schedule image have their
effect on the section as they arrive (Table 17.5). -/
def State.cmdLoadData (s : State) (ws : List Word) : Rep :=
  match s.openSession with
  | none => repFail s stSTATE
  | some x =>
    let data := ws.drop 1
    if x.count < x.words.length + data.length then repFail s stBAD_PARAM
    else
      let img := x.words ++ data
      let r := (s.storeImgWords x.type img x.words.length).loadArrive { x with words := img }
      repOk { r.1 with seq := { r.1.seq with session := some r.2 } } [BitVec.ofNat 36 img.length]

/-- LOAD_END: the session closes when its verification completes; the reply is deferred (R526). -/
def State.cmdLoadEnd (s : State) (h : HostHdr) : State :=
  match s.openSession with
  | none => s
  | some x => { s with seq := { s.seq with session := some { x with closing := true, tag := h.tag, noibi := h.noibi } } }

def State.cmdLoadAbort (s : State) : Rep := repOk (s.endSession stSTATE) []

/-- MARCH_RUN acts through MARCH_CTL; a refusal of R395 gives the status. -/
def State.cmdMarchRun (s : State) (w0 : Word) : Rep :=
  let code := s.marchRefuse w0
  let s := s.marchCtlWrite (setBit w0 35 true)
  if code = 0 then repOk s [] else repFail s (if code = 1 then stSTATE else if code = 2 then stBAD_PARAM else stBUSY)

def State.cmdMarchResult (s : State) : Rep := repOk s [s.reg .MARCH_STS, s.reg .MARCH_FAIL]

def State.cmdUnlockPassword (s : State) (ws : List Word) : Rep :=
  let (st, s) := s.unlockPassword ((octetsOfWords (ws.drop 1)).take (ws.getD 0 0).toNat)
  (st, [], s)

def State.cmdUnlockChallenge (s : State) : Rep := let (n, s) := s.unlockChallenge; repOk s (wordsN 12 n)

def State.cmdUnlockResponse (s : State) (ws : List Word) : Rep :=
  let total := fld (ws.getD 0 0) 23 12
  let off := fld (ws.getD 0 0) 11 0
  let (st, s) := s.unlockResponse total off ((octetsOfWords (ws.drop 1)).take (total - off))
  (st, [], s)

/-! ## Debug commands (Table 18.4) -/

/-- The engine a debug command names. -/
def dbgNum (w : Word) : Nat := if fld w 7 0 = 255 then 192 else fld w 7 0

/-- The engines a target word names (R471). -/
def State.dbgTargets (s : State) (w : Word) : List Nat :=
  if bit w 35 then (List.range 193).filter (fun n => bit (s.reg (.DBG_ECTL n)) (24 + fld w 2 0)) else [dbgNum w]

/-- DBG_HALT: its reply waits until every target has halted. -/
def State.cmdDbgHalt (s : State) (h : HostHdr) (w0 : Word) : State :=
  let ts := s.dbgTargets w0
  let s := ts.foldl (fun st n => st.requestHalt n 1 0) s
  let w : HaltWait := { opcode := 0x080, tag := h.tag, noibi := h.noibi, targets := ts }
  State.haltReplies { s with seq := { s.seq with haltWait := s.seq.haltWait ++ [w] } }

def State.cmdDbgResume (s : State) (w0 : Word) : Rep :=
  let ts := (s.dbgTargets w0).filter (fun n => (s.engine n).halted)
  repOk (ts.foldl (fun st n => st.resumeEngine n) s) [BitVec.ofNat 36 ts.length]

/-- DBG_STEP: STATE unless the engine is halted; otherwise its reply waits until it halts again. -/
def State.cmdDbgStep (s : State) (h : HostHdr) (ws : List Word) : State :=
  let n := dbgNum (ws.getD 0 0)
  if (s.engine n).halted then
    let s := s.stepEngine n (ws.getD 1 0).toNat (bit (ws.getD 0 0) 8)
    { s with seq := { s.seq with haltWait := s.seq.haltWait ++ [{ opcode := 0x082, tag := h.tag, noibi := h.noibi, targets := [n] }] } }
  else s.replyState h.tag h.noibi

/-- DBG_READ of the mailbox port replies NOPEEK (R420). -/
def State.cmdDbgRead (s : State) (ws : List Word) : Rep :=
  let w0 := ws.getD 0 0
  let a := (ws.getD 1 0).toNat
  let n := (ws.getD 2 0).toNat
  if bit w0 35 then
    let e := dbgNum w0
    if !s.dbgEngOk e then repFail s stSTATE
    else
      let s := if a ≤ 0x1143 ∧ 0x1140 < a + n then s.cntCatch e else s
      let l := s.dbgEngReads e a n
      (if l.length = n then stOK else stPARTIAL, l, s)
  else
    let (l, s') := s.dbgReadWords a n
    if (List.range l.length).any (fun i => a + 4 * i == Reg.addr .HOST_MBX_DATA) then repFail s stNOPEEK
    else (if l.length = n then stOK else stPARTIAL, l, s')

def State.cmdDbgWrite (s : State) (ws : List Word) : Rep :=
  let w0 := ws.getD 0 0
  let a := (ws.getD 1 0).toNat
  let data := ws.drop 2
  let fin := fun (r : Nat × State) => if r.1 = data.length then repOk r.2 [] else (stPARTIAL, [BitVec.ofNat 36 r.1], r.2)
  if bit w0 35 then
    let e := dbgNum w0
    if s.dbgEngOk e then fin (s.dbgEngWrites e a data) else repFail s stSTATE
  else fin (s.dbgWriteWords a data)

/-- DBG_BREAK and DBG_WATCH: the compare address, then the control word. -/
def State.cmdDbgCmp (s : State) (watch : Bool) (ws : List Word) : Rep :=
  let n := dbgNum (ws.getD 0 0)
  let k := fld (ws.getD 0 0) 9 8
  let s := s.csrWrite n ((if watch then 0x108 else 0x100) + k) (ws.getD 1 0)
  repOk (s.writeReg .debug (if watch then .DBG_WCTL n k else .DBG_BCTL n k) (ws.getD 2 0)) []

/-- DBG_VTERM (R467). -/
def State.cmdDbgVterm (s : State) (ws : List Word) : Rep :=
  let n := dbgNum (ws.getD 0 0)
  let w1 := ws.getD 1 0
  let d := s.dbg
  if bit w1 35 && (SMap.get (fun _ => none) d.rxd n).isSome then repFail s stNO_RESOURCE
  else
    let out := match SMap.get (fun _ => none) d.txd n with
      | some w => setBit w 35 true
      | none => 0
    let out := setBit out 34 (SMap.get (fun _ => false) d.txLost n)
    let d := { d with txd := SMap.set (fun _ => none) d.txd n none, txLost := SMap.set (fun _ => false) d.txLost n false }
    let d := if bit w1 35 then { d with rxd := SMap.set (fun _ => none) d.rxd n (some (put 31 0 (fld w1 31 0))) } else d
    repOk { s with dbg := d } [out]

/-- DBG_GONG: read, configure (the sources; FIRE and FIRED are ignored) or fire. -/
def State.cmdDbgGong (s : State) (ws : List Word) : Rep :=
  let w0 := ws.getD 0 0
  let g := fld w0 2 0
  let s := if fld w0 35 34 = 1 then s.gongWrite .debug g (setFld (ws.getD 1 0) 35 34 0)
    else if fld w0 35 34 = 2 then s.fireGong g else s
  repOk s [(s.readReg true (.DBG_GONG g)).1]

/-- One bit for each engine of section k. -/
def sectBits (k : Nat) (p : Nat → Bool) : Word := (List.range 32).foldl (fun w i => setBit w i (p (k * 32 + i))) 0

def State.cmdDbgStatus (s : State) : Rep :=
  let full := fun n => (SMap.get (fun _ => none) s.dbg.txd n).isSome
  let halted := fun n => (s.engine n).halted
  let fired := (List.range 8).foldl (fun w g => setBit w g (s.getB (.DBG_GONG g) F.DBG_GONG_FIRED)) (0 : Word)
  repOk s ([s.dbgLevel, fired] ++ (List.range 6).map (fun k => sectBits k halted) ++ [setBit (setBit 0 0 (halted 192)) 1 (full 192)] ++
    (List.range 6).map (fun k => sectBits k full))

/-! ## Commands of supervisor firmware -/

/-- GET_EVENT_LOG: up to MAX entries, oldest first, each removed. -/
def State.cmdEventLog (s : State) (w0 : Word) : Rep :=
  let m := fld w0 6 0
  let l := s.seq.evlog.take m
  repOk { s with seq := { s.seq with evlog := s.seq.evlog.drop m } } (l.flatMap (fun e => [e.1, e.2]))

/-- START in beat B (R418): LOCKED and STARTED set, lanes may leave LOCK, LOADED sections start at B + 2. -/
def State.cmdStart (s : State) : Rep :=
  let b : Word := s.reg .BEAT_NUM + 2
  let s := (s.setB .BEAT_CTL F.BEAT_CTL_LOCKED true).setB .HOST_STATE F.HOST_STATE_STARTED true
  let s := (List.range 16).foldl (fun st n => st.laneTryTrain n) s
  let s := (List.range 6).foldl (fun st k => if st.sectState k = 1 then st.modSect k (fun x => { x with startAt := some b }) else st) s
  let s := { s with seq := { s.seq with startRel := some b } }
  repOk (s.moveDevState 5).sessionCheck [b]

/-- STOP_SECTION in beat B (R489): its channels park with PARK, and it stops at boundary B + 1. -/
def State.cmdStopSection (s : State) (w0 : Word) : Rep :=
  let k := fld w0 2 0
  let b : Word := s.reg .BEAT_NUM + 1
  let s := s.forChannels (fun _ x => ownedBy k x) (fun st c => st.glvPark c 0x19)
  repOk (s.modSect k (fun x => { x with stopAt := some b })) [b]

/-- START_SECTION in beat B. -/
def State.cmdStartSection (s : State) (w0 : Word) : Rep :=
  let b : Word := s.reg .BEAT_NUM + 2
  repOk (s.modSect (fld w0 2 0) (fun x => { x with startAt := some b, startRel := true })) [b]

def State.cmdPark (s : State) (ws : List Word) : Rep :=
  repOk (s.parkBlock (ws.getD 0 0).toNat (ws.getD 1 0).toNat 0x19) [ws.getD 1 0]

def State.cmdRelease (s : State) (ws : List Word) : Rep :=
  let (s, a, r) := s.releaseBlock (ws.getD 0 0).toNat (ws.getD 1 0).toNat
  (if r = 0 then stOK else stPARTIAL, [BitVec.ofNat 36 a, BitVec.ofNat 36 r], s)

/-- The SVE's rights of ring 0 refuse a word access (R418). -/
def State.fwRefused (s : State) (a : Nat) (write : Bool) : Bool :=
  decide (2 ^ 36 ≤ a) || ((s.modEngine 192 (fun x => { x with ring := 0 })).accessRefused 192 a 4 write).isSome

/-- Words read in ascending order up to the first refused or uncorrectable one. -/
def State.fwReadWords (s : State) (a : Nat) : Nat → List Word × State
  | 0 => ([], s)
  | n + 1 =>
    let ca := canonOf 192 a
    if s.fwRefused a false then ([], s)
    else if s.isBad ca && (memOf ca).isSome then ([], s.eccUncorrectable ca)
    else
      let (bs, s) := (s.softRead ca (.engine 192)).readCanon (.sve true) ca 4
      let (ws, s) := s.fwReadWords (a + 4) n
      (wordOfBytes bs :: ws, s)

def State.fwWriteWords (s : State) (a : Nat) : List Word → Nat × State
  | [] => (0, s)
  | w :: ws =>
    if s.fwRefused a true then (0, s)
    else
      let s := s.writeCanon (.sve true) (canonOf 192 a) ((List.range 4).map (byteOf w))
      let (k, s) := s.fwWriteWords (a + 4) ws
      (k + 1, s)

/-- READ_REG and READ_MEM. -/
def State.cmdRead (s : State) (ws : List Word) : Rep :=
  let n := (ws.getD 1 0).toNat
  let (l, s) := s.fwReadWords (ws.getD 0 0).toNat n
  (if l.length = n then stOK else stPARTIAL, l, s)

/-- WRITE_REG and WRITE_MEM. -/
def State.cmdWrite (s : State) (ws : List Word) : Rep :=
  let data := ws.drop 1
  let (k, s) := s.fwWriteWords (ws.getD 0 0).toNat data
  if k = data.length then repOk s [] else (stPARTIAL, [BitVec.ofNat 36 k], s)

/-- Registers read one after the other. -/
def State.readRegs (s : State) : List Reg → List Word × State
  | [] => ([], s)
  | r :: l =>
    let (w, s) := s.readReg false r
    let (ws, s) := s.readRegs l
    (w :: ws, s)

def State.cmdLinkStatus (s : State) (w0 : Word) : Rep :=
  let n := fld w0 4 0
  let (ws, s) := s.readRegs ([.LN_STS n, .LN_FAULT n, .LN_TXEQ n, .LN_EQ_STS n, .LN_EYE n] ++ (if n < 16 then [.LN_FRM n, .LN_RPL n] else []))
  repOk s (padTo 7 ws)

def State.cmdLinkRetrain (s : State) (w0 : Word) : Rep := repOk (s.laneCommand (fld w0 4 0) (fld w0 9 8) 0x13) []

def State.cmdLinkTest (s : State) (ws : List Word) : Rep :=
  let n := fld (ws.getD 0 0) 4 0
  let (w, s) := (s.laneTestWrite n (ws.getD 1 0)).readReg false (.LN_PRBS_ERR n)
  repOk s [w]

/-- HEALTH_REPORT (R475, R484). -/
def State.cmdHealthReport (s : State) : Rep :=
  repOk s [wordOfInt (850 - s.health.vreq), s.reg .HLTH_LIFE, BitVec.ofNat 36 (s.getF .HLTH_AVS F.HLTH_AVS_READBACK), BitVec.ofNat 36 s.cclk,
    wordOfInt (sext 9 (s.getF .HLTH_THERM F.HLTH_THERM_TMAX))]

def State.cmdAvsStatus (s : State) : Rep :=
  repOk s [BitVec.ofNat 36 (s.getF .HLTH_AVS F.HLTH_AVS_TARGET), BitVec.ofNat 36 (s.getF .HLTH_AVS F.HLTH_AVS_READBACK),
    BitVec.ofNat 36 (s.getF .HLTH_AVS F.HLTH_AVS_ERR)]

/-- QUEUE_PUSH through the QM push registers: a push still in progress completes first. -/
def State.cmdQueuePush (s : State) (ws : List Word) : Rep :=
  let s := s.qmPushFinish
  let s := ((ws.drop 1).zipIdx).foldl (fun st p => st.setReg (.QM_PUSH_D p.2) p.1) s
  let s := (s.qmPushWrite (ws.getD 0 0)).qmPushFinish
  if s.getF .QM_PUSH F.QM_PUSH_STS = 0 then repOk s [] else repFail s stNO_RESOURCE

def State.cmdQueueStatus (s : State) (w0 : Word) : Rep :=
  let q := fld w0 15 0
  let x := s.q q
  repOk s [setFld (setFld (put 15 0 q) 28 21 x.drops) 20 16 x.occ]

/-! ## The executor -/

/-- The reply of a command the sequencer executes. -/
def State.seqReply (h : HostHdr) (r : Rep) : State :=
  if r.1 = stSTATE then r.2.2.replyState h.tag h.noibi else r.2.2.reply r.1 h.tag h.noibi r.2.1

/-- A command marked H. -/
def State.runSeq (s : State) (o : Nat) (h : HostHdr) (ws : List Word) : State :=
  let w0 := ws.getD 0 0
  if o = 0x022 then s.cmdLoadEnd h
  else if o = 0x080 then s.cmdDbgHalt h w0
  else if o = 0x082 then s.cmdDbgStep h ws
  else State.seqReply h (
    if o = 0x001 then s.cmdGetStatus h
    else if o = 0x002 then s.cmdGetIdentity
    else if o = 0x003 then s.cmdGetFeatures
    else if o = 0x010 then s.cmdReset w0
    else if o = 0x011 then repOk s.askSafe []
    else if o = 0x012 then s.cmdClearSafe h
    else if o = 0x020 then s.cmdLoadBegin ws
    else if o = 0x021 then s.cmdLoadData ws
    else if o = 0x023 then s.cmdLoadAbort
    else if o = 0x060 then s.cmdMarchRun w0
    else if o = 0x061 then s.cmdMarchResult
    else if o = 0x070 then s.cmdUnlockPassword ws
    else if o = 0x071 then s.cmdUnlockChallenge
    else if o = 0x072 then s.cmdUnlockResponse ws
    else if o = 0x073 then repOk s.lockDebug []
    else if o = 0x074 then (let (l, s) := s.attest ws; repOk s l)
    else if o = 0x081 then s.cmdDbgResume w0
    else if o = 0x083 then s.cmdDbgRead ws
    else if o = 0x084 then s.cmdDbgWrite ws
    else if o = 0x085 then s.cmdDbgCmp false ws
    else if o = 0x086 then s.cmdDbgCmp true ws
    else if o = 0x087 then s.cmdDbgVterm ws
    else if o = 0x088 then s.cmdDbgGong ws
    else s.cmdDbgStatus)

/-- The effect of a command marked F. -/
def State.fwEffect (s : State) (o : Nat) (ws : List Word) : Rep :=
  let w0 := ws.getD 0 0
  if o = 0x004 then s.cmdEventLog w0
  else if o = 0x020 then s.cmdLoadBegin ws
  else if o = 0x021 then s.cmdLoadData ws
  else if o = 0x030 then s.cmdStart
  else if o = 0x031 then s.cmdStopSection w0
  else if o = 0x032 then s.cmdStartSection w0
  else if o = 0x033 then s.cmdPark ws
  else if o = 0x034 then s.cmdRelease ws
  else if o = 0x040 ∨ o = 0x042 then s.cmdRead ws
  else if o = 0x041 ∨ o = 0x043 then s.cmdWrite ws
  else if o = 0x050 then s.cmdLinkStatus w0
  else if o = 0x051 then s.cmdLinkRetrain w0
  else if o = 0x052 then s.cmdLinkTest ws
  else if o = 0x090 then s.cmdHealthReport
  else if o = 0x091 then s.cmdAvsStatus
  else if o = 0x0A0 then s.cmdQueuePush ws
  else if o = 0x0A1 then s.cmdQueueStatus w0
  else repOk s []

/-- A command marked F is handed over, and its effect takes place. LOAD_END is handed over too, and waits for the verification (R418); a
LOAD_DATA that R418 refuses is answered by the sequencer. -/
def State.runFirmware (s : State) (o : Nat) (h : HostHdr) (ws : List Word) : State :=
  if o = 0x022 then
    (s.cmdLoadEnd h).handOver { opcode := o, tag := h.tag, noibi := h.noibi, status := stOK, words := [] } (hostHeader o h ws.length) ws
  else
    let (st, rw, t) := s.fwEffect o ws
    if o = 0x021 ∧ st ≠ stOK then t.reply st h.tag h.noibi []
    else t.handOver { opcode := o, tag := h.tag, noibi := h.noibi, status := st, words := rw } (hostHeader o h ws.length) ws

/-- The device acknowledges a private write (R402, R406, R501, Table 16.6). -/
def State.acksWrite (s : State) : Bool := !s.blocksHeld && s.devState != 0 && s.seq.da.isSome && decide (s.seq.replies.length < 4)

/-- The checks of R409 from the second on, and the execution of the command. -/
def State.decodeCmd (s : State) (o : Nat) (h : HostHdr) (ws : List Word) : State :=
  if !opAssigned o then s.reply stBAD_OPCODE h.tag h.noibi []
  else if !(paramsOk o ws && s.offsetOk o ws) then s.reply stBAD_PARAM h.tag h.noibi []
  else match s.legalNow o ws with
  | none => s.replyState h.tag h.noibi
  | some x =>
    if x = .firmware ∧ !s.getB .HOST_STATE F.HOST_STATE_SUP then s.replyState h.tag h.noibi
    else if !s.authOk o then s.reply stAUTH h.tag h.noibi []
    else if s.hostBusy o x ws then s.reply stBUSY h.tag h.noibi []
    else if x = .seq then s.runSeq o h ws
    else s.runFirmware o h ws

def State.setNack (s : State) (b : Bool) : State := { s with seq := { s.seq with nacked := b } }

/-- A command packet whose form and check word are right. -/
def State.hostCommand (s : State) (o : Nat) (h : HostHdr) (ws : List Word) : State :=
  if s.acksWrite then ((s.setNack false).safeLevel h.safeNLow).decodeCmd o h (ws.take 511) else s.setNack true

def execGetStatus (h : HostHdr) (ws : List Word) (s : State) : Out := .next (s.hostCommand 0x001 h ws)
def execGetIdentity (h : HostHdr) (ws : List Word) (s : State) : Out := .next (s.hostCommand 0x002 h ws)
def execGetFeatures (h : HostHdr) (ws : List Word) (s : State) : Out := .next (s.hostCommand 0x003 h ws)
def execGetEventLog (h : HostHdr) (ws : List Word) (s : State) : Out := .next (s.hostCommand 0x004 h ws)
def execResetDevice (h : HostHdr) (ws : List Word) (s : State) : Out := .next (s.hostCommand 0x010 h ws)
def execResetSupervisor (h : HostHdr) (ws : List Word) (s : State) : Out := .next (s.hostCommand 0x010 h ws)
def execResetSection (h : HostHdr) (ws : List Word) (s : State) : Out := .next (s.hostCommand 0x010 h ws)
def execSafe (h : HostHdr) (ws : List Word) (s : State) : Out := .next (s.hostCommand 0x011 h ws)
def execClearSafe (h : HostHdr) (ws : List Word) (s : State) : Out := .next (s.hostCommand 0x012 h ws)
def execLoadBegin (h : HostHdr) (ws : List Word) (s : State) : Out := .next (s.hostCommand 0x020 h ws)
def execLoadData (h : HostHdr) (ws : List Word) (s : State) : Out := .next (s.hostCommand 0x021 h ws)
def execLoadEnd (h : HostHdr) (ws : List Word) (s : State) : Out := .next (s.hostCommand 0x022 h ws)
def execLoadAbort (h : HostHdr) (ws : List Word) (s : State) : Out := .next (s.hostCommand 0x023 h ws)
def execStart (h : HostHdr) (ws : List Word) (s : State) : Out := .next (s.hostCommand 0x030 h ws)
def execStopSection (h : HostHdr) (ws : List Word) (s : State) : Out := .next (s.hostCommand 0x031 h ws)
def execStartSection (h : HostHdr) (ws : List Word) (s : State) : Out := .next (s.hostCommand 0x032 h ws)
def execParkChannels (h : HostHdr) (ws : List Word) (s : State) : Out := .next (s.hostCommand 0x033 h ws)
def execReleaseChannels (h : HostHdr) (ws : List Word) (s : State) : Out := .next (s.hostCommand 0x034 h ws)
def execReadReg (h : HostHdr) (ws : List Word) (s : State) : Out := .next (s.hostCommand 0x040 h ws)
def execWriteReg (h : HostHdr) (ws : List Word) (s : State) : Out := .next (s.hostCommand 0x041 h ws)
def execReadMem (h : HostHdr) (ws : List Word) (s : State) : Out := .next (s.hostCommand 0x042 h ws)
def execWriteMem (h : HostHdr) (ws : List Word) (s : State) : Out := .next (s.hostCommand 0x043 h ws)
def execLinkStatus (h : HostHdr) (ws : List Word) (s : State) : Out := .next (s.hostCommand 0x050 h ws)
def execLinkRetrain (h : HostHdr) (ws : List Word) (s : State) : Out := .next (s.hostCommand 0x051 h ws)
def execLinkTest (h : HostHdr) (ws : List Word) (s : State) : Out := .next (s.hostCommand 0x052 h ws)
def execMarchRun (h : HostHdr) (ws : List Word) (s : State) : Out := .next (s.hostCommand 0x060 h ws)
def execMarchResult (h : HostHdr) (ws : List Word) (s : State) : Out := .next (s.hostCommand 0x061 h ws)
def execUnlockPassword (h : HostHdr) (ws : List Word) (s : State) : Out := .next (s.hostCommand 0x070 h ws)
def execUnlockChallenge (h : HostHdr) (ws : List Word) (s : State) : Out := .next (s.hostCommand 0x071 h ws)
def execUnlockResponse (h : HostHdr) (ws : List Word) (s : State) : Out := .next (s.hostCommand 0x072 h ws)
def execLock (h : HostHdr) (ws : List Word) (s : State) : Out := .next (s.hostCommand 0x073 h ws)
def execAttest (h : HostHdr) (ws : List Word) (s : State) : Out := .next (s.hostCommand 0x074 h ws)
def execDbgHalt (h : HostHdr) (ws : List Word) (s : State) : Out := .next (s.hostCommand 0x080 h ws)
def execDbgResume (h : HostHdr) (ws : List Word) (s : State) : Out := .next (s.hostCommand 0x081 h ws)
def execDbgStep (h : HostHdr) (ws : List Word) (s : State) : Out := .next (s.hostCommand 0x082 h ws)
def execDbgRead (h : HostHdr) (ws : List Word) (s : State) : Out := .next (s.hostCommand 0x083 h ws)
def execDbgWrite (h : HostHdr) (ws : List Word) (s : State) : Out := .next (s.hostCommand 0x084 h ws)
def execDbgBreak (h : HostHdr) (ws : List Word) (s : State) : Out := .next (s.hostCommand 0x085 h ws)
def execDbgWatch (h : HostHdr) (ws : List Word) (s : State) : Out := .next (s.hostCommand 0x086 h ws)
def execDbgVterm (h : HostHdr) (ws : List Word) (s : State) : Out := .next (s.hostCommand 0x087 h ws)
def execDbgGong (h : HostHdr) (ws : List Word) (s : State) : Out := .next (s.hostCommand 0x088 h ws)
def execDbgStatus (h : HostHdr) (ws : List Word) (s : State) : Out := .next (s.hostCommand 0x089 h ws)
def execHealthReport (h : HostHdr) (ws : List Word) (s : State) : Out := .next (s.hostCommand 0x090 h ws)
def execAvsStatus (h : HostHdr) (ws : List Word) (s : State) : Out := .next (s.hostCommand 0x091 h ws)
def execQueuePush (h : HostHdr) (ws : List Word) (s : State) : Out := .next (s.hostCommand 0x0A0 h ws)
def execQueueStatus (h : HostHdr) (ws : List Word) (s : State) : Out := .next (s.hostCommand 0x0A1 h ws)
def execSvc (h : HostHdr) (ws : List Word) (s : State) : Out := .next (s.hostCommand 0x0F0 h ws)

/-! ## Deferred events -/

/-- The reset of a device-scope RESET begins. -/
def execDeviceResetDelayEnd (s : State) : Out := .next (if s.seq.resetPend then s.deviceReset else s)

/-- 1 ms after DBG_HALT or DBG_STEP: the reply that has waited longest is queued. -/
def State.haltTimeout (s : State) : State :=
  match s.seq.haltWait with
  | w :: l => { s with seq := { s.seq with haltWait := l } }.haltReply w
  | [] => s

def execDbgReplyTimeout (s : State) : Out := .next s.haltTimeout

end Sys2Proof.Machine
end

