-- ==== Sys2Proof/Machine/I3c.lean ====
section
/-! DEFINITION. The I3C target (R401-R408, R522, R523): common command codes, private transfers as octets, the reply queue as
the controller reads it, in-band interrupts, the target reset pattern. Until Helm has released the
target nothing is acknowledged (R501). -/

namespace Sys2Proof.Machine


/-! ## Common command codes -/

/-- A direct CCC that returns octets, most significant octet first: it is acknowledged only at an assigned dynamic address
(R522). -/
def State.getCcc (s : State) (l : List Octet) : State :=
  s.modSeq (fun q => if q.da.isSome && !s.blocksHeld then { q with lastCcc := l, nacked := false, hdr := false } else { q with nacked := true, hdr := false })

/-- A CCC that may be broadcast: it is acknowledged at any time (R522). -/
def State.setCcc (s : State) (f : Seq → Seq) : State :=
  s.modSeq (fun q => if s.blocksHeld then { q with nacked := true } else f { q with nacked := false, hdr := false })

/-- ENTDAA and SETDASA: a target that has an address does not take part (MIPI I3C). -/
def State.assignDa (s : State) (da : BitVec 7) : State :=
  s.modSeq (fun q => if q.da.isSome || s.blocksHeld then { q with nacked := true, hdr := false } else { q with da := some da, nacked := false, hdr := false })

/-- Two octets of a 16-bit value. -/
def octets16 (n : Nat) : List Octet := [BitVec.ofNat 8 (n / 256), BitVec.ofNat 8 n]

/-- The provisioned ID (Table 16.1): six octets. -/
def State.pid (s : State) : List Octet :=
  let v := fld (s.otpWord 0x005) 14 0 * 2 ^ 33 + 2 ^ 32 + fld (s.otpWord 0x006) 31 0
  [5, 4, 3, 2, 1, 0].map (fun i => BitVec.ofNat 8 (v / 256 ^ i))

/-- GETSTATUS (R403): the state, then the error bit and the replies waiting; the error bit covers the time since the last
GETSTATUS. -/
def State.getStatusCcc (s : State) (busErr : Bool) : State :=
  let e := s.seq.busErr || busErr
  let low := (if e then 32 else 0) + s.seq.replies.length
  let s' := s.getCcc [BitVec.ofNat 8 s.devState, BitVec.ofNat 8 low]
  s'.modSeq (fun q => { q with busErr := e && q.nacked })

def execEntdaa (da : BitVec 7) (s : State) : Out := .next (s.assignDa da)
/-- SETDASA is addressed to the static address 0x30 + ADDR_SEL (Table 16.1). -/
def execSetdasa (static da : BitVec 7) (s : State) : Out :=
  .next (if static = 0x30#7 + s.pins.addrSel.setWidth 7 then s.assignDa da else s.modSeq (fun q => { q with nacked := true, hdr := false }))
def execRstdaa (s : State) : Out := .next (s.setCcc (fun q => { q with da := none }))
def execEnec (s : State) : Out := .next (s.setCcc (fun q => { q with ibiEn := true }))
def execDisec (s : State) : Out := .next (s.setCcc (fun q => { q with ibiEn := false }))
def execGetpid (s : State) : Out := .next (s.getCcc s.pid)
def execGetbcr (s : State) : Out := .next (s.getCcc [0x06#8])
def execGetdcr (s : State) : Out := .next (s.getCcc [0x00#8])
def execGetstatus (busErr : Bool) (s : State) : Out := .next (s.getStatusCcc busErr)
def execGetmxds (s : State) : Out := .next (s.getCcc [0x00#8, 0x00#8])
def execSetmwl (v : Fin 65536) (s : State) : Out := .next (s.setCcc (fun q => { q with mwl := v }))
def execGetmwl (s : State) : Out := .next (s.getCcc (octets16 2313))
def execSetmrl (v : Fin 65536) (s : State) : Out := .next (s.setCcc (fun q => { q with mrl := v }))
def execGetmrl (s : State) : Out := .next (s.getCcc (octets16 s.seq.mrl ++ [0x01#8]))
/-- ENTHDR0: HDR-DDR until the next SDR transfer. -/
def execEnthdr0 (s : State) : Out := .next (s.setCcc (fun q => { q with hdr := true }))
/-- RSTACT: a defining byte above 0x02 is NACKed. -/
def execRstact (b : Octet) (s : State) : Out :=
  .next (s.setCcc (fun q => if b.toNat ≤ 2 then { q with rstact := b.toNat } else { q with nacked := true }))

/-! ## The target reset pattern (R403, R408, R522) -/

/-- The items of R402 return to their power-on values. -/
def Seq.i3cPowerOn (q : Seq) : Seq := { q with da := none, ibiEn := false, mwl := 2313, mrl := 2313, rstact := 1 }

/-- Target logic and the sequencer's queues: every queued reply, every command still executing and the open load session go
without a reply. -/
def State.targetLogicReset (s : State) : State :=
  let s := match s.seq.session with
    | some x => if x.type = 3 then s.loadFailed x.target else s
    | none => s
  let s := s.clearMailbox
  s.modSeq (fun q => { Seq.reset with startRel := q.startRel, safePend := q.safePend, evlog := q.evlog })

def State.targetReset (s : State) : State :=
  if s.seq.rstact = 0 then s
  else if s.seq.rstact = 1 then s.targetLogicReset
  else (s.modSeq Seq.i3cPowerOn).deviceReset

def execTargetResetPattern (s : State) : Out := .next s.targetReset

/-! ## Private writes (R404, R409) -/

/-- The octets a packet of `len` parameter words occupies. -/
def packetOctets (len : Nat) : Nat := 9 * ((len + 3) / 2)

/-- Octets as they arrive in SDR, or in HDR-DDR with an odd count completed by one octet that the receiver drops: the octets
of the packet, none where the count is wrong (check 1 of R409). -/
def packetBody (os : List Octet) (ddr : Bool) (len : Nat) : Option (List Octet) :=
  let n := packetOctets len
  let sent := if ddr && n % 2 == 1 then n + 1 else n
  if os.length = sent then some (os.take n) else none

/-- A command packet that passes check 1: its words are the header, LEN parameters and the check word. -/
def State.packetWords (s : State) (h : Word) (ws : List Word) (low : Bool) : State :=
  let hdr : HostHdr := { tag := BitVec.ofNat 9 (fld h 26 18), noibi := bit h 8, safeNLow := low }
  if !opAssigned (fld h 35 27) then s.reply stBAD_OPCODE hdr.tag hdr.noibi []
  else if fld h 7 0 ≠ 0 then s.reply stBAD_PARAM hdr.tag hdr.noibi []
  else s.hostCommand (fld h 35 27) hdr ws

/-- A transfer in HDR-DDR is taken in HDR-DDR mode with the command code given, one in SDR always (Table 16.1). -/
def State.takes (s : State) (ddr : Option Octet) (code : Octet) : Bool :=
  match ddr with
  | some c => s.seq.hdr && c == code
  | none => true

/-- A private write, in HDR-DDR with its command code. Fewer than nine octets carry no header: TAG is 0 and NOIBI does not apply. -/
def State.privateWrite (s : State) (os : List Octet) (ddr : Option Octet) (low : Bool) : State :=
  if !s.acksWrite || !s.takes ddr 0x01 then s.setNack true
  else
    let s := ((s.setNack false).safeLevel low).modSeq (fun q => { q with hdr := ddr.isSome })
    if os.length < 9 then s.reply stBAD_CHECK 0 false []
    else
      let ws := unpackWords 256 os
      let h := ws.headD 0
      let len := fld h 17 9
      let bad := s.reply stBAD_CHECK (BitVec.ofNat 9 (fld h 26 18)) (bit h 8) []
      match packetBody os ddr.isSome len with
      | none => bad
      | some body =>
        let ws := unpackWords 257 body
        let ps := (ws.drop 1).take len
        if ws.getD (len + 1) 0 = BitVec.ofNat 36 (ckuCrc 0x82F63B78 (h :: ps)) then s.packetWords h ps low else bad

def execPrivateWrite (octets : List Octet) (ddr : Option Octet) (safeNLow : Bool) (s : State) : Out :=
  .next (s.privateWrite octets ddr safeNLow)

/-! ## Private reads (R406) -/

/-- The reply header (Table 16.3). -/
def replyHeader (r : Reply) : Word :=
  setFld (setFld (setFld (put 35 27 r.status) 26 18 r.tag.toNat) 17 9 r.words.length) 8 0 r.state.toNat

/-- The octets of a reply packet with its check word (R405). -/
def replyOctets (r : Reply) : List Octet :=
  let ws := replyHeader r :: r.words
  packWords (ws ++ [BitVec.ofNat 36 (ckuCrc 0x82F63B78 ws)])

/-- How many of the m octets that are left of a reply a read of at most n returns: HDR-DDR moves octets in pairs, so that it ends on an
odd count only with the reply itself. -/
def readCount (m n : Nat) (ddr : Bool) : Nat := if m ≤ n then m else if ddr then n - n % 2 else n

/-- A private read of `n` octets at most, in HDR-DDR with its command code: the stored MRL bounds it, and a reply whose last octet has
been read leaves the queue. -/
def State.privateRead (s : State) (n : Nat) (ddr : Option Octet) : State :=
  match s.seq.da, s.seq.replies with
  | some _, r :: l =>
    if s.blocksHeld || !s.takes ddr 0x81 then s.setNack true
    else
      let os := (replyOctets r).drop s.seq.readPos
      let k := readCount os.length (min n s.seq.mrl) ddr.isSome
      let (pad, s) := if ddr.isSome && k % 2 == 1 then (let p := s.drawNat 8; ([BitVec.ofNat 8 p.1], p.2)) else ([], s)
      s.modSeq (fun q =>
        let q := { q with lastRead := os.take k ++ pad, nacked := false, hdr := ddr.isSome }
        if os.length ≤ k then { q with replies := l, readPos := 0 } else { q with readPos := q.readPos + k })
  | _, _ => s.setNack true

def execPrivateRead (octets : Nat) (ddr : Option Octet) (s : State) : Out := .next (s.privateRead octets ddr)

/-- A reply that waits outside enters the queue as space frees. -/
def State.replyEnter (s : State) : State :=
  match s.seq.outside with
  | r :: l => if s.seq.replies.length < 4 then (s.modSeq (fun q => { q with outside := l })).enqueueReply r else s
  | [] => s

def execReplyQueueEntry (s : State) : Out := .next s.replyEnter

/-! ## In-band interrupts (R407) -/

/-- At a bus idle the pending interrupt that comes first by its data byte is raised; one that the controller NACKs stays pending. -/
def State.ibiRaise (s : State) (nack : Bool) : State :=
  match s.seq.ibis with
  | c :: l =>
    if s.seq.ibiEn && !s.blocksHeld then s.modSeq (fun q => { q with ibis := if nack then c :: l else l, ibiOut := some c }) else s
  | [] => s

def execIbiRetry (nack : Bool) (s : State) : Out := .next (s.ibiRaise nack)

end Sys2Proof.Machine
end

