-- ==== Sys2Proof/Machine/Power.lean ====
section
/-! DEFINITION. The boot sequence (R421, R422, Table 17.1): the end of fuse load, the boot march (R400) and the end of SELFTEST
(R412); the loss of REFCLK_LN (R507). -/

namespace Sys2Proof.Machine

/-- Every memory of the device. -/
def allMems : List MemId :=
  (List.range 193).map MemId.sched ++ (List.range 193).map MemId.spad ++ (List.range 48).map MemId.shared ++ [MemId.queue, .sup]

/-! ## Fuse load -/

/-- An OTP word that fuse load reads is uncorrectable; in RETURNED the device secret is not read (R437). -/
def State.otpReadBad (s : State) (lc : Nat) : Bool :=
  s.helm.otpBad.any (fun p => p.2 && !(lc == 4 && decide (0x0A0 ≤ p.1 ∧ p.1 ≤ 0x0A7)))

/-- The identity key is derived in the lifecycles of Table 17.10 that have one. -/
def State.hasIdentity (s : State) (lc : Nat) : Bool := (lc == 1 && s.secretSet) || lc == 2 || lc == 3

/-- SELFTEST or FAULT is left for, or entered from POWERUP: SAFE follows if it was asked for, or if SAFE_N was seen or is
low (R412). -/
def State.safeAtExit (s : State) (low : Bool) : State :=
  let ask := s.seq.safePend || s.pins.safeSeenBoot || low
  let s := { s with seq := { s.seq with safePend := false }, pins := { s.pins with safeSeenBoot := false, safeNLow := low } }
  if ask then s.enterSafe else s

/-- Trims and the words fixed at manufacture: the usable engines of each section and FLOOR (R482). -/
def State.applyTrims (s : State) (usable : List Word) (floor : Nat) : State :=
  let s := (List.range 6).foldl (fun st k => st.setF (.SEC_USABLE k) F.SEC_USABLE_USABLE (fld (usable.getD k 0xFFFFFFFF) 31 0)) s
  s.setF .HLTH_MARGIN F.HLTH_MARGIN_FLOOR floor

/-- SAFE_N as it is told before SELFTEST ends: a low level is remembered until then (R412). -/
def State.safeSampled (s : State) (low : Bool) : State :=
  { s with pins := { s.pins with safeNLow := low, safeSeenBoot := s.pins.safeSeenBoot || low } }

/-- Rows replaced by soft repair or by repair fuses, which add to each other; a bank has two spare rows (R398). -/
def State.addSpares (s : State) (l : List (Nat × Nat × Nat × Nat)) : State :=
  l.foldl (fun st x =>
    let k := (x.1 * 256 + x.2.1) * 64 + x.2.2.1
    { st with march := { st.march with
      spares := SMap.set (fun _ => 0) st.march.spares k (min 2 (SMap.get (fun _ => 0) st.march.spares k + x.2.2.2)) } }) s

/-- The OTP words that fuse load finds uncorrectable. -/
def State.otpFound (s : State) (l : List (Fin 1024)) : State :=
  l.foldl (fun st w => { st with helm := { st.helm with otpBad := SMap.set (fun _ => false) st.helm.otpBad w.val true } }) s

/-- Fuse load completes. Without a boot march the contents of every memory are undefined (R24). -/
def State.fuseEnd (s : State) (f : FuseLoad) : State :=
  if s.held ∨ s.devState ≠ 0 ∨ s.helm.loaded then s
  else
    let s := ((s.otpFound f.otpBad).addSpares f.repairs).safeSampled f.safeNLow
    let lc := s.fusedLc
    let bad := !f.romOk || s.otpReadBad lc || lc == 7
    let march := !bad && !bit (s.otpWord 0x007) 0
    let s := s.setDevState (if bad then 7 else 1)
    let s := { s with helm := { s.helm with loaded := true, lc := lc, idKey := if s.hasIdentity lc then some s.deriveKey else none } }
    let s := ((s.levelAtFuse lc).applyTrims f.usable f.floor).boundary
    let s := if march then { s.setB .MARCH_STS F.MARCH_STS_BUSY true with march := { s.march with boot := true } }
      else allMems.foldl (fun st m => st.scramble m) s
    if bad then s.safeAtExit f.safeNLow else s

def execFuseLoadEnd (f : FuseLoad) (s : State) : Out := .next (s.fuseEnd f)

/-! ## The boot march -/

/-- The summary in MARCH_STS and MARCH_FAIL. -/
def State.bootSummary (s : State) (rep : BootMarch) : State :=
  let w := setBit (setBit (setBit 0 34 true) 31 rep.noSpare) 30 rep.unc
  let w := setFld (setFld w 26 18 (min 511 rep.repaired)) 17 0 (min 0x3FFFF rep.fails)
  (s.setReg .MARCH_STS w).setReg .MARCH_FAIL rep.first

/-- What the boot march fences: engines of a section, or the SVE. -/
def State.bootFence (s : State) (n : Nat) : State :=
  if (s.engine n).fenced then s
  else if n = 192 then s.modEngine 192 (fun x => { x with fenced := true }) else s.fenceEngine n

/-- The boot march ends: every row holds zero with valid check bits, and every row of the Glove copies the entries of R111 (R396). FLOOR rises with each failing row; 512 rows take it
to its limit and fill the event store, so that further rows change nothing. -/
def State.bootMarchEnd (s : State) (rep : BootMarch) : State :=
  if !s.march.boot then s
  else
    let s := { s.safeSampled rep.safeNLow with march := { s.march with boot := false } }
    let s := (allMems.foldl (fun st m => st.zeroMem m) s).addSpares rep.spares
    let s := s.forChannels (fun _ _ => true) (fun st c => st.modCh c (fun x =>
      { x with g0 := GlvEntry.reset, g1 := GlvEntry.reset, bad0 := false, bad1 := false }))
    let s := s.bootSummary rep
    let s := (List.range (min 512 rep.fails)).foldl (fun st _ => st.floorRaise) s
    let s := rep.engines.foldl (fun st n => st.bootFence n) s
    let s := rep.clusters.foldl (fun st c => (List.range 4).foldl (fun st i => st.bootFence (4 * c + i)) st) s
    if rep.device then (s.setDevState 7).safeAtExit rep.safeNLow else s

def execBootMarchComplete (rep : BootMarch) (s : State) : Out := .next (s.bootMarchEnd rep)

/-! ## The end of SELFTEST -/

def State.selftestEnd (s : State) (low : Bool) : State :=
  if s.devState = 1 ∧ !s.march.boot then (s.setDevState 2).safeAtExit low else s

def execSelftestEnd (safeNLow : Bool) (s : State) : Out := .next (s.selftestEnd safeNLow)

/-! ## REFCLK_LN -/

/-- Every lane that is neither OFF nor in FAULT leaves for FAULT with cause 0x12. -/
def State.refLnLost (s : State) : State :=
  (List.range 20).foldl (fun st n =>
    if st.laneState n = lsOFF ∨ st.laneState n = lsFAULT then st else st.laneLeave n 0x12 false false) s

def execRefclkLnLoss (s : State) : Out := .next s.refLnLost

end Sys2Proof.Machine
end

