-- ==== Sys2Proof/Machine/Dispatch.lean ====
section
/-! DEFINITION. One arm per row of the command table. -/

namespace Sys2Proof.Machine

def exec (i : Instr) (s : State) : Host.Outcome State Fault Refusal :=
  match i with
  | .beatBoundary => Sys2Proof.Machine.execBeatBoundary s
  | .beatInEdge sinceEdge sinceBoundary high => Sys2Proof.Machine.execBeatInEdge sinceEdge sinceBoundary high s
  | .holdover => Sys2Proof.Machine.execHoldover s
  | .relock => Sys2Proof.Machine.execRelock s
  | .beatPeriodWrite w => Sys2Proof.Machine.execBeatPeriodWrite w s
  | .streamedWaitExpiry e => Sys2Proof.Machine.execStreamedWaitExpiry e s
  | .bundleIssue e ups => Sys2Proof.Machine.execBundleIssue e ups s
  | .icacheFill e way => Sys2Proof.Machine.execIcacheFill e way s
  | .dcacheFill e u ix way ecc => Sys2Proof.Machine.execDcacheFill e u ix way ecc s
  | .add e u t => Sys2Proof.Machine.execAdd e u t s
  | .sub e u t => Sys2Proof.Machine.execSub e u t s
  | .and e u t => Sys2Proof.Machine.execAnd e u t s
  | .or e u t => Sys2Proof.Machine.execOr e u t s
  | .xor e u t => Sys2Proof.Machine.execXor e u t s
  | .andn e u t => Sys2Proof.Machine.execAndn e u t s
  | .shl e u t => Sys2Proof.Machine.execShl e u t s
  | .shr e u t => Sys2Proof.Machine.execShr e u t s
  | .sar e u t => Sys2Proof.Machine.execSar e u t s
  | .rol e u t => Sys2Proof.Machine.execRol e u t s
  | .min e u t => Sys2Proof.Machine.execMin e u t s
  | .max e u t => Sys2Proof.Machine.execMax e u t s
  | .minu e u t => Sys2Proof.Machine.execMinu e u t s
  | .maxu e u t => Sys2Proof.Machine.execMaxu e u t s
  | .ceq e u t => Sys2Proof.Machine.execCeq e u t s
  | .cne e u t => Sys2Proof.Machine.execCne e u t s
  | .clt e u t => Sys2Proof.Machine.execClt e u t s
  | .cltu e u t => Sys2Proof.Machine.execCltu e u t s
  | .cle e u t => Sys2Proof.Machine.execCle e u t s
  | .cleu e u t => Sys2Proof.Machine.execCleu e u t s
  | .ext e t => Sys2Proof.Machine.execExt e t s
  | .extu e t => Sys2Proof.Machine.execExtu e t s
  | .ins e t => Sys2Proof.Machine.execIns e t s
  | .clz e t => Sys2Proof.Machine.execClz e t s
  | .ctz e t => Sys2Proof.Machine.execCtz e t s
  | .popc e t => Sys2Proof.Machine.execPopc e t s
  | .perm e t => Sys2Proof.Machine.execPerm e t s
  | .swh e t => Sys2Proof.Machine.execSwh e t s
  | .mul e t => Sys2Proof.Machine.execMul e t s
  | .mulh e t => Sys2Proof.Machine.execMulh e t s
  | .mulhu e t => Sys2Proof.Machine.execMulhu e t s
  | .mul12 e t => Sys2Proof.Machine.execMul12 e t s
  | .mul24 e t => Sys2Proof.Machine.execMul24 e t s
  | .div e t => Sys2Proof.Machine.execDiv e t s
  | .divu e t => Sys2Proof.Machine.execDivu e t s
  | .rem e t => Sys2Proof.Machine.execRem e t s
  | .remu e t => Sys2Proof.Machine.execRemu e t s
  | .divComplete e => Sys2Proof.Machine.execDivComplete e s
  | .macMul e k t => Sys2Proof.Machine.execMacMul e k t s
  | .macMac e k t => Sys2Proof.Machine.execMacMac e k t s
  | .macMsub e k t => Sys2Proof.Machine.execMacMsub e k t s
  | .macClr e k t => Sys2Proof.Machine.execMacClr e k t s
  | .macRd e k t => Sys2Proof.Machine.execMacRd e k t s
  | .macGet e k t => Sys2Proof.Machine.execMacGet e k t s
  | .macPut e k t => Sys2Proof.Machine.execMacPut e k t s
  | .fabs e t => Sys2Proof.Machine.execFabs e t s
  | .fneg e t => Sys2Proof.Machine.execFneg e t s
  | .fmin e t => Sys2Proof.Machine.execFmin e t s
  | .fmax e t => Sys2Proof.Machine.execFmax e t s
  | .fcmp e t => Sys2Proof.Machine.execFcmp e t s
  | .fadd e t => Sys2Proof.Machine.execFadd e t s
  | .fsub e t => Sys2Proof.Machine.execFsub e t s
  | .fmul e t => Sys2Proof.Machine.execFmul e t s
  | .fma e t => Sys2Proof.Machine.execFma e t s
  | .fdiv e t => Sys2Proof.Machine.execFdiv e t s
  | .fsqrt e t => Sys2Proof.Machine.execFsqrt e t s
  | .i2f e t => Sys2Proof.Machine.execI2f e t s
  | .u2f e t => Sys2Proof.Machine.execU2f e t s
  | .f2i e t => Sys2Proof.Machine.execF2i e t s
  | .f2u e t => Sys2Proof.Machine.execF2u e t s
  | .w2f e t => Sys2Proof.Machine.execW2f e t s
  | .f2w e t => Sys2Proof.Machine.execF2w e t s
  | .h2f e t => Sys2Proof.Machine.execH2f e t s
  | .f2h e t => Sys2Proof.Machine.execF2h e t s
  | .fpShortFault e => Sys2Proof.Machine.execFpShortFault e s
  | .fpLongComplete e => Sys2Proof.Machine.execFpLongComplete e s
  | .ld e u a => Sys2Proof.Machine.execLd e u a s
  | .ldh e u a => Sys2Proof.Machine.execLdh e u a s
  | .ldhu e u a => Sys2Proof.Machine.execLdhu e u a s
  | .ldb e u a => Sys2Proof.Machine.execLdb e u a s
  | .ldbu e u a => Sys2Proof.Machine.execLdbu e u a s
  | .ld2 e u a => Sys2Proof.Machine.execLd2 e u a s
  | .st e u a => Sys2Proof.Machine.execSt e u a s
  | .sth e u a => Sys2Proof.Machine.execSth e u a s
  | .stb e u a => Sys2Proof.Machine.execStb e u a s
  | .st2 e u a => Sys2Proof.Machine.execSt2 e u a s
  | .ldP e u t => Sys2Proof.Machine.execLdP e u t s
  | .ldhP e u t => Sys2Proof.Machine.execLdhP e u t s
  | .ldhuP e u t => Sys2Proof.Machine.execLdhuP e u t s
  | .ldbP e u t => Sys2Proof.Machine.execLdbP e u t s
  | .ldbuP e u t => Sys2Proof.Machine.execLdbuP e u t s
  | .ld2P e u t => Sys2Proof.Machine.execLd2P e u t s
  | .stP e u t => Sys2Proof.Machine.execStP e u t s
  | .sthP e u t => Sys2Proof.Machine.execSthP e u t s
  | .stbP e u t => Sys2Proof.Machine.execStbP e u t s
  | .st2P e u t => Sys2Proof.Machine.execSt2P e u t s
  | .tas e u a => Sys2Proof.Machine.execTas e u a s
  | .lr e u a => Sys2Proof.Machine.execLr e u a s
  | .sc e u a => Sys2Proof.Machine.execSc e u a s
  | .loadComplete e u ix ecc => Sys2Proof.Machine.execLoadComplete e u ix ecc s
  | .eccWriteback k => Sys2Proof.Machine.execEccWriteback k s
  | .storeDrain e ix => Sys2Proof.Machine.execStoreDrain e ix s
  | .globalStoreAck e ix => Sys2Proof.Machine.execGlobalStoreAck e ix s
  | .postPerformed k ix link coll => Sys2Proof.Machine.execPostPerformed k ix link coll s
  | .crossSectionStoreDone e ix cycles => Sys2Proof.Machine.execCrossSectionStoreDone e ix cycles s
  | .jmp e t => Sys2Proof.Machine.execJmp e t s
  | .call e t => Sys2Proof.Machine.execCall e t s
  | .ret e t => Sys2Proof.Machine.execRet e t s
  | .beq e t => Sys2Proof.Machine.execBeq e t s
  | .bne e t => Sys2Proof.Machine.execBne e t s
  | .blt e t => Sys2Proof.Machine.execBlt e t s
  | .bge e t => Sys2Proof.Machine.execBge e t s
  | .bltu e t => Sys2Proof.Machine.execBltu e t s
  | .bgeu e t => Sys2Proof.Machine.execBgeu e t s
  | .bz e t => Sys2Proof.Machine.execBz e t s
  | .bnz e t => Sys2Proof.Machine.execBnz e t s
  | .trap e t => Sys2Proof.Machine.execTrap e t s
  | .rti e => Sys2Proof.Machine.execRti e s
  | .retg e => Sys2Proof.Machine.execRetg e s
  | .fenceL e => Sys2Proof.Machine.execFenceL e s
  | .fenceM e => Sys2Proof.Machine.execFenceM e s
  | .fenceA e => Sys2Proof.Machine.execFenceA e s
  | .fenceComplete e => Sys2Proof.Machine.execFenceComplete e s
  | .isync e => Sys2Proof.Machine.execIsync e s
  | .csrr e t => Sys2Proof.Machine.execCsrr e t s
  | .csrw e t => Sys2Proof.Machine.execCsrw e t s
  | .endframe e => Sys2Proof.Machine.execEndframe e s
  | .endframeComplete e => Sys2Proof.Machine.execEndframeComplete e s
  | .copy e t => Sys2Proof.Machine.execCopy e t s
  | .fill e t => Sys2Proof.Machine.execFill e t s
  | .gath e t => Sys2Proof.Machine.execGath e t s
  | .ingest e t => Sys2Proof.Machine.execIngest e t s
  | .save e t => Sys2Proof.Machine.execSave e t s
  | .restore e t => Sys2Proof.Machine.execRestore e t s
  | .stmComplete e stop => Sys2Proof.Machine.execStmComplete e stop s
  | .chioRd e t => Sys2Proof.Machine.execChioRd e t s
  | .chioWr e t => Sys2Proof.Machine.execChioWr e t s
  | .chioPop e t => Sys2Proof.Machine.execChioPop e t s
  | .chioPeek e t => Sys2Proof.Machine.execChioPeek e t s
  | .chioPush e t => Sys2Proof.Machine.execChioPush e t s
  | .chioOcc e t => Sys2Proof.Machine.execChioOcc e t s
  | .limLo e v => Sys2Proof.Machine.execLimLo e v s
  | .limHi e v => Sys2Proof.Machine.execLimHi e v s
  | .pushReachQm k => Sys2Proof.Machine.execPushReachQm k s
  | .qmPush w => Sys2Proof.Machine.execQmPush w s
  | .qmPushDone => Sys2Proof.Machine.execQmPushDone s
  | .qmEvtRead => Sys2Proof.Machine.execQmEvtRead s
  | .handoffArm w => Sys2Proof.Machine.execHandoffArm w s
  | .handoffCancel w => Sys2Proof.Machine.execHandoffCancel w s
  | .glvTighten k w => Sys2Proof.Machine.execGlvTighten k w s
  | .glvCmdPark first count => Sys2Proof.Machine.execGlvCmdPark first count s
  | .glvCmdRelease first count => Sys2Proof.Machine.execGlvCmdRelease first count s
  | .glvCmdDone => Sys2Proof.Machine.execGlvCmdDone s
  | .glvEvtRead => Sys2Proof.Machine.execGlvEvtRead s
  | .safeNAssert => Sys2Proof.Machine.execSafeNAssert s
  | .downstreamSlotSend n => Sys2Proof.Machine.execDownstreamSlotSend n s
  | .upstreamBeatCodeword n off cw => Sys2Proof.Machine.execUpstreamBeatCodeword n off cw s
  | .upstreamDataCodeword n cw => Sys2Proof.Machine.execUpstreamDataCodeword n cw s
  | .managementCodeword n cw => Sys2Proof.Machine.execManagementCodeword n cw s
  | .captureCodeword n cw => Sys2Proof.Machine.execCaptureCodeword n cw s
  | .ack n seq => Sys2Proof.Machine.execAck n seq s
  | .messageRetry n seq => Sys2Proof.Machine.execMessageRetry n seq s
  | .hubevt n seq ackReq ws => Sys2Proof.Machine.execHubevt n seq ackReq ws s
  | .svcMessage n seq ackReq ws => Sys2Proof.Machine.execSvcMessage n seq ackReq ws s
  | .hello n seq w1 w2 w3 w4 => Sys2Proof.Machine.execHello n seq w1 w2 w3 w4 s
  | .scale n seq w1 w2 w3 w4 => Sys2Proof.Machine.execScale n seq w1 w2 w3 w4 s
  | .mapAck n w => Sys2Proof.Machine.execMapAck n w s
  | .retrain n w => Sys2Proof.Machine.execRetrain n w s
  | .laneEnable n => Sys2Proof.Machine.execLaneEnable n s
  | .laneDisable n => Sys2Proof.Machine.execLaneDisable n s
  | .laneFullRetrain n => Sys2Proof.Machine.execLaneFullRetrain n s
  | .laneQuickRetrain n => Sys2Proof.Machine.execLaneQuickRetrain n s
  | .laneHold n => Sys2Proof.Machine.execLaneHold n s
  | .laneStateTimeout n => Sys2Proof.Machine.execLaneStateTimeout n s
  | .terminationDetect n settled => Sys2Proof.Machine.execTerminationDetect n settled s
  | .shortCheck n gnd sup pair => Sys2Proof.Machine.execShortCheck n gnd sup pair s
  | .signalDetect n => Sys2Proof.Machine.execSignalDetect n s
  | .trainingFrame n fr => Sys2Proof.Machine.execTrainingFrame n fr s
  | .codewordLockLoss n => Sys2Proof.Machine.execCodewordLockLoss n s
  | .adaptComplete n => Sys2Proof.Machine.execAdaptComplete n s
  | .adaptStep n par up => Sys2Proof.Machine.execAdaptStep n par up s
  | .lossOfSignal n => Sys2Proof.Machine.execLossOfSignal n s
  | .laneRetry n => Sys2Proof.Machine.execLaneRetry n s
  | .eyeSweep n eye height width => Sys2Proof.Machine.execEyeSweep n eye height width s
  | .laneTest n w => Sys2Proof.Machine.execLaneTest n w s
  | .msgTxAppend n w => Sys2Proof.Machine.execMsgTxAppend n w s
  | .svcSend n w => Sys2Proof.Machine.execSvcSend n w s
  | .msgRxRead n => Sys2Proof.Machine.execMsgRxRead n s
  | .exportItemTake k => Sys2Proof.Machine.execExportItemTake k s
  | .exportFrameSend k => Sys2Proof.Machine.execExportFrameSend k s
  | .exportHoldoffExpire k => Sys2Proof.Machine.execExportHoldoffExpire k s
  | .pause k octets => Sys2Proof.Machine.execPause k octets s
  | .pauseExpire k => Sys2Proof.Machine.execPauseExpire k s
  | .rxFrameDiscard k octets => Sys2Proof.Machine.execRxFrameDiscard k octets s
  | .linkChange k up => Sys2Proof.Machine.execLinkChange k up s
  | .checkStart u w => Sys2Proof.Machine.execCheckStart u w s
  | .checkAbort u => Sys2Proof.Machine.execCheckAbort u s
  | .checkComplete u ups => Sys2Proof.Machine.execCheckComplete u ups s
  | .marchStart w => Sys2Proof.Machine.execMarchStart w s
  | .marchAbort => Sys2Proof.Machine.execMarchAbort s
  | .retentionWaitEnd => Sys2Proof.Machine.execRetentionWaitEnd s
  | .marchComplete fails unc => Sys2Proof.Machine.execMarchComplete fails unc s
  | .bootMarchComplete rep => Sys2Proof.Machine.execBootMarchComplete rep s
  | .semAcquire m k c j => Sys2Proof.Machine.execSemAcquire m k c j s
  | .semRelease m k c j => Sys2Proof.Machine.execSemRelease m k c j s
  | .dcacheInvalidate k w => Sys2Proof.Machine.execDcacheInvalidate k w s
  | .dmaPost m c x w => Sys2Proof.Machine.execDmaPost m c x w s
  | .dmaDescriptorStart c x => Sys2Proof.Machine.execDmaDescriptorStart c x s
  | .dmaDescriptorEnd c x ups => Sys2Proof.Machine.execDmaDescriptorEnd c x ups s
  | .doorbell k w => Sys2Proof.Machine.execDoorbell k w s
  | .timerExpire e n => Sys2Proof.Machine.execTimerExpire e n s
  | .watchdogExpire e => Sys2Proof.Machine.execWatchdogExpire e s
  | .interruptAccept e => Sys2Proof.Machine.execInterruptAccept e s
  | .getStatus h ws => Sys2Proof.Machine.execGetStatus h ws s
  | .getIdentity h ws => Sys2Proof.Machine.execGetIdentity h ws s
  | .getFeatures h ws => Sys2Proof.Machine.execGetFeatures h ws s
  | .getEventLog h ws => Sys2Proof.Machine.execGetEventLog h ws s
  | .resetDevice h ws => Sys2Proof.Machine.execResetDevice h ws s
  | .deviceResetDelayEnd => Sys2Proof.Machine.execDeviceResetDelayEnd s
  | .resetSupervisor h ws => Sys2Proof.Machine.execResetSupervisor h ws s
  | .resetSection h ws => Sys2Proof.Machine.execResetSection h ws s
  | .safe h ws => Sys2Proof.Machine.execSafe h ws s
  | .clearSafe h ws => Sys2Proof.Machine.execClearSafe h ws s
  | .loadBegin h ws => Sys2Proof.Machine.execLoadBegin h ws s
  | .loadData h ws => Sys2Proof.Machine.execLoadData h ws s
  | .loadEnd h ws => Sys2Proof.Machine.execLoadEnd h ws s
  | .verificationComplete => Sys2Proof.Machine.execVerificationComplete s
  | .loadAbort h ws => Sys2Proof.Machine.execLoadAbort h ws s
  | .start h ws => Sys2Proof.Machine.execStart h ws s
  | .stopSection h ws => Sys2Proof.Machine.execStopSection h ws s
  | .startSection h ws => Sys2Proof.Machine.execStartSection h ws s
  | .parkChannels h ws => Sys2Proof.Machine.execParkChannels h ws s
  | .releaseChannels h ws => Sys2Proof.Machine.execReleaseChannels h ws s
  | .readReg h ws => Sys2Proof.Machine.execReadReg h ws s
  | .writeReg h ws => Sys2Proof.Machine.execWriteReg h ws s
  | .readMem h ws => Sys2Proof.Machine.execReadMem h ws s
  | .writeMem h ws => Sys2Proof.Machine.execWriteMem h ws s
  | .linkStatus h ws => Sys2Proof.Machine.execLinkStatus h ws s
  | .linkRetrain h ws => Sys2Proof.Machine.execLinkRetrain h ws s
  | .linkTest h ws => Sys2Proof.Machine.execLinkTest h ws s
  | .marchRun h ws => Sys2Proof.Machine.execMarchRun h ws s
  | .marchResult h ws => Sys2Proof.Machine.execMarchResult h ws s
  | .unlockPassword h ws => Sys2Proof.Machine.execUnlockPassword h ws s
  | .unlockChallenge h ws => Sys2Proof.Machine.execUnlockChallenge h ws s
  | .unlockResponse h ws => Sys2Proof.Machine.execUnlockResponse h ws s
  | .nonceExpire => Sys2Proof.Machine.execNonceExpire s
  | .lock h ws => Sys2Proof.Machine.execLock h ws s
  | .attest h ws => Sys2Proof.Machine.execAttest h ws s
  | .dbgHalt h ws => Sys2Proof.Machine.execDbgHalt h ws s
  | .dbgResume h ws => Sys2Proof.Machine.execDbgResume h ws s
  | .dbgStep h ws => Sys2Proof.Machine.execDbgStep h ws s
  | .dbgReplyTimeout => Sys2Proof.Machine.execDbgReplyTimeout s
  | .dbgRead h ws => Sys2Proof.Machine.execDbgRead h ws s
  | .dbgWrite h ws => Sys2Proof.Machine.execDbgWrite h ws s
  | .dbgBreak h ws => Sys2Proof.Machine.execDbgBreak h ws s
  | .dbgWatch h ws => Sys2Proof.Machine.execDbgWatch h ws s
  | .dbgVterm h ws => Sys2Proof.Machine.execDbgVterm h ws s
  | .dbgGong h ws => Sys2Proof.Machine.execDbgGong h ws s
  | .dbgStatus h ws => Sys2Proof.Machine.execDbgStatus h ws s
  | .healthReport h ws => Sys2Proof.Machine.execHealthReport h ws s
  | .avsStatus h ws => Sys2Proof.Machine.execAvsStatus h ws s
  | .queuePush h ws => Sys2Proof.Machine.execQueuePush h ws s
  | .queueStatus h ws => Sys2Proof.Machine.execQueueStatus h ws s
  | .svc h ws => Sys2Proof.Machine.execSvc h ws s
  | .mbxDataRead => Sys2Proof.Machine.execMbxDataRead s
  | .mbxReplyAppend w => Sys2Proof.Machine.execMbxReplyAppend w s
  | .mailboxSend w => Sys2Proof.Machine.execMailboxSend w s
  | .supervisorReady => Sys2Proof.Machine.execSupervisorReady s
  | .mailboxTimeout => Sys2Proof.Machine.execMailboxTimeout s
  | .replyQueueEntry => Sys2Proof.Machine.execReplyQueueEntry s
  | .privateRead octets ddr => Sys2Proof.Machine.execPrivateRead octets ddr s
  | .ibiRetry nack => Sys2Proof.Machine.execIbiRetry nack s
  | .entdaa da => Sys2Proof.Machine.execEntdaa da s
  | .setdasa static da => Sys2Proof.Machine.execSetdasa static da s
  | .rstdaa => Sys2Proof.Machine.execRstdaa s
  | .enec => Sys2Proof.Machine.execEnec s
  | .disec => Sys2Proof.Machine.execDisec s
  | .getpid => Sys2Proof.Machine.execGetpid s
  | .getbcr => Sys2Proof.Machine.execGetbcr s
  | .getdcr => Sys2Proof.Machine.execGetdcr s
  | .getstatus busErr => Sys2Proof.Machine.execGetstatus busErr s
  | .getmxds => Sys2Proof.Machine.execGetmxds s
  | .setmwl v => Sys2Proof.Machine.execSetmwl v s
  | .getmwl => Sys2Proof.Machine.execGetmwl s
  | .setmrl v => Sys2Proof.Machine.execSetmrl v s
  | .getmrl => Sys2Proof.Machine.execGetmrl s
  | .enthdr0 => Sys2Proof.Machine.execEnthdr0 s
  | .rstact b => Sys2Proof.Machine.execRstact b s
  | .targetResetPattern => Sys2Proof.Machine.execTargetResetPattern s
  | .otpProgram m w => Sys2Proof.Machine.execOtpProgram m w s
  | .otpGenerateSecret m w => Sys2Proof.Machine.execOtpGenerateSecret m w s
  | .otpProgramDone ok => Sys2Proof.Machine.execOtpProgramDone ok s
  | .haltRequest m n => Sys2Proof.Machine.execHaltRequest m n s
  | .resume m n => Sys2Proof.Machine.execResume m n s
  | .halt e => Sys2Proof.Machine.execHalt e s
  | .gongFire m g => Sys2Proof.Machine.execGongFire m g s
  | .gongDelivery g => Sys2Proof.Machine.execGongDelivery g s
  | .txdWrite e w => Sys2Proof.Machine.execTxdWrite e w s
  | .rxdRead e => Sys2Proof.Machine.execRxdRead e s
  | .avsUpdate readOk writeOk readback mpath worst => Sys2Proof.Machine.execAvsUpdate readOk writeOk readback mpath worst s
  | .thermalSample tmax sensor => Sys2Proof.Machine.execThermalSample tmax sensor s
  | .thermalStep => Sys2Proof.Machine.execThermalStep s
  | .thermtrip => Sys2Proof.Machine.execThermtrip s
  | .thermtripRelease => Sys2Proof.Machine.execThermtripRelease s
  | .ageingReplan shift => Sys2Proof.Machine.execAgeingReplan shift s
  | .hlthEvtRead => Sys2Proof.Machine.execHlthEvtRead s
  | .swdtKick => Sys2Proof.Machine.execSwdtKick s
  | .swdtBite => Sys2Proof.Machine.execSwdtBite s
  | .sectionGate m k => Sys2Proof.Machine.execSectionGate m k s
  | .sectionPowerRestore m k => Sys2Proof.Machine.execSectionPowerRestore m k s
  | .sectionPowerUpDone k => Sys2Proof.Machine.execSectionPowerUpDone k s
  | .fence m k w => Sys2Proof.Machine.execFence m k w s
  | .fenceDone k => Sys2Proof.Machine.execFenceDone k s
  | .aonPowerOn => Sys2Proof.Machine.execAonPowerOn s
  | .resetNLow => Sys2Proof.Machine.execResetNLow s
  | .resetNRelease addrSel => Sys2Proof.Machine.execResetNRelease addrSel s
  | .pgoodLow => Sys2Proof.Machine.execPgoodLow s
  | .refclkSysLoss => Sys2Proof.Machine.execRefclkSysLoss s
  | .refclkSysReturn => Sys2Proof.Machine.execRefclkSysReturn s
  | .refclkLnLoss => Sys2Proof.Machine.execRefclkLnLoss s
  | .fuseLoadEnd f => Sys2Proof.Machine.execFuseLoadEnd f s
  | .selftestEnd safeNLow => Sys2Proof.Machine.execSelftestEnd safeNLow s
  | .registerWrite m a w => Sys2Proof.Machine.execRegisterWrite m a w s
  | .pgoodRelease => Sys2Proof.Machine.execPgoodRelease s
  | .privateWrite octets ddr safeNLow => Sys2Proof.Machine.execPrivateWrite octets ddr safeNLow s
  | .exportFrameComplete k => Sys2Proof.Machine.execExportFrameComplete k s

end Sys2Proof.Machine
end

