-- ==== Sys2Proof/Machine/Balls.lean ====
section
/-! DEFINITION. What the output balls show (R48, R356, R480, R500, R501, Table 13.1): a view of the state, which no command reads. -/

namespace Sys2Proof.Machine

/-- The balls of R501. `none` where a transfer in progress decides the level. -/
structure Balls where
  txHighZ : List Bool
  rxTerminated : List Bool
  beatOut : Bool
  alertLow : Bool
  sdaReleased : Option Bool
  avsClk : Option Bool
  avsMdata : Option Bool
  thermtripLow : Bool
  deriving DecidableEq, Repr

/-- A short flag of lane n is set: its drivers are off and its pins are at high impedance (R356). -/
def State.laneShorted (s : State) (n : Nat) : Bool := fld (s.reg (.LN_FAULT n)) 8 0 != 0

/-- The levels of the balls. A lane transmitter is also at high impedance while the lane is OFF, its domain gated. -/
def State.balls (s : State) : Balls :=
  let off := s.blocksHeld
  { txHighZ := (List.range 20).map (fun n => off || s.laneState n == lsOFF || s.laneShorted n)
    rxTerminated := (List.range 20).map (fun n => off || !(s.laneState n == lsOFF || s.laneShorted n))
    beatOut := !off && s.beat.outPulse && s.getB .BEAT_CTL F.BEAT_CTL_OUT_EN
    alertLow := !off && s.alertN
    sdaReleased := if off then some true else none
    avsClk := if off then some false else none
    avsMdata := if off then some true else none
    thermtripLow := s.pins.thermtrip }

end Sys2Proof.Machine
end

