-- ==== Sys2Proof/Safety.lean ====
section
/-! DEFINITION. What the statements are said in: a command that completes, the canonical form of memory and of every table of
the state, and the two conditions that only a device reset ends (R129, R412). -/

namespace Sys2Proof.Machine

/-- The command answers a next state, and that state satisfies P: it is carried out, with no fault and no refusal. -/
def Completes (c : Instr) (s : State) (P : State → Prop) : Prop := ∃ t, exec c s = .next t ∧ P t

/-- Engine e after a command that asserts a trigger of unit u, with x its state once the operation has started or completed: a
post-increment that is due becomes visible (R187), and nothing outside the engine changes. -/
def State.withEngineAfter (s : State) (e : Nat) (x : Engine) : State := s.setEngine e (x.applyInc ((s.engine e).cyc + 2))

/-- A short operation of unit u of engine e has completed with the value v in result port k (R141), and nothing else has
happened. -/
def State.withResult (s : State) (e u k : Nat) (v : Word) : State :=
  s.withEngineAfter e (((s.engine e).setResult k v).setDone u (s.engine e).cyc)

/-- Nothing but registers of P differs between s and t. -/
def State.onlyRegs (s t : State) (P : Reg → Prop) : Prop := { t with regs := s.regs } = s ∧ ∀ r, ¬ P r → t.reg r = s.reg r

/-! ## Correct rounding (R223, R226 to R229), said without the functions of Machine/Flags.lean -/

/-- How x * 2^q compares with the magnitude (a / b) * 2^k. -/
def ratCmp (a b : Nat) (k : Int) (x : Nat) (q : Int) : Ordering := compare (x * b * 2 ^ (q - k).toNat) (a * 2 ^ (k - q).toNat)

/-- How x * 2^q compares with the square root of a * 2^k. -/
def rootCmp (a : Nat) (k : Int) (x : Nat) (q : Int) : Ordering := ratCmp a 1 k (x * x) (2 * q)

/-- n * 2^q is the multiple of 2^q that rounding mode rm gives for a magnitude v of sign s (R227). -/
def Picks (rm : Nat) (s : Bool) (v : Nat → Int → Ordering) (q : Int) (n : Nat) : Prop :=
  let down := v n q ≠ .gt ∧ v (n + 1) q = .gt
  let up := v n q ≠ .lt ∧ (n = 0 ∨ v (n - 1) q = .lt)
  match rm with
  | 0 => v (2 * n + 1) (q - 1) ≠ .lt ∧ (n = 0 ∨ v (2 * n - 1) (q - 1) ≠ .gt) ∧
      (v (2 * n + 1) (q - 1) = .eq ∨ (n ≠ 0 ∧ v (2 * n - 1) (q - 1) = .eq) → n % 2 = 0)
  | 1 => down
  | 2 => if s then down else up
  | _ => if s then up else down

/-- w and the flags fl are the correctly rounded result of a non-zero magnitude v of sign s in a format (R227, R228): q0 is the unit
that gives v its full precision, n the chosen multiple of the unit that the format has there, n0 that of q0, by which tininess is
judged. -/
def Rounds (fm : FpFormat) (rm : Nat) (s : Bool) (v : Nat → Int → Ordering) (w fl : Nat) : Prop :=
  ∃ (q0 : Int) (n n0 : Nat),
    let q := max q0 fm.qmin
    let top := fm.qmin + fm.emax - 2
    v (2 ^ (fm.prec - 1)) q0 ≠ .gt ∧ v (2 ^ fm.prec) q0 = .gt ∧ Picks rm s v q n ∧ Picks rm s v q0 n0 ∧
    if top < q ∨ (q = top ∧ n = 2 ^ fm.prec) then
      fl = 5 ∧ w = if rm = 0 ∨ (rm = 2 ∧ s = false) ∨ (rm = 3 ∧ s = true) then fpInf fm s else fpMax fm s
    else
      (∃ ef f, ef < fm.emax ∧ f < 2 ^ (fm.prec - 1) ∧ w = fpPack fm s ef f ∧
        (fpDecode fm s ef f = .fin s n q ∨ (n = 2 ^ fm.prec ∧ fpDecode fm s ef f = .fin s (2 ^ (fm.prec - 1)) (q + 1)))) ∧
      fl = (if v n q = .eq then 0 else 1) +
        (if v n q ≠ .eq ∧ q0 < fm.qmin ∧ ¬ (q0 = fm.qmin - 1 ∧ n0 = 2 ^ fm.prec) then 2 else 0)

/-- A NaN, and a signalling one (R224). -/
def isNaN (w : Word) : Bool := w.toNat / 2 ^ 26 % 512 == 511 && w.toNat % 2 ^ 26 != 0
def isSNaN (w : Word) : Bool := isNaN w && !w.getLsbD 25

/-- The first NaN of the operands, quiet; IV, an operand exception, when one is signalling (R228, R230, R238). -/
def NaNResult (l : List Word) (r : FpRes) : Prop :=
  (∃ w, l.find? isNaN = some w ∧ r.res = w ||| 0x002000000#36) ∧ r.flags = (if l.any isSNaN then 16 else 0) ∧ r.opExc = l.any isSNaN

/-- The rows of Table 8.6: an operation, and its result and flags in each rounding mode (R242). -/
def edgeResults : List ((Nat → FpRes) × List (Word × Nat)) :=
  [(fun rm => fpAdd rm 0x7FBFFFFFF#36 0x7FBFFFFFF#36, [(0x7FC000000, 5), (0x7FBFFFFFF, 5), (0x7FC000000, 5), (0x7FBFFFFFF, 5)]),
   (fun rm => fpAdd rm 0x7FBFFFFFF#36 1, [(0x7FBFFFFFF, 1), (0x7FBFFFFFF, 1), (0x7FC000000, 5), (0x7FBFFFFFF, 1)]),
   (fun rm => fpAdd rm 1 1, List.replicate 4 (0x2, 0)),
   (fun rm => fpAdd rm 0x7FBFFFFFF#36 0xFFBFFFFFF#36, [(0x0, 0), (0x0, 0), (0x0, 0), (0x800000000, 0)]),
   (fun rm => fpSub rm 0x7FBFFFFFF#36 1, [(0x7FBFFFFFF, 1), (0x7FBFFFFFE, 1), (0x7FBFFFFFF, 1), (0x7FBFFFFFE, 1)]),
   (fun rm => fpSub rm 1 0x7FBFFFFFF#36, [(0xFFBFFFFFF, 1), (0xFFBFFFFFE, 1), (0xFFBFFFFFE, 1), (0xFFBFFFFFF, 1)]),
   (fun rm => fpSub rm 1 1, [(0x0, 0), (0x0, 0), (0x0, 0), (0x800000000, 0)]),
   (fun rm => fpSub rm 0xFFBFFFFFF#36 0x7FBFFFFFF#36, [(0xFFC000000, 5), (0xFFBFFFFFF, 5), (0xFFBFFFFFF, 5), (0xFFC000000, 5)]),
   (fun rm => fpMul rm 0x7FBFFFFFF#36 0x7FBFFFFFF#36, [(0x7FC000000, 5), (0x7FBFFFFFF, 5), (0x7FC000000, 5), (0x7FBFFFFFF, 5)]),
   (fun rm => fpMul rm 1 1, [(0x0, 3), (0x0, 3), (0x1, 3), (0x0, 3)]),
   (fun rm => fpMul rm 0x800000001#36 1, [(0x800000000, 3), (0x800000000, 3), (0x800000000, 3), (0x800000001, 3)]),
   (fun rm => fpMul rm 0x7FBFFFFFF#36 1, List.replicate 4 (0x39BFFFFFF, 0)),
   (fun rm => fpFma rm 0x7FBFFFFFF#36 0x400000000#36 0xFFBFFFFFF#36, List.replicate 4 (0x7FBFFFFFF, 0)),
   (fun rm => fpFma rm 0x7FBFFFFFF#36 0x7FBFFFFFF#36 0xFFBFFFFFF#36, [(0x7FC000000, 5), (0x7FBFFFFFF, 5), (0x7FC000000, 5), (0x7FBFFFFFF, 5)]),
   (fun rm => fpFma rm 0x7FBFFFFFF#36 1 1, [(0x39BFFFFFF, 1), (0x39BFFFFFF, 1), (0x39C000000, 1), (0x39BFFFFFF, 1)])] ++
  [(fun rm => fpFma rm 1 1 1, [(0x1, 3), (0x1, 3), (0x2, 3), (0x1, 3)]),
   (fun rm => fpFma rm 1 1 0x800000001#36, [(0x800000001, 3), (0x800000000, 3), (0x800000000, 3), (0x800000001, 3)]),
   (fun rm => fpDiv rm 1 0x7FBFFFFFF#36, [(0x0, 3), (0x0, 3), (0x1, 3), (0x0, 3)]),
   (fun rm => fpDiv rm 0x7FBFFFFFF#36 1, [(0x7FC000000, 5), (0x7FBFFFFFF, 5), (0x7FC000000, 5), (0x7FBFFFFFF, 5)]),
   (fun rm => fpDiv rm 0x7FBFFFFFF#36 0x7FBFFFFFF#36, List.replicate 4 (0x3FC000000, 0)),
   (fun rm => fpDiv rm 1 1, List.replicate 4 (0x3FC000000, 0)),
   (fun rm => fpDiv rm 0x7FBFFFFFF#36 0x800000000#36, List.replicate 4 (0xFFC000000, 8)),
   (fun rm => fpSqrt rm 1, List.replicate 4 (0x1CC000000, 0)),
   (fun rm => fpSqrt rm 0x7FBFFFFFF#36, [(0x5FBFFFFFF, 1), (0x5FBFFFFFF, 1), (0x5FC000000, 1), (0x5FBFFFFFF, 1)]),
   (fun rm => fpSqrt rm 0x800000001#36, List.replicate 4 (0x7FE000000, 16)),
   (fun rm => fpF2i rm 0x7FBFFFFFF#36, List.replicate 4 (0x7FFFFFFFF, 16)),
   (fun rm => fpF2i rm 0xFFBFFFFFF#36, List.replicate 4 (0x800000000, 16)),
   (fun rm => fpF2i rm 1, [(0x0, 1), (0x0, 1), (0x1, 1), (0x0, 1)]),
   (fun rm => fpF2i rm 0x800000001#36, [(0x0, 1), (0x0, 1), (0x0, 1), (0xFFFFFFFFF, 1)]),
   (fun rm => fpF2u rm 0x7FBFFFFFF#36, List.replicate 4 (0xFFFFFFFFF, 16))] ++
  [(fun rm => fpF2u rm 0x800000001#36, [(0x0, 1), (0x0, 1), (0x0, 1), (0x0, 16)]),
   (fun rm => fpI2f rm 0x7FFFFFFFF#36, [(0x488000000, 1), (0x487FFFFFF, 1), (0x488000000, 1), (0x487FFFFFF, 1)]),
   (fun rm => fpI2f rm 0x800000000#36, List.replicate 4 (0xC88000000, 0)),
   (fun rm => fpU2f rm 0xFFFFFFFFF#36, [(0x48C000000, 1), (0x48BFFFFFF, 1), (0x48C000000, 1), (0x48BFFFFFF, 1)]),
   (fun rm => fpF2w rm 0x7FBFFFFFF#36, [(0x7F800000, 5), (0x7F7FFFFF, 5), (0x7F800000, 5), (0x7F7FFFFF, 5)]),
   (fun rm => fpF2w rm 1, [(0x0, 3), (0x0, 3), (0x1, 3), (0x0, 3)]),
   (fun _ => fpW2f 0x000000001#36, List.replicate 4 (0x1A8000000, 0)),
   (fun _ => fpW2f 0x07F7FFFFF#36, List.replicate 4 (0x5FBFFFFF8, 0)),
   (fun _ => fpW2f 0x07F800001#36, List.replicate 4 (0x7FE000008, 16)),
   (fun rm => fpF2h rm 0x7FBFFFFFF#36, [(0x7C00, 5), (0x7BFF, 5), (0x7C00, 5), (0x7BFF, 5)]),
   (fun rm => fpF2h rm 1, [(0x0, 3), (0x0, 3), (0x1, 3), (0x0, 3)]),
   (fun _ => fpH2f 0x000000001#36, List.replicate 4 (0x39C000000, 0)),
   (fun _ => fpH2f 0x000007BFF#36, List.replicate 4 (0x43BFF0000, 0))]

/-! ## What commands leave -/

/-- Channel x has taken a cause and become y (R120, R121): TRIPPED if the cause trips or x was, else PARKED; a first cause is
recorded with its action; a further one leaves the larger action and replaces only HALT. Nothing else of it changes. -/
def Chan.takes (trip : Bool) (cause act : Nat) (x y : Chan) : Prop :=
  y.g0.state = (if trip = true ∨ x.g0.state = 2 then 2 else 3) ∧
  y.g0.act = (if x.g0.state < 2 then act else max x.g0.act act) ∧
  y.g0.cause = (if x.g0.state < 2 ∨ x.g0.cause = 0x1A then cause else x.g0.cause) ∧
  fld y.g0.w7 26 15 = fld x.g0.w7 26 15 ∧ { y.g0 with w7 := x.g0.w7 } = x.g0 ∧ { y.g1 with w7 := x.g1.w7 } = x.g1 ∧
  { y with g0 := x.g0, g1 := x.g1 } = x

/-- The entry of channel c passes the comparison of R132. -/
abbrev State.glvSound (s : State) (c : Nat) : Prop := (s.ch c).g0 = (s.ch c).g1 ∧ (s.ch c).bad = false ∧ s.glvHeld = false

/-- Channel c takes a cause and becomes y, if its entry passes the comparison; one that fails trips with TBL in its place (R132). -/
def State.takesAt (s : State) (c : Nat) (trip : Bool) (cause act : Nat) (y : Chan) : Prop :=
  (s.glvSound c → (s.ch c).takes trip cause act y) ∧ (¬ s.glvSound c → (s.ch c).takes true 0x1D 2 y)

/-- Mode and SETP due in the downstream slot of channel c (R80, R109, R110, R132): the setpoint of an ACTIVE or ARMED channel, without
one NOUPDATE or the substitute of its parking action; else that of the action in force; OPEN for an entry that fails the comparison. The
substitute of HOLD is the last-good record, or ZERO without one. -/
def State.recordDue (s : State) (c : Nat) : BitVec 4 × Word :=
  let x := s.ch c
  let subst := fun (act : Nat) => if act = 0 ∧ x.lgValid = true then (x.lgMode, x.lgSetp) else if act < 2 then (3, 0) else (4, 0)
  if ¬ s.glvSound c then (4, 0)
  else match x.g0.state, x.egSend with
    | 0, some p => (p.mode, p.setp)
    | 0, none => (0, 0)
    | 1, some p => (p.mode, p.setp)
    | 1, none => subst x.g0.actPark
    | _, _ => subst x.g0.act

/-- The record of channel c has been sent as the words setp and w1 (Table 3.2, R78), and the channel went from that of s to that of t: a
mode other than NOUPDATE is the last-good record and the mode sent (R108, R113, R116); the setpoint is taken from the slot; one sent of an
ARMED channel makes it ACTIVE with DBC, FUP and FDN cleared (R124); an entry that fails the comparison trips (R132). -/
structure State.RecordSent (s t : State) (c : Nat) (setp w1 : Word) : Prop where
  words : setp = (s.recordDue c).2 ∧ fld w1 35 32 = (s.recordDue c).1.toNat ∧ fld w1 31 17 = c % 2 ^ 15 ∧ fld w1 16 9 = s.beatNum % 256 ∧
    fld w1 8 0 = crc9 setp w1
  lastGood : if (s.recordDue c).1 = 0 then
      ((t.ch c).lgValid = (s.ch c).lgValid ∧ (t.ch c).lgMode = (s.ch c).lgMode ∧ (t.ch c).lgSetp = (s.ch c).lgSetp ∧ (t.ch c).sentMode = (s.ch c).sentMode)
    else ((t.ch c).lgValid = true ∧ (t.ch c).lgMode = (s.recordDue c).1 ∧ (t.ch c).lgSetp = setp ∧ (t.ch c).sentMode = some (s.recordDue c).1)
  slot : (t.ch c).egSend = if s.glvSound c ∧ (s.ch c).g0.state < 2 then none else (s.ch c).egSend
  entry : (s.glvSound c → (t.ch c).bad = false ∧ (t.ch c).g0 = (t.ch c).g1 ∧ if (s.ch c).g0.state = 1 ∧ (s.ch c).egSend ≠ none then
      ((t.ch c).g0.state = 0 ∧ fld (t.ch c).g0.w7 33 27 = fld (s.ch c).g0.w7 33 27 ∧ fld (t.ch c).g0.w7 26 15 = 0 ∧
        fld (t.ch c).g0.w7 14 0 = s.beatNum % 2 ^ 15 ∧ { (t.ch c).g0 with w7 := (s.ch c).g0.w7 } = (s.ch c).g0)
      else (t.ch c).g0 = (s.ch c).g0) ∧
    (¬ s.glvSound c → (s.ch c).takes true 0x1D 2 { s.ch c with g0 := (t.ch c).g0, g1 := (t.ch c).g1 })

/-- What a change of STATE of channel c from s to t leaves beside the fields of Chan.takes (R107, R133): LAST is the beat in which STATE
last changed; a transition into TRIPPED is posted with the arriving cause, unless the store of 256 is full, and is counted. -/
structure State.Transition (s t : State) (c cause : Nat) : Prop where
  last : fld (t.ch c).g0.w7 14 0 =
    if (t.ch c).g0.state = (s.ch c).g0.state then fld (s.ch c).g0.w7 14 0 else s.beatNum % 2 ^ 15
  events : t.glvEvts = if (t.ch c).g0.state = 2 ∧ (s.ch c).g0.state ≠ 2 ∧ s.glvEvts.length < 256 then
    s.glvEvts ++ [BitVec.ofNat 36 (2 ^ 35 + cause % 32 * 2 ^ 30 + s.beatNum % 2 ^ 15 * 2 ^ 15 + c % 2 ^ 15)] else s.glvEvts
  overflow : t.getB .GLV_STS F.GLV_STS_EVT_OVF = (s.getB .GLV_STS F.GLV_STS_EVT_OVF ||
    decide ((t.ch c).g0.state = 2 ∧ (s.ch c).g0.state ≠ 2 ∧ 256 ≤ s.glvEvts.length))
  trips : t.getF .GLV_TRIPS F.GLV_TRIPS_COUNT = if (t.ch c).g0.state = 2 ∧ (s.ch c).g0.state ≠ 2 then
    min (2 ^ 36 - 1) (s.getF .GLV_TRIPS F.GLV_TRIPS_COUNT + 1) else s.getF .GLV_TRIPS F.GLV_TRIPS_COUNT

/-- A stacking failure of engine e with EFV clear has entered through the usable vector word w of 0x0F (R264, R265, R521): s has
the state before it, ws the frame that could not be pushed, ea its EADDR. -/
structure State.EmergencyEntered (s t : State) (e : Nat) (ws : List Word) (ea w : Word) : Prop where
  frame : ∀ k < 8, (t.engine e).csrW e (0x040 + k) = ws.getD k 0
  epc : (t.engine e).csrW e 0x020 = ws.getD 0 0
  ests : ∀ i < 36, bit ((t.engine e).csrW e 0x021) i = (i == 23 || bit (ws.getD 1 0) i)
  cause : (t.engine e).csrW e 0x022 = 0x0B ∧ (t.engine e).csrW e 0x023 = ea
  stack : (t.engine e).spOf 0 = (s.engine e).csrW e 0x038 ∧
    ∀ r, r ≠ 0 → (t.engine e).spOf r = ((s.engine e).applyInc ((s.engine e).cyc + 2)).spOf r
  handler : (t.engine e).pc.toNat = fld w 30 0 ∧ (t.engine e).ring = 0 ∧ (t.engine e).imask = 7
  ended : (t.engine e).branch = none ∧ (t.engine e).efWait = false ∧ (t.engine e).fence = none ∧ (t.engine e).resv = none
  kept : t.mem = s.mem ∧ ∀ n, n ≠ e → t.engine n = s.engine n

/-- A stacking failure (R264, R265, R521) leads from s to t: LOCKED when EFV is set already or vector 0x0F cannot be used, else the
emergency entry. -/
def State.StackFails (s t : State) (e : Nat) (ws : List Word) (ea : Word) : Prop :=
  let x := s.engine e
  (bit (x.csrW e 0x021) 23 = true → (t.engine e).locked = true) ∧
  (bit (x.csrW e 0x021) 23 = false → match s.vector e 0x0F with
    | .entry w => s.EmergencyEntered t e ws ea w
    | _ => (t.engine e).locked = true)

/-- Section k is reset and EMPTY (R25, R287, R297, R301, R393, R457): engines and contexts at reset, fences and a fence in progress kept (R491, R492), semaphores FREE, its
checks (with DATA where the words read hold an uncorrectable one, R389) and a march run on it aborted, a load session that targets it ended; an armed check unit stays armed (R393: only the check
is aborted); every other section stays as it was. -/
structure State.SectionIsReset (s t : State) (k : Nat) : Prop where
  engines : ∀ n, t.engine n = if n / 32 = k ∧ n < 192 then { Engine.reset with fenced := (s.engine n).fenced } else s.engine n
  contexts : ∀ n, t.dmaCtx n = if n / 32 = k ∧ n < 192 then DmaCtx.reset else s.dmaCtx n
  contextBits : ∀ c x, c < 48 → x < 4 → c / 8 = k → t.getB (.SEC_DMA_STS k (c % 8) x) F.SEC_DMA_STS_BUSY = false ∧
    t.getF (.SEC_DMA_STS k (c % 8) x) F.SEC_DMA_STS_FREE = 4
  semaphores : ∀ c j, c < 8 → j < 64 → t.getF (.SEC_SEM k c j) F.SEC_SEM_STATE = 0 ∧ t.getB (.SEC_SEM k c j) F.SEC_SEM_ORPH = false
  sections : ∀ j, t.sect j = if j = k then { Section.reset with fencing := (s.sect k).fencing, xqNo := (s.sect k).xqNo } else s.sect j
  empty : t.sectState k = 0 ∧ t.getB (.SEC_PLACE k) F.SEC_PLACE_VALID = false ∧ t.reg (.SEC_OVERRUN k) = 0
  measurement : SMap.get (fun _ => []) t.helm.meas (3 + k) = []
  checks : ∀ u, t.ckUnit u = s.ckUnit u ∧
    (u / 8 = k → u < 48 → s.getB (.CKU_STS u) F.CKU_STS_BUSY = true →
      t.getB (.CKU_STS u) F.CKU_STS_BUSY = false ∧ (t.getF (.CKU_STS u) F.CKU_STS_ERR = 4 ∨ t.getF (.CKU_STS u) F.CKU_STS_ERR = 2))
  march : s.march.busy = true → marchSect s.march.kind s.march.inst = some k →
    t.march.busy = false ∧ t.getB .MARCH_STS F.MARCH_STS_ABORTED = true
  session : ∀ x, s.seq.session = some x → x.type = 3 → x.target = k → t.seq.session = none
  memory : ∀ ca, (memOf (4 * (ca / 4))).bind MemId.sect ≠ some k → t.word ca = s.word ca
  others : t.chan = s.chan ∧ t.lane = s.lane ∧ t.queue = s.queue ∧ t.svc = s.svc ∧ t.beat = s.beat ∧ t.glvEvts = s.glvEvts ∧
    (¬ (s.march.busy = true ∧ marchSect s.march.kind s.march.inst = some k) → t.health = s.health) ∧ t.pins = s.pins ∧ t.pending = s.pending

/-- A command of the sequencer is answered (R406, R407, R410): a reply enters the queue of four, or waits outside; REPLY is raised
for one that enters an empty queue; STATE is counted. Nothing else changes. -/
structure State.Answered (s t : State) (status : Nat) (tag : BitVec 9) (noibi : Bool) (words : List Word) : Prop where
  only : s.onlyRegs { t with seq := s.seq } (fun r => r = .HOST_STATE_ERR ∧ status = 3)
  count : status = 3 → t.getF .HOST_STATE_ERR F.HOST_STATE_ERR_COUNT = min (2 ^ 36 - 1) (s.getF .HOST_STATE_ERR F.HOST_STATE_ERR_COUNT + 1)
  queued : s.seq.replies.length < 4 → s.seq.outside = [] →
    t.seq.replies = s.seq.replies ++ [{ status := status, tag := tag, words := words, noibi := noibi, state := BitVec.ofNat 9 s.devState }] ∧
    t.seq.outside = [] ∧
    t.seq.ibis = if s.seq.replies = [] ∧ noibi = false ∧ s.seq.ibiEn = true then ibiInsert 1 s.seq.ibis else s.seq.ibis
  waits : ¬ (s.seq.replies.length < 4 ∧ s.seq.outside = []) → t.seq.replies = s.seq.replies ∧ t.seq.ibis = s.seq.ibis ∧
    t.seq.outside = s.seq.outside ++ [{ status := status, tag := tag, words := words, noibi := noibi, state := 0 }]
  kept : { t.seq with replies := s.seq.replies, outside := s.seq.outside, ibis := s.seq.ibis } = s.seq

/-- A firmware command is handed over with the reply that Table 16.7 gives it (R419): its words stand in the mailbox, after those of a
LOAD_END under verification that firmware has not read, CMD and TAG are set. -/
structure State.HandedOver (s t : State) (o : Nat) (h : HostHdr) (ws : List Word) (status : Nat) (words : List Word) : Prop where
  only : s.onlyRegs { t with seq := s.seq } (· = .HOST_MBX_STS)
  flags : t.getB .HOST_MBX_STS F.HOST_MBX_STS_CMD = true ∧ t.getF .HOST_MBX_STS F.HOST_MBX_STS_TAG = h.tag.toNat
  mailbox : t.seq = { s.seq with
    fw := some { opcode := o, tag := h.tag, noibi := h.noibi, status := status, words := words }, timedOut := false,
    mbx := (if s.seq.fw.isSome then s.seq.mbx else []) ++ hostHeader o h ws.length :: ws, mbxReply := [] }

/-- Steps 6 to 8 of R321 took section k from s to t: variant v, number j, placed under symmetry sym of the image with body words w0 and
w1. Each channel block of the section has the physical engine of its logical one as OWNER, or 255 where v does not use it. -/
structure State.SectionIsPlaced (s t : State) (k j sym : Nat) (w0 w1 : Word) (v : Variant) : Prop where
  frame : t.getF (.SEC_FRAME k) F.SEC_FRAME_STYLE = fld w0 31 31 ∧ t.getF (.SEC_FRAME k) F.SEC_FRAME_OVR_LIMIT = fld w1 25 22
  budget : t.getF (.SEC_BUDGET k) F.SEC_BUDGET_MHZ = fld w0 29 19 ∧ t.getF (.SEC_BUDGET k) F.SEC_BUDGET_CYC = v.cyc % 2 ^ 18
  entry : fld (t.reg (.SEC_ENTRY k)) 13 0 = v.entry % 2 ^ 14 ∧ fld (t.reg (.SEC_ENTRY k)) 20 16 = v.entry / 2 ^ 16 % 2 ^ 5
  limit : t.getF (.SEC_STALL_LIMIT k) F.SEC_STALL_LIMIT_LIMIT = if fld w1 35 26 = 0 then 60 else fld w1 35 26
  xqMax : t.getF (.SEC_XQ_MAX k) F.SEC_XQ_MAX_CYC = fld w1 15 0
  atomic : t.getF (.SEC_CFG k) F.SEC_CFG_ATOMIC = fld w0 30 30
  mode : ∀ i, i < 32 → bit (t.reg (.SEC_MODE k)) (physOf sym i) = bit v.perf i ∧ bit (t.sect k).useMask (physOf sym i) = bit v.use i
  place : t.getB (.SEC_PLACE k) F.SEC_PLACE_VALID = true ∧ t.getF (.SEC_PLACE k) F.SEC_PLACE_VARIANT = j % 8 ∧
    t.getF (.SEC_PLACE k) F.SEC_PLACE_SYM = sym % 4 ∧ t.getF (.SEC_PLACE k) F.SEC_PLACE_N = v.n % 64
  loaded : t.sectState k = 1 ∧ ∀ i, i ≠ k → t.sectState i = s.sectState i
  owners : ∀ m, s.helm.chmap = some m → blocksOk m.blocks = true → ∀ b ∈ m.blocks, b.sect = k → b.leng < 32 → ∀ c, b.first ≤ c → c < b.first + b.count →
    let o := if bit v.use b.leng = true then k * 32 + physOf sym b.leng else 255
    (t.ch c).owner.toNat = o ∧ (t.ch c).g0.owner = o ∧ (t.ch c).g1.owner = o
  others : (∀ c, (∀ m, s.helm.chmap = some m → ∀ b ∈ m.blocks, b.sect = k → ¬ (b.first ≤ c ∧ c < b.first + b.count)) → t.ch c = s.ch c) ∧
    t.mem = s.mem ∧ t.eng = s.eng ∧ t.queue = s.queue ∧ t.lane = s.lane

/-- The host commands with their opcodes (Tables 16.7 and 18.4). -/
def IsHostRow (row : (HostHdr → List Word → Instr) × Nat) : Prop := row ∈ ([
   (.getStatus, 0x001), (.getIdentity, 0x002), (.getFeatures, 0x003), (.getEventLog, 0x004), (.resetDevice, 0x010),
   (.resetSupervisor, 0x010), (.resetSection, 0x010), (.safe, 0x011), (.clearSafe, 0x012), (.loadBegin, 0x020), (.loadData,
   0x021), (.loadEnd, 0x022), (.loadAbort, 0x023), (.start, 0x030), (.stopSection, 0x031), (.startSection, 0x032),
   (.parkChannels, 0x033), (.releaseChannels, 0x034), (.readReg, 0x040), (.writeReg, 0x041), (.readMem, 0x042), (.writeMem,
   0x043), (.linkStatus, 0x050), (.linkRetrain, 0x051), (.linkTest, 0x052), (.marchRun, 0x060), (.marchResult, 0x061),
   (.unlockPassword, 0x070), (.unlockChallenge, 0x071), (.unlockResponse, 0x072), (.lock, 0x073), (.attest, 0x074), (.dbgHalt,
   0x080), (.dbgResume, 0x081), (.dbgStep, 0x082), (.dbgRead, 0x083), (.dbgWrite, 0x084), (.dbgBreak, 0x085), (.dbgWatch,
   0x086), (.dbgVterm, 0x087), (.dbgGong, 0x088), (.dbgStatus, 0x089), (.healthReport, 0x090), (.avsStatus, 0x091), (.queuePush,
   0x0A0), (.queueStatus, 0x0A1), (.svc, 0x0F0)] : List _)

/-- A private write of a command is acknowledged (R402, R406, R501). -/
def State.listens (s : State) : Prop := s.blocksHeld = false ∧ s.devState ≠ 0 ∧ s.seq.da ≠ none ∧ s.seq.replies.length < 4

/-- Command o with parameter words ws passes the checks of R409, and x executes it (Table 16.6, R411, R413). -/
def State.hostTakes (s : State) (o : Nat) (ws : List Word) (x : Exec) : Prop :=
  s.listens ∧ paramsOk o (ws.take 511) = true ∧ s.offsetOk o (ws.take 511) = true ∧ s.legalNow o (ws.take 511) = some x ∧
  (x = .firmware → s.getB .HOST_STATE F.HOST_STATE_SUP = true) ∧ s.authOk o = true ∧ s.hostBusy o x (ws.take 511) = false

/-- The state as a command packet that is acknowledged finds it: SAFE_N has the level that came with the packet. -/
def State.acked (s : State) (h : HostHdr) : State :=
  { s with seq := { s.seq with nacked := false }, pins := { s.pins with safeNLow := h.safeNLow } }

/-- The supervisor is reset (R418, R430, R438, R487, R494, R519, Table 16.5). -/
structure State.SupervisorIsReset (s t : State) : Prop where
  engines : ∀ n, t.engine n = if n = 192 then { Engine.reset with fenced := (s.engine 192).fenced } else s.engine n
  sup : t.getB .HOST_STATE F.HOST_STATE_SUP = false ∧ t.getB .HLTH_SWDT F.HLTH_SWDT_EN = false ∧
    t.getF .HLTH_SWDT F.HLTH_SWDT_COUNT ≤ s.getF .HLTH_SWDT F.HLTH_SWDT_COUNT
  state : (s.devState = 6 → t.devState = 6) ∧ t.baseState = if 3 ≤ s.baseState ∧ s.baseState ≤ 5 then 2 else s.baseState
  regions : ∀ k, k < 8 → t.reg (.PRGN_BASE 6 k) = Reg.reset (.PRGN_BASE 6 k) ∧ t.reg (.PRGN_ATTR 6 k) = Reg.reset (.PRGN_ATTR 6 k)
  memory : ∀ ca, memOf (4 * (ca / 4)) = some .sup → s.memHeld ca = false → ∃ g, s.fresh < g ∧ g ≤ t.fresh ∧ t.word ca = Config.freeWord g (ca / 4)
  ended : t.seq.fw = none ∧ t.seq.session = none ∧ t.seq.evlog = []
  measurement : SMap.get (fun _ => []) t.helm.meas 0 = []
  others : t.chan = s.chan ∧ t.lane = s.lane ∧ t.queue = s.queue ∧ t.svc = s.svc ∧ t.beat = s.beat ∧ t.glvEvts = s.glvEvts ∧
    t.pins = s.pins ∧ t.dma = s.dma ∧ t.cku = s.cku ∧ t.pending = s.pending

/-- SAFE is entered (R126, R127, R412): every channel takes the cause SAFE, lanes in service send the SAFE ordered set, SAFE_SEEN sets. -/
structure State.SafeIsEntered (s t : State) : Prop where
  state : t.devState = 6 ∧ t.getF .HOST_STATE F.HOST_STATE_PREV = if s.devState = 6 then s.getF .HOST_STATE F.HOST_STATE_PREV else s.devState
  seen : t.getB .GLV_STS F.GLV_STS_SAFE_SEEN = true
  chans : ∀ c, (c ∈ s.channels → s.takesAt c false 0x1C (s.ch c).g0.actPark (t.ch c)) ∧ (c ∉ s.channels → t.ch c = s.ch c)
  lanes : ∀ n, (t.ln n).safeSent = if n < 16 ∧ s.inService n = true then (s.ln n).safeSent + 1 else (s.ln n).safeSent
  mem : t.mem = s.mem

/-- The registers whose writes do more than their access types say, or are ignored under a condition of their own: a command of
the table, a lock, a mode check. -/
def Reg.hasOperation : Reg → Bool
  | .BEAT_CTL | .BEAT_PERIOD | .SEC_FRAME _ | .SEC_BUDGET _ | .SEC_ENTRY _ | .SEC_MODE _ | .SEC_CFG _ | .SEC_XQ_MAX _
  | .SEC_STALL_LIMIT _ | .SEC_DBELL _ | .SEC_DCINV _ | .SEC_SEM _ _ _ | .SEC_DMA_POST _ _ _ | .SEC_FENCE _ | .SEC_PWR _
  | .PRGN_BASE _ _ | .PRGN_ATTR _ _ | .QM_THR | .QM_PUSH | .QM_HOFF | .QM_HOFF_BEAT | .GLV_TW _ | .GLV_CMD | .LN_CTL _
  | .LN_TEST _ | .LN_MSG_TX _ | .LN_MSG_TXC _ | .EXPK_CFG _ | .CKU_CTL _ | .CKU_STS _ | .CKU_ADDR _ | .CKU_LEN _ | .CKU_EXP _ | .MARCH_CTL
  | .HOST_MBX_REPLY | .HOST_MBX_RCTL | .HELM_OTPCTL | .DBG_CTL | .DBG_GONG _ | .DBG_ECTL _ | .DBG_BCTL _ _ | .DBG_WCTL _ _
  | .HLTH_CLK | .HLTH_SWDT => true
  | _ => false

/-- Register r after a write of w by its access types (R8, R9), and nothing else changed: RW fields take the written value, each 1
written to a W1C field clears its bit, every other bit keeps its value. -/
def State.WrittenAsTyped (s t : State) (r : Reg) (w : Word) : Prop :=
  s.onlyRegs t (· = r) ∧ ∀ i, i < 36 → bit (t.reg r) i =
    match r.fields.find? (fun f => decide (f.lo ≤ i ∧ i ≤ f.hi)) with
    | some f => (match f.acc with
      | .rw | .rwl => bit w i
      | .w1c => bit (s.reg r) i && !bit w i
      | _ => bit (s.reg r) i)
    | none => bit (s.reg r) i

/-- The registers whose read has no operation of its own: neither a pop port nor a word computed from other state. -/
def Reg.readsStored : Reg → Bool
  | .QM_EVT | .GLV_EVT | .HLTH_EVT | .LN_MSG_RX _ | .HOST_MBX_DATA | .QM_STS | .QM_OCC | .GLV_CTL | .GLV_STS | .GLV_TSEL | .GLV_TW _
  | .GLV_LAST | .GLV_STATE | .LN_PRBS_ERR _ | .LN_MSG_RXS _ | .EXPK_STS _ | .BEAT_FMIN_SCHED | .HOST_I3C | .HOST_MBX_STS | .HELM_STS
  | .HELM_ARB | .HELM_OTP _ | .DBG_LEVEL | .DBG_ESTS _ | .HLTH_STS | .HLTH_SWDT => false
  | _ => true

/-- The word w that a read of register r returns, and what the read leaves (R8, R9): WO fields and reserved bits read as 0, RC fields
are cleared, and nothing else changes. -/
def State.ReadAsTyped (s t : State) (r : Reg) (w : Word) : Prop :=
  s.onlyRegs t (· = r) ∧ ∀ i, i < 36 →
    match r.fields.find? (fun f => decide (f.lo ≤ i ∧ i ≤ f.hi)) with
    | some f => bit w i = (f.acc != .wo && bit (s.reg r) i) ∧ bit (t.reg r) i = (f.acc != .rc && bit (s.reg r) i)
    | none => bit w i = false ∧ bit (t.reg r) i = bit (s.reg r) i

/-- Helm after a reset (R499, Table 1.4): the OTP is kept, but for the words of an interrupted program; the rest is at reset. -/
def State.HelmIsReset (s t : State) : Prop :=
  { t.helm with otp := s.helm.otp } = { Helm.reset with otp := s.helm.otp, otpBad := s.helm.otpBad } ∧
  ∀ w, (∀ p, s.helm.prog = some p → w ∉ jobWords p.1) → t.otpWord w = s.otpWord w

/-- The device reset domain is at reset (R25, R26, R402, R407, R408): every register but those of the always-on domain, every memory
and table, the sequencer but for the items of R402 as `q` holds them. The debug domain, the OTP and the waiting commands are
kept; an in-band interrupt STATE is pending where interrupts are enabled and STATE was not POWERUP. -/
structure State.DeviceIsReset (s t : State) (q : Seq) : Prop where
  regs : ∀ r : Reg, t.reg r = if Reg.alwaysOn r.key = true then s.reg r else r.reset
  tables : { t with regs := [], seq := Seq.reset, helm := Helm.reset, dbg := Dbg.reset, pins := Pins.reset, fresh := 0, pending := [] } = State.reset
  seq : t.seq = { Seq.reset with
    da := q.da, ibiEn := q.ibiEn, mwl := q.mwl, mrl := q.mrl, rstact := q.rstact
    ibis := if s.devState ≠ 0 ∧ q.ibiEn = true then [4] else [] }
  helm : s.HelmIsReset t
  kept : t.dbg = s.dbg ∧ t.pending = s.pending ∧ s.fresh ≤ t.fresh

/-- The canonical form of memory: keys rise and no listed word equals what an unlisted one reads as. -/
abbrev State.memWf (s : State) : Prop := SMap.wf (memDflt s.undef) s.mem = true

/-- Every table of the state is in canonical form, so that equal contents are equal data. -/
structure Canonical (s : State) : Prop where
  mem : s.memWf
  regs : SMap.wf Reg.dflt s.regs = true
  undef : SMap.wf (fun _ => 0) s.undef = true
  eccSoft : SMap.wf (fun _ => false) s.eccSoft = true
  eccBad : SMap.wf (fun _ => false) s.eccBad = true
  eng : SMap.wf (fun _ => Engine.reset) s.eng = true
  sec : SMap.wf (fun _ => Section.reset) s.sec = true
  dma : SMap.wf (fun _ => DmaCtx.reset) s.dma = true
  chan : SMap.wf (fun _ => Chan.reset) s.chan = true
  queue : SMap.wf (fun _ => Queue.reset) s.queue = true
  lane : SMap.wf (fun _ => Lane.reset) s.lane = true
  svc : SMap.wf (fun _ => Svc.reset) s.svc = true
  cku : SMap.wf (fun _ => Cku.reset) s.cku = true

/-- The device is in FAULT, or in SAFE entered from FAULT (R412). -/
def State.inFault (s : State) : Prop := s.devState = 7 ∨ (s.devState = 6 ∧ s.getF .HOST_STATE F.HOST_STATE_PREV = 7)

/-- GLV_CTL.LOCK is set (R129). -/
def State.glvLocked (s : State) : Prop := s.getB .GLV_CTL F.GLV_CTL_LOCK = true

/-- The commands that can carry out a device reset (Table 1.4, R25, R408, R480, R522): the resets of the pins and of the always-on
domain, THERMTRIP_N, the loss of REFCLK_SYS, the end of the delay of RESET, and the I3C target reset. -/
def mayResetDevice : Instr → Bool
  | .deviceResetDelayEnd | .aonPowerOn | .resetNLow | .pgoodLow | .refclkSysLoss | .thermtrip | .targetResetPattern => true
  | _ => false

end Sys2Proof.Machine
end

