-- ==== Sys2Proof/Certificates/Slice0/Obligations.lean ====
section
/-! DEFINITION. The statements about the model, for the provers. -/

open Sys2Proof Sys2Proof.Machine

/-- A step is exec of the command at the front of the queue on the state with the rest of the queue, and idles on an empty one: the model's choice (notes/assumptions/1.md). -/
def Obligations.StepRunsTheFrontCommandOrIdles : Prop :=
  (∀ (c : Instr) (cs : List Instr) (s : State), step { s with pending := c :: cs } = exec c { s with pending := cs }) ∧
  (∀ s : State, s.pending = [] → step s = .next s)

/-- exec answers a next state for every command (no command faults or is refused: notes/assumptions/10.md), works on everything but the queue, and the counter of free values (notes/assumptions/4.md) never falls. -/
def Obligations.NoCommandTouchesTheQueue : Prop :=
  ∀ (c : Instr) (s : State), ∃ t, exec c s = .next t ∧ t.pending = s.pending ∧ s.fresh ≤ t.fresh

/-- The state after reset has every table in canonical form (notes/assumptions/3.md). -/
def Obligations.ResetTablesAreCanonical : Prop :=
  Canonical State.reset

/-- The canonical form of memory and of every table is an invariant of every step, from every state (notes/assumptions/3.md). -/
def Obligations.StepsKeepEveryTableCanonical : Prop :=
  ∀ s t : State, Canonical s → step s = .next t → Canonical t

/-- R412: the device leaves FAULT, or SAFE entered from FAULT, by a device reset alone. -/
def Obligations.FaultLastsUntilDeviceReset : Prop :=
  ∀ (c : Instr) (cs : List Instr) (s : State), s.pending = c :: cs → s.inFault → mayResetDevice c = false →
    ∃ t, step s = .next t ∧ t.inFault

/-- R129, its sentence on LOCK: only a device reset clears it. -/
def Obligations.GloveLockLastsUntilDeviceReset : Prop :=
  ∀ (c : Instr) (cs : List Instr) (s : State), s.pending = c :: cs → s.glvLocked → mayResetDevice c = false →
    ∃ t, step s = .next t ∧ t.glvLocked

/-- R194 and R195: the twenty commands of alu0 and alu1. o is the operand port, n the shift amount t[5:0]. R196 to R198: the eight commands of bfu. o and o2 are the operand ports; a field specification w has POS w[5:0] and LEN w[11:6]. -/
def Obligations.AluAndBitFieldCommandsFollowTheirTables : Prop :=
  (∀ (e : EngId) (u : Fin 2) (t : Word) (s : State),
    let o := (s.engine e).port (0x040 + 0x20 * u)
    let n := t.toNat % 64
    let gives := fun (c : Instr) (v : Word) => exec c s = .next (s.withResult e (uAlu0 + u) (0x041 + 0x20 * u) v)
    let truth := fun (p : Bool) => if p then (1 : Word) else 0
    gives (.add e u t) (o + t) ∧ gives (.sub e u t) (o - t) ∧
    gives (.and e u t) (o &&& t) ∧ gives (.or e u t) (o ||| t) ∧ gives (.xor e u t) (o ^^^ t) ∧ gives (.andn e u t) (o &&& ~~~ t) ∧
    gives (.shl e u t) (if 36 ≤ n then 0 else o <<< n) ∧
    gives (.shr e u t) (if 36 ≤ n then 0 else o >>> n) ∧
    gives (.sar e u t) (if 36 ≤ n then (if o.msb then 0xFFFFFFFFF#36 else 0) else o.sshiftRight n) ∧
    gives (.rol e u t) (o.rotateLeft (n % 36)) ∧
    gives (.min e u t) (if o.toInt ≤ t.toInt then o else t) ∧ gives (.max e u t) (if o.toInt ≤ t.toInt then t else o) ∧
    gives (.minu e u t) (if o.toNat ≤ t.toNat then o else t) ∧ gives (.maxu e u t) (if o.toNat ≤ t.toNat then t else o) ∧
    gives (.ceq e u t) (truth (o = t)) ∧ gives (.cne e u t) (truth (o ≠ t)) ∧
    gives (.clt e u t) (truth (o.toInt < t.toInt)) ∧ gives (.cltu e u t) (truth (o.toNat < t.toNat)) ∧
    gives (.cle e u t) (truth (o.toInt ≤ t.toInt)) ∧ gives (.cleu e u t) (truth (o.toNat ≤ t.toNat))) ∧
  (∀ (e : EngId) (t : Word) (s : State),
    let o := (s.engine e).port 0x080
    let o2 := (s.engine e).port 0x081
    let pos := fun (w : Word) => w.toNat % 64
    let len := fun (w : Word) => if 36 ≤ pos w then 0 else min (w.toNat / 64 % 64) (36 - pos w)
    let field := fun (x w : Word) => x.toNat / 2 ^ pos w % 2 ^ len w
    let gives := fun (c : Instr) (P : Word → Prop) => ∃ v, exec c s = .next (s.withResult e uBfu 0x084 v) ∧ P v
    gives (.extu e t) (fun v => v.toNat = field o t) ∧
    gives (.ext e t) (fun v => v.toInt =
      if len t = 0 then 0 else if field o t < 2 ^ (len t - 1) then (field o t : Int) else (field o t : Int) - 2 ^ len t) ∧
    gives (.ins e t) (fun v => ∀ i < 36, v.getLsbD i =
      if pos o2 ≤ i ∧ i < pos o2 + len o2 then t.getLsbD (i - pos o2) else o.getLsbD i) ∧
    gives (.clz e t) (fun v => if t = 0 then v = 36 else v.toNat < 36 ∧ 2 ^ (35 - v.toNat) ≤ t.toNat ∧ t.toNat < 2 ^ (36 - v.toNat)) ∧
    gives (.ctz e t) (fun v => if t = 0 then v = 36 else t.getLsbD v.toNat = true ∧ ∀ i < v.toNat, t.getLsbD i = false) ∧
    gives (.popc e t) (fun v => v.toNat = (List.range 36).countP (fun i => t.getLsbD i)) ∧
    gives (.perm e t) (fun v => ∀ j < 4,
      let src := byteOf o (t.toNat / 2 ^ (4 * j) % 4)
      byteOf v j = match t.toNat / 2 ^ (4 * j + 2) % 4 with
        | 0 => src | 1 => 0 | 2 => (if src.msb then 0x1FF else 0) | _ => 0x1FF) ∧
    gives (.swh e t) (fun v => v.toNat = t.toNat % 2 ^ 18 * 2 ^ 18 + t.toNat / 2 ^ 18))

/-- R199, Table 7.4: the results of the five commands of mul. R203 to R205: the seven commands of mac on accumulator k; a is ACCk, p the signed product. -/
def Obligations.MultiplierAndAccumulatorCommandsFollowTheirTables : Prop :=
  (∀ (e : EngId) (t : Word) (s : State),
    let o := (s.engine e).port 0x0A0
    let gives := fun (c : Instr) (P : Word → Prop) => ∃ v, exec c s = .next (s.withResult e uMul 0x0A4 v) ∧ P v
    gives (.mul e t) (fun v => v.toNat = o.toNat * t.toNat % 2 ^ 36 ∧ v = BitVec.ofInt 36 (o.toInt * t.toInt)) ∧
    gives (.mulh e t) (fun v => v.toInt = o.toInt * t.toInt / 2 ^ 36) ∧
    gives (.mulhu e t) (fun v => v.toNat = o.toNat * t.toNat / 2 ^ 36) ∧
    gives (.mul12 e t) (fun v => v.toInt = (o.setWidth 12).toInt * (t.setWidth 12).toInt) ∧
    gives (.mul24 e t) (fun v => v = BitVec.ofInt 36 ((o.setWidth 24).toInt * (t.setWidth 24).toInt))) ∧
  (∀ (e : EngId) (k : Fin 4) (t : Word) (s : State),
    let x := s.engine e
    let o := x.port 0x100
    let a := x.accOf k
    let p := BitVec.ofInt 80 (o.toInt * t.toInt)
    let sets := fun (c : Instr) (v : BitVec 80) => exec c s = .next (s.withEngineAfter e (x.setAcc k v))
    let gives := fun (c : Instr) (P : Word → Prop) => ∃ v, exec c s = .next (s.withResult e uMac 0x104 v) ∧ P v
    let illegal := fun (c : Instr) => exec c s = .next (s.faultEntry e 0x01 0 x.pc false)
    let part := t.toNat % 4
    let sh := t.toNat % 64
    let rnd := t.toNat / 64 % 4
    sets (.macMul e k t) p ∧ sets (.macMac e k t) (a + p) ∧ sets (.macMsub e k t) (a - p) ∧ sets (.macClr e k t) 0 ∧
    (part ≠ 3 → ∃ v, sets (.macPut e k t) v ∧ ∀ i < 80, v.getLsbD i =
      if 36 * part ≤ i ∧ i < 36 * part + 36 then o.getLsbD (i - 36 * part) else a.getLsbD i) ∧
    (part ≠ 3 → gives (.macGet e k t) (fun v => v.toNat = a.toNat / 2 ^ (36 * part) % 2 ^ 36)) ∧
    (rnd ≠ 3 → gives (.macRd e k t) (fun v => ∃ q : Int,
      (rnd = 0 → q * 2 ^ sh ≤ a.toInt ∧ a.toInt < (q + 1) * 2 ^ sh) ∧
      (rnd ≠ 0 → (2 * (a.toInt - q * 2 ^ sh)).natAbs ≤ 2 ^ sh ∧
        (sh ≠ 0 → (2 * (a.toInt - q * 2 ^ sh)).natAbs = 2 ^ sh →
          if rnd = 1 then q % 2 = 0 else (0 ≤ a.toInt → a.toInt < q * 2 ^ sh) ∧ (a.toInt < 0 → q * 2 ^ sh < a.toInt))) ∧
      v = BitVec.ofInt 36 (if t.getLsbD 8 then max (-2 ^ 35) (min (2 ^ 35 - 1) q) else q))) ∧
    (part = 3 → illegal (.macGet e k t) ∧ illegal (.macPut e k t)) ∧
    (rnd = 3 → illegal (.macRd e k t)))

/-- R200 and R202: what a division delivers, as its operation in progress holds it (R144); divBusy and divRelease tell a division in progress that ends by the cycle of arrival. R201: its precise faults. R141, R144: the end of a division. -/
def Obligations.DivisionsDeliverTheExactQuotientOrFault : Prop :=
  ((∀ (e : EngId) (t : Word) (s : State),
    let x := s.engine e
    let o := x.port 0x0C0
    let starts := fun (c : Instr) (P : Word → Prop) => ∃ l : LongOp,
      exec c s = .next (s.withEngineAfter e { x.divRelease with divOp := some l }) ∧ l.pc = x.pc ∧ l.trig = x.cyc ∧ l.due = x.cyc + 20 ∧ P l.res
    let held := fun (c : Instr) (k : Nat) => exec c s = .next ((s.setEngine e { x with
      held := x.held ++ [{ socket := k, a := o, t := t, ctl := x.csrW e 0x050, pc := x.pc, branch := x.branch }] }).waitBegin e)
    t ≠ 0 → (¬ (o = 0x800000000#36 ∧ t = 0xFFFFFFFFF#36 ∧ (x.csrW e 0).getLsbD 0 = true) → x.divBusy = true → held (.div e t) 0x0D0) ∧
    (x.divBusy = true → held (.divu e t) 0x0D1 ∧ held (.rem e t) 0x0D2 ∧ held (.remu e t) 0x0D3) ∧
    (x.divBusy = false →
    (¬ (o = 0x800000000#36 ∧ t = 0xFFFFFFFFF#36 ∧ (x.csrW e 0).getLsbD 0 = true) → starts (.div e t) (fun q =>
      if o = 0x800000000#36 ∧ t = 0xFFFFFFFFF#36 then q = 0x800000000#36
      else ∃ r : Int, o.toInt = q.toInt * t.toInt + r ∧ r.natAbs < t.toInt.natAbs ∧ (r = 0 ∨ (r < 0 ↔ o.toInt < 0)))) ∧
    starts (.rem e t) (fun r =>
      if o = 0x800000000#36 ∧ t = 0xFFFFFFFFF#36 then r = 0
      else ∃ q : Int, o.toInt = q * t.toInt + r.toInt ∧ r.toInt.natAbs < t.toInt.natAbs ∧ (r.toInt = 0 ∨ (r.toInt < 0 ↔ o.toInt < 0))) ∧
    starts (.divu e t) (fun q => ∃ r : Nat, o.toNat = q.toNat * t.toNat + r ∧ r < t.toNat) ∧
    starts (.remu e t) (fun r => ∃ q : Nat, o.toNat = q * t.toNat + r.toNat ∧ r.toNat < t.toNat))) ∧
  (∀ (e : EngId) (t : Word) (s : State),
    (t = 0 → exec (.div e t) s = .next (s.faultEntry e 0x05 0 (s.engine e).pc false) ∧
      exec (.divu e t) s = .next (s.faultEntry e 0x05 0 (s.engine e).pc false) ∧
      exec (.rem e t) s = .next (s.faultEntry e 0x05 0 (s.engine e).pc false) ∧
      exec (.remu e t) s = .next (s.faultEntry e 0x05 0 (s.engine e).pc false)) ∧
    ((s.engine e).port 0x0C0 = 0x800000000#36 → t = 0xFFFFFFFFF#36 → ((s.engine e).csrW e 0).getLsbD 0 = true →
      exec (.div e t) s = .next (s.faultEntry e 0x06 0 (s.engine e).pc false)))) ∧
  (∀ (e : EngId) (s : State),
    let x := s.engine e
    let runs := s.unitRuns e (fun x => x.awaitsLong 0x0D0 0x0D3)
    (x.divOp = none ∨ runs = false → exec (.divComplete e) s = .next s) ∧
    (∀ l : LongOp, x.divOp = some l → runs = true → ∃ y : Engine, exec (.divComplete e) s = .next (s.setEngine e y) ∧
      y.result 0x0C4 = l.res ∧ (∀ k, k ≠ 0x0C4 → y.result k = x.result k) ∧
      { y with res := x.res, done := x.done, divOp := x.divOp, held := x.held } = x ∧
      ((∀ h ∈ x.held, ¬ (0x0D0 ≤ h.socket ∧ h.socket ≤ 0x0D3)) → y.divOp = none ∧ y.held = x.held) ∧
      (∀ h, x.held = [h] → 0x0D0 ≤ h.socket → h.socket ≤ 0x0D3 →
        y.held = [] ∧ ∃ l', y.divOp = some l' ∧ l'.pc = h.pc ∧ l'.due = x.cyc + 19 ∧ l'.res = divFn (h.socket - 0x0D0) h.a h.t)))

/-- R225, R227, R237 to R239: the short commands of the fpu. ctl is FPCTL as it stands when the trigger arrives. -/
def Obligations.ShortFloatCommandsDeliverAndRaiseFlags : Prop :=
  ∀ (e : EngId) (t : Word) (s : State),
    let x := s.engine e
    let ctl := x.csrW e 0x050
    let rm := ctl.toNat % 4
    let a := x.port 0x140
    let b := x.port 0x141
    let does := fun (c : Instr) (r : FpRes) =>
      if r.opExc ∧ r.flags &&& trapEnables ctl &&& 24 ≠ 0 then exec c s = .next (s.takeTrap e (.fp false r.flags) x.pc false)
      else ∃ y : Engine, exec c s = .next (s.withEngineAfter e y) ∧ y.result 0x144 = r.res ∧ (∀ k, k ≠ 0x144 → y.result k = x.result k) ∧
        y.csrW e 0x051 = x.csrW e 0x051 ||| BitVec.ofNat 36 (r.flags % 32) ∧ (∀ k, k ≠ 0x051 → y.csrW e k = x.csrW e k) ∧
        (r.flags &&& trapEnables ctl = 0 → y.fpShort = x.fpShort) ∧
        (r.flags &&& trapEnables ctl ≠ 0 → y.fpShort = match x.fpShort with
          | none => some (x.pc, r.flags) | some (p, fl) => some (p, fl ||| r.flags)) ∧
        { y with res := x.res, done := x.done, csr := x.csr, fpShort := x.fpShort } = x
    does (.fabs e t) (fpAbs t) ∧ does (.fneg e t) (fpNeg t) ∧ does (.fmin e t) (fpMinMax false a t) ∧ does (.fmax e t) (fpMinMax true a t) ∧
    does (.fcmp e t) (fpCmp a t) ∧ does (.fadd e t) (fpAdd rm a t) ∧ does (.fsub e t) (fpSub rm a t) ∧ does (.fmul e t) (fpMul rm a t) ∧
    does (.fma e t) (fpFma rm a b t) ∧ does (.i2f e t) (fpI2f rm t) ∧ does (.u2f e t) (fpU2f rm t) ∧ does (.f2i e t) (fpF2i rm t) ∧
    does (.f2u e t) (fpF2u rm t) ∧ does (.w2f e t) (fpW2f t) ∧ does (.f2w e t) (fpF2w rm t) ∧ does (.h2f e t) (fpH2f t) ∧
    does (.f2h e t) (fpF2h rm t)

/-- R231: fabs and fneg. R233, Table 8.5: the word that fcmp returns and the flag it raises. R232, R234 to R236 and R242: extrema, conversions and the edge results. -/
def Obligations.SignsComparisonsAndConversionsFollowTheirRules : Prop :=
  ((∀ (e : EngId) (t : Word) (s : State),
    let gives := fun (c : Instr) (sign : Bool) => ∃ v, exec c s = .next (s.withResult e uFpu 0x144 v) ∧
      v.getLsbD 35 = sign ∧ ∀ i < 35, v.getLsbD i = t.getLsbD i
    gives (.fabs e t) false ∧ gives (.fneg e t) (!t.getLsbD 35)) ∧
  (∀ a b : Word,
    let nan := fun (w : Word) => w.toNat / 2 ^ 26 % 512 = 511 ∧ w.toNat % 2 ^ 26 ≠ 0
    let key := fun (w : Word) => if w.getLsbD 35 then -((w.toNat % 2 ^ 35 : Nat) : Int) else ((w.toNat % 2 ^ 35 : Nat) : Int)
    (fpCmp a b).res =
      (if nan a ∨ nan b then 8 else if key b < key a then 4 else if key a = key b then 2 else (1 : Word)) ∧
    (fpCmp a b).flags = (if (nan a ∧ a.getLsbD 25 = false) ∨ (nan b ∧ b.getLsbD 25 = false) then 16 else 0))) ∧
  (∀ (rm : Nat) (a b : Word), rm < 4 →
    let exact := fun (w : Word) (r : FpRes) => r = { res := w, flags := 0, opExc := false }
    let iv := fun (p : Bool) => if p then 16 else 0
    let key := fun (w : Word) => if w.getLsbD 35 then -((w.toNat % 2 ^ 35 : Nat) : Int) else ((w.toNat % 2 ^ 35 : Nat) : Int)
    let less := fun (x y : Word) => key x < key y ∨ (key x = key y ∧ x.getLsbD 35 = true ∧ y.getLsbD 35 = false)
    let extremum := fun (r : FpRes) (P : Word → Prop) =>
      if isNaN a ∧ isNaN b then NaNResult [a, b] r
      else r.flags = iv (isSNaN a || isSNaN b) ∧ r.opExc = (isSNaN a || isSNaN b) ∧
        if isNaN a then r.res = b else if isNaN b then r.res = a else P r.res
    let integer := fun (r : FpRes) (lo hi : Int) => match fpVal b with
      | .nan => r = { res := BitVec.ofInt 36 hi, flags := 16, opExc := true }
      | .inf s => r = { res := BitVec.ofInt 36 (if s then lo else hi), flags := 16, opExc := false }
      | .fin s m e => ∃ n : Nat, Picks rm s (ratCmp m 1 e) 0 n ∧
        let v : Int := if s then -(n : Int) else (n : Int)
        r = if v < lo then { res := BitVec.ofInt 36 lo, flags := 16, opExc := false }
          else if hi < v then { res := BitVec.ofInt 36 hi, flags := 16, opExc := false }
          else { res := BitVec.ofInt 36 v, flags := if ratCmp m 1 e n 0 = .eq then 0 else 1, opExc := false }
    let rounded := fun (s : Bool) (v : Nat → Int → Ordering) (r : FpRes) => r.opExc = false ∧
      ∃ w, r.res = BitVec.ofNat 36 w ∧ Rounds fmt36 rm s v w r.flags
    let widens := fun (r : FpRes) (s : Bool) (E f : Nat) (sig top : Nat) (qmin : Int) =>
      let sw := if s then 2 ^ 35 else 0
      if E = top then (if f = 0 then exact (BitVec.ofNat 36 (sw + 511 * 2 ^ 26)) r
        else r = { res := BitVec.ofNat 36 (sw + 511 * 2 ^ 26 + f * 2 ^ (26 - sig)) ||| 0x002000000#36,
                   flags := iv (decide (f < 2 ^ (sig - 1))), opExc := decide (f < 2 ^ (sig - 1)) })
      else
        let m := if E = 0 then f else 2 ^ sig + f
        let x := if E = 0 then qmin else qmin + E - 1
        r.flags = 0 ∧ r.opExc = false ∧
          ∃ m' x', fpVal r.res = .fin s m' x' ∧ (if m = 0 then m' = 0 else ratCmp m 1 x m' x' = .eq)
    let narrows := fun (r : FpRes) (fm : FpFormat) (sig : Nat) =>
      let s := b.getLsbD 35
      let sw := if s then (fm.emax + 1) * 2 ^ sig else 0
      match fpVal b with
      | .nan => r = { res := BitVec.ofNat 36 (sw + fm.emax * 2 ^ sig + b.toNat % 2 ^ 26 / 2 ^ (26 - sig)) ||| BitVec.ofNat 36 (2 ^ (sig - 1)),
                      flags := iv (isSNaN b), opExc := isSNaN b }
      | .inf _ => exact (BitVec.ofNat 36 (sw + fm.emax * 2 ^ sig)) r
      | .fin _ m e => if m = 0 then exact (BitVec.ofNat 36 sw) r
        else r.opExc = false ∧ ∃ w, r.res = BitVec.ofNat 36 w ∧ Rounds fm rm s (ratCmp m 1 e) w r.flags
    extremum (fpMinMax false a b) (fun w => (less b a → w = b) ∧ (¬ less b a → w = a)) ∧
    extremum (fpMinMax true a b) (fun w => (less a b → w = b) ∧ (¬ less a b → w = a)) ∧
    (if b = 0 then exact 0 (fpI2f rm b) ∧ exact 0 (fpU2f rm b)
      else rounded (decide (b.toInt < 0)) (ratCmp b.toInt.natAbs 1 0) (fpI2f rm b) ∧ (fpI2f rm b).flags ≤ 1 ∧
        rounded false (ratCmp b.toNat 1 0) (fpU2f rm b) ∧ (fpU2f rm b).flags ≤ 1) ∧
    integer (fpF2i rm b) (-2 ^ 35) (2 ^ 35 - 1) ∧ integer (fpF2u rm b) 0 (2 ^ 36 - 1) ∧
    widens (fpW2f b) (b.getLsbD 31) (b.toNat / 2 ^ 23 % 256) (b.toNat % 2 ^ 23) 23 255 (-149) ∧
    widens (fpH2f b) (b.getLsbD 15) (b.toNat / 2 ^ 10 % 32) (b.toNat % 2 ^ 10) 10 31 (-24) ∧
    narrows (fpF2w rm b) fmt32 23 ∧ narrows (fpF2h rm b) fmt16 10 ∧
    (∀ row ∈ edgeResults, some ((row.1 rm).res, (row.1 rm).flags) = row.2[rm]?))

/-- R144, R225, R227, R240: the triggers of fdiv and fsqrt. R240, R237: the end of fdiv or fsqrt. R239, R256: the boundary at which a pending short FP fault is taken (a fence that is awaited defers it: notes/assumptions/50.md); FPSTS is CSR 0x051, LAST its bits 12:8, LONG its bit 16. -/
def Obligations.DivisionAndRootStartCompleteAndFault : Prop :=
  (∀ (e : EngId) (t : Word) (s : State),
    let x := s.engine e
    let ctl := x.csrW e 0x050
    let does := fun (c : Instr) (k lat : Nat) (r : FpRes) =>
      if r.opExc = true ∧ r.flags &&& trapEnables ctl &&& 24 ≠ 0 then exec c s = .next (s.takeTrap e (.fp true r.flags) x.pc false)
      else if x.fpLong.isSome then exec c s = .next (s.takeTrap e .fpLong x.pc false)
      else if x.fplBusy ∨ x.fplRaises then exec c s = .next ((s.setEngine e { x with
        held := x.held ++ [{ socket := k, a := x.port 0x140, t := t, ctl := ctl, pc := x.pc, branch := x.branch }] }).waitBegin e)
      else exec c s = .next (s.withEngineAfter e { x.fplRelease with
        fplOp := some { res := r.res, flags := r.flags, enabled := trapEnables ctl, pc := x.pc, trig := x.cyc, due := x.cyc + 1 + lat } })
    does (.fdiv e t) 0x159 14 (fpDiv (ctl.toNat % 4) (x.port 0x140) t) ∧ does (.fsqrt e t) 0x15A 16 (fpSqrt (ctl.toNat % 4) t)) ∧
  ((∀ (e : EngId) (s : State) (l : LongOp),
    let x := s.engine e
    x.fplOp = some l → s.unitRuns e (fun x => x.awaitsLong 0x159 0x15A) = true →
    (∀ h, x.held = [h] → 0x159 ≤ h.socket → h.socket ≤ 0x15A → x.fpLong = none → l.flags &&& l.enabled = 0 →
      ∃ y : Engine, exec (.fpLongComplete e) s = .next (s.setEngine e y) ∧ y.result 0x145 = l.res ∧ y.held = [] ∧
        let r := if h.socket = 0x159 then fpDiv (h.ctl.toNat % 4) h.a h.t else fpSqrt (h.ctl.toNat % 4) h.t
        y.fplOp = some { res := r.res, flags := r.flags, enabled := trapEnables h.ctl, pc := h.pc, trig := x.cyc, due := x.cyc + (if h.socket = 0x159 then 14 else 16) }) ∧
    ((∀ h ∈ x.held, ¬ (0x159 ≤ h.socket ∧ h.socket ≤ 0x15A)) → ∃ y : Engine, exec (.fpLongComplete e) s = .next (s.setEngine e y) ∧ y.result 0x145 = l.res ∧
      (∀ k, k ≠ 0x145 → y.result k = x.result k) ∧ y.fplOp = none ∧ (∀ k, k ≠ 0x051 → y.csrW e k = x.csrW e k) ∧
      (l.flags &&& l.enabled = 0 → y.csrW e 0x051 = x.csrW e 0x051 ||| BitVec.ofNat 36 (l.flags % 32) ∧ y.fpLong = x.fpLong) ∧
      (l.flags &&& l.enabled ≠ 0 → y.fpLong = some (l.pc, l.flags) ∧
        ∀ i < 36, (y.csrW e 0x051).getLsbD i =
          (decide (i = 17) || (x.csrW e 0x051).getLsbD i || (BitVec.ofNat 36 (l.flags % 32)).getLsbD i)) ∧
      { y with res := x.res, done := x.done, fplOp := x.fplOp, csr := x.csr, fpLong := x.fpLong } = x)) ∧
  (∀ (e : EngId) (s : State),
    let b := s.atBoundary e
    let x := b.engine e
    (s.mayRun e = false ∨ b.haltFirst e = true ∨ b.preciseFault e = true ∨ x.fpShort = none ∨ x.branch ≠ none ∨ x.fence ≠ none →
      exec (.fpShortFault e) s = .next s) ∧
    (∀ pc fl, s.mayRun e = true → b.haltFirst e = false → b.preciseFault e = false →
      x.fpShort = some (pc, fl) → x.branch = none → x.fence = none → ∃ y : Engine,
      exec (.fpShortFault e) s = .next ((b.setEngine e y).faultEntry e 0x07 pc x.pc x.efWait) ∧ y.fpShort = none ∧
      fld (y.csrW e 0x051) 12 8 = fl % 32 ∧ bit (y.csrW e 0x051) 16 = false ∧ fld (y.csrW e 0x051) 7 0 = fld (x.csrW e 0x051) 7 0 ∧
      (∀ k, k ≠ 0x051 → y.csrW e k = x.csrW e k) ∧ { y with fpShort := x.fpShort, csr := x.csr } = x)))

/-- R223 to R230: the six rounded operations, against comparisons with the exact value (Rounds) and not against the functions that compute them. R227: the four rounding modes (0 nearest-even, 1 toward zero, 2 toward +Inf, 3 toward -Inf) at the shared rounding step. R223, R226, R228: exact results, subnormal ones included, are delivered as they are. -/
def Obligations.FloatArithmeticIsCorrectlyRounded : Prop :=
  (∀ (rm : Nat) (a b c : Word), rm < 4 →
    let inf := fun (s : Bool) => if s then 0xFFC000000#36 else 0x7FC000000#36
    let zero := fun (s : Bool) => if s then 0x800000000#36 else 0x000000000#36
    let exact := fun (w : Word) (r : FpRes) => r = { res := w, flags := 0, opExc := false }
    let invalid := fun (r : FpRes) => r = { res := 0x7FE000000#36, flags := 16, opExc := true }
    let rounded := fun (s : Bool) (v : Nat → Int → Ordering) (r : FpRes) => r.opExc = false ∧
      ∃ w, r.res = BitVec.ofNat 36 w ∧ Rounds fmt36 rm s v w r.flags
    let sum := fun (x y : FpVal) (r : FpRes) => match x, y with
      | .inf s, .inf t => if s = t then exact (inf s) r else invalid r
      | .inf s, .fin _ _ _ => exact (inf s) r
      | .fin _ _ _, .inf t => exact (inf t) r
      | .fin s m e, .fin t n f =>
        let q := min e f
        let v : Int := (if s then -1 else 1) * (m * 2 ^ (e - q).toNat : Nat) + (if t then -1 else 1) * (n * 2 ^ (f - q).toNat : Nat)
        if v = 0 then exact (if m = 0 ∧ s = t then zero s else zero (rm == 3)) r
        else rounded (decide (v < 0)) (ratCmp v.natAbs 1 q) r
      | _, _ => False
    (∀ w : Word, let E : Nat := w.toNat / 2 ^ 26 % 512
      let f := w.toNat % 2 ^ 26
      let s := w.getLsbD 35
      fpVal w = if E = 0 then .fin s f (-280) else if E < 511 then .fin s (2 ^ 26 + f) ((E : Int) - 281)
        else if f = 0 then .inf s else .nan) ∧
    (if isNaN a || isNaN b then NaNResult [a, b] (fpAdd rm a b) ∧ NaNResult [a, b] (fpSub rm a b) ∧
        NaNResult [a, b] (fpMul rm a b) ∧ NaNResult [a, b] (fpDiv rm a b)
      else sum (fpVal a) (fpVal b) (fpAdd rm a b) ∧ sum (fpVal a) (fpVal (b ^^^ 0x800000000#36)) (fpSub rm a b) ∧
        (match fpVal a, fpVal b with
         | .inf s, .inf t => exact (inf (s != t)) (fpMul rm a b) ∧ invalid (fpDiv rm a b)
         | .inf s, .fin t n _ => (if n = 0 then invalid (fpMul rm a b) else exact (inf (s != t)) (fpMul rm a b)) ∧
            exact (inf (s != t)) (fpDiv rm a b)
         | .fin s m _, .inf t => (if m = 0 then invalid (fpMul rm a b) else exact (inf (s != t)) (fpMul rm a b)) ∧
            exact (zero (s != t)) (fpDiv rm a b)
         | .fin s m e, .fin t n f =>
            (if m * n = 0 then exact (zero (s != t)) (fpMul rm a b)
             else rounded (s != t) (ratCmp (m * n) 1 (e + f)) (fpMul rm a b)) ∧
            (if n = 0 then (if m = 0 then invalid (fpDiv rm a b)
                else fpDiv rm a b = { res := inf (s != t), flags := 8, opExc := true })
             else if m = 0 then exact (zero (s != t)) (fpDiv rm a b)
             else rounded (s != t) (ratCmp m n (e - f)) (fpDiv rm a b))
         | _, _ => False)) ∧
    (let r := fpFma rm a b c
     match fpVal a, fpVal b with
     | .inf s, .inf t => if isNaN c then NaNResult [c] r else sum (.inf (s != t)) (fpVal c) r
     | .inf s, .fin t n _ => if n = 0 then r = { res := if isNaN c then c ||| 0x002000000#36 else 0x7FE000000#36, flags := 16, opExc := true }
         else if isNaN c then NaNResult [c] r else sum (.inf (s != t)) (fpVal c) r
     | .fin s m _, .inf t => if m = 0 then r = { res := if isNaN c then c ||| 0x002000000#36 else 0x7FE000000#36, flags := 16, opExc := true }
         else if isNaN c then NaNResult [c] r else sum (.inf (s != t)) (fpVal c) r
     | .fin s m e, .fin t n f => if isNaN c then NaNResult [c] r else sum (.fin (s != t) (m * n) (e + f)) (fpVal c) r
     | _, _ => NaNResult [a, b, c] r) ∧
    (match fpVal a with
      | .nan => NaNResult [a] (fpSqrt rm a)
      | .inf s => if s then invalid (fpSqrt rm a) else exact a (fpSqrt rm a)
      | .fin s m e => if m = 0 then exact a (fpSqrt rm a) else if s then invalid (fpSqrt rm a)
        else rounded false (rootCmp m e) (fpSqrt rm a))) ∧
  ((∀ (m sh : Nat) (s : Bool),
    let n := fun (rm : Nat) => (roundAt rm s m 0 (sh : Int)).1
    (∀ rm, (roundAt rm s m 0 (sh : Int)).2 = decide (m % 2 ^ sh ≠ 0)) ∧
    n 1 = m / 2 ^ sh ∧
    n 2 = m / 2 ^ sh + (if m % 2 ^ sh ≠ 0 ∧ s = false then 1 else 0) ∧
    n 3 = m / 2 ^ sh + (if m % 2 ^ sh ≠ 0 ∧ s = true then 1 else 0) ∧
    2 * (n 0 * 2 ^ sh) ≤ 2 * m + 2 ^ sh ∧ 2 * m ≤ 2 * (n 0 * 2 ^ sh) + 2 ^ sh ∧
    (sh ≠ 0 → (2 * (n 0 * 2 ^ sh) = 2 * m + 2 ^ sh ∨ 2 * m = 2 * (n 0 * 2 ^ sh) + 2 ^ sh) → n 0 % 2 = 0)) ∧
  (∀ (rm : Nat) (w : Word) (sg : Bool) (m : Nat) (ex : Int), fpVal w = .fin sg m ex → m ≠ 0 →
    fpOf rm sg m ex = { res := w, flags := 0, opExc := false }))

/-- R160, R187, R272, R278 and R286: the load triggers. Engine.dLine is the data-cache line that holds an address; the place in another section (R312) is notes/assumptions/49.md. The post-increment reads A[AREG] as it stands when the trigger arrives. -/
def Obligations.LoadsEnterTheirUnitWithTheirForm : Prop :=
  ∀ (e : EngId) (u : Fin 2) (t : Word) (s : State),
    let x := s.engine e
    let loads := fun (c : Instr) (a : Word) (size : Nat) (signed : Bool) (inc : List (Nat × Word × Nat)) =>
      match s.accessRefused e a.toNat size false with
      | some (code, ea) => exec c s = .next (s.faultEntry e code ea x.pc)
      | none => ∃ (y : Engine) (l : Load),
          let cross := if l.fwd = none then crossSect e l.addr else none
          let s0 := match cross with | some m => s.setSect m { s.sect m with xqNo := (s.sect m).xqNo + 1 } | none => s
          let s1 := if x.loadHeld = false ∧ y.loadHeld = true then s0.waitBegin e else s0
          exec c s = .next (s1.withEngineAfter e y) ∧
          y.loadsOf u = x.loadsOf u ++ [l] ∧ y.loadsOf (1 - u) = x.loadsOf (1 - u) ∧
          l.addr = canonOf e a.toNat ∧ l.iss = a.toNat ∧ l.size = size ∧ l.signed = signed ∧ l.kind = 0 ∧
          l.pc = x.pc ∧ l.trig = x.cyc ∧ l.seq = x.seqNo ∧ l.ring = x.ring.toNat ∧ l.part1 = none ∧ (x.perf e = false → l.miss = false) ∧
          l.bad = none ∧ l.xq = (match cross with | some m => (s.sect m).xqNo | none => 0) ∧
          (match ((x.sb ++ x.sbWait).filter (fun b => overlaps b.addr b.bytes.length l.addr size)).getLast? with
           | some b => l.hit = false ∧ l.miss = false ∧
              if b.addr ≤ l.addr ∧ l.addr + size ≤ b.addr + b.bytes.length then
                ∃ bs, l.fwd = some bs ∧ bs.length = size ∧ ∀ j, j < size → bs[j]? = b.bytes[l.addr + j - b.addr]?
              else l.fwd = none
           | none =>
              if s.cacheable e a.toNat size = false then l.fwd = none ∧ l.hit = false ∧ l.miss = false
              else if ∀ j, j < size → (x.dLine (l.addr + j)).isSome = true then l.hit = true ∧ l.miss = false ∧ ∃ bs, l.fwd = some bs ∧ bs.length = size ∧
                ∀ j, j < size → bs[j]? = (x.dLine (l.addr + j)).map (fun c => byteOf (c.words.getD ((l.addr + j) % 32 / 4) 0) ((l.addr + j) % 4))
              else l.fwd = none ∧ l.hit = false ∧ l.miss = true) ∧
          (y.csrW e 0x147).toNat = (if l.miss = true ∧ x.halted = false then min ((x.csrW e 0x147).toNat + 1) (2 ^ 36 - 1) else (x.csrW e 0x147).toNat) ∧
          y.seqNo = x.seqNo + 1 ∧ y.aInc = x.aInc ++ inc ∧ (∀ k, k ≠ 0x147 → y.csrW e k = (s1.engine e).csrW e k) ∧
          { y with loads0 := x.loads0, loads1 := x.loads1, seqNo := x.seqNo, aInc := x.aInc, spadAcc := x.spadAcc, csr := x.csr } = x
    let r := t.toNat % 16
    let m := t.toNat / 16 % 32
    let a := (x.applyInc (x.cyc + 1)).aReg r
    let sum := a + ((t.extractLsb' 9 10).signExtend 36)
    let v := if m = 0 then sum else BitVec.ofNat 36 (a.toNat / 2 ^ m * 2 ^ m + sum.toNat % 2 ^ m)
    let both := fun (c p : Instr) (size : Nat) (signed : Bool) => loads c t size signed [] ∧
      if (1 ≤ m ∧ m ≤ 3) ∨ 17 ≤ m then exec p s = .next (s.faultEntry e 0x01 0 x.pc)
      else loads p a size signed [(r, v, x.cyc + 2)]
    both (.ld e u t) (.ldP e u t) 4 false ∧ both (.ldh e u t) (.ldhP e u t) 2 true ∧ both (.ldhu e u t) (.ldhuP e u t) 2 false ∧
    both (.ldb e u t) (.ldbP e u t) 1 true ∧ both (.ldbu e u t) (.ldbuP e u t) 1 false ∧ both (.ld2 e u t) (.ld2P e u t) 8 false

/-- R159, R166, R167, R187 and R278: the store triggers. `entries` are the parts in the order of their addresses. R2, R289, R396 and Table 10.3: the write that every store path ends in, byte by byte. -/
def Obligations.StoresEnterTheBufferAndWriteTheirBytesAlone : Prop :=
  (∀ (e : EngId) (u : Fin 2) (t : Word) (s : State),
    let x := s.engine e
    let o := x.port (0x180 + 0x40 * u)
    let o2 := x.port (0x181 + 0x40 * u)
    let r := t.toNat % 16
    let m := t.toNat / 16 % 32
    let a := (x.applyInc (x.cyc + 1)).aReg r
    let sum := a + ((t.extractLsb' 9 10).signExtend 36)
    let v := if m = 0 then sum else BitVec.ofNat 36 (a.toNat / 2 ^ m * 2 ^ m + sum.toNat % 2 ^ m)
    let stores := fun (c : Instr) (a : Word) (size : Nat) (inc : List (Nat × Word × Nat)) =>
      let bs := ([byteOf o 0, byteOf o 1, byteOf o 2, byteOf o 3, byteOf o2 0, byteOf o2 1, byteOf o2 2, byteOf o2 3] : List Byte9).take size
      let ca := canonOf e a.toNat
      let parts := if ca % 8 + size ≤ 8 then [(ca, bs)] else [(ca, bs.take (8 - ca % 8)), (ca + (8 - ca % 8), bs.drop (8 - ca % 8))]
      match s.accessRefused e a.toNat size true with
      | some (code, ea) => exec c s = .next (s.faultEntry e code ea x.pc)
      | none =>
        if ∃ j < size, s.isCode e (a.toNat + j) = true then
          ∃ y : Engine, exec c s = .next ((s.storeBytes ca bs).withEngineAfter e y) ∧ y.aInc = ((s.storeBytes ca bs).engine e).aInc ++ inc ∧
            (∀ k l, SMap.get (fun _ => none) y.icache k = some l ↔ SMap.get (fun _ => none) x.icache k = some l ∧ ¬ overlaps l.base 32 ca size) ∧
            (∀ k, SMap.get (fun _ => none) y.dcache k = (SMap.get (fun _ => none) x.dcache k).map (fun c => c.store ca bs)) ∧
            { y with aInc := x.aInc, spadAcc := x.spadAcc, icache := x.icache, dcache := x.dcache, resv := x.resv } = x
        else
          ∃ y : Engine,
            let s1 := if x.sbWait = [] ∧ y.sbWait ≠ [] then s.waitBegin e else s
            exec c s = .next (s1.withEngineAfter e y) ∧ y.aInc = x.aInc ++ inc ∧ y.csr = (s1.engine e).csr ∧
            (x.sb.length + parts.length ≤ 8 → x.sbWait = [] → y.sbWait = []) ∧
            (y.sb ++ y.sbWait).map (fun b => (b.addr, b.bytes)) = (x.sb ++ x.sbWait).map (fun b => (b.addr, b.bytes)) ++ parts ∧
            (∀ i, (x.sb ++ x.sbWait).length ≤ i → ∀ b, (y.sb ++ y.sbWait)[i]? = some b →
              b.seq = x.seqNo + (i - (x.sb ++ x.sbWait).length) ∧ b.post = s.isPost e a.toNat size ∧
              b.glob = decide (0xC0000 ≤ a.toNat) ∧ b.ring = x.ring.toNat ∧ b.split = decide (parts.length ≠ 1)) ∧
            y.seqNo = x.seqNo + parts.length ∧
            { y with sb := x.sb, sbWait := x.sbWait, seqNo := x.seqNo, aInc := x.aInc, spadAcc := x.spadAcc, csr := x.csr } = x
    let both := fun (c p : Instr) (size : Nat) => stores c t size [] ∧
      if (1 ≤ m ∧ m ≤ 3) ∨ 17 ≤ m then exec p s = .next (s.faultEntry e 0x01 0 x.pc)
      else stores p a size [(r, v, x.cyc + 2)]
    both (.st e u t) (.stP e u t) 4 ∧ both (.sth e u t) (.sthP e u t) 2 ∧ both (.stb e u t) (.stbP e u t) 1 ∧ both (.st2 e u t) (.st2P e u t) 8) ∧
  (∀ (s : State) (ca : Nat) (bs : List Byte9),
    let t := s.storeBytes ca bs
    (∀ a, ¬ (ca ≤ a ∧ a < ca + bs.length) → t.byte a = s.byte a) ∧
    (∀ a, ca ≤ a → a < ca + bs.length →
      if s.memHeld a ∨ (s.isBad a ∧ ¬ (ca ≤ a / 4 * 4 ∧ a / 4 * 4 + 4 ≤ ca + bs.length)) then t.byte a = s.byte a
      else some (t.byte a) = bs[a - ca]?) ∧
    (∀ r : Reg, (∀ k, r ≠ .SEC_ECC k) → t.reg r = s.reg r) ∧
    (∀ e, { t.engine e with resv := (s.engine e).resv } = s.engine e) ∧
    { t with regs := s.regs, mem := s.mem, eccSoft := s.eccSoft, eccBad := s.eccBad, eng := s.eng } = s)

/-- R161, R167, R212 to R216: the atomic triggers; the access is performed later (LOAD_COMPLETE) where an earlier store of the engine overlaps or the memory stands still (R18). The place in another section (R312) is notes/assumptions/49.md. -/
def Obligations.AtomicsActOnTheirWordAtOnce : Prop :=
  ∀ (e : EngId) (u : Fin 2) (a : Word) (s : State),
    let x := s.engine e
    let o := x.port (0x180 + 0x40 * u)
    let ca := canonOf e a.toNat
    let w := s.word ca
    let older := fun (q a : Nat) (bs : List Byte9) => decide (q < x.seqNo) && overlaps a bs.length ca 4
    let waits := (x.sb ++ x.sbWait).any (fun b => older b.seq b.addr b.bytes) || x.outStores.any (fun o => older o.seq o.addr o.bytes) ||
      (decide (e.val < 192) && (s.sect (e / 32)).posts.any (fun p => decide (p.eng = e) && older p.seq p.addr p.bytes)) || s.isBad ca || s.portHeld e ca
    let cross := if waits then crossSect e ca else none
    let s1 := match cross with | some m => s.setSect m { s.sect m with xqNo := (s.sect m).xqNo + 1 } | none => s
    let acts := fun (c : Instr) (kind : Nat) (need : Nat) (refusal : Option (Nat × Word)) (answer : Word) (after : State) (stores : Prop) =>
      if e.val ≠ 192 ∧ s.getF (.SEC_CFG (e / 32)) F.SEC_CFG_ATOMIC ≠ need then exec c s = .next (s.faultEntry e 0x01 0 x.pc)
      else if atomicRange e a.toNat = false then exec c s = .next (s.faultEntry e 0x03 a x.pc)
      else match refusal with
      | some (code, ea) => exec c s = .next (s.faultEntry e code ea x.pc)
      | none => ∃ l : Load,
          l.addr = ca ∧ l.iss = a.toNat ∧ l.size = 4 ∧ l.signed = false ∧ l.kind = kind ∧ l.data = o ∧ l.miss = false ∧ l.pc = x.pc ∧
          l.trig = x.cyc ∧ l.seq = x.seqNo ∧ l.fwd = (if waits then none else some [byteOf answer 0, byteOf answer 1, byteOf answer 2, byteOf answer 3]) ∧
          l.ring = x.ring.toNat ∧ l.hit = false ∧ l.part1 = none ∧ l.bad = none ∧ l.xq = (match cross with | some m => (s.sect m).xqNo | none => 0) ∧
          ∃ y : Engine,
            let s' := if waits then (if x.loadHeld = false ∧ y.loadHeld = true then s1.waitBegin e else s1) else after
            exec c s = .next (s'.withEngineAfter e y) ∧ y.loadsOf u = x.loadsOf u ++ [l] ∧ y.loadsOf (1 - u) = x.loadsOf (1 - u) ∧
            y.seqNo = x.seqNo + 1 ∧
            (∀ k l, SMap.get (fun _ => none) y.icache k = some l ↔ SMap.get (fun _ => none) x.icache k = some l ∧
              ¬ (¬ waits ∧ stores ∧ overlaps l.base 32 ca 4 = true)) ∧
            { y with loads0 := x.loads0, loads1 := x.loads1, seqNo := x.seqNo, spadAcc := x.spadAcc, icache := x.icache } = s'.engine e
    let reads := s.accessRefused e a.toNat 4 false
    let writes := s.accessRefused e a.toNat 4 true
    let s0 := s.softRead ca (.engine e)
    let free := s0.modEngine e (fun x => { x with resv := none })
    acts (.tas e u a) 1 0 (reads.or writes) w (if w = 0 then s0.setWord ca o else s0) (w = 0) ∧
    acts (.lr e u a) 2 1 reads w (s0.modEngine e (fun x => { x with resv := some (ca / 4) })) False ∧
    acts (.sc e u a) 3 1 writes (if x.resv = some (ca / 4) then 0 else 1) (if x.resv = some (ca / 4) then free.setWord ca o else free) (x.resv = some (ca / 4))

/-- R142, R150, R160, R161, R213, R278, R285, R286, R288 to R290 and R452: the return of the i-th access in flight, for accesses of 1, 2, 4 and 8 bytes; R8, R9, R13, R34: the load of a device register. -/
def Obligations.ReturningLoadsDeliverTheirBytes : Prop :=
  ∀ (e : EngId) (u : Fin 2) (i : Nat) (s : State) (l : Load),
    let x := s.engine e
    let num := fun (bs : List Byte9) => bs.foldr (fun b n => b.toNat + 512 * n) 0
    let delivers := fun (s' : State) (bs : List Byte9) =>
      let x' := s'.engine e
      ∃ y : Engine, exec (.loadComplete e u i .clean) s = .next (s'.setEngine e y) ∧
        y.loadsOf u = (x'.loadsOf u).eraseIdx i ∧ y.loadsOf (1 - u) = x'.loadsOf (1 - u) ∧
        (if l.signed = true ∧ 2 ^ (9 * l.size - 1) ≤ num (bs.take 4) then (y.result (0x184 + 0x40 * u)).toInt = ((num (bs.take 4) : Nat) : Int) - 2 ^ (9 * l.size)
         else (y.result (0x184 + 0x40 * u)).toNat = num (bs.take 4)) ∧
        (l.size = 8 → (y.result (0x185 + 0x40 * u)).toNat = num (bs.drop 4)) ∧
        (∀ k, k ≠ 0x184 + 0x40 * u → ¬ (l.size = 8 ∧ k = 0x185 + 0x40 * u) → y.result k = x'.result k) ∧
        { y with loads0 := x'.loads0, loads1 := x'.loads1, res := x'.res, done := x'.done } = x'
    (x.loadsOf u)[i]? = some l → l.size ∈ [1, 2, 4, 8] → (l.signed = true → l.size < 4) →
    -- the error at word k has been found (and logged) in s': a halted engine keeps it for its resume, else the fault is taken
    let fault := fun (s' : State) (k : Nat) =>
      let x' := s'.engine e
      if x'.halted = true then ∃ y : Engine, exec (.loadComplete e u i .clean) s = .next (s'.setEngine e y) ∧
        y.loadsOf u = (x'.loadsOf u).modify i (fun l => { l with bad := some k }) ∧ y.loadsOf (1 - u) = x'.loadsOf (1 - u) ∧
        { y with loads0 := x'.loads0, loads1 := x'.loads1 } = x'
      else
        let r := s'.setEngine e (x'.setLoads u ((x'.loadsOf u).eraseIdx i))
        exec (.loadComplete e u i .clean) s = .next (if x'.locked = true ∨ x'.inBeat = false then r
          else (r.atBoundary e).faultEntry e 0x09 (BitVec.ofNat 36 (l.iss + (k - l.addr))) l.pc x'.efWait)
    if s.loadRuns e u l = false then exec (.loadComplete e u i .clean) s = .next s
    else match l.bad with
    | some k => fault s k
    | none =>
    match l.fwd with
    | some bs => (bs.length = l.size → delivers s bs) ∧
        ∀ c, c ≠ .clean → l.hit = true → ∃ y : Engine, exec (.loadComplete e u i c) s = .next (s.setEngine e y) ∧
          y.loadsOf u = (x.loadsOf u).modify i (fun l => { l with fwd := none, hit := false, miss := true }) ∧
          y.loadsOf (1 - u) = x.loadsOf (1 - u) ∧
          (∀ k d, SMap.get (fun _ => none) y.dcache k = some d ↔ SMap.get (fun _ => none) x.dcache k = some d ∧ d.base ≠ l.addr / 32 * 32) ∧
          (y.csrW e 0x147).toNat = (if x.halted = true then (x.csrW e 0x147).toNat else min ((x.csrW e 0x147).toNat + 1) (2 ^ 36 - 1)) ∧
          (∀ k, k ≠ 0x147 → y.csrW e k = x.csrW e k) ∧
          { y with loads0 := x.loads0, loads1 := x.loads1, dcache := x.dcache, csr := x.csr } = x
    | none =>
      -- n bytes from ca are read: P of the state after it, or the fault of an uncorrectable word
      let reads := fun (ca n : Nat) (P : State → Prop) =>
        let s' := s.softReads ca n (.engine e)
        match s'.badWord ca n with
        | some k => fault (s'.eccUncorrectable k) k
        | none => P s'
      let n := 8 - l.addr % 8
      if l.miss = true ∨ s.olderStore e l = true then exec (.loadComplete e u i .clean) s = .next s
      else
      -- a load of a device register
      (l.kind = 0 → l.size = 4 → l.signed = false → l.addr % 4 = 0 → globalLoc l.addr = some (.dev l.addr) →
        let r := s.regRead (masterOf e l.ring) false l.addr
        delivers r.2 [byteOf r.1 0, byteOf r.1 1, byteOf r.1 2, byteOf r.1 3] ∧
        ∀ g, Reg.ofAddr l.addr = some g → g.readsStored = true → s.ReadAsTyped r.2 g r.1) ∧
      ((memOf l.addr).isSome = true → (memOf (l.addr + l.size - 1)).isSome = true → (memOf (l.addr + n)).isSome = true →
        if l.kind ≠ 0 then l.size = 4 → l.signed = false →
          reads l.addr 4 (fun s' =>
            let r := s'.atomicPerform e l.kind l.addr l.data
            delivers r.2 [byteOf r.1 0, byteOf r.1 1, byteOf r.1 2, byteOf r.1 3])
        else if l.iss < 0x10000 ∨ l.size ≤ n then reads l.addr l.size (fun s' => delivers s' (s'.bytes l.addr l.size))
        else match l.part1 with
          | none => reads l.addr n (fun s' => exec (.loadComplete e u i .clean) s = .next (s'.modEngine e (fun y =>
              y.setLoads u ((y.loadsOf u).modify i (fun l => { l with part1 := some (s'.bytes l.addr n) })))))
          | some b1 => b1.length = n → reads (l.addr + n) (l.size - n) (fun s' => delivers s' (b1 ++ s'.bytes (l.addr + n) (l.size - n))))

/-- R286: a read miss fetches the line. Engine.dBytes reads the bytes from the lines of the cache, Engine.loadReturn is the delivery of ReturningLoadsDeliverTheirBytes. -/
def Obligations.CacheFillsServeTheWaitingLoad : Prop :=
  ∀ (e : EngId) (u : Fin 2) (i : Nat) (way : Fin 2) (s : State) (l : Load),
    let x := s.engine e
    (x.loadsOf u)[i]? = some l → l.miss = true →
    if s.engStalled e = true ∨ s.portHeld e l.addr = true then exec (.dcacheFill e u i way .clean) s = .next s else
    let missing := (List.range l.size).find? (fun j => (x.dLine (l.addr + j)).isNone)
    match missing with
    | none => ∃ bs, x.dBytes l.addr l.size = some bs ∧ bs.length = l.size ∧
        exec (.dcacheFill e u i way .clean) s = .next (s.setEngine e (x.loadReturn u i l bs))
    | some j =>
      let base := (l.addr + j) / 32 * 32
      let key := base / 32 % 64 * 2 + way
      if ∃ o ∈ x.outStores, overlaps o.addr o.bytes.length base 32 = true then exec (.dcacheFill e u i way .clean) s = .next s
      else
        let s' := s.softReads base 32 (.engine e)
        match s'.badWord base 32 with
        | some k => exec (.dcacheFill e u i way .clean) s = exec (.loadComplete e u i .clean)
            ((if (s'.badWord l.addr l.size).isSome then s' else s'.eccUncorrectable k).modEngine e (fun y =>
              y.setLoads u ((y.loadsOf u).modify i (fun l => { l with miss := false }))))
        | none => ∃ y : Engine, { y with dcache := x.dcache } = s'.engine e ∧
          SMap.get (fun _ => none) y.dcache key = some { base := base, words := s.words base 8 } ∧
          (∀ k, k ≠ key → SMap.get (fun _ => none) y.dcache k = SMap.get (fun _ => none) x.dcache k) ∧
          exec (.dcacheFill e u i way .clean) s = .next (s'.setEngine e (match y.dBytes l.addr l.size with
            | some bs => y.loadReturn u i l bs
            | none => y))

/-- R150, R159, R161, R162, R278, R284, R305, R312 and R313: where a store-buffer entry goes. State.egressFull takes the ingress queue of a section in the order in which the accesses set out (notes/assumptions/49.md). -/
def Obligations.StoresDrainInOrderToTheirTarget : Prop :=
  ∀ (e : EngId) (i : Nat) (s : State),
    let x := s.engine e
    exec (.storeDrain e i) s = .next (if s.advances e Engine.awaitsStores = false then s else match x.sbPartner e i with
      | some j => if s.drainHeld e i = true ∨ s.drainHeld e j = true then s else (s.drainOut e (max i j)).drainOut e (min i j)
      | none => if s.drainHeld e i = true then s else s.drainOut e i) ∧
    match x.sb[i]? with
    | none => s.drainHeld e i = false ∧ s.drainOut e i = s
    | some b =>
      let n := b.bytes.length
      let cross := e.val < 192 ∧ ∃ k, (memOf b.addr).bind MemId.sect = some k ∧ k ≠ e / 32
      (s.drainHeld e i = true ↔
         (∃ j < i, ∃ o, x.sb[j]? = some o ∧ overlaps o.addr o.bytes.length b.addr n = true) ∨
         (∃ l ∈ x.loads0 ++ x.loads1, l.fwd = none ∧ l.seq < b.seq ∧ overlaps l.addr l.size b.addr n = true) ∨
         (b.glob = false ∧ ∃ o ∈ x.outStores, overlaps o.addr o.bytes.length b.addr n = true) ∨
         (b.glob = true ∧ cross ∧ s.egressFull (e / 32) = true)) ∧
      ∃ y : Engine,
        let m := match x.sbWait with
          | b :: c :: _ => if b.split = true ∧ c.split = true ∧ c.seq = b.seq + 1 then 2 else 1
          | _ => 1
        y.sb ++ y.sbWait = x.sb.eraseIdx i ++ x.sbWait ∧ y.sbWait = (if x.sb.length - 1 + m ≤ 8 then x.sbWait.drop m else x.sbWait) ∧
        (∀ k c, SMap.get (fun _ => none) x.dcache k = some c → SMap.get (fun _ => none) y.dcache k = some (c.store b.addr b.bytes)) ∧
        (∀ k, SMap.get (fun _ => none) x.dcache k = none → SMap.get (fun _ => none) y.dcache k = none) ∧
        (if b.post = true then
          y.outStores = x.outStores ∧ s.drainOut e i = (s.setEngine e y).setSect (sectOf e)
            { s.sect (sectOf e) with posts := (s.sect (sectOf e)).posts ++ [{ eng := e, addr := b.addr, bytes := b.bytes, seq := b.seq }] }
         else if b.glob = true then
          (∃ o : OutStore, y.outStores = x.outStores ++ [o] ∧ o.addr = b.addr ∧ o.bytes = b.bytes ∧ o.seq = b.seq ∧ o.ring = b.ring ∧
            o.split = b.split ∧ (o.cross = true ↔ cross) ∧
            (if cross then ∃ m, crossSect e b.addr = some m ∧ o.xq = (s.sect m).xqNo ∧
                s.drainOut e i = (s.setSect m { s.sect m with xqNo := (s.sect m).xqNo + 1 }).setEngine e y
              else o.xq = 0 ∧ s.drainOut e i = s.setEngine e y))
         else y.outStores = x.outStores ∧ s.drainOut e i = (s.setEngine e y).storeBytes b.addr b.bytes) ∧
        { y with sb := x.sb, sbWait := x.sbWait, dcache := x.dcache, outStores := x.outStores } = x

/-- R18, R150, R162, R306, R308, R312 and R314: the store paths. The target write of a memory address is State.storeBytes. R288: a corrected word is written back by its bank. -/
def Obligations.StoresUnderWayAndWritebacksReachTheirWords : Prop :=
  ((∀ (e : EngId) (i n : Nat) (s : State) (o : OutStore),
    let x := s.engine e
    let k := sectOf e
    let blocked := (∃ j < i, ∃ p, x.outStores[j]? = some p ∧ overlaps p.addr p.bytes.length o.addr o.bytes.length = true) ∨
      ∃ m, portSect o.addr = some m ∧ s.stalled m = true ∧
        ¬ (e.val < 192 ∧ m = k ∧ s.engStalls e = true ∧ x.awaitsStore o.seq o.addr o.bytes.length = true)
    x.outStores[i]? = some o →
    let done := (s.setEngine e { x with outStores := x.outStores.eraseIdx i }).performStore e o.ring o.addr o.bytes
    (memOf o.addr ≠ none → o.addr < 2 ^ 36 →
      done = (s.setEngine e { x with outStores := x.outStores.eraseIdx i }).storeBytes o.addr o.bytes) ∧
    (∀ w : Word, globalLoc o.addr = some (.dev o.addr) → o.bytes = [byteOf w 0, byteOf w 1, byteOf w 2, byteOf w 3] →
      .next done = exec (.registerWrite (masterOf e o.ring) (BitVec.ofNat 36 o.addr) w) (s.setEngine e { x with outStores := x.outStores.eraseIdx i })) ∧
    (o.cross = false → exec (.globalStoreAck e i) s = .next (if blocked then s else done)) ∧
    (o.cross = true → if blocked then exec (.crossSectionStoreDone e i n) s = .next s else
      let mx := done.getF (.SEC_XQ_MAX k) F.SEC_XQ_MAX_CYC
      if mx = 0 then exec (.crossSectionStoreDone e i n) s = .next done
      else ∃ t : State, exec (.crossSectionStoreDone e i n) s = .next t ∧ done.onlyRegs t (· = .SEC_XQ k) ∧
        t.getF (.SEC_XQ k) F.SEC_XQ_MAXLAT = max (done.getF (.SEC_XQ k) F.SEC_XQ_MAXLAT) (min n 0x3FFFF) ∧
        (t.getB (.SEC_XQ k) F.SEC_XQ_LATE = true ↔ done.getB (.SEC_XQ k) F.SEC_XQ_LATE = true ∨ mx < n) ∧
        fld (t.reg (.SEC_XQ k)) 34 18 = fld (done.reg (.SEC_XQ k)) 34 18)) ∧
  (∀ (k : SectId) (i a b : Nat) (s : State) (p : Post),
    let c := s.sect k
    c.posts[i]? = some p →
    if (∃ j < i, ∃ o, c.posts[j]? = some o ∧ (o.eng = p.eng ∧ overlaps o.addr o.bytes.length p.addr p.bytes.length = true ∨
          o.eng / 4 = p.eng / 4 ∧ memOf o.addr = memOf p.addr ∧ o.addr / 8 % 16 = p.addr / 8 % 16)) ∨
        s.stalled k = true ∧ ¬ (∃ q ∈ c.posts.drop i, p.eng / 4 = q.eng / 4 ∧ memOf p.addr = memOf q.addr ∧ p.addr / 8 % 16 = q.addr / 8 % 16 ∧
          s.engStalls q.eng = true ∧ (s.engine q.eng).awaitsStore q.seq q.addr q.bytes.length = true) then
      exec (.postPerformed k i a b) s = .next s
    else ∃ w : Word,
      exec (.postPerformed k i a b) s = .next (((s.setSect k { c with posts := c.posts.eraseIdx i }).setReg (.SEC_POST k) w).storeBytes p.addr p.bytes) ∧
      fld w F.SEC_POST_LINK.1 F.SEC_POST_LINK.2 = min (s.getF (.SEC_POST k) F.SEC_POST_LINK + a) (2 ^ 18 - 1) ∧
      fld w F.SEC_POST_COLL.1 F.SEC_POST_COLL.2 = min (s.getF (.SEC_POST k) F.SEC_POST_COLL + b) (2 ^ 18 - 1))) ∧
  (∀ (k : Nat) (s : State), (s.memStalled (4 * k) = true → exec (.eccWriteback k) s = .next s) ∧
    (s.memStalled (4 * k) = false → ∃ t, exec (.eccWriteback k) s = .next t ∧ t.isSoft (4 * k) = false ∧
    (∀ j, j ≠ k → t.isSoft (4 * j) = s.isSoft (4 * j)) ∧ (∀ a, t.byte a = s.byte a) ∧ { t with eccSoft := s.eccSoft } = s))

/-- R154, R157 and R206 to R210, Table 7.7. State.codeNext is the code address of the bundle after the one at an address (R174). That the prediction counters keep their values while PRED_EN is 0 is the model's reading (notes/assumptions/49.md). -/
def Obligations.BranchesDecideAndLeaveTwoDelaySlots : Prop :=
  ∀ (e : EngId) (t : Word) (s : State),
    let x := s.engine e
    let o := x.port 0x200
    let next := fun (p : Nat) => s.codeNext e p
    let traps := bit (x.csrW e 0) 1
    let goes := fun (c : Instr) (taken : Bool) (target : Word) (R : Engine → Prop) =>
      if x.branch.isSome then exec c s = .next (s.faultEntry e 0x01 0 x.pc)
      else x.fence = none → ∃ y : Engine, exec c s = .next (s.withEngineAfter e y) ∧ R y ∧
        y.pc = BitVec.ofNat 36 (next x.pc.toNat) ∧ y.branch = some { ds := 2, taken := taken, target := target } ∧
        (let i := x.pc.toNat % 256
         let counts := x.perf e ∧ bit (x.csrW e 0) 11 = true
         (∀ k, ¬ (counts ∧ k = i) → SMap.get (fun _ => 1) y.pred k = SMap.get (fun _ => 1) x.pred k) ∧
         (counts → (SMap.get (fun _ => 1) y.pred i).toNat =
           if taken then min 3 ((SMap.get (fun _ => 1) x.pred i).toNat + 1) else (SMap.get (fun _ => 1) x.pred i).toNat - 1)) ∧
        { y with pc := x.pc, branch := x.branch, pred := x.pred, rs := x.rs, rsTop := x.rsTop, rsDepth := x.rsDepth } = x
    let same := fun (y : Engine) => y.rs = x.rs ∧ y.rsTop = x.rsTop ∧ y.rsDepth = x.rsDepth
    let target := x.port 0x201
    goes (.jmp e t) true t same ∧
    (if x.branch = none ∧ x.rsDepth = 16 ∧ traps then exec (.call e t) s = .next (s.faultEntry e 0x0C 0 x.pc)
     else goes (.call e t) true t (fun y =>
      y.rsEntry x.rsTop.toNat = BitVec.ofNat 36 (next (next (next x.pc.toNat))) ∧ (∀ k, k ≠ x.rsTop.toNat → y.rsEntry k = x.rsEntry k) ∧
      y.rsTop = x.rsTop + 1 ∧ y.rsDepth.toNat = (if x.rsDepth.toNat < 16 then x.rsDepth.toNat + 1 else x.rsDepth.toNat))) ∧
    (if x.branch = none ∧ x.rsDepth = 0 ∧ traps then exec (.ret e t) s = .next (s.faultEntry e 0x0D 0 x.pc)
     else goes (.ret e t) true (x.rsEntry ((x.rsTop.toNat + 15) % 16)) (fun y =>
      y.rs = x.rs ∧ y.rsTop = x.rsTop - 1 ∧ y.rsDepth.toNat = x.rsDepth.toNat - 1)) ∧
    goes (.beq e t) (decide (o = t)) target same ∧ goes (.bne e t) (decide (o ≠ t)) target same ∧
    goes (.blt e t) (decide (o.toInt < t.toInt)) target same ∧ goes (.bge e t) (decide (t.toInt ≤ o.toInt)) target same ∧
    goes (.bltu e t) (decide (o.toNat < t.toNat)) target same ∧ goes (.bgeu e t) (decide (t.toNat ≤ o.toNat)) target same ∧
    goes (.bz e t) (decide (t = 0)) target same ∧ goes (.bnz e t) (decide (t ≠ 0)) target same

/-- R249 to R252, R264 to R266 and R521, Tables 9.3 and 9.5: State.enter, the one entry of faults, interrupts and gates. That an entry first applies the post-increments due and makes the CSR write still held is the model's choice (notes/assumptions/24.md, 50.md). -/
def Obligations.AnEntryBuildsItsFrameAndRedirects : Prop :=
  ∀ (e : EngId) (s : State) (kind code orig : Nat) (ea epc : Word) (ring imask : Nat) (entry : Nat) (efw : Bool),
    let t := s.enter e kind code orig ea epc ring imask entry efw
    let s := s.csrSettle e
    let x := (s.engine e).applyInc ((s.engine e).cyc + 2)
    let sp := (x.spOf ring).toNat
    kind < 4 → code < 64 → orig < 64 → ring < 4 → imask < 8 → entry < 2 ^ 36 →
    (x.frameLoc e ring sp = none → (s.setEngine e x).StackFails t e (s.frame e epc (x.entryEsts e kind orig) efw) (x.spOf ring)) ∧
    (sp % 8 = 0 → sp ≤ (x.csrW e (0x034 + ring)).toNat → (x.csrW e (0x030 + ring)).toNat + 0x20 ≤ sp →
    (sp ≤ 0x10000 ∨ e.val = 192 ∧ 0x080000020 ≤ sp ∧ sp ≤ 0x080100000) →
    let ca := if sp ≤ 0x10000 then spadBase e + (sp - 0x20) else sp - 0x20
    let cycles := x.cyc + (if e.val < 192 then (s.sect (sectOf e)).stallCyc else 0)
    ∃ (ests w4 : Word) (y : Engine),
      t =
        ({ (s.setEngine e x).setWords ca
            [epc, ests, BitVec.ofNat 36 (x.rsDepth.toNat % 32 * 16 + x.rsTop.toNat), x.rsEntry ((x.rsTop.toNat + 15) % 16), w4,
             x.dReg 0, x.dReg 1, BitVec.ofNat 36 (s.beatNum % 2 ^ 18 * 2 ^ 18 + min cycles 0x3FFFF)] with fresh := s.fresh + 1 }).setEngine e y ∧
      ests.toNat = (if bit (x.csrW e 0x021) 23 then 2 ^ 23 else 0) + orig * 2 ^ 17 + kind * 2 ^ 15 + x.ring.toNat * 8 + x.imask.toNat ∧
      fld w4 6 0 = x.p.toNat / 2 ∧ fld w4 35 33 = 0 ∧ bit w4 10 = efw ∧
      (x.branch = none → fld w4 32 11 = 0 ∧ fld w4 9 7 = 0) ∧
      (∀ b, x.branch = some b → b.ds < 4 → fld w4 8 7 = b.ds ∧ bit w4 9 = b.taken ∧
        ∀ r o, codeRegion b.target.toNat = some (r, o) → fld w4 12 11 = r ∧ fld w4 32 13 = o) ∧
      y.csrW e 0x020 = epc ∧ y.csrW e 0x021 = ests ∧ (y.csrW e 0x022).toNat = code ∧ y.csrW e 0x023 = ea ∧
      (∀ k, k ∉ [0x020, 0x021, 0x022, 0x023, 0x051] → y.csrW e k = x.csrW e k) ∧
      (y.spOf ring).toNat = sp - 0x20 ∧ (∀ r, r ≠ ring → y.spOf r = x.spOf r) ∧
      y.pc.toNat = entry ∧ y.ring.toNat = ring ∧ y.imask.toNat = imask ∧
      y.branch = none ∧ y.efWait = false ∧ y.fence = none ∧ y.resv = none ∧
      y.stm = { x.stm with susp := x.stm.susp || x.stm.op != 0 } ∧ y.held = (takeHeld 0x0B0 0x0B4 x.held).2 ∧ y.cyc = x.cyc + 6 ∧
      y.fresh = decide (kind = 1 ∨ kind = 2) ∧
      { y with pc := x.pc, ring := x.ring, imask := x.imask, csr := x.csr, sp := x.sp, res := x.res, done := x.done, flights := x.flights,
               fpShort := x.fpShort, branch := x.branch, efWait := x.efWait, nextPc := x.nextPc, fence := x.fence, stm := x.stm,
               early := x.early, cyc := x.cyc, fresh := x.fresh, resv := x.resv, held := x.held } = x)

/-- R248, R249, R257, R260, R264, R265 and R521: which entry is made. State.enter is stated by AnEntryBuildsItsFrameAndRedirects. -/
def Obligations.FaultsAndTrapsEnterThroughTheirTables : Prop :=
  (∀ (e : EngId) (s : State) (code : Nat) (ea epc : Word) (efw : Bool),
    let x := s.engine e
    let base := (x.csrW e 0x024).toNat
    let valid := fun (v : Nat) (w : Word) => ∃ ca, ctrlLoc e (base + 4 * v) = some ca ∧ s.isBad ca = false ∧ s.word ca = w ∧ bit w 35 = true
    let t := s.faultEntry e code ea epc efw
    let double := fun (s' : State) =>
      (∀ w, valid 0x0F w → t = (s'.vectorSeen e 0x0F).enter e 3 0x0F code ea epc 0 7 (fld w 30 0) efw) ∧
      ((¬ ∃ w, valid 0x0F w) → t = (s'.vectorSeen e 0x0F).lockEngine e)
    (x.imask ≠ 7 → ∀ w, valid code w →
      t = (s.vectorSeen e code).enter e 0 code 0 ea epc (min (fld w 34 34) x.ring.toNat) (fld w 33 31) (fld w 30 0) efw) ∧
    (x.imask = 7 → double s) ∧
    (x.imask ≠ 7 → ∀ ca, ctrlLoc e (base + 4 * code) = some ca → s.isBad ca = false → bit (s.word ca) 35 = false →
      double (s.vectorSeen e code)) ∧
    (x.imask ≠ 7 → (∀ ca, ctrlLoc e (base + 4 * code) = some ca → s.isBad ca = true) →
      let s' := (s.vectorSeen e code).csrSettle e
      s'.StackFails t e (s'.frame e epc ((s'.engine e).entryEsts e 0 0) efw) (BitVec.ofNat 36 (base + 4 * code)))) ∧
  (∀ (e : EngId) (t : Word) (s : State),
    let x := s.engine e
    let n := t.toNat % 256
    let a := (x.csrW e 0x025).toNat + 4 * n
    (x.branch ≠ none → exec (.trap e t) s = .next (s.faultEntry e 0x01 0 x.pc)) ∧
    (x.branch = none → ctrlLoc e a = none → exec (.trap e t) s = .next (s.faultEntry e 0x03 (BitVec.ofNat 36 a) x.pc)) ∧
    (x.branch = none → ∀ ca, ctrlLoc e a = some ca → s.isBad ca = true →
      exec (.trap e t) s = .next ((s.eccUncorrectable ca).faultEntry e 0x09 (BitVec.ofNat 36 a) x.pc)) ∧
    (x.branch = none → ∀ ca, ctrlLoc e a = some ca → s.isBad ca = false →
      let w := s.word ca
      exec (.trap e t) s = .next (
        if bit w 31 = true ∧ x.ring.toNat ≤ fld w 33 32 ∧ fld w 35 34 ≤ x.ring.toNat then
          (s.softRead ca (.engine e)).enter e 2 0x0E 0 (BitVec.ofNat 36 n) (BitVec.ofNat 36 (s.codeNext e x.pc.toNat)) (fld w 35 34) x.imask.toNat (fld w 30 0) false
        else s.faultEntry e 0x02 (BitVec.ofNat 36 n) x.pc)))

/-- R253, R254 and R261 to R263: the returns. x is the engine as the trigger of the return finds it; which post-increments of A15 it sees is the model's reading (notes/assumptions/24.md). -/
def Obligations.ReturnsRestoreTheFrame : Prop :=
  ∀ (e : EngId) (s : State) (isRti : Bool),
    let c : Instr := if isRti then .rti e else .retg e
    let x := (s.engine e).applyInc ((s.engine e).cyc + 1)
    let r := x.ring.toNat
    let sp := (x.spOf r).toNat
    let fault := fun (code : Nat) (ea : Word) => exec c s = .next (s.faultEntry e code ea x.pc)
    (x.branch ≠ none → fault 0x01 0) ∧
    (x.branch = none → x.frameLoc e r (sp + 0x20) = none → fault 0x0B (x.spOf r)) ∧
    (x.branch = none → ∀ ca, x.frameLoc e r (sp + 0x20) = some ca →
      let w := fun (k : Nat) => s.word (ca + 4 * k)
      let pring := (w 1).toNat / 8 % 4
      let ds := (w 4).toNat / 128 % 4
      let region := fld (w 4) 12 11
      let target := (if region = 0 then 0 else if region = 1 then 0x40000 else 0x40000000) + fld (w 4) 32 13
      let malformed := ds = 3 ∨ 16 < (w 2).toNat / 16 % 32 ∨ codeRegion (w 0).toNat = none ∨
        (ds ≠ 0 ∧ (region = 3 ∨ (bit (w 4) 9 = true ∧ codeRegion target = none)))
      if isRti = true ∧ 2 ≤ r then fault 0x02 (BitVec.ofNat 36 r)
      else (∀ k < 8, s.isBad (ca + 4 * k) = true → (∀ j < k, s.isBad (ca + 4 * j) = false) →
          exec c s = .next ((s.eccUncorrectable (ca + 4 * k)).faultEntry e 0x09 (BitVec.ofNat 36 (sp + 4 * k)) x.pc)) ∧
        ((∀ k < 8, s.isBad (ca + 4 * k) = false) →
        if pring < r then fault 0x02 (BitVec.ofNat 36 pring)
        else if malformed then fault 0x01 0
        else
          let s' := s.softReads ca 32 (.engine e)
          let z := (s'.engine e).applyInc ((s'.engine e).cyc + 1)
          let x := { z with aInc := z.aInc.filter (fun p => p.1 != 15) }.applyInc (z.cyc + 2)
          ∃ y : Engine, exec c s = .next (s'.setEngine e y) ∧
            y.pc = w 0 ∧ (y.spOf r).toNat = sp + 0x20 ∧ (∀ q, q ≠ r → y.spOf q = x.spOf q) ∧ y.dReg 0 = w 5 ∧ y.dReg 1 = w 6 ∧
            (∀ k, 2 ≤ k → y.dReg k = x.dReg k) ∧ y.p.toNat = (w 4).toNat % 128 * 2 ∧ y.rsTop.toNat = (w 2).toNat % 16 ∧
            y.rsDepth.toNat = (w 2).toNat / 16 % 32 ∧ y.rsEntry (((w 2).toNat % 16 + 15) % 16) = w 3 ∧
            (∀ k, k ≠ ((w 2).toNat % 16 + 15) % 16 → y.rsEntry k = x.rsEntry k) ∧ y.ring.toNat = pring ∧
            y.imask.toNat = (if isRti then (w 1).toNat % 8 else x.imask.toNat) ∧ y.efWait = bit (w 4) 10 ∧
            y.branch = (if ds = 0 then none else some { ds := ds, taken := bit (w 4) 9, target := BitVec.ofNat 36 target }) ∧
            y.stm.susp = false ∧ y.stm.op = (if x.stm.cnt = 0 then 0 else x.stm.op) ∧
            y.stm.start = (if x.stm.susp then x.cyc + 6 else x.stm.start) ∧ y.cyc = x.cyc + 6 ∧ y.fresh = true ∧
            { y.stm with susp := x.stm.susp, op := x.stm.op, start := x.stm.start } = x.stm ∧
            { y with pc := x.pc, sp := x.sp, d := x.d, p := x.p, rsTop := x.rsTop, rsDepth := x.rsDepth, rs := x.rs, ring := x.ring,
                     imask := x.imask, efWait := x.efWait, branch := x.branch, stm := x.stm, cyc := x.cyc, fresh := x.fresh } = x))

/-- R55, R163 to R165, R240 and R258: fences, isync and endframe, with no branch pending where the engine goes on. -/
def Obligations.FencesWaitForTheirOperations : Prop :=
  ∀ (e : EngId) (s : State),
    let x := s.engine e
    let stores := fun (s : State) => (s.engine e).sb = [] ∧ (s.engine e).sbWait = [] ∧ (s.engine e).outStores = [] ∧
      ¬ (e.val < 192 ∧ ∃ p ∈ (s.sect (sectOf e)).posts, p.eng = e.val)
    let long := fun (s : State) => (s.engine e).divOp = none ∧ (s.engine e).fplOp = none ∧ (s.engine e).held = [] ∧
      ((s.engine e).stm.op = 0 ∨ (s.engine e).stm.susp = true)
    let clear := fun (x : Engine) => x.fpLong = none ∧ x.longop = none
    let b := s.atBoundary e
    let z := b.engine e
    let short := z.fpShort ≠ none ∧ z.branch = none ∧ z.fence = none
    let n := BitVec.ofNat 36 (s.codeNext e x.pc.toNat)
    let fences := fun (c : Instr) (k : BitVec 2) (cond : State → Prop) (faults : Bool) =>
      (x.branch = none → x.fence = none → cond s → (faults = true → clear x) → exec c s = .next (s.withEngineAfter e { x with pc := n })) ∧
      (cond s → faults = true → x.fpLong ≠ none → exec c s = .next (s.takeTrap e .fpLong x.pc)) ∧
      (cond s → faults = true → x.fpLong = none → x.longop ≠ none → exec c s = .next (s.takeTrap e .longop x.pc)) ∧
      (¬ cond s → exec c s = .next ((s.waitBegin e).withEngineAfter e { (s.waitBegin e).engine e with fence := some k, nextPc := some n })) ∧
      (x.fence = some k →
        let runs := s.unitRuns e (fun x => x.fence.isSome) = true
        let past := { z with fence := none, nextPc := none, pc := z.nextPc.getD z.pc }
        let at' := if z.nextPc.isSome then z.pc else z.bundlePc
        (¬ (cond b ∧ runs) → exec (.fenceComplete e) s = .next s) ∧
        (cond b → runs → z.branch = none → z.fpShort ≠ none ∨ (faults = true → clear z) →
          exec (.fenceComplete e) s = .next (b.setEngine e past)) ∧
        (cond b → runs → z.fpShort = none → faults = true → z.fpLong ≠ none →
          exec (.fenceComplete e) s = .next (b.takeTrap e .fpLong at')) ∧
        (cond b → runs → z.fpShort = none → faults = true → z.fpLong = none → z.longop ≠ none →
          exec (.fenceComplete e) s = .next (b.takeTrap e .longop at')))
    fences (.fenceM e) 0 stores false ∧ fences (.fenceL e) 1 long true ∧ fences (.fenceA e) 2 (fun s => stores s ∧ long s) true ∧
    (x.branch = none → x.fence = none → exec (.isync e) s = .next (s.withEngineAfter e { x with pc := n, icache := [], icMiss := none, iDirect := none })) ∧
    (x.branch ≠ none → exec (.isync e) s = .next (s.faultEntry e 0x01 0 x.pc) ∧ exec (.endframe e) s = .next (s.faultEntry e 0x01 0 x.pc)) ∧
    (x.branch = none → clear x → exec (.endframe e) s = .next (s.withEngineAfter e { x with efWait := true, efDone := false })) ∧
    (x.branch = none → x.fpLong ≠ none → exec (.endframe e) s = .next (s.takeTrap e .fpLong x.pc)) ∧
    let ends := z.efWait = true ∧ z.efDone = false ∧ stores b ∧ long b ∧ s.unitRuns e (fun _ => false) = true
    (¬ ends → exec (.endframeComplete e) s = .next s) ∧
    (ends → short → exec (.endframeComplete e) s = .next (b.fpShortFault e)) ∧
    (ends → ¬ short → z.fpLong ≠ none → exec (.endframeComplete e) s = .next (b.takeTrap e .fpLong z.pc true)) ∧
    (ends → ¬ short → z.fpLong = none → z.longop ≠ none → exec (.endframeComplete e) s = .next (b.takeTrap e .longop z.pc true)) ∧
    (ends → ¬ short → clear z →
      let s' := b.setEngine e { z with efDone := true }
      let c := b.sect (sectOf e)
      exec (.endframeComplete e) s = .next (if e.val < 192 then
        s'.setSect (sectOf e) { c with endCyc := max c.endCyc (z.cyc + c.stallCyc) } else s'))

/-- R8, R9, R211 and R245, Table 9.1: csrListed, csrReadRing, csrWriteRing and csrFields transcribe the table. -/
def Obligations.CsrAccessesFollowTheRingsAndTheirFields : Prop :=
  ∀ (e : EngId) (t : Word) (s : State),
    let s0 := s
    let s := s.csrSettle e
    let x := s.engine e
    let a := s.withEngineAfter e x
    let n := t.toNat % 4096
    let o := x.port 0x200
    let counter := 0x140 ≤ n ∧ n ≤ 0x143
    let acc := fun (i : Nat) => ((csrFields n).find? (fun f => decide (f.lo ≤ i ∧ i ≤ f.hi))).map (fun f => f.acc)
    if csrListed n = false then
      exec (.csrr e t) s0 = .next (s.faultEntry e 0x01 0 x.pc) ∧ exec (.csrw e t) s0 = .next ((s.faultEntry e 0x01 0 x.pc).csrSettle e)
    else
      (csrReadRing n < x.ring.toNat → exec (.csrr e t) s0 = .next (s.faultEntry e 0x02 (BitVec.ofNat 36 n) x.pc)) ∧
      (x.ring.toNat ≤ csrReadRing n → ¬ counter → ∃ v : Word,
        exec (.csrr e t) s0 = .next ((if n = 0x131 then s.rxdEmpty e else s).withResult e uCu 0x204 v) ∧
        ∀ i < 36, v.getLsbD i = ((n == 0x051 && decide (i < 5) && x.flagsDue.testBit i) ||
          (match acc i with | none => false | some .wo => false | some _ => (s.csrValue e n).getLsbD i))) ∧
      (x.ring.toNat ≤ csrReadRing n → counter → ∃ t', exec (.csrr e t) s0 = .next t' ∧
        (t'.engine e).result 0x204 = (t'.engine e).csrW e n ∧ x.csrW e n ≤ (t'.engine e).csrW e n) ∧
      (match csrWriteRing n with
       | none => exec (.csrw e t) s0 = .next a
       | some r =>
        if r < x.ring.toNat then exec (.csrw e t) s0 = .next ((s.faultEntry e 0x02 (BitVec.ofNat 36 n) x.pc).csrSettle e)
        else
          (n = 0x011 → exec (.csrw e t) s0 = .next (a.modEngine e (fun y => { y with imask := o.setWidth 3 }))) ∧
          (∀ q < 4, n = 0x03C + q → exec (.csrw e t) s0 = .next (a.modEngine e (fun y => y.setSp q o))) ∧
          (n = 0x061 → exec (.csrw e t) s0 = .next (if o.getLsbD 35 then
            a.modEngine e (fun y => y.setCsrW e 0x061 (BitVec.ofNat 36 ((x.csrW e 0x060).toNat % 2 ^ 24))) else a)) ∧
          (n = 0x130 → exec (.csrw e t) s0 = .next (a.txdPut e o)) ∧
          (∀ q < 12, n = 0x100 + q → ∃ t', exec (.csrw e t) s0 = .next t' ∧ { t' with dbg := { t'.dbg with cmp := s.dbg.cmp } } = a ∧
            ∀ i < 36, (t'.dbg.cmp.get (fun _ => 0) (8 * e + (if q < 4 then q else q - 4))).getLsbD i =
              (o.getLsbD i && acc i == some .rw)) ∧
          (counter → ∃ t', exec (.csrw e t) s0 = .next t' ∧ (t'.engine e).csrW e n = o ∧ t'.mem = s.mem ∧
            ∀ k, ¬ (0x140 ≤ k ∧ k ≤ 0x143) → (t'.engine e).csrW e k = x.csrW e k) ∧
          (n ≠ 0x011 → ¬ (0x03C ≤ n ∧ n ≤ 0x03F) → ¬ (0x100 ≤ n ∧ n ≤ 0x10B) → n ≠ 0x061 → n ≠ 0x130 → ¬ counter →
            ∃ v : Word, exec (.csrw e t) s0 = .next (a.modEngine e (fun y => y.setCsrW e n v)) ∧
              ∀ i < 36, v.getLsbD i = (match acc i with
                | some .rw => o.getLsbD i
                | some .w1c => (x.csrW e n).getLsbD i && !o.getLsbD i
                | _ => (x.csrW e n).getLsbD i)))

/-- R217, R218, R222, R258 and R269: the triggers of stm. State.stmCheck and State.saveRefused are the address checks of R218. -/
def Obligations.StreamTriggersStartSaveAndRestore : Prop :=
  ∀ (e : EngId) (t : Word) (s : State),
    let x := s.engine e
    let src := x.port 0x241
    let dst := x.port 0x242
    let o := x.port 0x240
    let busy := x.stm.op ≠ 0 ∧ x.stm.susp = false
    let starts := fun (c : Instr) (op k n : Nat) =>
      ((if op = 4 then 2048 else 65536) < t.toNat → exec c s = .next (s.faultEntry e 0x01 0 x.pc)) ∧
      (∀ code ea, s.stmCheck e op src dst o t = some (.code code ea) → exec c s = .next (s.faultEntry e code ea x.pc)) ∧
      (s.stmCheck e op src dst o t = none →
        (x.longop ≠ none → exec c s = .next (s.takeTrap e .longop x.pc)) ∧
        (x.longop = none → busy → ∃ h : HeldTrig, h.socket = k ∧ h.a = o ∧ h.b = src ∧ h.c = dst ∧ h.t = t ∧ h.pc = x.pc ∧ h.branch = x.branch ∧
          exec c s = .next ((s.setEngine e { x with held := x.held ++ [h] }).waitBegin e)) ∧
        (x.longop = none → ¬ busy → t = 0 → exec c s = .next (s.withEngineAfter e x)) ∧
        (x.longop = none → ¬ busy → t ≠ 0 → exec c s = .next (s.withEngineAfter e { x with stm :=
          { op := op, cnt := n, src := src, dst := dst, opnd := o, susp := false, start := x.cyc + 3, rcd := [] } })))
    let area := canonOf e t.toNat
    starts (.copy e t) 1 0x250 t.toNat ∧ starts (.fill e t) 2 0x251 t.toNat ∧ starts (.gath e t) 3 0x252 t.toNat ∧
    starts (.ingest e t) 4 0x253 (4 * t.toNat) ∧
    (t.toNat % 8 ≠ 0 → exec (.save e t) s = .next (s.faultEntry e 0x03 t x.pc) ∧ exec (.restore e t) s = .next (s.faultEntry e 0x03 t x.pc)) ∧
    (s.saveRefused e t.toNat true = none → x.longop = none → ¬ busy → ∃ w0 w1 w2 w3 : Word,
      exec (.save e t) s = .next ((s.setWords area [w0, w1, w2, w3]).withEngineAfter e ((s.setWords area [w0, w1, w2, w3]).engine e)) ∧
      w0.toNat = (if x.stm.op = 0 then 0 else x.stm.op % 8 * 2 ^ 33 + x.stm.cnt % 2 ^ 17) ∧ w1 = (if x.stm.op = 0 then 0 else x.stm.src) ∧
      w2 = (if x.stm.op = 0 then 0 else x.stm.dst) ∧ w3 = (if x.stm.op = 0 then 0 else x.stm.opnd)) ∧
    (s.saveRefused e t.toNat false = none → s.badWord area 16 = none → x.longop = none → ¬ busy →
      let s1 := s.softReads area 16 (.engine e)
      let w0 := (s1.word area).toNat
      if 5 ≤ w0 / 2 ^ 33 then exec (.restore e t) s = .next (s.faultEntry e 0x01 0 x.pc)
      else ∃ y : Engine, exec (.restore e t) s = .next (s1.withEngineAfter e y) ∧ { y with stm := x.stm } = { s1.engine e with stm := x.stm } ∧
        y.stm.op = w0 / 2 ^ 33 ∧ y.stm.cnt = (if w0 / 2 ^ 33 = 0 then 0 else w0 % 2 ^ 17) ∧
        (w0 / 2 ^ 33 ≠ 0 → y.stm.src = s1.word (area + 4) ∧ y.stm.dst = s1.word (area + 8) ∧ y.stm.opnd = s1.word (area + 12) ∧
          y.stm.susp = true))

/-- R217 and R219: the completion of a stream operation; State.ingestRecord is a record, or an absent one (R219). -/
def Obligations.StreamOperationsWriteTheirWords : Prop :=
  ∀ (e : EngId) (s : State) (stop : Option (Nat × Bool)) (n : Nat),
    let x := s.engine e
    let m := x.stm
    let runs := s.unitRuns e (fun x => x.awaitsLong 0x250 0x255) = true
    ((m.op = 0 ∨ m.susp = true ∨ ¬ runs) → exec (.stmComplete e stop) s = .next s) ∧
    (1 ≤ m.op → m.op ≤ 4 → m.susp = false → runs → x.longop = none → 0 < m.cnt → (m.op = 4 → m.cnt % 4 = 0) →
      (∀ h ∈ x.held, ¬ (0x250 ≤ h.socket ∧ h.socket ≤ 0x255)) →
      m.dst.toNat % 4 = 0 → m.dst.toNat + 4 * m.cnt ≤ 0x10000 → s.memHeld (spadBase e) = false →
      let base := spadBase e + m.dst.toNat
      let from' := fun (j : Nat) => canonOf e (if m.op = 1 then m.src + BitVec.ofNat 36 (4 * j) else m.src + m.opnd * BitVec.ofNat 36 j).toNat
      (m.op = 1 ∨ m.op = 3 → ∀ j < m.cnt, s.isBad (from' j) = false ∧ s.isSoft (from' j) = false ∧ (from' j / 4 < base / 4 ∨ base / 4 + m.cnt ≤ from' j / 4)) →
      let writes := fun (t : State) (n : Nat) =>
        (∀ j < n, t.word (base + 4 * j) =
          if m.op = 2 then m.opnd
          else if m.op = 4 then (s.ingestRecord e ((m.src.toNat + j / 4) % 2 ^ 15)).getD (j % 4) 0
          else s.word (from' j)) ∧
        (∀ a, ¬ (base ≤ a ∧ a < base + 4 * n) → t.byte a = s.byte a) ∧
        (t.engine e).stm.op = 0 ∧ { t.engine e with stm := m, resv := x.resv, longop := x.longop } = x ∧
        (∀ f, f ≠ e.val → { t.engine f with resv := (s.engine f).resv } = s.engine f) ∧
        { t with mem := s.mem, eccSoft := s.eccSoft, eccBad := s.eccBad, eng := s.eng } = s
      (∃ t, exec (.stmComplete e none) s = .next t ∧ writes t m.cnt ∧ (t.engine e).longop = none) ∧
      (n < m.cnt → ∃ t, exec (.stmComplete e (some (n, false))) s = .next t ∧ writes t n ∧
        (t.engine e).longop = some (if m.op = 1 then m.src + BitVec.ofNat 36 (4 * n) else if m.op = 3 then m.src + m.opnd * BitVec.ofNat 36 n
          else m.dst + BitVec.ofNat 36 (4 * n))))

/-- R64 to R66, R76, R82 to R88, R92, R94, R97 and R112: the six triggers. State.pushRecord reads the four words as the engine's loads see them. The ownership check behind MEM_PROT, the words of pop and peek written at once and an overflow drop counted at the trigger are the model's (notes/assumptions/49.md). -/
def Obligations.ChioCommandsAnswerAsTheirTableSays : Prop :=
  ∀ (e : EngId) (t : Word) (s : State),
    let x := s.engine e
    let c := t.toNat % 2 ^ 15
    let k := sectOf e
    let a := (x.port 0x260).toNat
    let stWord := fun (code flags : Nat) (exp lost chk : Bool) (w : Word) =>
      fld w 3 0 = code ∧ bit w 4 = chk ∧ bit w 5 = lost ∧ bit w 6 = exp ∧ bit w 7 = (s.ch c).tripB ∧ fld w 11 8 = flags % 16 ∧
      fld w 19 16 = (s.q c).stOcc % 16 ∧ fld w 24 20 = (s.q (32768 + c)).stOcc % 32 ∧ fld w 15 12 = 0 ∧ fld w 35 25 = 0
    let answers := fun (i : Instr) (s' : State) (y : Word) (S : Word → Prop) => ∃ st : Word, S st ∧
      exec i s = .next (s'.withEngineAfter e ((((s'.engine e).setResult 0x264 y).setResult 0x265 st).setDone uChio (s'.engine e).cyc))
    let owner := fun (i : Instr) (P : Prop) => if s.owns e c then P else answers i s 0 (· = 2)
    let aimed := fun (i : Instr) (n : Nat) (P : Prop) =>
      if a % 8 ≠ 0 ∨ 0x10000 ≤ a then exec i s = .next (s.faultEntry e 0x03 (x.port 0x260) x.pc)
      else if 0x10000 < a + n then exec i s = .next (s.faultEntry e 0x03 0x10000 x.pc)
      else owner i P
    let sl := s.slotOf c (s.readBeat k)
    let waits := sl.st = 0 ∧ s.streamed k = true ∧ s.laneDown (c / 2048) = false ∧ c % 2048 ∈ (s.laneMap (c / 2048)).up
    let expired := c / 2048 ∈ (s.sect k).laneExpired
    let late := decide (sl.st = 0 ∧ s.streamed k = true ∧ s.laneDown (c / 2048) = false ∧ expired)
    let pops := fun (i : Instr) (after : State → State) => aimed i 32
      (if (s.q c).popped then answers i s 0 (stWord 4 0 false false false)
       else if (s.q c).stOcc = 0 then answers i s 0 (stWord 3 0 false false false)
       else answers i (after ((s.popDrain e (spadBase e + a)).setWords (spadBase e + a) (s.q c).stWords)) 0 (stWord 0 0 false false false))
    if e.val = 192 then ∀ i ∈ [Instr.chioRd e t, .chioWr e t, .chioPop e t, .chioPeek e t, .chioPush e t, .chioOcc e t],
      exec i s = .next (s.faultEntry e 0x01 0 x.pc)
    else
      owner (.chioRd e t)
        (if waits ∧ ¬ expired then
           let p := s.drawNat 18
           let s1 := (p.2.setEngine e { x with waitRead := some { k := t.toNat / 2 ^ 16 % 4, ch := c, trig := x.cyc } }).sectStall k x.cyc (p.1 + 1)
           exec (.chioRd e t) s = .next (s1.withEngineAfter e (s1.engine e))
         else if sl.st = 1 then answers (.chioRd e t) s (sl.word (t.toNat / 2 ^ 16 % 4)) (stWord 0 (fld sl.w3 35 32) false false false)
         else answers (.chioRd e t) s 0 (stWord 1 0 late (sl.st == 3) (sl.st == 2))) ∧
      owner (.chioWr e t) (answers (.chioWr e t) (s.glvSetpoint e c (t.toNat / 2 ^ 16 % 16) (x.port 0x260)) 0 (stWord 0 0 false false false)) ∧
      pops (.chioPop e t) (fun s' => s'.qmPopStep c) ∧ pops (.chioPeek e t) (fun s' => s') ∧
      (a % 8 = 0 → a + 32 ≤ 0x10000 → s.owns e c = true → (s.q c).popped = false → 0 < (s.q c).stOcc → (s.q c).stWords.length = 8 →
        s.memHeld (spadBase e) = false → (∀ o ∈ x.oldStores, o.addr % 8 + o.bytes.length ≤ 8) → ∃ t', exec (.chioPeek e t) s = .next t' ∧
        ∀ j < 32, t'.byteSeen e (spadBase e + a + j) = byteOf ((s.q c).stWords.getD (j / 4) 0) (j % 4)) ∧
      aimed (.chioPush e t) 16
        (let r := s.pushRecord e a
         if (r.2.sect k).pushCnt < 1024 then
           answers (.chioPush e t) (r.2.setSect k { r.2.sect k with
             pushBuf := (r.2.sect k).pushBuf ++ [{ ch := c, words := r.1 }], pushCnt := (r.2.sect k).pushCnt + 1 }) 0 (stWord 0 0 false false false)
         else answers (.chioPush e t) (r.2.qmDrop (32768 + c)) 0 (stWord 5 0 false false false)) ∧
      owner (.chioOcc e t) (answers (.chioOcc e t) s 0 (stWord 0 0 false false false))

/-- R64 and R65: the wait limit; R184 and R185: the two halves of lim.y (port 0x284). -/
def Obligations.ExpiredReadsAndLimitHalves : Prop :=
  ∀ (e : EngId) (v : Word) (s : State),
    let x := s.engine e
    let k := sectOf e
    (x.waitRead = none → exec (.streamedWaitExpiry e) s = .next s) ∧
    (∀ w, x.waitRead = some w → ∃ t, exec (.streamedWaitExpiry e) s = .next t ∧
      (∃ st : Word, fld st 3 0 = 1 ∧ bit st 6 = true ∧ fld st 5 4 = 0 ∧
        let fl : Flight := { unit := uChio, due := w.trig + 3, trig := w.trig, writes := [(0x264, 0), (0x265, st)], flags := 0, enabled := 0, pc := x.pc }
        t.engine e = ({ x with waitRead := none, flights := insertFlight fl x.flights } : Engine).landUpTo e x.cyc) ∧
      (t.sect k).expired = min 15 ((s.sect k).expired + 1) ∧ (t.sect k).laneExpired = w.ch / 2048 :: (s.sect k).laneExpired ∧
      (∀ j, j ≠ k → t.sect j = s.sect j) ∧
      (∀ f, (s.engine f).waitRead = none → t.engine f = s.engine f) ∧ { t with eng := s.eng, sec := s.sec } = s) ∧
    (∀ hi : Bool, ∃ y : Word, exec (if hi then .limHi e v else .limLo e v) s = .next (s.setEngine e (x.setResult 0x284 y)) ∧
      y.toNat = if hi then v.toNat % 2 ^ 18 * 2 ^ 18 + (x.result 0x284).toNat % 2 ^ 18
        else (x.result 0x284).toNat / 2 ^ 18 * 2 ^ 18 + v.toNat % 2 ^ 18)

/-- R31, R89, R93 to R96, R98, R99 and R103: the Queue Manager's commands. State.handoffRefused is the list of R99. -/
def Obligations.QueuesKeepTheirOrderAndCountTheirDrops : Prop :=
  (∀ (s : State) (q : Nat) (ws : List Word) (start : State),
    let z := start.q q
    let depth := if q < 32768 then 8 else 16
    let n := if q < 32768 then 8 else 4
    let hi := start.getF .QM_THR F.QM_THR_REC_HIGH
    let pushed := fun (r : State × Nat) =>
      if depth ≤ z.occ then
        (if q < 32768 then r = (start, 1)
         else r.2 = 2 ∧ r.1 = ((start.setQ q { z with drops := min 255 (z.drops + 1) }).setF .QM_DROPS F.QM_DROPS_COUNT
           (min (2 ^ (F.QM_DROPS_COUNT.1 + 1 - F.QM_DROPS_COUNT.2) - 1) (start.getF .QM_DROPS F.QM_DROPS_COUNT + 1))))
      else r.2 = 0 ∧
        (let t := (start.setWords (0x040000000 + q * 0x100 + (z.head + z.occ) % depth * (4 * n)) (ws.take n)).setQ q
          { z with occ := z.occ + 1, drops := 0, tags := z.tags ++ [z.drops] }
         r.1 = if 32768 ≤ q ∧ z.occ < hi ∧ hi ≤ z.occ + 1 then t.qmEvent q (z.occ + 1) else t)
    (∀ w : Word, start = s → q = fld w 15 0 → ws = (List.range 8).map (fun j => s.reg (.QM_PUSH_D j)) → s.getF .QM_PUSH F.QM_PUSH_STS ≠ 3 →
      ∃ r, pushed r ∧ exec (.qmPush w) s = .next { r.1.setF .QM_PUSH F.QM_PUSH_STS 3 with qmBusy := some r.2 }) ∧
    (∀ (k : SectId) (p : PushEntry) (l : List PushEntry), (s.sect k).pushBuf = p :: l → q = 32768 + p.ch → ws = p.words →
      start = s.setSect k { s.sect k with pushBuf := l } → ∃ r, pushed r ∧ exec (.pushReachQm k) s = .next r.1)) ∧
  (∀ (s : State) (w : Word) (k : SectId),
    (s.getF .QM_PUSH F.QM_PUSH_STS = 3 → exec (.qmPush w) s = .next s) ∧
    ((s.sect k).pushBuf = [] → exec (.pushReachQm k) s = .next s) ∧
    (∀ r, s.qmBusy = some r → exec .qmPushDone s = .next { s.setF .QM_PUSH F.QM_PUSH_STS r with qmBusy := none }) ∧
    (s.qmBusy = none → exec .qmPushDone s = .next s) ∧
    exec .qmEvtRead s = .next { s with qmEvts := s.qmEvts.drop 1 } ∧
    (s.getF .QM_HOFF F.QM_HOFF_STS = 1 → exec (.handoffArm w) s = .next s ∧
      ∃ v : Word, exec (.handoffCancel w) s = .next (s.setReg .QM_HOFF v) ∧ fld v 34 33 = 0 ∧ bit v 35 = false ∧
        fld v 32 0 = fld (s.reg .QM_HOFF) 32 0) ∧
    (s.getF .QM_HOFF F.QM_HOFF_STS ≠ 1 → ∃ v : Word, exec (.handoffArm w) s = .next (s.setReg .QM_HOFF v) ∧
      fld v 32 16 = fld w 32 16 ∧ fld v 14 0 = fld w 14 0 ∧
      (let b := s.getF .QM_HOFF_BEAT F.QM_HOFF_BEAT_BEAT
       let early := s.beatNum + 2 < 2 ^ 36 ∧ b < s.beatNum + 2 ∧ s.beatNum + 2 - b ≤ 2 ^ 35
       let late := s.beatNum + 2 ≤ b ∧ b - (s.beatNum + 2) < 2 ^ 35
       let refused := s.handoffRefused (fld w 32 25) (fld w 14 0) (fld w 24 16) = true
       (early ∨ refused → fld v 34 33 = 3) ∧ (late → ¬ refused → fld v 34 33 = 1 ∧ bit v 35 = true)) ∧
      ∃ v : Word, exec (.handoffCancel w) s = .next (s.setReg .QM_HOFF v) ∧ fld v 32 16 = fld w 32 16 ∧ fld v 14 0 = fld w 14 0 ∧
        fld v 35 33 = fld (s.reg .QM_HOFF) 35 33))

/-- R136 to R141, R151, R156, R158, R174, R176 and R246: the issue of a bundle. opAt is the operation of a trigger, as the command of its row performs it; State.atBoundary is what the boundary finds. -/
def Obligations.BundlesMoveTheirValuesAndStartTheirUnits : Prop :=
  (∀ (e : EngId) (ups : List Upset) (s : State), let u := (s.upset ups).upsetCache e ups
    u.mayRun e = false → exec (.bundleIssue e ups) s = .next u) ∧
  (∀ (e : EngId) (way : Fin 2) (s : State),
    let x := s.engine e
    (x.icMiss = none ∨ s.engStalled e = true → exec (.icacheFill e way) s = .next s) ∧
    (∀ base ready, x.icMiss = some (base, ready) → x.halted = false → x.cyc < ready → exec (.icacheFill e way) s = .next s) ∧
    (∀ base ready, x.icMiss = some (base, ready) → s.engStalled e = false → x.halted = true ∨ ready ≤ x.cyc →
      let s1 := s.softReads base 32 (.engine e)
      (s1.badWord base 32 = none → ∃ y : Engine, exec (.icacheFill e way) s = .next (s1.setEngine e y) ∧ y.icMiss = none ∧ y.iDirect = none ∧
        (∀ k, SMap.get (fun _ => none) y.icache k = if k = base / 32 % 256 * 2 + way then some { base := base, words := s.words base 8 }
          else SMap.get (fun _ => none) x.icache k) ∧
        (∀ k, (k ∈ y.iSoft ↔ k ∈ x.iSoft ∧ k / 8 ≠ base / 32) ∧ (k ∈ y.iBad ↔ k ∈ x.iBad ∧ k / 8 ≠ base / 32)) ∧
        { y with icache := x.icache, icMiss := x.icMiss, iDirect := x.iDirect, iSoft := x.iSoft, iBad := x.iBad } = s1.engine e) ∧
      (∀ k, s1.badWord base 32 = some k →
        let s2 := s1.setEngine e { s1.engine e with icMiss := none, iDirect := some base }
        (∀ ea w, s2.fetchBundle e = .fault 0x09 ea w → exec (.icacheFill e way) s = .next s2) ∧
        ((∀ ea w, s2.fetchBundle e ≠ .fault 0x09 ea w) → exec (.icacheFill e way) s = .next (s2.eccUncorrectable k))))) ∧
  (∀ (k nx : Nat) (e : EngId) (v : Word) (s : State) (r : OpRes), opAt k nx s e v = .ok r → r.writes ≠ [] → r.lat =
    if k < 0x098 then 1 else if k < 0x0B5 then [3, 3, 3, 1, 2].getD (k - 0x0B0) 0 else if k < 0x12C then 3
    else if k < 0x159 then [1, 1, 2, 2, 2, 4, 4, 4, 5].getD (k - 0x150) 0 else if k < 0x168 then 3 else if k = 0x222 then 1 else 2) ∧
  (∀ (e : EngId) (ups : List Upset) (s : State),
    let u := (s.upset ups).upsetCache e ups
    let s0 := u.atBoundary e
    let x := s0.engine e
    let goes := fun (t : State) => exec (.bundleIssue e ups) s = .next t
    let movesOnly := fun (ms : List Move) => (∀ m ∈ ms, trigUnit m.dst = none ∧ m.dst ≠ 0x280 ∧ m.dst ≠ 0x281) ∧ (∀ m ∈ ms, m.resUnit = none)
    let moved := fun (ms : List Move) (nx : Nat) =>
      let ex := fun (k : Nat) (v : Word) => ∃ m ∈ ms, m.never = false ∧ m.dst = k ∧ x.guard m = true ∧ v = x.srcVal m
      let keeps := fun (k : Nat) => ∀ m ∈ ms, m.dst = k → m.never = true ∨ x.guard m = false
      ∃ y : Engine, goes (s0.setEngine e y) ∧ y.pc = BitVec.ofNat 36 nx ∧ y.cyc = x.cyc + 1 ∧
        (∀ i < 32, (∀ v, ex i v → y.dReg i = v) ∧ (keeps i → y.dReg i = x.dReg i)) ∧
        (∀ i < 16, (∀ v, ex (0x20 + i) v → y.aReg i = v) ∧ (keeps (0x20 + i) → y.aReg i = x.aReg i)) ∧
        (∀ i, 1 ≤ i → i < 8 → (∀ v, ex (0x30 + i) v → (y.pReg i = true ↔ v ≠ 0)) ∧ (keeps (0x30 + i) → y.pReg i = x.pReg i)) ∧
        (∀ k, 0x38 ≤ k → (∀ v, ex k v → y.port k = v) ∧ (keeps k → y.port k = x.port k)) ∧
        { y with d := x.d, a := x.a, sp := x.sp, p := x.p, opnd := x.opnd, pc := x.pc, cyc := x.cyc, bundlePc := x.bundlePc,
                 exemptOnce := x.exemptOnce, fresh := x.fresh, early := x.early } = x
    u.mayRun e = true → x.haltReq = none → s0.boundaryEvent e = none →
    x.efWait = false → x.waits = false → x.flights = [] → x.aInc = [] → x.branch = none → x.stepLeft = none → x.csrLate = none →
    s0.brkHits e x.pc.toNat = [] → x.divOp = none → x.fplOp = none → x.loads0 = [] → x.loads1 = [] →
    (∀ c ea k, s0.fetchBundle e = .fault c ea k → goes ((match k with
      | some (ca, false) => s0.eccUncorrectable ca
      | some (ca, true) => if e.val < 192 then s0.eccLog (e / 32) ca else s0
      | none => s0).faultEntry e c ea x.pc)) ∧
    (∀ base, s0.fetchBundle e = .miss base → x.perf e = true →
      let y := if x.icMiss.map (·.1) = some base then x else { x with icMiss := some (base, x.cyc + 10) }
      goes (s0.setEngine e { y.countCsr e 0x146 1 with cyc := x.cyc + 1 })) ∧
    (∀ ms nx long, s0.fetchBundle e = .bundle ms nx long → s0.fetchSeen e x.pc.toNat nx = s0 → s0.bundleIllegal e ms long = true →
      goes (s0.faultEntry e 0x01 0 x.pc)) ∧
    (∀ ms nx, s0.fetchBundle e = .bundle ms nx false → s0.fetchSeen e x.pc.toNat nx = s0 → s0.bundleIllegal e ms false = false → movesOnly ms →
      (s0.pairs e = false → moved ms nx) ∧
      (∀ ms' ny, s0.pairs e = true → (s0.setEngine e { x with pc := BitVec.ofNat 36 nx }).fetchBundle e = .bundle ms' ny false →
        s0.bundleIllegal e ms' false = false → movesOnly ms' → s0.brkHits e nx = [] → s0.fetchSeen e nx ny = s0 → moved (ms ++ ms') ny)) ∧
    (∀ m nx u, s0.fetchBundle e = .bundle [m] nx false → s0.fetchSeen e x.pc.toNat nx = s0 → s0.bundleIllegal e [m] false = false → s0.pairs e = false →
      trigUnit m.dst = some u → u ≠ uCu → u ≠ uLsu0 → u ≠ uLsu1 → m.resUnit = none → m.never = false → x.guard m = true →
      let v := x.srcVal m
      let s1 := s0.setEngine e { x with bundlePc := x.pc, exemptOnce := false, fresh := false, early := [] }
      (s0.setEngine e x).trigFault e m.dst nx v = none → ∀ r, opAt m.dst nx s1 e v = .ok r →
        let z := r.st.engine e
        z.branch = none → z.fence = none → z.efWait = false → z.stepLeft = none →
        (r.writes = [] ∧ r.flags = 0 ∨ ∃ f : Flight, f.unit = u ∧ f.due = z.cyc + 1 + r.lat ∧ f.writes = r.writes ∧ f.flags = r.flags ∧
          goes (r.st.setEngine e ({ z with flights := insertFlight f z.flights, cyc := z.cyc + 1, pc := BitVec.ofNat 36 nx }))) ∧
        (r.writes = [] → r.flags = 0 → goes (r.st.setEngine e { z with cyc := z.cyc + 1, pc := BitVec.ofNat 36 nx }))))

/-- R240, R246 to R249, R256, R258, R273, R275 and R452: State.intPending is Table 9.6, State.acceptPoint is R247, State.fate the bundle at the boundary. CSR 0x068 + 2n is TMRn_CTL, 0x069 + 2n its count, 0x060 and 0x061 the watchdog. -/
def Obligations.InterruptsTimersAndTheWatchdog : Prop :=
  (∀ (e : EngId) (s : State),
    let b := s.atBoundary e
    let x := b.engine e
    let at' := fun (k : Nat) => (x.csrW e 0x024).toNat + 4 * (0x20 + k)
    let word := fun (k : Nat) (w : Word) => ∃ ca, ctrlLoc e (at' k) = some ca ∧ b.isBad ca = false ∧ b.word ca = w
    let level := fun (k lv : Nat) => (∃ w, word k w ∧ lv = if bit w 35 then fld w 33 31 else 0) ∨ ((¬ ∃ w, word k w) ∧ lv = 7)
    let ready := fun (k : Nat) => b.intPending e k = true ∧ x.irqReady k = true
    let best := fun (k lv : Nat) => k < 14 ∧ ready k ∧ level k lv ∧ x.imask.toNat < lv ∧
      ∀ j < 14, j ≠ k → ready j → ∃ l, level j l ∧ (l < lv ∨ (l = lv ∧ k < j))
    let free := s.mayRun e = true ∧ b.acceptPoint e = true ∧ x.stepNoInt = false ∧ x.haltReq = none ∧ x.fpShort = none ∧ b.preciseFault e = false ∧
      (x.efWait = true ∨ b.beginsStall e = false)
    let wdt := ∃ c, x.wdtPend = some c ∧ c ≤ x.cyc
    (∀ k < 14, b.intPending e k = true → (∀ p ∈ ((s.tick e).engine e).irqSince, p.1 ≠ k) → x.irqReady k = false) ∧
    (s.mayRun e = false ∨ b.acceptPoint e = false ∨ x.stepNoInt = true ∨ b.preciseFault e = true ∨ b.haltFirst e = true ∨
        (x.fpShort ≠ none ∧ x.branch = none ∧ x.fence = none) ∨ (x.efWait = false ∧ b.beginsStall e = true) ∨
        (wdt ∧ x.fpLong = none ∧ x.longop = none) →
      exec (.interruptAccept e) s = .next s) ∧
    ((∀ k < 14, ready k → ∃ l, level k l ∧ l ≤ x.imask.toNat) → exec (.interruptAccept e) s = .next s) ∧
    (∀ k lv, free → best k lv →
      (x.fpLong ≠ none → exec (.interruptAccept e) s = .next (b.takeTrap e .fpLong x.pc x.efWait)) ∧
      (x.fpLong = none → x.longop ≠ none → exec (.interruptAccept e) s = .next (b.takeTrap e .longop x.pc x.efWait)) ∧
      (x.fpLong = none → x.longop = none → ¬ wdt →
        (∀ w, word k w → exec (.interruptAccept e) s = .next
          ((b.vectorSeen e (0x20 + k)).enter e 1 (0x20 + k) 0 0 x.pc (min (fld w 34 34) x.ring.toNat) (fld w 33 31) (fld w 30 0) x.efWait)) ∧
        ((¬ ∃ w, word k w) → ∃ t, exec (.interruptAccept e) s = .next t ∧
          let c := (b.vectorSeen e (0x20 + k)).csrSettle e
          c.StackFails t e (c.frame e x.pc ((c.engine e).entryEsts e 1 0) x.efWait) (BitVec.ofNat 36 (at' k)))))) ∧
  (∀ (e : EngId) (ups : List Upset) (s : State),
    let u := (s.upset ups).upsetCache e ups
    let b := u.atBoundary e
    let x := b.engine e
    let stallFirst := b.beginsStall e = true ∧ x.fpShort ≠ none ∧ x.branch = none
    u.mayRun e = true → x.haltReq = none → x.efWait = false → x.waits = false →
      (stallFirst → exec (.bundleIssue e ups) s = .next (b.fpShortFault e)) ∧
      (∀ tr pre post, ¬ stallFirst → b.fate e = .fault tr pre post → pendingKind tr = 0 →
        exec (.bundleIssue e ups) s = .next (post.takeTrap e tr (pre.engine e).pc)) ∧
      (∀ pre post, ¬ stallFirst → b.fate e = .issue pre post →
        let z := pre.engine e
        (z.fpShort ≠ none → z.branch = none → exec (.bundleIssue e ups) s = .next (pre.fpShortFault e)) ∧
        (z.fpShort = none → pre.acceptPoint e = true → (z.stepNoInt = true ∨ (z.fpLong = none ∧ z.longop = none)) →
          ∀ c, z.wdtPend = some c → c ≤ z.cyc →
          exec (.bundleIssue e ups) s = .next ((pre.setEngine e { z with wdtPend := none }).faultEntry e 0x11 0 z.pc z.efWait)))) ∧
  (∀ (e : EngId) (n : Fin 2) (s : State),
    let x := s.engine e
    let ctl := x.csrW e (0x068 + 2 * n)
    (bit ctl 35 = false ∨ x.halted = true ∨ (bit ctl 32 = false ∧ s.engStalled e = true) → exec (.timerExpire e n) s = .next s) ∧
    (bit ctl 35 = true → x.halted = false → (bit ctl 32 = true ∨ s.engStalled e = false) → fld (x.csrW e (0x069 + 2 * n)) 23 0 ≠ 0 → ∃ y : Engine, exec (.timerExpire e n) s = .next (s.setEngine e y) ∧
      bit (y.csrW e (0x068 + 2 * n)) 33 = true ∧ (∀ i < 36, i ≠ 33 → bit (y.csrW e (0x068 + 2 * n)) i = bit ctl i) ∧
      (y.csrW e (0x069 + 2 * n)).toNat = (if bit ctl 34 then fld ctl 23 0 else 0) ∧
      (∀ k, k ≠ 0x068 + 2 * n.val → k ≠ 0x069 + 2 * n.val → y.csrW e k = x.csrW e k) ∧ { y with csr := x.csr } = x) ∧
    (bit (x.csrW e 0x060) 35 = false ∨ x.halted = true ∨ s.engStalled e = true → exec (.watchdogExpire e) s = .next s) ∧
    (bit (x.csrW e 0x060) 35 = true → x.halted = false → s.engStalled e = false → ∃ y : Engine, exec (.watchdogExpire e) s = .next (s.setEngine e y) ∧ y.wdtPend = some (x.cyc + 2) ∧
      bit (y.csrW e 0x060) 33 = true ∧ (∀ i < 36, i ≠ 33 → bit (y.csrW e 0x060) i = bit (x.csrW e 0x060) i) ∧
      (y.csrW e 0x061).toNat = fld (x.csrW e 0x060) 23 0 ∧ (∀ k, k ≠ 0x060 → k ≠ 0x061 → y.csrW e k = x.csrW e k) ∧
      { y with csr := x.csr, wdtPend := x.wdtPend } = x))

/-- R122, R132, R446, R450 to R456, R459 and R465 to R467. dbgEntryOk is R446; State.canHalt is the boundary of R451. That an engine in a step counts as halted is the model's reading (notes/assumptions/48.md). -/
def Obligations.HaltsResumesAndTheGong : Prop :=
  (∀ (m : Master) (n : EngId) (s : State),
    let x := s.engine n
    let last := n.val < 192 ∧ (List.range 32).all (fun i => sectOf n * 32 + i == n.val || !(s.engine (sectOf n * 32 + i)).inHalt) = true
    (dbgEntryOk m n = false → exec (.haltRequest m n) s = .next s ∧ exec (.resume m n) s = .next s) ∧
    (dbgEntryOk m n = true → ∃ t, exec (.haltRequest m n) s = .next t ∧ (∀ r, t.reg r = s.reg r) ∧ { t with regs := s.regs, eng := s.eng } = s ∧
      (∀ k, t.engine k = if k = n.val ∧ x.halted = false ∧ x.locked = false ∧ x.fenced = false ∧ x.haltReq = none
        then { x with haltReq := some 1, haltComp := 0, cmpStop := false } else s.engine k)) ∧
    (dbgEntryOk m n = true → x.halted = true → ∃ t, exec (.resume m n) s = .next t ∧ (t.engine n).halted = false ∧ (t.engine n).haltReq = none ∧
      (t.engine n).stepLeft = none ∧ (t.engine n).exemptOnce = true ∧ (∀ k, k ≠ n.val → t.engine k = s.engine k) ∧
      t.getF (.DBG_ESTS n) F.DBG_ESTS_HITS = 0 ∧
      (∀ k, (t.sect k).dbgRestart = if last ∧ k = sectOf n then true else (s.sect k).dbgRestart) ∧
      let ends := fun (c : Nat) => last ∧ ownedBy (sectOf n) (s.ch c) = true ∧ (s.ch c).g0.cause = 0x1A ∧ 2 ≤ (s.ch c).g0.state
      (∀ c, (¬ ends c → t.ch c = s.ch c) ∧ (ends c → ¬ s.glvSound c → (s.ch c).takes true 0x1D 2 (t.ch c)) ∧
        (ends c → s.glvSound c → (t.ch c).g0.state = 1 ∧ (t.ch c).g0.cause = 0 ∧ (t.ch c).g0.act = 0)) ∧
      ((∀ c, ends c → s.glvSound c) → (∀ r, r ≠ .DBG_ESTS n → t.reg r = s.reg r) ∧
        { t with regs := s.regs, eng := s.eng, sec := s.sec, chan := s.chan } = s)) ∧
    (x.halted = false → exec (.resume m n) s = .next s) ∧
    (x.haltReq = none ∨ x.halted = true ∨ s.canHalt n = false → exec (.halt n) s = .next s) ∧
    (x.haltReq ≠ none → x.halted = false → s.canHalt n = true →
      let b0 := (s.atBoundary n).csrSettle n
      let b := if n.val = 192 then b0.swdtCatch else b0
      let z := b.engine n
      let first := n.val < 192 ∧ b.anyHalted (sectOf n) = false
      ∀ c, z.haltReq = some c → b.seq.haltWait = [] → ∃ t, exec (.halt n) s = .next t ∧
      (z.fence = none → t.engine n = { z with halted := true, haltReq := none, stepLeft := none, stepNoInt := false, resv := none, cntDue := true }) ∧
      (t.engine n).halted = true ∧ (t.engine n).resv = none ∧ (∀ q, z.fence ≠ none → z.branch = none → z.nextPc = some q → (t.engine n).pc = q) ∧
      (∀ k, k ≠ n.val → t.engine k = b.engine k) ∧ t.getF (.DBG_ESTS n) F.DBG_ESTS_CAUSE = c.toNat ∧
      (∀ k, (t.sect k).dbgHalted = if first ∧ k = sectOf n then true else (b.sect k).dbgHalted) ∧
      let parks := fun (d : Nat) => first ∧ ownedBy (sectOf n) (b.ch d) = true
      (∀ d, (¬ parks d → t.ch d = b.ch d) ∧ (parks d → ¬ b.glvSound d → (b.ch d).takes true 0x1D 2 (t.ch d)) ∧
        (parks d → b.glvSound d → if (b.ch d).g0.state < 2 then (b.ch d).takes false 0x1A (b.ch d).g0.actHalt (t.ch d) else t.ch d = b.ch d)) ∧
      ((∀ d, parks d → b.glvSound d) → (∀ r, r ≠ .DBG_ESTS n → t.reg r = b.reg r) ∧
        { t with regs := b.regs, eng := b.eng, sec := b.sec, chan := b.chan } = b))) ∧
  (∀ (m : Master) (g : Fin 8) (e : EngId) (w : Word) (s : State),
    let owed := SMap.get (fun _ => 0) s.dbg.deliver g
    let buf := SMap.get (fun _ => none) s.dbg.txd e
    (dbgEntryOk m 0 = false → exec (.gongFire m g) s = .next s) ∧
    (dbgEntryOk m 0 = true → ∃ t, exec (.gongFire m g) s = .next t ∧ s.onlyRegs { t with dbg := s.dbg } (· = .DBG_GONG g) ∧
      t.getB (.DBG_GONG g) F.DBG_GONG_FIRED = true ∧
      t.getF (.DBG_GONG g) F.DBG_GONG_COUNT = min (2 ^ 16 - 1) (s.getF (.DBG_GONG g) F.DBG_GONG_COUNT + 1) ∧
      fld (t.reg (.DBG_GONG g)) 33 30 = fld (s.reg (.DBG_GONG g)) 33 30 ∧ SMap.get (fun _ => 0) t.dbg.deliver g = owed + 1 ∧
      (∀ k, k ≠ g.val → SMap.get (fun _ => 0) t.dbg.deliver k = SMap.get (fun _ => 0) s.dbg.deliver k) ∧
      { t.dbg with deliver := s.dbg.deliver } = s.dbg) ∧
    (owed = 0 → exec (.gongDelivery g) s = .next s) ∧
    (0 < owed → ∃ t, exec (.gongDelivery g) s = .next t ∧ SMap.get (fun _ => 0) t.dbg.deliver g = owed - 1 ∧
      { t with dbg := s.dbg, eng := s.eng } = s ∧
      (∀ n, t.engine n = let x := s.engine n
        if n < 193 ∧ bit (s.reg (.DBG_ECTL n)) (24 + g) = true ∧ x.halted = false ∧ x.locked = false ∧ x.fenced = false ∧ x.haltReq = none
        then { x with haltReq := some 2, haltComp := 0, cmpStop := false } else x)) ∧
    (∃ t, exec (.txdWrite e w) s = .next t ∧ { t with dbg := s.dbg } = s ∧
      SMap.get (fun _ => none) t.dbg.txd e = (if buf = none then some (BitVec.ofNat 36 (w.toNat % 2 ^ 32)) else buf) ∧
      SMap.get (fun _ => false) t.dbg.txLost e = (if buf = none then SMap.get (fun _ => false) s.dbg.txLost e else true) ∧
      (∀ k, k ≠ e.val → SMap.get (fun _ => none) t.dbg.txd k = SMap.get (fun _ => none) s.dbg.txd k ∧
        SMap.get (fun _ => false) t.dbg.txLost k = SMap.get (fun _ => false) s.dbg.txLost k) ∧
      { t.dbg with txd := s.dbg.txd, txLost := s.dbg.txLost } = s.dbg) ∧
    (∃ t, exec (.rxdRead e) s = .next t ∧ SMap.get (fun _ => none) t.dbg.rxd e = none ∧
      (∀ k, k ≠ e.val → SMap.get (fun _ => none) t.dbg.rxd k = SMap.get (fun _ => none) s.dbg.rxd k) ∧
      { t with dbg := { t.dbg with rxd := s.dbg.rxd } } = s))

/-- R107, R120, R121, R123, R133, R135 and R423: Chan.takes is the effect of a cause on a channel. The refusal of a channel that no limits image covers is the model's reading (notes/assumptions/18.md). -/
def Obligations.GloveCommandsParkReleaseAndReport : Prop :=
  ∀ (first : Fin 32768) (count : Fin 512) (s : State),
    let busy := s.getF .GLV_CMD F.GLV_CMD_STS = 1
    let inBlock := fun (c : Nat) => first.val ≤ c ∧ c < first.val + count.val
    let usable := 1 ≤ count.val → count.val ≤ 256 → first.val + count.val ≤ 32768 → ∀ d, inBlock d → s.glvSound d
    let refused := fun (c : Nat) => let x := s.ch c
      192 ≤ x.g0.owner ∨ s.running (x.g0.owner / 32) = false ∨ s.devState = 6 ∨ x.populated = false ∨ x.g0.cause = 0x1D ∨
      s.getB .GLV_CTL F.GLV_CTL_LOCK = false ∨ x.covered = false
    let accepts := fun (c : Instr) (C : Nat → Chan → Chan → Prop) (r : Bool) => ∃ t, exec c s = .next t ∧
      t.getF .GLV_CMD F.GLV_CMD_FIRST = first.val ∧ t.getF .GLV_CMD F.GLV_CMD_COUNT = count.val ∧
      (∀ q, q ≠ .GLV_CMD → q ≠ .GLV_STS → t.reg q = s.reg q) ∧
      (if count.val = 0 then t.getF .GLV_CMD F.GLV_CMD_STS = 0 ∧ { t with regs := s.regs } = s ∧ t.reg .GLV_STS = s.reg .GLV_STS
       else if 256 < count.val ∨ 32768 < first.val + count.val then
        t.getF .GLV_CMD F.GLV_CMD_STS = 3 ∧ { t with regs := s.regs } = s ∧ t.reg .GLV_STS = s.reg .GLV_STS
       else t.getF .GLV_CMD F.GLV_CMD_STS = 1 ∧ t.glvCmd = some r ∧ (∀ d, C d (s.ch d) (t.ch d)) ∧
        (t.getB .GLV_STS F.GLV_STS_REL_REJ = (s.getB .GLV_STS F.GLV_STS_REL_REJ || r)) ∧
        { t with regs := s.regs, chan := s.chan, glvCmd := s.glvCmd } = s)
    (busy → exec (.glvCmdPark first count) s = .next s ∧ exec (.glvCmdRelease first count) s = .next s) ∧
    (¬ busy → usable → accepts (.glvCmdPark first count) (fun d x y =>
      if inBlock d then x.takes false 0x19 x.g0.actPark y ∧
        fld y.g0.w7 14 0 = (if y.g0.state = x.g0.state then fld x.g0.w7 14 0 else s.beatNum % 2 ^ 15) else y = x) false) ∧
    (¬ busy → usable → ∃ r, (r = true ↔ ∃ d, inBlock d ∧ 2 ≤ (s.ch d).g0.state ∧ refused d) ∧
      accepts (.glvCmdRelease first count) (fun d x y =>
        if inBlock d ∧ 2 ≤ x.g0.state then
          (refused d → y = x) ∧ (¬ refused d → y.g0.state = 1 ∧ y.g0.cause = 0 ∧ y.g0.act = 0 ∧ fld y.g0.w7 26 15 = fld x.g0.w7 26 15 ∧ fld y.g0.w7 14 0 = s.beatNum % 2 ^ 15 ∧
            { y.g0 with w7 := x.g0.w7 } = x.g0 ∧ { y with g0 := x.g0, g1 := x.g1 } = x)
        else y = x) r) ∧
    (∀ r, s.glvCmd = some r → exec .glvCmdDone s = .next { s.setF .GLV_CMD F.GLV_CMD_STS (if r then 2 else 0) with glvCmd := none }) ∧
    (s.glvCmd = none → exec .glvCmdDone s = .next s) ∧
    (s.glvEvts = [] → exec .glvEvtRead s = .next s) ∧
    (∀ w l, s.glvEvts = w :: l → exec .glvEvtRead s = .next (({ s with glvEvts := l }).logEvt 1 (fld w 34 30 * 2 ^ 16 + fld w 14 0)))

/-- R12, R106, R112, R113, R114, R130 and R134: tightening and the downstream checks. State.glvSetpoint is what CHIO_WR hands a setpoint to; State.Transition is R107 and R133. R115, R117 and R131: State.glvUpstream is what UPSTREAM_DATA_CODEWORD hands each valid record to. A DBC above a DEBOUNCE tightened since trips at the next failure: the model's reading (notes/assumptions/41.md). -/
def Obligations.LimitsOnlyTightenAndBothChecksTrip : Prop :=
  (∀ (k : Fin 7) (w : Word) (s : State),
    let c := s.getF .GLV_TSEL F.GLV_TSEL_CH
    let x := s.ch c
    let o := x.g0.word k
    let sx := fun (v : Word) (hi lo : Nat) => sext 18 (fld v hi lo)
    let act := fun (hi lo : Nat) => fld o hi lo ≤ fld w hi lo ∧ (fld w hi lo = 3 → fld o hi lo = 3)
    let tight := match k.val with
      | 2 => w.toInt ≤ o.toInt
      | 3 => o.toInt ≤ w.toInt
      | 5 => sx w 35 18 ≤ sx o 35 18 ∧ sx o 17 0 ≤ sx w 17 0
      | 6 => (∀ i < 5, bit w (31 + i) = true → bit o (31 + i) = true) ∧ act 30 29 ∧ act 28 27 ∧ act 26 25 ∧ act 24 23 ∧ act 22 21 ∧
          fld w 11 8 ≤ fld o 11 8 ∧ fld w 7 4 ≤ fld o 7 4 ∧ fld w 3 0 ≤ fld o 3 0
      | _ => w.toNat ≤ o.toNat
    (s.march.boot = true → exec (.glvTighten k w) s = .next s) ∧
    (x.g0 = x.g1 → x.bad = false → s.glvHeld = false → s.march.boot = false →
    (tight → ∃ t, exec (.glvTighten k w) s = .next t ∧ (t.ch c).g0 = (t.ch c).g1 ∧
      (∀ i < 36, ((t.ch c).g0.word k).getLsbD i = if k = 6 ∧ 12 ≤ i ∧ i ≤ 20 then o.getLsbD i else w.getLsbD i) ∧
      (∀ j < 8, j ≠ k.val → (t.ch c).g0.word j = x.g0.word j) ∧ { t.ch c with g0 := x.g0, g1 := x.g1 } = x ∧
      (∀ d, d ≠ c → t.ch d = s.ch d) ∧ (x.populated = false → t.lane = s.lane) ∧ { t with chan := s.chan, lane := s.lane } = s) ∧
    (¬ tight → ∃ t, exec (.glvTighten k w) s = .next t ∧ s.onlyRegs t (· = .GLV_STS) ∧ t.getB .GLV_STS F.GLV_STS_TIGHT_REJ = true))) ∧
  (∀ (s : State) (e c mode : Nat) (v : Word),
    let x := s.ch c
    let t := s.glvSetpoint e c mode v
    let ref := match x.slew with | some r => r | none => if x.lgMode = 1 then x.lgSetp else 0
    let failing : Option Nat :=
      if x.g0.owner ≠ e then some 0x01
      else if 4 < mode ∨ bit x.g0.w6 (31 + mode) = false then some 0x02
      else if (mode = 1 ∧ (v.toInt > x.g0.w0.toNat ∨ v.toInt < -(x.g0.w1.toNat : Int))) ∨
              (mode = 2 ∧ (v.toInt > x.g0.w2.toInt ∨ v.toInt < x.g0.w3.toInt)) then some 0x03
      else if mode = 1 ∧ (v.toInt - ref.toInt).natAbs > x.g0.w4.toNat then some 0x04
      else none
    x.g0 = x.g1 → x.bad = false → s.glvHeld = false → mode < 16 →
    (∀ d, d ≠ c → t.ch d = s.ch d) ∧
    (2 ≤ x.g0.state → t = s.setCh c { x with wrote := true }) ∧
    (x.g0.state < 2 → match failing with
      | some cause => (t.ch c).wrote = true ∧ ({ x with wrote := true, slew := some ref }).takes true cause x.g0.actDn (t.ch c) ∧ s.Transition t c cause
      | none => ∃ y : Chan, t = s.setCh c y ∧ y.wrote = true ∧ y.eg = some { mode := BitVec.ofNat 4 mode, setp := v } ∧ y.g0.fdn = 0 ∧
          fld y.g0.w7 35 23 = fld x.g0.w7 35 23 ∧ fld y.g0.w7 18 0 = fld x.g0.w7 18 0 ∧ y.slew = some ref ∧
          { y.g0 with w7 := x.g0.w7 } = x.g0 ∧ { y with g0 := x.g0, g1 := x.g1, wrote := x.wrote, eg := x.eg, slew := x.slew } = x)) ∧
  (∀ (s : State) (c : Nat) (w0 w1 w2 w3 : Word),
    let x := s.ch c
    let t := s.glvUpstream c w0 w1 w2 w3
    let temp := sext 18 (fld w2 35 18)
    let failing : Option Nat :=
      if x.inForce ≠ 4 ∧ (w0.toInt > x.g0.w2.toInt ∨ w0.toInt < x.g0.w3.toInt) then some 0x08
      else if w1.toInt > x.g0.w0.toNat ∨ w1.toInt < -(x.g0.w1.toNat : Int) then some 0x09
      else if temp > sext 18 (fld x.g0.w5 35 18) ∨ temp < sext 18 (fld x.g0.w5 17 0) then some 0x0A
      else if bit w3 34 = true then some 0x0B
      else if bit w3 35 = true ∧ (x.inForce = 1 ∨ x.inForce = 2 ∨ x.inForce = 3) then some 0x0C
      else none
    let counts := fun (n : Nat) (y : Chan) => fld y.g0.w7 26 23 = n ∧ fld y.g0.w7 35 27 = fld x.g0.w7 35 27 ∧
      fld y.g0.w7 22 0 = fld x.g0.w7 22 0 ∧ { y.g0 with w7 := x.g0.w7 } = x.g0 ∧ { y with g0 := x.g0, g1 := x.g1 } = x
    x.g0 = x.g1 → x.bad = false → s.glvHeld = false →
    (∀ d, d ≠ c → t.ch d = s.ch d) ∧
    (2 ≤ x.g0.state → t = s) ∧
    (x.g0.state < 2 → bit w3 32 = true → (t.ch c).g0.state = 2 ∧ (t.ch c).g0.act = 2 ∧
      (t.ch c).g0.cause = (if x.g0.state = 1 then (if w0.toInt < 0 ∧ bit w3 35 = false then 0x0D else 0x0E)
        else match failing with | some cause => (if x.g0.dbc < x.g0.debounce then 0x0E else cause) | none => 0x0E) ∧
      s.Transition t c (t.ch c).g0.cause) ∧
    (x.g0.state = 1 → bit w3 32 = false → if w0.toInt < 0 ∧ bit w3 35 = false then x.takes true 0x0D 2 (t.ch c) ∧ s.Transition t c 0x0D else t = s) ∧
    (x.g0.state = 0 → bit w3 32 = false → match failing with
      | some cause => if x.g0.dbc < x.g0.debounce then counts (x.g0.dbc + 1) (t.ch c) else x.takes true cause x.g0.actUp (t.ch c) ∧ s.Transition t c cause
      | none => counts 0 (t.ch c)))

/-- R132: the comparison of the two copies at every access, and what each access then does. That a bad copy stays marked until a limits image, what a held table does and the free values of its reads are the model's (notes/assumptions/52.md, 4.md). State.glvSetpoint and State.glvUpstream are what chio and the link hand a setpoint and a record to; glvReadWord and glvWindowWrite are the reads and the pre-LOCK writes of the window. -/
def Obligations.GloveCopiesThatDisagreeTrip : Prop :=
  ∀ (s : State) (c : Nat),
    let x := s.ch c
    let fails := x.g0 ≠ x.g1 ∨ x.bad = true ∨ s.glvHeld = true
    let trips := fun (t : State) => t.getB .GLV_STS F.GLV_STS_CMP_ERR = true ∧ x.takes true 0x1D 2 (t.ch c) ∧
      s.Transition t c 0x1D ∧ (∀ d, d ≠ c → t.ch d = s.ch d)
    (fails →
      (∀ e mode v, trips (s.glvSetpoint e c mode v)) ∧ (∀ w0 w1 w2 w3, trips (s.glvUpstream c w0 w1 w2 w3)) ∧
      (∀ k w, if s.march.boot = true then s.glvWindowWrite (c * 32 + 4 * k % 32) w = s else trips (s.glvWindowWrite (c * 32 + 4 * k % 32) w)) ∧
      (∀ f, trips (s.glvUse c f)) ∧
      (s.march.boot = false → ∀ k, trips (s.glvReadWord c k).2) ∧
      (s.march.boot = false → ∀ k < 7, let r := s.glvReadWord c k
        if x.g0.word k = x.g1.word k ∧ x.bad = false ∧ s.glvHeld = false then r.1 = x.g0.word k
        else if s.glvHeld = false then ∃ g, s.fresh ≤ g ∧ g < r.2.fresh ∧ r.1 = BitVec.ofNat 36 (Config.freeNat g % 2 ^ 36) else True) ∧
      (s.march.boot = false → s.glvHeld = false → let r := s.glvReadWord c 7
        ∀ i, 27 ≤ i → i < 36 → bit (r.2.ch c).g0.w7 i = bit (r.2.ch c).g1.w7 i → bit r.1 i = bit (r.2.ch c).g0.w7 i) ∧
      (∀ (k : Fin 7) (w : Word), s.getF .GLV_TSEL F.GLV_TSEL_CH = c → s.march.boot = false → ∃ t, exec (.glvTighten k w) s = .next t ∧ trips t ∧
        t.getB .GLV_STS F.GLV_STS_TIGHT_REJ = true) ∧
      (∀ (b : Fin 32768) (n : Fin 512), b.val = c → n.val = 1 → s.getF .GLV_CMD F.GLV_CMD_STS ≠ 1 → ∃ t, exec (.glvCmdRelease b n) s = .next t ∧ trips t ∧
        t.getB .GLV_STS F.GLV_STS_REL_REJ = true ∧ t.glvCmd = some true) ∧
      (∀ (b : Fin 32768) (n : Fin 512), b.val = c → n.val = 1 → s.getF .GLV_CMD F.GLV_CMD_STS ≠ 1 → ∃ t, exec (.glvCmdPark b n) s = .next t ∧ trips t)) ∧
    (¬ fails → s.glvCompare c = (s, true) ∧ (∀ f, s.glvUse c f = f s) ∧ (s.march.boot = false → ∀ k, s.glvReadWord c k = (x.g0.word k, s)))

/-- R119, R352 to R366: STATE codes 0 OFF, 1 DETECT, 2 CHECK, 3 LOCK, 4 TRAIN, 5 ADAPT, 6 IDENT, 7 MAP, 8 ALIGN, 9 ACTIVE, 10 TEST, 11 FAULT. A restart in the same STATE leaves EVT and LAST (notes/assumptions/47.md). Messages taken in ADAPT (notes/assumptions/44.md), the 256-codeword count and the form of the FFE and slicer steps (notes/assumptions/52.md) are the model's choices. -/
def Obligations.LanesMoveThroughTheirStates : Prop :=
  ∀ (n : LaneId) (s : State),
    let st := s.laneState n
    let old := s.laneCause n
    let moves := fun (c : Instr) (leaves : Bool) (dst cause : Nat) => ∃ t, exec c s = .next t ∧ t.laneState n = dst ∧ t.laneCause n = cause ∧
      (t.inService n = true ↔ dst = 9) ∧ (st ≠ dst → t.getB (.LN_STS n) F.LN_STS_EVT = true ∧ t.getF (.LN_STS n) F.LN_STS_LAST = s.beatNum % 2 ^ 15) ∧
      (st = dst → t.getB (.LN_STS n) F.LN_STS_EVT = s.getB (.LN_STS n) F.LN_STS_EVT ∧ t.getF (.LN_STS n) F.LN_STS_LAST = s.getF (.LN_STS n) F.LN_STS_LAST) ∧
      (∀ m, m ≠ n.val → t.reg (.LN_STS m) = s.reg (.LN_STS m) ∧ t.ln m = s.ln m) ∧ t.mem = s.mem ∧
      (∀ c, if leaves = true ∧ s.inService n = true ∧ c / 2048 = n.val ∧ (s.ch c).g0.state < 2
        then s.takesAt c true 0x12 (s.ch c).g0.actStale (t.ch c) else t.ch c = s.ch c)
    let faults := fun (c : Instr) (w : Word) => ∃ t, exec c s = .next t ∧ t.reg (.LN_FAULT n) = w
    let enOnly := fun (c : Instr) (v : Bool) => exec c s = .next (s.setB (.LN_CTL n) F.LN_CTL_EN v)
    let none' := fun (c : Instr) => exec c s = .next s
    (if st = 0 then moves (.laneEnable n) false 1 old ∧ enOnly (.laneDisable n) false ∧
        none' (.laneFullRetrain n) ∧ none' (.laneQuickRetrain n) ∧ none' (.laneHold n)
     else enOnly (.laneEnable n) true ∧ moves (.laneDisable n) true 0 0x15 ∧ moves (.laneFullRetrain n) true 1 0x13 ∧
        moves (.laneQuickRetrain n) true 3 0x13 ∧ moves (.laneHold n) true 11 0x13) ∧
    (match st with
     | 1 => moves (.laneStateTimeout n) true 11 0x01 | 2 => moves (.laneStateTimeout n) true 11 0x05
     | 3 => if (s.ln n).markerLock = false ∧ n.val < 16 then moves (.laneStateTimeout n) true 11 0x06 else none' (.laneStateTimeout n)
     | 4 => moves (.laneStateTimeout n) true 11 0x07 | 5 => moves (.laneStateTimeout n) true 11 0x08
     | 6 => moves (.laneStateTimeout n) true 11 0x0A | 7 => moves (.laneStateTimeout n) true 11 0x0C
     | 8 => moves (.laneStateTimeout n) true 11 0x0D | _ => none' (.laneStateTimeout n)) ∧
    faults (.laneStateTimeout n) (s.reg (.LN_FAULT n) ||| (if st = 1 then 0x400 else if st = 2 then 0x200 else 0)) ∧
    (st ≠ 0 → ∃ t, exec (.laneQuickRetrain n) s = .next t ∧ ∀ i < 36, bit (t.reg (.LN_TXEQ n)) i = (i != 19 && bit (s.reg (.LN_TXEQ n)) i)) ∧
    (∀ c ∈ [Instr.laneEnable n, .laneFullRetrain n, .laneRetry n], (if c = .laneEnable n then st = 0 else if c = .laneFullRetrain n then st ≠ 0
      else st = 11 ∧ s.getF (.LN_CTL n) F.LN_CTL_RETRY ≠ 0 ∧ (s.ln n).noRetry = false) → ∃ t, exec c s = .next t ∧ t.reg (.LN_TXEQ n) = 0x1000#36) ∧
    (if st = 1 then moves (.terminationDetect n true) false 2 old ∧
        exec (.terminationDetect n false) s = .next (s.setB (.LN_FAULT n) F.LN_FAULT_NOTERM true)
     else ∀ b, none' (.terminationDetect n b)) ∧
    (∀ (g u : BitVec 4) (p : Bool),
      if st = 2 ∧ (s.ln n).shortsDone = false then
        if g ≠ 0 then moves (.shortCheck n g u p) true 11 0x02
        else if u ≠ 0 then moves (.shortCheck n g u p) true 11 0x03
        else if p = true then moves (.shortCheck n g u p) true 11 0x04
        else exec (.shortCheck n g u p) s = .next ((s.setReg (.LN_FAULT n) 0).setLn n { s.ln n with shortsDone := true })
      else none' (.shortCheck n g u p)) ∧
    (∀ (g u : BitVec 4) (p : Bool), st = 2 → (s.ln n).shortsDone = false →
      faults (.shortCheck n g u p) (BitVec.ofNat 36 (g.toNat + 16 * u.toNat + (if p then 256 else 0)))) ∧
    (if st = 2 ∧ (s.ln n).shortsDone = true then moves (.signalDetect n) false (if n.val < 16 then 3 else 9) old else none' (.signalDetect n)) ∧
    (if st = 9 then moves (.lossOfSignal n) true 11 0x12 ∧ ∃ t, exec (.lossOfSignal n) s = .next t ∧ t.reg (.LN_FAULT n) = s.reg (.LN_FAULT n)
     else none' (.lossOfSignal n)) ∧
    (if st = 11 ∧ s.getF (.LN_CTL n) F.LN_CTL_RETRY ≠ 0 ∧ (s.ln n).noRetry = false then moves (.laneRetry n) false 1 old
     else none' (.laneRetry n)) ∧
    (∀ (h : n.val < 16),
      let l : ChLane := ⟨n.val, h⟩
      let open' := fld (s.reg (.LN_FAULT n)) 9 0 = 0
      (∀ fr : TrainFrame, (st ≠ 3 ∧ st ≠ 4) ∨ ¬ open' → none' (.trainingFrame l fr)) ∧
      (∀ fr : TrainFrame, st = 3 → open' → fr.marker = true → 3 ≤ (s.ln n).markers → s.getB .BEAT_CTL F.BEAT_CTL_LOCKED = true →
        moves (.trainingFrame l fr) false 4 old) ∧
      (∀ fr : TrainFrame, st = 4 → open' → ∃ t, exec (.trainingFrame l fr) s = .next t ∧ t.laneState n = 4 ∧
        (t.ln n).markers = (if fr.marker then (s.ln n).markers + 1 else 0) ∧
        (t.ln n).rxRecv = (if fr.marker ∧ fr.status.getLsbD 15 = true then (s.ln n).rxRecv + 1 else 0) ∧
        (fr.marker = true → (t.ln n).rxSent = (if fr.rxDone then (s.ln n).rxSent + 1 else 0) ∧
          ((t.ln n).trainDone = true ↔ (s.ln n).trainDone = true ∨ (8 ≤ (t.ln n).rxSent ∧ 8 ≤ (t.ln n).rxRecv))) ∧
        (∀ m, m ≠ n.val → t.ln m = s.ln m) ∧ t.chan = s.chan ∧ t.mem = s.mem) ∧
      (if st = 5 ∧ 8 ≤ (s.ln n).cwBad then exec (.codewordLockLoss l) s = .next (s.setLn n
          { s.ln n with cwLock := false, cwGood := 0, cwBad := 0, adaptGood := 0 }) else none' (.codewordLockLoss l)) ∧
      (if st = 5 ∧ 1024 ≤ (s.ln n).adaptGood then
         if (s.ln n).hello = true ∧ s.helloBad n = true then moves (.adaptComplete l) false 11 0x09
         else if (s.ln n).scaled = true ∧ s.scaleBad n = true then moves (.adaptComplete l) false 11 0x17
         else moves (.adaptComplete l) false (if (s.ln n).hello = true ∧ (s.ln n).scaled = true then 7 else 6) old
       else none' (.adaptComplete l)) ∧
      (∀ up : Bool,
        let runs := st = 9 ∧ s.getB (.LN_CTL n) F.LN_CTL_ADAPT_FREEZE = false ∧ 256 ≤ (s.ln n).cwSince
        let steps := fun (p : AdaptParam) (y : Lane) (P : State → Prop) =>
          (¬ runs → none' (.adaptStep l p up)) ∧ (runs → ∃ t, exec (.adaptStep l p up) s = .next t ∧ t.ln n = y ∧ (∀ m, m ≠ n.val → t.ln m = s.ln m) ∧
            s.onlyRegs { t with lane := s.lane } (· = .LN_EQ_STS n) ∧ P t)
        let y := { s.ln n with cwSince := 0 }
        let moved := fun (v : Int) => v + (if up then 1 else -1)
        let v := s.getF (.LN_EQ_STS n) F.LN_EQ_STS_CTLE
        let d := sext 6 (s.getF (.LN_EQ_STS n) F.LN_EQ_STS_DFE)
        steps .ctle y (fun t => t.getF (.LN_EQ_STS n) F.LN_EQ_STS_CTLE = if up then min 15 (v + 1) else v - 1) ∧
        steps .dfe y (fun t => sext 6 (t.getF (.LN_EQ_STS n) F.LN_EQ_STS_DFE) = if up then min 31 (d + 1) else max (-32) (d - 1)) ∧
        (∀ i : Fin 12, steps (.ffe i) { y with ffe := y.ffe.set i (moved (y.ffe.getD i 0)) } (fun t => t.regs = s.regs)) ∧
        (∀ i : Fin 3, steps (.slicer i) { y with slicer := y.slicer.set i (moved (y.slicer.getD i 0)) } (fun t => t.regs = s.regs))))

/-- R340, R342, R361, R362, R366, R370 and R525: the messages, and the buffers of firmware's messages. That messages are received from ADAPT on, once the lane frames, is the model's choice (notes/assumptions/44.md). -/
def Obligations.ManagementMessagesActOnceTheLaneFrames : Prop :=
  ∀ (n : ChLane) (q : Fin 512) (a : Bool) (ws : List Word) (w w1 w2 w3 w4 : Word) (s : State),
    let x := s.ln n
    let st := s.laneState n
    let frames := 5 ≤ st ∧ st ≤ 9
    let header := fun (mtype : Nat) (len : Nat) (v : Word) => fld v 35 27 = mtype % 512 ∧ fld v 26 18 = len % 512 ∧ fld v 17 9 = q.val ∧ bit v 8 = a ∧ fld v 7 0 = 0
    let receives := fun (c : Instr) (mtype : Nat) =>
      ∃ h t, header mtype ws.length h ∧ exec c s = .next t ∧ (∀ m, m ≠ n.val → t.ln m = s.ln m) ∧ { t with lane := s.lane, regs := s.regs } = s ∧
        (t.ln n).acks = x.acks ++ (if a then [q.val] else []) ∧
        (if x.rxBuf.length + (ws.length + 1) ≤ 512 then (t.ln n).rxBuf = x.rxBuf ++ h :: ws ∧ t.regs = s.regs
         else (t.ln n).rxBuf = x.rxBuf ∧ s.onlyRegs { t with lane := s.lane } (· = .LN_MSG_RXS n) ∧ t.getB (.LN_MSG_RXS n) F.LN_MSG_RXS_OVF = true)
    let at' := fun (c : Instr) (dst cause : Nat) => ∃ t, exec c s = .next t ∧ t.laneState n = dst ∧ t.laneCause n = cause ∧
      (∀ m, m ≠ n.val → t.ln m = s.ln m ∧ t.reg (.LN_STS m) = s.reg (.LN_STS m)) ∧ t.mem = s.mem
    let keeps := fun (c : Instr) (y : Lane) (r : Fin 4 → Reg) => ∃ t, exec c s = .next t ∧ t.ln n = y ∧ (∀ m, m ≠ n.val → t.ln m = s.ln m) ∧
      (∀ k : Fin 4, t.reg (r k) = [w1, w2, w3, w4].getD k 0) ∧ s.onlyRegs { t with lane := s.lane } (fun q => ∃ k, q = r k)
    (¬ frames → ∀ c ∈ [Instr.ack n q, .hubevt n q a ws, .svcMessage n q a ws, .hello n q w1 w2 w3 w4, .scale n q w1 w2 w3 w4, .mapAck n w, .retrain n w],
      exec c s = .next s) ∧
    (frames → receives (.hubevt n q a ws) 0x030 ∧ receives (.svcMessage n q a ws) 0x040) ∧
    (frames → ∀ m, x.waitAck = [m] → x.out = [] → m.ackReq = true → m.seq = q.val → m.mtype = 0x040 → x.svcSeq = q.val → st ≠ 8 →
      ∃ t, exec (.ack n q) s = .next t ∧ t.ln n = { x with waitAck := [] } ∧ s.onlyRegs { t with lane := s.lane } (· = .LN_MSG_TXC n) ∧
        t.getF (.LN_MSG_TXC n) F.LN_MSG_TXC_STS = 2) ∧
    (frames → ∀ m, x.waitAck = [m] → x.out = [] → m.ackReq = true → m.seq = q.val → m.mtype ∉ [0x015, 0x017, 0x040] → st ≠ 8 →
      exec (.ack n q) s = .next (s.setLn n { x with waitAck := [] })) ∧
    (st = 8 → ∀ m b, x.waitAck = [m] → x.out = [] → m.ackReq = true → m.seq = q.val → m.mtype = 0x015 → x.readySeq = q.val → x.readyB = some b →
      ∃ t, exec (.ack n q) s = .next t ∧ t.ln n = { x with waitAck := [], readyAck := true } ∧ (∀ m, m ≠ n.val → t.ln m = s.ln m) ∧ { t with lane := s.lane } = s) ∧
    (frames → (∀ m ∈ x.waitAck ++ x.out, m.seq ≠ q.val) → st ≠ 8 → exec (.ack n q) s = .next s) ∧
    (frames → st ≠ 5 → st ≠ 6 → exec (.hello n q w1 w2 w3 w4) s = .next (s.setLn n { x with acks := x.acks ++ [q.val] }) ∧
      exec (.scale n q w1 w2 w3 w4) s = .next (s.setLn n { x with acks := x.acks ++ [q.val] })) ∧
    (st = 5 → keeps (.hello n q w1 w2 w3 w4) { x with hello := true, acks := x.acks ++ [q.val] } (fun k => .LN_HUBID n k) ∧
      keeps (.scale n q w1 w2 w3 w4) { x with scaled := true, acks := x.acks ++ [q.val] } (fun k => .LN_SCALE n k)) ∧
    (st = 6 →
      (let m := s.laneMap n
       let bad := fld w2 19 12 ≠ 1 ∨ (s.described n = true ∧ ((w1 ^^^ m.ident) &&& m.mask ≠ 0 ∨ fld w2 35 24 < (s.populatedOf n).length))
       (bad → at' (.hello n q w1 w2 w3 w4) 11 0x09) ∧
       (¬ bad → x.scaled = true → s.scaleBad n = true → at' (.hello n q w1 w2 w3 w4) 11 0x17) ∧
       (¬ bad → x.scaled = true → s.scaleBad n = false → at' (.hello n q w1 w2 w3 w4) 7 (s.laneCause n)) ∧
       (¬ bad → x.scaled = false → keeps (.hello n q w1 w2 w3 w4) { x with hello := true, acks := x.acks ++ [q.val] } (fun k => .LN_HUBID n k))) ∧
      (let bad := s.described n = true ∧ ∃ k < 4, [w1, w2, w3, w4].getD k 0 ≠ (s.laneMap n).scale.getD k 0
       (x.hello = true → s.helloBad n = true → at' (.scale n q w1 w2 w3 w4) 11 0x09) ∧
       (x.hello = false ∨ s.helloBad n = false → (bad → at' (.scale n q w1 w2 w3 w4) 11 0x17) ∧
         (¬ bad → x.hello = true → at' (.scale n q w1 w2 w3 w4) 7 (s.laneCause n)) ∧
         (¬ bad → x.hello = false → keeps (.scale n q w1 w2 w3 w4) { x with scaled := true, acks := x.acks ++ [q.val] } (fun k => .LN_SCALE n k))))) ∧
    (st = 7 → fld w 34 27 = (s.laneMap n).fmv → x.mapSent (fld w 35 35) = true →
      (bit w 26 = false → at' (.mapAck n w) 11 0x0B) ∧
      (bit w 26 = true → (if bit w 35 then x.mapUpAck else x.mapDnAck) = true → at' (.mapAck n w) 8 (s.laneCause n)) ∧
      (bit w 26 = true → (if bit w 35 then x.mapUpAck else x.mapDnAck) = false →
        exec (.mapAck n w) s = .next (s.setLn n (if bit w 35 then { x with mapDnAck := true } else { x with mapUpAck := true })))) ∧
    (frames → (fld w 1 0 = 1 → at' (.retrain n w) 1 0x14) ∧ (fld w 1 0 = 2 → at' (.retrain n w) 3 0x14) ∧
      (fld w 1 0 = 0 ∨ fld w 1 0 = 3 → exec (.retrain n w) s = .next s)) ∧
    ((∀ m ∈ x.waitAck, m.seq ≠ q.val) → exec (.messageRetry n q) s = .next s) ∧
    (∀ m, x.waitAck = [m] → m.seq = q.val →
      (m.attempts < 4 → exec (.messageRetry n q) s = .next (s.setLn n { x with waitAck := [], out := x.out ++ [m] })) ∧
      (4 ≤ m.attempts → m.mtype ≠ 0x020 → ∃ t, exec (.messageRetry n q) s = .next t ∧ t.ln n = { x with waitAck := [] } ∧
        t.getB (.LN_PSTS n) F.LN_PSTS_MSG_FAIL = true ∧ s.onlyRegs { t with lane := s.lane } (fun r => r = .LN_PSTS n ∨ r = .LN_MSG_TXC n)) ∧
      (4 ≤ m.attempts → m.mtype = 0x020 → st = 8 ∨ st = 9 → at' (.messageRetry n q) 11 0x11 ∧
        ∃ t, exec (.messageRetry n q) s = .next t ∧ t.getB (.LN_PSTS n) F.LN_PSTS_MSG_FAIL = true) ∧
      (4 ≤ m.attempts → m.mtype = 0x020 → st ≠ 8 → st ≠ 9 → ∃ t, exec (.messageRetry n q) s = .next t ∧ t.ln n = { x with waitAck := [] } ∧
        t.getB (.LN_PSTS n) F.LN_PSTS_MSG_FAIL = true ∧ s.onlyRegs { t with lane := s.lane } (· = .LN_PSTS n))) ∧
    (∀ (l : LaneId),
      let y := s.ln l
      let len := fld w 26 18
      exec (.msgTxAppend l w) s = .next (s.setLn l (if y.txBuf.length < 256 then { y with txBuf := y.txBuf ++ [w] } else y)) ∧
      (∀ v r, y.rxBuf = v :: r → exec (.msgRxRead l) s = .next (s.setLn l { y with rxBuf := r })) ∧ (y.rxBuf = [] → exec (.msgRxRead l) s = .next s) ∧
      (∃ t, exec (.svcSend l w) s = .next t ∧ s.onlyRegs { t with lane := s.lane } (· = .LN_MSG_TXC l) ∧ t.getF (.LN_MSG_TXC l) F.LN_MSG_TXC_LEN = len ∧
        (if s.getF (.LN_MSG_TXC l) F.LN_MSG_TXC_STS ≠ 1 ∧ 1 ≤ len ∧ len ≤ 141 ∧ len ≤ y.txBuf.length then
          t.getF (.LN_MSG_TXC l) F.LN_MSG_TXC_STS = 1 ∧ (t.ln l).txBuf = y.txBuf.drop len ∧ (t.ln l).svcSeq = y.seqNext ∧
          (t.ln l).out = y.out ++ [{ mtype := 0x040, words := y.txBuf.take len, ackReq := true, seq := y.seqNext, attempts := 0 }]
         else t.lane = s.lane)))

/-- R82, R327 to R329, R335 to R340, R345 to R347 and R381. R78, R80, R109, R110, R113 and R124 for the records of a sent slot (State.RecordSent). The messages taken in ADAPT after the lock are the model's choice (notes/assumptions/44.md). -/
def Obligations.CodewordsCarryRecordsAndMessages : Prop :=
  ∀ (n : ChLane) (off : BitVec 18) (cw : Codeword) (s : State),
    let x := s.ln n
    let x1 := { x with cwSince := x.cwSince + 1 }
    let s1 := s.setLn n x1
    let p := cw.slot
    let q := p - x.upShift
    let ty := (cw.hdr.extractLsb' 24 4).toNat
    let nak := (cw.hdr.extractLsb' 4 7).toNat
    let good := cwDecodes cw = true ∧ (cw.hdr.extractLsb' 11 6).toNat = s.beatNum % 64 ∧ (cw.hdr.extractLsb' 17 7).toNat = q % 127
    let m := s.laneMap n
    let idx := if 1 ≤ q ∧ m.firstUp ≤ q - 1 then (m.up.drop ((q - 1 - m.firstUp) * 35)).take 35 else []
    let w := fun (k : Nat) => cw.pay.getD k 0
    let bank := fun (t : State) (c : Nat) => if s.beatNum % 2 = 0 then (t.ch c).ing0 else (t.ch c).ing1
    let plain := s.inService n = true ∧ ∀ e ∈ x.upExpect, e.1 ≠ p
    (s.framing n = false → s.inService n = false → exec (.upstreamBeatCodeword n off cw) s = .next s ∧ exec (.upstreamDataCodeword n cw) s = .next s ∧
      exec (.managementCodeword n cw) s = .next s ∧ exec (.captureCodeword n cw) s = .next s) ∧
    (plain → (¬ good ∨ ty = 3 ∨ 5 < ty) → x.naks < 2 → p + 6 ≤ s.kNow + 2 → exec (.upstreamDataCodeword n cw) s = .next (s.setLn n
      { x1 with naks := x.naks + 1, nakDue := x.nakDue ++ [(p + 3, q)], upExpect := x.upExpect ++ [(p + 6, q)] })) ∧
    (plain → (¬ good ∨ ty = 3 ∨ 5 < ty) → ¬ (x.naks < 2 ∧ p + 6 ≤ s.kNow + 2) → idx.Nodup → ∃ t, exec (.upstreamDataCodeword n cw) s = .next t ∧
      (∀ i ∈ idx, (bank t (n * 2048 + i)).st = 3) ∧ (∀ c, (∀ i ∈ idx, c ≠ n * 2048 + i) → t.ch c = s.ch c) ∧ t.mem = s.mem) ∧
    (plain → good → ty = 2 → nak = 127 → idx ≠ [] → idx.Nodup → ∃ t, exec (.upstreamDataCodeword n cw) s = .next t ∧ t.mem = s.mem ∧ t.ln n = x1 ∧
      (∀ c, (∀ i ∈ idx, c ≠ n * 2048 + i) → t.ch c = s.ch c) ∧
      (∀ r i : Nat, idx[r]? = some i →
        let c := n * 2048 + i
        let b := bank t c
        if bit (w 140) r = false then b = { Slot.empty with st := 4 }
        else if crc9 (w (4 * r)) (w (4 * r + 3)) = fld (w (4 * r + 3)) 8 0 ∧ fld (w (4 * r + 3)) 31 17 = c ∧ fld (w (4 * r + 3)) 16 9 = s.beatNum % 256 then
          b = { st := 1, w0 := w (4 * r), w1 := w (4 * r + 1), w2 := w (4 * r + 2), w3 := w (4 * r + 3) }
        else b = { Slot.empty with st := 2 })) ∧
    (plain → good → ty = 1 → nak = 127 → q = 0 → w 0 = s.reg .BEAT_NUM → fld (w 3) 35 27 = 0 → 3 < cw.pay.length →
      let fmv := fld (w 1) 33 26
      ∃ t, exec (.upstreamBeatCodeword n off cw) s = .next t ∧ (t.getB (.LN_PSTS n) F.LN_PSTS_HUB_SAFE = bit (w 1) 34) ∧ t.mem = s.mem ∧
        (bit (w 1) 35 = true → t.getB (.LN_PSTS n) F.LN_PSTS_SAFE_SEEN = true) ∧
        (bit (w 1) 34 = true → t.laneState n = 11 ∧ t.laneCause n = 0x0F) ∧
        (bit (w 1) 34 = false → fmv ≠ m.fmv → t.laneState n = 11 ∧ t.laneCause n = 0x10) ∧
        (bit (w 1) 34 = false → fmv = m.fmv → t.ln n = { x1 with beatOk := true, dnLostBits := BitVec.ofNat 36 ((w 2).toNat % 2 ^ 29) } ∧
          t.chan = s.chan ∧ t.laneState n = s.laneState n)) ∧
    (plain → good → ty ≠ 1 → ty ≠ 3 → ty ≤ 5 → nak = 127 → q = 0 → ∃ t, exec (.upstreamDataCodeword n cw) s = .next t ∧
      t.ln n = { x1 with beatBad := true } ∧ t.chan = s.chan ∧ t.mem = s.mem) ∧
    (plain → good → ty = 0 → q ≠ 0 → idx = [] → ∀ y, nak ≠ 127 → x.dnSent.find? (fun t => t.slot + 3 == p && t.q % 127 == nak) = y →
      ∃ t, exec (.upstreamDataCodeword n cw) s = .next t ∧ (match y with
        | some z => t.ln n = { x1 with dnReplay := x.dnReplay ++ [(p + 3, z.q)] } ∧ t.getB (.LN_PSTS n) F.LN_PSTS_NAK_BAD = s.getB (.LN_PSTS n) F.LN_PSTS_NAK_BAD
        | none => t.ln n = x1 ∧ t.getB (.LN_PSTS n) F.LN_PSTS_NAK_BAD = true)) ∧
    (plain → good → ty = 4 → nak = 127 → q ≠ 0 → idx = [] → cw.pay.length = 142 → 
      (fld (w 0) 35 27 = 0 → exec (.managementCodeword n cw) s = .next s1) ∧
      (∀ k, fld (w 0) 35 27 = 0x040 → fld (w 0) 26 18 = k → k ≤ 140 → fld (w (k + 1)) 35 27 = 0 →
        exec (.managementCodeword n cw) s =
          exec (.svcMessage n ⟨fld (w 0) 17 9, by unfold fld; omega⟩ (bit (w 0) 8) ((cw.pay.drop 1).take k)) s1)) ∧
    (s.laneState n = 5 → s.inService n = false → (cwDecodes cw = false → exec (.managementCodeword n cw) s = .next (s.setLn n (x.adaptCount false cw.fec))) ∧
      (x.cwLock = true → cwDecodes cw = true → ty = 4 → cw.pay.length = 142 → ∀ k, fld (w 0) 35 27 = 0x040 → fld (w 0) 26 18 = k → k ≤ 140 → fld (w (k + 1)) 35 27 = 0 →
        exec (.managementCodeword n cw) s = exec (.svcMessage n ⟨fld (w 0) 17 9, by unfold fld; omega⟩ (bit (w 0) 8) ((cw.pay.drop 1).take k))
          (s.setLn n (x.adaptCount true true)))) ∧
    (plain → good → ty = 5 → nak = 127 → q ≠ 0 → idx = [] → cw.pay.length = 142 →
      let k := s.expLane n
      if s.getB .EXP_CTL F.EXP_CTL_CAP_EN = true ∧ s.getB (.EXPK_STS k) F.EXPK_STS_LINK = true then
        if (s.sv k).cap.length < 64 then ∃ h : Word, fld h 35 33 = 2 ∧ fld h 24 16 = 142 ∧ fld h 14 0 = fld (w 0) 31 17 ∧
          exec (.captureCodeword n cw) s = .next (s1.setSv k { s.sv k with cap := (s.sv k).cap ++ [h :: cw.pay] })
        else ∃ t, exec (.captureCodeword n cw) s = .next t ∧ s1.onlyRegs t (fun r => r = .EXPK_DROP k ∨ r = .EXPK_STS k) ∧
          t.getB (.EXPK_STS k) F.EXPK_STS_CAP_OVF = true
      else exec (.captureCodeword n cw) s = .next s1) ∧
    (s.framing n = true → x.dnSlot < s.kNow + 3 → s.keptOut x.dnSlot = false → (∀ e ∈ x.nakDue, e.1 ≠ x.dnSlot) → (∀ e ∈ x.dnReplay, e.1 ≠ x.dnSlot) → x.safeDue = false →
      ∃ t c, exec (.downstreamSlotSend n) s = .next t ∧ (t.ln n).lastTx = some c ∧ (t.ln n).dnSent = (c :: x.dnSent).take 7 ∧
        (t.ln n).dnSlot = x.dnSlot + 1 ∧ c.slot = x.dnSlot ∧ c.q = x.dnSlot - x.dnShift ∧ (∀ l, l ≠ n.val → t.ln l = s.ln l) ∧ t.mem = s.mem ∧
        (s.dnRecords n c.q ≠ [] → (s.dnRecords n c.q).Nodup →
          (∀ r i : Nat, (s.dnRecords n c.q)[r]? = some i → s.RecordSent t (n * 2048 + i) (c.pay.getD (2 * r) 0) (c.pay.getD (2 * r + 1) 0)) ∧
          (∀ b, (∀ i ∈ s.dnRecords n c.q, b ≠ n * 2048 + i) → t.ch b = s.ch b)) ∧ (s.dnRecords n c.q = [] → t.chan = s.chan) ∧
        (c.hdr.extractLsb' 24 4).toNat = c.ty ∧ (c.hdr.extractLsb' 17 7).toNat = c.q % 127 ∧ (c.hdr.extractLsb' 11 6).toNat = s.beatNum % 64 ∧
        (c.hdr.extractLsb' 4 7).toNat = 127 ∧ (c.hdr.extractLsb' 0 4).toNat = hcheck c.hdr ∧
        (c.q = 0 → c.ty = 1 ∧ c.pay.headD 0 = s.reg .BEAT_NUM ∧ (t.ln n).alignDue = none ∧
          (∀ v, x.alignDue = some v → x.acks = [] → fld (c.pay.getD 2 0) 35 27 = 0x014 ∧ c.pay.getD 3 0 = v)) ∧ (c.q ≠ 0 → c.ty = (if s.dnRecords n c.q ≠ [] then 2
          else if c.q ≤ s.kNow ∧ ¬ (x.acks = [] ∧ x.out = []) ∧ s.laneState n ≠ 5 then 4 else 0)) ∧ c.pay.length = 142)

/-- R371, R373 to R382, Tables 14.2 and 14.3. State.expFrame is the frame under construction or a new one, State.expNext the next queue in turn. The form of a MAC control PAUSE frame is the model's (notes/assumptions/52.md, PRESUMED). -/
def Obligations.ExportTakesSendsAndAbandonsFrames : Prop :=
  ∀ (k : SvcLane) (s : State) (os dst src pad : List Octet) (hi lo : Octet) (up : Bool),
    let x := s.sv k
    let f := s.expFrame k
    let on := s.expOn k = true ∧ s.expFits k = true
    let sat := fun (r : Reg) (h : Nat × Nat) (a : Nat) => min (2 ^ (h.1 + 1 - h.2) - 1) (s.getF r h + a)
    let grown := fun (y : Svc) (item : List Word) (recs : Nat) =>
      y.build = some { f with items := f.items ++ [item], recs := f.recs + recs } ∧
      y.seq = (if x.build = none then x.seq + 1 else x.seq) ∧ y.holdOver = (if x.build = none then decide (fld f.cfg 7 0 = 0) else x.holdOver) ∧
      y.sending = x.sending ∧ y.lastFrame = x.lastFrame
    (¬ on → exec (.exportItemTake k) s = .next s) ∧
    (on → ∀ q, s.expNext k = some q → 0 < (s.q q).occ → (∀ j < 4, s.isBad (0x040000000 + q * 0x100 + (s.q q).head * (if q < 32768 then 32 else 16) + 4 * j) = false) →
      ∃ (t : State) (pre : Word) (ws : List Word), exec (.exportItemTake k) s = .next t ∧ grown (t.sv k) (pre :: ws) 1 ∧ (t.sv k).last = q ∧ (t.sv k).cap = x.cap ∧
        ws = s.words (0x040000000 + q * 0x100 + (s.q q).head * (if q < 32768 then 32 else 16)) 4 ∧
        fld pre 35 33 = 1 ∧ fld pre 32 25 = (s.q q).tags.headD 0 % 256 ∧ fld pre 24 16 = 4 ∧ fld pre 14 0 = (q - 32768) % 2 ^ 15 ∧
        t.q q = { s.q q with head := ((s.q q).head + 1) % 16, occ := (s.q q).occ - 1, tags := (s.q q).tags.drop 1 } ∧
        (∀ r, r ≠ q → t.q r = s.q r) ∧ (∀ j, j ≠ k.val → t.sv j = s.sv j) ∧ { t with svc := s.svc, queue := s.queue } = s) ∧
    (on → s.expNext k = none → ∀ it rest, x.cap = it :: rest → ∃ t : State, exec (.exportItemTake k) s = .next t ∧ grown (t.sv k) it 0 ∧
      (t.sv k).cap = rest ∧ (t.sv k).last = x.last ∧ (∀ j, j ≠ k.val → t.sv j = s.sv j) ∧ { t with svc := s.svc } = s) ∧
    (∀ g, x.build = some g →
      if s.expOn k = true ∧ x.sending = none ∧ (if (s.expAvail k).isSome then s.expFits k = false else x.holdOver = true) then
        let T := fun j : Nat => g.tpl.getD j 0
        let v6 := bit g.cfg 34 = true
        let sum16 := fun l : List Octet => ((List.range ((l.length + 1) / 2)).map (fun i => 256 * (l.getD (2 * i) 0).toNat + (l.getD (2 * i + 1) 0).toNat)).sum
        let src := if v6 then octetsOfWords [T 5, T 6, T 7, T 8] else octetsOfWords [T 5]
        let dst := if v6 then octetsOfWords [T 9, T 10, T 11, T 12] else octetsOfWords [T 9]
        let tag := if bit g.cfg 33 = true then ([0x81, 0x00] : List Octet) ++ beOctets 2 (fld (T 3) 31 16) else []
        let ttl : Octet := BitVec.ofNat 8 (fld (T 3) 15 8)
        let tos := fld (T 3) 7 0
        ∃ (fr : List Octet) (h0 : Word) (c4 cu : Nat),
          let pay := packWords ([h0, g.seq, g.beat, g.srcId] ++ g.items.flatten)
          let n := pay.length
          let udp := beOctets 2 (fld (T 4) 31 16) ++ beOctets 2 (fld (T 4) 15 0) ++ beOctets 2 (8 + n) ++ beOctets 2 cu ++ pay
          let pseudo := if v6 then src ++ dst ++ beOctets 4 (8 + n) ++ beOctets 4 17 else src ++ dst ++ beOctets 2 17 ++ beOctets 2 (8 + n)
          let ip := if v6 then beOctets 4 (6 * 2 ^ 28 + tos * 2 ^ 20 + fld (T 13) 19 0) ++ beOctets 2 (8 + n) ++ ([17, ttl] : List Octet) ++ src ++ dst
            else ([0x45, BitVec.ofNat 8 tos] : List Octet) ++ beOctets 2 (28 + n) ++ ([0, 0, 0x40, 0, ttl, 17] : List Octet) ++ beOctets 2 c4 ++ src ++ dst
          let body := octetsOfWords [T 0, T 1, T 2] ++ tag ++ (if v6 then ([0x86, 0xDD] : List Octet) else [0x08, 0x00]) ++ ip ++ udp
          exec (.exportFrameSend k) s = .next (s.setSv k { x with build := none, holdOver := false, sending := some g, lastFrame := fr }) ∧
          fld h0 35 27 = 1 ∧ fld h0 26 25 = k.val ∧ (g.items.length ≤ 406 → fld h0 24 16 = g.items.length) ∧ fld h0 15 0 = 0 ∧
          fr = body ++ (List.range 4).map (fun j => BitVec.ofNat 8 (crc32Ieee body >>> (8 * j))) ∧
          c4 < 65535 ∧ (¬ v6 → sum16 ip % 65535 = 0) ∧ cu < 65536 ∧ (n < 65536 → 0 < cu ∧ sum16 (pseudo ++ udp) % 65535 = 0)
      else exec (.exportFrameSend k) s = .next s) ∧
    (x.build = none → exec (.exportFrameSend k) s = .next s ∧ exec (.exportHoldoffExpire k) s = .next s) ∧
    (x.build ≠ none → exec (.exportHoldoffExpire k) s = .next (s.setSv k { x with holdOver := true })) ∧
    (x.sending = none → exec (.exportFrameComplete k) s = .next s) ∧
    (∀ g, x.sending = some g → ∃ t, exec (.exportFrameComplete k) s = .next t ∧
      (s.setSv k { x with sending := none }).onlyRegs t (fun r => r = .EXPK_TXFR k ∨ r = .EXPK_TXREC k) ∧
      t.getF (.EXPK_TXFR k) F.EXPK_TXFR_FRAMES = sat (.EXPK_TXFR k) F.EXPK_TXFR_FRAMES 1 ∧
      t.getF (.EXPK_TXREC k) F.EXPK_TXREC_RECORDS = sat (.EXPK_TXREC k) F.EXPK_TXREC_RECORDS g.recs) ∧
    (∀ g, x.build = some g → (s.expOn k = true ↔ s.getB (.EXPK_STS k) F.EXPK_STS_LINK = true ∧ bit g.cfg 35 = true ∧ s.getB .EXP_CTL F.EXP_CTL_EN = true ∧
      s.getB (.EXPK_STS k) F.EXPK_STS_PAUSED = false)) ∧
    (∀ c ∈ [Instr.pause k os, .rxFrameDiscard k os],
      let own := ((octetsOfWords [s.reg (.EXP_TPL k 0), s.reg (.EXP_TPL k 1), s.reg (.EXP_TPL k 2)]).drop 6).take 6
      let body := dst ++ src ++ ([0x88, 0x08, 0x00, 0x01, hi, lo] : List Octet) ++ pad
      let fcs := fun (b : List Octet) => (List.range 4).map (fun j => BitVec.ofNat 8 (crc32Ieee b >>> (8 * j)))
      let toUs := fun (d : List Octet) => d = [0x01, 0x80, 0xC2, 0x00, 0x00, 0x01] ∨ d = own
      (os = body ++ fcs body → dst.length = 6 → src.length = 6 → toUs dst → 64 ≤ os.length → os.length ≤ 9216 →
        ∃ t, exec c s = .next t ∧ s.onlyRegs t (fun r => r = .EXPK_RX k ∨ r = .EXPK_STS k) ∧
        t.getF (.EXPK_RX k) F.EXPK_RX_PAUSE = sat (.EXPK_RX k) F.EXPK_RX_PAUSE 1 ∧
        t.getB (.EXPK_STS k) F.EXPK_STS_PAUSED = decide (256 * hi.toNat + lo.toNat ≠ 0)) ∧
      (os.length < 64 ∨ 9216 < os.length ∨ os.drop (os.length - 4) ≠ fcs (os.take (os.length - 4)) ∨ ¬ toUs (os.take 6) ∨
        (os.drop 12).take 4 ≠ [0x88, 0x08, 0x00, 0x01] →
        ∃ t, exec c s = .next t ∧ s.onlyRegs t (· = .EXPK_RX k) ∧ t.getF (.EXPK_RX k) F.EXPK_RX_DISC = sat (.EXPK_RX k) F.EXPK_RX_DISC 1)) ∧
    (∃ t, exec (.pauseExpire k) s = .next t ∧ s.onlyRegs t (· = .EXPK_STS k) ∧ t.getB (.EXPK_STS k) F.EXPK_STS_PAUSED = false) ∧
    (s.getB (.EXPK_STS k) F.EXPK_STS_LINK = up → exec (.linkChange k up) s = .next s) ∧
    (s.getB (.EXPK_STS k) F.EXPK_STS_LINK = !up → ∃ t, exec (.linkChange k up) s = .next t ∧ t.getB (.EXPK_STS k) F.EXPK_STS_LINK = up ∧
      t.getB (.EXPK_STS k) F.EXPK_STS_LINK_CHG = true ∧
      (if up = true ∨ (x.build = none ∧ x.sending = none) then s.onlyRegs t (· = .EXPK_STS k)
       else (s.setSv k { x with build := none, holdOver := false, sending := none }).onlyRegs t (fun r => r = .EXPK_STS k ∨ r = .EXPK_DROP k) ∧
        t.getB (.EXPK_STS k) F.EXPK_STS_ABORT = true ∧ t.getF (.EXPK_DROP k) F.EXPK_DROP_ABORT =
          sat (.EXPK_DROP k) F.EXPK_DROP_ABORT ((x.build.map (fun g => g.recs)).getD 0 + (x.sending.map (fun g => g.recs)).getD 0)))

/-- R126, R127, R350, R368, R369, R407 and R412: SAFE, lane tests and the eye monitor. -/
def Obligations.SafeParksEverythingAndTestsTakeTheLane : Prop :=
  (∀ s : State, ∃ t, exec .safeNAssert s = .next t ∧ t.pins.safeNLow = true ∧ (s.held = false → s.seq.ibiEn = true → 3 ∈ t.seq.ibis) ∧ t.mem = s.mem ∧
    (s.held = true → t = { s with pins := { s.pins with safeNLow := true, safeSeenBoot := s.pins.safeSeenBoot || (decide (s.devState < 2) && !s.pins.resetNLow) } }) ∧
    (s.held = false → s.devState < 2 → t.seq.safePend = true ∧ t.pins.safeSeenBoot = true ∧ t.regs = s.regs ∧ t.chan = s.chan ∧ t.lane = s.lane) ∧
    (s.held = false → 2 ≤ s.devState → s.SafeIsEntered t)) ∧
  (∀ (n : LaneId) (w : Word) (s : State),
    let x := s.ln n
    let v := fld w 5 1
    (v = 0 → ∃ t, exec (.laneTest n w) s = .next t ∧ t.reg (.LN_TEST n) = 0 ∧
      (s.laneState n = 10 → t.laneState n = 1 ∧ t.reg (.LN_TXEQ n) = 0x1000#36 ∧ t.laneCause n = s.laneCause n) ∧
      (s.laneState n ≠ 10 → t.ln n = { x with testPend := none, testGo := false } ∧ s.onlyRegs { t with lane := s.lane } (fun r => r = .LN_TEST n ∨ r = .LN_PRBS_ERR n))) ∧
    (v / 8 = 3 → ¬ (5 ≤ s.laneState n ∧ s.laneState n ≤ 9) → exec (.laneTest n w) s = .next s) ∧
    (v / 8 = 3 → 5 ≤ s.laneState n → s.laneState n ≤ 9 → ∃ t, exec (.laneTest n w) s = .next t ∧ fld (t.reg (.LN_TEST n)) 5 1 = v ∧
      s.onlyRegs { t with lane := s.lane } (fun r => r = .LN_TEST n ∨ r = .LN_PRBS_ERR n) ∧ (t.ln n).testPend = some (BitVec.ofNat 36 x.seqNext) ∧ (t.ln n).testGo = false ∧
      (t.ln n).out = x.out ++ [{ mtype := 0x017, words := [1], ackReq := true, seq := x.seqNext, attempts := 0 }]) ∧
    (v ≠ 0 → v / 8 ≠ 3 → ∃ t, exec (.laneTest n w) s = .next t ∧ fld (t.reg (.LN_TEST n)) 5 1 = v ∧
      (s.laneState n = 10 → s.onlyRegs { t with fresh := s.fresh } (fun r => r = .LN_TEST n ∨ r = .LN_PRBS_ERR n)) ∧ (s.laneState n ≠ 10 → t.laneState n = 10 ∧ t.laneCause n = 0x16 ∧
        (s.inService n = true → ∀ c, c / 2048 = n.val → (s.ch c).g0.state < 2 → s.takesAt c true 0x12 (s.ch c).g0.actStale (t.ch c))))) ∧
  (∀ (n : LaneId) (eye : Fin 4) (h : Fin 512) (wd : Fin 1024) (s : State),
    let low := h.val < s.getF (.LN_EYE_THR n) F.LN_EYE_THR_HEIGHT ∨ wd.val < s.getF (.LN_EYE_THR n) F.LN_EYE_THR_WIDTH
    if 5 ≤ s.laneState n then
      ∃ t, exec (.eyeSweep n eye h wd) s = .next t ∧ s.onlyRegs { t with health := s.health } (fun r => r = .LN_EYE n ∨ r = .LN_STS n) ∧
        bit (t.reg (.LN_EYE n)) 35 = true ∧ fld (t.reg (.LN_EYE n)) 34 33 = eye.val ∧ fld (t.reg (.LN_EYE n)) 23 15 = h.val ∧
        fld (t.reg (.LN_EYE n)) 14 5 = wd.val ∧
        (t.getB (.LN_STS n) F.LN_STS_EYE_LOW = true ↔ s.getB (.LN_STS n) F.LN_STS_EYE_LOW = true ∨ low) ∧ t.laneState n = s.laneState n ∧
        (if low ∧ s.getB (.LN_STS n) F.LN_STS_EYE_LOW = false ∧ s.health.evts.length < 256 then
          ∃ ev, t.health = { s.health with evts := s.health.evts ++ [ev] } ∧ fld ev 34 29 = 0x09 ∧ fld ev 19 0 = n.val
         else t.health = s.health)
    else exec (.eyeSweep n eye h wd) s = .next s)

/-- R386 to R390, R392 and R393. The words are read as they stand when the check completes (notes/assumptions/25.md). The words an aborted check has read are a free value (notes/assumptions/45.md). -/
def Obligations.ChecksStartStopAndComplete : Prop :=
  ∀ (u : CkuId) (s : State),
    let ctl := s.reg (.CKU_CTL u)
    let sts := Reg.CKU_STS u
    let a := (s.reg (.CKU_ADDR u)).toNat
    let len := s.getF (.CKU_LEN u) F.CKU_LEN_LEN
    let x := s.ckUnit u
    let busy := s.getB sts F.CKU_STS_BUSY
    let ended := fun (t : State) (err cnt : Nat) => t.getF sts F.CKU_STS_ERR = err ∧ t.getF sts F.CKU_STS_CNT = cnt ∧
      t.getB sts F.CKU_STS_DONE = true ∧ t.getB sts F.CKU_STS_BUSY = false
    let rest := fun (t : State) => t.getB sts F.CKU_STS_MIS = s.getB sts F.CKU_STS_MIS ∧ t.getB sts F.CKU_STS_SKIP = s.getB sts F.CKU_STS_SKIP
    let cnt := s.getF sts F.CKU_STS_CNT
    let wrong := fun (n : Nat) => bit ctl 31 = true ∧ ∃ w ∈ s.words a n, fld w 35 32 ≠ 0
    let fmt := fun (t : State) (n : Nat) => t.getB sts F.CKU_STS_FMT = true ↔ s.getB sts F.CKU_STS_FMT = true ∨ wrong n
    let aborted := fun (t : State) => ∃ c ≤ len, ended t 4 c ∧ fmt t c
    let clean := ∀ i < len, s.isBad (a + 4 * i) = false ∧ s.isSoft (a + 4 * i) = false
    let reader := if u.val < 48 then Reader.unit (u / 8) else .outside
    let still := u.val < 48 ∧ s.stalled (u / 8) = true
    let disarm := fun (per : Bool) => if per = true then x else { x with armed := false }
    let cfg := fun (w : Word) => len = 0 ∨ (if u.val < 48 then 65536 else 4194304) < len ∨ a % 4 ≠ 0 ∨ (bit w 31 = true ∧ 2 ≤ fld w 33 32) ∨
      (fld w 33 32 = 2 ∧ len % (if bit w 28 = true then 4 else 2) ≠ 0) ∨ (bit w 30 = true ∧ fld w 15 0 = 0)
    (∀ w, busy = false ∨ bit w 34 = false ∨ clean → ∃ t, exec (.checkStart u w) s = .next t ∧ s.onlyRegs { t with cku := s.cku, fresh := s.fresh } (fun r => r = .CKU_CTL u ∨ r = sts) ∧
      (∀ v, v ≠ u.val → t.ckUnit v = s.ckUnit v) ∧ rest t ∧
      (busy = false → fld (t.reg (.CKU_CTL u)) 33 23 = fld w 33 23 ∧ fld (t.reg (.CKU_CTL u)) 15 0 = fld w 15 0 ∧
        (cfg w → ended t 3 cnt ∧ t.ckUnit u = disarm (bit w 30)) ∧
        (¬ cfg w → bit w 30 = true → t.ckUnit u = { armed := true, due := 0 } ∧ t.reg sts = s.reg sts) ∧
        (¬ cfg w → bit w 30 = false → t.ckUnit u = { x with armed := false } ∧
          (if s.ckuRegionOk u = true then t.getB sts F.CKU_STS_BUSY = true ∧ ∀ i, i < 35 → bit (t.reg sts) i = bit (s.reg sts) i else ended t 1 0))) ∧
      (busy = true → t.ckUnit u = disarm (bit w 30) ∧ bit (t.reg (.CKU_CTL u)) 30 = bit w 30 ∧
        (∀ i, i < 36 → i ≠ 30 → bit (t.reg (.CKU_CTL u)) i = bit ctl i) ∧ (if bit w 34 = true then aborted t else t.reg sts = s.reg sts))) ∧
    (busy = false ∨ clean → ∃ t, exec (.checkAbort u) s = .next t ∧ s.onlyRegs { t with cku := s.cku, fresh := s.fresh } (fun r => r = sts ∧ busy = true) ∧
      (∀ v, v ≠ u.val → t.ckUnit v = s.ckUnit v) ∧ t.ckUnit u = disarm (bit ctl 30) ∧ rest t ∧ (busy = true → aborted t)) ∧
    (∀ i w, busy = true → bit w 34 = true → i < len → s.isBad (a + 4 * i) = true → (∀ j, j < i → s.isBad (a + 4 * j) = false) →
      ∀ c ∈ [Instr.checkStart u w, .checkAbort u], ∃ t, exec c s = .next t ∧ ((∃ c ≤ i, ended t 4 c ∧ fmt t c) ∨ (ended t 2 (i + 1) ∧ fmt t i)) ∧ rest t) ∧
    (∀ (m : Master) (ad w : Word), Reg.ofAddr ad.toNat = some sts → bit w 34 = true → ∃ t, exec (.registerWrite m ad w) s = .next t ∧ s.onlyRegs t (· = sts) ∧
      t.getB sts F.CKU_STS_DONE = false ∧ t.getF sts F.CKU_STS_ERR = 0 ∧ t.getB sts F.CKU_STS_MIS = (s.getB sts F.CKU_STS_MIS && !bit w 33) ∧
      t.getB sts F.CKU_STS_BUSY = busy ∧ t.getF sts F.CKU_STS_CNT = cnt) ∧
    (∀ ups, exec (.checkComplete u ups) s = exec (.checkComplete u []) (s.upset ups)) ∧
    (busy = false ∨ still → exec (.checkComplete u []) s = .next s) ∧
    (busy = true → ¬ still → (∀ i, i < len → s.isBad (a + 4 * i) = false) →
      let ws := s.words a len
      let pr := if fld ctl 33 32 = 0 then 0x82F63B78 else 0xEDB88320
      let crc := fun (bs : List Bool) => bs.foldl (fun c b => if decide (c % 2 = 1) != b then (c / 2) ^^^ pr else c / 2) 0xFFFFFFFF ^^^ 0xFFFFFFFF
      ∃ t, exec (.checkComplete u []) s = .next t ∧ (s.softReads a (4 * len) reader).onlyRegs t (fun r => r = .CKU_RES u ∨ r = sts) ∧ ended t 0 len ∧
        (fld ctl 33 32 < 2 → bit ctl 31 = false → t.reg (.CKU_RES u) = BitVec.ofNat 36 (crc (ws.flatMap (fun w => (List.range 36).map (bit w))))) ∧
        (fld ctl 33 32 < 2 → bit ctl 31 = true → 0 < len → t.reg (.CKU_RES u) = BitVec.ofNat 36 (crc
          ((List.range (32 * (len - 1) + 8 * (if fld ctl 27 26 = 0 then 4 else fld ctl 27 26))).map (fun i => bit (ws.getD (i / 32) 0) (i % 32))))) ∧
        (fld ctl 33 32 = 2 → let n := if bit ctl 28 = true then 4 else 2
          t.reg (.CKU_RES u) = BitVec.ofNat 36 ((List.range (len / n)).filter (fun k =>
            decide (crc9 (ws.getD (n * k) 0) (ws.getD (n * k + n - 1) 0) ≠ fld (ws.getD (n * k + n - 1) 0) 8 0))).length) ∧
        (fld ctl 33 32 = 3 → t.reg (.CKU_RES u) = ws.sum) ∧
        (t.getB sts F.CKU_STS_MIS = true ↔ s.getB sts F.CKU_STS_MIS = true ∨
          (if fld ctl 33 32 = 2 then t.reg (.CKU_RES u) ≠ 0 else t.reg (.CKU_RES u) ≠ s.reg (.CKU_EXP u))) ∧
        fmt t len ∧ t.getB sts F.CKU_STS_SKIP = s.getB sts F.CKU_STS_SKIP) ∧
    (∀ i, busy = true → ¬ still → i < len → s.isBad (a + 4 * i) = true → (∀ j, j < i → s.isBad (a + 4 * j) = false) →
      ∃ t, exec (.checkComplete u []) s = .next t ∧ ((s.softReads a (4 * i) reader).eccUncorrectable (a + 4 * i)).onlyRegs t (· = sts) ∧
        ended t 2 (i + 1) ∧ rest t ∧ fmt t i)

/-- R394 to R399 and the FLOOR of R482. The failing rows and the rows left untested are what the environment reports; those of an aborted run are free values (notes/assumptions/45.md). -/
def Obligations.MarchRunsRefuseStartStopAndComplete : Prop :=
  ∀ s : State,
    let m := s.march
    let sts := Reg.MARCH_STS
    let sect := fun (kind inst : Nat) => if kind ≤ 3 ∧ inst < 192 then some (inst / 32) else if kind = 4 then some (inst / 8) else none
    let n := if m.inst = 255 then 192 else m.inst
    let mem := if m.kind = 0 then some (MemId.sched n) else if m.kind = 1 then some (.spad n) else if m.kind = 4 then some (.shared m.inst)
      else if m.kind = 5 then some .sup else if m.kind = 6 then some .queue else none
    let ends := fun (t : State) => t.march.busy = false ∧ t.march.boot = m.boot ∧ t.getB sts F.MARCH_STS_BUSY = false ∧ t.getB sts F.MARCH_STS_DONE = true
    let clean := ∀ p ∈ s.eccBad ++ s.eccSoft, p.2 = true → ∀ d, mem = some d → memOf (4 * p.1) ≠ some d
    let preserved := fun (t : State) => s.onlyRegs { t with
        march := m, health := s.health, fresh := s.fresh, eccSoft := s.eccSoft, eccBad := s.eccBad, chan := s.chan, seq := s.seq }
      (fun r => r = sts ∨ r = .MARCH_FAIL ∨ r = .HLTH_MARGIN ∨ r = .HLTH_ECC ∨ r = .HLTH_ECC_ADDR ∨ r = .HLTH_STS ∨ ∃ k, r = .SEC_ECC k ∨ r = .SEC_ECC_ADDR k)
    let left := fun (t : State) (done : Bool) => ∃ g, s.fresh ≤ g ∧
      (∀ ca, (∀ d, mem = some d → memOf (4 * (ca / 4)) ≠ some d) → t.word ca = s.word ca) ∧
      (∀ d ca, mem = some d → memOf (4 * (ca / 4)) = some d → t.word ca = if done = true then 0 else Config.freeWord g (ca / 4)) ∧
      (∀ e, t.engine e = if e = n ∧ m.kind = 2 then { s.engine e with icache := if done = true then [] else freeCache g 256 }
        else if e = n ∧ m.kind = 3 then { s.engine e with dcache := if done = true then [] else freeCache g 64 } else s.engine e) ∧
      (∀ c, c < 32768 → t.ch c = if m.kind = 7 then (if done = true then ((s.ch c).setCopy m.inst GlvEntry.reset).setBad m.inst false
        else (s.ch c).setCopy m.inst (GlvEntry.free g c)) else s.ch c) ∧
      (∀ k, (sect m.kind m.inst = some k ∧ m.fencedOnly = false → t.sectState k = 0 ∧ t.getB (.SEC_PLACE k) F.SEC_PLACE_VALID = false) ∧
        (¬ (sect m.kind m.inst = some k ∧ m.fencedOnly = false) → t.reg (.SEC_STATE k) = s.reg (.SEC_STATE k) ∧ t.reg (.SEC_PLACE k) = s.reg (.SEC_PLACE k) ∧ t.sect k = s.sect k))
    (∀ w, bit w 34 = false →
      let alg := fld w 33 32
      let kind := fld w 26 24
      let inst := fld w 23 16
      let bad := ¬ (if kind ≤ 3 then inst < 192 ∨ inst = 255 else if kind = 4 then inst < 48 else if kind = 7 then inst < 2 else inst = 0) ∨ alg = 3 ∨
        (alg = 1 ∧ (kind = 2 ∨ kind = 3)) ∨ (alg = 2 ∧ fld w 15 0 = 0)
      let gated := ∃ k, sect kind inst = some k ∧ s.gated k = true
      let allowed := match sect kind inst with
        | some k => s.running k = false ∨ (kind ≤ 3 ∧ (s.engine inst).fenced = true) ∨ (kind = 4 ∧ ∀ e < 4, (s.engine (4 * inst + e)).fenced = true)
        | none => if kind = 6 then 1 ≤ s.devState ∧ s.devState ≤ 3 else if kind = 7 then ¬ s.glvLocked else 1 ≤ s.devState ∧ s.devState ≤ 2
      ∃ t, exec (.marchStart w) s = .next t ∧ fld (t.reg .MARCH_CTL) 33 31 = fld w 33 31 ∧ fld (t.reg .MARCH_CTL) 26 0 = fld w 26 0 ∧
        (m.busy = true ∨ m.boot = true → s.onlyRegs t (· = .MARCH_CTL)) ∧
        (m.busy = false → m.boot = false → s.onlyRegs { t with march := m } (fun r => r = .MARCH_CTL ∨ r = sts) ∧ fld (t.reg sts) 31 0 = fld (s.reg sts) 31 0 ∧
          t.getB sts F.MARCH_STS_DONE = s.getB sts F.MARCH_STS_DONE ∧
          (bad → t.getF sts F.MARCH_STS_REFUSE = 2 ∧ t.march = m) ∧
          (¬ bad → gated → t.getF sts F.MARCH_STS_REFUSE = 3 ∧ t.march = m) ∧
          (¬ bad → ¬ gated → alg ≠ 1 → ¬ allowed → t.getF sts F.MARCH_STS_REFUSE = 1 ∧ t.march = m) ∧
          (¬ bad → ¬ gated → (alg = 1 ∨ allowed) → t.getF sts F.MARCH_STS_REFUSE = 0 ∧ t.getB sts F.MARCH_STS_BUSY = true ∧
            t.march = { m with busy := true, kind := kind, inst := inst, alg := alg, waits := if alg = 2 then 2 else 0, fencedOnly := t.march.fencedOnly } ∧
            (t.march.fencedOnly = true ↔ ∃ k, sect kind inst = some k ∧ s.running k = true)))) ∧
    (m.busy = false → exec .retentionWaitEnd s = .next s ∧ ∃ t, exec .marchAbort s = .next t ∧ s.onlyRegs t (fun _ => False)) ∧
    (m.busy = true → exec .retentionWaitEnd s = .next { s with march := { m with waits := m.waits - 1 } }) ∧
    (m.busy = true → m.boot = false → m.kind < 8 → ∃ t, exec .marchAbort s = .next t ∧ ends t ∧ t.getB sts F.MARCH_STS_ABORTED = true ∧
      (¬ (m.alg = 1 ∧ s.getB .MARCH_CTL F.MARCH_CTL_REPAIR = true) → t.march.spares = m.spares) ∧
      (m.alg = 1 → s.getB .MARCH_CTL F.MARCH_CTL_REPAIR = true → t.getF sts F.MARCH_STS_REPAIRED < t.getF sts F.MARCH_STS_FAILS →
        t.getB sts F.MARCH_STS_NOSPARE = true) ∧
      (m.alg = 1 → preserved t ∧ (m.kind ≠ 7 → t.chan = s.chan)) ∧
      t.getF sts F.MARCH_STS_REPAIRED ≤ (if m.alg = 1 ∧ s.getB .MARCH_CTL F.MARCH_CTL_REPAIR = true then t.getF sts F.MARCH_STS_FAILS else 0) ∧
      (t.getF sts F.MARCH_STS_FAILS = 0 → t.reg .MARCH_FAIL = 0 ∧ (m.alg ≠ 1 ∨ (m.kind ≠ 5 ∧ m.kind ≠ 6) → t.health = s.health)) ∧ (m.alg ≠ 1 → left t false)) ∧
    (∀ fails unc, m.busy = false ∨ m.waits ≠ 0 → exec (.marchComplete fails unc) s = .next s) ∧
    (∀ fails unc, m.busy = true → m.waits = 0 → m.boot = false → m.kind < 8 → (∀ f ∈ fails, f.bank < 64) →
      let used := fun (b : Nat) => SMap.get (fun _ => 0) m.spares ((m.kind * 256 + m.inst) * 64 + b)
      let repair := s.getB .MARCH_CTL F.MARCH_CTL_REPAIR
      let spared := fun (i : Nat) => let b := (fails.getD i ⟨0, 0⟩).bank
        decide (used b + ((fails.take i).filter (fun g => decide (g.bank = b))).length < 2)
      ∃ t, exec (.marchComplete fails unc) s = .next t ∧ ends t ∧ t.getF sts F.MARCH_STS_FAILS = min (2 ^ 18 - 1) fails.length ∧
        t.reg .MARCH_FAIL = ((fails.map (fun f => f.addr)).headD 0) ∧
        (t.getB sts F.MARCH_STS_UNC = true ↔ s.getB sts F.MARCH_STS_UNC = true ∨ ((unc = true ∨ s.marchBadRow m.kind m.inst = true) ∧ m.alg = 1)) ∧
        t.getF sts F.MARCH_STS_REPAIRED = (if repair = true then min (2 ^ 9 - 1) ((List.range fails.length).filter spared).length else 0) ∧
        (t.getB sts F.MARCH_STS_NOSPARE = true ↔ s.getB sts F.MARCH_STS_NOSPARE = true ∨ (repair = true ∧ ∃ i < fails.length, spared i = false)) ∧
        (fails ≠ [] → t.getF .HLTH_MARGIN F.HLTH_MARGIN_FLOOR = min 850 (s.getF .HLTH_MARGIN F.HLTH_MARGIN_FLOOR + 5 * fails.length)) ∧
        (m.alg = 1 → unc = false → clean → s.onlyRegs { t with march := m, health := s.health } (fun r => r = sts ∨ r = .MARCH_FAIL ∨ (r = .HLTH_MARGIN ∧ fails ≠ []))) ∧
        (m.alg = 1 → preserved t ∧ (m.kind ≠ 7 ∨ unc = false → t.chan = s.chan)) ∧
        (m.alg = 1 → SMap.wf (fun _ => false) s.eccSoft = true → SMap.wf (fun _ => false) s.eccBad = true → ∀ d, mem = some d → memOf d.base = some d →
          let within := fun (p : Nat × Bool) => p.2 && decide (memOf (4 * p.1) = some d)
          let lost := (s.eccBad.filter within).length + (if unc = true then 1 else 0)
          let fixed := (s.eccSoft.filter (fun p => within p && !s.isBad (4 * p.1))).length
          (∀ p ∈ s.eccSoft, within p = true → s.isBad (4 * p.1) = false → t.isSoft (4 * p.1) = false) ∧
          (d = .sup → t.getF .HLTH_ECC F.HLTH_ECC_SV_UNC = min (2 ^ 12 - 1) (s.getF .HLTH_ECC F.HLTH_ECC_SV_UNC + lost)) ∧
          (d = .queue → t.getF .HLTH_ECC F.HLTH_ECC_QM_UNC = min (2 ^ 12 - 1) (s.getF .HLTH_ECC F.HLTH_ECC_QM_UNC + lost)) ∧
          (∀ k, d.sect = some k → t.getF (.SEC_ECC k) F.SEC_ECC_UNC = min (2 ^ 12 - 1) (s.getF (.SEC_ECC k) F.SEC_ECC_UNC + lost) ∧
            t.getF (.SEC_ECC k) F.SEC_ECC_CORR = min (2 ^ 12 - 1) (s.getF (.SEC_ECC k) F.SEC_ECC_CORR + fixed))) ∧
        (m.alg ≠ 1 → left t true))

/-- R274, R287, R296 and R298 to R301. The debug domain shows in OWNER as 255, as the SVE does, and is another holder (notes/assumptions/21.md), and its writes are taken to arrive outside a stall (notes/assumptions/49.md); the words of a descriptor move when it ends (notes/assumptions/25.md). -/
def Obligations.SemaphoresCachesDoorbellsAndDma : Prop :=
  (∀ (m : Master) (k : SectId) (c : Fin 8) (j : Fin 64) (s : State),
    let r := Reg.SEC_SEM k c j
    let own := match m with | .engine n _ => n.val | _ => 255
    let still := s.stalled k = true ∧ m ≠ .debug
    (still ∨ s.getF r F.SEC_SEM_STATE = 1 → exec (.semAcquire m k c j) s = .next s) ∧
    (¬ still → s.getF r F.SEC_SEM_STATE ≠ 1 → ∃ t, exec (.semAcquire m k c j) s = .next t ∧ s.onlyRegs { t with sec := s.sec } (· = r) ∧ t.getF r F.SEC_SEM_STATE = 1 ∧
      (∀ i, { t.sect i with dbgSems := (s.sect i).dbgSems } = s.sect i) ∧ (t.sect k).dbgSem c j = decide (m = .debug) ∧
      t.getF r F.SEC_SEM_OWNER = own ∧ (t.getB r F.SEC_SEM_ORPH = true ↔ s.getF r F.SEC_SEM_STATE = 2)) ∧
    (let may := m = .sve true ∨ (s.getF r F.SEC_SEM_STATE = 1 ∧ s.getF r F.SEC_SEM_OWNER = own ∧ (s.sect k).dbgSem c j = decide (m = .debug))
     (still ∨ ¬ may → exec (.semRelease m k c j) s = .next s) ∧
     (¬ still → may → ∃ t, exec (.semRelease m k c j) s = .next t ∧ s.onlyRegs t (· = r) ∧ t.getF r F.SEC_SEM_STATE = 0 ∧ t.getB r F.SEC_SEM_ORPH = false ∧
       t.getF r F.SEC_SEM_OWNER = s.getF r F.SEC_SEM_OWNER))) ∧
  (∀ (k : SectId) (w : Word) (s : State),
    let named := fun (n : Nat) => (n / 32 = k.val ∧ bit w (n % 32) = true) ∨ (n = 192 ∧ bit w 32 = true)
    (∃ t, exec (.dcacheInvalidate k w) s = .next t ∧ { t with eng := s.eng } = s ∧
      ∀ n, (named n → t.engine n = { s.engine n with dcache := [] }) ∧ (¬ named n → t.engine n = s.engine n)) ∧
    (∃ t, exec (.doorbell k w) s = .next t ∧ { t with eng := s.eng } = s ∧
      ∀ n, (named n → t.engine n = (s.engine n).setCsrW n 0x012 (setBit ((s.engine n).csrW n 0x012) 2 true)) ∧
        (¬ named n → t.engine n = s.engine n))) ∧
  (∀ (c : CluId) (x : Fin 4) (s : State),
    let n := 4 * c.val + x.val
    let sts := Reg.SEC_DMA_STS (c / 8) (c % 8) x
    let ctx := s.dmaCtx n
    let only := fun (b t : State) => b.onlyRegs { t with dma := b.dma } (· = sts) ∧ ∀ i, i ≠ n → t.dmaCtx i = s.dmaCtx i
    let free := fun (t : State) => t.getF sts F.SEC_DMA_STS_FREE = 4 - (t.dmaCtx n).queue.length
    let ended := fun (b t : State) (d : Desc) (rest : List Desc) (code cnt : Nat) => ∃ w : Word, bit w 35 = true ∧ fld w 34 32 = code ∧
      fld w 31 17 = 0 ∧ fld w 16 0 = cnt ∧ only (b.setWord (spadBase n + d.addr + 12) w) t ∧ t.dmaCtx n = { queue := rest, running := none } ∧
      free t ∧ t.getB sts F.SEC_DMA_STS_BUSY = false ∧ t.getB sts F.SEC_DMA_STS_LOST = s.getB sts F.SEC_DMA_STS_LOST ∧
      (t.getB sts F.SEC_DMA_STS_IRQ = true ↔ s.getB sts F.SEC_DMA_STS_IRQ = true ∨ bit d.w2 35 = true)
    (∀ (m : Master) (w : Word),
      let own := ∃ (k : Fin 192) (r : Fin 4), m = .engine k r ∧ k.val = n
      let ring := match m with | .engine _ r => r.val | _ => 0
      let a := fld w 15 0 / 16 * 16
      let ca := spadBase n + a
      let put := fun (b t : State) (bad : Bool) => only b t ∧ free t ∧ t.dmaCtx n = { ctx with queue := ctx.queue ++
        [{ w0 := s.word ca, w1 := s.word (ca + 4), w2 := s.word (ca + 8), addr := a, ring := ring, bad := bad }] }
      (¬ own ∨ s.stalled (c / 8) = true → exec (.dmaPost m c x w) s = .next s) ∧
      (s.stalled (c / 8) = false → own → 4 ≤ ctx.queue.length → ∃ t, exec (.dmaPost m c x w) s = .next t ∧ s.onlyRegs t (· = sts) ∧ t.getB sts F.SEC_DMA_STS_LOST = true) ∧
      (s.stalled (c / 8) = false → own → ctx.queue.length < 4 → (∀ j, j < 3 → s.isBad (ca + 4 * j) = false) → ∃ t, exec (.dmaPost m c x w) s = .next t ∧ put (s.softReads ca 12 (.unit (c / 8))) t false) ∧
      (s.stalled (c / 8) = false → own → ctx.queue.length < 4 → ∀ j, j < 3 → s.isBad (ca + 4 * j) = true → (∀ i, i < j → s.isBad (ca + 4 * i) = false) →
        ∃ t, exec (.dmaPost m c x w) s = .next t ∧ put (s.eccUncorrectable (ca + 4 * j)) t true)) ∧
    let held := (s.engine n).halted = true ∨ s.stalled (c / 8) = true ∨ s.gated (c / 8) = true
    (ctx.running ≠ none ∨ ctx.queue = [] ∨ held → exec (.dmaDescriptorStart c x) s = .next s) ∧
    (∀ d rest, ctx.running = none → ctx.queue = d :: rest → ¬ held →
      ∃ t, exec (.dmaDescriptorStart c x) s = .next t ∧
        (d.bad = true → ended s t d rest 2 0) ∧ (d.bad = false → s.dmaBad n d = true → ended s t d rest 1 0) ∧
        (d.bad = false → s.dmaBad n d = false → only s t ∧ free t ∧ t.dmaCtx n = { queue := rest, running := some d } ∧
          t.getB sts F.SEC_DMA_STS_BUSY = true)) ∧
    (∀ ups, exec (.dmaDescriptorEnd c x ups) s = exec (.dmaDescriptorEnd c x []) (s.upset ups)) ∧
    (ctx.running = none ∨ held → exec (.dmaDescriptorEnd c x []) s = .next s) ∧
    let standing := fun (a : Word) => ∃ i, (dmaMem n a.toNat).bind MemId.sect = some i ∧ s.stalled i = true
    (∀ d, ctx.running = some d → standing d.w1 ∨ (bit d.w2 34 = false ∧ standing d.w0) → exec (.dmaDescriptorEnd c x []) s = .next s) ∧
    (∀ d, ctx.running = some d → ¬ held → ¬ standing d.w1 → (bit d.w2 34 = false → ¬ standing d.w0) →
      let count := fld d.w2 16 0
      let fill := bit d.w2 34
      let src := fun (j : Nat) => canonOf n (d.w0.toNat + 4 * j)
      let dst := fun (j : Nat) => canonOf n (d.w1.toNat + 4 * j)
      let moved := fun (b : State) (k : Nat) => (List.range k).foldl (fun st j =>
        if fill = true then st.setWord (dst j) d.w0 else (st.softRead (src j) (.unit (c / 8))).setWord (dst j) (st.word (src j))) b
      (fill = true ∨ (∀ j, j < count → s.isBad (src j) = false) → ∃ t, exec (.dmaDescriptorEnd c x []) s = .next t ∧
        ended (moved s count) t d ctx.queue 0 count) ∧
      (fill = false → ∀ k, k < count → s.isBad (src k) = true → (∀ j, j < k → s.isBad (src j) = false ∧ dst j / 4 ≠ src k / 4) →
        ∃ t, exec (.dmaDescriptorEnd c x []) s = .next t ∧ ended ((moved s k).eccUncorrectable (src k)) t d ctx.queue 2 k)))

/-- R24, R25, R106, R297, R301 and R490 to R492. State.drainAll is the completion of the stores in the store buffer. What a fence completes, drains or abandons (notes/assumptions/30.md), the free count of the running descriptor (notes/assumptions/25.md) and the halt that it ends (notes/assumptions/48.md) are the model's readings. -/
def Obligations.SectionsGatePowerAndFence : Prop :=
  (∀ (m : Master) (k : SectId) (s : State),
    let r := Reg.SEC_PWR k
    let may := m = .sve true ∧ (s.sectState k = 0 ∨ s.sectState k = 3) ∧ s.getB r F.SEC_PWR_GATED = false
    let on := m = .sve true ∧ s.getB r F.SEC_PWR_GATED = true
    (¬ may → exec (.sectionGate m k) s = .next s) ∧
    (may → ∃ t, exec (.sectionGate m k) s = .next t ∧ s.SectionIsReset t k ∧ t.getB r F.SEC_PWR_GATE = true ∧ t.getB r F.SEC_PWR_GATED = true ∧ t.getB r F.SEC_PWR_BUSY = false) ∧
    (¬ on → exec (.sectionPowerRestore m k) s = .next s) ∧
    (on → ∃ t, exec (.sectionPowerRestore m k) s = .next t ∧ s.onlyRegs t (· = r) ∧ t.getB r F.SEC_PWR_GATE = false ∧
      t.getB r F.SEC_PWR_GATED = false ∧ t.getB r F.SEC_PWR_BUSY = true) ∧
    (s.getB r F.SEC_PWR_BUSY = false → exec (.sectionPowerUpDone k) s = .next s) ∧
    (s.getB r F.SEC_PWR_BUSY = true → s.march.boot = false → ∃ t, exec (.sectionPowerUpDone k) s = .next t ∧ s.SectionIsReset t k ∧
      t.getB r F.SEC_PWR_BUSY = false ∧ ∀ ca, (memOf (4 * (ca / 4))).bind MemId.sect = some k.val →
        ∃ g, s.fresh < g ∧ g ≤ t.fresh ∧ t.word ca = Config.freeWord g (ca / 4))) ∧
  (∀ (m : Master) (k : SectId) (w : Word) (s : State),
    let r := Reg.SEC_FENCE k
    let n := k.val * 32 + fld w 4 0
    (bit w 35 = true → s.getF r F.SEC_FENCE_STS = 1 → exec (.fence m k w) s = .next s) ∧
    (bit w 35 = false ∨ s.getF r F.SEC_FENCE_STS ≠ 1 → ∃ t, exec (.fence m k w) s = .next t ∧ s.onlyRegs { t with sec := s.sec } (· = r) ∧
      t.getF r F.SEC_FENCE_ENGINE = fld w 4 0 ∧ (∀ j, j ≠ k.val → t.sect j = s.sect j) ∧
      (bit w 35 = false → t.getF r F.SEC_FENCE_STS = s.getF r F.SEC_FENCE_STS ∧ t.sect k = s.sect k) ∧
      (bit w 35 = true → s.getB (.SEC_PWR k) F.SEC_PWR_GATED = true → t.getF r F.SEC_FENCE_STS = 3 ∧ t.sect k = s.sect k) ∧
      (bit w 35 = true → s.getB (.SEC_PWR k) F.SEC_PWR_GATED = false → (s.engine n).fenced = true → t.getF r F.SEC_FENCE_STS = 2 ∧ t.sect k = s.sect k) ∧
      (bit w 35 = true → s.getB (.SEC_PWR k) F.SEC_PWR_GATED = false → (s.engine n).fenced = false → t.getF r F.SEC_FENCE_STS = 1 ∧
        t.sect k = { s.sect k with fencing := some n }))) ∧
  (∀ (k : SectId) (s : State), (s.sect k).fencing = none → exec (.fenceDone k) s = .next s) ∧
  (∀ (k : SectId) (s : State) (n : Nat), (s.sect k).fencing = some n → n / 32 = k.val →
    let d := (s.modSect k (fun x => { x with fencing := none })).drainAll n
    ∃ t, exec (.fenceDone k) s = .next t ∧ t.getF (.SEC_FENCE k) F.SEC_FENCE_STS = 2 ∧
      { t.sect k with stallCyc := (d.sect k).stallCyc } = (if ((d.engine n).inHalt && (List.range 32).all (fun i => i == n % 32 || !(d.engine (k * 32 + i)).inHalt)) = true
        then { d.sect k with dbgHalted := false } else d.sect k) ∧
      t.lane = d.lane ∧ t.queue = d.queue ∧ t.beat = d.beat ∧ t.pending = d.pending ∧
      (∃ rv, t.engine n = { d.engine n with
        fenced := true, halted := false, haltReq := none, stepLeft := none, stepNoInt := false, waitRead := none, early := [], fence := none,
        csrLate := none, flights := [], held := [], divOp := none, fplOp := none, stm := Stm.reset, inBeat := false, resv := rv }) ∧
      (∀ i, i ≠ n → ∃ rv, t.engine i = { d.engine i with resv := rv }) ∧
      t.dmaCtx n = DmaCtx.reset ∧ (∀ i, i ≠ n → t.dmaCtx i = d.dmaCtx i) ∧
      t.getF (.SEC_DMA_STS (n / 4 / 8) (n / 4 % 8) (n % 4)) F.SEC_DMA_STS_FREE = 4 ∧
      (∀ e, e ∈ (d.dmaCtx n).queue → d.memHeld (spadBase n + e.addr + 12) = false → t.word (spadBase n + e.addr + 12) = 0xB00000000#36) ∧
      (∀ e, (d.dmaCtx n).running = some e → d.memHeld (spadBase n + e.addr + 12) = false →
        (∀ g ∈ (d.dmaCtx n).queue, (spadBase n + g.addr + 12) / 4 ≠ (spadBase n + e.addr + 12) / 4) →
        let w := t.word (spadBase n + e.addr + 12)
        bit w 35 = true ∧ (fld w 34 32 = 3 ∨ fld w 34 32 = 2) ∧ fld w 16 0 ≤ fld e.w2 16 0) ∧
      (∀ i c j, i < 6 → c < 8 → j < 64 → t.getF (.SEC_SEM i c j) F.SEC_SEM_OWNER = d.getF (.SEC_SEM i c j) F.SEC_SEM_OWNER ∧
        t.getF (.SEC_SEM i c j) F.SEC_SEM_STATE = if d.getF (.SEC_SEM i c j) F.SEC_SEM_STATE = 1 ∧ d.getF (.SEC_SEM i c j) F.SEC_SEM_OWNER = n then 2
          else d.getF (.SEC_SEM i c j) F.SEC_SEM_STATE) ∧
      (∀ c, ((d.ch c).g0.owner = n → ∃ y, d.takesAt c false 0x1B (d.ch c).g0.actPark y ∧ t.ch c = y.setOwner 255) ∧
        ((d.ch c).g0.owner ≠ n → t.ch c = d.ch c)) ∧
      (∀ i, i < 36 → bit (t.reg (.SEC_USABLE k)) i = (bit (d.reg (.SEC_USABLE k)) i && decide (i ≠ n % 32))) ∧
      t.getB (.SEC_STATE k) F.SEC_STATE_ENGF = true ∧
      t.sectState k = if d.sectState k = 2 ∧ bit (d.sect k).useMask (n % 32) = true then 4 else d.sectState k)

/-- R402, R406, R409 to R411, R413, R415 and R501. paramsOk with State.offsetOk, State.legalNow, State.authOk and State.hostBusy are checks 3 to 6, each given here row by row (Tables 16.6, 16.7, 18.1 and 18.4); a section that a march run holds or that is gated passes to BUSY in any state (R396, R490: notes/assumptions/37.md); a packet of more than 511 parameter words cannot be sent, and the model drops the further ones (notes/assumptions/5.md). -/
def Obligations.HostCommandsAreCheckedInOrder : Prop :=
  (∀ s : State, ∀ k, k < 6 → fld s.sectStates (3 * k + 2) (3 * k) = s.sectState k) ∧
  (∀ (s : State) (p : List Word), 1 ≤ s.devState → s.devState ≤ 7 →
    let st := s.devState
    let w := p.getD 0 0
    let sect := fun (k : Nat) (l : List Nat) => s.sectState k ∈ l
    let gated := fun (k : Nat) => s.getB (.SEC_PWR k) F.SEC_PWR_GATED = true ∨ s.getB (.SEC_PWR k) F.SEC_PWR_BUSY = true
    let marched := fun (k : Nat) => s.march.busy = true ∧ s.march.alg ≠ 1 ∧ marchSect s.march.kind s.march.inst = some k
    let row := fun (os : List Nat) (x : Exec) (cond : Prop) => ∀ o ∈ os, (cond → s.legalNow o p = some x) ∧ (¬ cond → s.legalNow o p = none)
    let opens := s.seq.session = none
    let open' := fun (x : Session) => s.seq.session = some x ∧ x.closing = false
    row [0x001, 0x002, 0x003, 0x011, 0x080, 0x081, 0x082, 0x083, 0x084, 0x085, 0x086, 0x087, 0x088, 0x089] .seq True ∧
    row [0x004, 0x040, 0x041, 0x042, 0x043, 0x050, 0x051, 0x052, 0x090, 0x091, 0x0F0] .firmware (st ∈ [3, 4, 5, 6]) ∧
    (fld w 1 0 = 0 → row [0x010] .seq True) ∧ (fld w 1 0 = 1 → row [0x010] .seq (st ∈ [3, 4, 5, 6])) ∧
    (fld w 1 0 = 2 → row [0x010] .seq (st ∈ [2, 3, 4, 5, 6] ∧ sect (fld w 6 4) [0, 1, 3])) ∧ row [0x012] .seq (st = 6) ∧
    (fld w 7 0 = 1 → row [0x020] .seq (opens ∧ (st = 2 ∨ (st = 6 ∧ s.getF .HOST_STATE F.HOST_STATE_PREV = 2)))) ∧
    (fld w 7 0 = 2 → row [0x020] .seq (opens ∧ st ∈ [3, 4, 5, 6])) ∧ (fld w 7 0 = 4 → row [0x020] .firmware (opens ∧ st ∈ [3, 4])) ∧
    (fld w 7 0 = 3 → row [0x020] .firmware (opens ∧ st ∈ [3, 4, 5, 6] ∧ (sect (fld w 10 8) [0, 3] ∨ marched (fld w 10 8)))) ∧
    (∀ x, open' x → row [0x021, 0x022] (if x.type ≤ 2 then .seq else .firmware) True) ∧ ((∀ x, ¬ open' x) → row [0x021, 0x022] .seq False) ∧
    row [0x023] .seq (st ∈ [2, 3, 4, 5, 6, 7] ∧ ∃ x, open' x) ∧ row [0x030] .firmware (st = 4) ∧
    row [0x031] .firmware (st ∈ [5, 6] ∧ sect w.toNat [2, 4]) ∧
    row [0x032] .firmware (st ∈ [5, 6] ∧ (sect w.toNat [1, 3] ∨ gated w.toNat ∨ marched w.toNat)) ∧
    row [0x033, 0x0A0, 0x0A1] .firmware (st ∈ [4, 5, 6]) ∧ row [0x034] .firmware (st = 5) ∧
    row [0x060, 0x061, 0x070, 0x071, 0x072, 0x073, 0x074] .seq (st ∈ [2, 3, 4, 5, 6, 7]) ∧
    (∀ o, s.authOk o = true ↔ (o ∈ [0x083, 0x087] → 1 ≤ s.dbg.level) ∧ (o ∈ [0x080, 0x081, 0x082, 0x084, 0x085, 0x086, 0x088] → s.dbg.level = 2) ∧
      (o ∈ [0x070, 0x071, 0x072] → s.helm.lc ≠ 7) ∧ (o = 0x074 → s.helm.idKey ≠ none ∧ s.helm.lc ∈ [1, 2, 3])) ∧
    (∀ o x, s.hostBusy o x p = true ↔ (x = .firmware ∧ ∃ f, s.seq.fw = some f ∧ f.opcode ≠ 0x022) ∨
      (o = 0x020 ∧ fld w 7 0 = 3 ∧ (gated (fld w 10 8) ∨ marched (fld w 10 8))) ∨
      (o = 0x032 ∧ (gated w.toNat ∨ marched w.toNat)) ∨ (o = 0x060 ∧ s.march.busy = true)) ∧
    (∀ o, s.offsetOk o p = true ↔ ∀ x, o = 0x021 → open' x → w.toNat = x.words.length)) ∧
  (∀ p : List Word,
    let n := fun (v : Nat) => BitVec.ofNat 36 v
    let low := fun (l : List Word) => ∀ v ∈ l, v.toNat < 2 ^ 32
    let eng := fun (e : Nat) => e < 192 ∨ e = 255
    let place := fun (v : Word) => v = 0 ∨ ∃ e, eng e ∧ v = n (2 ^ 35 + e)
    let rows : List (List Nat × Prop) := [
      ([0x001, 0x002, 0x003, 0x011, 0x012, 0x022, 0x023, 0x030, 0x061, 0x071, 0x073, 0x089, 0x090, 0x091], p = []),
      ([0x004], ∃ m, 1 ≤ m ∧ m ≤ 127 ∧ p = [n m]),
      ([0x010], ∃ scope k, scope ≤ 2 ∧ k ≤ 5 ∧ (scope = 2 ∨ k = 0) ∧ p = [n (scope + 16 * k)]),
      ([0x020], ∃ ty k m, 1 ≤ ty ∧ ty ≤ 4 ∧ k ≤ 5 ∧ (ty = 3 ∨ k = 0) ∧ 3 ≤ m ∧ m ≤ 4194304 ∧ p = [n (ty + 256 * k), n m]),
      ([0x021, 0x041, 0x043], 2 ≤ p.length), ([0x031, 0x032], ∃ k, k ≤ 5 ∧ p = [n k]),
      ([0x033, 0x034], ∃ f m, f < 32768 ∧ 1 ≤ m ∧ f + m ≤ 32768 ∧ p = [n f, n m]),
      ([0x040, 0x042], ∃ a m, 1 ≤ m ∧ m ≤ 511 ∧ p = [a, n m]), ([0x050], ∃ l, l ≤ 19 ∧ p = [n l]),
      ([0x051], ∃ l kind, l ≤ 19 ∧ 1 ≤ kind ∧ kind ≤ 3 ∧ p = [n (l + 256 * kind)]), ([0x052], ∃ l v, l ≤ 19 ∧ p = [n l, v]),
      ([0x060], ∃ v, bit v 34 = false ∧ p = [v]),
      ([0x070], ∃ m l, 1 ≤ m ∧ m ≤ 64 ∧ p = n m :: l ∧ l.length = (m + 3) / 4 ∧ low l),
      ([0x072], ∃ total off l, total < 4096 ∧ off % 4 = 0 ∧ l ≠ [] ∧ off + 4 * (l.length - 1) < total ∧ p = n (4096 * total + off) :: l ∧ low l),
      ([0x074], p.length = 12 ∧ low p), ([0x080, 0x081], ∃ v, p = [v] ∧ ((∃ e, eng e ∧ v = n e) ∨ ∃ g, g < 8 ∧ v = n (2 ^ 35 + g))),
      ([0x082], ∃ e i m, eng e ∧ i < 2 ∧ 1 ≤ m ∧ m ≤ 65535 ∧ p = [n (e + 256 * i), n m]),
      ([0x083], ∃ v a m, place v ∧ 1 ≤ m ∧ m ≤ 511 ∧ p = [v, a, n m]), ([0x084], ∃ v a l, place v ∧ l ≠ [] ∧ p = v :: a :: l),
      ([0x085, 0x086], ∃ e i a v, eng e ∧ i < 4 ∧ p = [n (e + 256 * i), a, v]), ([0x087], ∃ e v, eng e ∧ fld v 34 32 = 0 ∧ p = [n e, v]),
      ([0x088], ∃ g, g < 8 ∧ (p = [n g] ∨ p = [n (2 ^ 35 + g)] ∨ ∃ v, p = [n (2 ^ 34 + g), v])),
      ([0x0A0], ∃ q l, q < 65536 ∧ p = n q :: l ∧ l.length = (if q < 32768 then 8 else 4)), ([0x0A1], ∃ q, q < 65536 ∧ p = [n q]), ([0x0F0], True)]
    ∀ row ∈ rows, ∀ o ∈ row.1, paramsOk o p = true ↔ row.2) ∧
  ∀ row, IsHostRow row → ∀ (h : HostHdr) (ws : List Word) (s : State),
    let p := ws.take 511
    let o := row.2
    let replies := fun (st : Nat) (l : List Word) => ∃ t, exec (row.1 h ws) s = .next t ∧ (s.acked h).Answered t st h.tag h.noibi l
    (¬ s.listens → exec (row.1 h ws) s = .next { s with seq := { s.seq with nacked := true } }) ∧
    (s.listens →
      (paramsOk o p = false ∨ s.offsetOk o p = false → replies 0x004 []) ∧
      (paramsOk o p = true → s.offsetOk o p = true → s.legalNow o p = none → replies 0x003 [s.sectStates]) ∧
      (∀ x, paramsOk o p = true → s.offsetOk o p = true → s.legalNow o p = some x →
        (x = .firmware → s.getB .HOST_STATE F.HOST_STATE_SUP = false → replies 0x003 [s.sectStates]) ∧
        ((x = .firmware → s.getB .HOST_STATE F.HOST_STATE_SUP = true) → s.authOk o = false → replies 0x006 []) ∧
        ((x = .firmware → s.getB .HOST_STATE F.HOST_STATE_SUP = true) → s.authOk o = true → s.hostBusy o x p = true → replies 0x001 [])))

/-- R25, R126, R127, R395, R412, R416 to R418, R426, R428 and R526. An acknowledged packet clears the note of a NACK (State.acked). The order of the words in the staging window is the model's (notes/assumptions/50.md), and so are the statuses of MARCH_RUN to REFUSE 1, 2 and 3 (notes/assumptions/37.md). -/
def Obligations.SequencerCommandsActAndReply : Prop :=
  ∀ (h : HostHdr) (ws : List Word) (s : State),
    let p := ws.take 511
    let w := fun (i : Nat) => p.getD i 0
    let b := s.acked h
    let prev := s.getF .HOST_STATE F.HOST_STATE_PREV
    let acts := fun (c : Instr) (o : Nat) (Y : State → Nat → List Word → Prop) => s.hostTakes o ws .seq →
      ∃ y st l t, exec c s = .next t ∧ Y y st l ∧ y.Answered t st h.tag h.noibi l
    acts (.getStatus h ws) 0x001 (fun y st l => y = b ∧ st = 0 ∧ ∃ v, l = [s.sectStates, s.reg .BEAT_NUM, v, s.reg .HOST_STATE_ERR] ∧
      bit v 0 = h.safeNLow ∧ bit v 1 = s.alertN ∧ bit v 2 = s.getB .HOST_STATE F.HOST_STATE_SUP ∧ bit v 3 = s.getB .GLV_CTL F.GLV_CTL_LOCK ∧
      bit v 4 = s.getB .HOST_STATE F.HOST_STATE_STARTED ∧ fld v 6 5 = s.dbg.level % 4 ∧ fld v 17 9 = prev ∧ fld v 8 7 = 0 ∧ fld v 35 18 = 0) ∧
    acts (.getIdentity h ws) 0x002 (fun y st l => y = b ∧ st = 0 ∧ ∃ v, l = [s.reg .HOST_DEVID, s.otpWord 1, s.otpWord 2, s.otpWord 3, s.otpWord 4, v] ∧
      v.toNat = s.helm.lc % 8) ∧
    acts (.getFeatures h ws) 0x003 (fun y st l => y = b ∧ st = 0 ∧ ∃ v, l = [s.reg .HOST_CAPS, s.reg (.SEC_USABLE 0), s.reg (.SEC_USABLE 1),
      s.reg (.SEC_USABLE 2), s.reg (.SEC_USABLE 3), s.reg (.SEC_USABLE 4), s.reg (.SEC_USABLE 5), v] ∧ fld v 10 0 = s.fminSched % 2048 ∧
      fld v 35 11 = fld (s.reg .BEAT_FMIN_SCHED) 35 11) ∧
    (∀ c ∈ [Instr.resetDevice h ws, .resetSupervisor h ws, .resetSection h ws], acts c 0x010 (fun y st l => st = 0 ∧ l = [] ∧
      (fld (w 0) 1 0 = 0 → y = { b with seq := { b.seq with resetPend := true } }) ∧ (fld (w 0) 1 0 = 1 → b.SupervisorIsReset y) ∧
      (fld (w 0) 1 0 = 2 → b.SectionIsReset y (fld (w 0) 6 4)))) ∧
    acts (.safe h ws) 0x011 (fun y st l => st = 0 ∧ l = [] ∧ (s.devState < 2 → y = { b with seq := { b.seq with safePend := true } }) ∧
      (2 ≤ s.devState → b.SafeIsEntered y)) ∧
    acts (.clearSafe h ws) 0x012 (fun y st l => (h.safeNLow = true → y = b ∧ st = 3 ∧ l = [s.sectStates]) ∧
      (h.safeNLow = false → st = 0 ∧ l = [] ∧ y.devState = prev ∧ (s.seq.session = none → b.onlyRegs { y with seq := b.seq } (· = .HOST_STATE)))) ∧
    acts (.loadBegin h ws) 0x020 (fun y st l => st = 0 ∧ l = [] ∧ y.seq = { b.seq with
        session := some { type := fld (w 0) 7 0, target := fld (w 0) 10 8, count := (w 1).toNat, words := [], closing := false, tag := 0, noibi := false } } ∧
      (fld (w 0) 7 0 ≠ 1 → { y with seq := b.seq } = b) ∧
      (fld (w 0) 7 0 = 1 → { y with seq := b.seq, mem := b.mem, undef := b.undef, eccSoft := b.eccSoft, eccBad := b.eccBad, fresh := b.fresh } = b ∧
        ∀ ca, s.memHeld ca = false → y.word ca = if memOf (4 * (ca / 4)) = some .sup then Config.freeWord (s.fresh + 1) (ca / 4) else s.word ca)) ∧
    (∀ x, s.openSession = some x → acts (.loadData h ws) 0x021 (fun y st l =>
      let data := p.drop 1
      let img := x.words ++ data
      let n := imgBodyLen img
      (x.count < img.length → y = b ∧ st = 4 ∧ l = []) ∧
      (img.length ≤ x.count → st = 0 ∧ l = [BitVec.ofNat 36 img.length] ∧ y.seq = { b.seq with session := some { x with words := img } } ∧
        { y with seq := b.seq, mem := b.mem, undef := b.undef, eccSoft := b.eccSoft, eccBad := b.eccBad, fresh := b.fresh } = b ∧
        (∀ ca, (∀ i, i < data.length → imgWordAddr x.type n (x.words.length + i) ≠ some (4 * (ca / 4))) → y.word ca = s.word ca) ∧
        ∀ i, i < data.length →
          let q := x.words.length + i
          let goes := fun (a top : Nat) => a < top → s.memHeld a = false → y.word a = data.getD i 0
          (x.type = 2 → goes (0x0800F0000 + 4 * q) 0x080100000) ∧
          (x.type = 1 → q < 16 → goes (0x0800F0000 + 4 * q) 0x080100000) ∧
          (x.type = 1 → 17 ≤ q → q < 16 + n → goes (0x080000000 + 4 * (q - 17)) 0x0800F0000) ∧
          (x.type = 1 → 17 ≤ q → 16 + n ≤ q → goes (0x0800F0000 + 4 * (q - n)) 0x080100000)))) ∧
    (∀ x e, s.openSession = some x → s.hostTakes 0x022 ws e →
      let y := { b with seq := { b.seq with session := some { x with closing := true, tag := h.tag, noibi := h.noibi } } }
      (e = .seq → exec (.loadEnd h ws) s = .next y) ∧ (e = .firmware → ∃ t, exec (.loadEnd h ws) s = .next t ∧ y.HandedOver t 0x022 h p 0 [])) ∧
    ((∀ x, s.seq.session = some x → x.closing = true → ∃ t, exec .verificationComplete s = .next t ∧ t.seq.session = none) ∧
      ((∀ x, s.seq.session = some x → x.closing = false) → ∃ t, exec .verificationComplete s = .next t ∧ t = s)) ∧
    (∀ x, s.openSession = some x → acts (.loadAbort h ws) 0x023 (fun y st l => st = 0 ∧ l = [] ∧ y.seq = { b.endCmd.seq with session := none } ∧
      ((∀ f, s.seq.fw = some f → f.opcode ≠ 0x022) → b.endCmd = b) ∧ (x.type ≠ 3 → { y with seq := b.seq } = { b.endCmd with seq := b.seq }) ∧
      (x.type = 3 → x.target ≤ 5 → y.sectState x.target = 0 ∧ y.getB (.SEC_PLACE x.target) F.SEC_PLACE_VALID = false ∧
        (∀ ca, (memOf (4 * (ca / 4))).bind MemId.sect ≠ some x.target → y.word ca = s.word ca) ∧
        ∀ ca, (memOf (4 * (ca / 4))).bind MemId.sect = some x.target → s.memHeld ca = false →
          ∃ g, s.fresh < g ∧ g ≤ y.fresh ∧ y.word ca = Config.freeWord g (ca / 4)))) ∧
    acts (.marchRun h ws) 0x060 (fun y st l => exec (.marchStart (w 0)) b = .next y ∧ (s.march.boot = false →
      st = [0x000, 0x003, 0x004, 0x001].getD (y.getF .MARCH_STS F.MARCH_STS_REFUSE) 0 ∧ l = if st = 3 then [y.sectStates] else [])) ∧
    acts (.marchResult h ws) 0x061 (fun y st l => y = b ∧ st = 0 ∧ l = [s.reg .MARCH_STS, s.reg .MARCH_FAIL])

/-- R438, R439, R441 to R444, R447, R449, R460, R467 and R471. The debug accesses are State.dbgReadWords, State.dbgWriteWords, State.dbgEngReads and State.dbgEngWrites. -/
def Obligations.UnlockAttestAndDebugCommandsActAndReply : Prop :=
  (∀ s : State, exec .nonceExpire s = .next { s with dbg := { s.dbg with nonce := none, resp := [], respTotal := 0 } } ∧
    (s.seq.haltWait = [] → exec .dbgReplyTimeout s = .next s) ∧
    (∀ x rest, s.seq.haltWait = x :: rest →
      let up := (x.targets.filter (fun n => (s.engine n).halted)).length
      ∃ t, exec .dbgReplyTimeout s = .next t ∧ State.Answered { s with seq := { s.seq with haltWait := rest } } t
        (if up = x.targets.length then 0 else 0x00C) x.tag x.noibi
        (if x.opcode = 0x080 then [BitVec.ofNat 36 up, BitVec.ofNat 36 (x.targets.length - up)]
         else [BitVec.ofNat 36 (s.engine (x.targets.headD 0)).stepIssued]))) ∧
  ∀ (h : HostHdr) (ws : List Word) (s : State),
    let p := ws.take 511
    let w := fun (i : Nat) => p.getD i 0
    let b := s.acked h
    let d := s.dbg
    let acts := fun (c : Instr) (o : Nat) (Y : State → Nat → List Word → Prop) => s.hostTakes o ws .seq →
      ∃ y st l t, exec c s = .next t ∧ Y y st l ∧ y.Answered t st h.tag h.noibi l
    let num := fun (v : Word) => if fld v 7 0 = 255 then 192 else fld v 7 0
    let targets := if bit (w 0) 35 = true then (List.range 193).filter (fun n => bit (s.reg (.DBG_ECTL n)) (24 + fld (w 0) 2 0)) else [num (w 0)]
    acts (.unlockPassword h ws) 0x070 (fun y st l => l = [] ∧
      let ok := s.pwdSet = true ∧ sha384 ((octetsOfWords (p.drop 1)).take (w 0).toNat) = s.otpOctets 0x090 12
      (s.helm.lc ≠ 3 → y = b ∧ st = 0) ∧ (s.helm.lc = 3 → 5 ≤ d.pwFail → y = b ∧ st = 6) ∧
      (s.helm.lc = 3 → d.pwFail < 5 → ok → st = 0 ∧ y = { b with dbg := { d with level := if d.level = 0 then 1 else d.level } }) ∧
      (s.helm.lc = 3 → d.pwFail < 5 → ¬ ok → st = 6 ∧ y = { b with dbg := { d with pwFail := d.pwFail + 1 } })) ∧
    acts (.unlockChallenge h ws) 0x071 (fun y st l => st = 0 ∧ ∃ n : List Octet, n.length = 48 ∧ l = wordsN 12 n ∧
      y = { b with fresh := s.fresh + 1, dbg := { d with nonce := some n, resp := [], respTotal := 0 } }) ∧
    acts (.unlockResponse h ws) 0x072 (fun y st l => l = [] ∧
      let total := fld (w 0) 23 12
      let off := fld (w 0) 11 0
      let r := d.resp ++ (octetsOfWords (p.drop 1)).take (total - off)
      let late := off ≠ d.resp.length ∨ (0 < off ∧ total ≠ d.respTotal)
      (s.helm.lc ≠ 3 → y = b ∧ st = 0) ∧ (s.helm.lc = 3 → d.nonce = none → y = b ∧ st = 6) ∧
      (∀ n, s.helm.lc = 3 → d.nonce = some n →
        (late → st = 6 ∧ y = { b with dbg := { d with resp := [], respTotal := 0 } }) ∧
        (¬ late → r.length < total → st = 0 ∧ y = { b with dbg := { d with resp := r, respTotal := total } }) ∧
        (¬ late → total ≤ r.length → st = (if s.responseOk n r = true then 0 else 6) ∧
          y = { (if s.responseOk n r = true then b.swdtCatch else b) with dbg := { d with nonce := none, resp := [], respTotal := 0, level := if s.responseOk n r = true then 2 else d.level } }))) ∧
    acts (.lock h ws) 0x073 (fun y st l => st = 0 ∧ l = [] ∧
      y = if s.helm.lc = 3 then { b with dbg := { d with level := 0, nonce := none, resp := [], respTotal := 0 } } else b) ∧
    acts (.attest h ws) 0x074 (fun y st l => { y with fresh := s.fresh } = b ∧ s.fresh ≤ y.fresh ∧ st = 0 ∧ ∃ k key, 1 ≤ k ∧ k < p384N ∧
      s.helm.idKey = some key ∧ l = s.evidence p ++ wordsN 24 (ecdsaSign key k (sha384 (packWords (s.evidence p))))) ∧
    (s.hostTakes 0x080 ws .seq → exec (.dbgHalt h ws) s = .next (State.haltReplies (
      let y := targets.foldl (fun st n => st.requestHalt n 1 0) b
      { y with seq := { y.seq with haltWait := s.seq.haltWait ++ [{ opcode := 0x080, tag := h.tag, noibi := h.noibi, targets := targets }] } }))) ∧
    acts (.dbgResume h ws) 0x081 (fun y st l =>
      let up := targets.filter (fun n => (s.engine n).halted)
      st = 0 ∧ l = [BitVec.ofNat 36 up.length] ∧ y = up.foldl (fun st n => st.resumeEngine n) b) ∧
    (s.hostTakes 0x082 ws .seq → (s.engine (num (w 0))).halted = true → exec (.dbgStep h ws) s = .next (
      let y := b.stepEngine (num (w 0)) (w 1).toNat (bit (w 0) 8)
      { y with seq := { y.seq with haltWait := s.seq.haltWait ++ [{ opcode := 0x082, tag := h.tag, noibi := h.noibi, targets := [num (w 0)] }] } })) ∧
    (s.hostTakes 0x082 ws .seq → (s.engine (num (w 0))).halted = false → ∃ t, exec (.dbgStep h ws) s = .next t ∧
      b.Answered t 3 h.tag h.noibi [s.sectStates]) ∧
    acts (.dbgRead h ws) 0x083 (fun y st l =>
      let a := (w 1).toNat
      let n := (w 2).toNat
      if bit (w 0) 35 = true then (if s.dbgEngOk (num (w 0)) = true then
          y = (if a ≤ 0x1143 ∧ 0x1140 < a + n then b.cntCatch (num (w 0)) else b) ∧ l = y.dbgEngReads (num (w 0)) a n ∧ st = (if l.length = n then 0 else 0x00C)
        else y = b ∧ st = 3 ∧ l = [s.sectStates])
      else if (List.range (b.dbgReadWords a n).1.length).any (fun i => decide (a + 4 * i = Reg.addr .HOST_MBX_DATA)) = true then y = b ∧ st = 0x00B ∧ l = []
      else (l, y) = b.dbgReadWords a n ∧ st = if l.length = n then 0 else 0x00C) ∧
    acts (.dbgWrite h ws) 0x084 (fun y st l =>
      let data := p.drop 2
      let done := fun (k : Nat) => st = (if k = data.length then 0 else 0x00C) ∧ l = if k = data.length then [] else [BitVec.ofNat 36 k]
      if bit (w 0) 35 = true then (if s.dbgEngOk (num (w 0)) = true then ∃ k, (k, y) = b.dbgEngWrites (num (w 0)) (w 1).toNat data ∧ done k
        else y = b ∧ st = 3 ∧ l = [s.sectStates])
      else ∃ k, (k, y) = b.dbgWriteWords (w 1).toNat data ∧ done k) ∧
    (∀ c ∈ [(Instr.dbgBreak h ws, 0x085, 0x100, fun n k => Reg.DBG_BCTL n k), (.dbgWatch h ws, 0x086, 0x108, fun n k => .DBG_WCTL n k)],
      acts c.1 c.2.1 (fun y st l => st = 0 ∧ l = [] ∧
        y = (b.csrWrite (num (w 0)) (c.2.2.1 + fld (w 0) 9 8) (w 1)).writeReg .debug (c.2.2.2 (num (w 0)) (fld (w 0) 9 8)) (w 2))) ∧
    acts (.dbgVterm h ws) 0x087 (fun y st l =>
      let n := num (w 0)
      let send := bit (w 1) 35
      let full := SMap.get (fun _ => none) d.rxd n ≠ none
      (send = true ∧ full → y = b ∧ st = 9 ∧ l = []) ∧
      (¬ (send = true ∧ full) → st = 0 ∧ (∃ v, l = [v] ∧ bit v 34 = SMap.get (fun _ => false) d.txLost n ∧
          (SMap.get (fun _ => none) d.txd n = none → bit v 35 = false ∧ fld v 33 0 = 0) ∧
          (∀ x, SMap.get (fun _ => none) d.txd n = some x → bit v 35 = true ∧ fld v 33 0 = fld x 33 0)) ∧
        { y with dbg := d } = b ∧ SMap.get (fun _ => none) y.dbg.txd n = none ∧ SMap.get (fun _ => false) y.dbg.txLost n = false ∧
        SMap.get (fun _ => none) y.dbg.rxd n = if send = true then some (BitVec.ofNat 36 (fld (w 1) 31 0)) else SMap.get (fun _ => none) d.rxd n)) ∧
    acts (.dbgGong h ws) 0x088 (fun y st l =>
      let g := fld (w 0) 2 0
      let r := Reg.DBG_GONG g
      st = 0 ∧ l = [readMask r.fields (y.reg r)] ∧ (fld (w 0) 35 34 = 0 → y = b) ∧ (fld (w 0) 35 34 = 2 → y = b.fireGong g) ∧
      (fld (w 0) 35 34 = 1 → b.onlyRegs y (· = r) ∧ fld (y.reg r) 33 30 = fld (w 1) 33 30 ∧ y.getB r F.DBG_GONG_FIRED = s.getB r F.DBG_GONG_FIRED)) ∧
    acts (.dbgStatus h ws) 0x089 (fun y st l => y = b ∧ st = 0 ∧ l.length = 15 ∧ l.headD 0 = s.dbgLevel ∧
      (∀ g, g < 8 → bit (l.getD 1 0) g = s.getB (.DBG_GONG g) F.DBG_GONG_FIRED) ∧
      (∀ n, n < 192 → bit (l.getD (2 + n / 32) 0) (n % 32) = (s.engine n).halted ∧
        bit (l.getD (9 + n / 32) 0) (n % 32) = (SMap.get (fun _ => none) d.txd n).isSome) ∧
      bit (l.getD 8 0) 0 = (s.engine 192).halted ∧ bit (l.getD 8 0) 1 = (SMap.get (fun _ => none) d.txd 192).isSome)

/-- R321, R418, R419, R428, R489, R519 and Table 16.7. A firmware command has its effect as it is handed over: the model's choice (notes/assumptions/6.md). LINK_STATUS and LINK_TEST read with the side effects of a read (notes/assumptions/37.md); a channel that no limits image covers is refused (notes/assumptions/18.md). -/
def Obligations.FirmwareCommandsActAndAreHandedOver : Prop :=
  ∀ (h : HostHdr) (ws : List Word) (s : State),
    let p := ws.take 511
    let w := fun (i : Nat) => p.getD i 0
    let b := s.acked h
    let beat := s.reg .BEAT_NUM
    let acts := fun (c : Instr) (o : Nat) (Y : State → Nat → List Word → Prop) => s.hostTakes o ws .firmware →
      ∃ y st l t, exec c s = .next t ∧ Y y st l ∧ y.HandedOver t o h p st l
    let full := fun (l : List Word) (n : Nat) => if l.length = n then 0 else 0x00C
    acts (.getEventLog h ws) 0x004 (fun y st l => st = 0 ∧ l = (s.seq.evlog.take (fld (w 0) 6 0)).flatMap (fun e => [e.1, e.2]) ∧
      y = { b with seq := { b.seq with evlog := s.seq.evlog.drop (fld (w 0) 6 0) } }) ∧
    acts (.loadBegin h ws) 0x020 (fun y st l => st = 0 ∧ l = [] ∧ y.seq = { b.seq with
        session := some { type := fld (w 0) 7 0, target := fld (w 0) 10 8, count := (w 1).toNat, words := [], closing := false, tag := 0, noibi := false } } ∧
      y.mem = b.mem ∧ y.chan = b.chan ∧ (fld (w 0) 7 0 ≠ 3 → { y with seq := b.seq } = b) ∧
      (fld (w 0) 7 0 = 3 → y.sectState (fld (w 0) 10 8) = 0 ∧ y.getB (.SEC_PLACE (fld (w 0) 10 8)) F.SEC_PLACE_VALID = false)) ∧
    (∀ x, s.openSession = some x →
      let data := p.drop 1
      let img := x.words ++ data
      (s.hostTakes 0x021 ws .firmware → x.count < img.length → ∃ t, exec (.loadData h ws) s = .next t ∧ b.Answered t 4 h.tag h.noibi []) ∧
      (img.length ≤ x.count → acts (.loadData h ws) 0x021 (fun y st l => st = 0 ∧ l = [BitVec.ofNat 36 img.length] ∧
        (x.type ≠ 3 → y = { b with seq := { b.seq with session := some { x with words := img } } }) ∧
        (x.type = 3 → let q := b.loadArrive { x with words := img }
          y = { q.1 with seq := { q.1.seq with session := some q.2 } })))) ∧
    acts (.start h ws) 0x030 (fun y st l => st = 0 ∧ l = [beat + 2] ∧ y.devState = 5 ∧ y.getB .BEAT_CTL F.BEAT_CTL_LOCKED = true ∧
      y.getB .HOST_STATE F.HOST_STATE_STARTED = true ∧ y.seq.startRel = some (beat + 2) ∧ y.mem = b.mem ∧ y.eng = b.eng ∧ y.queue = b.queue ∧
      (∀ k, k < 6 → y.sectState k = s.sectState k ∧ y.sect k = if s.sectState k = 1 then { s.sect k with startAt := some (beat + 2) } else s.sect k) ∧
      (∀ n, n < 16 → s.laneState n = lsLOCK → (s.ln n).markerLock = true → y.laneState n = lsTRAIN) ∧
      (∀ n, n < 20 → ¬ (n < 16 ∧ s.laneState n = lsLOCK ∧ (s.ln n).markerLock = true) → y.laneState n = s.laneState n)) ∧
    acts (.stopSection h ws) 0x031 (fun y st l => let k := fld (w 0) 2 0
      st = 0 ∧ l = [beat + 1] ∧ y.sect k = { s.sect k with stopAt := some (beat + 1) } ∧ (∀ j, j ≠ k → y.sect j = s.sect j) ∧
      ((∀ c, ownedBy k (s.ch c) = true → s.glvSound c) → { y with sec := b.sec, chan := b.chan } = b) ∧ y.mem = b.mem ∧ y.eng = b.eng ∧
      ∀ c, (ownedBy k (s.ch c) = true → s.takesAt c false 0x19 (s.ch c).g0.actPark (y.ch c)) ∧ (ownedBy k (s.ch c) = false → y.ch c = s.ch c)) ∧
    acts (.startSection h ws) 0x032 (fun y st l => let k := fld (w 0) 2 0
      st = 0 ∧ l = [beat + 2] ∧ y = b.setSect k { s.sect k with startAt := some (beat + 2), startRel := true }) ∧
    acts (.parkChannels h ws) 0x033 (fun y st l => st = 0 ∧ l = [w 1] ∧ y.mem = b.mem ∧ y.eng = b.eng ∧
      ((∀ c, (w 0).toNat ≤ c → c < (w 0).toNat + (w 1).toNat → s.glvSound c) → { y with chan := b.chan } = b) ∧
      ∀ c, let inside := (w 0).toNat ≤ c ∧ c < (w 0).toNat + (w 1).toNat
        (inside → s.takesAt c false 0x19 (s.ch c).g0.actPark (y.ch c)) ∧ (¬ inside → y.ch c = s.ch c)) ∧
    acts (.releaseChannels h ws) 0x034 (fun y st l =>
      let block := (List.range (w 1).toNat).map (fun i => (w 0).toNat + i)
      let arms := fun (c : Nat) => !(s.ch c).live && !s.releaseRefused c
      let refused := fun (c : Nat) => !(s.ch c).live && s.releaseRefused c
      s.glvHeld = false → (∀ c ∈ block, (s.ch c).g0 = (s.ch c).g1 ∧ (s.ch c).bad = false) →
      l = [BitVec.ofNat 36 (block.filter arms).length, BitVec.ofNat 36 (block.filter refused).length] ∧ st = (if block.any refused = true then 0x00C else 0) ∧
      b.onlyRegs { y with chan := b.chan } (fun r => r = .GLV_STS ∧ block.any refused = true) ∧
      (block.any refused = true → y.getB .GLV_STS F.GLV_STS_REL_REJ = true) ∧
      ∀ c, (c ∈ block ∧ arms c = true → (y.ch c).g0.state = 1 ∧ (y.ch c).g0.act = 0 ∧ (y.ch c).g0.cause = 0 ∧
          { (y.ch c).g0 with w7 := (s.ch c).g0.w7 } = (s.ch c).g0) ∧ (¬ (c ∈ block ∧ arms c = true) → y.ch c = s.ch c)) ∧
    (∀ c ∈ [(Instr.readReg h ws, 0x040), (.readMem h ws, 0x042)], acts c.1 c.2 (fun y st l =>
      (l, y) = b.fwReadWords (w 0).toNat (w 1).toNat ∧ st = full l (w 1).toNat)) ∧
    (∀ c ∈ [(Instr.writeReg h ws, 0x041), (.writeMem h ws, 0x043)], acts c.1 c.2 (fun y st l => ∃ k, (k, y) = b.fwWriteWords (w 0).toNat (p.drop 1) ∧
      st = (if k = p.length - 1 then 0 else 0x00C) ∧ l = if k = p.length - 1 then [] else [BitVec.ofNat 36 k])) ∧
    acts (.linkStatus h ws) 0x050 (fun y st l => let n := fld (w 0) 4 0
      st = 0 ∧ l.length = 7 ∧ ∃ ls, l = padTo 7 ls ∧ (ls, y) = b.readRegs ([.LN_STS n, .LN_FAULT n, .LN_TXEQ n, .LN_EQ_STS n, .LN_EYE n] ++
        (if n < 16 then [.LN_FRM n, .LN_RPL n] else []))) ∧
    acts (.linkRetrain h ws) 0x051 (fun y st l => st = 0 ∧ l = [] ∧ y = b.laneCommand (fld (w 0) 4 0) (fld (w 0) 9 8) 0x13) ∧
    acts (.linkTest h ws) 0x052 (fun y st l => let n := fld (w 0) 4 0
      st = 0 ∧ ∃ v, l = [v] ∧ (v, y) = (b.laneTestWrite n (w 1)).readReg false (.LN_PRBS_ERR n)) ∧
    acts (.healthReport h ws) 0x090 (fun y st l => y = b ∧ st = 0 ∧
      l = [wordOfInt (850 - s.health.vreq), s.reg .HLTH_LIFE, BitVec.ofNat 36 (s.getF .HLTH_AVS F.HLTH_AVS_READBACK),
        BitVec.ofNat 36 s.cclk, wordOfInt (sext 9 (s.getF .HLTH_THERM F.HLTH_THERM_TMAX))]) ∧
    acts (.avsStatus h ws) 0x091 (fun y st l => y = b ∧ st = 0 ∧ l = [BitVec.ofNat 36 (s.getF .HLTH_AVS F.HLTH_AVS_TARGET),
      BitVec.ofNat 36 (s.getF .HLTH_AVS F.HLTH_AVS_READBACK), BitVec.ofNat 36 (s.getF .HLTH_AVS F.HLTH_AVS_ERR)]) ∧
    acts (.queuePush h ws) 0x0A0 (fun y st l =>
      let q := (p.drop 1).zipIdx.foldl (fun st x => st.setReg (.QM_PUSH_D x.2) x.1) b.qmPushFinish
      y = (q.qmPushWrite (w 0)).qmPushFinish ∧ l = [] ∧ st = if y.getF .QM_PUSH F.QM_PUSH_STS = 0 then 0 else 9) ∧
    acts (.queueStatus h ws) 0x0A1 (fun y st l => y = b ∧ st = 0 ∧ ∃ v, l = [v] ∧ let x := s.q (fld (w 0) 15 0)
      fld v 28 21 = x.drops % 2 ^ 8 ∧ fld v 20 16 = x.occ % 2 ^ 5 ∧ fld v 15 0 = fld (w 0) 15 0 ∧ fld v 35 29 = 0) ∧
    acts (.svc h ws) 0x0F0 (fun y st l => y = b ∧ st = 0 ∧ l = [])

/-- R128, R129, R321 (the order of its checks and steps 6 to 8), R322, R323 and R429 to R438. State.verify is steps 1 to 7, State.stepEight step 8; both are spelled out for what they decide. The loader's part of a session, x.sel and x.relB, is that of LoadersWriteScheduleImagesAsTheyArrive. The model's choices: notes/assumptions/17.md, 33.md and 51.md. -/
def Obligations.VerifiedImagesTakeEffect : Prop :=
  (∀ s : State, (∀ x, s.seq.session = some x → x.closing = false) → exec .verificationComplete s = .next s) ∧
  (∀ (s : State) (x : Session), s.seq.session = some x → x.closing = true →
    let d := s.endCmd
    let c := { d with seq := { d.seq with session := none } }
    let img := x.words
    let v := c.verify x
    let e := if v.1 = 0 then c.stepEight x else (v.1, if x.type = 3 then c.loadFailed x.target else c)
    let kind := if x.type = 1 then 0 else if x.type = 2 then 1 else if x.type = 3 then 3 + x.target else 2
    let sigs := ecdsaVerify (imgEc img) (imgDigest img) (imgEcSig img) = true ∧ lmsVerify (imgKey img) (imgDigest img) (imgLmsSig img) = true
    (v.1 = 0 ↔ imgFormOk x = true ∧ c.imgStep2 x = true ∧ c.imgStep3 x = true ∧ ecdsaKeyOk (imgEc img) = true ∧
      lmsTypesAgree (imgKey img) (imgLmsSig img) = true ∧ sigs ∧ s.arb x.type ≤ imgSvn img) ∧
    (v.1 = 4 ↔ imgFormOk x = false) ∧ (v.1 = 6 ↔ imgFormOk x = true ∧ (c.imgStep2 x = false ∨ c.imgStep3 x = false)) ∧
    (v.1 = 7 ↔ imgFormOk x = true ∧ c.imgStep2 x = true ∧ c.imgStep3 x = true ∧ ¬ (ecdsaKeyOk (imgEc img) = true ∧
      lmsTypesAgree (imgKey img) (imgLmsSig img) = true ∧ sigs)) ∧
    (v.1 = 8 ↔ imgFormOk x = true ∧ c.imgStep2 x = true ∧ c.imgStep3 x = true ∧ ecdsaKeyOk (imgEc img) = true ∧
      lmsTypesAgree (imgKey img) (imgLmsSig img) = true ∧ sigs ∧ imgSvn img < s.arb x.type) ∧
    fld v.2 26 19 = x.type % 256 ∧ fld v.2 12 6 = imgSvn img ∧ bit v.2 18 = decide (v.1 = 4) ∧ bit v.2 17 = decide (v.1 = 6) ∧ bit v.2 13 = decide (v.1 = 8) ∧
    ((∀ f, s.seq.fw = some f → f.opcode ≠ 0x022) → d = s) ∧
    (∀ f, s.seq.fw = some f → f.opcode = 0x022 → s.onlyRegs { d with seq := s.seq } (· = .HOST_MBX_STS) ∧
      d.getB .HOST_MBX_STS F.HOST_MBX_STS_CMD = false ∧ d.seq = { s.seq with fw := none, mbx := [], mbxReply := [] }) ∧
    ∃ y t : State, exec .verificationComplete s = .next t ∧
      y.getF .HELM_VSTS F.HELM_VSTS_STATUS = e.1 % 512 ∧ fld (y.reg .HELM_VSTS) 26 0 = fld v.2 26 0 ∧ (∀ r, r ≠ .HELM_VSTS → y.reg r = e.2.reg r) ∧
      { y with regs := e.2.regs, helm := e.2.helm } = e.2 ∧
      (e.1 ≠ 0 → y.helm = e.2.helm ∧ y.Answered t e.1 x.tag x.noibi (if e.1 = 3 then [y.sectStates] else [])) ∧
      (e.1 = 0 → y.Answered t 0 x.tag x.noibi [BitVec.ofNat 36 x.type, BitVec.ofNat 36 (imgSvn img), if x.type = 3 then y.reg (.SEC_PLACE x.target) else 0] ∧
        y.arb x.type = (if bit (img.getD 3 0) 35 = true then max (s.arb x.type) (imgSvn img) else s.arb x.type) ∧
        SMap.get (fun _ => 0) y.helm.svn kind = imgSvn img ∧ SMap.get (fun _ => []) y.helm.meas kind =
          if x.type = 2 then sha384 (s.measOf 1 ++ imgDigest img) else imgDigest img)) ∧
  ∀ (c : State) (x : Session),
    let body := imgBody x.words
    let e := c.stepEight x
    let first := fld (body.getD 0 0) 14 0
    let count := fld (body.getD 0 0) 27 16
    (x.type = 1 → (supBodyOk body = false → e = (4, c)) ∧ (supBodyOk body = true → e.1 = 0 ∧ (e.2.engine 192).pc = body.getD 0 0 ∧
      (e.2.engine 192).ring = 0 ∧ (e.2.engine 192).imask = 7 ∧ (e.2.engine 192).inBeat = true ∧ (∀ n, n ≠ 192 → e.2.engine n = c.engine n))) ∧
    (x.type = 2 →
      let live := c.glvLocked ∧ ∃ i, i < count ∧ (c.ch (first + i)).live = true ∧ c.glvSound (first + i)
      (limitsBodyOk body = false → e = (4, c)) ∧
      (limitsBodyOk body = true → live → e.1 = 3 ∧ ((∀ i, i < count → c.glvSound (first + i)) → e.2 = c) ∧
        ∀ k, c.glvSound k ∨ ¬ (first ≤ k ∧ k < first + count) → e.2.ch k = c.ch k) ∧
      (limitsBodyOk body = true → ¬ live → e.1 = 0 ∧ e.2.glvLocked ∧
        (∀ k, ¬ (first ≤ k ∧ k < first + count) → e.2.ch k = c.ch k) ∧
        ∀ i, i < count → let y := e.2.ch (first + i)
          let g := y.g0
          y.g1 = g ∧ y.lgValid = false ∧ y.bad = false ∧ [g.w0, g.w1, g.w2, g.w3, g.w4, g.w5] = (List.range 6).map (fun k => body.getD (1 + 7 * i + k) 0) ∧
          g.owner = (c.ch (first + i)).owner.toNat ∧ (∀ j, j < 36 → ¬ (12 ≤ j ∧ j ≤ 19) → bit g.w6 j = bit (body.getD (1 + 7 * i + 6) 0) j) ∧
          g.state = 3 ∧ g.cause = 0x18 ∧ g.act = g.actPark)) ∧
    (x.type = 3 → x.target ≤ 5 →
      let k := x.target
      let held := c.gated k = true ∨ (c.march.busy = true ∧ c.march.alg ≠ 1 ∧ marchSect c.march.kind c.march.inst = some k)
      let failed := fun (st : Nat) => e = (st, c.loadFailed k)
      (held → failed 1) ∧ (¬ held → parseVariants body = none → failed 4) ∧
      (∀ vs, ¬ held → parseVariants body = some vs →
        (vuseOk (x.words.take 16) vs = false → failed 4) ∧
        (vuseOk (x.words.take 16) vs = true → (∀ j sym, x.sel ≠ some (0, j, sym)) → failed 9) ∧
        (∀ j sym, vuseOk (x.words.take 16) vs = true → x.sel = some (0, j, sym) → (x.relB = none → failed 4) ∧
          ∀ v, x.relB ≠ none → vs[j]? = some v → sym < 4 → e.1 = 0 ∧ c.SectionIsPlaced e.2 k j sym (body.getD 0 0) (body.getD 1 0) v)) ∧
      (c.loadFailed k).sectState k = 0 ∧ (c.loadFailed k).getB (.SEC_PLACE k) F.SEC_PLACE_VALID = false ∧ (c.loadFailed k).chan = c.chan ∧
      (∀ ca, (memOf (4 * (ca / 4))).bind MemId.sect ≠ some k → (c.loadFailed k).word ca = c.word ca) ∧
      ∀ ca, (memOf (4 * (ca / 4))).bind MemId.sect = some k → c.memHeld ca = false →
        ∃ g, c.fresh < g ∧ g ≤ (c.loadFailed k).fresh ∧ (c.loadFailed k).word ca = Config.freeWord g (ca / 4)) ∧
    (x.type = 4 → (parseChMap body c.kNow = none → e = (4, c)) ∧ ∀ m, parseChMap body c.kNow = some m → e.1 = 0 ∧ e.2.helm.chmap = some m ∧
      (∀ k, k < 6 → e.2.sectState k = if c.sectState k = 1 then 0 else c.sectState k) ∧
      ∀ k, (e.2.ch k).owner = 255 ∧ (e.2.ch k).g0.owner = 255 ∧
        ((e.2.ch k).populated = true ↔ ∃ b ∈ m.blocks, b.first ≤ k ∧ k < b.first + b.count))

/-- R59, R316 to R321, R323 and Table 17.5. State.loadArrive is what LOAD_DATA does with the words (FirmwareCommandsActAndAreHandedOver). That the loader looks at VUSE of the image header before the body is whole, and does each step as soon as its words allow it, is the model's reading (notes/assumptions/33.md). -/
def Obligations.LoadersWriteScheduleImagesAsTheyArrive : Prop :=
  (∀ (c : State) (x : Session), x.type = 3 → x.target < 6 →
    let k := x.target
    let hdr := x.words.take 16
    let bd := imgBody x.words
    let use := fun (j : Nat) => hdr.getD (8 + j) 0
    let can := fun (j sym : Nat) => j < min 8 (fld (bd.getD 0 0) 35 32) ∧ sym < 4 ∧
      ∀ i, i < 32 → bit (use j) i = true → bit (c.reg (.SEC_USABLE k)) (physOf sym i) = true
    let best := fun (j sym : Nat) => can j sym ∧ ∀ j' sym', can j' sym' → popcount (use j') < popcount (use j) ∨
      (popcount (use j') = popcount (use j) ∧ (j < j' ∨ (j = j' ∧ sym ≤ sym')))
    let off := fun (j : Nat) => (bd.getD (2 + j) 0).toNat
    let mhz := fld (bd.getD 0 0) 29 19
    let slow := fun (j : Nat) => mhz * c.beat.period < 100 * fld (bd.getD (off j + 4) 0) 17 0 ∨ c.cclk < mhz
    let q := c.loadArrive x
    (x.sel = none → x.words.length < 16 ∨ bd.length < 10 → q = (c, x)) ∧
    (x.sel = none → 16 ≤ x.words.length → 10 ≤ bd.length →
      ((∀ j sym, ¬ can j sym) → q = (c, { x with sel := some (9, 0, 0) })) ∧
      ∀ j sym, best j sym → (bd.length < off j + 7 → q = (c, x)) ∧
        (off j + 7 ≤ bd.length → slow j → q = (c, { x with sel := some (9, 0, 0) })) ∧
        (off j + 7 ≤ bd.length → ¬ slow j → q = c.loadArrive { x with sel := some (0, j, sym) })) ∧
    (∀ st j sym, x.sel = some (st + 1, j, sym) → q = (c, x)) ∧
    (∀ j sym, x.sel = some (0, j, sym) → sym < 4 →
      let as := (loadActs k sym bd (off j)).drop x.acts
      let r := as.foldl (fun a y => a.1.loadAct k sym (bd.getD (off j) 0) a.2 y) (c, x.relB)
      q = (r.1, { x with acts := x.acts + as.length, relB := r.2 })) ∧
    (∀ ws more, x.sel = none → x.acts = 0 → x.relB = some 0 →
      let p := c.loadArrive { x with words := ws }
      p.1.loadArrive { p.2 with words := ws ++ more } = c.loadArrive { x with words := ws ++ more }) ∧
    (∀ vs v j sym, parseVariants bd = some vs → vs[j]? = some v → sym < 4 → loadActs k sym bd (off j) =
      .zero :: (v.segs.flatMap (fun g => (List.range g.len).map (fun i =>
        .word (spaceAddr k g.space (physTarget sym g.space g.target) (g.start + i)) (bd.getD (g.off + i) 0))) ++ v.rels.map .rel))) ∧
  (∀ (c : State) (k sym : Nat) (use : Word) (b : Option Word), k < 6 → sym < 4 →
    (∀ a w, c.loadAct k sym use b (.word a w) = (c.setWord a w, b)) ∧ (∀ r, c.loadAct k sym use none (.rel r) = (c, none)) ∧
    (∀ r v, c.loadAct k sym use (some v) (.rel r) = (match c.relocate k sym use v r with | some (v', t) => (t, some v') | none => (c, none))) ∧
    ∃ t, c.loadAct k sym use b .zero = (t, b) ∧ ∀ ca,
      let placed := match memOf (4 * (ca / 4)) with
        | some (.sched n) => ∃ i, i < 32 ∧ bit use i = true ∧ n = k * 32 + physOf sym i
        | some (.spad n) => ∃ i, i < 32 ∧ bit use i = true ∧ n = k * 32 + physOf sym i
        | some (.shared n) => ∃ i, i < 32 ∧ bit use i = true ∧ n = k * 8 + physOf sym i / 4
        | _ => False
      (placed → t.word ca = 0) ∧ (¬ placed → t.word ca = c.word ca)) ∧
  ∀ (c : State) (k sym : Nat) (use b r0 a : Word), k < 6 → sym < 4 → (∀ ca, c.memHeld ca = false) →
    let ty := fld r0 35 32
    let space := fld r0 31 30
    let site := fld r0 29 25
    let arg := fld r0 24 17
    let off := fld r0 16 0
    let got := c.relocate k sym use b (r0, a)
    let bare := space = 0 ∧ site = 0 ∧ off = 0
    let base := fun (ok : Prop) (v : Nat) => (ok → got = some (BitVec.ofNat 36 v + a, c)) ∧ (¬ ok → got = none)
    let turned := fun (cl : Nat) => (if sym % 2 = 1 then 1 - cl / 4 else cl / 4) * 4 + (if 2 ≤ sym then 3 - cl % 4 else cl % 4)
    let window := fun (cl : Nat) => 0x010000000 + k * 0x2000000 + turned cl * 0x400000
    let sched := window (site / 4) + 0x120000 + site % 4 * 0x40000
    let block := c.helm.chmap.bind (fun m => m.blocks.find? (fun o => o.sect == k && o.leng == arg))
    (ty = 2 → base (arg = 0 ∧ bare) (0x010000000 + k * 0x2000000)) ∧
    (ty = 3 → base (arg < 8 ∧ bare) (window arg)) ∧
    (ty = 4 → base (arg < 32 ∧ bare) (window (arg / 4) + 0x100000 + arg % 4 * 0x40000)) ∧
    (ty = 6 ∨ ty = 7 → (¬ bare ∨ block = none → got = none) ∧ ∀ o, bare → block = some o →
      got = some (BitVec.ofNat 36 (if ty = 6 then o.first else 0x040000000 + o.first * 0x100) + a, c)) ∧
    (ty = 1 →
      let ok := arg = 0 ∧ space < 3 ∧ bit use site = true ∧ off < (if space = 0 then 8192 else if space = 1 then 16384 else 65536)
      let at' := (if space = 0 then sched else if space = 1 then window (site / 4) + 0x100000 + site % 4 * 0x40000 else window (site / 4)) + 4 * off
      (ok → got = some (b, c.setWord at' (b + a))) ∧ (¬ ok → got = none)) ∧
    (ty = 5 →
      let parcel := fun (t : State) (n : Nat) => let w := t.word (sched + 4 * (n / 2)); if n % 2 = 0 then fld w 17 0 else fld w 35 18
      let move := parcel c off * 2 ^ 18 + parcel c (off + 1)
      let v := b.toInt + a.toInt
      let ok := arg = 0 ∧ space = 0 ∧ bit use site = true ∧ off ≤ 0x3FFE ∧ move.testBit 35 = true ∧ move.testBit 33 = true ∧ move % 2 ^ 19 = 0 ∧
        -262144 ≤ v ∧ v ≤ 262143
      (¬ ok → got = none) ∧ (ok → ∃ t, got = some (b, t) ∧ parcel t off * 2 ^ 18 + parcel t (off + 1) = move + (v % 2 ^ 19).toNat ∧
        (∀ n, n < 0x4000 → n ≠ off → n ≠ off + 1 → parcel t n = parcel c n) ∧
        ∀ ca, ¬ (sched ≤ ca ∧ ca < sched + 0x8000) → t.word ca = c.word ca)) ∧
    (ty = 0 ∨ 8 ≤ ty → got = none)

/-- R402 to R407, R409, R413, R419, R420, R489, R501, R522 and R523. CCC data is most significant octet first: PRESUMED from MIPI I3C (notes/assumptions/7.md); a SEND with no command and no timeout before it sets ERR (notes/assumptions/8.md). The pairs of a HDR-DDR read, the octet that completes one, and the two replies that wait after their SEND are the model's (notes/assumptions/50.md, 52.md); so are ENTDAA and SETDASA while an address is held (notes/assumptions/35.md), and DISEC keeping what is pending and the end of HDR mode (notes/assumptions/36.md). -/
def Obligations.MailboxRepliesAndTheI3cTarget : Prop :=
  (∀ (s : State) (w : Word),
    let q := s.seq
    let m := Reg.HOST_MBX_STS
    let cleared := fun (t : State) => s.onlyRegs { t with seq := q } (fun r => r = m ∨ r = .HOST_MBX_RCTL) ∧ t.getB m F.HOST_MBX_STS_CMD = false ∧
      t.getF m F.HOST_MBX_STS_TAG = 0 ∧ t.seq = { q with fw := none, mbx := [], mbxReply := [] }
    exec .mbxDataRead s = .next { s with seq := { q with mbx := q.mbx.tail } } ∧
    exec (.mbxReplyAppend w) s = .next { s with seq := { q with mbxReply := if q.mbxReply.length < 511 then q.mbxReply ++ [w] else q.mbxReply } } ∧
    let ahead := ∃ f b, q.fw = some f ∧ f.opcode = 0x031 ∧ f.words[0]? = some b ∧ ∃ k, k < 6 ∧ (s.sect k).stopAt = some b
    (∀ f, q.fw = some f → bit w 16 = false → q.mbxReply.length = fld w 25 17 → ∃ y t, exec (.mailboxSend w) s = .next t ∧ cleared y ∧
      (ahead → t = { y with seq := { y.seq with stopReplies := q.stopReplies ++ [{ f with status := fld w 34 26, words := q.mbxReply }] } }) ∧
      (¬ ahead → f.opcode = 0x022 → t = y) ∧ (¬ ahead → f.opcode ≠ 0x022 → y.Answered t (fld w 34 26) f.tag f.noibi q.mbxReply)) ∧
    (∀ f, q.fw = some f → bit w 16 = false → q.mbxReply.length ≠ fld w 25 17 → ∃ t, exec (.mailboxSend w) s = .next t ∧
      s.onlyRegs t (fun r => r = m ∨ r = .HOST_MBX_RCTL) ∧ t.getB m F.HOST_MBX_STS_ERR = true) ∧
    (q.fw = none → bit w 16 = false → ∃ t, exec (.mailboxSend w) s = .next t ∧ s.onlyRegs { t with seq := q } (fun r => r = m ∨ r = .HOST_MBX_RCTL) ∧
      (q.timedOut = true → t.getB m F.HOST_MBX_STS_LATE = true ∧ t.seq = { q with mbxReply := [] }) ∧
      (q.timedOut = false → t.getB m F.HOST_MBX_STS_ERR = true ∧ t.seq = q)) ∧
    (∃ t, exec .supervisorReady s = .next t ∧ s.onlyRegs t (· = .HOST_STATE) ∧ t.getB .HOST_STATE F.HOST_STATE_SUP = true ∧ t.devState = s.devState) ∧
    (q.fw = none → exec .mailboxTimeout s = .next s) ∧
    (∀ f, q.fw = some f → f.opcode = 0x022 → (∀ x, q.session = some x → x.type ≠ 3) → ∃ y t, exec .mailboxTimeout s = .next t ∧ t.seq.timedOut = true ∧
      s.onlyRegs { y with seq := q } (fun r => (r = .HOST_MBX_STS ∨ r = .HOST_MBX_RCTL) ∧ q.session ≠ none) ∧
      y.seq = (if q.session = none then q else { q with fw := none, mbx := [], mbxReply := [], session := none }) ∧
      (∀ x, q.session = some x → x.closing = true → y.Answered { t with seq := { t.seq with timedOut := q.timedOut } } 0x00A x.tag x.noibi []) ∧
      ((∀ x, q.session = some x → x.closing = false) → { t with seq := { t.seq with timedOut := q.timedOut } } = y)) ∧
    (∀ f, q.fw = some f → f.opcode ≠ 0x022 → ∃ y t, exec .mailboxTimeout s = .next t ∧ cleared y ∧
      y.Answered { t with seq := { t.seq with timedOut := q.timedOut } } 0x00A f.tag f.noibi [] ∧ t.seq.timedOut = true)) ∧
  (∀ s : State,
    let q := s.seq
    (q.outside = [] ∨ 4 ≤ q.replies.length → exec .replyQueueEntry s = .next s) ∧
    (∀ r rest, q.outside = r :: rest → q.replies.length < 4 → exec .replyQueueEntry s = .next { s with seq := { q with
      outside := rest, replies := q.replies ++ [{ r with state := BitVec.ofNat 9 s.devState }],
      ibis := if q.replies = [] ∧ r.noibi = false ∧ q.ibiEn = true then ibiInsert 1 q.ibis else q.ibis } }) ∧
    let inMode := fun (ddr : Option Octet) => ∀ c, ddr = some c → q.hdr = true ∧ c = 0x81#8
    (∀ n ddr, q.da = none ∨ q.replies = [] ∨ s.blocksHeld = true ∨ ¬ inMode ddr →
      exec (.privateRead n ddr) s = .next { s with seq := { q with nacked := true } }) ∧
    (∀ n ddr r rest, q.da ≠ none → s.blocksHeld = false → inMode ddr → q.replies = r :: rest →
      let hdr := setFld (setFld (setFld (put 35 27 r.status) 26 18 r.tag.toNat) 17 9 r.words.length) 8 0 r.state.toNat
      let os := packWords (hdr :: r.words ++ [BitVec.ofNat 36 (ckuCrc 0x82F63B78 (hdr :: r.words))])
      let left := os.drop q.readPos
      let most := min n q.mrl
      let k := if left.length ≤ most then left.length else if ddr.isSome = true then most - most % 2 else most
      ∃ (pad : List Octet) (g : Nat), pad.length = (if ddr.isSome = true ∧ k % 2 = 1 then 1 else 0) ∧ s.fresh ≤ g ∧
        let p := { q with lastRead := left.take k ++ pad, nacked := false, hdr := ddr.isSome }
        exec (.privateRead n ddr) s = .next { s with fresh := g, seq := if left.length ≤ k then { p with replies := rest, readPos := 0 }
          else { p with readPos := q.readPos + k } }) ∧
    (∀ nack, q.ibis = [] ∨ q.ibiEn = false ∨ s.blocksHeld = true → exec (.ibiRetry nack) s = .next s) ∧
    (∀ nack c rest, q.ibis = c :: rest → q.ibiEn = true → s.blocksHeld = false →
      exec (.ibiRetry nack) s = .next { s with seq := { q with ibis := if nack = true then c :: rest else rest, ibiOut := some c } })) ∧
  (∀ (s : State) (os : List Octet) (code : Option Octet) (low : Bool),
    let ddr := code.isSome
    let takes := s.listens ∧ ∀ c, code = some c → s.seq.hdr = true ∧ c = 0x01#8
    let b := { s with seq := { s.seq with nacked := false, hdr := ddr }, pins := { s.pins with safeNLow := low } }
    let h := (unpackWords 256 os).headD 0
    let tag := BitVec.ofNat 9 (fld h 26 18)
    let n := 9 * ((fld h 17 9 + 3) / 2)
    let ws := unpackWords 257 (os.take n)
    let ps := (ws.drop 1).take (fld h 17 9)
    let good := os.length = (if ddr = true ∧ n % 2 = 1 then n + 1 else n) ∧ ws.getD (fld h 17 9 + 1) 0 = BitVec.ofNat 36 (ckuCrc 0x82F63B78 (h :: ps))
    (¬ takes → exec (.privateWrite os code low) s = .next { s with seq := { s.seq with nacked := true } }) ∧
    (takes →
      (os.length < 9 → ∃ t, exec (.privateWrite os code low) s = .next t ∧ b.Answered t 5 0 false []) ∧
      (9 ≤ os.length → ¬ good → ∃ t, exec (.privateWrite os code low) s = .next t ∧ b.Answered t 5 tag (bit h 8) []) ∧
      (9 ≤ os.length → good → opAssigned (fld h 35 27) = false → ∃ t, exec (.privateWrite os code low) s = .next t ∧ b.Answered t 2 tag (bit h 8) []) ∧
      (9 ≤ os.length → good → opAssigned (fld h 35 27) = true → fld h 7 0 ≠ 0 → ∃ t, exec (.privateWrite os code low) s = .next t ∧
        b.Answered t 4 tag (bit h 8) []) ∧
      (∀ row, IsHostRow row → 9 ≤ os.length → good → fld h 7 0 = 0 → fld h 35 27 = row.2 → exec (.privateWrite os code low) s =
        exec (row.1 { tag := tag, noibi := bit h 8, safeNLow := low } ps) b))) ∧
  (∀ s : State,
    let q := s.seq
    let up := s.blocksHeld = false
    let set := fun (c : Instr) (y : Seq) => exec c s = .next { s with seq := if up then { y with nacked := false, hdr := false } else { q with nacked := true } }
    let gets := fun (c : Instr) (l : List Octet) => exec c s = .next { s with seq :=
      if q.da.isSome = true ∧ up then { q with lastCcc := l, nacked := false, hdr := false } else { q with nacked := true, hdr := false } }
    let two := fun (v : Nat) => [BitVec.ofNat 8 (v / 256), BitVec.ofNat 8 v]
    (∀ da (st : BitVec 7) c, (c = Instr.entdaa da ∨ (c = .setdasa st da ∧ st.toNat = 0x30 + s.pins.addrSel.toNat)) → exec c s = .next { s with seq :=
      if q.da.isSome = true ∨ ¬ up then { q with nacked := true, hdr := false } else { q with da := some da, nacked := false, hdr := false } }) ∧
    (∀ da (st : BitVec 7), st.toNat ≠ 0x30 + s.pins.addrSel.toNat → exec (.setdasa st da) s = .next { s with seq := { q with nacked := true, hdr := false } }) ∧
    set .rstdaa { q with da := none } ∧ set .enec { q with ibiEn := true } ∧ set .disec { q with ibiEn := false } ∧
    (∀ v : Fin 65536, set (.setmwl v) { q with mwl := v.val } ∧ set (.setmrl v) { q with mrl := v.val }) ∧
    exec .enthdr0 s = .next { s with seq := if up then { q with nacked := false, hdr := true } else { q with nacked := true } } ∧
    (∀ d : Octet, exec (.rstact d) s = .next { s with seq := if ¬ up then { q with nacked := true } else if d.toNat ≤ 2 then { q with rstact := d.toNat, nacked := false, hdr := false }
      else { q with nacked := true, hdr := false } }) ∧
    gets .getpid (let v := fld (s.otpWord 0x005) 14 0 * 2 ^ 33 + 2 ^ 32 + fld (s.otpWord 0x006) 31 0
      [5, 4, 3, 2, 1, 0].map (fun i => BitVec.ofNat 8 (v / 256 ^ i))) ∧
    gets .getbcr [0x06] ∧ gets .getdcr [0x00] ∧ gets .getmxds [0x00, 0x00] ∧ gets .getmwl (two 2313) ∧ gets .getmrl (two q.mrl ++ [0x01]) ∧
    (∀ e : Bool, let err := q.busErr || e
      exec (.getstatus e) s = .next { s with seq := if q.da.isSome = true ∧ up then { q with
          lastCcc := [BitVec.ofNat 8 s.devState, BitVec.ofNat 8 ((if err = true then 32 else 0) + q.replies.length)],
          busErr := false, nacked := false, hdr := false }
        else { q with busErr := err, nacked := true, hdr := false } }))

/-- R436, R470, R472 to R474, R477, R479, R481 to R483, R485 and R487. Both thermal thresholds met at once, the field of a VREQ below 0, a GUARD above 255, a raise that keeps MPATH and VREQ, whose fifth update without settling fails, and an unsettled read that neither counts nor ends a run of failures (19), and what a raise does when its write fails, the third failure comes or writes are stopped are the model's (notes/assumptions/9.md, 4.md, 19.md and 52.md). -/
def Obligations.OtpProgramsAndHealthUpdates : Prop :=
  (∀ (m : Master) (w : Word) (s : State),
    let r := Reg.HELM_OTPCTL
    let who := m = .sve true ∨ (m = .debug ∧ s.dbg.level = 2)
    let asked := fun (c : Instr) (ok : Prop) (op : Nat) (job : Nat × Word) => ∃ t, exec c s = .next t ∧ s.onlyRegs { t with helm := s.helm } (· = r) ∧
      t.getF r F.HELM_OTPCTL_OP = op ∧ t.getF r F.HELM_OTPCTL_ADDR = fld w 9 0 ∧
      (s.getF r F.HELM_OTPCTL_STS = 1 → t.getF r F.HELM_OTPCTL_STS = 1 ∧ t.helm = s.helm) ∧
      (s.getF r F.HELM_OTPCTL_STS ≠ 1 → who ∧ ok → t.getF r F.HELM_OTPCTL_STS = 1 ∧ t.helm = { s.helm with prog := some job }) ∧
      (s.getF r F.HELM_OTPCTL_STS ≠ 1 → ¬ (who ∧ ok) → t.getF r F.HELM_OTPCTL_STS = 3 ∧ t.helm = s.helm)
    asked (.otpProgram m w) (s.otpAllowed (fld w 9 0) (s.reg .HELM_OTPDATA) = true) 1 (fld w 9 0, s.reg .HELM_OTPDATA) ∧
    asked (.otpGenerateSecret m w) (s.helm.lc = 1) 2 (0x0A0, 0)) ∧
  (∀ (ok : Bool) (s : State), (s.helm.prog = none → exec (.otpProgramDone ok) s = .next s) ∧
    (∀ a d, s.helm.prog = some (a, d) → ∃ t, exec (.otpProgramDone ok) s = .next t ∧
      s.onlyRegs { t with helm := s.helm, fresh := s.fresh } (· = .HELM_OTPCTL) ∧ t.getF .HELM_OTPCTL F.HELM_OTPCTL_STS = 2 ∧
      { t.helm with otp := s.helm.otp, prog := s.helm.prog } = s.helm ∧ t.helm.prog = none ∧
      (∀ i, i ≠ a → (a = 0x0A0 → ¬ (0x0A0 ≤ i ∧ i < 0x0A8)) → t.otpWord i = s.otpWord i) ∧
      (ok = true → a ≠ 0x0A0 → t.otpWord a = s.otpWord a ||| d) ∧
      (ok = true → a = 0x0A0 → ∀ i, i < 8 → ∃ v, v < 2 ^ 32 ∧ t.otpWord (0x0A0 + i) = s.otpWord (0x0A0 + i) ||| BitVec.ofNat 36 v))) ∧
  (∀ s : State,
    let h := s.health
    let post := fun (l : List Word) (code v : Nat) => if l.length < 256 then l ++ [setFld (put 34 29 code) 19 0 v] else l
    let sts := Reg.HLTH_STS
    let only := fun (t : State) (P : Reg → Prop) => s.onlyRegs { t with health := h, seq := s.seq, fresh := s.fresh } P
    let guard := s.getF .HLTH_AGE F.HLTH_AGE_GUARD
    let target := s.getF .HLTH_AVS F.HLTH_AVS_TARGET
    let read := ({ write := false, cmdType := 0, rail := 0, data := 0 } : AvsTrans)
    let wrote := fun (mv : Nat) => ({ write := true, cmdType := 0, rail := 0, data := mv } : AvsTrans)
    let errs := fun (t : State) (n : Nat) => t.getF .HLTH_AVS F.HLTH_AVS_ERR = min 1023 (s.getF .HLTH_AVS F.HLTH_AVS_ERR + n)
    let good := fun (t : State) (k : Health) => t.health = { k with fails := 0, stopped := false } ∧
      t.getB sts F.HLTH_STS_AVS_FAIL = s.getB sts F.HLTH_STS_AVS_FAIL
    let failed := fun (t : State) (k : Health) => let third := h.fails + 1 = 3
      t.health = { k with
        fails := h.fails + 1
        stopped := if third then true else k.stopped
        raise := if third then 0 else k.raise
        evts := if third then post k.evts 6 (t.getF .HLTH_AVS F.HLTH_AVS_ERR) else k.evts } ∧
      (t.getB sts F.HLTH_STS_AVS_FAIL = true ↔ s.getB sts F.HLTH_STS_AVS_FAIL = true ∨ third)
    (∀ (rd wr : Bool) (rb mp : Fin 1024) (worst : Fin 24),
      let c := Instr.avsUpdate rd wr rb mp worst
      let off := s.devState = 0 ∨ (s.getB .HLTH_CTL F.HLTH_CTL_AVS_EN = false ∧ h.raise ≠ 1)
      let shows := fun (t : State) => t.getF .HLTH_AVS F.HLTH_AVS_READBACK = if rd = true then rb.val else s.getF .HLTH_AVS F.HLTH_AVS_READBACK
      (off → exec c s = .next s) ∧
      (¬ off → h.raise = 1 → h.stopped = true → ∃ t, exec c s = .next t ∧ only t (fun r => r = .HLTH_AVS ∨ r = sts) ∧ shows t ∧
        errs t (if rd = false then 1 else 0) ∧ t.getF .HLTH_AVS F.HLTH_AVS_TARGET = target ∧
        (rd = true → good t { h with bus := [read] }) ∧ (rd = false → failed t { h with bus := [read] })) ∧
      (¬ off → h.raise = 1 → h.stopped = false →
        let sent := h.raiseSent || wr
        let settled := sent = true ∧ rd = true ∧ 848 ≤ rb.val ∧ rb.val ≤ 852
        let fails := sent = false ∨ rd = false ∨ 5 ≤ h.raiseT + 1
        let k := { h with bus := (if h.raiseSent = true then [] else [wrote 850]) ++ [read], raiseSent := sent }
        ∃ t, exec c s = .next t ∧ only t (fun r => r = .HLTH_AVS ∨ r = sts) ∧ shows t ∧
          errs t ((if h.raiseSent = false ∧ wr = false then 1 else 0) + (if rd = false then 1 else 0)) ∧
          t.getF .HLTH_AVS F.HLTH_AVS_TARGET = target ∧
          (settled → good t { k with raise := 2, raiseT := 0 }) ∧
          (¬ settled → fails → failed t { k with raiseT := if 5 ≤ h.raiseT + 1 then 0 else h.raiseT + 1 }) ∧
          (¬ settled → ¬ fails → t.health = { k with raiseT := h.raiseT + 1 } ∧ t.getB sts F.HLTH_STS_AVS_FAIL = s.getB sts F.HLTH_STS_AVS_FAIL)) ∧
      (¬ off → h.raise ≠ 1 → rd = false → ∃ t, exec c s = .next t ∧ only t (fun r => r = .HLTH_AVS ∨ r = sts) ∧ shows t ∧ errs t 1 ∧
        failed t { h with bus := [read] }) ∧
      (¬ off → h.raise = 2 → rd = true → ∃ t, exec c s = .next t ∧ only t (· = .HLTH_AVS) ∧ shows t ∧ errs t 0 ∧ good t { h with bus := [read] }) ∧
      (¬ off → h.raise ≠ 1 → h.raise ≠ 2 → rd = true →
        let v : Int := (rb.val + guard : Int) - mp.val
        let mv := min (target + 10) (max (target - 10) (min 850 (max (max 650 (s.getF .HLTH_MARGIN F.HLTH_MARGIN_FLOOR)) v.toNat)))
        let n := if 850 < v then h.negCnt + 1 else 0
        let pend := 100 ≤ n ∧ s.getB sts F.HLTH_STS_THROTTLE = false ∧ s.getB sts F.HLTH_STS_PEND_DOWN = false
        let k := { h with
          bus := if h.stopped = true then [read] else [read, wrote mv]
          vreq := v
          negCnt := n
          evts := if pend then post h.evts 1 v.toNat else h.evts }
        ∃ t f, exec c s = .next t ∧ only t (fun r => r = .HLTH_AVS ∨ r = sts ∨ r = .HLTH_MARGIN) ∧ shows t ∧
          f < 2 ^ 11 ∧ (0 ≤ v → f = v.toNat) ∧ t.getF .HLTH_MARGIN F.HLTH_MARGIN_VREQ = f ∧
          t.getF .HLTH_MARGIN F.HLTH_MARGIN_MPATH = mp.val ∧ t.getF .HLTH_MARGIN F.HLTH_MARGIN_WORST = worst.val ∧
          t.getF .HLTH_MARGIN F.HLTH_MARGIN_FLOOR = s.getF .HLTH_MARGIN F.HLTH_MARGIN_FLOOR ∧ t.getF .HLTH_AVS F.HLTH_AVS_TARGET = mv ∧
          (t.getB sts F.HLTH_STS_PEND_DOWN = true ↔ s.getB sts F.HLTH_STS_PEND_DOWN = true ∨ pend) ∧
          (h.stopped = true ∨ wr = true → errs t 0 ∧ good t k) ∧ (h.stopped = false → wr = false → errs t 1 ∧ failed t k))) ∧
    (∀ (tmax : BitVec 9) (sensor : Fin 12), (s.devState = 0 → exec (.thermalSample tmax sensor) s = .next s) ∧
      (s.devState ≠ 0 → ∃ t, exec (.thermalSample tmax sensor) s = .next t ∧ s.onlyRegs t (· = .HLTH_THERM) ∧
        t.getF .HLTH_THERM F.HLTH_THERM_TMAX = tmax.toNat ∧ t.getF .HLTH_THERM F.HLTH_THERM_SENSOR = sensor.val ∧
        fld (t.reg .HLTH_THERM) 22 0 = fld (s.reg .HLTH_THERM) 22 0)) ∧
    (let tj := sext 9 (s.getF .HLTH_THERM F.HLTH_THERM_TMAX)
     let hot := sext 9 (s.getF .HLTH_THERM F.HLTH_THERM_THR_HOT) ≤ tj
     let clr := tj ≤ sext 9 (s.getF .HLTH_THERM F.HLTH_THERM_THR_CLR)
     let off := s.devState = 0 ∨ s.getB .HLTH_CTL F.HLTH_CTL_THR_EN = false ∨ (hot ∧ clr) ∨ (¬ hot ∧ ¬ clr)
     let room := ceil50 (max s.fminSched 800) + 50 * h.tsteps < floor50 (min (s.getF .HLTH_CLK F.HLTH_CLK_NOM) (s.getF .HLTH_CLK F.HLTH_CLK_CEIL))
     let steps := fun (n : Nat) => ∃ t, exec .thermalStep s = .next t ∧ only t (· = sts) ∧ (t.getB sts F.HLTH_STS_THROTTLE = true ↔ 0 < n) ∧
       t.health = { h with tsteps := n, evts :=
         if h.tsteps = 0 ∧ 0 < n then post h.evts 4 (s.getF .HLTH_THERM F.HLTH_THERM_SENSOR * 2 ^ 16 + s.getF .HLTH_THERM F.HLTH_THERM_TMAX)
         else if 0 < h.tsteps ∧ n = 0 then post h.evts 5 s.cclk else h.evts }
     (off ∨ (hot ∧ ¬ room) → exec .thermalStep s = .next s) ∧ (¬ off → hot → room → steps (h.tsteps + 1)) ∧ (¬ off → ¬ hot → steps (h.tsteps - 1))) ∧
    (∀ shift : Fin 1024,
      let off := s.devState = 0 ∨ s.getB .HLTH_CTL F.HLTH_CTL_AGE_EN = false
      let hours := s.reg .HLTH_HOURS + 1
      let slope := if 100 ≤ hours.toNat then shift.val * 1000 / hours.toNat else 0
      let g := max (s.getF .HLTH_CTL F.HLTH_CTL_GB_MIN) ((slope * s.getF .HLTH_CTL F.HLTH_CTL_HORIZON + 999) / 1000)
      let v := h.vreq
      (off → exec (.ageingReplan shift) s = .next s) ∧
      (¬ off → ∃ t, exec (.ageingReplan shift) s = .next t ∧ only t (fun r => r = .HLTH_HOURS ∨ r = .HLTH_AGE ∨ r = .HLTH_LIFE) ∧ t.health = h ∧
        t.reg .HLTH_HOURS = hours ∧ t.getF .HLTH_AGE F.HLTH_AGE_SHIFT = shift.val ∧ t.getF .HLTH_AGE F.HLTH_AGE_SLOPE = slope ∧
        (g < 256 → t.getF .HLTH_AGE F.HLTH_AGE_GUARD = g) ∧
        t.reg .HLTH_LIFE = (if 850 < v then 0 else if slope = 0 then 0xFFFFFFFFF#36 else BitVec.ofNat 36 ((850 - v).toNat * 1000 / slope)))) ∧
    (h.evts = [] → exec .hlthEvtRead s = .next s) ∧
    (∀ e rest, h.evts = e :: rest → exec .hlthEvtRead s =
      .next (State.logEvt { s with health := { h with evts := rest } } 6 (fld e 34 29 * 2 ^ 20 + fld e 19 0))) ∧
    (∃ t, exec .swdtKick s = .next t ∧ s.onlyRegs t (· = .HLTH_SWDT) ∧
      t.getF .HLTH_SWDT F.HLTH_SWDT_COUNT = s.getF .HLTH_SWDT F.HLTH_SWDT_TIMEOUT ∧ t.getB .HLTH_SWDT F.HLTH_SWDT_EN = s.getB .HLTH_SWDT F.HLTH_SWDT_EN) ∧
    (let bites := s.getB .HLTH_SWDT F.HLTH_SWDT_EN = true ∧
       ¬ ((s.engine 192).halted = true ∧ s.dbg.level = 2 ∧ s.getB .DBG_CTL F.DBG_CTL_WDT_DBG_FREEZE = true)
     (¬ bites → exec .swdtBite s = .next s) ∧
     (bites → ∃ t, exec .swdtBite s = .next t ∧ s.SupervisorIsReset t ∧ t.getB sts F.HLTH_STS_SWDT_BITE = true ∧ t.health = { h with evts := post h.evts 0x0A 0 })))

/-- R25, R26, R356, R402, R403, R408, R440, R480, R499, R501, R507 and R522. What a memory reads between a reset and the end of fuse load (notes/assumptions/2.md), the in-band interrupt STATE on the change to POWERUP (20) and the levels of the balls until fuse load ends (52) are the model's. -/
def Obligations.ResetsOfThePinsAndTheTargetReset : Prop :=
  (∀ (s : State) (c : Instr) (p : Pins),
    (c, p) ∈ [(.resetNLow, { s.pins with resetNLow := true }), (.pgoodLow, { s.pins with pgoodLow := true }),
      (.refclkSysLoss, { s.pins with refSysLost := true }), (.thermtrip, { s.pins with thermtrip := true })] →
    ∃ t, exec c s = .next t ∧ s.DeviceIsReset t s.seq ∧ t.pins = { p with safeSeenBoot := false }) ∧
  (∀ (s : State) (a : Fin 4),
    exec (.resetNRelease a) s =
      .next (if s.pins.resetNLow = true then { s with pins := { s.pins with resetNLow := false, addrSel := BitVec.ofNat 2 a } } else s) ∧
    exec .pgoodRelease s = .next { s with pins := { s.pins with pgoodLow := false } } ∧
    exec .refclkSysReturn s = .next { s with pins := { s.pins with refSysLost := false } } ∧
    exec .thermtripRelease s = .next { s with pins := { s.pins with thermtrip := false } }) ∧
  (∀ s : State, (s.seq.resetPend = false → exec .deviceResetDelayEnd s = .next s) ∧
    (s.seq.resetPend = true → ∃ t, exec .deviceResetDelayEnd s = .next t ∧ s.DeviceIsReset t s.seq ∧
      t.pins = { s.pins with safeSeenBoot := false })) ∧
  (∀ s : State, ∃ t, exec .aonPowerOn s = .next t ∧ s.HelmIsReset t ∧ t.pending = s.pending ∧ s.fresh ≤ t.fresh ∧
    t.dbg = { Dbg.reset with level := if t.fusedLc = 3 ∨ t.fusedLc = 7 then 0 else 2 } ∧
    { t with helm := Helm.reset, dbg := Dbg.reset, fresh := 0, pending := [] } =
      { State.reset with pins := { Pins.reset with resetNLow := true, pgoodLow := true } }) ∧
  (∀ s : State, (s.seq.rstact = 0 → exec .targetResetPattern s = .next s) ∧
    (2 ≤ s.seq.rstact → ∃ t, exec .targetResetPattern s = .next t ∧ t.pins = { s.pins with safeSeenBoot := false } ∧
      s.DeviceIsReset t { s.seq with da := none, ibiEn := false, mwl := 2313, mrl := 2313, rstact := 1 }) ∧
    (s.seq.rstact = 1 → ∃ t, exec .targetResetPattern s = .next t ∧
      t.seq = { Seq.reset with startRel := s.seq.startRel, safePend := s.seq.safePend, evlog := s.seq.evlog } ∧
      t.getB .HOST_MBX_STS F.HOST_MBX_STS_CMD = false ∧ t.getF .HOST_MBX_STS F.HOST_MBX_STS_TAG = 0 ∧
      ((∀ x, s.seq.session = some x → x.type ≠ 3) → s.onlyRegs { t with seq := s.seq } (· = .HOST_MBX_STS)) ∧
      (∀ x, s.seq.session = some x → x.type = 3 → x.target ≤ 5 → t.sectState x.target = 0 ∧
        t.getB (.SEC_PLACE x.target) F.SEC_PLACE_VALID = false ∧
        (s.march.boot = false → ∀ ca, (memOf (4 * (ca / 4))).bind MemId.sect = some x.target → s.memHeld ca = false →
          ∃ g, s.fresh < g ∧ g ≤ t.fresh ∧ t.word ca = Config.freeWord g (ca / 4))))) ∧
  (∀ s : State,
    let p := s.pins
    let b := s.balls
    let off := p.resetNLow = true ∨ p.pgoodLow = true ∨ p.refSysLost = true ∨ p.thermtrip = true ∨ s.helm.loaded = false
    (off → b = { txHighZ := List.replicate 20 true, rxTerminated := List.replicate 20 true, beatOut := false, alertLow := false
                 sdaReleased := some true, avsClk := some false, avsMdata := some true, thermtripLow := p.thermtrip }) ∧
    (¬ off → b.beatOut = s.beat.outPulse ∧ b.alertLow = s.alertN ∧ b.thermtripLow = false ∧
      ∀ n, n < 20 → b.txHighZ[n]? = some (s.laneState n == 0 || fld (s.reg (.LN_FAULT n)) 8 0 != 0)))

/-- R24, R37, R398, R400, R412, R421, R422, R435, R437, R438, R440, R482, R507 and R527. In every other state FUSE_LOAD_END, BOOT_MARCH_COMPLETE and SELFTEST_END change nothing. The first boundary made in FAULT too (notes/assumptions/22.md), the SVE among the engines that the boot march fences (31) and a fuse load that reads every word, with SAFE following FAULT where it was asked for (39), are the model's. -/
def Obligations.BootRunsFromFuseLoadToAwaitSupervisor : Prop :=
  (∀ (f : FuseLoad) (s : State),
    let o := s.otpFound f.otpBad
    let w := s.otpWord 0
    let vote := fun i : Nat => 2 ≤ (bit w i).toNat + (bit w (i + 4)).toNat + (bit w (i + 8)).toNat
    let lc : Nat := if SMap.get (fun _ => false) o.helm.otpBad 0 = true then 7
      else if vote 3 then (if vote 1 ∧ vote 0 then 4 else 7)
      else if vote 2 then (if vote 1 ∧ vote 0 then 3 else 7)
      else if vote 1 then (if vote 0 then 2 else 7) else if vote 0 then 1 else 0
    let bad : Prop := f.romOk = false ∨ (∃ p ∈ o.helm.otpBad, p.2 = true ∧ ¬ (lc = 4 ∧ 0x0A0 ≤ p.1 ∧ p.1 ≤ 0x0A7)) ∨ lc = 7
    let idle : Prop := s.pins.resetNLow = true ∨ s.pins.pgoodLow = true ∨ s.pins.refSysLost = true ∨ s.pins.thermtrip = true ∨ s.devState ≠ 0 ∨
      s.helm.loaded = true
    let low := f.safeNLow
    (SMap.wf (fun _ => false) s.helm.otpBad = true → ∀ w,
      SMap.get (fun _ => false) o.helm.otpBad w = (SMap.get (fun _ => false) s.helm.otpBad w || decide (w ∈ f.otpBad.map (·.val)))) ∧
    (idle → exec (.fuseLoadEnd f) s = .next s) ∧
    (¬ idle → ∃ u t : State, exec (.fuseLoadEnd f) s = .next t ∧
      s.onlyRegs { u with helm := s.helm, dbg := s.dbg, seq := s.seq, pins := s.pins, march := s.march, fresh := s.fresh } (fun r => r = .HOST_STATE ∨ r = .HLTH_MARGIN ∨ r = .HLTH_SWDT ∨ ∃ k, k < 6 ∧ r = .SEC_USABLE k) ∧
      s.fresh ≤ u.fresh ∧ (s.getB .HLTH_SWDT F.HLTH_SWDT_EN = false → u.reg .HLTH_SWDT = s.reg .HLTH_SWDT ∧ u.fresh = s.fresh) ∧
      u.getF .HLTH_SWDT F.HLTH_SWDT_COUNT ≤ s.getF .HLTH_SWDT F.HLTH_SWDT_COUNT ∧
      (∀ i, i < 16 ∨ 31 < i → bit (u.reg .HLTH_SWDT) i = bit (s.reg .HLTH_SWDT) i) ∧
      (bad → u.devState = 7) ∧ (¬ bad → u.devState = 1) ∧ u.getF .HOST_STATE F.HOST_STATE_PREV = s.getF .HOST_STATE F.HOST_STATE_PREV ∧
      u.seq = { s.seq with ibis := if s.seq.ibiEn = true then ibiInsert 4 s.seq.ibis else s.seq.ibis } ∧
      u.pins = { s.pins with safeNLow := low, safeSeenBoot := s.pins.safeSeenBoot || low } ∧ u.march = (s.addSpares f.repairs).march ∧
      { u.helm with idKey := s.helm.idKey } = { o.helm with loaded := true, lc := lc } ∧
      u.helm.idKey = (if (lc = 1 ∧ ∃ i, i < 8 ∧ s.otpWord (0x0A0 + i) ≠ 0) ∨ lc = 2 ∨ lc = 3
        then some (beVal (kdf448 (s.otpOctets 0x0A0 8) s.deviceId) % (p384N - 1) + 1) else none) ∧
      u.dbg = (let d := { s.dbg with recLc := lc }
        if lc = 3 then (if s.dbg.recLc = 3 then d else { d with level := 0, nonce := none, resp := [], respTotal := 0 })
        else if lc = 7 then { d with level := 0 } else { d with level := 2 }) ∧
      (∀ k, k < 6 → u.getF (.SEC_USABLE k) F.SEC_USABLE_USABLE = fld (f.usable.getD k 0xFFFFFFFF) 31 0) ∧
      u.getF .HLTH_MARGIN F.HLTH_MARGIN_FLOOR = f.floor.val ∧ u.getF .HLTH_MARGIN F.HLTH_MARGIN_VREQ = s.getF .HLTH_MARGIN F.HLTH_MARGIN_VREQ ∧
      let b := u.boundary
      (¬ bad → bit (s.otpWord 7) 0 = false → ∃ r, t = { r with march := { b.march with boot := true } } ∧ b.onlyRegs r (· = .MARCH_STS) ∧
        r.getB .MARCH_STS F.MARCH_STS_BUSY = true) ∧
      (bad ∨ bit (s.otpWord 7) 0 = true → ∃ v : State,
        { v with mem := b.mem, undef := b.undef, eccSoft := b.eccSoft, eccBad := b.eccBad, fresh := b.fresh } = b ∧
        (∀ ca, memOf (4 * (ca / 4)) ≠ none → b.memHeld ca = false → ∃ g, b.fresh < g ∧ g ≤ v.fresh ∧ v.word ca = Config.freeWord g (ca / 4)) ∧
        (¬ bad → t = v) ∧
        (bad →
          let c := { v with seq := { v.seq with safePend := false }, pins := { v.pins with safeSeenBoot := false, safeNLow := low } }
          if v.seq.safePend = true ∨ v.pins.safeSeenBoot = true ∨ low = true then c.SafeIsEntered t else t = c)))) ∧
  (∀ (rep : BootMarch) (s : State), (s.march.boot = false → exec (.bootMarchComplete rep) s = .next s) ∧
    (s.march.boot = true → ∃ t, exec (.bootMarchComplete rep) s = .next t ∧ t.march.boot = false ∧
      t.getB .MARCH_STS F.MARCH_STS_BUSY = false ∧ t.getB .MARCH_STS F.MARCH_STS_DONE = true ∧ t.getB .MARCH_STS F.MARCH_STS_NOSPARE = rep.noSpare ∧
      t.getB .MARCH_STS F.MARCH_STS_UNC = rep.unc ∧ t.getF .MARCH_STS F.MARCH_STS_REPAIRED = min 511 rep.repaired ∧
      t.getF .MARCH_STS F.MARCH_STS_FAILS = min 0x3FFFF rep.fails ∧ t.reg .MARCH_FAIL = rep.first ∧
      t.getF .HLTH_MARGIN F.HLTH_MARGIN_FLOOR = (if rep.fails = 0 then s.getF .HLTH_MARGIN F.HLTH_MARGIN_FLOOR
        else min 850 (s.getF .HLTH_MARGIN F.HLTH_MARGIN_FLOOR + 5 * rep.fails)) ∧
      (∀ n, n ≤ 192 → ((t.engine n).fenced = true ↔ (s.engine n).fenced = true ∨ n ∈ rep.engines.map (·.val) ∨ n / 4 ∈ rep.clusters.map (·.val))) ∧
      (rep.device = false → rep.engines = [] → rep.clusters = [] → ∀ c,
        (t.ch c).g0 = GlvEntry.reset ∧ (t.ch c).g1 = GlvEntry.reset ∧ (t.ch c).bad0 = false ∧ (t.ch c).bad1 = false) ∧
      ((∀ n, (s.engine n).sb = [] ∧ (s.engine n).outStores = [] ∧ s.dmaCtx n = DmaCtx.reset) → s.march.busy = false →
        ∀ ca, memOf (4 * (ca / 4)) ≠ none → t.word ca = 0) ∧
      t.march.spares = (s.addSpares rep.spares).march.spares ∧ t.pins.safeNLow = rep.safeNLow ∧
      (rep.device = false → t.devState = s.devState ∧ t.pins = { s.pins with safeNLow := rep.safeNLow, safeSeenBoot := s.pins.safeSeenBoot || rep.safeNLow }) ∧
      (rep.device = true →
        let asked := s.seq.safePend = true ∨ s.pins.safeSeenBoot = true ∨ rep.safeNLow = true
        t.seq.safePend = false ∧ t.devState = (if asked then 6 else 7) ∧ (asked → t.getF .HOST_STATE F.HOST_STATE_PREV = 7)))) ∧
  (∀ (low : Bool) (s : State), (s.devState ≠ 1 ∨ s.march.boot = true → exec (.selftestEnd low) s = .next s) ∧
    (s.devState = 1 → s.march.boot = false → ∃ c t : State, exec (.selftestEnd low) s = .next t ∧
      s.onlyRegs { c with seq := s.seq, pins := s.pins } (· = .HOST_STATE) ∧ c.devState = 2 ∧
      c.getF .HOST_STATE F.HOST_STATE_PREV = s.getF .HOST_STATE F.HOST_STATE_PREV ∧
      c.seq = { s.seq with safePend := false, ibis := if s.seq.ibiEn = true then ibiInsert 4 s.seq.ibis else s.seq.ibis } ∧
      c.pins = { s.pins with safeSeenBoot := false, safeNLow := low } ∧
      if s.seq.safePend = true ∨ s.pins.safeSeenBoot = true ∨ low = true then c.SafeIsEntered t else t = c)) ∧
  (∀ s : State, ∃ t, exec .refclkLnLoss s = .next t ∧
    (∀ n, n < 20 → t.laneState n = (if s.laneState n = 0 then 0 else 11) ∧
      (s.laneState n ≠ 0 → s.laneState n ≠ 11 → t.laneCause n = 0x12 ∧ t.inService n = false ∧
        (s.inService n = true → ∀ c, c / 2048 = n → (s.ch c).g0.state < 2 → (t.ch c).g0.state = 2 ∧ (t.ch c).g0.cause = 0x12)) ∧
      (s.laneState n = 0 ∨ s.laneState n = 11 → t.reg (.LN_STS n) = s.reg (.LN_STS n))) ∧
    t.mem = s.mem ∧ t.beat = s.beat ∧ t.helm = s.helm ∧ t.pins = s.pins)

/-- R37, R40, R41, R45, R49, R50, R91, R94, R100, R118, R333, R336, R358, R362, R392, R476, R477, R483 and R493. That TARGET goes to 850 mV at the boundary that finds F below its bound is the model's reading of R477. -/
def Obligations.BoundariesNumberBeatsAndJudgeThem : Prop :=
  (∀ s : State, (s.beat.started = false → exec .beatBoundary s = .next s) ∧
    (s.beat.started = false ∨ s.beat.aligned = false → exec .holdover s = .next s) ∧
    (s.beat.started = true → s.beat.aligned = true → ∃ u : State, exec .holdover s = exec .beatBoundary u ∧
      s.onlyRegs { u with seq := s.seq } (· = .BEAT_STS) ∧ u.getB .BEAT_STS F.BEAT_STS_HOLDOVER = true ∧ u.getB .BEAT_STS F.BEAT_STS_LOST = true ∧
      u.getB .BEAT_STS F.BEAT_STS_EDGE_ERR = s.getB .BEAT_STS F.BEAT_STS_EDGE_ERR ∧ u.getB .BEAT_STS F.BEAT_STS_SHORT = s.getB .BEAT_STS F.BEAT_STS_SHORT ∧
      (s.seq.ibiEn = true → s.alertN = false → 2 ∈ u.seq.ibis))) ∧
  (∀ s : State, Canonical s → s.beat.started = true → ∃ t, exec .beatBoundary s = .next t ∧
    let b := if s.getB .BEAT_CTL F.BEAT_CTL_LOAD_ARM = true then s.reg .BEAT_NUM_LOAD else s.reg .BEAT_NUM + 1
    t.reg .BEAT_NUM = b ∧ t.getB .BEAT_CTL F.BEAT_CTL_LOAD_ARM = false ∧
    t.beat = { s.beat with
      period := s.getF .BEAT_PERIOD F.BEAT_PERIOD_PERIOD, outPulse := s.getB .BEAT_CTL F.BEAT_CTL_OUT_EN, length := none } ∧
    let v := s.beatCloses
    (∀ k, k < 6 → (v.sect k).pushBuf = []) ∧
    (s.beat.length = none → v.chan = s.chan ∧ v.eng = s.eng ∧ v.lane = s.lane ∧ ∀ k, k < 6 → v.sect k = { s.sect k with pushBuf := [] }) ∧
    (∀ n p, n < 16 → s.inService n = true → (s.ln n).upExpect = [] → p < s.kNow + 3 → s.keptOut p = true →
      ∀ i ∈ s.upRecords n (p - (s.ln n).upShift), (v.slotOf (n * 2048 + i) s.beatNum).st = 3) ∧
    (∀ c, (t.ch c).eg = none ∧ (t.ch c).wrote = false ∧ (t.ch c).egSend = (s.ch c).eg ∧
      (if b.toNat % 2 = 0 then (t.ch c).ing0 = Slot.empty ∧ (t.ch c).ing1 = (v.ch c).ing1
       else (t.ch c).ing1 = Slot.empty ∧ (t.ch c).ing0 = (v.ch c).ing0)) ∧
    (∀ c, (s.ch c).g0 = (s.ch c).g1 → (s.ch c).bad = false → s.glvHeld = false →
      (∀ n, (s.ln n).dnLostBits = 0) → (s.ch c).lostDn = false → (s.ch c).g0.state = 0 → (s.ch c).g0.fup ≤ (s.ch c).g0.freshUp →
      (s.ch c).g0.fdn ≤ (s.ch c).g0.freshDn →
      let g := (s.ch c).g0
      let had := (v.slotOf c s.beatNum).st = 1
      if ¬ had ∧ g.fup = g.freshUp then (t.ch c).g0.state = 2 ∧ (t.ch c).g0.cause = 0x10 ∧ g.actStale ≤ (t.ch c).g0.act
      else if (s.ch c).wrote = false ∧ g.fdn = g.freshDn then (t.ch c).g0.state = 2 ∧ (t.ch c).g0.cause = 0x11 ∧ g.actStale ≤ (t.ch c).g0.act
      else (t.ch c).g0.fup = (if had then 0 else g.fup + 1) ∧ (t.ch c).g0.fdn = (if (s.ch c).wrote = true then g.fdn else g.fdn + 1)) ∧
    (∀ q, (t.q q).stOcc = (t.q q).occ ∧ (t.q q).popped = false) ∧
    (let armed := s.getF .QM_HOFF F.QM_HOFF_STS = 1 ∧ s.getF .QM_HOFF_BEAT F.QM_HOFF_BEAT_BEAT = b.toNat
     let o := s.getF .QM_HOFF F.QM_HOFF_OWNER
     let first := s.getF .QM_HOFF F.QM_HOFF_FIRST
     let refused := (s.engine o).fenced = true ∨ s.handoffRefused o first (s.getF .QM_HOFF F.QM_HOFF_COUNT) = true
     (¬ armed → t.reg .QM_HOFF = s.reg .QM_HOFF) ∧
     (armed → refused → t.getF .QM_HOFF F.QM_HOFF_STS = 3 ∧ t.getB .QM_HOFF F.QM_HOFF_ARM = false) ∧
     (armed → ¬ refused → t.getF .QM_HOFF F.QM_HOFF_STS = 2 ∧ t.getB .QM_HOFF F.QM_HOFF_ARM = false ∧
       ∀ c, first ≤ c → c < first + s.getF .QM_HOFF F.QM_HOFF_COUNT → (t.ch c).g0.owner = o ∧ (t.ch c).g1.owner = o ∧ (t.ch c).owner.toNat = o)) ∧
    (∀ u, u < 50 →
      let x := s.ckUnit u
      (x.armed = false → t.ckUnit u = x ∧ t.reg (.CKU_STS u) = s.reg (.CKU_STS u)) ∧
      (x.armed = true → x.due ≠ 0 → t.ckUnit u = { x with due := x.due - 1 } ∧ t.reg (.CKU_STS u) = s.reg (.CKU_STS u)) ∧
      (x.armed = true → x.due = 0 → t.ckUnit u = { x with due := fld (s.reg (.CKU_CTL u)) 15 0 - 1 } ∧
        (s.getB (.CKU_STS u) F.CKU_STS_BUSY = true → t.getB (.CKU_STS u) F.CKU_STS_SKIP = true) ∧
        (s.getB (.CKU_STS u) F.CKU_STS_BUSY = false → t.getB (.CKU_STS u) F.CKU_STS_BUSY = true ∨ t.getF (.CKU_STS u) F.CKU_STS_ERR = 1))) ∧
    (∀ n, n < 16 →
      let x := s.ln n
      let lost := s.inService n = true ∧ x.beatOk = false ∧ 1 ≤ x.beatMiss
      let trained := s.laneState n = 4 ∧ x.trainDone = true
      fld (t.reg (.LN_FRM n)) 35 25 = 7 * s.getF .BEAT_PERIOD F.BEAT_PERIOD_PERIOD / 68 - 3 ∧ (t.ln n).beatOk = false ∧
      (lost → t.laneState n = 11 ∧ t.laneCause n = 0x0E ∧ t.inService n = false ∧ ∀ c, c / 2048 = n → (s.ch c).g0.state < 2 → 2 ≤ (t.ch c).g0.state) ∧
      (¬ lost → x.testGo = true → t.laneState n = 10 ∧ t.laneCause n = 0x16 ∧ t.inService n = false) ∧
      (¬ lost → x.testGo = false → trained → t.laneState n = 5) ∧
      (¬ lost → x.testGo = false → s.laneState n = 8 → x.readyB = some b → x.readyAck = true → t.laneState n = 9 ∧ t.inService n = true) ∧
      (¬ lost → ¬ trained → s.laneState n ≠ 8 → x.testGo = false → t.reg (.LN_STS n) = s.reg (.LN_STS n) ∧
        (t.ln n).beatMiss = if x.beatOk = true then 0 else x.beatMiss + 1)) ∧
    (s.fminSched ≤ 2000 →
      let sts := Reg.HLTH_STS
      let guard := s.getF .HLTH_AGE F.HLTH_AGE_GUARD
      let ages := s.getB sts F.HLTH_STS_PEND_DOWN = true ∧
        (s.getB .HLTH_CTL F.HLTH_CTL_MWIN = true ∨ ((850 + guard : Nat) : Int) < s.health.vreq)
      let ceil := if ages then s.getF .HLTH_CLK F.HLTH_CLK_CEIL - 50 else s.getF .HLTH_CLK F.HLTH_CLK_CEIL
      let top := (min (s.getF .HLTH_CLK F.HLTH_CLK_NOM) ceil - 50 * s.health.tsteps) / 50 * 50
      let low := max s.fminSched 800
      let f := if low ≤ top then top else (low + 49) / 50 * 50
      let fail := s.getB sts F.HLTH_STS_AVS_FAIL = true
      t.getF .HLTH_CLK F.HLTH_CLK_CEIL = ceil ∧ (ages → t.getB sts F.HLTH_STS_PEND_DOWN = false ∧ t.health.negCnt = 0) ∧
      (t.getB sts F.HLTH_STS_CRITICAL = true ↔ ¬ low ≤ top) ∧
      (f ≤ s.cclk ∨ (s.health.raise = 2 ∧ ¬ fail) → t.cclk = f ∧ t.health.raise = 0) ∧
      (s.cclk < f → fail → t.cclk = s.cclk) ∧
      (s.cclk < f → ¬ fail → s.health.raise = 0 → t.cclk = s.cclk ∧ t.health.raise = 1 ∧ t.getF .HLTH_AVS F.HLTH_AVS_TARGET = 850) ∧
      (s.cclk < f → ¬ fail → s.health.raise = 1 → t.cclk = s.cclk ∧ t.health.raise = 1)))

/-- R54, R57, R68, R69, R71 to R73, R209, R453, R455, R488 and R489. END_CYC of a beat that did not finish, and SEC_SLACK of a section that does not run, are the model's readings (notes/assumptions/50.md); that an engine in a step counts as halted is its reading of R459 (notes/assumptions/48.md). -/
def Obligations.SectionsEnterOverrunStartAndStopAtABoundary : Prop :=
  ∀ (s : State) (k : Nat), k < 6 → Canonical s → s.beat.started = true → ∃ t, exec .beatBoundary s = .next t ∧
    let b := if s.getB .BEAT_CTL F.BEAT_CTL_LOAD_ARM = true then s.reg .BEAT_NUM_LOAD else s.reg .BEAT_NUM + 1
    let v := s.beatCloses
    let x := v.sect k
    let ov := Reg.SEC_OVERRUN k
    let count := s.getF ov F.SEC_OVERRUN_COUNT
    let consec := s.getF ov F.SEC_OVERRUN_CONSEC
    let placed := fun i : Nat => i < 32 ∧ bit x.useMask i = true
    let runs := fun i : Nat => placed i ∧ (v.engine (k * 32 + i)).locked = false ∧ (v.engine (k * 32 + i)).fenced = false
    let run := s.sectState k = 2 ∨ s.sectState k = 4
    let fin := ∀ i, runs i → (v.engine (k * 32 + i)).efDone = true
    let held := ∃ i, i < 32 ∧ (v.engine (k * 32 + i)).inHalt = true
    let ent := s.reg (.SEC_ENTRY k)
    let entered := ∀ i, runs i →
      let y := t.engine (k * 32 + i)
      y.pc = put 13 0 (fld ent 13 0) ∧ y.ring.toNat = fld ent 20 19 ∧ y.imask.toNat = fld ent 18 16 ∧ y.rsDepth = 0 ∧ y.rs = (v.engine (k * 32 + i)).rs ∧ y.p = 0 ∧
      y.cyc = 0 ∧ y.inBeat = true ∧ y.branch = none ∧ y.fence = none ∧ y.efWait = false ∧ y.efDone = false ∧ y.waitRead = none
    let restarted := entered ∧ ∀ i, runs i → (v.engine (k * 32 + i)).inBeat = true →
      let y := t.engine (k * 32 + i)
      y.divOp = none ∧ y.fplOp = none ∧ y.resv = none ∧ y.held = [] ∧ y.longop = none ∧
        y.stm = { (v.engine (k * 32 + i)).stm with op := 0, susp := false, rcd := [], start := 0 }
    let stopped := t.sectState k = 3 ∧ ∀ i, i < 32 → (t.engine (k * 32 + i)).inBeat = false ∧ (t.engine (k * 32 + i)).halted = false
    let counts := fun (a c : Nat) => t.getF ov F.SEC_OVERRUN_COUNT = a ∧ t.getF ov F.SEC_OVERRUN_CONSEC = c
    let counted := t.getF ov F.SEC_OVERRUN_COUNT = count ∧ (fin → x.dbgHalted = false → t.getF ov F.SEC_OVERRUN_CONSEC = 0) ∧
      (¬ fin ∨ x.dbgHalted = true → t.getF ov F.SEC_OVERRUN_CONSEC = consec)
    let kept := t.sectState k = s.sectState k ∧ t.getB (.SEC_STATE k) F.SEC_STATE_OVR = s.getB (.SEC_STATE k) F.SEC_STATE_OVR
    (run → (t.getB (.SEC_SLACK k) F.SEC_SLACK_VALID = true ↔ fin) ∧ (fin → t.getF (.SEC_SLACK k) F.SEC_SLACK_END_CYC = min 0x3FFFF x.endCyc) ∧
      (¬ fin → t.getF (.SEC_SLACK k) F.SEC_SLACK_END_CYC = min 0x3FFFF (s.beat.length.getD s.beat.period * s.cclk / 100 - 8)) ∧
      t.getB (.SEC_STALL k) F.SEC_STALL_SCHED = x.sched ∧ t.getF (.SEC_STALL k) F.SEC_STALL_CYC = min 0x3FFFF x.stallCyc ∧
      (x.expired < 16 → t.getF (.SEC_STALL k) F.SEC_STALL_EXPIRED = x.expired)) ∧
    (¬ run → t.reg (.SEC_SLACK k) = 0) ∧
    (run → x.stopAt = some b → stopped ∧ counted) ∧
    (run → x.stopAt ≠ some b → held → kept ∧ counted) ∧
    (run → x.stopAt ≠ some b → ¬ held → x.dbgHalted = true → kept ∧ restarted ∧ counts count consec) ∧
    (run → x.stopAt ≠ some b → ¬ held → x.dbgHalted = false → fin → kept ∧ entered ∧ counts count 0) ∧
    (run → x.stopAt ≠ some b → ¬ held → x.dbgHalted = false → ¬ fin →
      let c := min 15 (consec + 1)
      let lim := s.getF (.SEC_FRAME k) F.SEC_FRAME_OVR_LIMIT
      counts ((count + 1) % 2 ^ 32) c ∧ t.getB (.SEC_STATE k) F.SEC_STATE_OVR = true ∧
      if lim ≠ 0 ∧ lim ≤ c then stopped ∧ t.getB (.SEC_STATE k) F.SEC_STATE_OSTOP = true ∧
        ∀ c, ownedBy k (s.ch c) = true → s.getF .QM_HOFF F.QM_HOFF_STS ≠ 1 → (s.ch c).g0.state < 2 → 2 ≤ (t.ch c).g0.state
      else t.sectState k = s.sectState k ∧ restarted) ∧
    (¬ run → x.startAt = some b ∧ (s.sectState k = 1 ∨ s.sectState k = 3) → entered ∧ (t.sect k).startAt = none ∧
      (t.sectState k = 4 ∨ t.sectState k = 2) ∧ (t.sectState k = 4 ↔ ∃ i, placed i ∧ (s.engine (k * 32 + i)).fenced = true)) ∧
    (¬ run → ¬ (x.startAt = some b ∧ (s.sectState k = 1 ∨ s.sectState k = 3)) → kept ∧ counts count consec)

/-- R8, R9, R34, R38, R39, R43, R44, R46 to R48, R111. That the boundary of an edge, 40 ns after it (4 units of 10 ns), is what the window judges, and that a difference of up to WINDOW either way is inside it, are the model's reading; so is that neither SHORT nor EDGE_ERR sets during acquisition and that POL stays where both levels last half the period (notes/assumptions/49.md), and that a write is judged field by field (26). -/
def Obligations.RegisterWritesFollowTheirTypesAndTheBeatInput : Prop :=
  (∀ (m : Master) (a w : Word) (s : State), Reg.ofAddr a.toNat = none → exec (.registerWrite m a w) s = .next s) ∧
  (∀ (m : Master) (a w : Word) (r : Reg) (s : State), Reg.ofAddr a.toNat = some r → r.addr = a.toNat ∧
    (r.hasOperation = false → ∃ t, exec (.registerWrite m a w) s = .next t ∧ s.WrittenAsTyped t r w)) ∧
  (∀ (w : Word) (s : State),
    let p := fld w 13 0
    let fits := fun (first len n : Nat) => len = 0 ∨ first + (len + n - 1) / n ≤ 7 * p / 68 - 3
    let ok := s.getB .BEAT_CTL F.BEAT_CTL_LOCKED = false ∧ 500 ≤ p ∧ p ≤ 10000 ∧
      ∀ m, s.helm.chmap = some m → ∀ l ∈ m.lanes, fits l.firstUp l.up.length 35 ∧ fits l.firstDn l.dn.length 71
    (¬ ok → exec (.beatPeriodWrite w) s = .next s) ∧
    (ok → ∃ t, exec (.beatPeriodWrite w) s = .next t ∧ s.onlyRegs t (· = .BEAT_PERIOD) ∧ t.getF .BEAT_PERIOD F.BEAT_PERIOD_PERIOD = p)) ∧
  (∀ s : State,
    let src := s.getB .BEAT_CTL F.BEAT_CTL_SRC
    ∃ t, exec .relock s = .next t ∧ s.onlyRegs { t with beat := s.beat } (fun _ => False) ∧
      t.beat = { s.beat with relock := s.beat.relock || src, outPulse := s.beat.outPulse && s.getB .BEAT_CTL F.BEAT_CTL_OUT_EN }) ∧
  (∀ (sinceEdge since high : Nat) (s : State),
    let c := Instr.beatInEdge sinceEdge since high
    let p := s.beat.period
    let win := s.getF .BEAT_CTL F.BEAT_CTL_WINDOW
    let src := s.getB .BEAT_CTL F.BEAT_CTL_SRC = true
    let sts := Reg.BEAT_STS
    let alerted := fun (t : State) => s.seq.ibiEn = true → s.alertN = false → 2 ∈ t.seq.ibis
    let aligns := fun (len : Nat) (short : Prop) => ∃ t, exec c s = .next t ∧ s.onlyRegs { t with beat := s.beat, seq := s.seq } (· = sts) ∧
      t.beat = { s.beat with lockCnt := 3, aligned := true, relock := false, length := some len } ∧ t.getB sts F.BEAT_STS_HOLDOVER = false ∧
      t.getB sts F.BEAT_STS_LOST = s.getB sts F.BEAT_STS_LOST ∧ t.getB sts F.BEAT_STS_EDGE_ERR = s.getB sts F.BEAT_STS_EDGE_ERR ∧
      (t.getB sts F.BEAT_STS_SHORT = true ↔ s.getB sts F.BEAT_STS_SHORT = true ∨ short) ∧ (short → alerted t) ∧ (¬ short → t.seq = s.seq)
    let armed := s.beat.relock = true ∧ p ≤ 2 * since
    let inside := since + 4 ≤ p + win ∧ p ≤ since + 4 + win
    let after := s.getB sts F.BEAT_STS_HOLDOVER = true ∧ since + 4 ≤ win
    (¬ src → exec c s = .next s) ∧
    (src → armed → aligns (since + 4) (since + 4 < p)) ∧
    (src → ¬ armed → s.beat.aligned = false → 3 ≤ s.beat.lockCnt → aligns (since + 4) False) ∧
    (src → ¬ armed → s.beat.aligned = false → s.beat.lockCnt < 3 → ∃ t, exec c s = .next t ∧
      s.onlyRegs { t with beat := s.beat } (· = .BEAT_CTL) ∧
      t.getB .BEAT_CTL F.BEAT_CTL_POL = (if 2 * high = sinceEdge then s.getB .BEAT_CTL F.BEAT_CTL_POL else decide (sinceEdge < 2 * high)) ∧ t.getF .BEAT_CTL F.BEAT_CTL_WINDOW = win ∧
      t.beat = { s.beat with lockCnt := if sinceEdge ≤ p + win ∧ p ≤ sinceEdge + win then s.beat.lockCnt + 1 else 0 }) ∧
    (src → ¬ armed → s.beat.aligned = true → inside → aligns (since + 4) False) ∧
    (src → ¬ armed → s.beat.aligned = true → ¬ inside → after → aligns (since + 4 + p) False) ∧
    (src → ¬ armed → s.beat.aligned = true → ¬ inside → ¬ after → ∃ t, exec c s = .next t ∧
      s.onlyRegs { t with seq := s.seq } (fun r => r = sts ∨ r = .BEAT_EDGE_ERR) ∧ alerted t ∧ t.getB sts F.BEAT_STS_EDGE_ERR = true ∧
      t.getB sts F.BEAT_STS_HOLDOVER = s.getB sts F.BEAT_STS_HOLDOVER ∧
      t.getF .BEAT_EDGE_ERR F.BEAT_EDGE_ERR_COUNT = min 65535 (s.getF .BEAT_EDGE_ERR F.BEAT_EDGE_ERR_COUNT + 1))) ∧
  (∀ s : State, s = State.reset →
    (∀ r : Reg, s.reg r = r.reset) ∧ s.reg .HOST_DEVID = 0x92365C100#36 ∧ s.reg .BEAT_CTL = 0x000000500#36 ∧ s.reg .BEAT_PERIOD = 0x0000003E8#36 ∧
    (∀ k : Nat, s.reg (.SEC_ENTRY k) = 0x000100000#36 ∧ s.reg (.SEC_STALL_LIMIT k) = 0x00000003C#36) ∧ s.reg .HLTH_CLK = 0x000320640#36 ∧
    s.reg .HLTH_AVS = 0x0002EE000#36 ∧ s.dbgLevel = 0x000000002#36 ∧ s.devState = 0 ∧ s.pending = [] ∧
    ∀ c : Nat, (s.ch c).g0.state = 3 ∧ (s.ch c).g0.cause = 0x18 ∧ (s.ch c).g0.act = 2 ∧ (s.ch c).g1 = (s.ch c).g0)

/-- R34, R39, R42, R43, R73, R103, R366, R389, R399, R446, R465 and R478, and the tables of those registers. How far the watchdog has counted when it is looked at is free (notes/assumptions/52.md); a write is judged field by field (26), HALT and RESUME in one write act in that order (27), and START is ignored beside an ABORT (49). -/
def Obligations.WritesOfRegistersWithAnOperationOfTheirOwn : Prop :=
  ∀ (m : Master) (a w : Word) (s : State),
    let wr := exec (.registerWrite m a w) s
    let plain := fun r : Reg => ∃ t, wr = .next t ∧ s.WrittenAsTyped t r w
    let at' := fun r : Reg => Reg.ofAddr a.toNat = some r
    let then' := fun (r : Reg) (c : Instr) => ∃ u, s.WrittenAsTyped u r w ∧ wr = exec c u
    let keeps := fun (r : Reg) (f : Nat × Nat) (ok : Prop) => ∃ t v, wr = .next t ∧ s.WrittenAsTyped t r v ∧
      (∀ i, i < f.2 ∨ f.1 < i → bit v i = bit w i) ∧ (ok → fld v f.1 f.2 = fld w f.1 f.2) ∧ (¬ ok → fld v f.1 f.2 = s.getF r f)
    (∀ k : SectId, ∀ r ∈ [Reg.SEC_FRAME k, .SEC_BUDGET k, .SEC_ENTRY k, .SEC_MODE k, .SEC_CFG k, .SEC_XQ_MAX k], at' r →
      (s.running k = true → wr = .next s) ∧ (s.running k = false → plain r)) ∧
    (∀ (k : SectId) (j : Nat), ∀ r ∈ [Reg.PRGN_BASE k j, .PRGN_ATTR k j], at' r →
      (s.running k = true → wr = .next s) ∧ (s.running k = false → plain r)) ∧
    (∀ j : Nat, ∀ r ∈ [Reg.PRGN_BASE 6 j, .PRGN_ATTR 6 j], at' r → (m ≠ .sve true → wr = .next s) ∧ (m = .sve true → plain r)) ∧
    (∀ k : SectId, at' (.SEC_STALL_LIMIT k) → (fld w 9 0 = 0 → wr = .next s) ∧ (fld w 9 0 ≠ 0 → plain (.SEC_STALL_LIMIT k))) ∧
    (∀ u : CkuId, ∀ r ∈ [Reg.CKU_ADDR u, .CKU_LEN u, .CKU_EXP u], at' r →
      (s.getB (.CKU_STS u) F.CKU_STS_BUSY = true → wr = .next s) ∧ (s.getB (.CKU_STS u) F.CKU_STS_BUSY = false → plain r)) ∧
    (at' .QM_HOFF_BEAT → (s.getF .QM_HOFF F.QM_HOFF_STS = 1 → wr = .next s) ∧ (s.getF .QM_HOFF F.QM_HOFF_STS ≠ 1 → plain .QM_HOFF_BEAT)) ∧
    (at' .BEAT_PERIOD → wr = exec (.beatPeriodWrite w) s) ∧
    (∀ k : SectId, (at' (.SEC_FENCE k) → wr = exec (.fence m k w) s) ∧ (at' (.SEC_DBELL k) → wr = exec (.doorbell k w) s) ∧
      (at' (.SEC_DCINV k) → wr = exec (.dcacheInvalidate k w) s) ∧
      (at' (.SEC_PWR k) → wr = exec (if bit w 35 = true then .sectionGate m k else .sectionPowerRestore m k) s)) ∧
    (∀ (k : SectId) (c : Fin 8) (j : Fin 64), at' (.SEC_SEM k c j) →
      (bit w 35 = bit w 34 → wr = .next s) ∧ (bit w 35 = true → bit w 34 = false → wr = exec (.semAcquire m k c j) s) ∧
      (bit w 35 = false → bit w 34 = true → wr = exec (.semRelease m k c j) s)) ∧
    (∀ (c : CluId) (x : Fin 4), at' (.SEC_DMA_POST (c.val / 8) (c.val % 8) x.val) → wr = exec (.dmaPost m c x w) s) ∧
    (at' .QM_PUSH → (∀ n ring, m = .engine n ring → wr = .next s) ∧ ((∀ n ring, m ≠ .engine n ring) → wr = exec (.qmPush w) s)) ∧
    (at' .QM_HOFF → wr = exec (if bit w 35 = true then .handoffArm w else .handoffCancel w) s) ∧
    (∀ k : Fin 7, at' (.GLV_TW k) → wr = exec (.glvTighten k w) s) ∧
    (at' .GLV_CMD →
      (∀ (first : Fin 32768) (count : Fin 512), first.val = fld w 14 0 → count.val = fld w 23 15 →
        (fld w 35 34 = 1 → wr = exec (.glvCmdPark first count) s) ∧ (fld w 35 34 = 2 → wr = exec (.glvCmdRelease first count) s)) ∧
      (fld w 35 34 ≠ 1 → fld w 35 34 ≠ 2 → (s.getF .GLV_CMD F.GLV_CMD_STS = 1 → wr = .next s) ∧
        (s.getF .GLV_CMD F.GLV_CMD_STS ≠ 1 → ∃ t, wr = .next t ∧ s.onlyRegs t (· = .GLV_CMD) ∧ t.getF .GLV_CMD F.GLV_CMD_STS = 0 ∧
          fld (t.reg .GLV_CMD) 23 0 = fld w 23 0))) ∧
    (∀ n : LaneId, (at' (.LN_TEST n) → wr = exec (.laneTest n w) s) ∧ (at' (.LN_MSG_TX n) → wr = exec (.msgTxAppend n w) s) ∧
      (at' (.LN_MSG_TXC n) → (bit w 17 = true → wr = exec (.svcSend n w) s) ∧
        (bit w 17 = false → ∃ t, wr = .next t ∧ s.onlyRegs t (· = .LN_MSG_TXC n) ∧ t.getF (.LN_MSG_TXC n) F.LN_MSG_TXC_LEN = fld w 26 18 ∧
          ∀ i, i < 18 ∨ 26 < i → bit (t.reg (.LN_MSG_TXC n)) i = bit (s.reg (.LN_MSG_TXC n)) i)) ∧
      (at' (.LN_CTL n) → ∃ u v, s.WrittenAsTyped u (.LN_CTL n) w ∧ exec (if bit w 0 = true then .laneEnable n else .laneDisable n) u = .next v ∧
        let acts := bit w 0 = true ∧ s.laneState n ≠ 0
        (¬ acts ∨ fld w 3 2 = 0 → wr = .next v) ∧
        (acts → fld w 3 2 = 1 → wr = exec (.laneFullRetrain n) v) ∧ (acts → fld w 3 2 = 2 → wr = exec (.laneQuickRetrain n) v) ∧
        (acts → fld w 3 2 = 3 → wr = exec (.laneHold n) v))) ∧
    (at' .HOST_MBX_REPLY → wr = exec (.mbxReplyAppend w) s) ∧
    (at' .HOST_MBX_RCTL → (bit w 35 = true → wr = exec (.mailboxSend w) s) ∧
      (bit w 35 = false → bit w 16 = false → plain .HOST_MBX_RCTL) ∧ (bit w 35 = false → bit w 16 = true → then' .HOST_MBX_RCTL .supervisorReady)) ∧
    (at' .HELM_OTPCTL → (bit w 35 = true → fld w 34 33 = 1 → wr = exec (.otpProgram m w) s) ∧
      (bit w 35 = true → fld w 34 33 = 2 → wr = exec (.otpGenerateSecret m w) s) ∧
      (bit w 35 = false ∨ fld w 34 33 = 0 ∨ fld w 34 33 = 3 → plain .HELM_OTPCTL)) ∧
    (at' .MARCH_CTL → (bit w 35 = true → wr = exec (.marchStart w) s) ∧
      (bit w 35 = false → bit w 34 = false → plain .MARCH_CTL) ∧ (bit w 35 = false → bit w 34 = true → then' .MARCH_CTL .marchAbort)) ∧
    (∀ u : CkuId,
      let busy := s.getB (.CKU_STS u) F.CKU_STS_BUSY = true
      let armed := fun (t : State) => t.ckUnit u = (if bit w 30 = true then s.ckUnit u else { s.ckUnit u with armed := false }) ∧
        ∀ k, k ≠ u.val → t.ckUnit k = s.ckUnit k
      (at' (.CKU_CTL u) → (bit w 35 = true → wr = exec (.checkStart u w) s) ∧
        (bit w 35 = false → ¬ busy → ∃ t, wr = .next t ∧ armed t ∧ s.WrittenAsTyped { t with cku := s.cku } (.CKU_CTL u) w) ∧
        (bit w 35 = false → busy → ∃ v, armed v ∧ s.onlyRegs { v with cku := s.cku } (· = .CKU_CTL u) ∧
          (∀ i, bit (v.reg (.CKU_CTL u)) i = if i = 30 then bit w 30 else bit (s.reg (.CKU_CTL u)) i) ∧
          wr = if bit w 34 = true then exec (.checkAbort u) v else .next v)) ∧
      (at' (.CKU_STS u) → ∃ t v, wr = .next t ∧ s.WrittenAsTyped v (.CKU_STS u) w ∧ s.onlyRegs t (· = .CKU_STS u) ∧
        (bit w 34 = false → t = v) ∧ (bit w 34 = true → t.getF (.CKU_STS u) F.CKU_STS_ERR = 0 ∧
          ∀ i, i < F.CKU_STS_ERR.2 ∨ F.CKU_STS_ERR.1 < i → bit (t.reg (.CKU_STS u)) i = bit (v.reg (.CKU_STS u)) i))) ∧
    (∀ g : Fin 8, at' (.DBG_GONG g) → (dbgEntryOk m 0 = false → wr = .next s) ∧
      (dbgEntryOk m 0 = true → if bit w 35 = true then then' (.DBG_GONG g) (.gongFire m g) else plain (.DBG_GONG g))) ∧
    (∀ n : EngId, (at' (.DBG_ECTL n) → (dbgEntryOk m n = false → wr = .next s) ∧
        (dbgEntryOk m n = true → ∃ u v, s.WrittenAsTyped u (.DBG_ECTL n) w ∧ (if bit w 35 = true then exec (.haltRequest m n) u else .next u) = .next v ∧
          wr = if bit w 34 = true then exec (.resume m n) v else .next v)) ∧
      ∀ k : Nat, ∀ r ∈ [Reg.DBG_BCTL n k, .DBG_WCTL n k], at' r → (dbgEntryOk m n = false → wr = .next s) ∧
        (dbgEntryOk m n = true → keeps r F.DBG_BCTL_ACT (fld w 34 33 ≠ 3))) ∧
    (at' .QM_THR → keeps .QM_THR F.QM_THR_REC_HIGH (1 ≤ fld w 12 8 ∧ fld w 12 8 ≤ 16)) ∧
    (∀ k : Nat, at' (.EXPK_CFG k) → keeps (.EXPK_CFG k) F.EXPK_CFG_MAXFR (1024 ≤ fld w 27 14 ∧ fld w 27 14 ≤ 9216)) ∧
    (at' .HLTH_CLK →
      let ok := fld w 10 0 % 50 = 0 ∧ 800 ≤ fld w 10 0 ∧ fld w 10 0 ≤ s.getF .HLTH_CLK F.HLTH_CLK_CEIL
      (¬ ok → wr = .next s) ∧ (ok → ∃ t, wr = .next t ∧ s.onlyRegs t (· = .HLTH_CLK) ∧ t.getF .HLTH_CLK F.HLTH_CLK_NOM = fld w 10 0 ∧
        t.getF .HLTH_CLK F.HLTH_CLK_CEIL = s.getF .HLTH_CLK F.HLTH_CLK_CEIL)) ∧
    (let r := Reg.HLTH_SWDT
     let old := s.getF r F.HLTH_SWDT_COUNT
     let frozen := (s.engine 192).halted = true ∧ s.dbg.level = 2 ∧ s.getB .DBG_CTL F.DBG_CTL_WDT_DBG_FREEZE = true
     let counts := s.getB r F.HLTH_SWDT_EN = true ∧ ¬ frozen ∧ old ≠ 0
     let looked := fun (t : State) => s.onlyRegs { t with fresh := s.fresh } (· = r) ∧ s.fresh ≤ t.fresh ∧
       (counts → 0 < t.getF r F.HLTH_SWDT_COUNT ∧ t.getF r F.HLTH_SWDT_COUNT ≤ old) ∧ (¬ counts → t.getF r F.HLTH_SWDT_COUNT = old ∧ t.fresh = s.fresh)
     (at' r → ∃ t, wr = .next t ∧ t.getB r F.HLTH_SWDT_EN = bit w 35 ∧ t.getF r F.HLTH_SWDT_TIMEOUT = fld w 15 0 ∧
       let loads := bit w 34 = true ∨ (bit w 35 = true ∧ s.getB r F.HLTH_SWDT_EN = false)
       (loads → s.onlyRegs { t with fresh := s.fresh } (· = r) ∧ t.getF r F.HLTH_SWDT_COUNT = fld w 15 0) ∧ (¬ loads → looked t)) ∧
     (at' .DBG_CTL → (m ≠ .debug → wr = .next s) ∧
       (m = .debug → ∃ u t, looked u ∧ (∀ i, i < 16 ∨ 31 < i → bit (u.reg r) i = bit (s.reg r) i) ∧ wr = .next t ∧ u.WrittenAsTyped t .DBG_CTL w))) ∧
    (at' .BEAT_CTL → ∃ t, wr = .next t ∧ s.onlyRegs { t with beat := s.beat } (fun r => r = .BEAT_CTL ∨ r = .BEAT_STS) ∧
      let locked := s.getB .BEAT_CTL F.BEAT_CTL_LOCKED = true
      let was := s.getB .BEAT_CTL F.BEAT_CTL_SRC
      let src := t.getB .BEAT_CTL F.BEAT_CTL_SRC
      let out := t.getB .BEAT_CTL F.BEAT_CTL_OUT_EN
      (∀ i, i < 36 → bit (t.reg .BEAT_CTL) i = if i = 1 ∨ i = 2 ∨ (¬ locked ∧ (i = 0 ∨ (8 ≤ i ∧ i ≤ 11))) then bit w i else bit (s.reg .BEAT_CTL) i) ∧
      (∀ i, bit (t.reg .BEAT_STS) i = if src ≠ was ∧ i = F.BEAT_STS_HOLDOVER.2 then src else bit (s.reg .BEAT_STS) i) ∧
      t.beat = { (if src = was then s.beat else { s.beat with lockCnt := 0, aligned := false }) with
        outPulse := s.beat.outPulse && out, relock := if bit w 3 = true ∧ src = true then true else if src = was then s.beat.relock else false } ∧
      (out = false → t.balls.beatOut = false))
end

