-- ==== Sys2Proof/Laws/Bits.lean ====
section
/-! SUPPORT. The laws of bit fields: what a field, a bit and another field read as after a field is written. -/

namespace Sys2Proof.Machine

theorem getLsbD_maskOf (hi lo i : Nat) : (maskOf hi lo).getLsbD i = (decide (i < 36) && decide (lo ≤ i ∧ i < hi + 1)) := by
  simp only [maskOf, BitVec.getLsbD_ofNat, Nat.testBit_shiftLeft, Nat.testBit_two_pow_sub_one]
  by_cases h1 : i < 36 <;> by_cases h2 : lo ≤ i <;> simp [h1, h2]
  omega

/-- Bit by bit: inside the field the new value, outside it the old word. -/
theorem getLsbD_setFld (w : Word) (hi lo v i : Nat) :
    (setFld w hi lo v).getLsbD i = (decide (i < 36) && if lo ≤ i ∧ i < hi + 1 then v.testBit (i - lo) else w.getLsbD i) := by
  simp only [setFld, BitVec.getLsbD_or, BitVec.getLsbD_and, BitVec.getLsbD_not, getLsbD_maskOf, BitVec.getLsbD_ofNat,
    Nat.testBit_shiftLeft, Nat.testBit_mod_two_pow]
  by_cases h1 : i < 36
  · by_cases h2 : lo ≤ i
    · by_cases h3 : i < hi + 1
      · have h4 : i - lo < hi + 1 - lo := by omega
        simp only [h1, h2, h3, h4, decide_true, Bool.true_and, and_self, Bool.not_true, Bool.and_false, Bool.false_or, if_true]
      · have h4 : ¬ i - lo < hi + 1 - lo := by omega
        simp only [h1, h2, h3, h4, decide_true, decide_false, Bool.true_and, and_false, Bool.not_false, Bool.and_true, Bool.or_false,
          if_false, Bool.false_and, Bool.and_false]
    · simp only [h1, h2, decide_true, decide_false, Bool.true_and, false_and, Bool.not_false, Bool.and_true, Bool.or_false, if_false, Bool.false_and, Bool.and_false]
  · simp only [h1, decide_false, Bool.false_and, Bool.and_false, Bool.or_false]

theorem testBit_fld (w : Word) (hi lo i : Nat) : (fld w hi lo).testBit i = (decide (i < hi + 1 - lo) && w.getLsbD (lo + i)) := by
  simp [fld, Nat.testBit_mod_two_pow, Nat.testBit_shiftRight, BitVec.getLsbD]

/-- A field reads as the value written, modulo its width. -/
theorem fld_setFld_self {w : Word} {hi lo v : Nat} (h : hi < 36) : fld (setFld w hi lo v) hi lo = v % 2 ^ (hi + 1 - lo) := by
  apply Nat.eq_of_testBit_eq
  intro i
  rw [testBit_fld, getLsbD_setFld, Nat.testBit_mod_two_pow]
  by_cases h1 : i < hi + 1 - lo
  · have a : lo + i < 36 := by omega
    have b : lo ≤ lo + i ∧ lo + i < hi + 1 := by omega
    simp [h1, a, b]
  · simp [h1]

/-- A field outside the bits written is unchanged. -/
theorem fld_setFld_ne {w : Word} {hi lo v hi' lo' : Nat} (h : hi' < lo ∨ hi < lo') :
    fld (setFld w hi lo v) hi' lo' = fld w hi' lo' := by
  apply Nat.eq_of_testBit_eq
  intro i
  rw [testBit_fld, testBit_fld, getLsbD_setFld]
  by_cases h1 : i < hi' + 1 - lo'
  · have b : ¬ (lo ≤ lo' + i ∧ lo' + i < hi + 1) := by omega
    by_cases h2 : lo' + i < 36
    · rw [if_neg b, decide_eq_true h2, Bool.true_and]
    · have : w.getLsbD (lo' + i) = false := BitVec.getLsbD_of_ge w _ (by omega)
      simp [h2, this]
  · simp [h1]

theorem bit_setFld {w : Word} {hi lo v i : Nat} (hi36 : i < 36) :
    bit (setFld w hi lo v) i = if lo ≤ i ∧ i ≤ hi then v.testBit (i - lo) else bit w i := by
  have h : (lo ≤ i ∧ i < hi + 1) ↔ (lo ≤ i ∧ i ≤ hi) := by omega
  simp only [bit, getLsbD_setFld, h, hi36, decide_true, Bool.true_and]

theorem bit_setBit {w : Word} {i j : Nat} {b : Bool} (h : j < 36) : bit (setBit w i b) j = if j = i then b else bit w j := by
  rw [setBit, bit_setFld h]
  by_cases e : j = i
  · subst e
    cases b <;> simp
  · have : ¬ (i ≤ j ∧ j ≤ i) := by omega
    simp [e, this]

theorem bit_setBit_self {w : Word} {i : Nat} {b : Bool} (h : i < 36) : bit (setBit w i b) i = b := by
  simp [bit_setBit h]

/-- A one-bit field read as a number. -/
theorem fld_one (w : Word) (i : Nat) : fld w i i = if bit w i then 1 else 0 := by
  have : i + 1 - i = 1 := by omega
  simp only [fld, this, bit, BitVec.getLsbD, Nat.testBit, Nat.pow_one]
  have h := Nat.mod_two_eq_zero_or_one (w.toNat >>> i)
  rcases h with h | h <;> simp [h]

theorem fld_lt (w : Word) (hi lo : Nat) : fld w hi lo < 2 ^ (hi + 1 - lo) := Nat.mod_lt _ (Nat.two_pow_pos _)

@[simp] theorem fld_zero (hi lo : Nat) : fld 0 hi lo = 0 := by simp [fld]
@[simp] theorem bit_zero (i : Nat) : bit 0 i = false := by simp [bit]

end Sys2Proof.Machine
end

