-- ==== Sys2Proof/Laws/Reg.lean ====
section
/-! SUPPORT. Every register has its own key, and an unlisted key reads as its register's reset word. -/

namespace Sys2Proof.Machine

theorem pairNum_eq_pair (p q : Nat) : pairNum p q = Nat.pair p q := rfl

theorem pairNum_inj {p q p' q' : Nat} (h : pairNum p q = pairNum p' q') : p = p' ∧ q = q' := by
  rw [pairNum_eq_pair, pairNum_eq_pair] at h
  exact Nat.pair_eq_pair.mp h

/-- The register with a given place and given instance numbers, from a register of that name. -/
def Reg.withPar (n : Nat × Nat × Nat) : Reg → Reg
  | .HOST_DEVID => .HOST_DEVID
  | .HOST_CAPS => .HOST_CAPS
  | .BEAT_CTL => .BEAT_CTL
  | .BEAT_PERIOD => .BEAT_PERIOD
  | .BEAT_STS => .BEAT_STS
  | .BEAT_NUM => .BEAT_NUM
  | .BEAT_NUM_LOAD => .BEAT_NUM_LOAD
  | .BEAT_EDGE_ERR => .BEAT_EDGE_ERR
  | .BEAT_FMIN_SCHED => .BEAT_FMIN_SCHED
  | .SEC_FRAME _ => .SEC_FRAME n.1
  | .SEC_BUDGET _ => .SEC_BUDGET n.1
  | .SEC_ENTRY _ => .SEC_ENTRY n.1
  | .SEC_STALL_LIMIT _ => .SEC_STALL_LIMIT n.1
  | .SEC_OVERRUN _ => .SEC_OVERRUN n.1
  | .SEC_STALL _ => .SEC_STALL n.1
  | .SEC_SLACK _ => .SEC_SLACK n.1
  | .QM_THR => .QM_THR
  | .QM_EVT => .QM_EVT
  | .QM_STS => .QM_STS
  | .QM_DROPS => .QM_DROPS
  | .QM_PUSH_D _ => .QM_PUSH_D n.1
  | .QM_PUSH => .QM_PUSH
  | .QM_OCC => .QM_OCC
  | .QM_HOFF => .QM_HOFF
  | .QM_HOFF_BEAT => .QM_HOFF_BEAT
  | .GLV_CTL => .GLV_CTL
  | .GLV_STS => .GLV_STS
  | .GLV_EVT => .GLV_EVT
  | .GLV_TRIPS => .GLV_TRIPS
  | .GLV_TSEL => .GLV_TSEL
  | .GLV_TW _ => .GLV_TW n.1
  | .GLV_LAST => .GLV_LAST
  | .GLV_STATE => .GLV_STATE
  | .GLV_CMD => .GLV_CMD
  | .SEC_MODE _ => .SEC_MODE n.1
  | .SEC_CFG _ => .SEC_CFG n.1
  | .SEC_DBELL _ => .SEC_DBELL n.1
  | .SEC_DCINV _ => .SEC_DCINV n.1
  | .SEC_ECC _ => .SEC_ECC n.1
  | .SEC_ECC_ADDR _ => .SEC_ECC_ADDR n.1
  | .PRGN_BASE _ _ => .PRGN_BASE n.1 n.2.1
  | .PRGN_ATTR _ _ => .PRGN_ATTR n.1 n.2.1
  | .SEC_SEM _ _ _ => .SEC_SEM n.1 n.2.1 n.2.2
  | .SEC_DMA_POST _ _ _ => .SEC_DMA_POST n.1 n.2.1 n.2.2
  | .SEC_DMA_STS _ _ _ => .SEC_DMA_STS n.1 n.2.1 n.2.2
  | .SEC_USABLE _ => .SEC_USABLE n.1
  | .SEC_PLACE _ => .SEC_PLACE n.1
  | .SEC_POST _ => .SEC_POST n.1
  | .SEC_XQ _ => .SEC_XQ n.1
  | .SEC_XQ_MAX _ => .SEC_XQ_MAX n.1
  | .LN_FRM _ => .LN_FRM n.1
  | .LN_RPL _ => .LN_RPL n.1
  | .LN_PSTS _ => .LN_PSTS n.1
  | .LN_CTL _ => .LN_CTL n.1
  | .LN_STS _ => .LN_STS n.1
  | .LN_FAULT _ => .LN_FAULT n.1
  | .LN_TXEQ _ => .LN_TXEQ n.1
  | .LN_EQ_STS _ => .LN_EQ_STS n.1
  | .LN_EYE _ => .LN_EYE n.1
  | .LN_EYE_THR _ => .LN_EYE_THR n.1
  | .LN_TEST _ => .LN_TEST n.1
  | .LN_PRBS_ERR _ => .LN_PRBS_ERR n.1
  | .LN_ALIGN _ => .LN_ALIGN n.1
  | .LN_HUBID _ _ => .LN_HUBID n.1 n.2.1
  | .LN_SCALE _ _ => .LN_SCALE n.1 n.2.1
  | .LN_MSG_TX _ => .LN_MSG_TX n.1
  | .LN_MSG_TXC _ => .LN_MSG_TXC n.1
  | .LN_MSG_RX _ => .LN_MSG_RX n.1
  | .LN_MSG_RXS _ => .LN_MSG_RXS n.1
  | .EXP_CTL => .EXP_CTL
  | .EXP_MAP => .EXP_MAP
  | .EXP_SRCID => .EXP_SRCID
  | .EXPK_CFG _ => .EXPK_CFG n.1
  | .EXPK_STS _ => .EXPK_STS n.1
  | .EXPK_TXFR _ => .EXPK_TXFR n.1
  | .EXPK_TXREC _ => .EXPK_TXREC n.1
  | .EXPK_DROP _ => .EXPK_DROP n.1
  | .EXPK_RX _ => .EXPK_RX n.1
  | .EXP_TPL _ _ => .EXP_TPL n.1 n.2.1
  | .CKU_CTL _ => .CKU_CTL n.1
  | .CKU_ADDR _ => .CKU_ADDR n.1
  | .CKU_LEN _ => .CKU_LEN n.1
  | .CKU_EXP _ => .CKU_EXP n.1
  | .CKU_RES _ => .CKU_RES n.1
  | .CKU_STS _ => .CKU_STS n.1
  | .MARCH_CTL => .MARCH_CTL
  | .MARCH_STS => .MARCH_STS
  | .MARCH_FAIL => .MARCH_FAIL
  | .HOST_STATE => .HOST_STATE
  | .HOST_STATE_ERR => .HOST_STATE_ERR
  | .HOST_I3C => .HOST_I3C
  | .HOST_MBX_STS => .HOST_MBX_STS
  | .HOST_MBX_DATA => .HOST_MBX_DATA
  | .HOST_MBX_REPLY => .HOST_MBX_REPLY
  | .HOST_MBX_RCTL => .HOST_MBX_RCTL
  | .HELM_STS => .HELM_STS
  | .HELM_VSTS => .HELM_VSTS
  | .HELM_ARB => .HELM_ARB
  | .HELM_OTPCTL => .HELM_OTPCTL
  | .HELM_OTPDATA => .HELM_OTPDATA
  | .HELM_OTP _ => .HELM_OTP n.1
  | .DBG_CTL => .DBG_CTL
  | .DBG_LEVEL => .DBG_LEVEL
  | .DBG_GONG _ => .DBG_GONG n.1
  | .DBG_ECTL _ => .DBG_ECTL n.1
  | .DBG_ESTS _ => .DBG_ESTS n.1
  | .DBG_BCTL _ _ => .DBG_BCTL n.1 n.2.1
  | .DBG_WCTL _ _ => .DBG_WCTL n.1 n.2.1
  | .HLTH_CTL => .HLTH_CTL
  | .HLTH_STS => .HLTH_STS
  | .HLTH_EVT => .HLTH_EVT
  | .HLTH_AVS => .HLTH_AVS
  | .HLTH_MARGIN => .HLTH_MARGIN
  | .HLTH_AGE => .HLTH_AGE
  | .HLTH_HOURS => .HLTH_HOURS
  | .HLTH_LIFE => .HLTH_LIFE
  | .HLTH_CLK => .HLTH_CLK
  | .HLTH_THERM => .HLTH_THERM
  | .HLTH_SWDT => .HLTH_SWDT
  | .HLTH_ECC => .HLTH_ECC
  | .HLTH_ECC_ADDR => .HLTH_ECC_ADDR
  | .SEC_STATE _ => .SEC_STATE n.1
  | .SEC_FENCE _ => .SEC_FENCE n.1
  | .SEC_PWR _ => .SEC_PWR n.1

theorem Reg.rep_idx (r : Reg) : (Reg.rep r.idx).map (Reg.withPar r.par) = some r := by cases r <;> rfl

theorem Reg.idx_lt (r : Reg) : r.idx < 256 := by cases r <;> simp only [Reg.idx] <;> omega

/-- No two registers share a key. -/
theorem Reg.key_inj {r r' : Reg} (h : r.key = r'.key) : r = r' := by
  have h1 := r.idx_lt
  have h2 := r'.idx_lt
  simp only [Reg.key] at h
  have hi : r.idx = r'.idx := by omega
  have hp : pairNum r.par.1 (pairNum r.par.2.1 r.par.2.2) = pairNum r'.par.1 (pairNum r'.par.2.1 r'.par.2.2) := by omega
  obtain ⟨e1, e2⟩ := pairNum_inj hp
  obtain ⟨e3, e4⟩ := pairNum_inj e2
  have hpar : r.par = r'.par := Prod.ext e1 (Prod.ext e3 e4)
  have a := r.rep_idx
  have b := r'.rep_idx
  rw [hi, hpar, b] at a
  exact (Option.some.inj a).symm

theorem Reg.key_ne {r r' : Reg} (h : r ≠ r') : r.key ≠ r'.key := fun e => h (Reg.key_inj e)

/-- The reset word of every name but the two of the memory regions, whatever its instance numbers. -/
theorem Reg.reset_rep (r : Reg) (h1 : r ≠ .PRGN_BASE 6 0) (h2 : r ≠ .PRGN_ATTR 6 0) : (Reg.rep r.idx).map Reg.reset = some r.reset := by
  cases r
  case PRGN_BASE o k =>
    have : ¬ (o = 6 ∧ k = 0) := fun e => h1 (by rw [e.1, e.2])
    simp [Reg.idx, Reg.rep, Reg.reset, this]
  case PRGN_ATTR o k =>
    have : ¬ (o = 6 ∧ k = 0) := fun e => h2 (by rw [e.1, e.2])
    simp [Reg.idx, Reg.rep, Reg.reset, this]
  all_goals rfl

theorem Reg.key_mod (r : Reg) : r.key % 256 = r.idx := by
  have := r.idx_lt
  simp only [Reg.key]
  omega

/-- An unlisted register reads as its reset word. -/
@[simp] theorem Reg.dflt_key (r : Reg) : Reg.dflt r.key = r.reset := by
  by_cases h1 : r = .PRGN_BASE 6 0
  · subst h1; rfl
  · by_cases h2 : r = .PRGN_ATTR 6 0
    · subst h2; rfl
    · have k1 := Reg.key_ne h1
      have k2 := Reg.key_ne h2
      have h := r.reset_rep h1 h2
      rw [Reg.dflt, if_neg k1, if_neg k2, Reg.key_mod]
      cases hr : Reg.rep r.idx with
      | none => rw [hr] at h; simp at h
      | some r' => rw [hr] at h; simpa using h

end Sys2Proof.Machine
end

