-- ==== Sys2Proof/Laws/SMap.lean ====
section
/-! SUPPORT. The laws of sparse tables: reading after writing, and the canonical form. -/

namespace Sys2Proof.Machine

variable {α : Type}

@[simp] theorem SMap.get_nil (d : Nat → α) (k : Nat) : SMap.get d [] k = d k := rfl

/-- Reading after dropping: the default where the key was dropped, else what it read as. -/
theorem SMap.get_drop {d : Nat → α} {p : Nat → Bool} {k : Nat} : ∀ {m : SMap α},
    SMap.get d (SMap.drop p m) k = if p k then d k else SMap.get d m k
  | [] => by simp [SMap.drop]
  | (k', v') :: m => by
    have ih := SMap.get_drop (d := d) (p := p) (k := k) (m := m)
    have hc : SMap.drop p ((k', v') :: m) = if p k' then SMap.drop p m else (k', v') :: SMap.drop p m := by
      simp only [SMap.drop, List.filter_cons]
      cases p k' <;> simp
    rw [hc]
    by_cases hk : k = k'
    · subst hk
      cases hp : p k <;> simp [SMap.get, ih, hp]
    · cases hp : p k' <;> simp [SMap.get, hk, ih]

theorem SMap.get_insert_self {d : Nat → α} {k : Nat} {v : α} : ∀ {m : SMap α}, (∀ e ∈ m, e.1 ≠ k) →
    SMap.get d (SMap.insert k v m) k = v
  | [], _ => by simp [SMap.insert, SMap.get]
  | (k', v') :: m, h => by
    have h1 : k' ≠ k := h (k', v') (by simp)
    have h2 : ¬ k = k' := fun e => h1 e.symm
    simp only [SMap.insert]
    split
    · simp [SMap.get]
    · simp only [SMap.get, h2, if_false]
      exact SMap.get_insert_self (fun e he => h e (by simp [he]))

theorem SMap.get_insert_ne {d : Nat → α} {k j : Nat} {v : α} (hj : j ≠ k) : ∀ {m : SMap α},
    SMap.get d (SMap.insert k v m) j = SMap.get d m j
  | [] => by simp [SMap.insert, SMap.get, hj]
  | (k', v') :: m => by
    simp only [SMap.insert]
    split
    · simp [SMap.get, hj]
    · simp only [SMap.get]
      rw [SMap.get_insert_ne hj]

/-- Reading the key just written gives the value written. -/
@[simp] theorem SMap.get_set_self [DecidableEq α] {d : Nat → α} {m : SMap α} {k : Nat} {v : α} :
    SMap.get d (SMap.set d m k v) k = v := by
  simp only [SMap.set]
  split
  · rename_i h
    rw [SMap.get_drop]
    simp [h]
  · exact SMap.get_insert_self (by
      intro e he
      simp only [SMap.drop, List.mem_filter] at he
      simpa using he.2)

/-- Reading another key gives what it gave before. -/
theorem SMap.get_set_ne [DecidableEq α] {d : Nat → α} {m : SMap α} {k j : Nat} {v : α} (hj : j ≠ k) :
    SMap.get d (SMap.set d m k v) j = SMap.get d m j := by
  have hb : (j == k) = false := by simpa using hj
  simp only [SMap.set]
  split
  · rw [SMap.get_drop]
    simp [hb]
  · rw [SMap.get_insert_ne hj, SMap.get_drop]
    simp [hb]

/-- Reading after a write, in one line. -/
theorem SMap.get_set [DecidableEq α] {d : Nat → α} {m : SMap α} {k j : Nat} {v : α} :
    SMap.get d (SMap.set d m k v) j = if j = k then v else SMap.get d m j := by
  split
  · rename_i h
    subst h
    exact SMap.get_set_self
  · rename_i h
    exact SMap.get_set_ne h

/-- An unlisted key reads as its default. -/
theorem SMap.get_of_not_mem {d : Nat → α} {k : Nat} : ∀ {m : SMap α}, k ∉ m.map Prod.fst → SMap.get d m k = d k
  | [], _ => rfl
  | (k', v') :: m, h => by
    simp only [List.map_cons, List.mem_cons, not_or] at h
    simp only [SMap.get, h.1, if_false]
    exact SMap.get_of_not_mem h.2

/-- Reading after changing every entry, where the change keeps defaults. -/
theorem SMap.get_update [DecidableEq α] {d : Nat → α} {f : Nat → α → α} {m : SMap α} {k : Nat} (hf : f k (d k) = d k) :
    SMap.get d (SMap.update d f m) k = f k (SMap.get d m k) := by
  have gen : ∀ (l : List Nat) (acc : SMap α),
      SMap.get d (l.foldl (fun acc k => SMap.set d acc k (f k (SMap.get d m k))) acc) k
        = if k ∈ l then f k (SMap.get d m k) else SMap.get d acc k := by
    intro l
    induction l with
    | nil => intro acc; simp
    | cons j l ih =>
      intro acc
      rw [List.foldl_cons, ih]
      by_cases hl : k ∈ l
      · simp [hl]
      · by_cases hk : k = j
        · subst hk
          simp [hl]
        · simp [hl, hk, SMap.get_set]
  rw [SMap.update, gen]
  split
  · rfl
  · rename_i h
    rw [SMap.get_of_not_mem h, hf]

/-! ## The canonical form -/

theorem SMap.wfFrom_mono [DecidableEq α] {d : Nat → α} {m : SMap α} {lo lo' : Nat} (h : SMap.wfFrom d lo m = true) (hl : lo' ≤ lo) :
    SMap.wfFrom d lo' m = true := by
  cases m with
  | nil => rfl
  | cons e m =>
    obtain ⟨k', v'⟩ := e
    simp only [SMap.wfFrom, Bool.and_eq_true, decide_eq_true_eq] at h ⊢
    exact ⟨⟨by omega, h.1.2⟩, h.2⟩

theorem SMap.wfFrom_filter [DecidableEq α] {d : Nat → α} (p : Nat × α → Bool) : ∀ {m : SMap α} {lo : Nat},
    SMap.wfFrom d lo m = true → SMap.wfFrom d lo (m.filter p) = true
  | [], _, _ => rfl
  | (k', v') :: m, lo, h => by
    simp only [SMap.wfFrom, Bool.and_eq_true, decide_eq_true_eq] at h
    obtain ⟨⟨h1, h2⟩, h3⟩ := h
    have ih := SMap.wfFrom_filter p h3
    simp only [List.filter_cons]
    split
    · simp [SMap.wfFrom, h1, h2, ih]
    · exact SMap.wfFrom_mono ih (by omega)

/-- Dropping entries keeps the canonical form. -/
theorem SMap.wf_drop [DecidableEq α] {d : Nat → α} {m : SMap α} (p : Nat → Bool) (h : SMap.wf d m = true) :
    SMap.wf d (SMap.drop p m) = true :=
  SMap.wfFrom_filter _ h

theorem SMap.wfFrom_insert [DecidableEq α] {d : Nat → α} {k : Nat} {v : α} (hv : v ≠ d k) : ∀ {m : SMap α} {lo : Nat},
    SMap.wfFrom d lo m = true → lo ≤ k → (∀ e ∈ m, e.1 ≠ k) → SMap.wfFrom d lo (SMap.insert k v m) = true
  | [], lo, _, hk, _ => by simp [SMap.insert, SMap.wfFrom, hk, hv]
  | (k', v') :: m, lo, h, hk, hm => by
    simp only [SMap.wfFrom, Bool.and_eq_true, decide_eq_true_eq] at h
    obtain ⟨⟨h1, h2⟩, h3⟩ := h
    have hne : k' ≠ k := hm (k', v') (by simp)
    simp only [SMap.insert]
    split
    · simp [SMap.wfFrom, *]
    · have := SMap.wfFrom_insert hv h3 (show k' + 1 ≤ k by omega) (fun e he => hm e (by simp [he]))
      simp [SMap.wfFrom, h1, h2, this]

/-- Writing keeps the canonical form. -/
theorem SMap.wf_set [DecidableEq α] {d : Nat → α} {m : SMap α} {k : Nat} {v : α} (h : SMap.wf d m = true) :
    SMap.wf d (SMap.set d m k v) = true := by
  simp only [SMap.set]
  split
  · exact SMap.wf_drop _ h
  · rename_i hv
    exact SMap.wfFrom_insert hv (SMap.wf_drop _ h) (Nat.zero_le k) (by
      intro e he
      simp only [SMap.drop, List.mem_filter] at he
      simpa using he.2)

/-- Changing every entry keeps the canonical form. -/
theorem SMap.wf_update [DecidableEq α] {d : Nat → α} {m : SMap α} (f : Nat → α → α) (h : SMap.wf d m = true) :
    SMap.wf d (SMap.update d f m) = true := by
  have gen : ∀ (l : List Nat) (acc : SMap α), SMap.wf d acc = true →
      SMap.wf d (l.foldl (fun acc k => SMap.set d acc k (f k (SMap.get d m k))) acc) = true := by
    intro l
    induction l with
    | nil => intro acc ha; exact ha
    | cons j l ih => intro acc ha; exact ih _ (SMap.wf_set ha)
  exact gen _ _ h

/-- The canonical form depends on the default of the listed keys alone. -/
theorem SMap.wfFrom_congr [DecidableEq α] {d d' : Nat → α} : ∀ {m : SMap α} {lo : Nat}, (∀ e ∈ m, d e.1 = d' e.1) →
    SMap.wfFrom d lo m = true → SMap.wfFrom d' lo m = true
  | [], _, _, _ => rfl
  | (k', v') :: m, lo, hd, h => by
    simp only [SMap.wfFrom, Bool.and_eq_true, decide_eq_true_eq] at h ⊢
    obtain ⟨⟨h1, h2⟩, h3⟩ := h
    have := hd (k', v') (by simp)
    exact ⟨⟨h1, by rw [← this]; exact h2⟩, SMap.wfFrom_congr (fun e he => hd e (by simp [he])) h3⟩

theorem SMap.drop_insert {k : Nat} {v : α} : ∀ {m : SMap α},
    SMap.drop (fun j => j == k) (SMap.insert k v m) = SMap.drop (fun j => j == k) m
  | [] => by simp [SMap.insert, SMap.drop]
  | (k', v') :: m => by
    have ih := SMap.drop_insert (k := k) (v := v) (m := m)
    simp only [SMap.drop] at ih ⊢
    simp only [SMap.insert]
    split
    · simp
    · simp only [List.filter_cons, ih]

/-- The second of two writes to one key is what counts. -/
@[simp] theorem SMap.set_set [DecidableEq α] {d : Nat → α} {m : SMap α} {k : Nat} {v w : α} :
    SMap.set d (SMap.set d m k v) k w = SMap.set d m k w := by
  have h : SMap.drop (fun j => j == k) (SMap.set d m k v) = SMap.drop (fun j => j == k) m := by
    simp only [SMap.set]
    split
    · simp [SMap.drop]
    · rw [SMap.drop_insert]
      simp [SMap.drop]
  rw [SMap.set, h, SMap.set]

end Sys2Proof.Machine
end

