-- ==== Sys2Proof/Laws/State.lean ====
section
/-! SUPPORT. One lemma for each field of State and each update of one numbered part, and what each part reads as after each
update. -/

namespace Sys2Proof.Machine

/-! ### setReg -/

@[simp] theorem State.setReg_beat (s : State) (r : Reg) (w : Word) : (s.setReg r w).beat = s.beat := rfl
@[simp] theorem State.setReg_mem (s : State) (r : Reg) (w : Word) : (s.setReg r w).mem = s.mem := rfl
@[simp] theorem State.setReg_undef (s : State) (r : Reg) (w : Word) : (s.setReg r w).undef = s.undef := rfl
@[simp] theorem State.setReg_eccSoft (s : State) (r : Reg) (w : Word) : (s.setReg r w).eccSoft = s.eccSoft := rfl
@[simp] theorem State.setReg_eccBad (s : State) (r : Reg) (w : Word) : (s.setReg r w).eccBad = s.eccBad := rfl
@[simp] theorem State.setReg_eng (s : State) (r : Reg) (w : Word) : (s.setReg r w).eng = s.eng := rfl
@[simp] theorem State.setReg_sec (s : State) (r : Reg) (w : Word) : (s.setReg r w).sec = s.sec := rfl
@[simp] theorem State.setReg_dma (s : State) (r : Reg) (w : Word) : (s.setReg r w).dma = s.dma := rfl
@[simp] theorem State.setReg_chan (s : State) (r : Reg) (w : Word) : (s.setReg r w).chan = s.chan := rfl
@[simp] theorem State.setReg_queue (s : State) (r : Reg) (w : Word) : (s.setReg r w).queue = s.queue := rfl
@[simp] theorem State.setReg_qmEvts (s : State) (r : Reg) (w : Word) : (s.setReg r w).qmEvts = s.qmEvts := rfl
@[simp] theorem State.setReg_qmBusy (s : State) (r : Reg) (w : Word) : (s.setReg r w).qmBusy = s.qmBusy := rfl
@[simp] theorem State.setReg_glvEvts (s : State) (r : Reg) (w : Word) : (s.setReg r w).glvEvts = s.glvEvts := rfl
@[simp] theorem State.setReg_glvCmd (s : State) (r : Reg) (w : Word) : (s.setReg r w).glvCmd = s.glvCmd := rfl
@[simp] theorem State.setReg_lane (s : State) (r : Reg) (w : Word) : (s.setReg r w).lane = s.lane := rfl
@[simp] theorem State.setReg_svc (s : State) (r : Reg) (w : Word) : (s.setReg r w).svc = s.svc := rfl
@[simp] theorem State.setReg_cku (s : State) (r : Reg) (w : Word) : (s.setReg r w).cku = s.cku := rfl
@[simp] theorem State.setReg_march (s : State) (r : Reg) (w : Word) : (s.setReg r w).march = s.march := rfl
@[simp] theorem State.setReg_seq (s : State) (r : Reg) (w : Word) : (s.setReg r w).seq = s.seq := rfl
@[simp] theorem State.setReg_helm (s : State) (r : Reg) (w : Word) : (s.setReg r w).helm = s.helm := rfl
@[simp] theorem State.setReg_dbg (s : State) (r : Reg) (w : Word) : (s.setReg r w).dbg = s.dbg := rfl
@[simp] theorem State.setReg_health (s : State) (r : Reg) (w : Word) : (s.setReg r w).health = s.health := rfl
@[simp] theorem State.setReg_pins (s : State) (r : Reg) (w : Word) : (s.setReg r w).pins = s.pins := rfl
@[simp] theorem State.setReg_fresh (s : State) (r : Reg) (w : Word) : (s.setReg r w).fresh = s.fresh := rfl
@[simp] theorem State.setReg_pending (s : State) (r : Reg) (w : Word) : (s.setReg r w).pending = s.pending := rfl

@[simp] theorem State.engine_setReg (s : State) (r : Reg) (w : Word) (m : Nat) : (s.setReg r w).engine m = s.engine m := rfl
@[simp] theorem State.sect_setReg (s : State) (r : Reg) (w : Word) (m : Nat) : (s.setReg r w).sect m = s.sect m := rfl
@[simp] theorem State.dmaCtx_setReg (s : State) (r : Reg) (w : Word) (m : Nat) : (s.setReg r w).dmaCtx m = s.dmaCtx m := rfl
@[simp] theorem State.ch_setReg (s : State) (r : Reg) (w : Word) (m : Nat) : (s.setReg r w).ch m = s.ch m := rfl
@[simp] theorem State.q_setReg (s : State) (r : Reg) (w : Word) (m : Nat) : (s.setReg r w).q m = s.q m := rfl
@[simp] theorem State.ln_setReg (s : State) (r : Reg) (w : Word) (m : Nat) : (s.setReg r w).ln m = s.ln m := rfl
@[simp] theorem State.sv_setReg (s : State) (r : Reg) (w : Word) (m : Nat) : (s.setReg r w).sv m = s.sv m := rfl
@[simp] theorem State.ckUnit_setReg (s : State) (r : Reg) (w : Word) (m : Nat) : (s.setReg r w).ckUnit m = s.ckUnit m := rfl

/-! ### setEngine -/

@[simp] theorem State.setEngine_beat (s : State) (n : Nat) (x : Engine) : (s.setEngine n x).beat = s.beat := rfl
@[simp] theorem State.setEngine_regs (s : State) (n : Nat) (x : Engine) : (s.setEngine n x).regs = s.regs := rfl
@[simp] theorem State.setEngine_mem (s : State) (n : Nat) (x : Engine) : (s.setEngine n x).mem = s.mem := rfl
@[simp] theorem State.setEngine_undef (s : State) (n : Nat) (x : Engine) : (s.setEngine n x).undef = s.undef := rfl
@[simp] theorem State.setEngine_eccSoft (s : State) (n : Nat) (x : Engine) : (s.setEngine n x).eccSoft = s.eccSoft := rfl
@[simp] theorem State.setEngine_eccBad (s : State) (n : Nat) (x : Engine) : (s.setEngine n x).eccBad = s.eccBad := rfl
@[simp] theorem State.setEngine_sec (s : State) (n : Nat) (x : Engine) : (s.setEngine n x).sec = s.sec := rfl
@[simp] theorem State.setEngine_dma (s : State) (n : Nat) (x : Engine) : (s.setEngine n x).dma = s.dma := rfl
@[simp] theorem State.setEngine_chan (s : State) (n : Nat) (x : Engine) : (s.setEngine n x).chan = s.chan := rfl
@[simp] theorem State.setEngine_queue (s : State) (n : Nat) (x : Engine) : (s.setEngine n x).queue = s.queue := rfl
@[simp] theorem State.setEngine_qmEvts (s : State) (n : Nat) (x : Engine) : (s.setEngine n x).qmEvts = s.qmEvts := rfl
@[simp] theorem State.setEngine_qmBusy (s : State) (n : Nat) (x : Engine) : (s.setEngine n x).qmBusy = s.qmBusy := rfl
@[simp] theorem State.setEngine_glvEvts (s : State) (n : Nat) (x : Engine) : (s.setEngine n x).glvEvts = s.glvEvts := rfl
@[simp] theorem State.setEngine_glvCmd (s : State) (n : Nat) (x : Engine) : (s.setEngine n x).glvCmd = s.glvCmd := rfl
@[simp] theorem State.setEngine_lane (s : State) (n : Nat) (x : Engine) : (s.setEngine n x).lane = s.lane := rfl
@[simp] theorem State.setEngine_svc (s : State) (n : Nat) (x : Engine) : (s.setEngine n x).svc = s.svc := rfl
@[simp] theorem State.setEngine_cku (s : State) (n : Nat) (x : Engine) : (s.setEngine n x).cku = s.cku := rfl
@[simp] theorem State.setEngine_march (s : State) (n : Nat) (x : Engine) : (s.setEngine n x).march = s.march := rfl
@[simp] theorem State.setEngine_seq (s : State) (n : Nat) (x : Engine) : (s.setEngine n x).seq = s.seq := rfl
@[simp] theorem State.setEngine_helm (s : State) (n : Nat) (x : Engine) : (s.setEngine n x).helm = s.helm := rfl
@[simp] theorem State.setEngine_dbg (s : State) (n : Nat) (x : Engine) : (s.setEngine n x).dbg = s.dbg := rfl
@[simp] theorem State.setEngine_health (s : State) (n : Nat) (x : Engine) : (s.setEngine n x).health = s.health := rfl
@[simp] theorem State.setEngine_pins (s : State) (n : Nat) (x : Engine) : (s.setEngine n x).pins = s.pins := rfl
@[simp] theorem State.setEngine_fresh (s : State) (n : Nat) (x : Engine) : (s.setEngine n x).fresh = s.fresh := rfl
@[simp] theorem State.setEngine_pending (s : State) (n : Nat) (x : Engine) : (s.setEngine n x).pending = s.pending := rfl

@[simp] theorem State.reg_setEngine (s : State) (n : Nat) (x : Engine) (r' : Reg) : (s.setEngine n x).reg r' = s.reg r' := rfl
@[simp] theorem State.getF_setEngine (s : State) (n : Nat) (x : Engine) (r' : Reg) (f : Nat × Nat) : (s.setEngine n x).getF r' f = s.getF r' f := rfl
@[simp] theorem State.getB_setEngine (s : State) (n : Nat) (x : Engine) (r' : Reg) (f : Nat × Nat) : (s.setEngine n x).getB r' f = s.getB r' f := rfl
@[simp] theorem State.sect_setEngine (s : State) (n : Nat) (x : Engine) (m : Nat) : (s.setEngine n x).sect m = s.sect m := rfl
@[simp] theorem State.dmaCtx_setEngine (s : State) (n : Nat) (x : Engine) (m : Nat) : (s.setEngine n x).dmaCtx m = s.dmaCtx m := rfl
@[simp] theorem State.ch_setEngine (s : State) (n : Nat) (x : Engine) (m : Nat) : (s.setEngine n x).ch m = s.ch m := rfl
@[simp] theorem State.q_setEngine (s : State) (n : Nat) (x : Engine) (m : Nat) : (s.setEngine n x).q m = s.q m := rfl
@[simp] theorem State.ln_setEngine (s : State) (n : Nat) (x : Engine) (m : Nat) : (s.setEngine n x).ln m = s.ln m := rfl
@[simp] theorem State.sv_setEngine (s : State) (n : Nat) (x : Engine) (m : Nat) : (s.setEngine n x).sv m = s.sv m := rfl
@[simp] theorem State.ckUnit_setEngine (s : State) (n : Nat) (x : Engine) (m : Nat) : (s.setEngine n x).ckUnit m = s.ckUnit m := rfl
@[simp] theorem State.devState_setEngine (s : State) (n : Nat) (x : Engine) : (s.setEngine n x).devState = s.devState := rfl
@[simp] theorem State.beatNum_setEngine (s : State) (n : Nat) (x : Engine) : (s.setEngine n x).beatNum = s.beatNum := rfl
@[simp] theorem State.sectState_setEngine (s : State) (n : Nat) (x : Engine) (m : Nat) : (s.setEngine n x).sectState m = s.sectState m := rfl
@[simp] theorem State.running_setEngine (s : State) (n : Nat) (x : Engine) (m : Nat) : (s.setEngine n x).running m = s.running m := rfl
@[simp] theorem State.gated_setEngine (s : State) (n : Nat) (x : Engine) (m : Nat) : (s.setEngine n x).gated m = s.gated m := rfl

/-! ### setSect -/

@[simp] theorem State.setSect_beat (s : State) (k : Nat) (x : Section) : (s.setSect k x).beat = s.beat := rfl
@[simp] theorem State.setSect_regs (s : State) (k : Nat) (x : Section) : (s.setSect k x).regs = s.regs := rfl
@[simp] theorem State.setSect_mem (s : State) (k : Nat) (x : Section) : (s.setSect k x).mem = s.mem := rfl
@[simp] theorem State.setSect_undef (s : State) (k : Nat) (x : Section) : (s.setSect k x).undef = s.undef := rfl
@[simp] theorem State.setSect_eccSoft (s : State) (k : Nat) (x : Section) : (s.setSect k x).eccSoft = s.eccSoft := rfl
@[simp] theorem State.setSect_eccBad (s : State) (k : Nat) (x : Section) : (s.setSect k x).eccBad = s.eccBad := rfl
@[simp] theorem State.setSect_eng (s : State) (k : Nat) (x : Section) : (s.setSect k x).eng = s.eng := rfl
@[simp] theorem State.setSect_dma (s : State) (k : Nat) (x : Section) : (s.setSect k x).dma = s.dma := rfl
@[simp] theorem State.setSect_chan (s : State) (k : Nat) (x : Section) : (s.setSect k x).chan = s.chan := rfl
@[simp] theorem State.setSect_queue (s : State) (k : Nat) (x : Section) : (s.setSect k x).queue = s.queue := rfl
@[simp] theorem State.setSect_qmEvts (s : State) (k : Nat) (x : Section) : (s.setSect k x).qmEvts = s.qmEvts := rfl
@[simp] theorem State.setSect_qmBusy (s : State) (k : Nat) (x : Section) : (s.setSect k x).qmBusy = s.qmBusy := rfl
@[simp] theorem State.setSect_glvEvts (s : State) (k : Nat) (x : Section) : (s.setSect k x).glvEvts = s.glvEvts := rfl
@[simp] theorem State.setSect_glvCmd (s : State) (k : Nat) (x : Section) : (s.setSect k x).glvCmd = s.glvCmd := rfl
@[simp] theorem State.setSect_lane (s : State) (k : Nat) (x : Section) : (s.setSect k x).lane = s.lane := rfl
@[simp] theorem State.setSect_svc (s : State) (k : Nat) (x : Section) : (s.setSect k x).svc = s.svc := rfl
@[simp] theorem State.setSect_cku (s : State) (k : Nat) (x : Section) : (s.setSect k x).cku = s.cku := rfl
@[simp] theorem State.setSect_march (s : State) (k : Nat) (x : Section) : (s.setSect k x).march = s.march := rfl
@[simp] theorem State.setSect_seq (s : State) (k : Nat) (x : Section) : (s.setSect k x).seq = s.seq := rfl
@[simp] theorem State.setSect_helm (s : State) (k : Nat) (x : Section) : (s.setSect k x).helm = s.helm := rfl
@[simp] theorem State.setSect_dbg (s : State) (k : Nat) (x : Section) : (s.setSect k x).dbg = s.dbg := rfl
@[simp] theorem State.setSect_health (s : State) (k : Nat) (x : Section) : (s.setSect k x).health = s.health := rfl
@[simp] theorem State.setSect_pins (s : State) (k : Nat) (x : Section) : (s.setSect k x).pins = s.pins := rfl
@[simp] theorem State.setSect_fresh (s : State) (k : Nat) (x : Section) : (s.setSect k x).fresh = s.fresh := rfl
@[simp] theorem State.setSect_pending (s : State) (k : Nat) (x : Section) : (s.setSect k x).pending = s.pending := rfl

@[simp] theorem State.reg_setSect (s : State) (k : Nat) (x : Section) (r' : Reg) : (s.setSect k x).reg r' = s.reg r' := rfl
@[simp] theorem State.getF_setSect (s : State) (k : Nat) (x : Section) (r' : Reg) (f : Nat × Nat) : (s.setSect k x).getF r' f = s.getF r' f := rfl
@[simp] theorem State.getB_setSect (s : State) (k : Nat) (x : Section) (r' : Reg) (f : Nat × Nat) : (s.setSect k x).getB r' f = s.getB r' f := rfl
@[simp] theorem State.engine_setSect (s : State) (k : Nat) (x : Section) (m : Nat) : (s.setSect k x).engine m = s.engine m := rfl
@[simp] theorem State.dmaCtx_setSect (s : State) (k : Nat) (x : Section) (m : Nat) : (s.setSect k x).dmaCtx m = s.dmaCtx m := rfl
@[simp] theorem State.ch_setSect (s : State) (k : Nat) (x : Section) (m : Nat) : (s.setSect k x).ch m = s.ch m := rfl
@[simp] theorem State.q_setSect (s : State) (k : Nat) (x : Section) (m : Nat) : (s.setSect k x).q m = s.q m := rfl
@[simp] theorem State.ln_setSect (s : State) (k : Nat) (x : Section) (m : Nat) : (s.setSect k x).ln m = s.ln m := rfl
@[simp] theorem State.sv_setSect (s : State) (k : Nat) (x : Section) (m : Nat) : (s.setSect k x).sv m = s.sv m := rfl
@[simp] theorem State.ckUnit_setSect (s : State) (k : Nat) (x : Section) (m : Nat) : (s.setSect k x).ckUnit m = s.ckUnit m := rfl
@[simp] theorem State.devState_setSect (s : State) (k : Nat) (x : Section) : (s.setSect k x).devState = s.devState := rfl
@[simp] theorem State.beatNum_setSect (s : State) (k : Nat) (x : Section) : (s.setSect k x).beatNum = s.beatNum := rfl
@[simp] theorem State.sectState_setSect (s : State) (k : Nat) (x : Section) (m : Nat) : (s.setSect k x).sectState m = s.sectState m := rfl
@[simp] theorem State.running_setSect (s : State) (k : Nat) (x : Section) (m : Nat) : (s.setSect k x).running m = s.running m := rfl
@[simp] theorem State.gated_setSect (s : State) (k : Nat) (x : Section) (m : Nat) : (s.setSect k x).gated m = s.gated m := rfl

/-! ### setDma -/

@[simp] theorem State.setDma_beat (s : State) (n : Nat) (x : DmaCtx) : (s.setDma n x).beat = s.beat := rfl
@[simp] theorem State.setDma_regs (s : State) (n : Nat) (x : DmaCtx) : (s.setDma n x).regs = s.regs := rfl
@[simp] theorem State.setDma_mem (s : State) (n : Nat) (x : DmaCtx) : (s.setDma n x).mem = s.mem := rfl
@[simp] theorem State.setDma_undef (s : State) (n : Nat) (x : DmaCtx) : (s.setDma n x).undef = s.undef := rfl
@[simp] theorem State.setDma_eccSoft (s : State) (n : Nat) (x : DmaCtx) : (s.setDma n x).eccSoft = s.eccSoft := rfl
@[simp] theorem State.setDma_eccBad (s : State) (n : Nat) (x : DmaCtx) : (s.setDma n x).eccBad = s.eccBad := rfl
@[simp] theorem State.setDma_eng (s : State) (n : Nat) (x : DmaCtx) : (s.setDma n x).eng = s.eng := rfl
@[simp] theorem State.setDma_sec (s : State) (n : Nat) (x : DmaCtx) : (s.setDma n x).sec = s.sec := rfl
@[simp] theorem State.setDma_chan (s : State) (n : Nat) (x : DmaCtx) : (s.setDma n x).chan = s.chan := rfl
@[simp] theorem State.setDma_queue (s : State) (n : Nat) (x : DmaCtx) : (s.setDma n x).queue = s.queue := rfl
@[simp] theorem State.setDma_qmEvts (s : State) (n : Nat) (x : DmaCtx) : (s.setDma n x).qmEvts = s.qmEvts := rfl
@[simp] theorem State.setDma_qmBusy (s : State) (n : Nat) (x : DmaCtx) : (s.setDma n x).qmBusy = s.qmBusy := rfl
@[simp] theorem State.setDma_glvEvts (s : State) (n : Nat) (x : DmaCtx) : (s.setDma n x).glvEvts = s.glvEvts := rfl
@[simp] theorem State.setDma_glvCmd (s : State) (n : Nat) (x : DmaCtx) : (s.setDma n x).glvCmd = s.glvCmd := rfl
@[simp] theorem State.setDma_lane (s : State) (n : Nat) (x : DmaCtx) : (s.setDma n x).lane = s.lane := rfl
@[simp] theorem State.setDma_svc (s : State) (n : Nat) (x : DmaCtx) : (s.setDma n x).svc = s.svc := rfl
@[simp] theorem State.setDma_cku (s : State) (n : Nat) (x : DmaCtx) : (s.setDma n x).cku = s.cku := rfl
@[simp] theorem State.setDma_march (s : State) (n : Nat) (x : DmaCtx) : (s.setDma n x).march = s.march := rfl
@[simp] theorem State.setDma_seq (s : State) (n : Nat) (x : DmaCtx) : (s.setDma n x).seq = s.seq := rfl
@[simp] theorem State.setDma_helm (s : State) (n : Nat) (x : DmaCtx) : (s.setDma n x).helm = s.helm := rfl
@[simp] theorem State.setDma_dbg (s : State) (n : Nat) (x : DmaCtx) : (s.setDma n x).dbg = s.dbg := rfl
@[simp] theorem State.setDma_health (s : State) (n : Nat) (x : DmaCtx) : (s.setDma n x).health = s.health := rfl
@[simp] theorem State.setDma_pins (s : State) (n : Nat) (x : DmaCtx) : (s.setDma n x).pins = s.pins := rfl
@[simp] theorem State.setDma_fresh (s : State) (n : Nat) (x : DmaCtx) : (s.setDma n x).fresh = s.fresh := rfl
@[simp] theorem State.setDma_pending (s : State) (n : Nat) (x : DmaCtx) : (s.setDma n x).pending = s.pending := rfl

@[simp] theorem State.reg_setDma (s : State) (n : Nat) (x : DmaCtx) (r' : Reg) : (s.setDma n x).reg r' = s.reg r' := rfl
@[simp] theorem State.getF_setDma (s : State) (n : Nat) (x : DmaCtx) (r' : Reg) (f : Nat × Nat) : (s.setDma n x).getF r' f = s.getF r' f := rfl
@[simp] theorem State.getB_setDma (s : State) (n : Nat) (x : DmaCtx) (r' : Reg) (f : Nat × Nat) : (s.setDma n x).getB r' f = s.getB r' f := rfl
@[simp] theorem State.engine_setDma (s : State) (n : Nat) (x : DmaCtx) (m : Nat) : (s.setDma n x).engine m = s.engine m := rfl
@[simp] theorem State.sect_setDma (s : State) (n : Nat) (x : DmaCtx) (m : Nat) : (s.setDma n x).sect m = s.sect m := rfl
@[simp] theorem State.ch_setDma (s : State) (n : Nat) (x : DmaCtx) (m : Nat) : (s.setDma n x).ch m = s.ch m := rfl
@[simp] theorem State.q_setDma (s : State) (n : Nat) (x : DmaCtx) (m : Nat) : (s.setDma n x).q m = s.q m := rfl
@[simp] theorem State.ln_setDma (s : State) (n : Nat) (x : DmaCtx) (m : Nat) : (s.setDma n x).ln m = s.ln m := rfl
@[simp] theorem State.sv_setDma (s : State) (n : Nat) (x : DmaCtx) (m : Nat) : (s.setDma n x).sv m = s.sv m := rfl
@[simp] theorem State.ckUnit_setDma (s : State) (n : Nat) (x : DmaCtx) (m : Nat) : (s.setDma n x).ckUnit m = s.ckUnit m := rfl
@[simp] theorem State.devState_setDma (s : State) (n : Nat) (x : DmaCtx) : (s.setDma n x).devState = s.devState := rfl
@[simp] theorem State.beatNum_setDma (s : State) (n : Nat) (x : DmaCtx) : (s.setDma n x).beatNum = s.beatNum := rfl
@[simp] theorem State.sectState_setDma (s : State) (n : Nat) (x : DmaCtx) (m : Nat) : (s.setDma n x).sectState m = s.sectState m := rfl
@[simp] theorem State.running_setDma (s : State) (n : Nat) (x : DmaCtx) (m : Nat) : (s.setDma n x).running m = s.running m := rfl
@[simp] theorem State.gated_setDma (s : State) (n : Nat) (x : DmaCtx) (m : Nat) : (s.setDma n x).gated m = s.gated m := rfl

/-! ### setCh -/

@[simp] theorem State.setCh_beat (s : State) (c : Nat) (x : Chan) : (s.setCh c x).beat = s.beat := rfl
@[simp] theorem State.setCh_regs (s : State) (c : Nat) (x : Chan) : (s.setCh c x).regs = s.regs := rfl
@[simp] theorem State.setCh_mem (s : State) (c : Nat) (x : Chan) : (s.setCh c x).mem = s.mem := rfl
@[simp] theorem State.setCh_undef (s : State) (c : Nat) (x : Chan) : (s.setCh c x).undef = s.undef := rfl
@[simp] theorem State.setCh_eccSoft (s : State) (c : Nat) (x : Chan) : (s.setCh c x).eccSoft = s.eccSoft := rfl
@[simp] theorem State.setCh_eccBad (s : State) (c : Nat) (x : Chan) : (s.setCh c x).eccBad = s.eccBad := rfl
@[simp] theorem State.setCh_eng (s : State) (c : Nat) (x : Chan) : (s.setCh c x).eng = s.eng := rfl
@[simp] theorem State.setCh_sec (s : State) (c : Nat) (x : Chan) : (s.setCh c x).sec = s.sec := rfl
@[simp] theorem State.setCh_dma (s : State) (c : Nat) (x : Chan) : (s.setCh c x).dma = s.dma := rfl
@[simp] theorem State.setCh_queue (s : State) (c : Nat) (x : Chan) : (s.setCh c x).queue = s.queue := rfl
@[simp] theorem State.setCh_qmEvts (s : State) (c : Nat) (x : Chan) : (s.setCh c x).qmEvts = s.qmEvts := rfl
@[simp] theorem State.setCh_qmBusy (s : State) (c : Nat) (x : Chan) : (s.setCh c x).qmBusy = s.qmBusy := rfl
@[simp] theorem State.setCh_glvEvts (s : State) (c : Nat) (x : Chan) : (s.setCh c x).glvEvts = s.glvEvts := rfl
@[simp] theorem State.setCh_glvCmd (s : State) (c : Nat) (x : Chan) : (s.setCh c x).glvCmd = s.glvCmd := rfl
@[simp] theorem State.setCh_lane (s : State) (c : Nat) (x : Chan) : (s.setCh c x).lane = s.lane := rfl
@[simp] theorem State.setCh_svc (s : State) (c : Nat) (x : Chan) : (s.setCh c x).svc = s.svc := rfl
@[simp] theorem State.setCh_cku (s : State) (c : Nat) (x : Chan) : (s.setCh c x).cku = s.cku := rfl
@[simp] theorem State.setCh_march (s : State) (c : Nat) (x : Chan) : (s.setCh c x).march = s.march := rfl
@[simp] theorem State.setCh_seq (s : State) (c : Nat) (x : Chan) : (s.setCh c x).seq = s.seq := rfl
@[simp] theorem State.setCh_helm (s : State) (c : Nat) (x : Chan) : (s.setCh c x).helm = s.helm := rfl
@[simp] theorem State.setCh_dbg (s : State) (c : Nat) (x : Chan) : (s.setCh c x).dbg = s.dbg := rfl
@[simp] theorem State.setCh_health (s : State) (c : Nat) (x : Chan) : (s.setCh c x).health = s.health := rfl
@[simp] theorem State.setCh_pins (s : State) (c : Nat) (x : Chan) : (s.setCh c x).pins = s.pins := rfl
@[simp] theorem State.setCh_fresh (s : State) (c : Nat) (x : Chan) : (s.setCh c x).fresh = s.fresh := rfl
@[simp] theorem State.setCh_pending (s : State) (c : Nat) (x : Chan) : (s.setCh c x).pending = s.pending := rfl

@[simp] theorem State.reg_setCh (s : State) (c : Nat) (x : Chan) (r' : Reg) : (s.setCh c x).reg r' = s.reg r' := rfl
@[simp] theorem State.getF_setCh (s : State) (c : Nat) (x : Chan) (r' : Reg) (f : Nat × Nat) : (s.setCh c x).getF r' f = s.getF r' f := rfl
@[simp] theorem State.getB_setCh (s : State) (c : Nat) (x : Chan) (r' : Reg) (f : Nat × Nat) : (s.setCh c x).getB r' f = s.getB r' f := rfl
@[simp] theorem State.engine_setCh (s : State) (c : Nat) (x : Chan) (m : Nat) : (s.setCh c x).engine m = s.engine m := rfl
@[simp] theorem State.sect_setCh (s : State) (c : Nat) (x : Chan) (m : Nat) : (s.setCh c x).sect m = s.sect m := rfl
@[simp] theorem State.dmaCtx_setCh (s : State) (c : Nat) (x : Chan) (m : Nat) : (s.setCh c x).dmaCtx m = s.dmaCtx m := rfl
@[simp] theorem State.q_setCh (s : State) (c : Nat) (x : Chan) (m : Nat) : (s.setCh c x).q m = s.q m := rfl
@[simp] theorem State.ln_setCh (s : State) (c : Nat) (x : Chan) (m : Nat) : (s.setCh c x).ln m = s.ln m := rfl
@[simp] theorem State.sv_setCh (s : State) (c : Nat) (x : Chan) (m : Nat) : (s.setCh c x).sv m = s.sv m := rfl
@[simp] theorem State.ckUnit_setCh (s : State) (c : Nat) (x : Chan) (m : Nat) : (s.setCh c x).ckUnit m = s.ckUnit m := rfl
@[simp] theorem State.devState_setCh (s : State) (c : Nat) (x : Chan) : (s.setCh c x).devState = s.devState := rfl
@[simp] theorem State.beatNum_setCh (s : State) (c : Nat) (x : Chan) : (s.setCh c x).beatNum = s.beatNum := rfl
@[simp] theorem State.sectState_setCh (s : State) (c : Nat) (x : Chan) (m : Nat) : (s.setCh c x).sectState m = s.sectState m := rfl
@[simp] theorem State.running_setCh (s : State) (c : Nat) (x : Chan) (m : Nat) : (s.setCh c x).running m = s.running m := rfl
@[simp] theorem State.gated_setCh (s : State) (c : Nat) (x : Chan) (m : Nat) : (s.setCh c x).gated m = s.gated m := rfl

/-! ### setQ -/

@[simp] theorem State.setQ_beat (s : State) (k : Nat) (x : Queue) : (s.setQ k x).beat = s.beat := rfl
@[simp] theorem State.setQ_regs (s : State) (k : Nat) (x : Queue) : (s.setQ k x).regs = s.regs := rfl
@[simp] theorem State.setQ_mem (s : State) (k : Nat) (x : Queue) : (s.setQ k x).mem = s.mem := rfl
@[simp] theorem State.setQ_undef (s : State) (k : Nat) (x : Queue) : (s.setQ k x).undef = s.undef := rfl
@[simp] theorem State.setQ_eccSoft (s : State) (k : Nat) (x : Queue) : (s.setQ k x).eccSoft = s.eccSoft := rfl
@[simp] theorem State.setQ_eccBad (s : State) (k : Nat) (x : Queue) : (s.setQ k x).eccBad = s.eccBad := rfl
@[simp] theorem State.setQ_eng (s : State) (k : Nat) (x : Queue) : (s.setQ k x).eng = s.eng := rfl
@[simp] theorem State.setQ_sec (s : State) (k : Nat) (x : Queue) : (s.setQ k x).sec = s.sec := rfl
@[simp] theorem State.setQ_dma (s : State) (k : Nat) (x : Queue) : (s.setQ k x).dma = s.dma := rfl
@[simp] theorem State.setQ_chan (s : State) (k : Nat) (x : Queue) : (s.setQ k x).chan = s.chan := rfl
@[simp] theorem State.setQ_qmEvts (s : State) (k : Nat) (x : Queue) : (s.setQ k x).qmEvts = s.qmEvts := rfl
@[simp] theorem State.setQ_qmBusy (s : State) (k : Nat) (x : Queue) : (s.setQ k x).qmBusy = s.qmBusy := rfl
@[simp] theorem State.setQ_glvEvts (s : State) (k : Nat) (x : Queue) : (s.setQ k x).glvEvts = s.glvEvts := rfl
@[simp] theorem State.setQ_glvCmd (s : State) (k : Nat) (x : Queue) : (s.setQ k x).glvCmd = s.glvCmd := rfl
@[simp] theorem State.setQ_lane (s : State) (k : Nat) (x : Queue) : (s.setQ k x).lane = s.lane := rfl
@[simp] theorem State.setQ_svc (s : State) (k : Nat) (x : Queue) : (s.setQ k x).svc = s.svc := rfl
@[simp] theorem State.setQ_cku (s : State) (k : Nat) (x : Queue) : (s.setQ k x).cku = s.cku := rfl
@[simp] theorem State.setQ_march (s : State) (k : Nat) (x : Queue) : (s.setQ k x).march = s.march := rfl
@[simp] theorem State.setQ_seq (s : State) (k : Nat) (x : Queue) : (s.setQ k x).seq = s.seq := rfl
@[simp] theorem State.setQ_helm (s : State) (k : Nat) (x : Queue) : (s.setQ k x).helm = s.helm := rfl
@[simp] theorem State.setQ_dbg (s : State) (k : Nat) (x : Queue) : (s.setQ k x).dbg = s.dbg := rfl
@[simp] theorem State.setQ_health (s : State) (k : Nat) (x : Queue) : (s.setQ k x).health = s.health := rfl
@[simp] theorem State.setQ_pins (s : State) (k : Nat) (x : Queue) : (s.setQ k x).pins = s.pins := rfl
@[simp] theorem State.setQ_fresh (s : State) (k : Nat) (x : Queue) : (s.setQ k x).fresh = s.fresh := rfl
@[simp] theorem State.setQ_pending (s : State) (k : Nat) (x : Queue) : (s.setQ k x).pending = s.pending := rfl

@[simp] theorem State.reg_setQ (s : State) (k : Nat) (x : Queue) (r' : Reg) : (s.setQ k x).reg r' = s.reg r' := rfl
@[simp] theorem State.getF_setQ (s : State) (k : Nat) (x : Queue) (r' : Reg) (f : Nat × Nat) : (s.setQ k x).getF r' f = s.getF r' f := rfl
@[simp] theorem State.getB_setQ (s : State) (k : Nat) (x : Queue) (r' : Reg) (f : Nat × Nat) : (s.setQ k x).getB r' f = s.getB r' f := rfl
@[simp] theorem State.engine_setQ (s : State) (k : Nat) (x : Queue) (m : Nat) : (s.setQ k x).engine m = s.engine m := rfl
@[simp] theorem State.sect_setQ (s : State) (k : Nat) (x : Queue) (m : Nat) : (s.setQ k x).sect m = s.sect m := rfl
@[simp] theorem State.dmaCtx_setQ (s : State) (k : Nat) (x : Queue) (m : Nat) : (s.setQ k x).dmaCtx m = s.dmaCtx m := rfl
@[simp] theorem State.ch_setQ (s : State) (k : Nat) (x : Queue) (m : Nat) : (s.setQ k x).ch m = s.ch m := rfl
@[simp] theorem State.ln_setQ (s : State) (k : Nat) (x : Queue) (m : Nat) : (s.setQ k x).ln m = s.ln m := rfl
@[simp] theorem State.sv_setQ (s : State) (k : Nat) (x : Queue) (m : Nat) : (s.setQ k x).sv m = s.sv m := rfl
@[simp] theorem State.ckUnit_setQ (s : State) (k : Nat) (x : Queue) (m : Nat) : (s.setQ k x).ckUnit m = s.ckUnit m := rfl
@[simp] theorem State.devState_setQ (s : State) (k : Nat) (x : Queue) : (s.setQ k x).devState = s.devState := rfl
@[simp] theorem State.beatNum_setQ (s : State) (k : Nat) (x : Queue) : (s.setQ k x).beatNum = s.beatNum := rfl
@[simp] theorem State.sectState_setQ (s : State) (k : Nat) (x : Queue) (m : Nat) : (s.setQ k x).sectState m = s.sectState m := rfl
@[simp] theorem State.running_setQ (s : State) (k : Nat) (x : Queue) (m : Nat) : (s.setQ k x).running m = s.running m := rfl
@[simp] theorem State.gated_setQ (s : State) (k : Nat) (x : Queue) (m : Nat) : (s.setQ k x).gated m = s.gated m := rfl

/-! ### setLn -/

@[simp] theorem State.setLn_beat (s : State) (n : Nat) (x : Lane) : (s.setLn n x).beat = s.beat := rfl
@[simp] theorem State.setLn_regs (s : State) (n : Nat) (x : Lane) : (s.setLn n x).regs = s.regs := rfl
@[simp] theorem State.setLn_mem (s : State) (n : Nat) (x : Lane) : (s.setLn n x).mem = s.mem := rfl
@[simp] theorem State.setLn_undef (s : State) (n : Nat) (x : Lane) : (s.setLn n x).undef = s.undef := rfl
@[simp] theorem State.setLn_eccSoft (s : State) (n : Nat) (x : Lane) : (s.setLn n x).eccSoft = s.eccSoft := rfl
@[simp] theorem State.setLn_eccBad (s : State) (n : Nat) (x : Lane) : (s.setLn n x).eccBad = s.eccBad := rfl
@[simp] theorem State.setLn_eng (s : State) (n : Nat) (x : Lane) : (s.setLn n x).eng = s.eng := rfl
@[simp] theorem State.setLn_sec (s : State) (n : Nat) (x : Lane) : (s.setLn n x).sec = s.sec := rfl
@[simp] theorem State.setLn_dma (s : State) (n : Nat) (x : Lane) : (s.setLn n x).dma = s.dma := rfl
@[simp] theorem State.setLn_chan (s : State) (n : Nat) (x : Lane) : (s.setLn n x).chan = s.chan := rfl
@[simp] theorem State.setLn_queue (s : State) (n : Nat) (x : Lane) : (s.setLn n x).queue = s.queue := rfl
@[simp] theorem State.setLn_qmEvts (s : State) (n : Nat) (x : Lane) : (s.setLn n x).qmEvts = s.qmEvts := rfl
@[simp] theorem State.setLn_qmBusy (s : State) (n : Nat) (x : Lane) : (s.setLn n x).qmBusy = s.qmBusy := rfl
@[simp] theorem State.setLn_glvEvts (s : State) (n : Nat) (x : Lane) : (s.setLn n x).glvEvts = s.glvEvts := rfl
@[simp] theorem State.setLn_glvCmd (s : State) (n : Nat) (x : Lane) : (s.setLn n x).glvCmd = s.glvCmd := rfl
@[simp] theorem State.setLn_svc (s : State) (n : Nat) (x : Lane) : (s.setLn n x).svc = s.svc := rfl
@[simp] theorem State.setLn_cku (s : State) (n : Nat) (x : Lane) : (s.setLn n x).cku = s.cku := rfl
@[simp] theorem State.setLn_march (s : State) (n : Nat) (x : Lane) : (s.setLn n x).march = s.march := rfl
@[simp] theorem State.setLn_seq (s : State) (n : Nat) (x : Lane) : (s.setLn n x).seq = s.seq := rfl
@[simp] theorem State.setLn_helm (s : State) (n : Nat) (x : Lane) : (s.setLn n x).helm = s.helm := rfl
@[simp] theorem State.setLn_dbg (s : State) (n : Nat) (x : Lane) : (s.setLn n x).dbg = s.dbg := rfl
@[simp] theorem State.setLn_health (s : State) (n : Nat) (x : Lane) : (s.setLn n x).health = s.health := rfl
@[simp] theorem State.setLn_pins (s : State) (n : Nat) (x : Lane) : (s.setLn n x).pins = s.pins := rfl
@[simp] theorem State.setLn_fresh (s : State) (n : Nat) (x : Lane) : (s.setLn n x).fresh = s.fresh := rfl
@[simp] theorem State.setLn_pending (s : State) (n : Nat) (x : Lane) : (s.setLn n x).pending = s.pending := rfl

@[simp] theorem State.reg_setLn (s : State) (n : Nat) (x : Lane) (r' : Reg) : (s.setLn n x).reg r' = s.reg r' := rfl
@[simp] theorem State.getF_setLn (s : State) (n : Nat) (x : Lane) (r' : Reg) (f : Nat × Nat) : (s.setLn n x).getF r' f = s.getF r' f := rfl
@[simp] theorem State.getB_setLn (s : State) (n : Nat) (x : Lane) (r' : Reg) (f : Nat × Nat) : (s.setLn n x).getB r' f = s.getB r' f := rfl
@[simp] theorem State.engine_setLn (s : State) (n : Nat) (x : Lane) (m : Nat) : (s.setLn n x).engine m = s.engine m := rfl
@[simp] theorem State.sect_setLn (s : State) (n : Nat) (x : Lane) (m : Nat) : (s.setLn n x).sect m = s.sect m := rfl
@[simp] theorem State.dmaCtx_setLn (s : State) (n : Nat) (x : Lane) (m : Nat) : (s.setLn n x).dmaCtx m = s.dmaCtx m := rfl
@[simp] theorem State.ch_setLn (s : State) (n : Nat) (x : Lane) (m : Nat) : (s.setLn n x).ch m = s.ch m := rfl
@[simp] theorem State.q_setLn (s : State) (n : Nat) (x : Lane) (m : Nat) : (s.setLn n x).q m = s.q m := rfl
@[simp] theorem State.sv_setLn (s : State) (n : Nat) (x : Lane) (m : Nat) : (s.setLn n x).sv m = s.sv m := rfl
@[simp] theorem State.ckUnit_setLn (s : State) (n : Nat) (x : Lane) (m : Nat) : (s.setLn n x).ckUnit m = s.ckUnit m := rfl
@[simp] theorem State.devState_setLn (s : State) (n : Nat) (x : Lane) : (s.setLn n x).devState = s.devState := rfl
@[simp] theorem State.beatNum_setLn (s : State) (n : Nat) (x : Lane) : (s.setLn n x).beatNum = s.beatNum := rfl
@[simp] theorem State.sectState_setLn (s : State) (n : Nat) (x : Lane) (m : Nat) : (s.setLn n x).sectState m = s.sectState m := rfl
@[simp] theorem State.running_setLn (s : State) (n : Nat) (x : Lane) (m : Nat) : (s.setLn n x).running m = s.running m := rfl
@[simp] theorem State.gated_setLn (s : State) (n : Nat) (x : Lane) (m : Nat) : (s.setLn n x).gated m = s.gated m := rfl

/-! ### setSv -/

@[simp] theorem State.setSv_beat (s : State) (k : Nat) (x : Svc) : (s.setSv k x).beat = s.beat := rfl
@[simp] theorem State.setSv_regs (s : State) (k : Nat) (x : Svc) : (s.setSv k x).regs = s.regs := rfl
@[simp] theorem State.setSv_mem (s : State) (k : Nat) (x : Svc) : (s.setSv k x).mem = s.mem := rfl
@[simp] theorem State.setSv_undef (s : State) (k : Nat) (x : Svc) : (s.setSv k x).undef = s.undef := rfl
@[simp] theorem State.setSv_eccSoft (s : State) (k : Nat) (x : Svc) : (s.setSv k x).eccSoft = s.eccSoft := rfl
@[simp] theorem State.setSv_eccBad (s : State) (k : Nat) (x : Svc) : (s.setSv k x).eccBad = s.eccBad := rfl
@[simp] theorem State.setSv_eng (s : State) (k : Nat) (x : Svc) : (s.setSv k x).eng = s.eng := rfl
@[simp] theorem State.setSv_sec (s : State) (k : Nat) (x : Svc) : (s.setSv k x).sec = s.sec := rfl
@[simp] theorem State.setSv_dma (s : State) (k : Nat) (x : Svc) : (s.setSv k x).dma = s.dma := rfl
@[simp] theorem State.setSv_chan (s : State) (k : Nat) (x : Svc) : (s.setSv k x).chan = s.chan := rfl
@[simp] theorem State.setSv_queue (s : State) (k : Nat) (x : Svc) : (s.setSv k x).queue = s.queue := rfl
@[simp] theorem State.setSv_qmEvts (s : State) (k : Nat) (x : Svc) : (s.setSv k x).qmEvts = s.qmEvts := rfl
@[simp] theorem State.setSv_qmBusy (s : State) (k : Nat) (x : Svc) : (s.setSv k x).qmBusy = s.qmBusy := rfl
@[simp] theorem State.setSv_glvEvts (s : State) (k : Nat) (x : Svc) : (s.setSv k x).glvEvts = s.glvEvts := rfl
@[simp] theorem State.setSv_glvCmd (s : State) (k : Nat) (x : Svc) : (s.setSv k x).glvCmd = s.glvCmd := rfl
@[simp] theorem State.setSv_lane (s : State) (k : Nat) (x : Svc) : (s.setSv k x).lane = s.lane := rfl
@[simp] theorem State.setSv_cku (s : State) (k : Nat) (x : Svc) : (s.setSv k x).cku = s.cku := rfl
@[simp] theorem State.setSv_march (s : State) (k : Nat) (x : Svc) : (s.setSv k x).march = s.march := rfl
@[simp] theorem State.setSv_seq (s : State) (k : Nat) (x : Svc) : (s.setSv k x).seq = s.seq := rfl
@[simp] theorem State.setSv_helm (s : State) (k : Nat) (x : Svc) : (s.setSv k x).helm = s.helm := rfl
@[simp] theorem State.setSv_dbg (s : State) (k : Nat) (x : Svc) : (s.setSv k x).dbg = s.dbg := rfl
@[simp] theorem State.setSv_health (s : State) (k : Nat) (x : Svc) : (s.setSv k x).health = s.health := rfl
@[simp] theorem State.setSv_pins (s : State) (k : Nat) (x : Svc) : (s.setSv k x).pins = s.pins := rfl
@[simp] theorem State.setSv_fresh (s : State) (k : Nat) (x : Svc) : (s.setSv k x).fresh = s.fresh := rfl
@[simp] theorem State.setSv_pending (s : State) (k : Nat) (x : Svc) : (s.setSv k x).pending = s.pending := rfl

@[simp] theorem State.reg_setSv (s : State) (k : Nat) (x : Svc) (r' : Reg) : (s.setSv k x).reg r' = s.reg r' := rfl
@[simp] theorem State.getF_setSv (s : State) (k : Nat) (x : Svc) (r' : Reg) (f : Nat × Nat) : (s.setSv k x).getF r' f = s.getF r' f := rfl
@[simp] theorem State.getB_setSv (s : State) (k : Nat) (x : Svc) (r' : Reg) (f : Nat × Nat) : (s.setSv k x).getB r' f = s.getB r' f := rfl
@[simp] theorem State.engine_setSv (s : State) (k : Nat) (x : Svc) (m : Nat) : (s.setSv k x).engine m = s.engine m := rfl
@[simp] theorem State.sect_setSv (s : State) (k : Nat) (x : Svc) (m : Nat) : (s.setSv k x).sect m = s.sect m := rfl
@[simp] theorem State.dmaCtx_setSv (s : State) (k : Nat) (x : Svc) (m : Nat) : (s.setSv k x).dmaCtx m = s.dmaCtx m := rfl
@[simp] theorem State.ch_setSv (s : State) (k : Nat) (x : Svc) (m : Nat) : (s.setSv k x).ch m = s.ch m := rfl
@[simp] theorem State.q_setSv (s : State) (k : Nat) (x : Svc) (m : Nat) : (s.setSv k x).q m = s.q m := rfl
@[simp] theorem State.ln_setSv (s : State) (k : Nat) (x : Svc) (m : Nat) : (s.setSv k x).ln m = s.ln m := rfl
@[simp] theorem State.ckUnit_setSv (s : State) (k : Nat) (x : Svc) (m : Nat) : (s.setSv k x).ckUnit m = s.ckUnit m := rfl
@[simp] theorem State.devState_setSv (s : State) (k : Nat) (x : Svc) : (s.setSv k x).devState = s.devState := rfl
@[simp] theorem State.beatNum_setSv (s : State) (k : Nat) (x : Svc) : (s.setSv k x).beatNum = s.beatNum := rfl
@[simp] theorem State.sectState_setSv (s : State) (k : Nat) (x : Svc) (m : Nat) : (s.setSv k x).sectState m = s.sectState m := rfl
@[simp] theorem State.running_setSv (s : State) (k : Nat) (x : Svc) (m : Nat) : (s.setSv k x).running m = s.running m := rfl
@[simp] theorem State.gated_setSv (s : State) (k : Nat) (x : Svc) (m : Nat) : (s.setSv k x).gated m = s.gated m := rfl

/-! ### setCku -/

@[simp] theorem State.setCku_beat (s : State) (u : Nat) (x : Cku) : (s.setCku u x).beat = s.beat := rfl
@[simp] theorem State.setCku_regs (s : State) (u : Nat) (x : Cku) : (s.setCku u x).regs = s.regs := rfl
@[simp] theorem State.setCku_mem (s : State) (u : Nat) (x : Cku) : (s.setCku u x).mem = s.mem := rfl
@[simp] theorem State.setCku_undef (s : State) (u : Nat) (x : Cku) : (s.setCku u x).undef = s.undef := rfl
@[simp] theorem State.setCku_eccSoft (s : State) (u : Nat) (x : Cku) : (s.setCku u x).eccSoft = s.eccSoft := rfl
@[simp] theorem State.setCku_eccBad (s : State) (u : Nat) (x : Cku) : (s.setCku u x).eccBad = s.eccBad := rfl
@[simp] theorem State.setCku_eng (s : State) (u : Nat) (x : Cku) : (s.setCku u x).eng = s.eng := rfl
@[simp] theorem State.setCku_sec (s : State) (u : Nat) (x : Cku) : (s.setCku u x).sec = s.sec := rfl
@[simp] theorem State.setCku_dma (s : State) (u : Nat) (x : Cku) : (s.setCku u x).dma = s.dma := rfl
@[simp] theorem State.setCku_chan (s : State) (u : Nat) (x : Cku) : (s.setCku u x).chan = s.chan := rfl
@[simp] theorem State.setCku_queue (s : State) (u : Nat) (x : Cku) : (s.setCku u x).queue = s.queue := rfl
@[simp] theorem State.setCku_qmEvts (s : State) (u : Nat) (x : Cku) : (s.setCku u x).qmEvts = s.qmEvts := rfl
@[simp] theorem State.setCku_qmBusy (s : State) (u : Nat) (x : Cku) : (s.setCku u x).qmBusy = s.qmBusy := rfl
@[simp] theorem State.setCku_glvEvts (s : State) (u : Nat) (x : Cku) : (s.setCku u x).glvEvts = s.glvEvts := rfl
@[simp] theorem State.setCku_glvCmd (s : State) (u : Nat) (x : Cku) : (s.setCku u x).glvCmd = s.glvCmd := rfl
@[simp] theorem State.setCku_lane (s : State) (u : Nat) (x : Cku) : (s.setCku u x).lane = s.lane := rfl
@[simp] theorem State.setCku_svc (s : State) (u : Nat) (x : Cku) : (s.setCku u x).svc = s.svc := rfl
@[simp] theorem State.setCku_march (s : State) (u : Nat) (x : Cku) : (s.setCku u x).march = s.march := rfl
@[simp] theorem State.setCku_seq (s : State) (u : Nat) (x : Cku) : (s.setCku u x).seq = s.seq := rfl
@[simp] theorem State.setCku_helm (s : State) (u : Nat) (x : Cku) : (s.setCku u x).helm = s.helm := rfl
@[simp] theorem State.setCku_dbg (s : State) (u : Nat) (x : Cku) : (s.setCku u x).dbg = s.dbg := rfl
@[simp] theorem State.setCku_health (s : State) (u : Nat) (x : Cku) : (s.setCku u x).health = s.health := rfl
@[simp] theorem State.setCku_pins (s : State) (u : Nat) (x : Cku) : (s.setCku u x).pins = s.pins := rfl
@[simp] theorem State.setCku_fresh (s : State) (u : Nat) (x : Cku) : (s.setCku u x).fresh = s.fresh := rfl
@[simp] theorem State.setCku_pending (s : State) (u : Nat) (x : Cku) : (s.setCku u x).pending = s.pending := rfl

@[simp] theorem State.reg_setCku (s : State) (u : Nat) (x : Cku) (r' : Reg) : (s.setCku u x).reg r' = s.reg r' := rfl
@[simp] theorem State.getF_setCku (s : State) (u : Nat) (x : Cku) (r' : Reg) (f : Nat × Nat) : (s.setCku u x).getF r' f = s.getF r' f := rfl
@[simp] theorem State.getB_setCku (s : State) (u : Nat) (x : Cku) (r' : Reg) (f : Nat × Nat) : (s.setCku u x).getB r' f = s.getB r' f := rfl
@[simp] theorem State.engine_setCku (s : State) (u : Nat) (x : Cku) (m : Nat) : (s.setCku u x).engine m = s.engine m := rfl
@[simp] theorem State.sect_setCku (s : State) (u : Nat) (x : Cku) (m : Nat) : (s.setCku u x).sect m = s.sect m := rfl
@[simp] theorem State.dmaCtx_setCku (s : State) (u : Nat) (x : Cku) (m : Nat) : (s.setCku u x).dmaCtx m = s.dmaCtx m := rfl
@[simp] theorem State.ch_setCku (s : State) (u : Nat) (x : Cku) (m : Nat) : (s.setCku u x).ch m = s.ch m := rfl
@[simp] theorem State.q_setCku (s : State) (u : Nat) (x : Cku) (m : Nat) : (s.setCku u x).q m = s.q m := rfl
@[simp] theorem State.ln_setCku (s : State) (u : Nat) (x : Cku) (m : Nat) : (s.setCku u x).ln m = s.ln m := rfl
@[simp] theorem State.sv_setCku (s : State) (u : Nat) (x : Cku) (m : Nat) : (s.setCku u x).sv m = s.sv m := rfl
@[simp] theorem State.devState_setCku (s : State) (u : Nat) (x : Cku) : (s.setCku u x).devState = s.devState := rfl
@[simp] theorem State.beatNum_setCku (s : State) (u : Nat) (x : Cku) : (s.setCku u x).beatNum = s.beatNum := rfl
@[simp] theorem State.sectState_setCku (s : State) (u : Nat) (x : Cku) (m : Nat) : (s.setCku u x).sectState m = s.sectState m := rfl
@[simp] theorem State.running_setCku (s : State) (u : Nat) (x : Cku) (m : Nat) : (s.setCku u x).running m = s.running m := rfl
@[simp] theorem State.gated_setCku (s : State) (u : Nat) (x : Cku) (m : Nat) : (s.setCku u x).gated m = s.gated m := rfl

/-! ### Reading the part just written -/

@[simp] theorem State.reg_setReg (s : State) (r r' : Reg) (w : Word) : (s.setReg r w).reg r' = if r' = r then w else s.reg r' := by
  simp only [State.reg, State.setReg]
  split
  · rename_i h
    subst h
    exact SMap.get_set_self
  · rename_i h
    exact SMap.get_set_ne (Reg.key_ne h)

@[simp] theorem State.engine_setEngine (s : State) (n m : Nat) (x : Engine) : (s.setEngine n x).engine m = if m = n then x else s.engine m :=
  SMap.get_set

@[simp] theorem State.sect_setSect (s : State) (k m : Nat) (x : Section) : (s.setSect k x).sect m = if m = k then x else s.sect m :=
  SMap.get_set

@[simp] theorem State.dmaCtx_setDma (s : State) (n m : Nat) (x : DmaCtx) : (s.setDma n x).dmaCtx m = if m = n then x else s.dmaCtx m :=
  SMap.get_set

@[simp] theorem State.ch_setCh (s : State) (c m : Nat) (x : Chan) : (s.setCh c x).ch m = if m = c then x else s.ch m :=
  SMap.get_set

@[simp] theorem State.q_setQ (s : State) (k m : Nat) (x : Queue) : (s.setQ k x).q m = if m = k then x else s.q m :=
  SMap.get_set

@[simp] theorem State.ln_setLn (s : State) (n m : Nat) (x : Lane) : (s.setLn n x).ln m = if m = n then x else s.ln m :=
  SMap.get_set

@[simp] theorem State.sv_setSv (s : State) (k m : Nat) (x : Svc) : (s.setSv k x).sv m = if m = k then x else s.sv m :=
  SMap.get_set

@[simp] theorem State.ckUnit_setCku (s : State) (u m : Nat) (x : Cku) : (s.setCku u x).ckUnit m = if m = u then x else s.ckUnit m :=
  SMap.get_set

@[simp] theorem State.modEngine_eq (s : State) (n : Nat) (f : Engine → Engine) : s.modEngine n f = s.setEngine n (f (s.engine n)) := rfl

@[simp] theorem State.modSect_eq (s : State) (k : Nat) (f : Section → Section) : s.modSect k f = s.setSect k (f (s.sect k)) := rfl

@[simp] theorem State.modCh_eq (s : State) (c : Nat) (f : Chan → Chan) : s.modCh c f = s.setCh c (f (s.ch c)) := rfl

@[simp] theorem State.modLn_eq (s : State) (n : Nat) (f : Lane → Lane) : s.modLn n f = s.setLn n (f (s.ln n)) := rfl

/-! ### Fields of registers -/

theorem State.getF_setReg (s : State) (r r' : Reg) (w : Word) (f : Nat × Nat) :
    (s.setReg r w).getF r' f = if r' = r then fld w f.1 f.2 else s.getF r' f := by
  simp only [State.getF, State.reg_setReg]
  split <;> rfl

theorem State.getB_setReg (s : State) (r r' : Reg) (w : Word) (f : Nat × Nat) :
    (s.setReg r w).getB r' f = if r' = r then bit w f.2 else s.getB r' f := by
  simp only [State.getB, State.reg_setReg]
  split <;> rfl

@[simp] theorem State.reg_setF (s : State) (r r' : Reg) (f : Nat × Nat) (v : Nat) :
    (s.setF r f v).reg r' = if r' = r then setFld (s.reg r) f.1 f.2 v else s.reg r' := by
  simp [State.setF]

/-- A field just set reads as its value, modulo its width. -/
theorem State.getF_setF_self (s : State) (r : Reg) (f : Nat × Nat) (v : Nat) (h : f.1 < 36) :
    (s.setF r f v).getF r f = v % 2 ^ (f.1 + 1 - f.2) := by
  simp [State.getF, fld_setFld_self h]

/-- Another field of the same register, or any field of another, is unchanged. -/
theorem State.getF_setF_ne (s : State) (r r' : Reg) (f g : Nat × Nat) (v : Nat) (h : r' ≠ r ∨ g.1 < f.2 ∨ f.1 < g.2) :
    (s.setF r f v).getF r' g = s.getF r' g := by
  simp only [State.getF, State.reg_setF]
  split
  · rename_i e
    subst e
    rcases h with h | h
    · exact absurd rfl h
    · exact fld_setFld_ne h
  · rfl

theorem State.getB_setB_self (s : State) (r : Reg) (i : Nat) (b : Bool) (h : i < 36) : (s.setB r (i, i) b).getB r (i, i) = b := by
  simp only [State.getB, State.setB, State.reg_setF, if_true]
  rw [bit_setFld h]
  cases b <;> simp

/-! ### Two updates of one part -/

@[simp] theorem State.setReg_setReg (s : State) (r : Reg) (w w' : Word) : (s.setReg r w).setReg r w' = s.setReg r w' := by
  simp [State.setReg]
@[simp] theorem State.setEngine_setEngine (s : State) (n : Nat) (x y : Engine) : (s.setEngine n x).setEngine n y = s.setEngine n y := by
  simp [State.setEngine]
@[simp] theorem State.setSect_setSect (s : State) (n : Nat) (x y : Section) : (s.setSect n x).setSect n y = s.setSect n y := by
  simp [State.setSect]
@[simp] theorem State.setDma_setDma (s : State) (n : Nat) (x y : DmaCtx) : (s.setDma n x).setDma n y = s.setDma n y := by
  simp [State.setDma]
@[simp] theorem State.setCh_setCh (s : State) (n : Nat) (x y : Chan) : (s.setCh n x).setCh n y = s.setCh n y := by
  simp [State.setCh]
@[simp] theorem State.setQ_setQ (s : State) (n : Nat) (x y : Queue) : (s.setQ n x).setQ n y = s.setQ n y := by
  simp [State.setQ]
@[simp] theorem State.setLn_setLn (s : State) (n : Nat) (x y : Lane) : (s.setLn n x).setLn n y = s.setLn n y := by
  simp [State.setLn]
@[simp] theorem State.setSv_setSv (s : State) (n : Nat) (x y : Svc) : (s.setSv n x).setSv n y = s.setSv n y := by
  simp [State.setSv]
@[simp] theorem State.setCku_setCku (s : State) (n : Nat) (x y : Cku) : (s.setCku n x).setCku n y = s.setCku n y := by
  simp [State.setCku]

end Sys2Proof.Machine
end

