-- ==== Sys2Proof/Laws/Exec.lean ====
section
/-! SUPPORT. How a command that asserts a trigger ends, said once for each answer of an operation. -/

namespace Sys2Proof.Machine

/-- An operation that writes one result port and raises no flag. -/
theorem State.opRow_one (s : State) (e u lat k : Nat) (w : Word) : s.opRow e u (.one s lat k w) = s.withResult e u k w := by
  simp [State.opRow, OpOut.one, Engine.land, State.withResult, State.withEngineAfter, Engine.setResult, Engine.setDone]

/-- An operation that writes no result port: `x` is the engine once it has started. -/
theorem State.opRow_plain (s : State) (e u lat : Nat) (x : Engine) (hx : x.cyc = (s.engine e).cyc) :
    s.opRow e u (.plain (s.setEngine e x) lat) = s.withEngineAfter e x := by
  simp [State.opRow, OpOut.plain, Engine.land, State.withEngineAfter, hx, State.setEngine_setEngine]

theorem State.opRow_trap (s : State) (e u : Nat) (t : OpTrap) : s.opRow e u (.trap t) = s.takeTrap e t (s.engine e).pc := rfl

theorem State.opRow_held (s : State) (e u : Nat) (h : HeldTrig) :
    s.opRow e u (.held h) = (s.modEngine e (fun x => { x with held := x.held ++ [h] })).waitBegin e := rfl

end Sys2Proof.Machine
end

