-- ==== Sys2Proof/Laws/Kept.lean ====
section
/-! SUPPORT. What every operation of the model keeps, said once: `Kept b a s` says of a state s reached from a that the queue
of commands is as it was, that the counter of free values did not fall, that every table is in canonical form if it was, and
(b = true) that FAULT and GLV_CTL.LOCK stand if they did. One lemma per operation, in the Laws/Kept files, says that it keeps
this; the operations that carry out a device reset keep it with b = false. -/

namespace Sys2Proof.Machine

structure Kept (b : Bool) (a s : State) : Prop where
  pending : s.pending = a.pending
  fresh : a.fresh ≤ s.fresh
  canon : Canonical a → Canonical s
  fault : b = true → a.inFault → s.inFault
  lock : b = true → a.glvLocked → s.glvLocked

variable {b : Bool} {a s t : State}

theorem Kept.refl : Kept b a a := ⟨rfl, Nat.le_refl _, id, fun _ => id, fun _ => id⟩

theorem Kept.weaken (h : Kept b a s) : Kept false a s := ⟨h.pending, h.fresh, h.canon, nofun, nofun⟩

theorem Kept.trans (h : Kept b a s) (h' : Kept b s t) : Kept b a t :=
  ⟨h'.pending.trans h.pending, h.fresh.trans h'.fresh, fun c => h'.canon (h.canon c), fun e f => h'.fault e (h.fault e f),
    fun e f => h'.lock e (h.lock e f)⟩

/-- The same for the answers of operations. -/
def OpKept (b : Bool) (a : State) : OpOut → Prop
  | .ok r => Sys2Proof.Machine.Kept b a r.st
  | _ => True

def OutKept (b : Bool) (a : State) : Out → Prop
  | .next t => Kept b a t
  | _ => True

/-- The same for an operation that may have no answer. -/
def OptKept (b : Bool) (a : State) : Option State → Prop
  | some t => Kept b a t
  | none => True

def OptKept2 {α : Type} (b : Bool) (a : State) : Option (α × State) → Prop
  | some p => Kept b a p.2
  | none => True

theorem OptKept.some {o : Option State} (e : o = .some t) (h : OptKept b a o) : Kept b a t := by subst e; exact h
theorem OptKept2.some {α : Type} {o : Option (α × State)} {p : α × State} (e : o = .some p) (h : OptKept2 b a o) : Kept b a p.2 := by
  subst e; exact h
theorem OptKept.mk (h : Kept b a s) : OptKept b a (.some s) := h
theorem OptKept2.mk {α : Type} {v : α} (h : Kept b a s) : OptKept2 b a (.some (v, s)) := h
theorem OptKept.getD {o : Option State} (h : OptKept b a o) (hs : Kept b a s) : Kept b a (o.getD s) := by
  cases o with
  | none => exact hs
  | some t => exact h
theorem OpKept.mk {r : OpRes} (h : Kept b a r.st) : OpKept b a (.ok r) := h
theorem OpKept.ok {o : OpOut} {r : OpRes} (e : o = .ok r) (h : OpKept b a o) : Kept b a r.st := by subst e; exact h
theorem Kept.mk1 {α : Type} {v : α} (h : Kept b a s) : Kept b a (s, v).1 := h
theorem Kept.mk2 {α : Type} {v : α} (h : Kept b a s) : Kept b a (v, s).2 := h
theorem Kept.mkSt {l f e : Nat} {w : List (Nat × Word)} (h : Kept b a s) :
    Kept b a (OpRes.mk s l w f e).st := h

theorem OutKept.mk (h : Kept b a s) : OutKept b a (.next s) := h

theorem Kept.snd {α : Type} {p : α × State} {v : α} {t : State} (e : p = (v, t)) (h : Kept b a p.2) : Kept b a t := by
  subst e; exact h

theorem Kept.fst {α : Type} {p : State × α} {v : α} {t : State} (e : p = (t, v)) (h : Kept b a p.1) : Kept b a t := by
  subst e; exact h

theorem Kept.snd2 {α β : Type} {p : α × β × State} {v : α} {w : β} {t : State} (e : p = (v, w, t)) (h : Kept b a p.2.2) : Kept b a t := by
  subst e; exact h

theorem Kept.dite {c : Prop} [Decidable c] {x y : State} (h1 : c → Kept b a x) (h2 : ¬ c → Kept b a y) :
    Kept b a (if c then x else y) := by
  split
  · rename_i h
    exact h1 h
  · rename_i h
    exact h2 h

theorem Kept.dite1 {α : Type} {c : Prop} [Decidable c] {x y : State × α} (h1 : c → Kept b a x.1) (h2 : ¬ c → Kept b a y.1) :
    Kept b a (if c then x else y).1 := by
  split
  · rename_i h
    exact h1 h
  · rename_i h
    exact h2 h

theorem Kept.dite2 {α : Type} {c : Prop} [Decidable c] {x y : α × State} (h1 : c → Kept b a x.2) (h2 : ¬ c → Kept b a y.2) :
    Kept b a (if c then x else y).2 := by
  split
  · rename_i h
    exact h1 h
  · rename_i h
    exact h2 h

theorem Kept.dite22 {α β : Type} {c : Prop} [Decidable c] {x y : α × β × State} (h1 : c → Kept b a x.2.2) (h2 : ¬ c → Kept b a y.2.2) :
    Kept b a (if c then x else y).2.2 := by
  split
  · rename_i h
    exact h1 h
  · rename_i h
    exact h2 h

theorem OpKept.dite {c : Prop} [Decidable c] {x y : OpOut} (h1 : c → OpKept b a x) (h2 : ¬ c → OpKept b a y) :
    OpKept b a (if c then x else y) := by
  split
  · rename_i h
    exact h1 h
  · rename_i h
    exact h2 h

theorem OptKept.dite {c : Prop} [Decidable c] {x y : Option State} (h1 : c → OptKept b a x) (h2 : ¬ c → OptKept b a y) :
    OptKept b a (if c then x else y) := by
  split
  · rename_i h
    exact h1 h
  · rename_i h
    exact h2 h

theorem OptKept.map {α : Type} {o : Option State} {v : α} (h : OptKept b a o) : OptKept2 b a (o.map (fun st => (v, st))) := by
  cases o with
  | none => exact True.intro
  | some t => exact h

theorem OptKept.const {α β : Type} {o : Option β} {f : β → α} (h : Kept b a s) : OptKept2 b a (o.map (fun x => (f x, s))) := by
  cases o with
  | none => exact True.intro
  | some t => exact h

/-- What Kept looks at, apart from the counter of free values. -/
def State.looked (s : State) := (s.pending, s.regs, s.mem, s.undef, s.eccSoft, s.eccBad, s.eng, s.sec, s.dma, s.chan, s.queue, s.lane, s.svc, s.cku)

/-- A change of nothing that Kept looks at. -/
theorem Kept.upd (e : t.looked = s.looked) (f : s.fresh ≤ t.fresh) (h : Kept b a s) : Kept b a t := by
  simp only [State.looked, Prod.mk.injEq] at e
  obtain ⟨h1, h2, h3, h4, h5, h6, h7, h8, h9, h10, h11, h12, h13, h14⟩ := e
  refine h.trans ⟨h1, f, fun c => ⟨?_, ?_, ?_, ?_, ?_, ?_, ?_, ?_, ?_, ?_, ?_, ?_, ?_⟩, fun _ x => ?_, fun _ x => ?_⟩
  · simpa [State.memWf, h3, h4] using c.mem
  · simpa [h2] using c.regs
  · simpa [h4] using c.undef
  · simpa [h5] using c.eccSoft
  · simpa [h6] using c.eccBad
  · simpa [h7] using c.eng
  · simpa [h8] using c.sec
  · simpa [h9] using c.dma
  · simpa [h10] using c.chan
  · simpa [h11] using c.queue
  · simpa [h12] using c.lane
  · simpa [h13] using c.svc
  · simpa [h14] using c.cku
  · simpa [State.inFault, State.devState, State.getF, State.reg, h2] using x
  · simpa [State.glvLocked, State.getB, State.reg, h2] using x

theorem Kept.all {beat qmEvts qmBusy glvEvts glvCmd march seq helm dbg health pins} (h : Kept b a s) :
    Kept b a (State.mk beat s.regs s.mem s.undef s.eccSoft s.eccBad s.eng s.sec s.dma s.chan s.queue qmEvts qmBusy glvEvts glvCmd s.lane s.svc s.cku march seq helm dbg health pins s.fresh s.pending) :=
  Kept.upd (s := s) rfl (Nat.le_refl _) h

theorem Kept.draw {beat qmEvts qmBusy glvEvts glvCmd march seq helm dbg health pins} (h : Kept b a s) :
    Kept b a (State.mk beat s.regs s.mem s.undef s.eccSoft s.eccBad s.eng s.sec s.dma s.chan s.queue qmEvts qmBusy glvEvts glvCmd s.lane s.svc s.cku march seq helm dbg health pins (s.fresh + 1) s.pending) :=
  Kept.upd (s := s) rfl (Nat.le_succ _) h

theorem Kept.foldl {α : Type} {f : State → α → State} {l : List α} (hf : ∀ st x, Kept b a st → Kept b a (f st x))
    (h : Kept b a s) : Kept b a (l.foldl f s) := by
  induction l generalizing s with
  | nil => exact h
  | cons x l ih => exact ih (hf s x h)

theorem Kept.foldl1 {α β : Type} {f : State × β → α → State × β} {l : List α} {p : State × β}
    (hf : ∀ q x, Kept b a q.1 → Kept b a (f q x).1) (h : Kept b a p.1) : Kept b a (l.foldl f p).1 := by
  induction l generalizing p with
  | nil => exact h
  | cons x l ih => exact ih (hf p x h)

theorem Kept.foldl2 {α β : Type} {f : β × State → α → β × State} {l : List α} {p : β × State}
    (hf : ∀ q x, Kept b a q.2 → Kept b a (f q x).2) (h : Kept b a p.2) : Kept b a (l.foldl f p).2 := by
  induction l generalizing p with
  | nil => exact h
  | cons x l ih => exact ih (hf p x h)

/-! ## The primitives -/

/-- The registers with no field that Kept looks at. -/
def Reg.quiet : Reg → Bool
  | .HOST_STATE | .GLV_CTL => false
  | _ => true

theorem Reg.quiet_ne {r : Reg} (h : r.quiet = true) : Reg.HOST_STATE ≠ r ∧ Reg.GLV_CTL ≠ r := by
  constructor <;> (intro e; subst e; exact Bool.noConfusion h)

theorem State.setReg_keep {r : Reg} {w : Word}
    (h1 : r = .HOST_STATE → fld w 8 0 = fld (s.reg r) 8 0 ∧ fld w 26 18 = fld (s.reg r) 26 18 ∨ ¬ s.inFault)
    (h2 : r = .GLV_CTL → bit w 0 = bit (s.reg r) 0 ∨ bit w 0 = true) : Kept b s (s.setReg r w) := by
  refine ⟨rfl, Nat.le_refl _, fun c => ⟨c.mem, SMap.wf_set c.regs, c.undef, c.eccSoft, c.eccBad, c.eng, c.sec, c.dma, c.chan, c.queue, c.lane,
    c.svc, c.cku⟩, fun _ x => ?_, fun _ x => ?_⟩
  · by_cases e : r = .HOST_STATE
    · rcases h1 e with h | h
      · subst e
        simpa [State.inFault, State.devState, State.getF, F.HOST_STATE_STATE, F.HOST_STATE_PREV, h] using x
      · exact absurd x h
    · simpa [State.inFault, State.devState, State.getF, Ne.symm e] using x
  · by_cases e : r = .GLV_CTL
    · rcases h2 e with h | h
      · subst e
        simpa [State.glvLocked, State.getB, F.GLV_CTL_LOCK, h] using x
      · subst e
        simpa [State.glvLocked, State.getB, F.GLV_CTL_LOCK] using h
    · simpa [State.glvLocked, State.getB, Ne.symm e] using x

theorem State.setReg_kept_weak {r : Reg} {w : Word} : Kept false s (s.setReg r w) :=
  ⟨rfl, Nat.le_refl _, fun c => ⟨c.mem, SMap.wf_set c.regs, c.undef, c.eccSoft, c.eccBad, c.eng, c.sec, c.dma, c.chan, c.queue, c.lane,
    c.svc, c.cku⟩, nofun, nofun⟩

theorem State.setReg_kept {r : Reg} {w : Word} (hr : r.quiet = true) (h : Kept b a s) : Kept b a (s.setReg r w) :=
  h.trans (State.setReg_keep (fun e => absurd e.symm (Reg.quiet_ne hr).1) (fun e => absurd e.symm (Reg.quiet_ne hr).2))

/-- A field that Kept does not look at. -/
def quietField (r : Reg) (f : Nat × Nat) : Bool :=
  r.quiet || (decide (r = .HOST_STATE) && decide (8 < f.2 ∧ f.1 < 18)) || (decide (r = .GLV_CTL) && decide (0 < f.2))

theorem State.setF_kept {r : Reg} {f : Nat × Nat} {v : Nat} (hr : quietField r f = true) (h : Kept b a s) : Kept b a (s.setF r f v) := by
  simp only [quietField, Bool.or_eq_true, Bool.and_eq_true, decide_eq_true_eq] at hr
  rcases hr with (hr | ⟨e, h1⟩) | ⟨e, h1⟩
  · exact State.setReg_kept hr h
  · subst e
    exact h.trans (State.setReg_keep (fun _ => .inl ⟨fld_setFld_ne (.inl h1.1), fld_setFld_ne (.inr h1.2)⟩) nofun)
  · subst e
    refine h.trans (State.setReg_keep nofun (fun _ => .inl ?_))
    rw [bit_setFld (by omega)]
    simp only [Nat.le_zero_eq, Nat.zero_le, and_true, ite_eq_right_iff]
    omega

theorem State.setB_kept {r : Reg} {f : Nat × Nat} {v : Bool} (hr : quietField r f = true) (h : Kept b a s) : Kept b a (s.setB r f v) :=
  State.setF_kept hr h

theorem State.incF_kept {r : Reg} {f : Nat × Nat} {n : Nat} (hr : quietField r f = true) (h : Kept b a s) : Kept b a (s.incF r f n) :=
  State.setF_kept hr h

theorem State.setLock_kept (h : Kept b a s) : Kept b a (s.setB .GLV_CTL F.GLV_CTL_LOCK true) := by
  refine h.trans (State.setReg_keep nofun (fun _ => .inr ?_))
  simp [F.GLV_CTL_LOCK, bit_setFld]

theorem State.setEngine_kept {n : Nat} {x : Engine} (h : Kept b a s) : Kept b a (s.setEngine n x) :=
  h.trans ⟨rfl, Nat.le_refl _, fun c => ⟨c.mem, c.regs, c.undef, c.eccSoft, c.eccBad, SMap.wf_set c.eng, c.sec, c.dma, c.chan, c.queue, c.lane,
    c.svc, c.cku⟩, fun _ => id, fun _ => id⟩
theorem State.modEngine_kept {n : Nat} {f : Engine → Engine} (h : Kept b a s) : Kept b a (s.modEngine n f) := State.setEngine_kept h
theorem State.setSect_kept {n : Nat} {x : Section} (h : Kept b a s) : Kept b a (s.setSect n x) :=
  h.trans ⟨rfl, Nat.le_refl _, fun c => ⟨c.mem, c.regs, c.undef, c.eccSoft, c.eccBad, c.eng, SMap.wf_set c.sec, c.dma, c.chan, c.queue, c.lane,
    c.svc, c.cku⟩, fun _ => id, fun _ => id⟩
theorem State.modSect_kept {n : Nat} {f : Section → Section} (h : Kept b a s) : Kept b a (s.modSect n f) := State.setSect_kept h
theorem State.setDma_kept {n : Nat} {x : DmaCtx} (h : Kept b a s) : Kept b a (s.setDma n x) :=
  h.trans ⟨rfl, Nat.le_refl _, fun c => ⟨c.mem, c.regs, c.undef, c.eccSoft, c.eccBad, c.eng, c.sec, SMap.wf_set c.dma, c.chan, c.queue, c.lane,
    c.svc, c.cku⟩, fun _ => id, fun _ => id⟩
theorem State.setCh_kept {n : Nat} {x : Chan} (h : Kept b a s) : Kept b a (s.setCh n x) :=
  h.trans ⟨rfl, Nat.le_refl _, fun c => ⟨c.mem, c.regs, c.undef, c.eccSoft, c.eccBad, c.eng, c.sec, c.dma, SMap.wf_set c.chan, c.queue, c.lane,
    c.svc, c.cku⟩, fun _ => id, fun _ => id⟩
theorem State.modCh_kept {n : Nat} {f : Chan → Chan} (h : Kept b a s) : Kept b a (s.modCh n f) := State.setCh_kept h
theorem State.setQ_kept {n : Nat} {x : Queue} (h : Kept b a s) : Kept b a (s.setQ n x) :=
  h.trans ⟨rfl, Nat.le_refl _, fun c => ⟨c.mem, c.regs, c.undef, c.eccSoft, c.eccBad, c.eng, c.sec, c.dma, c.chan, SMap.wf_set c.queue, c.lane,
    c.svc, c.cku⟩, fun _ => id, fun _ => id⟩
theorem State.setLn_kept {n : Nat} {x : Lane} (h : Kept b a s) : Kept b a (s.setLn n x) :=
  h.trans ⟨rfl, Nat.le_refl _, fun c => ⟨c.mem, c.regs, c.undef, c.eccSoft, c.eccBad, c.eng, c.sec, c.dma, c.chan, c.queue, SMap.wf_set c.lane,
    c.svc, c.cku⟩, fun _ => id, fun _ => id⟩
theorem State.modLn_kept {n : Nat} {f : Lane → Lane} (h : Kept b a s) : Kept b a (s.modLn n f) := State.setLn_kept h
theorem State.setSv_kept {n : Nat} {x : Svc} (h : Kept b a s) : Kept b a (s.setSv n x) :=
  h.trans ⟨rfl, Nat.le_refl _, fun c => ⟨c.mem, c.regs, c.undef, c.eccSoft, c.eccBad, c.eng, c.sec, c.dma, c.chan, c.queue, c.lane,
    SMap.wf_set c.svc, c.cku⟩, fun _ => id, fun _ => id⟩
theorem State.setCku_kept {n : Nat} {x : Cku} (h : Kept b a s) : Kept b a (s.setCku n x) :=
  h.trans ⟨rfl, Nat.le_refl _, fun c => ⟨c.mem, c.regs, c.undef, c.eccSoft, c.eccBad, c.eng, c.sec, c.dma, c.chan, c.queue, c.lane, c.svc,
    SMap.wf_set c.cku⟩, fun _ => id, fun _ => id⟩
theorem State.updEng_kept {f : Nat → Engine → Engine} (h : Kept b a s) :
    Kept b a { s with eng := SMap.update (fun _ => Engine.reset) f s.eng } :=
  h.trans ⟨rfl, Nat.le_refl _, fun c => ⟨c.mem, c.regs, c.undef, c.eccSoft, c.eccBad, SMap.wf_update f c.eng, c.sec, c.dma, c.chan, c.queue, c.lane,
    c.svc, c.cku⟩, fun _ => id, fun _ => id⟩
theorem State.updChan_kept {f : Nat → Chan → Chan} (h : Kept b a s) :
    Kept b a { s with chan := SMap.update (fun _ => Chan.reset) f s.chan } :=
  h.trans ⟨rfl, Nat.le_refl _, fun c => ⟨c.mem, c.regs, c.undef, c.eccSoft, c.eccBad, c.eng, c.sec, c.dma, SMap.wf_update f c.chan, c.queue, c.lane,
    c.svc, c.cku⟩, fun _ => id, fun _ => id⟩
theorem State.markBad_kept {ca : Nat} (h : Kept b a s) : Kept b a (s.markBad ca) := by
  unfold State.markBad
  split
  · exact State.modCh_kept (Kept.upd (s := s) rfl (Nat.le_succ _) h)
  · exact h.trans ⟨rfl, Nat.le_refl _, fun c => ⟨c.mem, c.regs, c.undef, c.eccSoft, (show SMap.wf _ (SMap.set (fun _ => false) s.eccBad (ca / 4) true) = true from SMap.wf_set c.eccBad), c.eng, c.sec, c.dma, c.chan, c.queue, c.lane,
    c.svc, c.cku⟩, fun _ => id, fun _ => id⟩
theorem State.markSoft_kept {ca : Nat} (h : Kept b a s) : Kept b a (s.markSoft ca) :=
  h.trans ⟨rfl, Nat.le_refl _, fun c => ⟨c.mem, c.regs, c.undef, (show SMap.wf _ (SMap.set (fun _ => false) s.eccSoft (ca / 4) true) = true from SMap.wf_set c.eccSoft), c.eccBad, c.eng, c.sec, c.dma, c.chan, c.queue, c.lane,
    c.svc, c.cku⟩, fun _ => id, fun _ => id⟩

theorem State.updSoft_kept {k : Nat} {v : Bool} (h : Kept b a s) :
    Kept b a { s with eccSoft := SMap.set (fun _ => false) s.eccSoft k v } :=
  h.trans ⟨rfl, Nat.le_refl _, fun c => ⟨c.mem, c.regs, c.undef, SMap.wf_set c.eccSoft, c.eccBad, c.eng, c.sec, c.dma, c.chan, c.queue, c.lane,
    c.svc, c.cku⟩, fun _ => id, fun _ => id⟩

theorem State.setWord_kept {ca : Nat} {w : Word} (h : Kept b a s) : Kept b a (s.setWord ca w) := by
  unfold State.setWord
  split
  · exact h
  · refine State.updEng_kept (h.trans ⟨rfl, Nat.le_refl _, fun c => ⟨SMap.wf_set c.mem, c.regs, c.undef,
      (show SMap.wf _ (SMap.set (fun _ => false) s.eccSoft (ca / 4) false) = true from SMap.wf_set c.eccSoft),
      (show SMap.wf _ (SMap.set (fun _ => false) s.eccBad (ca / 4) false) = true from SMap.wf_set c.eccBad),
      c.eng, c.sec, c.dma, c.chan, c.queue, c.lane, c.svc, c.cku⟩, fun _ => id, fun _ => id⟩)

theorem MemId.key_inj {m m' : MemId} (h : m.key = m'.key) : m = m' := by
  cases m <;> cases m' <;> simp only [MemId.key] at h <;> first | rfl | (congr 1; omega)

/-- The generation of one memory leaves what the words of the others read as. -/
theorem memDflt_set {u : SMap Nat} {m : MemId} {g k : Nat} (h : memOf (4 * k) ≠ some m) :
    memDflt (SMap.set (fun _ => 0) u m.key g) k = memDflt u k := by
  unfold memDflt
  cases e : memOf (4 * k) with
  | none => rfl
  | some m' =>
    have : m'.key ≠ m.key := fun e' => h (by rw [e, MemId.key_inj e'])
    simp only [SMap.get_set_ne this]

theorem State.resetMem_kept {m : MemId} {g : Nat} (h : Kept b a s) : Kept b a (s.resetMem m g) := by
  refine h.trans ⟨rfl, Nat.le_refl _, fun c => ⟨?_, c.regs, SMap.wf_set c.undef, (show SMap.wf _ (SMap.drop (fun k => decide (memOf (4 * k) = some m)) s.eccSoft) = true from SMap.wf_drop _ c.eccSoft),
    (show SMap.wf _ (SMap.drop (fun k => decide (memOf (4 * k) = some m)) s.eccBad) = true from SMap.wf_drop _ c.eccBad),
    c.eng, c.sec, c.dma, c.chan, c.queue, c.lane, c.svc, c.cku⟩, fun _ => id, fun _ => id⟩
  change SMap.wfFrom (memDflt (SMap.set (fun _ => 0) s.undef m.key g)) 0
    (SMap.drop (fun k => decide (memOf (4 * k) = some m)) s.mem) = true
  refine SMap.wfFrom_congr (fun e he => ?_) (SMap.wf_drop _ c.mem)
  simp only [SMap.drop, List.mem_filter, Bool.not_eq_true', decide_eq_false_iff_not] at he
  exact (memDflt_set he.2).symm

theorem State.zeroMem_kept {m : MemId} (h : Kept b a s) : Kept b a (s.zeroMem m) := State.resetMem_kept h

theorem State.scramble_kept {m : MemId} (h : Kept b a s) : Kept b a (s.scramble m) :=
  Kept.upd (s := s.resetMem m (s.fresh + 1)) rfl (Nat.le_succ _) (State.resetMem_kept h)

theorem State.drawNat_kept {n : Nat} (h : Kept b a s) : Kept b a (s.drawNat n).2 := Kept.draw h

theorem State.ibi_kept {n : Nat} (h : Kept b a s) : Kept b a (s.ibi n) := by
  unfold State.ibi
  exact Kept.dite (fun _ => Kept.all h) (fun _ => h)

theorem State.devState_setReg_state {w : Word} : (s.setReg .HOST_STATE w).devState = fld w 8 0 := by
  simp [State.devState, State.getF, F.HOST_STATE_STATE]

theorem State.prev_setReg_state {w : Word} : (s.setReg .HOST_STATE w).getF .HOST_STATE F.HOST_STATE_PREV = fld w 26 18 := by
  simp [State.getF, F.HOST_STATE_PREV]

/-- A change of one of the two state registers that leaves FAULT standing. -/
theorem State.setStateWord_kept {w : Word} (hw : s.inFault → fld w 8 0 = 7 ∨ (fld w 8 0 = 6 ∧ fld w 26 18 = 7)) (h : Kept b a s) :
    Kept b a (s.setReg .HOST_STATE w) := by
  have k : Kept false s (s.setReg .HOST_STATE w) := State.setReg_kept_weak
  refine h.trans ⟨rfl, Nat.le_refl _, k.canon, fun _ x => ?_, fun _ x => ?_⟩
  · simpa [State.inFault, State.devState_setReg_state, State.prev_setReg_state] using hw x
  · simpa [State.glvLocked, State.getB] using x

theorem State.setDevState_kept {v : Nat} (hv : s.inFault → v = 7) (h : Kept b a s) : Kept b a (s.setDevState v) := by
  unfold State.setDevState
  refine Kept.dite (fun _ => h) (fun _ => State.ibi_kept (State.setStateWord_kept (fun x => .inl ?_) h))
  rw [hv x]
  exact fld_setFld_self (by decide)

/-- SAFE entered from another state keeps FAULT in PREV (R412). -/
theorem State.toSafe_kept (hs : s.devState ≠ 6) (h : Kept b a s) :
    Kept b a ((s.setF .HOST_STATE F.HOST_STATE_PREV s.devState).setDevState 6) := by
  have e : (s.setF .HOST_STATE F.HOST_STATE_PREV s.devState).devState = s.devState := by
    simp [State.setF, F.HOST_STATE_PREV, State.devState, State.getF, F.HOST_STATE_STATE, fld_setFld_ne]
  have f : (s.setF .HOST_STATE F.HOST_STATE_PREV s.devState).getF .HOST_STATE F.HOST_STATE_PREV = s.devState := by
    rw [State.setF, State.prev_setReg_state]
    simp only [F.HOST_STATE_PREV]
    rw [fld_setFld_self (by decide), Nat.mod_eq_of_lt (show s.devState < _ from fld_lt _ 8 0)]
  unfold State.setDevState
  rw [if_neg (by rw [e]; exact hs), State.setF, State.setF]
  have k : Kept false s (State.setReg (s.setReg .HOST_STATE (setFld (s.reg .HOST_STATE) F.HOST_STATE_PREV.1 F.HOST_STATE_PREV.2 s.devState)) .HOST_STATE
      (setFld ((s.setReg .HOST_STATE (setFld (s.reg .HOST_STATE) F.HOST_STATE_PREV.1 F.HOST_STATE_PREV.2 s.devState)).reg .HOST_STATE)
        F.HOST_STATE_STATE.1 F.HOST_STATE_STATE.2 6)) := State.setReg_kept_weak.trans State.setReg_kept_weak
  refine State.ibi_kept (h.trans ⟨rfl, Nat.le_refl _, k.canon, fun _ x => .inr ⟨?_, ?_⟩, fun _ x => ?_⟩)
  · rw [State.devState_setReg_state]
    exact fld_setFld_self (by decide)
  · rw [State.prev_setReg_state, State.reg_setReg, if_pos rfl]
    simp only [F.HOST_STATE_STATE, F.HOST_STATE_PREV]
    rw [fld_setFld_ne (.inr (by decide)), fld_setFld_self (by decide), Nat.mod_eq_of_lt (show s.devState < _ from fld_lt _ 8 0)]
    exact x.resolve_right (fun y => hs y.1)
  · simpa [State.glvLocked, State.getB] using x

/-- SAFE is left for the state in PREV (R411). -/
theorem State.leaveSafe_kept (hs : s.devState = 6) (h : Kept b a s) :
    Kept b a (s.setDevState (s.getF .HOST_STATE F.HOST_STATE_PREV)) := by
  refine State.setDevState_kept (fun x => ?_) h
  rcases x with x | x
  · rw [hs] at x
    exact absurd x (by decide)
  · exact x.2

theorem State.inFault_base (h : s.inFault) : s.baseState = 7 := by
  unfold State.baseState
  rcases h with e | e
  · rw [if_neg (by rw [e]; decide), e]
  · rw [if_pos e.1, e.2]

theorem State.moveDevState_kept {v : Nat} (h : Kept b a s) : Kept b a (s.moveDevState v) := by
  unfold State.moveDevState
  refine Kept.dite (fun _ => h) (fun h1 => ?_)
  have hf : ¬ s.inFault := fun e => h1 (State.inFault_base e)
  exact Kept.dite (fun _ => h.trans (State.setReg_keep (fun _ => .inr hf) nofun)) (fun _ => State.setDevState_kept (fun e => absurd e hf) h)

/-- A read that clears RC fields moves nothing that Kept looks at. -/
theorem State.readClear_kept {r : Reg} (h : Kept b a s) : Kept b a (s.setReg r (readClear r.fields (s.reg r))) := by
  refine h.trans (State.setReg_keep (fun e => .inl ?_) (fun e => .inl ?_))
  · subst e
    simp [readClear, Reg.fields]
  · subst e
    simp [readClear, Reg.fields]

/-- The same for the fate of a bundle: the state before it and the state after. -/
def FateKept (b : Bool) (a : State) : Fate → Prop
  | .fault _ p t | .halt _ _ p t | .issue p t => Kept b a p ∧ Kept b a t
  | .wait t => Kept b a t

theorem FateKept.fault {tr : OpTrap} (h : Kept b a s) (h' : Kept b a t) : FateKept b a (.fault tr s t) := ⟨h, h'⟩
theorem FateKept.halt {c k : Nat} (h : Kept b a s) (h' : Kept b a t) : FateKept b a (.halt c k s t) := ⟨h, h'⟩
theorem FateKept.wait (h : Kept b a s) : FateKept b a (.wait s) := h
theorem FateKept.issue (h : Kept b a s) (h' : Kept b a t) : FateKept b a (.issue s t) := ⟨h, h'⟩

theorem FateKept.cast {o : Fate} (e : o = .wait s) (h : FateKept b a o) : Kept b a s := by subst e; exact h
theorem FateKept.issuePre {o : Fate} (e : o = .issue s t) (h : FateKept b a o) : Kept b a s := by subst e; exact h.1
theorem FateKept.issuePost {o : Fate} (e : o = .issue s t) (h : FateKept b a o) : Kept b a t := by subst e; exact h.2
theorem FateKept.faultPre {o : Fate} {tr : OpTrap} (e : o = .fault tr s t) (h : FateKept b a o) : Kept b a s := by subst e; exact h.1
theorem FateKept.faultPost {o : Fate} {tr : OpTrap} (e : o = .fault tr s t) (h : FateKept b a o) : Kept b a t := by subst e; exact h.2
theorem FateKept.haltPre {o : Fate} {c k : Nat} (e : o = .halt c k s t) (h : FateKept b a o) : Kept b a s := by subst e; exact h.1
theorem FateKept.haltPost {o : Fate} {c k : Nat} (e : o = .halt c k s t) (h : FateKept b a o) : Kept b a t := by subst e; exact h.2

theorem FateKept.dite {c : Prop} [Decidable c] {x y : Fate} (h1 : c → FateKept b a x) (h2 : ¬ c → FateKept b a y) :
    FateKept b a (if c then x else y) := by
  split
  · rename_i h
    exact h1 h
  · rename_i h
    exact h2 h

/-- A software write under the access types of a register's fields moves nothing that Kept looks at: the fields are read-only. -/
theorem State.applyWrite_kept {r : Reg} {lk : Bool} {w : Word} (h : Kept b a s) : Kept b a (s.setReg r (applyWrite r.fields lk (s.reg r) w)) := by
  refine h.trans (State.setReg_keep (fun e => .inl ?_) (fun e => .inl ?_))
  · subst e
    simp [applyWrite, Reg.fields]
  · subst e
    simp only [applyWrite, Reg.fields, List.foldl_cons, List.foldl_nil]
    rw [bit_setFld (by omega)]
    simp

theorem State.setFresh_canon {s : State} {n : Nat} (h : Canonical s) : Canonical { s with fresh := n } :=
  ⟨h.mem, h.regs, h.undef, h.eccSoft, h.eccBad, h.eng, h.sec, h.dma, h.chan, h.queue, h.lane, h.svc, h.cku⟩

theorem State.setFresh_kept {n : Nat} (h : Kept b a s) (f : s.fresh ≤ n) : Kept b a { s with fresh := n } :=
  Kept.upd (s := s) rfl f h

theorem State.otpFound_regs (s : State) (l : List (Fin 1024)) : (s.otpFound l).regs = s.regs := by
  unfold State.otpFound
  induction l generalizing s with
  | nil => rfl
  | cons w l ih => exact ih _

theorem State.addSpares_regs (s : State) (l : List (Nat × Nat × Nat × Nat)) : (s.addSpares l).regs = s.regs := by
  unfold State.addSpares
  induction l generalizing s with
  | nil => rfl
  | cons x l ih => exact ih _

end Sys2Proof.Machine
end

