-- ==== Sys2Proof/Laws/KeptOps.lean ====
section
/-! SUPPORT. What each operation of Machine/Ops.lean keeps (Laws/Kept.lean). -/

set_option maxRecDepth 4000

namespace Sys2Proof.Machine

theorem State.logEvt_kept {kb : Bool} {ka : State} {s : State} {src : Nat} {data : Nat} (h1 : Kept kb ka s) :
    Kept kb ka (State.logEvt s src data) := by
  unfold State.logEvt
  extract_lets y1 y2 y3 y4
  clear_value y2
  clear_value y3
  clear_value y4
  refine Kept.dite (fun _ => ?_) (fun _ => ?_)
  · refine Kept.all ?_
    assumption
  · assumption

theorem State.healthEvt_kept {kb : Bool} {ka : State} {s : State} {code : Nat} {value : Nat} (h1 : Kept kb ka s) :
    Kept kb ka (State.healthEvt s code value) := by
  unfold State.healthEvt
  extract_lets y1 y2
  clear_value y1
  clear_value y2
  refine Kept.all ?_
  assumption

theorem State.eccLog_kept {kb : Bool} {ka : State} {s : State} {sc : Nat} {ca : Nat} (h1 : Kept kb ka s) :
    Kept kb ka (State.eccLog s sc ca) := by
  unfold State.eccLog
  refine State.logEvt_kept ?_
  refine State.setReg_kept rfl ?_
  refine State.incF_kept rfl ?_
  assumption

theorem State.eccUncorrectable_kept {kb : Bool} {ka : State} {s : State} {ca : Nat} (h1 : Kept kb ka s) :
    Kept kb ka (State.eccUncorrectable s ca) := by
  unfold State.eccUncorrectable
  extract_lets y1
  have g1 : Kept kb ka y1 := by
    unfold y1
    refine State.markBad_kept ?_
    assumption
  clear_value y1
  split
  · rename_i v1 v2
    refine State.logEvt_kept ?_
    refine State.healthEvt_kept ?_
    refine State.setB_kept rfl ?_
    refine State.setReg_kept rfl ?_
    refine State.incF_kept rfl ?_
    assumption
  · rename_i v3 v4
    refine State.logEvt_kept ?_
    refine State.healthEvt_kept ?_
    refine State.setB_kept rfl ?_
    refine State.setReg_kept rfl ?_
    refine State.incF_kept rfl ?_
    assumption
  · rename_i v5 v6 v7 v8 v9
    split
    · rename_i v10 v11 v12
      refine State.eccLog_kept ?_
      assumption
    · rename_i v13 v14
      assumption
  · rename_i v15 v16
    assumption

theorem State.sectStall_kept {kb : Bool} {ka : State} {s : State} {k : Nat} {c : Nat} {d : Nat} (h1 : Kept kb ka s) :
    Kept kb ka (State.sectStall s k c d) := by
  unfold State.sectStall
  extract_lets y1 y2
  clear_value y1
  clear_value y2
  refine Kept.dite (fun _ => ?_) (fun _ => ?_)
  · assumption
  · refine State.setSect_kept ?_
    assumption

theorem State.eccCount_kept {kb : Bool} {ka : State} {s : State} {sec : Option Nat} {reader : Reader} (h1 : Kept kb ka s) :
    Kept kb ka (State.eccCount s sec reader) := by
  unfold State.eccCount
  extract_lets y1
  have g1 : Kept kb ka y1 := by
    unfold y1
    split
    · rename_i v1 v2
      refine State.incF_kept rfl ?_
      assumption
    · rename_i v3
      assumption
  clear_value y1
  split
  · rename_i v4 v5
    extract_lets y2
    have g2 : Kept kb ka y2 := by
      unfold y2
      refine State.modEngine_kept ?_
      assumption
    clear_value y2
    refine Kept.dite (fun _ => ?_) (fun _ => ?_)
    · refine State.sectStall_kept ?_
      assumption
    · assumption
  · rename_i v6 v7
    refine State.modSect_kept ?_
    assumption
  · rename_i v8
    assumption

theorem State.eccCorrected_kept {kb : Bool} {ka : State} {s : State} {ca : Nat} {reader : Reader} (h1 : Kept kb ka s) :
    Kept kb ka (State.eccCorrected s ca reader) := by
  unfold State.eccCorrected
  refine State.eccCount_kept ?_
  refine State.markSoft_kept ?_
  assumption

theorem State.softRead_kept {kb : Bool} {ka : State} {s : State} {ca : Nat} {reader : Reader} (h1 : Kept kb ka s) :
    Kept kb ka (State.softRead s ca reader) := by
  unfold State.softRead
  refine Kept.dite (fun _ => ?_) (fun _ => ?_)
  · refine State.eccCorrected_kept ?_
    assumption
  · assumption

theorem State.cntCatch_kept {kb : Bool} {ka : State} {s : State} {e : Nat} (h1 : Kept kb ka s) :
    Kept kb ka (State.cntCatch s e) := by
  unfold State.cntCatch
  extract_lets y1
  clear_value y1
  refine Kept.dite (fun _ => ?_) (fun _ => ?_)
  · assumption
  · refine Kept.foldl (fun st1 x1 g1 => ?_) ?_
    · extract_lets y2
      have g2 : Kept kb ka y2.2 := by
        unfold y2
        refine State.drawNat_kept ?_
        assumption
      clear_value y2
      refine State.modEngine_kept ?_
      assumption
    · refine State.setEngine_kept ?_
      assumption

theorem State.clearResv_kept {kb : Bool} {ka : State} {s : State} {k : Nat} (h1 : Kept kb ka s) :
    Kept kb ka (State.clearResv s k) := by
  unfold State.clearResv
  extract_lets y1
  unfold y1
  refine State.updEng_kept ?_
  assumption

theorem State.setWords_kept {kb : Bool} {ka : State} {s : State} {ca : Nat} {o2 : List Word} (h1 : Kept kb ka s) :
    Kept kb ka (State.setWords s ca o2) := by
  unfold State.setWords
  split
  · rename_i v1
    assumption
  · rename_i v2 v3 v4
    refine State.setWords_kept ?_
    refine State.setWord_kept ?_
    assumption

theorem State.softReads_kept {kb : Bool} {ka : State} {s : State} {ca : Nat} {n : Nat} {reader : Reader} (h1 : Kept kb ka s) :
    Kept kb ka (State.softReads s ca n reader) := by
  unfold State.softReads
  refine Kept.dite (fun _ => ?_) (fun _ => ?_)
  · assumption
  · refine Kept.foldl (fun st1 x1 g1 => ?_) ?_
    · refine State.softRead_kept ?_
      assumption
    · assumption

theorem State.storeWordBytes_kept {kb : Bool} {ka : State} {s : State} {ca : Nat} {bs : List Byte9} {k : Nat} (h1 : Kept kb ka s) :
    Kept kb ka (State.storeWordBytes s ca bs k) := by
  unfold State.storeWordBytes
  extract_lets y1 y2 y3 y4
  clear_value y2
  have g1 : Kept kb ka y3 := by
    unfold y3
    refine State.eccUncorrectable_kept ?_
    assumption
  clear_value y3
  clear_value y4
  refine Kept.dite (fun _ => ?_) (fun _ => ?_)
  · split
    · rename_i v1 v2 v3 v4
      refine State.setB_kept rfl ?_
      assumption
    · rename_i v5 v6 v7
      assumption
  · refine State.setWord_kept ?_
    assumption

theorem State.storeBytes_kept {kb : Bool} {ka : State} {s : State} {ca : Nat} {bs : List Byte9} (h1 : Kept kb ka s) :
    Kept kb ka (State.storeBytes s ca bs) := by
  unfold State.storeBytes
  refine Kept.dite (fun _ => ?_) (fun _ => ?_)
  · assumption
  · refine Kept.foldl (fun st1 x1 g1 => ?_) ?_
    · refine State.storeWordBytes_kept ?_
      assumption
    · assumption

theorem State.upset_kept {kb : Bool} {ka : State} {s : State} {l : List Upset} (h1 : Kept kb ka s) :
    Kept kb ka (State.upset s l) := by
  unfold State.upset
  refine Kept.foldl (fun st1 x1 g1 => ?_) ?_
  · refine Kept.dite (fun _ => ?_) (fun _ => ?_)
    · assumption
    · refine Kept.dite (fun _ => ?_) (fun _ => ?_)
      · refine State.markBad_kept ?_
        assumption
      · refine State.markSoft_kept ?_
        assumption
  · assumption

theorem State.upsetCache_kept {kb : Bool} {ka : State} {s : State} {e : Nat} {l : List Upset} (h1 : Kept kb ka s) :
    Kept kb ka (State.upsetCache s e l) := by
  unfold State.upsetCache
  refine State.modEngine_kept ?_
  assumption

end Sys2Proof.Machine
end

