-- ==== Sys2Proof/Laws/KeptSignal.lean ====
section
/-! SUPPORT. What each operation of Machine/Signal.lean keeps (Laws/Kept.lean). -/

set_option maxRecDepth 4000

namespace Sys2Proof.Machine

theorem State.fireGong_kept {kb : Bool} {ka : State} {s : State} {g : Nat} (h1 : Kept kb ka s) :
    Kept kb ka (State.fireGong s g) := by
  unfold State.fireGong
  extract_lets y1 y2 y3
  have g1 : Kept kb ka y1 := by
    unfold y1
    refine State.incF_kept rfl ?_
    refine State.setB_kept rfl ?_
    assumption
  clear_value y1
  clear_value y2
  clear_value y3
  refine Kept.all ?_
  assumption

theorem State.fireSource_kept {kb : Bool} {ka : State} {s : State} {src : Nat × Nat} (h1 : Kept kb ka s) :
    Kept kb ka (State.fireSource s src) := by
  unfold State.fireSource
  refine Kept.foldl (fun st1 x1 g1 => ?_) ?_
  · refine Kept.dite (fun _ => ?_) (fun _ => ?_)
    · refine State.fireGong_kept ?_
      assumption
    · assumption
  · assumption

theorem State.withAlert_kept {kb : Bool} {ka : State} {s : State} {f : State → State} (h1 : Kept kb ka s) (hf2 : ∀ st, Kept kb ka st → Kept kb ka (f st)) :
    Kept kb ka (State.withAlert s f) := by
  unfold State.withAlert
  extract_lets y1
  have g1 : Kept kb ka y1 := by
    unfold y1
    refine hf2 _ ?_
    assumption
  clear_value y1
  refine Kept.dite (fun _ => ?_) (fun _ => ?_)
  · refine State.ibi_kept ?_
    assumption
  · assumption

theorem State.safeLevel_kept {kb : Bool} {ka : State} {s : State} {low : Bool} (h1 : Kept kb ka s) :
    Kept kb ka (State.safeLevel s low) := by
  unfold State.safeLevel
  extract_lets y1
  clear_value y1
  refine Kept.all ?_
  assumption

end Sys2Proof.Machine
end

