-- ==== Sys2Proof/Laws/KeptGlove.lean ====
section
/-! SUPPORT. What each operation of Machine/Glove.lean keeps (Laws/Kept.lean). -/

set_option maxRecDepth 4000

namespace Sys2Proof.Machine

theorem State.forChannels_kept {kb : Bool} {ka : State} {s : State} {p : Nat → Chan → Bool} {f : State → Nat → State} (h1 : Kept kb ka s) (hf3 : ∀ st x, Kept kb ka st → Kept kb ka (f st x)) :
    Kept kb ka (State.forChannels s p f) := by
  unfold State.forChannels
  refine Kept.foldl (fun st1 x1 g1 => ?_) ?_
  · refine Kept.dite (fun _ => ?_) (fun _ => ?_)
    · refine hf3 _ _ ?_
      assumption
    · assumption
  · assumption

theorem State.glvPostTrip_kept {kb : Bool} {ka : State} {s : State} {c : Nat} {cause : Nat} (h1 : Kept kb ka s) :
    Kept kb ka (State.glvPostTrip s c cause) := by
  unfold State.glvPostTrip
  extract_lets y1 y2
  clear_value y1
  clear_value y2
  split
  rename_i v1 v2 v3 v4
  extract_lets y3 y4
  have g1 : Kept kb ka y3 := by
    unfold y3
    refine Kept.all ?_
    assumption
  clear_value y3
  have g2 : Kept kb ka y4 := by
    unfold y4
    refine Kept.dite (fun _ => ?_) (fun _ => ?_)
    · refine State.setB_kept rfl ?_
      assumption
    · assumption
  clear_value y4
  refine State.fireSource_kept ?_
  refine State.incF_kept rfl ?_
  assumption

theorem State.glvEnter_kept {kb : Bool} {ka : State} {s : State} {c : Nat} {trip : Bool} {cause : Nat} {act : Nat} (h1 : Kept kb ka s) :
    Kept kb ka (State.glvEnter s c trip cause act) := by
  unfold State.glvEnter
  extract_lets y1 y2 y3 y4 y5 y6 y7 y8
  clear_value y1
  clear_value y2
  clear_value y3
  clear_value y4
  clear_value y5
  clear_value y6
  have g1 : Kept kb ka y8 := by
    unfold y8
    refine State.setCh_kept ?_
    assumption
  clear_value y8
  refine Kept.dite (fun _ => ?_) (fun _ => ?_)
  · refine State.glvPostTrip_kept ?_
    assumption
  · assumption

theorem State.glvTripOpen_kept {kb : Bool} {ka : State} {s : State} {c : Nat} {cause : Nat} (h1 : Kept kb ka s) :
    Kept kb ka (State.glvTripOpen s c cause) := by
  unfold State.glvTripOpen
  refine State.glvEnter_kept ?_
  assumption

theorem State.glvCompare_kept {kb : Bool} {ka : State} {s : State} {c : Nat} (h1 : Kept kb ka s) :
    Kept kb ka (State.glvCompare s c).1 := by
  unfold State.glvCompare
  extract_lets y1
  clear_value y1
  refine Kept.dite1 (fun _ => ?_) (fun _ => ?_)
  · refine Kept.mk1 ?_
    refine State.glvTripOpen_kept ?_
    refine State.withAlert_kept ?_ ?_
    · assumption
    · intro w1 w2
      refine State.setB_kept rfl ?_
      assumption
  · refine Kept.mk1 ?_
    assumption

theorem State.glvUse_kept {kb : Bool} {ka : State} {s : State} {c : Nat} {f : State → State} (h1 : Kept kb ka s) (hf3 : ∀ st, Kept kb ka st → Kept kb ka (f st)) :
    Kept kb ka (State.glvUse s c f) := by
  unfold State.glvUse
  split
  rename_i v1 v2 v3 v4
  have g1 : Kept kb ka v2 := by
    refine Kept.fst v4 ?_
    refine State.glvCompare_kept ?_
    assumption
  refine Kept.dite (fun _ => ?_) (fun _ => ?_)
  · refine hf3 _ ?_
    assumption
  · assumption

theorem State.glvPark_kept {kb : Bool} {ka : State} {s : State} {c : Nat} {cause : Nat} (h1 : Kept kb ka s) :
    Kept kb ka (State.glvPark s c cause) := by
  unfold State.glvPark
  refine State.glvUse_kept ?_ ?_
  · assumption
  · intro w1 w2
    refine State.glvEnter_kept ?_
    assumption

theorem State.glvArm_kept {kb : Bool} {ka : State} {s : State} {c : Nat} (h1 : Kept kb ka s) :
    Kept kb ka (State.glvArm s c) := by
  unfold State.glvArm
  refine State.setCh_kept ?_
  assumption

theorem State.glvUnhalt_kept {kb : Bool} {ka : State} {s : State} {c : Nat} (h1 : Kept kb ka s) :
    Kept kb ka (State.glvUnhalt s c) := by
  unfold State.glvUnhalt
  refine State.glvUse_kept ?_ ?_
  · assumption
  · intro w1 w2
    refine State.glvArm_kept ?_
    assumption

theorem State.glvReadWord_kept {kb : Bool} {ka : State} {s : State} {c : Nat} {k : Nat} (h1 : Kept kb ka s) :
    Kept kb ka (State.glvReadWord s c k).2 := by
  unfold State.glvReadWord
  extract_lets y1 y2 y3 y4 y5
  clear_value y2
  have g1 : Kept kb ka y3 := by
    unfold y3
    refine Kept.dite (fun _ => ?_) (fun _ => ?_)
    · assumption
    · refine State.glvCompare_kept ?_
      assumption
  clear_value y3
  clear_value y5
  refine Kept.dite2 (fun _ => ?_) (fun _ => ?_)
  · refine Kept.mk2 ?_
    assumption
  · split
    rename_i v1 v2 v3 v4 v5
    have g2 : Kept kb ka v4 := by
      refine Kept.snd v5 ?_
      refine State.drawNat_kept ?_
      assumption
    refine Kept.mk2 ?_
    assumption

theorem State.glvRelease_kept {kb : Bool} {ka : State} {s : State} {c : Nat} (h1 : Kept kb ka s) :
    Kept kb ka (State.glvRelease s c).1 := by
  unfold State.glvRelease
  split
  rename_i v1 v2 v3 v4
  have g1 : Kept kb ka v2 := by
    refine Kept.fst v4 ?_
    refine State.glvCompare_kept ?_
    assumption
  refine Kept.dite1 (fun _ => ?_) (fun _ => ?_)
  · refine Kept.mk1 ?_
    assumption
  · refine Kept.dite1 (fun _ => ?_) (fun _ => ?_)
    · refine Kept.mk1 ?_
      refine State.setB_kept rfl ?_
      assumption
    · refine Kept.mk1 ?_
      refine State.glvArm_kept ?_
      assumption

theorem State.glvTripStale_kept {kb : Bool} {ka : State} {s : State} {c : Nat} {cause : Nat} (h1 : Kept kb ka s) :
    Kept kb ka (State.glvTripStale s c cause) := by
  unfold State.glvTripStale
  refine State.glvEnter_kept ?_
  assumption

theorem State.glvLink_kept {kb : Bool} {ka : State} {s : State} {c : Nat} (h1 : Kept kb ka s) :
    Kept kb ka (State.glvLink s c) := by
  unfold State.glvLink
  refine State.glvUse_kept ?_ ?_
  · assumption
  · intro w1 w2
    refine State.glvTripStale_kept ?_
    assumption

theorem State.glvTripUp_kept {kb : Bool} {ka : State} {s : State} {c : Nat} {cause : Nat} (h1 : Kept kb ka s) :
    Kept kb ka (State.glvTripUp s c cause) := by
  unfold State.glvTripUp
  refine State.glvEnter_kept ?_
  assumption

theorem State.glvUpstream_kept {kb : Bool} {ka : State} {s : State} {c : Nat} {w0 : Word} {w1 : Word} {w2 : Word} {w3 : Word} (h1 : Kept kb ka s) :
    Kept kb ka (State.glvUpstream s c w0 w1 w2 w3) := by
  unfold State.glvUpstream
  split
  rename_i v1 v2 v3 v4
  have g1 : Kept kb ka v2 := by
    refine Kept.fst v4 ?_
    refine State.glvCompare_kept ?_
    assumption
  extract_lets y1 y2 y3
  clear_value y1
  clear_value y2
  have g2 : Kept kb ka y3 := by
    unfold y3
    refine State.setCh_kept ?_
    assumption
  clear_value y3
  refine Kept.dite (fun _ => ?_) (fun _ => ?_)
  · assumption
  · refine Kept.dite (fun _ => ?_) (fun _ => ?_)
    · assumption
    · refine Kept.dite (fun _ => ?_) (fun _ => ?_)
      · refine Kept.dite (fun _ => ?_) (fun _ => ?_)
        · refine State.glvTripOpen_kept ?_
          assumption
        · refine Kept.dite (fun _ => ?_) (fun _ => ?_)
          · refine State.glvTripOpen_kept ?_
            assumption
          · assumption
      · split
        · rename_i v5 v6 v7 v8 v9 v10
          have g3 : Kept kb ka v2 := by assumption
          refine Kept.dite (fun _ => ?_) (fun _ => ?_)
          · refine State.glvTripOpen_kept ?_
            refine State.setCh_kept ?_
            assumption
          · refine Kept.dite (fun _ => ?_) (fun _ => ?_)
            · refine Kept.dite (fun _ => ?_) (fun _ => ?_)
              · refine State.glvEnter_kept ?_
                assumption
              · refine State.glvTripUp_kept ?_
                assumption
            · refine State.setCh_kept ?_
              assumption
        · rename_i v11 v12 v13 v14 v15
          have g4 : Kept kb ka v2 := by assumption
          refine Kept.dite (fun _ => ?_) (fun _ => ?_)
          · refine State.glvTripOpen_kept ?_
            assumption
          · assumption

theorem State.glvSlot_kept {kb : Bool} {ka : State} {s : State} {c : Nat} (h1 : Kept kb ka s) :
    Kept kb ka (State.glvSlot s c).2 := by
  unfold State.glvSlot
  extract_lets y1 y2
  clear_value y1
  clear_value y2
  refine Kept.dite2 (fun _ => ?_) (fun _ => ?_)
  · split
    · rename_i v1 v2 v3 v4
      extract_lets y3
      clear_value y3
      refine Kept.mk2 ?_
      refine State.setCh_kept ?_
      assumption
    · rename_i v5 v6 v7
      refine Kept.mk2 ?_
      assumption
  · refine Kept.dite2 (fun _ => ?_) (fun _ => ?_)
    · split
      · rename_i v8 v9 v10 v11 v12
        extract_lets y4
        clear_value y4
        refine Kept.mk2 ?_
        refine State.setCh_kept ?_
        assumption
      · rename_i v13 v14 v15 v16
        split
        rename_i v17 v18 v19 v20
        refine Kept.mk2 ?_
        refine State.setCh_kept ?_
        assumption
    · split
      rename_i v21 v22 v23 v24 v25 v26
      refine Kept.mk2 ?_
      refine State.setCh_kept ?_
      assumption

theorem State.glvHalt_kept {kb : Bool} {ka : State} {s : State} {c : Nat} (h1 : Kept kb ka s) :
    Kept kb ka (State.glvHalt s c) := by
  unfold State.glvHalt
  refine State.glvUse_kept ?_ ?_
  · assumption
  · intro w1 w2
    refine Kept.dite (fun _ => ?_) (fun _ => ?_)
    · refine State.glvEnter_kept ?_
      assumption
    · assumption

theorem State.glvFresh_kept {kb : Bool} {ka : State} {s : State} {c : Nat} {had : Bool} (h1 : Kept kb ka s) :
    Kept kb ka (State.glvFresh s c had) := by
  unfold State.glvFresh
  split
  rename_i v1 v2 v3 v4
  have g1 : Kept kb ka v2 := by
    refine Kept.fst v4 ?_
    refine Kept.dite1 (fun _ => ?_) (fun _ => ?_)
    · refine State.glvCompare_kept ?_
      assumption
    · refine Kept.mk1 ?_
      assumption
  extract_lets y1 y2 y3 y4 y5 y6 y7 y8
  clear_value y1
  clear_value y2
  clear_value y3
  clear_value y4
  clear_value y5
  clear_value y6
  clear_value y7
  have g2 : Kept kb ka y8 := by
    unfold y8
    refine State.setCh_kept ?_
    assumption
  clear_value y8
  refine Kept.dite (fun _ => ?_) (fun _ => ?_)
  · assumption
  · refine Kept.dite (fun _ => ?_) (fun _ => ?_)
    · refine State.glvTripStale_kept ?_
      assumption
    · refine Kept.dite (fun _ => ?_) (fun _ => ?_)
      · refine State.glvTripStale_kept ?_
        assumption
      · assumption

theorem State.glvOwner_kept {kb : Bool} {ka : State} {s : State} {c : Nat} {o : Nat} (h1 : Kept kb ka s) :
    Kept kb ka (State.glvOwner s c o) := by
  unfold State.glvOwner
  refine State.modCh_kept ?_
  refine State.glvCompare_kept ?_
  assumption

theorem State.glvTripDn_kept {kb : Bool} {ka : State} {s : State} {c : Nat} {cause : Nat} (h1 : Kept kb ka s) :
    Kept kb ka (State.glvTripDn s c cause) := by
  unfold State.glvTripDn
  refine State.glvEnter_kept ?_
  assumption

theorem State.glvSetpoint_kept {kb : Bool} {ka : State} {s : State} {e : Nat} {c : Nat} {mode : Nat} {setp : Word} (h1 : Kept kb ka s) :
    Kept kb ka (State.glvSetpoint s e c mode setp) := by
  unfold State.glvSetpoint
  split
  rename_i v1 v2 v3 v4
  have g1 : Kept kb ka v2 := by
    refine Kept.fst v4 ?_
    refine State.glvCompare_kept ?_
    assumption
  extract_lets y1 y2 y3
  clear_value y1
  clear_value y2
  clear_value y3
  refine Kept.dite (fun _ => ?_) (fun _ => ?_)
  · assumption
  · refine Kept.dite (fun _ => ?_) (fun _ => ?_)
    · refine State.setCh_kept ?_
      assumption
    · split
      · rename_i v5 v6 v7 v8 v9
        have g2 : Kept kb ka v2 := by assumption
        refine State.glvTripDn_kept ?_
        refine State.setCh_kept ?_
        assumption
      · rename_i v10 v11 v12 v13
        have g3 : Kept kb ka v2 := by assumption
        refine State.setCh_kept ?_
        assumption

end Sys2Proof.Machine
end

