-- ==== Sys2Proof/Laws/KeptQm.lean ====
section
/-! SUPPORT. What each operation of Machine/Qm.lean keeps (Laws/Kept.lean). -/

set_option maxRecDepth 4000

namespace Sys2Proof.Machine

theorem State.qmReadWord_kept {kb : Bool} {ka : State} {s : State} {ca : Nat} (h1 : Kept kb ka s) :
    Kept kb ka (State.qmReadWord s ca).2 := by
  unfold State.qmReadWord
  refine Kept.dite2 (fun _ => ?_) (fun _ => ?_)
  · refine Kept.mk2 ?_
    refine State.eccUncorrectable_kept ?_
    assumption
  · refine Kept.mk2 ?_
    assumption

theorem State.qmReadWords_kept {kb : Bool} {ka : State} {s : State} {ca : Nat} {o2 : Nat} (h1 : Kept kb ka s) :
    Kept kb ka (State.qmReadWords s ca o2).2 := by
  unfold State.qmReadWords
  split
  · rename_i v1
    refine Kept.mk2 ?_
    assumption
  · rename_i v2 v3
    split
    rename_i v4 v5 v6 v7
    have g1 : Kept kb ka v6 := by
      refine Kept.snd v7 ?_
      refine State.qmReadWord_kept ?_
      assumption
    split
    rename_i v8 v9 v10 v11
    have g2 : Kept kb ka v6 := by assumption
    have g3 : Kept kb ka v10 := by
      refine Kept.snd v11 ?_
      refine State.qmReadWords_kept ?_
      assumption
    refine Kept.mk2 ?_
    assumption

theorem State.qmEvtPop_kept {kb : Bool} {ka : State} {s : State} (h1 : Kept kb ka s) :
    Kept kb ka (State.qmEvtPop s).2 := by
  unfold State.qmEvtPop
  split
  · rename_i v1 v2
    refine Kept.mk2 ?_
    assumption
  · rename_i v3 v4 v5 v6
    refine Kept.mk2 ?_
    refine Kept.all ?_
    assumption

theorem State.qmDrop_kept {kb : Bool} {ka : State} {s : State} {q : Nat} (h1 : Kept kb ka s) :
    Kept kb ka (State.qmDrop s q) := by
  unfold State.qmDrop
  extract_lets y1
  clear_value y1
  refine State.incF_kept rfl ?_
  refine State.setQ_kept ?_
  assumption

theorem State.qmEvent_kept {kb : Bool} {ka : State} {s : State} {q : Nat} {occ : Nat} (h1 : Kept kb ka s) :
    Kept kb ka (State.qmEvent s q occ) := by
  unfold State.qmEvent
  extract_lets y1
  clear_value y1
  split
  rename_i v1 v2 v3 v4
  extract_lets y2
  have g1 : Kept kb ka y2 := by
    unfold y2
    refine Kept.all ?_
    assumption
  clear_value y2
  refine Kept.dite (fun _ => ?_) (fun _ => ?_)
  · refine State.setB_kept rfl ?_
    assumption
  · assumption

theorem State.qmPush_kept {kb : Bool} {ka : State} {s : State} {q : Nat} {ws : List Word} (h1 : Kept kb ka s) :
    Kept kb ka (State.qmPush s q ws).1 := by
  unfold State.qmPush
  extract_lets y1 y2 y3 y4 y5 y6
  clear_value y1
  clear_value y2
  have g1 : Kept kb ka y3 := by
    unfold y3
    refine State.setWords_kept ?_
    assumption
  clear_value y3
  clear_value y4
  have g2 : Kept kb ka y5 := by
    unfold y5
    refine State.setQ_kept ?_
    assumption
  clear_value y5
  clear_value y6
  refine Kept.dite1 (fun _ => ?_) (fun _ => ?_)
  · refine Kept.dite1 (fun _ => ?_) (fun _ => ?_)
    · refine Kept.mk1 ?_
      assumption
    · refine Kept.mk1 ?_
      refine State.qmDrop_kept ?_
      assumption
  · refine Kept.dite1 (fun _ => ?_) (fun _ => ?_)
    · refine Kept.mk1 ?_
      refine State.qmEvent_kept ?_
      assumption
    · refine Kept.mk1 ?_
      assumption

theorem State.qmPushWrite_kept {kb : Bool} {ka : State} {s : State} {w : Word} (h1 : Kept kb ka s) :
    Kept kb ka (State.qmPushWrite s w) := by
  unfold State.qmPushWrite
  extract_lets y1 y2
  clear_value y1
  clear_value y2
  refine Kept.dite (fun _ => ?_) (fun _ => ?_)
  · assumption
  · split
    rename_i v1 v2 v3 v4 v5
    have g1 : Kept kb ka v3 := by
      refine Kept.fst v5 ?_
      refine State.qmPush_kept ?_
      assumption
    extract_lets y3
    have g2 : Kept kb ka y3 := by
      unfold y3
      refine State.setF_kept rfl ?_
      assumption
    clear_value y3
    refine Kept.all ?_
    assumption

theorem State.handoffArm_kept {kb : Bool} {ka : State} {s : State} {w : Word} (h1 : Kept kb ka s) :
    Kept kb ka (State.handoffArm s w) := by
  unfold State.handoffArm
  extract_lets y1 y2 y3
  clear_value y1
  refine Kept.dite (fun _ => ?_) (fun _ => ?_)
  · assumption
  · refine Kept.dite (fun _ => ?_) (fun _ => ?_)
    · refine State.setReg_kept rfl ?_
      assumption
    · refine State.setReg_kept rfl ?_
      assumption

theorem State.handoffCancel_kept {kb : Bool} {ka : State} {s : State} {w : Word} (h1 : Kept kb ka s) :
    Kept kb ka (State.handoffCancel s w) := by
  unfold State.handoffCancel
  refine Kept.dite (fun _ => ?_) (fun _ => ?_)
  · refine State.setB_kept rfl ?_
    refine State.setF_kept rfl ?_
    assumption
  · refine State.setReg_kept rfl ?_
    assumption

theorem State.qmPushFinish_kept {kb : Bool} {ka : State} {s : State} (h1 : Kept kb ka s) :
    Kept kb ka (State.qmPushFinish s) := by
  unfold State.qmPushFinish
  split
  · rename_i v1 v2 v3
    extract_lets y1
    have g1 : Kept kb ka y1 := by
      unfold y1
      refine State.setF_kept rfl ?_
      assumption
    clear_value y1
    refine Kept.all ?_
    assumption
  · rename_i v4 v5
    assumption

theorem State.qmStage_kept {kb : Bool} {ka : State} {s : State} {q : Nat} (h1 : Kept kb ka s) :
    Kept kb ka (State.qmStage s q) := by
  unfold State.qmStage
  extract_lets y1
  clear_value y1
  refine Kept.dite (fun _ => ?_) (fun _ => ?_)
  · split
    rename_i v1 v2 v3 v4 v5
    have g1 : Kept kb ka v4 := by
      refine Kept.snd v5 ?_
      refine State.qmReadWords_kept ?_
      assumption
    refine State.setQ_kept ?_
    assumption
  · refine State.setQ_kept ?_
    assumption

theorem State.qmPopStep_kept {kb : Bool} {ka : State} {s : State} {q : Nat} (h1 : Kept kb ka s) :
    Kept kb ka (State.qmPopStep s q) := by
  unfold State.qmPopStep
  extract_lets y1 y2 y3 y4
  clear_value y1
  clear_value y2
  have g1 : Kept kb ka y3 := by
    unfold y3
    refine State.setQ_kept ?_
    assumption
  clear_value y3
  clear_value y4
  refine Kept.dite (fun _ => ?_) (fun _ => ?_)
  · assumption
  · refine Kept.dite (fun _ => ?_) (fun _ => ?_)
    · refine State.qmEvent_kept ?_
      assumption
    · assumption

theorem State.qmPopRecord_kept {kb : Bool} {ka : State} {s : State} {q : Nat} (h1 : Kept kb ka s) :
    Kept kb ka (State.qmPopRecord s q).2 := by
  unfold State.qmPopRecord
  extract_lets y1
  clear_value y1
  refine Kept.dite2 (fun _ => ?_) (fun _ => ?_)
  · refine Kept.mk2 ?_
    assumption
  · split
    rename_i v1 v2 v3 v4 v5
    have g1 : Kept kb ka v4 := by
      refine Kept.snd v5 ?_
      refine State.qmReadWords_kept ?_
      assumption
    refine Kept.mk2 ?_
    refine State.setQ_kept ?_
    assumption

theorem State.pushReach_kept {kb : Bool} {ka : State} {s : State} {k : Nat} (h1 : Kept kb ka s) :
    Kept kb ka (State.pushReach s k) := by
  unfold State.pushReach
  extract_lets y1
  clear_value y1
  split
  · rename_i v1 v2
    assumption
  · rename_i v3 v4 v5 v6
    refine State.qmPush_kept ?_
    refine State.setSect_kept ?_
    assumption

theorem State.pushReachAll_kept {kb : Bool} {ka : State} {s : State} {k : Nat} {o2 : Nat} (h1 : Kept kb ka s) :
    Kept kb ka (State.pushReachAll s k o2) := by
  unfold State.pushReachAll
  split
  · rename_i v1
    assumption
  · rename_i v2 v3
    refine State.pushReachAll_kept ?_
    refine State.pushReach_kept ?_
    assumption

theorem State.handoffExecute_kept {kb : Bool} {ka : State} {s : State} (h1 : Kept kb ka s) :
    Kept kb ka (State.handoffExecute s) := by
  unfold State.handoffExecute
  extract_lets y1 y2 y3
  clear_value y1
  have g1 : Kept kb ka y2 := by
    unfold y2
    refine State.setB_kept rfl ?_
    assumption
  clear_value y2
  have g2 : Kept kb ka y3 := by
    unfold y3
    refine Kept.foldl (fun st1 x1 g3 => ?_) ?_
    · refine State.glvOwner_kept ?_
      assumption
    · assumption
  clear_value y3
  refine Kept.dite (fun _ => ?_) (fun _ => ?_)
  · refine Kept.dite (fun _ => ?_) (fun _ => ?_)
    · refine State.setF_kept rfl ?_
      assumption
    · refine State.setF_kept rfl ?_
      assumption
  · assumption

theorem State.pushBuffer_kept {kb : Bool} {ka : State} {s : State} {k : Nat} {c : Nat} {ws : List Word} (h1 : Kept kb ka s) :
    Kept kb ka (State.pushBuffer s k c ws).1 := by
  unfold State.pushBuffer
  extract_lets y1
  clear_value y1
  refine Kept.dite1 (fun _ => ?_) (fun _ => ?_)
  · refine Kept.mk1 ?_
    refine State.setSect_kept ?_
    assumption
  · refine Kept.mk1 ?_
    refine State.qmDrop_kept ?_
    assumption

end Sys2Proof.Machine
end

