-- ==== Sys2Proof/Laws/KeptReply.lean ====
section
/-! SUPPORT. What each operation of Machine/Reply.lean keeps (Laws/Kept.lean). -/

set_option maxRecDepth 4000

namespace Sys2Proof.Machine

theorem State.clearMailbox_kept {kb : Bool} {ka : State} {s : State} (h1 : Kept kb ka s) :
    Kept kb ka (State.clearMailbox s) := by
  unfold State.clearMailbox
  extract_lets y1 y2
  have g1 : Kept kb ka y1 := by
    unfold y1
    refine State.setReg_kept rfl ?_
    assumption
  clear_value y1
  clear_value y2
  refine Kept.all ?_
  assumption

theorem State.endCmd_kept {kb : Bool} {ka : State} {s : State} (h1 : Kept kb ka s) :
    Kept kb ka (State.endCmd s) := by
  unfold State.endCmd
  refine Kept.dite (fun _ => ?_) (fun _ => ?_)
  · refine State.clearMailbox_kept ?_
    assumption
  · assumption

theorem State.emptySection_kept {kb : Bool} {ka : State} {s : State} {k : Nat} (h1 : Kept kb ka s) :
    Kept kb ka (State.emptySection s k) := by
  unfold State.emptySection
  extract_lets y1 y2 y3 y4
  have g1 : Kept kb ka y1 := by
    unfold y1
    refine State.setF_kept rfl ?_
    assumption
  clear_value y1
  have g2 : Kept kb ka y2 := by
    unfold y2
    refine State.setB_kept rfl ?_
    assumption
  clear_value y2
  clear_value y3
  have g3 : Kept kb ka y4 := by
    unfold y4
    refine Kept.all ?_
    assumption
  clear_value y4
  refine State.modSect_kept ?_
  assumption

theorem State.loadFailed_kept {kb : Bool} {ka : State} {s : State} {k : Nat} (h1 : Kept kb ka s) :
    Kept kb ka (State.loadFailed s k) := by
  unfold State.loadFailed
  refine Kept.foldl (fun st1 x1 g1 => ?_) ?_
  · refine State.scramble_kept ?_
    assumption
  · refine State.emptySection_kept ?_
    assumption

theorem State.enqueueReply_kept {kb : Bool} {ka : State} {s : State} {r : Reply} (h1 : Kept kb ka s) :
    Kept kb ka (State.enqueueReply s r) := by
  unfold State.enqueueReply
  extract_lets y1 y2 y3
  clear_value y1
  clear_value y2
  have g1 : Kept kb ka y3 := by
    unfold y3
    refine Kept.all ?_
    assumption
  clear_value y3
  refine Kept.dite (fun _ => ?_) (fun _ => ?_)
  · refine State.ibi_kept ?_
    assumption
  · assumption

theorem State.reply_kept {kb : Bool} {ka : State} {s : State} {status : Nat} {tag : BitVec 9} {noibi : Bool} {words : List Word} (h1 : Kept kb ka s) :
    Kept kb ka (State.reply s status tag noibi words) := by
  unfold State.reply
  extract_lets y1 y2 y3
  have g1 : Kept kb ka y1 := by
    unfold y1
    refine Kept.dite (fun _ => ?_) (fun _ => ?_)
    · refine State.incF_kept rfl ?_
      assumption
    · assumption
  clear_value y1
  clear_value y2
  clear_value y3
  refine Kept.dite (fun _ => ?_) (fun _ => ?_)
  · refine State.enqueueReply_kept ?_
    assumption
  · refine Kept.all ?_
    assumption

theorem State.replyState_kept {kb : Bool} {ka : State} {s : State} {tag : BitVec 9} {noibi : Bool} (h1 : Kept kb ka s) :
    Kept kb ka (State.replyState s tag noibi) := by
  unfold State.replyState
  refine State.reply_kept ?_
  assumption

theorem State.endSession_kept {kb : Bool} {ka : State} {s : State} {status : Nat} (h1 : Kept kb ka s) :
    Kept kb ka (State.endSession s status) := by
  unfold State.endSession
  split
  · rename_i v1 v2
    assumption
  · rename_i v3 v4 v5
    extract_lets y1 y2 y3 y4
    have g1 : Kept kb ka y1 := by
      unfold y1
      refine State.endCmd_kept ?_
      assumption
    clear_value y1
    clear_value y2
    have g2 : Kept kb ka y3 := by
      unfold y3
      refine Kept.all ?_
      assumption
    clear_value y3
    have g3 : Kept kb ka y4 := by
      unfold y4
      refine Kept.dite (fun _ => ?_) (fun _ => ?_)
      · refine State.loadFailed_kept ?_
        assumption
      · assumption
    clear_value y4
    refine Kept.dite (fun _ => ?_) (fun _ => ?_)
    · assumption
    · refine Kept.dite (fun _ => ?_) (fun _ => ?_)
      · refine State.replyState_kept ?_
        assumption
      · refine State.reply_kept ?_
        assumption

theorem State.timeoutFirmware_kept {kb : Bool} {ka : State} {s : State} (h1 : Kept kb ka s) :
    Kept kb ka (State.timeoutFirmware s) := by
  unfold State.timeoutFirmware
  split
  · rename_i v1 v2 v3
    extract_lets y1 y2
    have g1 : Kept kb ka y1 := by
      unfold y1
      refine Kept.dite (fun _ => ?_) (fun _ => ?_)
      · refine State.endSession_kept ?_
        assumption
      · refine State.reply_kept ?_
        refine State.clearMailbox_kept ?_
        assumption
    clear_value y1
    clear_value y2
    refine Kept.all ?_
    assumption
  · rename_i v4 v5
    assumption

theorem State.clearSup_kept {kb : Bool} {ka : State} {s : State} (h1 : Kept kb ka s) :
    Kept kb ka (State.clearSup s) := by
  unfold State.clearSup
  extract_lets y1
  have g1 : Kept kb ka y1 := by
    unfold y1
    refine State.timeoutFirmware_kept ?_
    refine State.setB_kept rfl ?_
    assumption
  clear_value y1
  split
  · rename_i v1 v2 v3
    refine Kept.dite (fun _ => ?_) (fun _ => ?_)
    · refine State.endSession_kept ?_
      assumption
    · assumption
  · rename_i v4 v5
    assumption

theorem State.sessionCheck_kept {kb : Bool} {ka : State} {s : State} (h1 : Kept kb ka s) :
    Kept kb ka (State.sessionCheck s) := by
  unfold State.sessionCheck
  split
  · rename_i v1 v2 v3
    refine Kept.dite (fun _ => ?_) (fun _ => ?_)
    · assumption
    · refine State.endSession_kept ?_
      assumption
  · rename_i v4 v5
    assumption

theorem State.sessionSect_kept {kb : Bool} {ka : State} {s : State} {k : Nat} (h1 : Kept kb ka s) :
    Kept kb ka (State.sessionSect s k) := by
  unfold State.sessionSect
  split
  · rename_i v1 v2 v3
    refine Kept.dite (fun _ => ?_) (fun _ => ?_)
    · refine State.endSession_kept ?_
      assumption
    · assumption
  · rename_i v4 v5
    assumption

theorem State.modSeq_kept {kb : Bool} {ka : State} {s : State} {f : Seq → Seq} (h1 : Kept kb ka s) :
    Kept kb ka (State.modSeq s f) := by
  unfold State.modSeq
  refine Kept.all ?_
  assumption

end Sys2Proof.Machine
end

