-- ==== Sys2Proof/Laws/KeptStall.lean ====
section
/-! SUPPORT. What each operation of Machine/Stall.lean keeps (Laws/Kept.lean). -/

set_option maxRecDepth 4000

namespace Sys2Proof.Machine

theorem State.countStall_kept {kb : Bool} {ka : State} {s : State} {e : Nat} {d : Nat} (h1 : Kept kb ka s) :
    Kept kb ka (State.countStall s e d) := by
  unfold State.countStall
  extract_lets y1 y2 y3
  clear_value y1
  clear_value y2
  have g1 : Kept kb ka y3 := by
    unfold y3
    refine State.setEngine_kept ?_
    assumption
  clear_value y3
  refine State.sectStall_kept ?_
  refine State.modSect_kept ?_
  assumption

theorem State.waitBegin_kept {kb : Bool} {ka : State} {s : State} {e : Nat} (h1 : Kept kb ka s) :
    Kept kb ka (State.waitBegin s e) := by
  unfold State.waitBegin
  extract_lets y1
  have g1 : Kept kb ka y1.2 := by
    unfold y1
    refine State.drawNat_kept ?_
    assumption
  clear_value y1
  refine Kept.dite (fun _ => ?_) (fun _ => ?_)
  · assumption
  · refine State.countStall_kept ?_
    assumption

theorem State.waitCycle_kept {kb : Bool} {ka : State} {s : State} {e : Nat} (h1 : Kept kb ka s) :
    Kept kb ka (State.waitCycle s e) := by
  unfold State.waitCycle
  extract_lets y1 y2
  clear_value y1
  clear_value y2
  refine Kept.dite (fun _ => ?_) (fun _ => ?_)
  · refine State.setEngine_kept ?_
    assumption
  · assumption

end Sys2Proof.Machine
end

