-- ==== Sys2Proof/Laws/KeptEntry.lean ====
section
/-! SUPPORT. What each operation of Machine/Entry.lean keeps (Laws/Kept.lean). -/

set_option maxRecDepth 4000

namespace Sys2Proof.Machine

theorem State.ctrlSeen_kept {kb : Bool} {ka : State} {s : State} {e : Nat} {a : Nat} (h1 : Kept kb ka s) :
    Kept kb ka (State.ctrlSeen s e a) := by
  unfold State.ctrlSeen
  split
  · rename_i v1 v2 v3
    refine Kept.dite (fun _ => ?_) (fun _ => ?_)
    · refine State.eccUncorrectable_kept ?_
      assumption
    · refine State.softRead_kept ?_
      assumption
  · rename_i v4 v5
    assumption

theorem State.vectorSeen_kept {kb : Bool} {ka : State} {s : State} {e : Nat} {v : Nat} (h1 : Kept kb ka s) :
    Kept kb ka (State.vectorSeen s e v) := by
  unfold State.vectorSeen
  refine State.ctrlSeen_kept ?_
  assumption

theorem State.txdPut_kept {kb : Bool} {ka : State} {s : State} {e : Nat} {w : Word} (h1 : Kept kb ka s) :
    Kept kb ka (State.txdPut s e w) := by
  unfold State.txdPut
  extract_lets y1
  clear_value y1
  refine Kept.dite (fun _ => ?_) (fun _ => ?_)
  · refine Kept.all ?_
    assumption
  · refine Kept.all ?_
    assumption

theorem State.csrWrite_kept {kb : Bool} {ka : State} {s : State} {e : Nat} {n : Nat} {w : Word} (h1 : Kept kb ka s) :
    Kept kb ka (State.csrWrite s e n w) := by
  unfold State.csrWrite
  extract_lets y1 y2
  clear_value y1
  clear_value y2
  refine Kept.dite (fun _ => ?_) (fun _ => ?_)
  · refine State.setEngine_kept ?_
    assumption
  · refine Kept.dite (fun _ => ?_) (fun _ => ?_)
    · refine State.setEngine_kept ?_
      assumption
    · refine Kept.dite (fun _ => ?_) (fun _ => ?_)
      · refine Kept.all ?_
        assumption
      · refine Kept.dite (fun _ => ?_) (fun _ => ?_)
        · refine Kept.all ?_
          assumption
        · refine Kept.dite (fun _ => ?_) (fun _ => ?_)
          · refine Kept.dite (fun _ => ?_) (fun _ => ?_)
            · refine State.setEngine_kept ?_
              assumption
            · assumption
          · refine Kept.dite (fun _ => ?_) (fun _ => ?_)
            · refine State.txdPut_kept ?_
              assumption
            · refine Kept.dite (fun _ => ?_) (fun _ => ?_)
              · refine State.modEngine_kept ?_
                refine State.cntCatch_kept ?_
                assumption
              · refine State.setEngine_kept ?_
                assumption

theorem State.csrSettle_kept {kb : Bool} {ka : State} {s : State} {e : Nat} (h1 : Kept kb ka s) :
    Kept kb ka (State.csrSettle s e) := by
  unfold State.csrSettle
  split
  · rename_i v1 v2 v3 v4 v5
    refine State.csrWrite_kept ?_
    refine State.modEngine_kept ?_
    assumption
  · rename_i v6 v7
    assumption

theorem State.haltEnded_kept {kb : Bool} {ka : State} {s : State} {n : Nat} {was : Bool} (h1 : Kept kb ka s) :
    Kept kb ka (State.haltEnded s n was) := by
  unfold State.haltEnded
  refine Kept.dite (fun _ => ?_) (fun _ => ?_)
  · refine State.modSect_kept ?_
    assumption
  · assumption

theorem State.lockEngine_kept {kb : Bool} {ka : State} {s : State} {e : Nat} (h1 : Kept kb ka s) :
    Kept kb ka (State.lockEngine s e) := by
  unfold State.lockEngine
  extract_lets y1 y2 y3 y4
  clear_value y1
  have g1 : Kept kb ka y2 := by
    unfold y2
    refine State.haltEnded_kept ?_
    refine State.modEngine_kept ?_
    assumption
  clear_value y2
  have g2 : Kept kb ka y3 := by
    unfold y3
    refine State.fireSource_kept ?_
    assumption
  clear_value y3
  have g3 : Kept kb ka y4 := by
    unfold y4
    refine State.forChannels_kept ?_ ?_
    · assumption
    · intro w1 w2 w3
      refine State.glvPark_kept ?_
      assumption
  clear_value y4
  refine Kept.dite (fun _ => ?_) (fun _ => ?_)
  · refine State.logEvt_kept ?_
    refine State.setB_kept rfl ?_
    assumption
  · refine State.clearSup_kept ?_
    assumption

theorem State.stackFail_kept {kb : Bool} {ka : State} {s : State} {e : Nat} {ws : List Word} {eaddr : Word} (h1 : Kept kb ka s) :
    Kept kb ka (State.stackFail s e ws eaddr) := by
  unfold State.stackFail
  extract_lets y1 y2 y3 y4 y5 y6 y7 y8 y9 y10
  have g1 : Kept kb ka y1 := by
    unfold y1
    refine State.csrSettle_kept ?_
    assumption
  clear_value y1
  clear_value y2
  clear_value y3
  clear_value y4
  clear_value y5
  clear_value y6
  have g2 : Kept kb ka y7 := by
    unfold y7
    refine State.setEngine_kept ?_
    assumption
  clear_value y7
  have g3 : Kept kb ka y8 := by
    unfold y8
    refine Kept.draw ?_
    assumption
  clear_value y8
  clear_value y9
  have g4 : Kept kb ka y10 := by
    unfold y10
    refine State.vectorSeen_kept ?_
    assumption
  clear_value y10
  refine Kept.dite (fun _ => ?_) (fun _ => ?_)
  · refine State.lockEngine_kept ?_
    assumption
  · split
    · rename_i v1 v2 v3
      refine State.modEngine_kept ?_
      assumption
    · rename_i v4 v5 v6
      refine State.lockEngine_kept ?_
      assumption

theorem State.enter_kept {kb : Bool} {ka : State} {s : State} {e : Nat} {kind : Nat} {code : Nat} {orig : Nat} {eaddr : Word} {epc : Word} {ring : Nat} {imask : Nat} {entry : Nat} {efw : Bool} (h1 : Kept kb ka s) :
    Kept kb ka (State.enter s e kind code orig eaddr epc ring imask entry efw) := by
  unfold State.enter
  extract_lets y1 y2 y3 y4 y5 y6
  have g1 : Kept kb ka y1 := by
    unfold y1
    refine State.csrSettle_kept ?_
    assumption
  clear_value y1
  have g2 : Kept kb ka y2 := by
    unfold y2
    refine State.setEngine_kept ?_
    assumption
  clear_value y2
  clear_value y3
  clear_value y4
  clear_value y5
  clear_value y6
  split
  · rename_i v1 v2
    refine State.stackFail_kept ?_
    assumption
  · rename_i v3 v4 v5
    extract_lets y7 y8
    have g3 : Kept kb ka y7 := by
      unfold y7
      refine State.setWords_kept ?_
      assumption
    clear_value y7
    have g4 : Kept kb ka y8 := by
      unfold y8
      refine Kept.draw ?_
      assumption
    clear_value y8
    refine State.modEngine_kept ?_
    assumption

theorem State.doubleFault_kept {kb : Bool} {ka : State} {s : State} {e : Nat} {code : Nat} {eaddr : Word} {epc : Word} {efw : Bool} (h1 : Kept kb ka s) :
    Kept kb ka (State.doubleFault s e code eaddr epc efw) := by
  unfold State.doubleFault
  extract_lets y1 y2
  clear_value y1
  have g1 : Kept kb ka y2 := by
    unfold y2
    refine State.vectorSeen_kept ?_
    assumption
  clear_value y2
  split
  · rename_i v1 v2
    refine State.enter_kept ?_
    assumption
  · rename_i v3 v4
    refine State.lockEngine_kept ?_
    assumption

theorem State.vectorFail_kept {kb : Bool} {ka : State} {s : State} {e : Nat} {v : Nat} {kind : Nat} {epc : Word} {efw : Bool} {a : Nat} (h1 : Kept kb ka s) :
    Kept kb ka (State.vectorFail s e v kind epc efw a) := by
  unfold State.vectorFail
  extract_lets y1
  have g1 : Kept kb ka y1 := by
    unfold y1
    refine State.csrSettle_kept ?_
    refine State.vectorSeen_kept ?_
    assumption
  clear_value y1
  refine State.stackFail_kept ?_
  assumption

theorem State.faultEntry_kept {kb : Bool} {ka : State} {s : State} {e : Nat} {code : Nat} {eaddr : Word} {epc : Word} {efw : optParam Bool false} (h1 : Kept kb ka s) :
    Kept kb ka (State.faultEntry s e code eaddr epc efw) := by
  unfold State.faultEntry
  extract_lets y1
  clear_value y1
  refine Kept.dite (fun _ => ?_) (fun _ => ?_)
  · refine State.doubleFault_kept ?_
    assumption
  · split
    · rename_i v1 v2 v3 v4
      refine State.vectorFail_kept ?_
      assumption
    · rename_i v5 v6 v7
      refine State.doubleFault_kept ?_
      refine State.vectorSeen_kept ?_
      assumption
    · rename_i v8 v9 v10 v11
      refine State.enter_kept ?_
      refine State.vectorSeen_kept ?_
      assumption

theorem State.fpFault_kept {kb : Bool} {ka : State} {s : State} {e : Nat} {long : Bool} {flags : Nat} {eaddr : Word} {epc : Word} {efw : optParam Bool false} (h1 : Kept kb ka s) :
    Kept kb ka (State.fpFault s e long flags eaddr epc efw) := by
  unfold State.fpFault
  extract_lets y1
  have g1 : Kept kb ka y1 := by
    unfold y1
    refine State.modEngine_kept ?_
    assumption
  clear_value y1
  refine State.faultEntry_kept ?_
  assumption

theorem State.fpLongFault_kept {kb : Bool} {ka : State} {s : State} {e : Nat} {epc : Word} {efw : optParam Bool false} (h1 : Kept kb ka s) :
    OptKept kb ka (State.fpLongFault s e epc efw) := by
  unfold State.fpLongFault
  split
  · rename_i v1 v2 v3 v4
    extract_lets y1
    have g1 : Kept kb ka y1 := by
      unfold y1
      refine State.modEngine_kept ?_
      assumption
    clear_value y1
    refine OutKept.mk ?_
    refine State.fpFault_kept ?_
    assumption
  · rename_i v5 v6
    exact True.intro

theorem State.longopFault_kept {kb : Bool} {ka : State} {s : State} {e : Nat} {epc : Word} {efw : optParam Bool false} (h1 : Kept kb ka s) :
    OptKept kb ka (State.longopFault s e epc efw) := by
  unfold State.longopFault
  split
  · rename_i v1 v2 v3
    refine OutKept.mk ?_
    refine State.faultEntry_kept ?_
    refine State.modEngine_kept ?_
    assumption
  · rename_i v4 v5
    exact True.intro

theorem State.returnFrom_kept {kb : Bool} {ka : State} {s : State} {e : Nat} {isRti : Bool} {ca : Nat} (h1 : Kept kb ka s) :
    Kept kb ka (State.returnFrom s e isRti ca) := by
  unfold State.returnFrom
  extract_lets y1 y2
  unfold y1
  clear_value y2
  refine State.modEngine_kept ?_
  refine State.softReads_kept ?_
  assumption

theorem State.gateEnter_kept {kb : Bool} {ka : State} {s : State} {e : Nat} {n : Nat} {w : Word} {epc : Word} (h1 : Kept kb ka s) :
    Kept kb ka (State.gateEnter s e n w epc) := by
  unfold State.gateEnter
  refine State.enter_kept ?_
  assumption

end Sys2Proof.Machine
end

