-- ==== Sys2Proof/Laws/KeptExec.lean ====
section
/-! SUPPORT. What each operation of Machine/Exec.lean keeps (Laws/Kept.lean). -/

set_option maxRecDepth 4000

namespace Sys2Proof.Machine

theorem State.takeTrap_kept {kb : Bool} {ka : State} {s : State} {e : Nat} {tr : OpTrap} {epc : Word} {efw : optParam Bool false} (h1 : Kept kb ka s) :
    Kept kb ka (State.takeTrap s e tr epc efw) := by
  unfold State.takeTrap
  split
  · rename_i v1 v2 v3
    refine State.faultEntry_kept ?_
    assumption
  · rename_i v4 v5 v6
    split
    rename_i v7 v8 v9 v10
    have g1 : Kept kb ka v9 := by
      refine Kept.snd v10 ?_
      refine State.drawNat_kept ?_
      assumption
    refine State.fpFault_kept ?_
    refine State.modEngine_kept ?_
    assumption
  · rename_i v11
    refine OptKept.getD ?_ ?_
    · refine State.fpLongFault_kept ?_
      assumption
    · assumption
  · rename_i v12
    refine OptKept.getD ?_ ?_
    · refine State.longopFault_kept ?_
      assumption
    · assumption

theorem State.opRow_kept {kb : Bool} {ka : State} {s : State} {e : Nat} {u : Nat} {o3 : OpOut} (h1 : Kept kb ka s) (h4 : OpKept kb ka o3) :
    Kept kb ka (State.opRow s e u o3) := by
  unfold State.opRow
  split
  · rename_i v1 v2
    refine State.modEngine_kept ?_
    assumption
  · rename_i v3 v4
    refine State.takeTrap_kept ?_
    assumption
  · rename_i v5 v6
    refine State.waitBegin_kept ?_
    refine State.modEngine_kept ?_
    assumption

theorem OpOut.one_kept {kb : Bool} {ka : State} {s : State} {lat : Nat} {k : Nat} {w : Word} (h1 : Kept kb ka s) :
    OpKept kb ka (OpOut.one s lat k w) := by
  unfold OpOut.one
  refine OpKept.mk ?_
  refine Kept.mkSt ?_
  assumption

theorem OpOut.plain_kept {kb : Bool} {ka : State} {s : State} {lat : optParam Nat 0} (h1 : Kept kb ka s) :
    OpKept kb ka (OpOut.plain s lat) := by
  unfold OpOut.plain
  refine OpKept.mk ?_
  refine Kept.mkSt ?_
  assumption

end Sys2Proof.Machine
end

