-- ==== Sys2Proof/Laws/KeptAlu.lean ====
section
/-! SUPPORT. What each operation of Machine/Alu.lean keeps (Laws/Kept.lean). -/

set_option maxRecDepth 4000

namespace Sys2Proof.Machine

theorem aluOp_kept {kb : Bool} {ka : State} {f : Word → Word → Word} {s : State} {e : Nat} {u : Nat} {t : Word} (h2 : Kept kb ka s) :
    OpKept kb ka (aluOp f s e u t) := by
  unfold aluOp
  refine OpOut.one_kept ?_
  assumption

theorem aluRow_kept {kb : Bool} {ka : State} {f : Word → Word → Word} {e : EngId} {u : Fin 2} {t : Word} {s : State} (h5 : Kept kb ka s) :
    OutKept kb ka (aluRow f e u t s) := by
  unfold aluRow
  refine OutKept.mk ?_
  refine State.opRow_kept ?_ ?_
  · assumption
  · refine aluOp_kept ?_
    assumption

theorem execCne_kept {kb : Bool} {ka : State} {e : EngId} {u : Fin 2} {t : Word} {s : State} (h4 : Kept kb ka s) :
    OutKept kb ka (execCne e u t s) := by
  unfold execCne
  refine aluRow_kept ?_
  assumption

theorem bfuOp_kept {kb : Bool} {ka : State} {f : Word → Word → Word → Word} {s : State} {e : Nat} {t : Word} (h2 : Kept kb ka s) :
    OpKept kb ka (bfuOp f s e t) := by
  unfold bfuOp
  extract_lets y1
  clear_value y1
  refine OpOut.one_kept ?_
  assumption

theorem bfuRow_kept {kb : Bool} {ka : State} {f : Word → Word → Word → Word} {e : EngId} {t : Word} {s : State} (h4 : Kept kb ka s) :
    OutKept kb ka (bfuRow f e t s) := by
  unfold bfuRow
  refine OutKept.mk ?_
  refine State.opRow_kept ?_ ?_
  · assumption
  · refine bfuOp_kept ?_
    assumption

theorem execExt_kept {kb : Bool} {ka : State} {e : EngId} {t : Word} {s : State} (h3 : Kept kb ka s) :
    OutKept kb ka (execExt e t s) := by
  unfold execExt
  refine bfuRow_kept ?_
  assumption

theorem execSub_kept {kb : Bool} {ka : State} {e : EngId} {u : Fin 2} {t : Word} {s : State} (h4 : Kept kb ka s) :
    OutKept kb ka (execSub e u t s) := by
  unfold execSub
  refine aluRow_kept ?_
  assumption

theorem execClz_kept {kb : Bool} {ka : State} {e : EngId} {t : Word} {s : State} (h3 : Kept kb ka s) :
    OutKept kb ka (execClz e t s) := by
  unfold execClz
  refine bfuRow_kept ?_
  assumption

theorem execMinu_kept {kb : Bool} {ka : State} {e : EngId} {u : Fin 2} {t : Word} {s : State} (h4 : Kept kb ka s) :
    OutKept kb ka (execMinu e u t s) := by
  unfold execMinu
  refine aluRow_kept ?_
  assumption

theorem execAnd_kept {kb : Bool} {ka : State} {e : EngId} {u : Fin 2} {t : Word} {s : State} (h4 : Kept kb ka s) :
    OutKept kb ka (execAnd e u t s) := by
  unfold execAnd
  refine aluRow_kept ?_
  assumption

theorem execShr_kept {kb : Bool} {ka : State} {e : EngId} {u : Fin 2} {t : Word} {s : State} (h4 : Kept kb ka s) :
    OutKept kb ka (execShr e u t s) := by
  unfold execShr
  refine aluRow_kept ?_
  assumption

theorem execSar_kept {kb : Bool} {ka : State} {e : EngId} {u : Fin 2} {t : Word} {s : State} (h4 : Kept kb ka s) :
    OutKept kb ka (execSar e u t s) := by
  unfold execSar
  refine aluRow_kept ?_
  assumption

theorem execClt_kept {kb : Bool} {ka : State} {e : EngId} {u : Fin 2} {t : Word} {s : State} (h4 : Kept kb ka s) :
    OutKept kb ka (execClt e u t s) := by
  unfold execClt
  refine aluRow_kept ?_
  assumption

theorem execCleu_kept {kb : Bool} {ka : State} {e : EngId} {u : Fin 2} {t : Word} {s : State} (h4 : Kept kb ka s) :
    OutKept kb ka (execCleu e u t s) := by
  unfold execCleu
  refine aluRow_kept ?_
  assumption

theorem execExtu_kept {kb : Bool} {ka : State} {e : EngId} {t : Word} {s : State} (h3 : Kept kb ka s) :
    OutKept kb ka (execExtu e t s) := by
  unfold execExtu
  refine bfuRow_kept ?_
  assumption

theorem execPerm_kept {kb : Bool} {ka : State} {e : EngId} {t : Word} {s : State} (h3 : Kept kb ka s) :
    OutKept kb ka (execPerm e t s) := by
  unfold execPerm
  refine bfuRow_kept ?_
  assumption

theorem execAdd_kept {kb : Bool} {ka : State} {e : EngId} {u : Fin 2} {t : Word} {s : State} (h4 : Kept kb ka s) :
    OutKept kb ka (execAdd e u t s) := by
  unfold execAdd
  refine aluRow_kept ?_
  assumption

theorem execOr_kept {kb : Bool} {ka : State} {e : EngId} {u : Fin 2} {t : Word} {s : State} (h4 : Kept kb ka s) :
    OutKept kb ka (execOr e u t s) := by
  unfold execOr
  refine aluRow_kept ?_
  assumption

theorem execXor_kept {kb : Bool} {ka : State} {e : EngId} {u : Fin 2} {t : Word} {s : State} (h4 : Kept kb ka s) :
    OutKept kb ka (execXor e u t s) := by
  unfold execXor
  refine aluRow_kept ?_
  assumption

theorem execAndn_kept {kb : Bool} {ka : State} {e : EngId} {u : Fin 2} {t : Word} {s : State} (h4 : Kept kb ka s) :
    OutKept kb ka (execAndn e u t s) := by
  unfold execAndn
  refine aluRow_kept ?_
  assumption

theorem execShl_kept {kb : Bool} {ka : State} {e : EngId} {u : Fin 2} {t : Word} {s : State} (h4 : Kept kb ka s) :
    OutKept kb ka (execShl e u t s) := by
  unfold execShl
  refine aluRow_kept ?_
  assumption

theorem execRol_kept {kb : Bool} {ka : State} {e : EngId} {u : Fin 2} {t : Word} {s : State} (h4 : Kept kb ka s) :
    OutKept kb ka (execRol e u t s) := by
  unfold execRol
  refine aluRow_kept ?_
  assumption

theorem execMin_kept {kb : Bool} {ka : State} {e : EngId} {u : Fin 2} {t : Word} {s : State} (h4 : Kept kb ka s) :
    OutKept kb ka (execMin e u t s) := by
  unfold execMin
  refine aluRow_kept ?_
  assumption

theorem execMax_kept {kb : Bool} {ka : State} {e : EngId} {u : Fin 2} {t : Word} {s : State} (h4 : Kept kb ka s) :
    OutKept kb ka (execMax e u t s) := by
  unfold execMax
  refine aluRow_kept ?_
  assumption

theorem execMaxu_kept {kb : Bool} {ka : State} {e : EngId} {u : Fin 2} {t : Word} {s : State} (h4 : Kept kb ka s) :
    OutKept kb ka (execMaxu e u t s) := by
  unfold execMaxu
  refine aluRow_kept ?_
  assumption

theorem execCeq_kept {kb : Bool} {ka : State} {e : EngId} {u : Fin 2} {t : Word} {s : State} (h4 : Kept kb ka s) :
    OutKept kb ka (execCeq e u t s) := by
  unfold execCeq
  refine aluRow_kept ?_
  assumption

theorem execCltu_kept {kb : Bool} {ka : State} {e : EngId} {u : Fin 2} {t : Word} {s : State} (h4 : Kept kb ka s) :
    OutKept kb ka (execCltu e u t s) := by
  unfold execCltu
  refine aluRow_kept ?_
  assumption

theorem execCle_kept {kb : Bool} {ka : State} {e : EngId} {u : Fin 2} {t : Word} {s : State} (h4 : Kept kb ka s) :
    OutKept kb ka (execCle e u t s) := by
  unfold execCle
  refine aluRow_kept ?_
  assumption

theorem execIns_kept {kb : Bool} {ka : State} {e : EngId} {t : Word} {s : State} (h3 : Kept kb ka s) :
    OutKept kb ka (execIns e t s) := by
  unfold execIns
  refine bfuRow_kept ?_
  assumption

theorem execCtz_kept {kb : Bool} {ka : State} {e : EngId} {t : Word} {s : State} (h3 : Kept kb ka s) :
    OutKept kb ka (execCtz e t s) := by
  unfold execCtz
  refine bfuRow_kept ?_
  assumption

theorem execPopc_kept {kb : Bool} {ka : State} {e : EngId} {t : Word} {s : State} (h3 : Kept kb ka s) :
    OutKept kb ka (execPopc e t s) := by
  unfold execPopc
  refine bfuRow_kept ?_
  assumption

theorem execSwh_kept {kb : Bool} {ka : State} {e : EngId} {t : Word} {s : State} (h3 : Kept kb ka s) :
    OutKept kb ka (execSwh e t s) := by
  unfold execSwh
  refine bfuRow_kept ?_
  assumption

end Sys2Proof.Machine
end

