-- ==== Sys2Proof/Laws/KeptChio.lean ====
section
/-! SUPPORT. What each operation of Machine/Chio.lean keeps (Laws/Kept.lean). -/

set_option maxRecDepth 4000

namespace Sys2Proof.Machine

theorem State.chioWake_kept {kb : Bool} {ka : State} {s : State} {e : Nat} {y : Word} {st : Word} (h1 : Kept kb ka s) :
    Kept kb ka (State.chioWake s e y st) := by
  unfold State.chioWake
  refine State.modEngine_kept ?_
  assumption

theorem State.chioArrivals_kept {kb : Bool} {ka : State} {s : State} (h1 : Kept kb ka s) :
    Kept kb ka (State.chioArrivals s) := by
  unfold State.chioArrivals
  refine Kept.foldl (fun st1 x1 g1 => ?_) ?_
  · split
    · rename_i v1 v2 v3
      refine Kept.dite (fun _ => ?_) (fun _ => ?_)
      · assumption
      · split
        rename_i v4 v5 v6 v7 v8
        refine State.chioWake_kept ?_
        assumption
    · rename_i v9 v10
      assumption
  · assumption

theorem execHandoffArm_kept {kb : Bool} {ka : State} {w : Word} {s : State} (h2 : Kept kb ka s) :
    OutKept kb ka (execHandoffArm w s) := by
  unfold execHandoffArm
  refine OutKept.mk ?_
  refine State.handoffArm_kept ?_
  assumption

theorem chioRes_kept {kb : Bool} {ka : State} {s : State} {y : Word} {st : Word} (h1 : Kept kb ka s) :
    OpKept kb ka (chioRes s y st) := by
  unfold chioRes
  refine OpKept.mk ?_
  refine Kept.mkSt ?_
  assumption

theorem State.popDrain_kept {kb : Bool} {ka : State} {s : State} {e : Nat} {ca : Nat} (h1 : Kept kb ka s) :
    Kept kb ka (State.popDrain s e ca) := by
  unfold State.popDrain
  extract_lets y1 y2 y3 y4 y5 y6
  clear_value y1
  clear_value y2
  clear_value y3
  clear_value y5
  clear_value y6
  refine Kept.dite (fun _ => ?_) (fun _ => ?_)
  · assumption
  · refine Kept.foldl (fun st1 x1 g1 => ?_) ?_
    · refine State.storeBytes_kept ?_
      assumption
    · refine State.setEngine_kept ?_
      assumption

theorem chioPopOp_kept {kb : Bool} {ka : State} {pop : Bool} {s : State} {e : Nat} {t : Word} (h2 : Kept kb ka s) :
    OpKept kb ka (chioPopOp pop s e t) := by
  unfold chioPopOp
  extract_lets y1 y2 y3 y4 y5
  clear_value y1
  clear_value y2
  clear_value y3
  clear_value y4
  have g1 : Kept kb ka y5 := by
    unfold y5
    refine State.setWords_kept ?_
    refine State.popDrain_kept ?_
    assumption
  clear_value y5
  refine OpKept.dite (fun _ => ?_) (fun _ => ?_)
  · exact True.intro
  · split
    · rename_i v1 v2 v3 v4
      exact True.intro
    · rename_i v5 v6 v7
      refine OpKept.dite (fun _ => ?_) (fun _ => ?_)
      · refine chioRes_kept ?_
        assumption
      · refine OpKept.dite (fun _ => ?_) (fun _ => ?_)
        · refine chioRes_kept ?_
          assumption
        · refine OpKept.dite (fun _ => ?_) (fun _ => ?_)
          · refine chioRes_kept ?_
            assumption
          · refine chioRes_kept ?_
            refine Kept.dite (fun _ => ?_) (fun _ => ?_)
            · refine State.qmPopStep_kept ?_
              assumption
            · assumption

theorem execQmPushDone_kept {kb : Bool} {ka : State} {s : State} (h1 : Kept kb ka s) :
    OutKept kb ka (execQmPushDone s) := by
  unfold execQmPushDone
  refine OutKept.mk ?_
  refine State.qmPushFinish_kept ?_
  assumption

theorem execLimLo_kept {kb : Bool} {ka : State} {e : EngId} {v : Word} {s : State} (h3 : Kept kb ka s) :
    OutKept kb ka (execLimLo e v s) := by
  unfold execLimLo
  refine OutKept.mk ?_
  refine State.modEngine_kept ?_
  assumption

theorem execChioPeek_kept {kb : Bool} {ka : State} {e : EngId} {t : Word} {s : State} (h3 : Kept kb ka s) :
    OutKept kb ka (execChioPeek e t s) := by
  unfold execChioPeek
  refine OutKept.mk ?_
  refine State.opRow_kept ?_ ?_
  · assumption
  · refine chioPopOp_kept ?_
    assumption

theorem State.readWait_kept {kb : Bool} {ka : State} {s : State} {e : Nat} {c : Nat} {k : Nat} (h1 : Kept kb ka s) :
    Kept kb ka (State.readWait s e c k) := by
  unfold State.readWait
  split
  rename_i v1 v2 v3 v4
  have g1 : Kept kb ka v3 := by
    refine Kept.snd v4 ?_
    refine State.drawNat_kept ?_
    assumption
  extract_lets y1
  clear_value y1
  refine State.sectStall_kept ?_
  refine State.setEngine_kept ?_
  assumption

theorem chioRdOp_kept {kb : Bool} {ka : State} {s : State} {e : Nat} {t : Word} (h1 : Kept kb ka s) :
    OpKept kb ka (chioRdOp s e t) := by
  unfold chioRdOp
  extract_lets y1 y2
  clear_value y1
  clear_value y2
  refine OpKept.dite (fun _ => ?_) (fun _ => ?_)
  · exact True.intro
  · refine OpKept.dite (fun _ => ?_) (fun _ => ?_)
    · refine chioRes_kept ?_
      assumption
    · refine OpKept.dite (fun _ => ?_) (fun _ => ?_)
      · refine OpOut.plain_kept ?_
        refine State.readWait_kept ?_
        assumption
      · split
        rename_i v1 v2 v3 v4 v5 v6 v7
        refine chioRes_kept ?_
        assumption

theorem chioWrOp_kept {kb : Bool} {ka : State} {s : State} {e : Nat} {t : Word} (h1 : Kept kb ka s) :
    OpKept kb ka (chioWrOp s e t) := by
  unfold chioWrOp
  extract_lets y1
  clear_value y1
  refine OpKept.dite (fun _ => ?_) (fun _ => ?_)
  · exact True.intro
  · refine OpKept.dite (fun _ => ?_) (fun _ => ?_)
    · refine chioRes_kept ?_
      assumption
    · refine chioRes_kept ?_
      refine State.glvSetpoint_kept ?_
      assumption

theorem State.pushWord_kept {kb : Bool} {ka : State} {s : State} {e : Nat} {ca : Nat} (h1 : Kept kb ka s) :
    Kept kb ka (State.pushWord s e ca).2 := by
  unfold State.pushWord
  extract_lets y1
  clear_value y1
  refine Kept.dite2 (fun _ => ?_) (fun _ => ?_)
  · refine Kept.mk2 ?_
    assumption
  · refine Kept.dite2 (fun _ => ?_) (fun _ => ?_)
    · refine Kept.mk2 ?_
      refine State.eccUncorrectable_kept ?_
      assumption
    · refine Kept.mk2 ?_
      refine State.softRead_kept ?_
      assumption

theorem State.pushRecord_kept {kb : Bool} {ka : State} {s : State} {e : Nat} {a : Nat} (h1 : Kept kb ka s) :
    Kept kb ka (State.pushRecord s e a).2 := by
  unfold State.pushRecord
  refine Kept.foldl2 (fun st1 x1 g1 => ?_) ?_
  · split
    rename_i v1 v2 v3 v4
    have g2 : Kept kb ka v3 := by
      refine Kept.snd v4 ?_
      refine State.pushWord_kept ?_
      assumption
    refine Kept.mk2 ?_
    assumption
  · refine Kept.mk2 ?_
    assumption

theorem chioPushOp_kept {kb : Bool} {ka : State} {s : State} {e : Nat} {t : Word} (h1 : Kept kb ka s) :
    OpKept kb ka (chioPushOp s e t) := by
  unfold chioPushOp
  extract_lets y1 y2
  clear_value y1
  clear_value y2
  refine OpKept.dite (fun _ => ?_) (fun _ => ?_)
  · exact True.intro
  · split
    · rename_i v1 v2 v3 v4
      exact True.intro
    · rename_i v5 v6 v7
      refine OpKept.dite (fun _ => ?_) (fun _ => ?_)
      · refine chioRes_kept ?_
        assumption
      · split
        rename_i v8 v9 v10 v11 v12
        have g1 : Kept kb ka v11 := by
          refine Kept.snd v12 ?_
          refine State.pushRecord_kept ?_
          assumption
        split
        rename_i v13 v14 v15 v16
        have g2 : Kept kb ka v11 := by assumption
        have g3 : Kept kb ka v14 := by
          refine Kept.fst v16 ?_
          refine State.pushBuffer_kept ?_
          assumption
        refine chioRes_kept ?_
        assumption

theorem chioOccOp_kept {kb : Bool} {ka : State} {s : State} {e : Nat} {t : Word} (h1 : Kept kb ka s) :
    OpKept kb ka (chioOccOp s e t) := by
  unfold chioOccOp
  extract_lets y1
  clear_value y1
  refine OpKept.dite (fun _ => ?_) (fun _ => ?_)
  · exact True.intro
  · refine OpKept.dite (fun _ => ?_) (fun _ => ?_)
    · refine chioRes_kept ?_
      assumption
    · refine chioRes_kept ?_
      assumption

theorem execChioPop_kept {kb : Bool} {ka : State} {e : EngId} {t : Word} {s : State} (h3 : Kept kb ka s) :
    OutKept kb ka (execChioPop e t s) := by
  unfold execChioPop
  refine OutKept.mk ?_
  refine State.opRow_kept ?_ ?_
  · assumption
  · refine chioPopOp_kept ?_
    assumption

theorem execQmEvtRead_kept {kb : Bool} {ka : State} {s : State} (h1 : Kept kb ka s) :
    OutKept kb ka (execQmEvtRead s) := by
  unfold execQmEvtRead
  refine OutKept.mk ?_
  refine State.qmEvtPop_kept ?_
  assumption

theorem execChioRd_kept {kb : Bool} {ka : State} {e : EngId} {t : Word} {s : State} (h3 : Kept kb ka s) :
    OutKept kb ka (execChioRd e t s) := by
  unfold execChioRd
  refine OutKept.mk ?_
  refine State.opRow_kept ?_ ?_
  · assumption
  · refine chioRdOp_kept ?_
    assumption

theorem execStreamedWaitExpiry_kept {kb : Bool} {ka : State} {e : EngId} {s : State} (h2 : Kept kb ka s) :
    OutKept kb ka (execStreamedWaitExpiry e s) := by
  unfold execStreamedWaitExpiry
  split
  · rename_i v1 v2 v3
    extract_lets y1
    have g1 : Kept kb ka y1 := by
      unfold y1
      refine State.modSect_kept ?_
      assumption
    clear_value y1
    refine OutKept.mk ?_
    refine State.chioArrivals_kept ?_
    refine State.chioWake_kept ?_
    assumption
  · rename_i v4 v5
    refine OutKept.mk ?_
    assumption

theorem execChioPush_kept {kb : Bool} {ka : State} {e : EngId} {t : Word} {s : State} (h3 : Kept kb ka s) :
    OutKept kb ka (execChioPush e t s) := by
  unfold execChioPush
  refine OutKept.mk ?_
  refine State.opRow_kept ?_ ?_
  · assumption
  · refine chioPushOp_kept ?_
    assumption

theorem execChioWr_kept {kb : Bool} {ka : State} {e : EngId} {t : Word} {s : State} (h3 : Kept kb ka s) :
    OutKept kb ka (execChioWr e t s) := by
  unfold execChioWr
  refine OutKept.mk ?_
  refine State.opRow_kept ?_ ?_
  · assumption
  · refine chioWrOp_kept ?_
    assumption

theorem execChioOcc_kept {kb : Bool} {ka : State} {e : EngId} {t : Word} {s : State} (h3 : Kept kb ka s) :
    OutKept kb ka (execChioOcc e t s) := by
  unfold execChioOcc
  refine OutKept.mk ?_
  refine State.opRow_kept ?_ ?_
  · assumption
  · refine chioOccOp_kept ?_
    assumption

theorem execLimHi_kept {kb : Bool} {ka : State} {e : EngId} {v : Word} {s : State} (h3 : Kept kb ka s) :
    OutKept kb ka (execLimHi e v s) := by
  unfold execLimHi
  refine OutKept.mk ?_
  refine State.modEngine_kept ?_
  assumption

theorem execPushReachQm_kept {kb : Bool} {ka : State} {k : SectId} {s : State} (h2 : Kept kb ka s) :
    OutKept kb ka (execPushReachQm k s) := by
  unfold execPushReachQm
  refine OutKept.mk ?_
  refine State.pushReach_kept ?_
  assumption

theorem execQmPush_kept {kb : Bool} {ka : State} {w : Word} {s : State} (h2 : Kept kb ka s) :
    OutKept kb ka (execQmPush w s) := by
  unfold execQmPush
  refine OutKept.mk ?_
  refine State.qmPushWrite_kept ?_
  assumption

theorem execHandoffCancel_kept {kb : Bool} {ka : State} {w : Word} {s : State} (h2 : Kept kb ka s) :
    OutKept kb ka (execHandoffCancel w s) := by
  unfold execHandoffCancel
  refine OutKept.mk ?_
  refine State.handoffCancel_kept ?_
  assumption

end Sys2Proof.Machine
end

