-- ==== Sys2Proof/Laws/KeptExport.lean ====
section
/-! SUPPORT. What each operation of Machine/Export.lean keeps (Laws/Kept.lean). -/

set_option maxRecDepth 4000

namespace Sys2Proof.Machine

theorem State.captureIn_kept {kb : Bool} {ka : State} {s : State} {n : Nat} {ws : List Word} (h1 : Kept kb ka s) :
    Kept kb ka (State.captureIn s n ws) := by
  unfold State.captureIn
  extract_lets y1 y2 y3
  clear_value y1
  clear_value y2
  clear_value y3
  refine Kept.dite (fun _ => ?_) (fun _ => ?_)
  · refine Kept.dite (fun _ => ?_) (fun _ => ?_)
    · refine State.setSv_kept ?_
      assumption
    · refine State.setB_kept rfl ?_
      refine State.incF_kept rfl ?_
      assumption
  · assumption

theorem State.expAbort_kept {kb : Bool} {ka : State} {s : State} {k : Nat} (h1 : Kept kb ka s) :
    Kept kb ka (State.expAbort s k) := by
  unfold State.expAbort
  extract_lets y1 y2
  clear_value y1
  clear_value y2
  refine Kept.dite (fun _ => ?_) (fun _ => ?_)
  · assumption
  · refine State.setB_kept rfl ?_
    refine State.incF_kept rfl ?_
    refine State.setSv_kept ?_
    assumption

theorem State.expLink_kept {kb : Bool} {ka : State} {s : State} {k : Nat} {up : Bool} (h1 : Kept kb ka s) :
    Kept kb ka (State.expLink s k up) := by
  unfold State.expLink
  extract_lets y1
  have g1 : Kept kb ka y1 := by
    unfold y1
    refine State.setB_kept rfl ?_
    refine State.setB_kept rfl ?_
    assumption
  clear_value y1
  refine Kept.dite (fun _ => ?_) (fun _ => ?_)
  · assumption
  · refine Kept.dite (fun _ => ?_) (fun _ => ?_)
    · assumption
    · refine State.expAbort_kept ?_
      assumption

theorem execLinkChange_kept {kb : Bool} {ka : State} {k : SvcLane} {up : Bool} {s : State} (h3 : Kept kb ka s) :
    OutKept kb ka (execLinkChange k up s) := by
  unfold execLinkChange
  refine OutKept.mk ?_
  refine State.expLink_kept ?_
  assumption

theorem State.expDone_kept {kb : Bool} {ka : State} {s : State} {k : Nat} (h1 : Kept kb ka s) :
    Kept kb ka (State.expDone s k) := by
  unfold State.expDone
  split
  · rename_i v1 v2 v3
    extract_lets y1
    clear_value y1
    refine State.incF_kept rfl ?_
    refine State.incF_kept rfl ?_
    refine State.setSv_kept ?_
    assumption
  · rename_i v4 v5
    assumption

theorem execExportFrameComplete_kept {kb : Bool} {ka : State} {k : SvcLane} {s : State} (h2 : Kept kb ka s) :
    OutKept kb ka (execExportFrameComplete k s) := by
  unfold execExportFrameComplete
  refine OutKept.mk ?_
  refine State.expDone_kept ?_
  assumption

theorem State.expAdd_kept {kb : Bool} {ka : State} {s : State} {k : Nat} {item : List Word} {recs : Nat} (h1 : Kept kb ka s) :
    Kept kb ka (State.expAdd s k item recs) := by
  unfold State.expAdd
  extract_lets y1 y2 y3
  clear_value y1
  clear_value y2
  clear_value y3
  refine State.setSv_kept ?_
  assumption

theorem State.expTake_kept {kb : Bool} {ka : State} {s : State} {k : Nat} (h1 : Kept kb ka s) :
    Kept kb ka (State.expTake s k) := by
  unfold State.expTake
  refine Kept.dite (fun _ => ?_) (fun _ => ?_)
  · split
    · rename_i v1 v2 v3 v4
      split
      · rename_i v5 v6 v7 v8 v9
        have g1 : Kept kb ka v8 := by
          refine Kept.snd v9 ?_
          refine State.qmPopRecord_kept ?_
          assumption
        extract_lets y1 y2 y3
        clear_value y1
        have g2 : Kept kb ka y2 := by
          unfold y2
          refine State.expAdd_kept ?_
          assumption
        clear_value y2
        clear_value y3
        refine State.setSv_kept ?_
        assumption
      · rename_i v10 v11 v12
        have g3 : Kept kb ka v11 := by
          refine Kept.snd v12 ?_
          refine State.qmPopRecord_kept ?_
          assumption
        assumption
    · rename_i v13 v14 v15
      split
      · rename_i v16 v17 v18 v19
        extract_lets y4
        clear_value y4
        refine State.expAdd_kept ?_
        refine State.setSv_kept ?_
        assumption
      · rename_i v20 v21
        assumption
  · assumption

theorem execExportItemTake_kept {kb : Bool} {ka : State} {k : SvcLane} {s : State} (h2 : Kept kb ka s) :
    OutKept kb ka (execExportItemTake k s) := by
  unfold execExportItemTake
  refine OutKept.mk ?_
  refine State.expTake_kept ?_
  assumption

theorem State.expHoldoff_kept {kb : Bool} {ka : State} {s : State} {k : Nat} (h1 : Kept kb ka s) :
    Kept kb ka (State.expHoldoff s k) := by
  unfold State.expHoldoff
  extract_lets y1
  clear_value y1
  refine Kept.dite (fun _ => ?_) (fun _ => ?_)
  · refine State.setSv_kept ?_
    assumption
  · assumption

theorem execExportHoldoffExpire_kept {kb : Bool} {ka : State} {k : SvcLane} {s : State} (h2 : Kept kb ka s) :
    OutKept kb ka (execExportHoldoffExpire k s) := by
  unfold execExportHoldoffExpire
  refine OutKept.mk ?_
  refine State.expHoldoff_kept ?_
  assumption

theorem State.expPause_kept {kb : Bool} {ka : State} {s : State} {k : Nat} {quanta : Nat} (h1 : Kept kb ka s) :
    Kept kb ka (State.expPause s k quanta) := by
  unfold State.expPause
  refine State.setB_kept rfl ?_
  refine State.incF_kept rfl ?_
  assumption

theorem State.expRx_kept {kb : Bool} {ka : State} {s : State} {k : Nat} {os : List Octet} (h1 : Kept kb ka s) :
    Kept kb ka (State.expRx s k os) := by
  unfold State.expRx
  split
  · rename_i v1 v2 v3
    refine State.expPause_kept ?_
    assumption
  · rename_i v4 v5
    refine State.incF_kept rfl ?_
    assumption

theorem execRxFrameDiscard_kept {kb : Bool} {ka : State} {k : SvcLane} {octets : List Octet} {s : State} (h3 : Kept kb ka s) :
    OutKept kb ka (execRxFrameDiscard k octets s) := by
  unfold execRxFrameDiscard
  refine OutKept.mk ?_
  refine State.expRx_kept ?_
  assumption

theorem State.expUnpause_kept {kb : Bool} {ka : State} {s : State} {k : Nat} (h1 : Kept kb ka s) :
    Kept kb ka (State.expUnpause s k) := by
  unfold State.expUnpause
  refine State.setB_kept rfl ?_
  assumption

theorem execPauseExpire_kept {kb : Bool} {ka : State} {k : SvcLane} {s : State} (h2 : Kept kb ka s) :
    OutKept kb ka (execPauseExpire k s) := by
  unfold execPauseExpire
  refine OutKept.mk ?_
  refine State.expUnpause_kept ?_
  assumption

theorem State.expSend_kept {kb : Bool} {ka : State} {s : State} {k : Nat} (h1 : Kept kb ka s) :
    Kept kb ka (State.expSend s k) := by
  unfold State.expSend
  extract_lets y1
  clear_value y1
  split
  · rename_i v1 v2 v3
    refine Kept.dite (fun _ => ?_) (fun _ => ?_)
    · refine State.setSv_kept ?_
      assumption
    · assumption
  · rename_i v4 v5
    assumption

theorem execExportFrameSend_kept {kb : Bool} {ka : State} {k : SvcLane} {s : State} (h2 : Kept kb ka s) :
    OutKept kb ka (execExportFrameSend k s) := by
  unfold execExportFrameSend
  refine OutKept.mk ?_
  refine State.expSend_kept ?_
  assumption

theorem execPause_kept {kb : Bool} {ka : State} {k : SvcLane} {octets : List Octet} {s : State} (h3 : Kept kb ka s) :
    OutKept kb ka (execPause k octets s) := by
  unfold execPause
  refine OutKept.mk ?_
  refine State.expRx_kept ?_
  assumption

end Sys2Proof.Machine
end

