-- ==== Sys2Proof/Laws/KeptLane.lean ====
section
/-! SUPPORT. What each operation of Machine/Lane.lean keeps (Laws/Kept.lean). -/

set_option maxRecDepth 4000

namespace Sys2Proof.Machine

theorem State.laneSafeSet_kept {kb : Bool} {ka : State} {s : State} {n : Nat} (h1 : Kept kb ka s) :
    Kept kb ka (State.laneSafeSet s n) := by
  unfold State.laneSafeSet
  refine Kept.dite (fun _ => ?_) (fun _ => ?_)
  · refine State.modLn_kept ?_
    assumption
  · assumption

theorem State.enterSafe_kept {kb : Bool} {ka : State} {s : State} (h1 : Kept kb ka s) :
    Kept kb ka (State.enterSafe s) := by
  unfold State.enterSafe
  extract_lets y1 y2 y3
  have g1 : Kept kb ka y1 := by
    unfold y1
    refine Kept.foldl (fun st1 x1 g2 => ?_) ?_
    · refine State.laneSafeSet_kept ?_
      assumption
    · assumption
  clear_value y1
  have g3 : Kept kb ka y2 := by
    unfold y2
    refine State.forChannels_kept ?_ ?_
    · assumption
    · intro w1 w2 w3
      refine State.glvPark_kept ?_
      assumption
  clear_value y2
  have g4 : Kept kb ka y3 := by
    unfold y3
    refine State.fireSource_kept ?_
    refine State.setB_kept rfl ?_
    assumption
  clear_value y3
  refine Kept.dite (fun _ => ?_) (fun _ => ?_)
  · assumption
  · refine State.sessionCheck_kept ?_
    refine State.toSafe_kept (by assumption) ?_
    assumption

theorem State.askSafe_kept {kb : Bool} {ka : State} {s : State} (h1 : Kept kb ka s) :
    Kept kb ka (State.askSafe s) := by
  unfold State.askSafe
  extract_lets y1
  clear_value y1
  refine Kept.dite (fun _ => ?_) (fun _ => ?_)
  · refine Kept.all ?_
    assumption
  · refine State.enterSafe_kept ?_
    assumption

theorem State.msgRxPop_kept {kb : Bool} {ka : State} {s : State} {n : Nat} (h1 : Kept kb ka s) :
    Kept kb ka (State.msgRxPop s n).2 := by
  unfold State.msgRxPop
  split
  · rename_i v1 v2
    refine Kept.mk2 ?_
    assumption
  · rename_i v3 v4 v5 v6
    refine Kept.mk2 ?_
    refine State.modLn_kept ?_
    assumption

theorem State.prbsCatch_kept {kb : Bool} {ka : State} {s : State} {n : Nat} (h1 : Kept kb ka s) :
    Kept kb ka (State.prbsCatch s n) := by
  unfold State.prbsCatch
  refine Kept.dite (fun _ => ?_) (fun _ => ?_)
  · split
    rename_i v1 v2 v3 v4 v5
    have g1 : Kept kb ka v4 := by
      refine Kept.snd v5 ?_
      refine State.drawNat_kept ?_
      assumption
    refine State.setF_kept rfl ?_
    refine State.setB_kept rfl ?_
    assumption
  · assumption

theorem State.limitWords_kept {kb : Bool} {ka : State} {s : State} {c : Nat} {o2 : Nat} (h1 : Kept kb ka s) :
    Kept kb ka (State.limitWords s c o2).2 := by
  unfold State.limitWords
  split
  · rename_i v1
    refine Kept.mk2 ?_
    assumption
  · rename_i v2 v3
    split
    rename_i v4 v5 v6 v7
    have g1 : Kept kb ka v6 := by
      refine Kept.snd v7 ?_
      refine State.glvReadWord_kept ?_
      assumption
    split
    rename_i v8 v9 v10 v11
    have g2 : Kept kb ka v6 := by assumption
    have g3 : Kept kb ka v10 := by
      refine Kept.snd v11 ?_
      refine State.glvReadWord_kept ?_
      assumption
    split
    rename_i v12 v13 v14 v15
    have g4 : Kept kb ka v6 := by assumption
    have g5 : Kept kb ka v10 := by assumption
    have g6 : Kept kb ka v14 := by
      refine Kept.snd v15 ?_
      refine State.limitWords_kept ?_
      assumption
    refine Kept.mk2 ?_
    assumption

theorem State.sendMsg_kept {kb : Bool} {ka : State} {s : State} {n : Nat} {mtype : Nat} {words : List Word} {ack : Bool} (h1 : Kept kb ka s) :
    Kept kb ka (State.sendMsg s n mtype words ack).1 := by
  unfold State.sendMsg
  extract_lets y1 y2
  clear_value y1
  clear_value y2
  refine Kept.mk1 ?_
  refine State.setLn_kept ?_
  assumption

theorem State.sendLimits_kept {kb : Bool} {ka : State} {s : State} {n : Nat} {idx : List Nat} (h1 : Kept kb ka s) :
    Kept kb ka (State.sendLimits s n idx) := by
  unfold State.sendLimits
  refine Kept.foldl (fun st1 x1 g1 => ?_) ?_
  · split
    rename_i v1 v2 v3 v4
    have g2 : Kept kb ka v3 := by
      refine Kept.snd v4 ?_
      refine State.limitWords_kept ?_
      assumption
    refine State.sendMsg_kept ?_
    assumption
  · assumption

theorem State.prbsStop_kept {kb : Bool} {ka : State} {s : State} {n : Nat} (h1 : Kept kb ka s) :
    Kept kb ka (State.prbsStop s n) := by
  unfold State.prbsStop
  refine State.setB_kept rfl ?_
  refine State.prbsCatch_kept ?_
  assumption

theorem State.laneBegin_kept {kb : Bool} {ka : State} {s : State} {n : Nat} {st : Nat} (h1 : Kept kb ka s) :
    Kept kb ka (State.laneBegin s n st) := by
  unfold State.laneBegin
  extract_lets y1 y2
  clear_value y1
  have g1 : Kept kb ka y2 := by
    unfold y2
    refine State.modLn_kept ?_
    assumption
  clear_value y2
  refine Kept.dite (fun _ => ?_) (fun _ => ?_)
  · refine State.modLn_kept ?_
    refine State.setReg_kept rfl ?_
    assumption
  · refine Kept.dite (fun _ => ?_) (fun _ => ?_)
    · refine State.modLn_kept ?_
      assumption
    · refine Kept.dite (fun _ => ?_) (fun _ => ?_)
      · refine State.modLn_kept ?_
        assumption
      · refine Kept.dite (fun _ => ?_) (fun _ => ?_)
        · refine State.modLn_kept ?_
          assumption
        · refine Kept.dite (fun _ => ?_) (fun _ => ?_)
          · refine State.sendMsg_kept ?_
            assumption
          · refine Kept.dite (fun _ => ?_) (fun _ => ?_)
            · refine Kept.foldl (fun st1 x1 g2 => ?_) ?_
              · refine State.sendMsg_kept ?_
                assumption
              · assumption
            · refine Kept.dite (fun _ => ?_) (fun _ => ?_)
              · refine State.sendLimits_kept ?_
                refine State.modLn_kept ?_
                assumption
              · assumption

theorem State.laneGoto_kept {kb : Bool} {ka : State} {s : State} {n : Nat} {st : Nat} {cause : Nat} (h1 : Kept kb ka s) :
    Kept kb ka (State.laneGoto s n st cause) := by
  unfold State.laneGoto
  extract_lets y1 y2 y3 y4 y5 y6 y7
  clear_value y1
  have g1 : Kept kb ka y2 := by
    unfold y2
    refine Kept.dite (fun _ => ?_) (fun _ => ?_)
    · refine State.prbsStop_kept ?_
      assumption
    · assumption
  clear_value y2
  clear_value y3
  clear_value y4
  have g2 : Kept kb ka y5 := by
    unfold y5
    refine State.setReg_kept rfl ?_
    assumption
  clear_value y5
  have g3 : Kept kb ka y6 := by
    unfold y6
    refine Kept.dite (fun _ => ?_) (fun _ => ?_)
    · refine State.logEvt_kept ?_
      assumption
    · assumption
  clear_value y6
  have g4 : Kept kb ka y7 := by
    unfold y7
    refine Kept.dite (fun _ => ?_) (fun _ => ?_)
    · refine State.setB_kept rfl ?_
      refine State.modLn_kept ?_
      assumption
    · assumption
  clear_value y7
  refine State.laneBegin_kept ?_
  assumption

theorem State.lanePreset_kept {kb : Bool} {ka : State} {s : State} {n : Nat} (h1 : Kept kb ka s) :
    Kept kb ka (State.lanePreset s n) := by
  unfold State.lanePreset
  refine State.setReg_kept rfl ?_
  assumption

theorem State.laneTrip_kept {kb : Bool} {ka : State} {s : State} {n : Nat} (h1 : Kept kb ka s) :
    Kept kb ka (State.laneTrip s n) := by
  unfold State.laneTrip
  refine State.forChannels_kept ?_ ?_
  · assumption
  · intro w1 w2 w3
    refine State.glvLink_kept ?_
    assumption

theorem State.laneLeave_kept {kb : Bool} {ka : State} {s : State} {n : Nat} {cause : Nat} {quick : Bool} {hold : Bool} (h1 : Kept kb ka s) :
    Kept kb ka (State.laneLeave s n cause quick hold) := by
  unfold State.laneLeave
  extract_lets y1 y2 y3 y4
  clear_value y1
  have g1 : Kept kb ka y2 := by
    unfold y2
    refine State.modLn_kept ?_
    assumption
  clear_value y2
  have g2 : Kept kb ka y3 := by
    unfold y3
    refine Kept.dite (fun _ => ?_) (fun _ => ?_)
    · refine State.laneTrip_kept ?_
      assumption
    · assumption
  clear_value y3
  have g3 : Kept kb ka y4 := by
    unfold y4
    refine State.laneGoto_kept ?_
    assumption
  clear_value y4
  refine Kept.dite (fun _ => ?_) (fun _ => ?_)
  · refine State.chioArrivals_kept ?_
    assumption
  · assumption

theorem State.laneSetEn_kept {kb : Bool} {ka : State} {s : State} {n : Nat} {en : Bool} (h1 : Kept kb ka s) :
    Kept kb ka (State.laneSetEn s n en) := by
  unfold State.laneSetEn
  extract_lets y1
  have g1 : Kept kb ka y1 := by
    unfold y1
    refine State.setB_kept rfl ?_
    assumption
  clear_value y1
  refine Kept.dite (fun _ => ?_) (fun _ => ?_)
  · refine Kept.dite (fun _ => ?_) (fun _ => ?_)
    · refine State.laneGoto_kept ?_
      refine State.lanePreset_kept ?_
      refine State.modLn_kept ?_
      assumption
    · assumption
  · refine Kept.dite (fun _ => ?_) (fun _ => ?_)
    · assumption
    · refine State.laneLeave_kept ?_
      assumption

theorem State.laneCommand_kept {kb : Bool} {ka : State} {s : State} {n : Nat} {cmd : Nat} {cause : Nat} (h1 : Kept kb ka s) :
    Kept kb ka (State.laneCommand s n cmd cause) := by
  unfold State.laneCommand
  refine Kept.dite (fun _ => ?_) (fun _ => ?_)
  · assumption
  · refine Kept.dite (fun _ => ?_) (fun _ => ?_)
    · refine State.lanePreset_kept ?_
      refine State.laneLeave_kept ?_
      assumption
    · refine Kept.dite (fun _ => ?_) (fun _ => ?_)
      · refine State.laneLeave_kept ?_
        assumption
      · refine Kept.dite (fun _ => ?_) (fun _ => ?_)
        · refine State.laneLeave_kept ?_
          assumption
        · assumption

theorem State.laneCtlWrite_kept {kb : Bool} {ka : State} {s : State} {n : Nat} {w : Word} (h1 : Kept kb ka s) :
    Kept kb ka (State.laneCtlWrite s n w) := by
  unfold State.laneCtlWrite
  extract_lets y1 y2 y3 y4
  clear_value y1
  clear_value y2
  have g1 : Kept kb ka y3 := by
    unfold y3
    refine State.setReg_kept rfl ?_
    assumption
  clear_value y3
  have g2 : Kept kb ka y4 := by
    unfold y4
    refine State.laneSetEn_kept ?_
    assumption
  clear_value y4
  refine Kept.dite (fun _ => ?_) (fun _ => ?_)
  · refine State.laneCommand_kept ?_
    assumption
  · assumption

theorem State.laneTestWrite_kept {kb : Bool} {ka : State} {s : State} {n : Nat} {w : Word} (h1 : Kept kb ka s) :
    Kept kb ka (State.laneTestWrite s n w) := by
  unfold State.laneTestWrite
  extract_lets y1 y2 y3
  clear_value y1
  have g1 : Kept kb ka y2 := by
    unfold y2
    refine State.setReg_kept rfl ?_
    refine State.prbsStop_kept ?_
    assumption
  clear_value y2
  have g2 : Kept kb ka y3 := by
    unfold y3
    refine State.setReg_kept rfl ?_
    refine State.prbsStop_kept ?_
    assumption
  clear_value y3
  refine Kept.dite (fun _ => ?_) (fun _ => ?_)
  · refine Kept.dite (fun _ => ?_) (fun _ => ?_)
    · refine State.laneGoto_kept ?_
      refine State.modLn_kept ?_
      refine State.lanePreset_kept ?_
      assumption
    · refine State.modLn_kept ?_
      assumption
  · refine Kept.dite (fun _ => ?_) (fun _ => ?_)
    · refine Kept.dite (fun _ => ?_) (fun _ => ?_)
      · split
        rename_i v1 v2 v3 v4 v5 v6 v7
        have g3 : Kept kb ka v5 := by
          refine Kept.fst v7 ?_
          refine State.sendMsg_kept ?_
          assumption
        refine State.modLn_kept ?_
        assumption
      · assumption
    · refine Kept.dite (fun _ => ?_) (fun _ => ?_)
      · assumption
      · refine State.laneLeave_kept ?_
        assumption

theorem State.msgTxAppend_kept {kb : Bool} {ka : State} {s : State} {n : Nat} {w : Word} (h1 : Kept kb ka s) :
    Kept kb ka (State.msgTxAppend s n w) := by
  unfold State.msgTxAppend
  refine State.modLn_kept ?_
  assumption

theorem State.msgTxcWrite_kept {kb : Bool} {ka : State} {s : State} {n : Nat} {w : Word} (h1 : Kept kb ka s) :
    Kept kb ka (State.msgTxcWrite s n w) := by
  unfold State.msgTxcWrite
  extract_lets y1 y2 y3
  clear_value y1
  have g1 : Kept kb ka y2 := by
    unfold y2
    refine State.setF_kept rfl ?_
    assumption
  clear_value y2
  clear_value y3
  refine Kept.dite (fun _ => ?_) (fun _ => ?_)
  · split
    rename_i v1 v2 v3 v4 v5
    have g2 : Kept kb ka v3 := by
      refine Kept.fst v5 ?_
      refine State.sendMsg_kept ?_
      assumption
    refine State.setF_kept rfl ?_
    refine State.modLn_kept ?_
    assumption
  · assumption

theorem State.laneTryTrain_kept {kb : Bool} {ka : State} {s : State} {n : Nat} (h1 : Kept kb ka s) :
    Kept kb ka (State.laneTryTrain s n) := by
  unfold State.laneTryTrain
  refine Kept.dite (fun _ => ?_) (fun _ => ?_)
  · refine State.laneGoto_kept ?_
    assumption
  · assumption

theorem State.laneFail_kept {kb : Bool} {ka : State} {s : State} {n : Nat} {cause : Nat} (h1 : Kept kb ka s) :
    Kept kb ka (State.laneFail s n cause) := by
  unfold State.laneFail
  refine State.laneLeave_kept ?_
  assumption

theorem State.laneTryReady_kept {kb : Bool} {ka : State} {s : State} {n : Nat} (h1 : Kept kb ka s) :
    Kept kb ka (State.laneTryReady s n) := by
  unfold State.laneTryReady
  extract_lets y1 y2
  clear_value y1
  clear_value y2
  refine Kept.dite (fun _ => ?_) (fun _ => ?_)
  · split
    rename_i v1 v2 v3 v4 v5
    have g1 : Kept kb ka v3 := by
      refine Kept.fst v5 ?_
      refine State.sendMsg_kept ?_
      assumption
    refine State.modLn_kept ?_
    assumption
  · assumption

theorem State.msgRxIn_kept {kb : Bool} {ka : State} {s : State} {n : Nat} {ws : List Word} (h1 : Kept kb ka s) :
    Kept kb ka (State.msgRxIn s n ws) := by
  unfold State.msgRxIn
  refine Kept.dite (fun _ => ?_) (fun _ => ?_)
  · refine State.modLn_kept ?_
    assumption
  · refine State.setB_kept rfl ?_
    assumption

theorem State.laneEnterService_kept {kb : Bool} {ka : State} {s : State} {n : Nat} (h1 : Kept kb ka s) :
    Kept kb ka (State.laneEnterService s n) := by
  unfold State.laneEnterService
  extract_lets y1 y2
  have g1 : Kept kb ka y1 := by
    unfold y1
    refine State.laneGoto_kept ?_
    assumption
  clear_value y1
  have g2 : Kept kb ka y2 := by
    unfold y2
    refine State.modLn_kept ?_
    assumption
  clear_value y2
  refine State.forChannels_kept ?_ ?_
  · assumption
  · intro w1 w2 w3
    refine State.modCh_kept ?_
    assumption

theorem State.frmUpdate_kept {kb : Bool} {ka : State} {s : State} {n : Nat} (h1 : Kept kb ka s) :
    Kept kb ka (State.frmUpdate s n) := by
  unfold State.frmUpdate
  extract_lets y1
  clear_value y1
  refine State.setReg_kept rfl ?_
  assumption

theorem State.laneBoundary_kept {kb : Bool} {ka : State} {s : State} {n : Nat} (h1 : Kept kb ka s) :
    Kept kb ka (State.laneBoundary s n) := by
  unfold State.laneBoundary
  extract_lets y1 y2 y3 y4
  clear_value y1
  clear_value y2
  have g1 : Kept kb ka y3 := by
    unfold y3
    refine State.setLn_kept ?_
    assumption
  clear_value y3
  have g2 : Kept kb ka y4 := by
    unfold y4
    refine State.setB_kept rfl ?_
    assumption
  clear_value y4
  refine Kept.dite (fun _ => ?_) (fun _ => ?_)
  · refine State.laneFail_kept ?_
    assumption
  · refine Kept.dite (fun _ => ?_) (fun _ => ?_)
    · refine State.laneLeave_kept ?_
      assumption
    · refine Kept.dite (fun _ => ?_) (fun _ => ?_)
      · refine State.laneGoto_kept ?_
        assumption
      · refine Kept.dite (fun _ => ?_) (fun _ => ?_)
        · split
          · rename_i v1 v2 v3 v4 v5 v6 v7
            refine Kept.dite (fun _ => ?_) (fun _ => ?_)
            · refine Kept.dite (fun _ => ?_) (fun _ => ?_)
              · refine State.laneEnterService_kept ?_
                assumption
              · refine State.laneTryReady_kept ?_
                refine State.modLn_kept ?_
                assumption
            · assumption
          · rename_i v8 v9 v10 v11 v12 v13
            refine State.laneTryReady_kept ?_
            assumption
        · assumption

theorem State.laneTimeout_kept {kb : Bool} {ka : State} {s : State} {n : Nat} (h1 : Kept kb ka s) :
    Kept kb ka (State.laneTimeout s n) := by
  unfold State.laneTimeout
  extract_lets y1
  clear_value y1
  refine Kept.dite (fun _ => ?_) (fun _ => ?_)
  · refine State.laneFail_kept ?_
    refine State.setB_kept rfl ?_
    assumption
  · refine Kept.dite (fun _ => ?_) (fun _ => ?_)
    · refine State.laneFail_kept ?_
      refine State.setB_kept rfl ?_
      assumption
    · refine Kept.dite (fun _ => ?_) (fun _ => ?_)
      · refine State.laneFail_kept ?_
        assumption
      · refine Kept.dite (fun _ => ?_) (fun _ => ?_)
        · refine State.laneFail_kept ?_
          assumption
        · refine Kept.dite (fun _ => ?_) (fun _ => ?_)
          · refine State.laneFail_kept ?_
            assumption
          · refine Kept.dite (fun _ => ?_) (fun _ => ?_)
            · refine State.laneFail_kept ?_
              assumption
            · refine Kept.dite (fun _ => ?_) (fun _ => ?_)
              · refine State.laneFail_kept ?_
                assumption
              · refine Kept.dite (fun _ => ?_) (fun _ => ?_)
                · refine State.laneFail_kept ?_
                  assumption
                · assumption

theorem State.laneEye_kept {kb : Bool} {ka : State} {s : State} {n : Nat} {eye : Nat} {height : Nat} {width : Nat} (h1 : Kept kb ka s) :
    Kept kb ka (State.laneEye s n eye height width) := by
  unfold State.laneEye
  extract_lets y1 y2
  have g1 : Kept kb ka y1 := by
    unfold y1
    refine State.setReg_kept rfl ?_
    assumption
  clear_value y1
  have g2 : Kept kb ka y2 := by
    unfold y2
    refine State.setB_kept rfl ?_
    assumption
  clear_value y2
  refine Kept.dite (fun _ => ?_) (fun _ => ?_)
  · refine Kept.dite (fun _ => ?_) (fun _ => ?_)
    · refine Kept.dite (fun _ => ?_) (fun _ => ?_)
      · assumption
      · refine State.healthEvt_kept ?_
        assumption
    · assumption
  · assumption

end Sys2Proof.Machine
end

