-- ==== Sys2Proof/Laws/KeptBeatCtl.lean ====
section
/-! SUPPORT. What each operation of Machine/BeatCtl.lean keeps (Laws/Kept.lean). -/

set_option maxRecDepth 4000

namespace Sys2Proof.Machine

theorem State.beatRelock_kept {kb : Bool} {ka : State} {s : State} (h1 : Kept kb ka s) :
    Kept kb ka (State.beatRelock s) := by
  unfold State.beatRelock
  extract_lets y1
  clear_value y1
  refine Kept.dite (fun _ => ?_) (fun _ => ?_)
  · refine Kept.all ?_
    assumption
  · assumption

theorem State.beatCtlWrite_kept {kb : Bool} {ka : State} {s : State} {w : Word} (h1 : Kept kb ka s) :
    Kept kb ka (State.beatCtlWrite s w) := by
  unfold State.beatCtlWrite
  extract_lets y1 y2 y3 y4 y5 y6 y7 y8
  clear_value y1
  have g1 : Kept kb ka y2 := by
    unfold y2
    refine State.setReg_kept rfl ?_
    assumption
  clear_value y2
  clear_value y3
  have g2 : Kept kb ka y4 := by
    unfold y4
    refine State.setB_kept rfl ?_
    assumption
  clear_value y4
  clear_value y5
  have g3 : Kept kb ka y6 := by
    unfold y6
    refine Kept.dite (fun _ => ?_) (fun _ => ?_)
    · assumption
    · refine Kept.all ?_
      assumption
  clear_value y6
  clear_value y7
  have g4 : Kept kb ka y8 := by
    unfold y8
    refine Kept.all ?_
    assumption
  clear_value y8
  refine Kept.dite (fun _ => ?_) (fun _ => ?_)
  · refine State.beatRelock_kept ?_
    assumption
  · assumption

theorem State.beatPeriodWrite_kept {kb : Bool} {ka : State} {s : State} {w : Word} (h1 : Kept kb ka s) :
    Kept kb ka (State.beatPeriodWrite s w) := by
  unfold State.beatPeriodWrite
  extract_lets y1
  clear_value y1
  refine Kept.dite (fun _ => ?_) (fun _ => ?_)
  · assumption
  · refine State.setF_kept rfl ?_
    assumption

theorem State.beatLevel_kept {kb : Bool} {ka : State} {s : State} {len : Nat} {high : Nat} (h1 : Kept kb ka s) :
    Kept kb ka (State.beatLevel s len high) := by
  unfold State.beatLevel
  refine Kept.dite (fun _ => ?_) (fun _ => ?_)
  · assumption
  · refine State.setB_kept rfl ?_
    assumption

theorem State.beatFlag_kept {kb : Bool} {ka : State} {s : State} {f : Nat × Nat} (h1 : Kept kb ka s) :
    Kept kb ka (State.beatFlag s f) := by
  unfold State.beatFlag
  extract_lets y1
  have g1 : Kept kb ka y1 := by
    unfold y1
    refine State.withAlert_kept ?_ ?_
    · assumption
    · intro w1 w2
      refine State.setB_kept rfl ?_
      assumption
  clear_value y1
  refine State.logEvt_kept ?_
  assumption

theorem State.beatAlign_kept {kb : Bool} {ka : State} {s : State} {len : Nat} (h1 : Kept kb ka s) :
    Kept kb ka (State.beatAlign s len) := by
  unfold State.beatAlign
  extract_lets y1 y2
  have g1 : Kept kb ka y1 := by
    unfold y1
    refine State.setB_kept rfl ?_
    assumption
  clear_value y1
  clear_value y2
  refine Kept.all ?_
  assumption

theorem execBeatPeriodWrite_kept {kb : Bool} {ka : State} {w : Word} {s : State} (h2 : Kept kb ka s) :
    OutKept kb ka (execBeatPeriodWrite w s) := by
  unfold execBeatPeriodWrite
  refine OutKept.mk ?_
  refine State.beatPeriodWrite_kept ?_
  assumption

theorem State.beatEdge_kept {kb : Bool} {ka : State} {s : State} {sinceEdge : Nat} {sinceBoundary : Nat} {high : Nat} (h1 : Kept kb ka s) :
    Kept kb ka (State.beatEdge s sinceEdge sinceBoundary high) := by
  unfold State.beatEdge
  extract_lets y1 y2 y3 y4 y5 y6
  clear_value y1
  clear_value y2
  have g1 : Kept kb ka y3 := by
    unfold y3
    refine State.beatAlign_kept ?_
    assumption
  clear_value y3
  clear_value y4
  have g2 : Kept kb ka y5 := by
    unfold y5
    refine State.beatLevel_kept ?_
    assumption
  clear_value y5
  clear_value y6
  refine Kept.dite (fun _ => ?_) (fun _ => ?_)
  · assumption
  · refine Kept.dite (fun _ => ?_) (fun _ => ?_)
    · refine Kept.dite (fun _ => ?_) (fun _ => ?_)
      · refine State.beatFlag_kept ?_
        assumption
      · assumption
    · refine Kept.dite (fun _ => ?_) (fun _ => ?_)
      · refine Kept.dite (fun _ => ?_) (fun _ => ?_)
        · refine State.beatAlign_kept ?_
          assumption
        · refine Kept.all ?_
          assumption
      · refine Kept.dite (fun _ => ?_) (fun _ => ?_)
        · refine State.beatAlign_kept ?_
          assumption
        · refine Kept.dite (fun _ => ?_) (fun _ => ?_)
          · refine State.beatAlign_kept ?_
            assumption
          · refine State.beatFlag_kept ?_
            refine State.incF_kept rfl ?_
            assumption

theorem execBeatInEdge_kept {kb : Bool} {ka : State} {sinceEdge : Nat} {sinceBoundary : Nat} {high : Nat} {s : State} (h4 : Kept kb ka s) :
    OutKept kb ka (execBeatInEdge sinceEdge sinceBoundary high s) := by
  unfold execBeatInEdge
  refine OutKept.mk ?_
  refine State.beatEdge_kept ?_
  assumption

theorem execRelock_kept {kb : Bool} {ka : State} {s : State} (h1 : Kept kb ka s) :
    OutKept kb ka (execRelock s) := by
  unfold execRelock
  refine OutKept.mk ?_
  refine State.beatCtlWrite_kept ?_
  assumption

end Sys2Proof.Machine
end

