-- ==== Sys2Proof/Laws/KeptCheck.lean ====
section
/-! SUPPORT. What each operation of Machine/Check.lean keeps (Laws/Kept.lean). -/

set_option maxRecDepth 4000

namespace Sys2Proof.Machine

theorem State.freeRows_kept {kb : Bool} {ka : State} {s : State} {o1 : Nat} (h1 : Kept kb ka s) :
    Kept kb ka (State.freeRows s o1).2 := by
  unfold State.freeRows
  split
  · rename_i v1
    refine Kept.mk2 ?_
    assumption
  · rename_i v2 v3
    extract_lets y1 y2 y3
    have g1 : Kept kb ka y1.2 := by
      unfold y1
      refine State.drawNat_kept ?_
      assumption
    clear_value y1
    have g2 : Kept kb ka y2.2 := by
      unfold y2
      refine State.drawNat_kept ?_
      assumption
    clear_value y2
    have g3 : Kept kb ka y3.2 := by
      unfold y3
      refine State.freeRows_kept ?_
      assumption
    clear_value y3
    refine Kept.mk2 ?_
    assumption

theorem State.marchUnc_kept {kb : Bool} {ka : State} {s : State} {kind : Nat} {inst : Nat} (h1 : Kept kb ka s) :
    Kept kb ka (State.marchUnc s kind inst).2 := by
  unfold State.marchUnc
  split
  · rename_i v1 v2 v3
    split
    rename_i v4 v5 v6 v7
    have g1 : Kept kb ka v6 := by
      refine Kept.snd v7 ?_
      refine State.drawNat_kept ?_
      assumption
    refine Kept.mk2 ?_
    assumption
  · rename_i v8 v9
    split
    rename_i v10 v11 v12 v13
    have g2 : Kept kb ka v12 := by
      refine Kept.snd v13 ?_
      refine State.drawNat_kept ?_
      assumption
    refine Kept.mk2 ?_
    refine Kept.dite (fun _ => ?_) (fun _ => ?_)
    · refine State.modCh_kept ?_
      assumption
    · assumption

theorem State.marchScrub_kept {kb : Bool} {ka : State} {s : State} {kind : Nat} {inst : Nat} {stop : Nat} (h1 : Kept kb ka s) :
    Kept kb ka (State.marchScrub s kind inst stop) := by
  unfold State.marchScrub
  refine Kept.foldl (fun st1 x1 g1 => ?_) ?_
  · extract_lets y1
    have g2 : Kept kb ka y1 := by
      unfold y1
      refine State.softRead_kept ?_
      assumption
    clear_value y1
    refine Kept.dite (fun _ => ?_) (fun _ => ?_)
    · assumption
    · refine State.updSoft_kept ?_
      assumption
  · assumption

theorem State.floorRaise_kept {kb : Bool} {ka : State} {s : State} (h1 : Kept kb ka s) :
    Kept kb ka (State.floorRaise s) := by
  unfold State.floorRaise
  extract_lets y1
  clear_value y1
  refine State.healthEvt_kept ?_
  refine State.setF_kept rfl ?_
  assumption

theorem State.marchRow_kept {kb : Bool} {ka : State} {s : State} {repair : Bool} {f : FailRow} (h1 : Kept kb ka s) :
    Kept kb ka (State.marchRow s repair f) := by
  unfold State.marchRow
  extract_lets y1 y2 y3 y4 y5
  have g1 : Kept kb ka y1 := by
    unfold y1
    refine State.incF_kept rfl ?_
    assumption
  clear_value y1
  have g2 : Kept kb ka y2 := by
    unfold y2
    refine State.floorRaise_kept ?_
    assumption
  clear_value y2
  clear_value y3
  clear_value y4
  clear_value y5
  refine Kept.dite (fun _ => ?_) (fun _ => ?_)
  · refine Kept.dite (fun _ => ?_) (fun _ => ?_)
    · refine State.incF_kept rfl ?_
      refine Kept.all ?_
      assumption
    · refine State.setB_kept rfl ?_
      assumption
  · assumption

theorem State.marchReport_kept {kb : Bool} {ka : State} {s : State} {repair : Bool} {fails : List FailRow} {bad : List Nat} {unc : Bool} (h1 : Kept kb ka s) :
    Kept kb ka (State.marchReport s repair fails bad unc) := by
  unfold State.marchReport
  extract_lets y1 y2 y3 y4
  have g1 : Kept kb ka y1 := by
    unfold y1
    refine State.setF_kept rfl ?_
    refine State.setF_kept rfl ?_
    assumption
  clear_value y1
  have g2 : Kept kb ka y2 := by
    unfold y2
    refine State.setReg_kept rfl ?_
    assumption
  clear_value y2
  have g3 : Kept kb ka y3 := by
    unfold y3
    refine Kept.foldl (fun st1 x1 g4 => ?_) ?_
    · refine State.marchRow_kept ?_
      assumption
    · assumption
  clear_value y3
  have g5 : Kept kb ka y4 := by
    unfold y4
    refine Kept.dite (fun _ => ?_) (fun _ => ?_)
    · refine Kept.foldl (fun st2 x2 g6 => ?_) ?_
      · refine State.eccUncorrectable_kept ?_
        assumption
      · assumption
    · assumption
  clear_value y4
  refine Kept.dite (fun _ => ?_) (fun _ => ?_)
  · refine State.setB_kept rfl ?_
    assumption
  · assumption

theorem State.freeCopy_kept {kb : Bool} {ka s : State} {i n : Nat} (h1 : Kept kb ka s) : Kept kb ka (State.freeCopy s i n) := by
  have h := Kept.foldl (l := List.range n) (f := fun st c => st.modCh c (fun x => x.setCopy i (GlvEntry.free (s.fresh + 1) c)))
    (fun st1 x1 g1 => State.modCh_kept g1) h1
  exact ⟨h.pending, h1.fresh.trans (Nat.le_succ _), fun c => State.setFresh_canon (h.canon c), h.fault, h.lock⟩

theorem State.marchLeaves_kept {kb : Bool} {ka : State} {s : State} {kind inst : Nat} {done : Bool} (h1 : Kept kb ka s) :
    Kept kb ka (State.marchLeaves s kind inst done) := by
  have hf : s.fresh ≤ (if done then s.fresh else s.fresh + 1024) := by split <;> omega
  unfold State.marchLeaves
  extract_lets n g
  refine Kept.dite (fun _ => ?_) (fun _ => Kept.dite (fun _ => ?_) (fun _ => ?_))
  · exact State.setFresh_kept (State.modEngine_kept h1) hf
  · exact State.setFresh_kept (State.modEngine_kept h1) hf
  · split
    · exact Kept.dite (fun _ => State.zeroMem_kept h1) (fun _ => State.scramble_kept h1)
    · exact Kept.dite (fun _ => Kept.foldl (fun st c g => State.modCh_kept g) h1) (fun _ => State.freeCopy_kept h1)

theorem State.marchEnd_kept {kb : Bool} {ka : State} {s : State} {done : Bool} (h1 : Kept kb ka s) :
    Kept kb ka (State.marchEnd s done) := by
  unfold State.marchEnd
  extract_lets y1 y2 y3 y4
  clear_value y1
  have g1 : Kept kb ka y2 := by
    unfold y2
    refine Kept.all ?_
    assumption
  clear_value y2
  have g2 : Kept kb ka y3 := by
    unfold y3
    refine State.setB_kept rfl ?_
    refine State.setB_kept rfl ?_
    assumption
  clear_value y3
  have g3 : Kept kb ka y4 := by
    unfold y4
    refine State.marchLeaves_kept ?_
    assumption
  clear_value y4
  refine Kept.dite (fun _ => ?_) (fun _ => ?_)
  · assumption
  · split
    · rename_i v1 v2 v3 v4
      refine Kept.dite (fun _ => ?_) (fun _ => ?_)
      · assumption
      · refine State.emptySection_kept ?_
        assumption
    · rename_i v5 v6 v7
      assumption

theorem State.marchAbort_kept {kb : Bool} {ka : State} {s : State} (h1 : Kept kb ka s) :
    Kept kb ka (State.marchAbort s) := by
  unfold State.marchAbort
  extract_lets y1 y2 y3 y4 y5 y6
  clear_value y1
  have g1 : Kept kb ka y2.2 := by
    unfold y2
    refine State.drawNat_kept ?_
    assumption
  clear_value y2
  have g2 : Kept kb ka y3.2 := by
    unfold y3
    refine State.drawNat_kept ?_
    assumption
  clear_value y3
  have g3 : Kept kb ka y4.2 := by
    unfold y4
    refine State.freeRows_kept ?_
    assumption
  clear_value y4
  have g4 : Kept kb ka y5.2 := by
    unfold y5
    refine State.drawNat_kept ?_
    assumption
  clear_value y5
  clear_value y6
  split
  rename_i v1 v2 v3 v4
  have g5 : Kept kb ka v3 := by
    refine Kept.snd v4 ?_
    refine Kept.dite2 (fun _ => ?_) (fun _ => ?_)
    · refine State.marchUnc_kept ?_
      assumption
    · refine Kept.mk2 ?_
      assumption
  extract_lets y7 y8
  have g6 : Kept kb ka y7 := by
    unfold y7
    refine Kept.dite (fun _ => ?_) (fun _ => ?_)
    · refine State.marchScrub_kept ?_
      assumption
    · assumption
  clear_value y7
  have g7 : Kept kb ka y8 := by
    unfold y8
    refine State.marchReport_kept ?_
    assumption
  clear_value y8
  refine State.setB_kept rfl ?_
  refine State.marchEnd_kept ?_
  assumption

theorem State.marchAbortSect_kept {kb : Bool} {ka : State} {s : State} {k : Nat} (h1 : Kept kb ka s) :
    Kept kb ka (State.marchAbortSect s k) := by
  unfold State.marchAbortSect
  refine Kept.dite (fun _ => ?_) (fun _ => ?_)
  · refine State.marchAbort_kept ?_
    assumption
  · assumption

theorem State.ckuEnd_kept {kb : Bool} {ka : State} {s : State} {u : Nat} {err : Nat} {cnt : Nat} (h1 : Kept kb ka s) :
    Kept kb ka (State.ckuEnd s u err cnt) := by
  unfold State.ckuEnd
  extract_lets y1
  clear_value y1
  refine State.setReg_kept rfl ?_
  assumption

theorem State.ckuRead_kept {kb : Bool} {ka : State} {s : State} {u : Nat} {n : Nat} (h1 : Kept kb ka s) :
    Kept kb ka (State.ckuRead s u n).2 := by
  unfold State.ckuRead
  extract_lets y1
  clear_value y1
  split
  rename_i v1 v2 v3 v4
  extract_lets y2 y3
  have g1 : Kept kb ka y2 := by
    unfold y2
    refine State.softReads_kept ?_
    assumption
  clear_value y2
  have g2 : Kept kb ka y3 := by
    unfold y3
    refine Kept.dite (fun _ => ?_) (fun _ => ?_)
    · refine State.setB_kept rfl ?_
      assumption
    · assumption
  clear_value y3
  refine Kept.dite2 (fun _ => ?_) (fun _ => ?_)
  · refine Kept.mk2 ?_
    assumption
  · refine Kept.mk2 ?_
    refine State.ckuEnd_kept ?_
    refine State.eccUncorrectable_kept ?_
    assumption

theorem State.ckuAbort_kept {kb : Bool} {ka : State} {s : State} {u : Nat} (h1 : Kept kb ka s) :
    Kept kb ka (State.ckuAbort s u) := by
  unfold State.ckuAbort
  extract_lets y1 y2
  have g1 : Kept kb ka y1.2 := by
    unfold y1
    refine State.drawNat_kept ?_
    assumption
  clear_value y1
  clear_value y2
  split
  · rename_i v1 v2 v3 v4
    have g2 : Kept kb ka v3 := by
      refine Kept.snd v4 ?_
      refine State.ckuRead_kept ?_
      assumption
    refine State.ckuEnd_kept ?_
    assumption
  · rename_i v5 v6 v7
    have g3 : Kept kb ka v6 := by
      refine Kept.snd v7 ?_
      refine State.ckuRead_kept ?_
      assumption
    assumption

theorem State.checkAbortSect_kept {kb : Bool} {ka : State} {s : State} {k : Nat} (h1 : Kept kb ka s) :
    Kept kb ka (State.checkAbortSect s k) := by
  unfold State.checkAbortSect
  refine Kept.foldl (fun st1 x1 g1 => ?_) ?_
  · extract_lets y1
    clear_value y1
    refine Kept.dite (fun _ => ?_) (fun _ => ?_)
    · refine State.ckuAbort_kept ?_
      assumption
    · assumption
  · assumption

theorem State.marchBegin_kept {kb : Bool} {ka : State} {s : State} {w : Word} (h1 : Kept kb ka s) :
    Kept kb ka (State.marchBegin s w) := by
  unfold State.marchBegin
  extract_lets y1 y2 y3 y4 y5 y6
  clear_value y1
  clear_value y2
  clear_value y3
  clear_value y4
  have g1 : Kept kb ka y5 := by
    unfold y5
    refine State.setB_kept rfl ?_
    assumption
  clear_value y5
  clear_value y6
  refine Kept.all ?_
  assumption

theorem State.marchCtlWrite_kept {kb : Bool} {ka : State} {s : State} {w : Word} (h1 : Kept kb ka s) :
    Kept kb ka (State.marchCtlWrite s w) := by
  unfold State.marchCtlWrite
  extract_lets y1 y2 y3 y4
  have g1 : Kept kb ka y1 := by
    unfold y1
    refine State.setReg_kept rfl ?_
    assumption
  clear_value y1
  have g2 : Kept kb ka y2 := by
    unfold y2
    refine Kept.dite (fun _ => ?_) (fun _ => ?_)
    · refine State.marchAbort_kept ?_
      assumption
    · assumption
  clear_value y2
  clear_value y3
  have g3 : Kept kb ka y4 := by
    unfold y4
    refine State.setF_kept rfl ?_
    assumption
  clear_value y4
  refine Kept.dite (fun _ => ?_) (fun _ => ?_)
  · refine Kept.dite (fun _ => ?_) (fun _ => ?_)
    · refine State.marchBegin_kept ?_
      assumption
    · assumption
  · assumption

theorem State.ckuBegin_kept {kb : Bool} {ka : State} {s : State} {u : Nat} (h1 : Kept kb ka s) :
    Kept kb ka (State.ckuBegin s u) := by
  unfold State.ckuBegin
  refine Kept.dite (fun _ => ?_) (fun _ => ?_)
  · refine State.setB_kept rfl ?_
    assumption
  · refine State.ckuEnd_kept ?_
    assumption

theorem State.ckuCtlWrite_kept {kb : Bool} {ka : State} {s : State} {u : Nat} {w : Word} (h1 : Kept kb ka s) :
    Kept kb ka (State.ckuCtlWrite s u w) := by
  unfold State.ckuCtlWrite
  extract_lets y1 y2 y3 y4 y5 y6 y7 y8
  clear_value y2
  clear_value y3
  clear_value y4
  have g1 : Kept kb ka y5 := by
    unfold y5
    refine Kept.dite (fun _ => ?_) (fun _ => ?_)
    · assumption
    · refine State.setCku_kept ?_
      assumption
  clear_value y5
  have g2 : Kept kb ka y6 := by
    unfold y6
    refine State.setB_kept rfl ?_
    assumption
  clear_value y6
  have g3 : Kept kb ka y7 := by
    unfold y7
    refine State.setReg_kept rfl ?_
    assumption
  clear_value y7
  clear_value y8
  refine Kept.dite (fun _ => ?_) (fun _ => ?_)
  · refine Kept.dite (fun _ => ?_) (fun _ => ?_)
    · refine State.ckuAbort_kept ?_
      assumption
    · assumption
  · refine Kept.dite (fun _ => ?_) (fun _ => ?_)
    · refine Kept.dite (fun _ => ?_) (fun _ => ?_)
      · refine State.ckuEnd_kept ?_
        assumption
      · refine Kept.dite (fun _ => ?_) (fun _ => ?_)
        · refine State.setCku_kept ?_
          assumption
        · refine State.ckuBegin_kept ?_
          refine State.setCku_kept ?_
          assumption
    · assumption

theorem State.ckuStsWrite_kept {kb : Bool} {ka : State} {s : State} {u : Nat} {w : Word} (h1 : Kept kb ka s) :
    Kept kb ka (State.ckuStsWrite s u w) := by
  unfold State.ckuStsWrite
  extract_lets y1 y2
  have g1 : Kept kb ka y2 := by
    unfold y2
    refine State.setReg_kept rfl ?_
    assumption
  clear_value y2
  refine Kept.dite (fun _ => ?_) (fun _ => ?_)
  · refine State.setF_kept rfl ?_
    assumption
  · assumption

theorem execMarchStart_kept {kb : Bool} {ka : State} {w : Word} {s : State} (h2 : Kept kb ka s) :
    OutKept kb ka (execMarchStart w s) := by
  unfold execMarchStart
  refine OutKept.mk ?_
  refine State.marchCtlWrite_kept ?_
  assumption

theorem State.marchFinish_kept {kb : Bool} {ka : State} {s : State} {fails : List FailRow} {unc : Bool} (h1 : Kept kb ka s) :
    Kept kb ka (State.marchFinish s fails unc) := by
  unfold State.marchFinish
  extract_lets y1 y2 y3
  clear_value y1
  clear_value y2
  clear_value y3
  refine Kept.dite (fun _ => ?_) (fun _ => ?_)
  · split
    rename_i v1 v2 v3 v4 v5
    have g1 : Kept kb ka v4 := by
      refine Kept.snd v5 ?_
      refine Kept.dite2 (fun _ => ?_) (fun _ => ?_)
      · refine State.marchUnc_kept ?_
        assumption
      · refine Kept.mk2 ?_
        assumption
    extract_lets y4
    have g2 : Kept kb ka y4 := by
      unfold y4
      refine Kept.dite (fun _ => ?_) (fun _ => ?_)
      · refine State.marchScrub_kept ?_
        assumption
      · assumption
    clear_value y4
    refine State.marchEnd_kept ?_
    refine State.marchReport_kept ?_
    assumption
  · assumption

theorem execMarchComplete_kept {kb : Bool} {ka : State} {fails : List FailRow} {unc : Bool} {s : State} (h3 : Kept kb ka s) :
    OutKept kb ka (execMarchComplete fails unc s) := by
  unfold execMarchComplete
  refine OutKept.mk ?_
  refine State.marchFinish_kept ?_
  assumption

theorem State.ckuBoundary_kept {kb : Bool} {ka : State} {s : State} {u : Nat} (h1 : Kept kb ka s) :
    Kept kb ka (State.ckuBoundary s u) := by
  unfold State.ckuBoundary
  extract_lets y1 y2
  clear_value y1
  have g1 : Kept kb ka y2 := by
    unfold y2
    refine State.setCku_kept ?_
    assumption
  clear_value y2
  refine Kept.dite (fun _ => ?_) (fun _ => ?_)
  · assumption
  · refine Kept.dite (fun _ => ?_) (fun _ => ?_)
    · refine Kept.dite (fun _ => ?_) (fun _ => ?_)
      · refine State.setB_kept rfl ?_
        assumption
      · refine State.ckuBegin_kept ?_
        assumption
    · refine State.setCku_kept ?_
      assumption

theorem execMarchAbort_kept {kb : Bool} {ka : State} {s : State} (h1 : Kept kb ka s) :
    OutKept kb ka (execMarchAbort s) := by
  unfold execMarchAbort
  refine OutKept.mk ?_
  refine State.marchCtlWrite_kept ?_
  assumption

theorem State.ckuFinish_kept {kb : Bool} {ka : State} {s : State} {u : Nat} {ups : List Upset} (h1 : Kept kb ka s) :
    Kept kb ka (State.ckuFinish s u ups) := by
  unfold State.ckuFinish
  extract_lets y1 y2
  have g1 : Kept kb ka y1 := by
    unfold y1
    refine State.upset_kept ?_
    assumption
  clear_value y1
  clear_value y2
  refine Kept.dite (fun _ => ?_) (fun _ => ?_)
  · split
    · rename_i v1 v2 v3 v4
      have g2 : Kept kb ka v3 := by
        refine Kept.snd v4 ?_
        refine State.ckuRead_kept ?_
        assumption
      assumption
    · rename_i v5 v6 v7 v8 v9
      have g3 : Kept kb ka v8 := by
        refine Kept.snd v9 ?_
        refine State.ckuRead_kept ?_
        assumption
      extract_lets y3 y4 y5
      clear_value y3
      clear_value y4
      have g4 : Kept kb ka y5 := by
        unfold y5
        refine State.ckuEnd_kept ?_
        refine State.setReg_kept rfl ?_
        assumption
      clear_value y5
      refine Kept.dite (fun _ => ?_) (fun _ => ?_)
      · refine State.setB_kept rfl ?_
        assumption
      · assumption
  · assumption

theorem execCheckComplete_kept {kb : Bool} {ka : State} {u : CkuId} {ups : List Upset} {s : State} (h3 : Kept kb ka s) :
    OutKept kb ka (execCheckComplete u ups s) := by
  unfold execCheckComplete
  refine OutKept.mk ?_
  refine State.ckuFinish_kept ?_
  assumption

theorem execCheckStart_kept {kb : Bool} {ka : State} {u : CkuId} {w : Word} {s : State} (h3 : Kept kb ka s) :
    OutKept kb ka (execCheckStart u w s) := by
  unfold execCheckStart
  refine OutKept.mk ?_
  refine State.ckuCtlWrite_kept ?_
  assumption

theorem execCheckAbort_kept {kb : Bool} {ka : State} {u : CkuId} {s : State} (h2 : Kept kb ka s) :
    OutKept kb ka (execCheckAbort u s) := by
  unfold execCheckAbort
  refine OutKept.mk ?_
  refine State.ckuCtlWrite_kept ?_
  assumption

theorem State.retentionEnd_kept {kb : Bool} {ka : State} {s : State} (h1 : Kept kb ka s) :
    Kept kb ka (State.retentionEnd s) := by
  unfold State.retentionEnd
  extract_lets y1
  clear_value y1
  refine Kept.dite (fun _ => ?_) (fun _ => ?_)
  · refine Kept.all ?_
    assumption
  · assumption

theorem execRetentionWaitEnd_kept {kb : Bool} {ka : State} {s : State} (h1 : Kept kb ka s) :
    OutKept kb ka (execRetentionWaitEnd s) := by
  unfold execRetentionWaitEnd
  refine OutKept.mk ?_
  refine State.retentionEnd_kept ?_
  assumption

end Sys2Proof.Machine
end

