-- ==== Sys2Proof/Laws/KeptGlvCmd.lean ====
section
/-! SUPPORT. What each operation of Machine/GlvCmd.lean keeps (Laws/Kept.lean). -/

set_option maxRecDepth 4000

namespace Sys2Proof.Machine

theorem State.glvEvtPop_kept {kb : Bool} {ka : State} {s : State} (h1 : Kept kb ka s) :
    Kept kb ka (State.glvEvtPop s).2 := by
  unfold State.glvEvtPop
  split
  · rename_i v1 v2
    refine Kept.mk2 ?_
    assumption
  · rename_i v3 v4 v5 v6
    refine Kept.mk2 ?_
    refine State.logEvt_kept ?_
    refine Kept.all ?_
    assumption

theorem State.glvTighten_kept {kb : Bool} {ka : State} {s : State} {k : Nat} {w : Word} (h1 : Kept kb ka s) :
    Kept kb ka (State.glvTighten s k w) := by
  unfold State.glvTighten
  extract_lets y1
  clear_value y1
  refine Kept.dite (fun _ => ?_) (fun _ => ?_)
  · assumption
  · split
    rename_i v1 v2 v3 v4 v5
    have g1 : Kept kb ka v3 := by
      refine Kept.fst v5 ?_
      refine State.glvCompare_kept ?_
      assumption
    extract_lets y2 y3 y4 y5
    clear_value y2
    clear_value y3
    have g2 : Kept kb ka y4 := by
      unfold y4
      refine State.modCh_kept ?_
      assumption
    clear_value y4
    clear_value y5
    refine Kept.dite (fun _ => ?_) (fun _ => ?_)
    · refine Kept.dite (fun _ => ?_) (fun _ => ?_)
      · refine State.sendLimits_kept ?_
        assumption
      · assumption
    · refine State.setB_kept rfl ?_
      assumption

theorem State.parkBlock_kept {kb : Bool} {ka : State} {s : State} {first : Nat} {count : Nat} {cause : Nat} (h1 : Kept kb ka s) :
    Kept kb ka (State.parkBlock s first count cause) := by
  unfold State.parkBlock
  refine Kept.foldl (fun st1 x1 g1 => ?_) ?_
  · refine State.glvPark_kept ?_
    assumption
  · assumption

theorem State.releaseBlock_kept {kb : Bool} {ka : State} {s : State} {first : Nat} {count : Nat} (h1 : Kept kb ka s) :
    Kept kb ka (State.releaseBlock s first count).1 := by
  unfold State.releaseBlock
  refine Kept.foldl1 (fun st1 x1 g1 => ?_) ?_
  · split
    rename_i v1 v2 v3 v4
    have g2 : Kept kb ka v2 := by
      refine Kept.fst v4 ?_
      refine State.glvRelease_kept ?_
      assumption
    refine Kept.mk1 ?_
    assumption
  · refine Kept.mk1 ?_
    assumption

theorem State.glvCmdWrite_kept {kb : Bool} {ka : State} {s : State} {w : Word} (h1 : Kept kb ka s) :
    Kept kb ka (State.glvCmdWrite s w) := by
  unfold State.glvCmdWrite
  extract_lets y1 y2 y3 y4 y5
  clear_value y1
  clear_value y2
  clear_value y3
  have g1 : Kept kb ka y4 := by
    unfold y4
    refine State.setF_kept rfl ?_
    refine State.setF_kept rfl ?_
    assumption
  clear_value y4
  have g2 : Kept kb ka y5 := by
    unfold y5
    refine State.setF_kept rfl ?_
    refine State.parkBlock_kept ?_
    assumption
  clear_value y5
  refine Kept.dite (fun _ => ?_) (fun _ => ?_)
  · assumption
  · refine Kept.dite (fun _ => ?_) (fun _ => ?_)
    · refine State.setF_kept rfl ?_
      assumption
    · refine Kept.dite (fun _ => ?_) (fun _ => ?_)
      · refine State.setF_kept rfl ?_
        assumption
      · refine Kept.dite (fun _ => ?_) (fun _ => ?_)
        · refine Kept.all ?_
          assumption
        · split
          rename_i v1 v2 v3 v4 v5 v6 v7 v8 v9
          have g3 : Kept kb ka v6 := by
            refine Kept.fst v9 ?_
            refine State.releaseBlock_kept ?_
            assumption
          extract_lets y6
          have g4 : Kept kb ka y6 := by
            unfold y6
            refine State.setF_kept rfl ?_
            assumption
          clear_value y6
          refine Kept.all ?_
          assumption

theorem execGlvTighten_kept {kb : Bool} {ka : State} {k : Fin 7} {w : Word} {s : State} (h3 : Kept kb ka s) :
    OutKept kb ka (execGlvTighten k w s) := by
  unfold execGlvTighten
  refine OutKept.mk ?_
  refine State.glvTighten_kept ?_
  assumption

theorem State.glvCmdFinish_kept {kb : Bool} {ka : State} {s : State} (h1 : Kept kb ka s) :
    Kept kb ka (State.glvCmdFinish s) := by
  unfold State.glvCmdFinish
  split
  · rename_i v1 v2 v3
    extract_lets y1
    have g1 : Kept kb ka y1 := by
      unfold y1
      refine State.setF_kept rfl ?_
      assumption
    clear_value y1
    refine Kept.all ?_
    assumption
  · rename_i v4 v5
    assumption

theorem execGlvCmdPark_kept {kb : Bool} {ka : State} {first : Fin 32768} {count : Fin 512} {s : State} (h3 : Kept kb ka s) :
    OutKept kb ka (execGlvCmdPark first count s) := by
  unfold execGlvCmdPark
  refine OutKept.mk ?_
  refine State.glvCmdWrite_kept ?_
  assumption

theorem execGlvCmdRelease_kept {kb : Bool} {ka : State} {first : Fin 32768} {count : Fin 512} {s : State} (h3 : Kept kb ka s) :
    OutKept kb ka (execGlvCmdRelease first count s) := by
  unfold execGlvCmdRelease
  refine OutKept.mk ?_
  refine State.glvCmdWrite_kept ?_
  assumption

theorem execGlvCmdDone_kept {kb : Bool} {ka : State} {s : State} (h1 : Kept kb ka s) :
    OutKept kb ka (execGlvCmdDone s) := by
  unfold execGlvCmdDone
  refine OutKept.mk ?_
  refine State.glvCmdFinish_kept ?_
  assumption

theorem execGlvEvtRead_kept {kb : Bool} {ka : State} {s : State} (h1 : Kept kb ka s) :
    OutKept kb ka (execGlvEvtRead s) := by
  unfold execGlvEvtRead
  refine OutKept.mk ?_
  refine State.glvEvtPop_kept ?_
  assumption

end Sys2Proof.Machine
end

