-- ==== Sys2Proof/Laws/KeptHealth.lean ====
section
/-! SUPPORT. What each operation of Machine/Health.lean keeps (Laws/Kept.lean). -/

set_option maxRecDepth 4000

namespace Sys2Proof.Machine

theorem State.hlthEvtPop_kept {kb : Bool} {ka : State} {s : State} (h1 : Kept kb ka s) :
    Kept kb ka (State.hlthEvtPop s).2 := by
  unfold State.hlthEvtPop
  split
  · rename_i v1 v2
    refine Kept.mk2 ?_
    assumption
  · rename_i v3 v4 v5 v6
    extract_lets y1 y2
    clear_value y1
    have g1 : Kept kb ka y2 := by
      unfold y2
      refine Kept.all ?_
      assumption
    clear_value y2
    refine Kept.mk2 ?_
    refine State.logEvt_kept ?_
    assumption

theorem execHlthEvtRead_kept {kb : Bool} {ka : State} {s : State} (h1 : Kept kb ka s) :
    OutKept kb ka (execHlthEvtRead s) := by
  unfold execHlthEvtRead
  refine OutKept.mk ?_
  refine State.hlthEvtPop_kept ?_
  assumption

theorem State.swdtCatch_kept {kb : Bool} {ka : State} {s : State} (h1 : Kept kb ka s) :
    Kept kb ka (State.swdtCatch s) := by
  unfold State.swdtCatch
  extract_lets y1
  clear_value y1
  refine Kept.dite (fun _ => ?_) (fun _ => ?_)
  · split
    rename_i v1 v2 v3 v4 v5
    have g1 : Kept kb ka v4 := by
      refine Kept.snd v5 ?_
      refine State.drawNat_kept ?_
      assumption
    refine State.setF_kept rfl ?_
    assumption
  · assumption

theorem State.nomWrite_kept {kb : Bool} {ka : State} {s : State} {w : Word} (h1 : Kept kb ka s) :
    Kept kb ka (State.nomWrite s w) := by
  unfold State.nomWrite
  extract_lets y1
  clear_value y1
  refine Kept.dite (fun _ => ?_) (fun _ => ?_)
  · refine State.setF_kept rfl ?_
    assumption
  · assumption

theorem State.swdtLoad_kept {kb : Bool} {ka : State} {s : State} (h1 : Kept kb ka s) :
    Kept kb ka (State.swdtLoad s) := by
  unfold State.swdtLoad
  refine State.setF_kept rfl ?_
  assumption

theorem State.swdtWrite_kept {kb : Bool} {ka : State} {s : State} {w : Word} (h1 : Kept kb ka s) :
    Kept kb ka (State.swdtWrite s w) := by
  unfold State.swdtWrite
  extract_lets y1 y2 y3
  clear_value y1
  have g1 : Kept kb ka y2 := by
    unfold y2
    refine State.swdtCatch_kept ?_
    assumption
  clear_value y2
  have g2 : Kept kb ka y3 := by
    unfold y3
    refine State.setReg_kept rfl ?_
    assumption
  clear_value y3
  refine Kept.dite (fun _ => ?_) (fun _ => ?_)
  · refine State.swdtLoad_kept ?_
    assumption
  · assumption

theorem State.thermalSample_kept {kb : Bool} {ka : State} {s : State} {tmax : Nat} {sensor : Nat} (h1 : Kept kb ka s) :
    Kept kb ka (State.thermalSample s tmax sensor) := by
  unfold State.thermalSample
  refine Kept.dite (fun _ => ?_) (fun _ => ?_)
  · assumption
  · refine State.setF_kept rfl ?_
    refine State.setF_kept rfl ?_
    assumption

theorem State.ageingStep_kept {kb : Bool} {ka : State} {s : State} (h1 : Kept kb ka s) :
    Kept kb ka (State.ageingStep s) := by
  unfold State.ageingStep
  extract_lets y1 y2 y3 y4
  clear_value y1
  clear_value y2
  have g1 : Kept kb ka y3 := by
    unfold y3
    refine State.setB_kept rfl ?_
    refine State.setF_kept rfl ?_
    assumption
  clear_value y3
  clear_value y4
  refine Kept.dite (fun _ => ?_) (fun _ => ?_)
  · refine State.healthEvt_kept ?_
    refine Kept.all ?_
    assumption
  · assumption

theorem State.raiseBegin_kept {kb : Bool} {ka : State} {s : State} (h1 : Kept kb ka s) :
    Kept kb ka (State.raiseBegin s) := by
  unfold State.raiseBegin
  extract_lets y1 y2
  have g1 : Kept kb ka y1 := by
    unfold y1
    refine State.setF_kept rfl ?_
    assumption
  clear_value y1
  clear_value y2
  refine Kept.dite (fun _ => ?_) (fun _ => ?_)
  · refine Kept.all ?_
    assumption
  · assumption

theorem State.clockBoundary_kept {kb : Bool} {ka : State} {s : State} (h1 : Kept kb ka s) :
    Kept kb ka (State.clockBoundary s) := by
  unfold State.clockBoundary
  extract_lets y1 y2 y3
  have g1 : Kept kb ka y1 := by
    unfold y1
    refine State.ageingStep_kept ?_
    assumption
  clear_value y1
  clear_value y2
  clear_value y3
  split
  rename_i v1 v2 v3 v4
  extract_lets y4 y5 y6 y7
  have g2 : Kept kb ka y4 := by
    unfold y4
    refine State.setF_kept rfl ?_
    assumption
  clear_value y4
  have g3 : Kept kb ka y5 := by
    unfold y5
    refine Kept.dite (fun _ => ?_) (fun _ => ?_)
    · refine Kept.all ?_
      assumption
    · refine State.raiseBegin_kept ?_
      assumption
  clear_value y5
  clear_value y6
  have g4 : Kept kb ka y7 := by
    unfold y7
    refine State.withAlert_kept ?_ ?_
    · assumption
    · intro w1 w2
      refine State.setB_kept rfl ?_
      assumption
  clear_value y7
  refine Kept.dite (fun _ => ?_) (fun _ => ?_)
  · refine State.healthEvt_kept ?_
    assumption
  · assumption

theorem State.setVreq_kept {kb : Bool} {ka : State} {s : State} {v : ℤ} (h1 : Kept kb ka s) :
    Kept kb ka (State.setVreq s v) := by
  unfold State.setVreq
  split
  rename_i v1 v2 v3 v4
  have g1 : Kept kb ka v3 := by
    refine Kept.snd v4 ?_
    refine Kept.dite2 (fun _ => ?_) (fun _ => ?_)
    · refine Kept.mk2 ?_
      assumption
    · refine State.drawNat_kept ?_
      assumption
  extract_lets y1 y2
  have g2 : Kept kb ka y1 := by
    unfold y1
    refine State.setF_kept rfl ?_
    assumption
  clear_value y1
  clear_value y2
  refine Kept.all ?_
  assumption

theorem State.setGuard_kept {kb : Bool} {ka : State} {s : State} {slope : Nat} (h1 : Kept kb ka s) :
    Kept kb ka (State.setGuard s slope) := by
  unfold State.setGuard
  extract_lets y1
  clear_value y1
  refine Kept.dite (fun _ => ?_) (fun _ => ?_)
  · refine State.setF_kept rfl ?_
    assumption
  · split
    rename_i v1 v2 v3 v4 v5
    have g1 : Kept kb ka v4 := by
      refine Kept.snd v5 ?_
      refine State.drawNat_kept ?_
      assumption
    refine State.setF_kept rfl ?_
    assumption

theorem State.ageingReplan_kept {kb : Bool} {ka : State} {s : State} {shift : Nat} (h1 : Kept kb ka s) :
    Kept kb ka (State.ageingReplan s shift) := by
  unfold State.ageingReplan
  extract_lets y1 y2 y3 y4 y5
  have g1 : Kept kb ka y1 := by
    unfold y1
    refine State.setReg_kept rfl ?_
    assumption
  clear_value y1
  clear_value y2
  clear_value y3
  have g2 : Kept kb ka y4 := by
    unfold y4
    refine State.setF_kept rfl ?_
    refine State.setF_kept rfl ?_
    assumption
  clear_value y4
  have g3 : Kept kb ka y5 := by
    unfold y5
    refine State.setGuard_kept ?_
    assumption
  clear_value y5
  refine Kept.dite (fun _ => ?_) (fun _ => ?_)
  · assumption
  · refine State.setReg_kept rfl ?_
    assumption

theorem execAgeingReplan_kept {kb : Bool} {ka : State} {shift : Fin 1024} {s : State} (h2 : Kept kb ka s) :
    OutKept kb ka (execAgeingReplan shift s) := by
  unfold execAgeingReplan
  refine OutKept.mk ?_
  refine State.ageingReplan_kept ?_
  assumption

theorem State.setTsteps_kept {kb : Bool} {ka : State} {s : State} {n : Nat} (h1 : Kept kb ka s) :
    Kept kb ka (State.setTsteps s n) := by
  unfold State.setTsteps
  extract_lets y1 y2 y3 y4
  clear_value y1
  have g1 : Kept kb ka y2 := by
    unfold y2
    refine State.setB_kept rfl ?_
    assumption
  clear_value y2
  clear_value y3
  have g2 : Kept kb ka y4 := by
    unfold y4
    refine Kept.all ?_
    assumption
  clear_value y4
  refine Kept.dite (fun _ => ?_) (fun _ => ?_)
  · refine State.healthEvt_kept ?_
    assumption
  · refine Kept.dite (fun _ => ?_) (fun _ => ?_)
    · refine State.healthEvt_kept ?_
      assumption
    · assumption

theorem State.thermalStep_kept {kb : Bool} {ka : State} {s : State} (h1 : Kept kb ka s) :
    Kept kb ka (State.thermalStep s) := by
  unfold State.thermalStep
  extract_lets y1 y2 y3 y4
  clear_value y1
  clear_value y2
  clear_value y3
  clear_value y4
  refine Kept.dite (fun _ => ?_) (fun _ => ?_)
  · assumption
  · refine Kept.dite (fun _ => ?_) (fun _ => ?_)
    · refine Kept.dite (fun _ => ?_) (fun _ => ?_)
      · refine State.setTsteps_kept ?_
        assumption
      · assumption
    · refine State.setTsteps_kept ?_
      assumption

theorem execSwdtKick_kept {kb : Bool} {ka : State} {s : State} (h1 : Kept kb ka s) :
    OutKept kb ka (execSwdtKick s) := by
  unfold execSwdtKick
  refine OutKept.mk ?_
  refine State.swdtLoad_kept ?_
  assumption

theorem State.avsTransact_kept {kb : Bool} {ka : State} {s : State} {write : Bool} {data : Nat} {ok : Bool} (h1 : Kept kb ka s) :
    Kept kb ka (State.avsTransact s write data ok) := by
  unfold State.avsTransact
  extract_lets y1 y2
  clear_value y1
  have g1 : Kept kb ka y2 := by
    unfold y2
    refine Kept.all ?_
    assumption
  clear_value y2
  refine Kept.dite (fun _ => ?_) (fun _ => ?_)
  · assumption
  · refine State.incF_kept rfl ?_
    assumption

theorem State.avsRead_kept {kb : Bool} {ka : State} {s : State} {ok : Bool} {readback : Nat} (h1 : Kept kb ka s) :
    Kept kb ka (State.avsRead s ok readback) := by
  unfold State.avsRead
  extract_lets y1
  have g1 : Kept kb ka y1 := by
    unfold y1
    refine State.avsTransact_kept ?_
    assumption
  clear_value y1
  refine Kept.dite (fun _ => ?_) (fun _ => ?_)
  · refine State.setF_kept rfl ?_
    assumption
  · assumption

theorem State.avsGood_kept {kb : Bool} {ka : State} {s : State} (h1 : Kept kb ka s) :
    Kept kb ka (State.avsGood s) := by
  unfold State.avsGood
  extract_lets y1
  clear_value y1
  refine Kept.all ?_
  assumption

theorem State.avsFail_kept {kb : Bool} {ka : State} {s : State} (h1 : Kept kb ka s) :
    Kept kb ka (State.avsFail s) := by
  unfold State.avsFail
  extract_lets y1 y2 y3 y4 y5
  clear_value y1
  clear_value y2
  have g1 : Kept kb ka y3 := by
    unfold y3
    refine Kept.all ?_
    assumption
  clear_value y3
  clear_value y4
  have g2 : Kept kb ka y5 := by
    unfold y5
    refine Kept.all ?_
    assumption
  clear_value y5
  refine Kept.dite (fun _ => ?_) (fun _ => ?_)
  · refine State.healthEvt_kept ?_
    refine State.withAlert_kept ?_ ?_
    · assumption
    · intro w1 w2
      refine State.setB_kept rfl ?_
      assumption
  · assumption

theorem State.avsRaise_kept {kb : Bool} {ka : State} {s : State} {rd : Bool} {wr : Bool} {readback : Nat} (h1 : Kept kb ka s) :
    Kept kb ka (State.avsRaise s rd wr readback) := by
  unfold State.avsRaise
  extract_lets y1 y2 y3 y4 y5 y6 y7
  have g1 : Kept kb ka y1 := by
    unfold y1
    refine State.avsRead_kept ?_
    assumption
  clear_value y1
  clear_value y2
  have g2 : Kept kb ka y3 := by
    unfold y3
    refine Kept.dite (fun _ => ?_) (fun _ => ?_)
    · assumption
    · refine State.avsTransact_kept ?_
      assumption
  clear_value y3
  have g3 : Kept kb ka y4 := by
    unfold y4
    refine State.avsRead_kept ?_
    assumption
  clear_value y4
  clear_value y5
  clear_value y6
  clear_value y7
  refine Kept.dite (fun _ => ?_) (fun _ => ?_)
  · refine Kept.dite (fun _ => ?_) (fun _ => ?_)
    · refine State.avsGood_kept ?_
      assumption
    · refine State.avsFail_kept ?_
      assumption
  · refine Kept.dite (fun _ => ?_) (fun _ => ?_)
    · refine State.avsGood_kept ?_
      refine Kept.all ?_
      assumption
    · refine Kept.dite (fun _ => ?_) (fun _ => ?_)
      · refine State.avsFail_kept ?_
        refine Kept.all ?_
        assumption
      · refine Kept.all ?_
        assumption

theorem State.avsNormal_kept {kb : Bool} {ka : State} {s : State} {readback : Nat} {mpath : Nat} {worst : Nat} (h1 : Kept kb ka s) :
    Kept kb ka (State.avsNormal s readback mpath worst) := by
  unfold State.avsNormal
  extract_lets y1 y2 y3 y4 y5 y6 y7
  clear_value y1
  clear_value y2
  have g1 : Kept kb ka y3 := by
    unfold y3
    refine State.setF_kept rfl ?_
    refine State.setF_kept rfl ?_
    refine State.setVreq_kept ?_
    assumption
  clear_value y3
  have g2 : Kept kb ka y4 := by
    unfold y4
    refine State.setF_kept rfl ?_
    assumption
  clear_value y4
  clear_value y5
  clear_value y6
  have g3 : Kept kb ka y7 := by
    unfold y7
    refine Kept.all ?_
    assumption
  clear_value y7
  refine Kept.dite (fun _ => ?_) (fun _ => ?_)
  · refine State.healthEvt_kept ?_
    refine State.setB_kept rfl ?_
    assumption
  · assumption

theorem State.avsUpdate_kept {kb : Bool} {ka : State} {s : State} {rd : Bool} {wr : Bool} {readback : Nat} {mpath : Nat} {worst : Nat} (h1 : Kept kb ka s) :
    Kept kb ka (State.avsUpdate s rd wr readback mpath worst) := by
  unfold State.avsUpdate
  extract_lets y1 y2 y3 y4 y5 y6
  have g1 : Kept kb ka y2 := by
    unfold y2
    refine Kept.all ?_
    assumption
  have g2 : Kept kb ka y3 := by
    unfold y3
    refine State.avsRead_kept ?_
    assumption
  clear_value y4
  have g3 : Kept kb ka y5 := by
    unfold y5
    refine State.avsNormal_kept ?_
    assumption
  clear_value y5
  have g4 : Kept kb ka y6 := by
    unfold y6
    refine State.avsTransact_kept ?_
    assumption
  clear_value y6
  refine Kept.dite (fun _ => ?_) (fun _ => ?_)
  · assumption
  · extract_lets 
    refine Kept.dite (fun _ => ?_) (fun _ => ?_)
    · refine State.avsRaise_kept ?_
      assumption
    · extract_lets 
      refine Kept.dite (fun _ => ?_) (fun _ => ?_)
      · refine State.avsFail_kept ?_
        assumption
      · extract_lets 
        refine Kept.dite (fun _ => ?_) (fun _ => ?_)
        · refine State.avsGood_kept ?_
          assumption
        · refine Kept.dite (fun _ => ?_) (fun _ => ?_)
          · refine State.avsGood_kept ?_
            assumption
          · refine Kept.dite (fun _ => ?_) (fun _ => ?_)
            · refine State.avsGood_kept ?_
              assumption
            · refine State.avsFail_kept ?_
              assumption

theorem execAvsUpdate_kept {kb : Bool} {ka : State} {readOk : Bool} {writeOk : Bool} {readback : Fin 1024} {mpath : Fin 1024} {worst : Fin 24} {s : State} (h6 : Kept kb ka s) :
    OutKept kb ka (execAvsUpdate readOk writeOk readback mpath worst s) := by
  unfold execAvsUpdate
  refine OutKept.mk ?_
  refine State.avsUpdate_kept ?_
  assumption

theorem execThermalStep_kept {kb : Bool} {ka : State} {s : State} (h1 : Kept kb ka s) :
    OutKept kb ka (execThermalStep s) := by
  unfold execThermalStep
  refine OutKept.mk ?_
  refine State.thermalStep_kept ?_
  assumption

theorem execThermalSample_kept {kb : Bool} {ka : State} {tmax : BitVec 9} {sensor : Fin 12} {s : State} (h3 : Kept kb ka s) :
    OutKept kb ka (execThermalSample tmax sensor s) := by
  unfold execThermalSample
  refine OutKept.mk ?_
  refine State.thermalSample_kept ?_
  assumption

end Sys2Proof.Machine
end

