-- ==== Sys2Proof/Laws/KeptMulDiv.lean ====
section
/-! SUPPORT. What each operation of Machine/MulDiv.lean keeps (Laws/Kept.lean). -/

set_option maxRecDepth 4000

namespace Sys2Proof.Machine

theorem mulOp_kept {kb : Bool} {ka : State} {f : Word → Word → Word} {lat : Nat} {s : State} {e : Nat} {t : Word} (h3 : Kept kb ka s) :
    OpKept kb ka (mulOp f lat s e t) := by
  unfold mulOp
  refine OpOut.one_kept ?_
  assumption

theorem mulRow_kept {kb : Bool} {ka : State} {f : Word → Word → Word} {lat : Nat} {e : EngId} {t : Word} {s : State} (h5 : Kept kb ka s) :
    OutKept kb ka (mulRow f lat e t s) := by
  unfold mulRow
  refine OutKept.mk ?_
  refine State.opRow_kept ?_ ?_
  · assumption
  · refine mulOp_kept ?_
    assumption

theorem execMulh_kept {kb : Bool} {ka : State} {e : EngId} {t : Word} {s : State} (h3 : Kept kb ka s) :
    OutKept kb ka (execMulh e t s) := by
  unfold execMulh
  refine mulRow_kept ?_
  assumption

theorem divTrig_kept {kb : Bool} {ka : State} {k : Nat} {s : State} {e : Nat} {t : Word} (h2 : Kept kb ka s) :
    OpKept kb ka (divTrig k s e t) := by
  unfold divTrig
  extract_lets y1 y2
  clear_value y1
  clear_value y2
  refine OpKept.dite (fun _ => ?_) (fun _ => ?_)
  · exact True.intro
  · refine OpKept.dite (fun _ => ?_) (fun _ => ?_)
    · exact True.intro
    · refine OpKept.dite (fun _ => ?_) (fun _ => ?_)
      · exact True.intro
      · refine OpOut.plain_kept ?_
        refine State.setEngine_kept ?_
        assumption

theorem macAccOp_kept {kb : Bool} {ka : State} {f : BitVec 80 → Word → Word → BitVec 80} {k : Nat} {s : State} {e : Nat} {t : Word} (h3 : Kept kb ka s) :
    OpKept kb ka (macAccOp f k s e t) := by
  unfold macAccOp
  extract_lets y1
  clear_value y1
  refine OpOut.plain_kept ?_
  refine State.setEngine_kept ?_
  assumption

theorem macRdOp_kept {kb : Bool} {ka : State} {k : Nat} {s : State} {e : Nat} {t : Word} (h2 : Kept kb ka s) :
    OpKept kb ka (macRdOp k s e t) := by
  unfold macRdOp
  refine OpKept.dite (fun _ => ?_) (fun _ => ?_)
  · exact True.intro
  · refine OpOut.one_kept ?_
    assumption

theorem macGetOp_kept {kb : Bool} {ka : State} {k : Nat} {s : State} {e : Nat} {t : Word} (h2 : Kept kb ka s) :
    OpKept kb ka (macGetOp k s e t) := by
  unfold macGetOp
  refine OpKept.dite (fun _ => ?_) (fun _ => ?_)
  · exact True.intro
  · refine OpOut.one_kept ?_
    assumption

theorem macPutOp_kept {kb : Bool} {ka : State} {k : Nat} {s : State} {e : Nat} {t : Word} (h2 : Kept kb ka s) :
    OpKept kb ka (macPutOp k s e t) := by
  unfold macPutOp
  extract_lets y1
  clear_value y1
  refine OpKept.dite (fun _ => ?_) (fun _ => ?_)
  · exact True.intro
  · refine OpOut.plain_kept ?_
    refine State.setEngine_kept ?_
    assumption

theorem macAt_kept {kb : Bool} {ka : State} {i : Nat} {s : State} {e : Nat} {t : Word} (h2 : Kept kb ka s) :
    OpKept kb ka (macAt i s e t) := by
  unfold macAt
  split
  · rename_i v1 v2
    refine macAccOp_kept ?_
    assumption
  · rename_i v3 v4
    refine macAccOp_kept ?_
    assumption
  · rename_i v5 v6
    refine macAccOp_kept ?_
    assumption
  · rename_i v7 v8
    refine macAccOp_kept ?_
    assumption
  · rename_i v9 v10
    refine macRdOp_kept ?_
    assumption
  · rename_i v11 v12
    refine macGetOp_kept ?_
    assumption
  · rename_i v13 v14 v15 v16 v17 v18 v19
    refine macPutOp_kept ?_
    assumption

theorem execMacRd_kept {kb : Bool} {ka : State} {e : EngId} {k : Fin 4} {t : Word} {s : State} (h4 : Kept kb ka s) :
    OutKept kb ka (execMacRd e k t s) := by
  unfold execMacRd
  refine OutKept.mk ?_
  refine State.opRow_kept ?_ ?_
  · assumption
  · refine macRdOp_kept ?_
    assumption

theorem execMul_kept {kb : Bool} {ka : State} {e : EngId} {t : Word} {s : State} (h3 : Kept kb ka s) :
    OutKept kb ka (execMul e t s) := by
  unfold execMul
  refine mulRow_kept ?_
  assumption

theorem execDiv_kept {kb : Bool} {ka : State} {e : EngId} {t : Word} {s : State} (h3 : Kept kb ka s) :
    OutKept kb ka (execDiv e t s) := by
  unfold execDiv
  refine OutKept.mk ?_
  refine State.opRow_kept ?_ ?_
  · assumption
  · refine divTrig_kept ?_
    assumption

theorem execMacClr_kept {kb : Bool} {ka : State} {e : EngId} {k : Fin 4} {t : Word} {s : State} (h4 : Kept kb ka s) :
    OutKept kb ka (execMacClr e k t s) := by
  unfold execMacClr
  refine OutKept.mk ?_
  refine State.opRow_kept ?_ ?_
  · assumption
  · refine macAccOp_kept ?_
    assumption

theorem execMacGet_kept {kb : Bool} {ka : State} {e : EngId} {k : Fin 4} {t : Word} {s : State} (h4 : Kept kb ka s) :
    OutKept kb ka (execMacGet e k t s) := by
  unfold execMacGet
  refine OutKept.mk ?_
  refine State.opRow_kept ?_ ?_
  · assumption
  · refine macGetOp_kept ?_
    assumption

theorem execMacMac_kept {kb : Bool} {ka : State} {e : EngId} {k : Fin 4} {t : Word} {s : State} (h4 : Kept kb ka s) :
    OutKept kb ka (execMacMac e k t s) := by
  unfold execMacMac
  refine OutKept.mk ?_
  refine State.opRow_kept ?_ ?_
  · assumption
  · refine macAccOp_kept ?_
    assumption

theorem execMul24_kept {kb : Bool} {ka : State} {e : EngId} {t : Word} {s : State} (h3 : Kept kb ka s) :
    OutKept kb ka (execMul24 e t s) := by
  unfold execMul24
  refine mulRow_kept ?_
  assumption

theorem execMul12_kept {kb : Bool} {ka : State} {e : EngId} {t : Word} {s : State} (h3 : Kept kb ka s) :
    OutKept kb ka (execMul12 e t s) := by
  unfold execMul12
  refine mulRow_kept ?_
  assumption

theorem execMulhu_kept {kb : Bool} {ka : State} {e : EngId} {t : Word} {s : State} (h3 : Kept kb ka s) :
    OutKept kb ka (execMulhu e t s) := by
  unfold execMulhu
  refine mulRow_kept ?_
  assumption

theorem execDivu_kept {kb : Bool} {ka : State} {e : EngId} {t : Word} {s : State} (h3 : Kept kb ka s) :
    OutKept kb ka (execDivu e t s) := by
  unfold execDivu
  refine OutKept.mk ?_
  refine State.opRow_kept ?_ ?_
  · assumption
  · refine divTrig_kept ?_
    assumption

theorem execRem_kept {kb : Bool} {ka : State} {e : EngId} {t : Word} {s : State} (h3 : Kept kb ka s) :
    OutKept kb ka (execRem e t s) := by
  unfold execRem
  refine OutKept.mk ?_
  refine State.opRow_kept ?_ ?_
  · assumption
  · refine divTrig_kept ?_
    assumption

theorem execRemu_kept {kb : Bool} {ka : State} {e : EngId} {t : Word} {s : State} (h3 : Kept kb ka s) :
    OutKept kb ka (execRemu e t s) := by
  unfold execRemu
  refine OutKept.mk ?_
  refine State.opRow_kept ?_ ?_
  · assumption
  · refine divTrig_kept ?_
    assumption

theorem execDivComplete_kept {kb : Bool} {ka : State} {e : EngId} {s : State} (h2 : Kept kb ka s) :
    OutKept kb ka (execDivComplete e s) := by
  unfold execDivComplete
  split
  · rename_i v1 v2 v3
    split
    · rename_i v4
      refine OutKept.mk ?_
      refine State.modEngine_kept ?_
      assumption
    · rename_i v5
      refine OutKept.mk ?_
      assumption
  · rename_i v6 v7
    refine OutKept.mk ?_
    assumption

theorem execMacMul_kept {kb : Bool} {ka : State} {e : EngId} {k : Fin 4} {t : Word} {s : State} (h4 : Kept kb ka s) :
    OutKept kb ka (execMacMul e k t s) := by
  unfold execMacMul
  refine OutKept.mk ?_
  refine State.opRow_kept ?_ ?_
  · assumption
  · refine macAccOp_kept ?_
    assumption

theorem execMacMsub_kept {kb : Bool} {ka : State} {e : EngId} {k : Fin 4} {t : Word} {s : State} (h4 : Kept kb ka s) :
    OutKept kb ka (execMacMsub e k t s) := by
  unfold execMacMsub
  refine OutKept.mk ?_
  refine State.opRow_kept ?_ ?_
  · assumption
  · refine macAccOp_kept ?_
    assumption

theorem execMacPut_kept {kb : Bool} {ka : State} {e : EngId} {k : Fin 4} {t : Word} {s : State} (h4 : Kept kb ka s) :
    OutKept kb ka (execMacPut e k t s) := by
  unfold execMacPut
  refine OutKept.mk ?_
  refine State.opRow_kept ?_ ?_
  · assumption
  · refine macPutOp_kept ?_
    assumption

end Sys2Proof.Machine
end

