-- ==== Sys2Proof/Laws/KeptFpu.lean ====
section
/-! SUPPORT. What each operation of Machine/Fpu.lean keeps (Laws/Kept.lean). -/

set_option maxRecDepth 4000

namespace Sys2Proof.Machine

theorem fpuOp_kept {kb : Bool} {ka : State} {f : Nat → Word → Word → Word → FpRes} {lat : Nat} {s : State} {e : Nat} {t : Word} (h3 : Kept kb ka s) :
    OpKept kb ka (fpuOp f lat s e t) := by
  unfold fpuOp
  extract_lets y1 y2 y3
  clear_value y1
  clear_value y2
  clear_value y3
  refine OpKept.dite (fun _ => ?_) (fun _ => ?_)
  · exact True.intro
  · refine OpKept.mk ?_
    refine Kept.mkSt ?_
    assumption

theorem fpuRow_kept {kb : Bool} {ka : State} {f : Nat → Word → Word → Word → FpRes} {lat : Nat} {e : EngId} {t : Word} {s : State} (h5 : Kept kb ka s) :
    OutKept kb ka (fpuRow f lat e t s) := by
  unfold fpuRow
  refine OutKept.mk ?_
  refine State.opRow_kept ?_ ?_
  · assumption
  · refine fpuOp_kept ?_
    assumption

theorem execF2u_kept {kb : Bool} {ka : State} {e : EngId} {t : Word} {s : State} (h3 : Kept kb ka s) :
    OutKept kb ka (execF2u e t s) := by
  unfold execF2u
  refine fpuRow_kept ?_
  assumption

theorem execFadd_kept {kb : Bool} {ka : State} {e : EngId} {t : Word} {s : State} (h3 : Kept kb ka s) :
    OutKept kb ka (execFadd e t s) := by
  unfold execFadd
  refine fpuRow_kept ?_
  assumption

theorem State.fpShortFault_kept {kb : Bool} {ka : State} {s : State} {e : Nat} (h1 : Kept kb ka s) :
    Kept kb ka (State.fpShortFault s e) := by
  unfold State.fpShortFault
  extract_lets y1
  clear_value y1
  split
  · rename_i v1 v2 v3 v4 v5 v6
    refine State.fpFault_kept ?_
    refine State.setEngine_kept ?_
    assumption
  · rename_i v7 v8 v9
    assumption

theorem execFcmp_kept {kb : Bool} {ka : State} {e : EngId} {t : Word} {s : State} (h3 : Kept kb ka s) :
    OutKept kb ka (execFcmp e t s) := by
  unfold execFcmp
  refine fpuRow_kept ?_
  assumption

theorem fplTrig_kept {kb : Bool} {ka : State} {k : Nat} {s : State} {e : Nat} {t : Word} (h2 : Kept kb ka s) :
    OpKept kb ka (fplTrig k s e t) := by
  unfold fplTrig
  extract_lets y1 y2 y3
  clear_value y1
  clear_value y2
  clear_value y3
  refine OpKept.dite (fun _ => ?_) (fun _ => ?_)
  · exact True.intro
  · refine OpKept.dite (fun _ => ?_) (fun _ => ?_)
    · exact True.intro
    · refine OpKept.dite (fun _ => ?_) (fun _ => ?_)
      · exact True.intro
      · refine OpOut.plain_kept ?_
        refine State.setEngine_kept ?_
        assumption

theorem State.fplDeliver_kept {kb : Bool} {ka : State} {s : State} {e : Nat} (h1 : Kept kb ka s) :
    OptKept kb ka (State.fplDeliver s e) := by
  unfold State.fplDeliver
  extract_lets y1
  clear_value y1
  split
  · rename_i v1 v2 v3 v4
    refine OptKept.dite (fun _ => ?_) (fun _ => ?_)
    · exact True.intro
    · refine State.fpLongFault_kept ?_
      refine State.setEngine_kept ?_
      assumption
  · rename_i v5 v6 v7
    exact True.intro

theorem execH2f_kept {kb : Bool} {ka : State} {e : EngId} {t : Word} {s : State} (h3 : Kept kb ka s) :
    OutKept kb ka (execH2f e t s) := by
  unfold execH2f
  refine fpuRow_kept ?_
  assumption

theorem execFdiv_kept {kb : Bool} {ka : State} {e : EngId} {t : Word} {s : State} (h3 : Kept kb ka s) :
    OutKept kb ka (execFdiv e t s) := by
  unfold execFdiv
  refine OutKept.mk ?_
  refine State.opRow_kept ?_ ?_
  · assumption
  · refine fplTrig_kept ?_
    assumption

theorem execU2f_kept {kb : Bool} {ka : State} {e : EngId} {t : Word} {s : State} (h3 : Kept kb ka s) :
    OutKept kb ka (execU2f e t s) := by
  unfold execU2f
  refine fpuRow_kept ?_
  assumption

theorem execFsub_kept {kb : Bool} {ka : State} {e : EngId} {t : Word} {s : State} (h3 : Kept kb ka s) :
    OutKept kb ka (execFsub e t s) := by
  unfold execFsub
  refine fpuRow_kept ?_
  assumption

theorem execF2i_kept {kb : Bool} {ka : State} {e : EngId} {t : Word} {s : State} (h3 : Kept kb ka s) :
    OutKept kb ka (execF2i e t s) := by
  unfold execF2i
  refine fpuRow_kept ?_
  assumption

theorem execFma_kept {kb : Bool} {ka : State} {e : EngId} {t : Word} {s : State} (h3 : Kept kb ka s) :
    OutKept kb ka (execFma e t s) := by
  unfold execFma
  refine fpuRow_kept ?_
  assumption

theorem execFmul_kept {kb : Bool} {ka : State} {e : EngId} {t : Word} {s : State} (h3 : Kept kb ka s) :
    OutKept kb ka (execFmul e t s) := by
  unfold execFmul
  refine fpuRow_kept ?_
  assumption

theorem execFmax_kept {kb : Bool} {ka : State} {e : EngId} {t : Word} {s : State} (h3 : Kept kb ka s) :
    OutKept kb ka (execFmax e t s) := by
  unfold execFmax
  refine fpuRow_kept ?_
  assumption

theorem execFsqrt_kept {kb : Bool} {ka : State} {e : EngId} {t : Word} {s : State} (h3 : Kept kb ka s) :
    OutKept kb ka (execFsqrt e t s) := by
  unfold execFsqrt
  refine OutKept.mk ?_
  refine State.opRow_kept ?_ ?_
  · assumption
  · refine fplTrig_kept ?_
    assumption

theorem execFabs_kept {kb : Bool} {ka : State} {e : EngId} {t : Word} {s : State} (h3 : Kept kb ka s) :
    OutKept kb ka (execFabs e t s) := by
  unfold execFabs
  refine fpuRow_kept ?_
  assumption

theorem execFneg_kept {kb : Bool} {ka : State} {e : EngId} {t : Word} {s : State} (h3 : Kept kb ka s) :
    OutKept kb ka (execFneg e t s) := by
  unfold execFneg
  refine fpuRow_kept ?_
  assumption

theorem execFmin_kept {kb : Bool} {ka : State} {e : EngId} {t : Word} {s : State} (h3 : Kept kb ka s) :
    OutKept kb ka (execFmin e t s) := by
  unfold execFmin
  refine fpuRow_kept ?_
  assumption

theorem execI2f_kept {kb : Bool} {ka : State} {e : EngId} {t : Word} {s : State} (h3 : Kept kb ka s) :
    OutKept kb ka (execI2f e t s) := by
  unfold execI2f
  refine fpuRow_kept ?_
  assumption

theorem execW2f_kept {kb : Bool} {ka : State} {e : EngId} {t : Word} {s : State} (h3 : Kept kb ka s) :
    OutKept kb ka (execW2f e t s) := by
  unfold execW2f
  refine fpuRow_kept ?_
  assumption

theorem execF2w_kept {kb : Bool} {ka : State} {e : EngId} {t : Word} {s : State} (h3 : Kept kb ka s) :
    OutKept kb ka (execF2w e t s) := by
  unfold execF2w
  refine fpuRow_kept ?_
  assumption

theorem execF2h_kept {kb : Bool} {ka : State} {e : EngId} {t : Word} {s : State} (h3 : Kept kb ka s) :
    OutKept kb ka (execF2h e t s) := by
  unfold execF2h
  refine fpuRow_kept ?_
  assumption

theorem State.fplNext_kept {kb : Bool} {ka : State} {s : State} {e : Nat} (h1 : Kept kb ka s) :
    Kept kb ka (State.fplNext s e) := by
  unfold State.fplNext
  refine OptKept.getD ?_ ?_
  · refine State.fplDeliver_kept ?_
    assumption
  · refine State.modEngine_kept ?_
    assumption

theorem execFpLongComplete_kept {kb : Bool} {ka : State} {e : EngId} {s : State} (h2 : Kept kb ka s) :
    OutKept kb ka (execFpLongComplete e s) := by
  unfold execFpLongComplete
  split
  · rename_i v1 v2 v3
    split
    · rename_i v4
      refine OutKept.mk ?_
      refine State.fplNext_kept ?_
      refine State.modEngine_kept ?_
      assumption
    · rename_i v5
      refine OutKept.mk ?_
      assumption
  · rename_i v6 v7
    refine OutKept.mk ?_
    assumption

end Sys2Proof.Machine
end

