-- ==== Sys2Proof/Laws/KeptCsr.lean ====
section
/-! SUPPORT. What each operation of Machine/Csr.lean keeps (Laws/Kept.lean). -/

set_option maxRecDepth 4000

namespace Sys2Proof.Machine

theorem csrwOp_kept {kb : Bool} {ka : State} {s : State} {e : Nat} {t : Word} (h1 : Kept kb ka s) :
    OpKept kb ka (csrwOp s e t) := by
  unfold csrwOp
  extract_lets y1
  clear_value y1
  refine OpKept.dite (fun _ => ?_) (fun _ => ?_)
  · exact True.intro
  · split
    · rename_i v1 v2 v3
      refine OpOut.plain_kept ?_
      assumption
    · rename_i v4 v5 v6 v7
      refine OpKept.dite (fun _ => ?_) (fun _ => ?_)
      · exact True.intro
      · refine OpKept.dite (fun _ => ?_) (fun _ => ?_)
        · refine OpOut.plain_kept ?_
          refine State.csrWrite_kept ?_
          assumption
        · refine OpOut.plain_kept ?_
          refine State.modEngine_kept ?_
          assumption

theorem State.rxdEmpty_kept {kb : Bool} {ka : State} {s : State} {e : Nat} (h1 : Kept kb ka s) :
    Kept kb ka (State.rxdEmpty s e) := by
  unfold State.rxdEmpty
  extract_lets y1
  clear_value y1
  refine Kept.all ?_
  assumption

theorem State.csrRead_kept {kb : Bool} {ka : State} {s : State} {e : Nat} {n : Nat} (h1 : Kept kb ka s) :
    Kept kb ka (State.csrRead s e n).2 := by
  unfold State.csrRead
  extract_lets y1
  have g1 : Kept kb ka y1 := by
    unfold y1
    refine Kept.dite (fun _ => ?_) (fun _ => ?_)
    · refine State.cntCatch_kept ?_
      assumption
    · assumption
  clear_value y1
  refine Kept.mk2 ?_
  refine Kept.dite (fun _ => ?_) (fun _ => ?_)
  · refine State.rxdEmpty_kept ?_
    assumption
  · assumption

theorem csrrOp_kept {kb : Bool} {ka : State} {s : State} {e : Nat} {t : Word} (h1 : Kept kb ka s) :
    OpKept kb ka (csrrOp s e t) := by
  unfold csrrOp
  extract_lets y1
  clear_value y1
  refine OpKept.dite (fun _ => ?_) (fun _ => ?_)
  · exact True.intro
  · refine OpKept.dite (fun _ => ?_) (fun _ => ?_)
    · exact True.intro
    · split
      rename_i v1 v2 v3 v4 v5 v6
      have g1 : Kept kb ka v5 := by
        refine Kept.snd v6 ?_
        refine State.csrRead_kept ?_
        assumption
      refine OpOut.one_kept ?_
      assumption

theorem execTxdWrite_kept {kb : Bool} {ka : State} {e : EngId} {w : Word} {s : State} (h3 : Kept kb ka s) :
    OutKept kb ka (execTxdWrite e w s) := by
  unfold execTxdWrite
  refine OutKept.mk ?_
  refine State.txdPut_kept ?_
  assumption

theorem execRxdRead_kept {kb : Bool} {ka : State} {e : EngId} {s : State} (h2 : Kept kb ka s) :
    OutKept kb ka (execRxdRead e s) := by
  unfold execRxdRead
  refine OutKept.mk ?_
  refine State.rxdEmpty_kept ?_
  assumption

theorem execCsrr_kept {kb : Bool} {ka : State} {e : EngId} {t : Word} {s : State} (h3 : Kept kb ka s) :
    OutKept kb ka (execCsrr e t s) := by
  unfold execCsrr
  extract_lets y1
  have g1 : Kept kb ka y1 := by
    unfold y1
    refine State.csrSettle_kept ?_
    assumption
  clear_value y1
  refine OutKept.mk ?_
  refine State.opRow_kept ?_ ?_
  · assumption
  · refine csrrOp_kept ?_
    assumption

theorem execCsrw_kept {kb : Bool} {ka : State} {e : EngId} {t : Word} {s : State} (h3 : Kept kb ka s) :
    OutKept kb ka (execCsrw e t s) := by
  unfold execCsrw
  extract_lets y1
  have g1 : Kept kb ka y1 := by
    unfold y1
    refine State.csrSettle_kept ?_
    assumption
  clear_value y1
  refine OutKept.mk ?_
  refine State.csrSettle_kept ?_
  refine State.opRow_kept ?_ ?_
  · assumption
  · refine csrwOp_kept ?_
    assumption

end Sys2Proof.Machine
end

