-- ==== Sys2Proof/Laws/KeptCu.lean ====
section
/-! SUPPORT. What each operation of Machine/Cu.lean keeps (Laws/Kept.lean). -/

set_option maxRecDepth 4000

namespace Sys2Proof.Machine

theorem State.cuRow_kept {kb : Bool} {ka : State} {s : State} {e : Nat} {o : OpOut} (h1 : Kept kb ka s) (h3 : OpKept kb ka o) :
    Kept kb ka (State.cuRow s e o) := by
  unfold State.cuRow
  extract_lets y1 y2
  clear_value y1
  have g1 : Kept kb ka y2 := by
    unfold y2
    refine State.opRow_kept ?_ ?_
    · assumption
    · assumption
  clear_value y2
  split
  · rename_i v1 v2
    refine State.modEngine_kept ?_
    assumption
  · rename_i v3 v4
    assumption

theorem branchOp_kept {kb : Bool} {ka : State} {b : Nat} {nx : Nat} {s : State} {e : Nat} {t : Word} (h3 : Kept kb ka s) :
    OpKept kb ka (branchOp b nx s e t) := by
  unfold branchOp
  extract_lets y1 y2 y3
  clear_value y1
  clear_value y2
  clear_value y3
  refine OpKept.dite (fun _ => ?_) (fun _ => ?_)
  · exact True.intro
  · refine OpKept.dite (fun _ => ?_) (fun _ => ?_)
    · exact True.intro
    · refine OpKept.dite (fun _ => ?_) (fun _ => ?_)
      · exact True.intro
      · split
        rename_i v1 v2 v3 v4 v5 v6 v7
        extract_lets y4
        clear_value y4
        refine OpOut.plain_kept ?_
        refine State.setEngine_kept ?_
        assumption

theorem execCall_kept {kb : Bool} {ka : State} {e : EngId} {t : Word} {s : State} (h3 : Kept kb ka s) :
    OutKept kb ka (execCall e t s) := by
  unfold execCall
  refine OutKept.mk ?_
  refine State.cuRow_kept ?_ ?_
  · assumption
  · refine branchOp_kept ?_
    assumption

theorem endframeOp_kept {kb : Bool} {ka : State} {s : State} {e : Nat} (h1 : Kept kb ka s) :
    OpKept kb ka (endframeOp s e) := by
  unfold endframeOp
  extract_lets y1
  clear_value y1
  refine OpKept.dite (fun _ => ?_) (fun _ => ?_)
  · exact True.intro
  · split
    · rename_i v1 v2 v3 v4
      exact True.intro
    · rename_i v5 v6 v7
      refine OpOut.plain_kept ?_
      refine State.setEngine_kept ?_
      assumption

theorem execEndframe_kept {kb : Bool} {ka : State} {e : EngId} {s : State} (h2 : Kept kb ka s) :
    OutKept kb ka (execEndframe e s) := by
  unfold execEndframe
  refine OutKept.mk ?_
  refine State.opRow_kept ?_ ?_
  · assumption
  · refine endframeOp_kept ?_
    assumption

theorem isyncOp_kept {kb : Bool} {ka : State} {s : State} {e : Nat} (h1 : Kept kb ka s) :
    OpKept kb ka (isyncOp s e) := by
  unfold isyncOp
  refine OpKept.dite (fun _ => ?_) (fun _ => ?_)
  · exact True.intro
  · refine OpOut.plain_kept ?_
    refine State.modEngine_kept ?_
    assumption

theorem execIsync_kept {kb : Bool} {ka : State} {e : EngId} {s : State} (h2 : Kept kb ka s) :
    OutKept kb ka (execIsync e s) := by
  unfold execIsync
  refine OutKept.mk ?_
  refine State.cuRow_kept ?_ ?_
  · assumption
  · refine isyncOp_kept ?_
    assumption

theorem fenceOp_kept {kb : Bool} {ka : State} {kind : Nat} {s : State} {e : Nat} (h2 : Kept kb ka s) :
    OpKept kb ka (fenceOp kind s e) := by
  unfold fenceOp
  refine OpKept.dite (fun _ => ?_) (fun _ => ?_)
  · split
    · rename_i v1 v2 v3 v4
      exact True.intro
    · rename_i v5 v6 v7
      refine OpOut.plain_kept ?_
      assumption
  · refine OpOut.plain_kept ?_
    refine State.waitBegin_kept ?_
    refine State.modEngine_kept ?_
    assumption

theorem execBnz_kept {kb : Bool} {ka : State} {e : EngId} {t : Word} {s : State} (h3 : Kept kb ka s) :
    OutKept kb ka (execBnz e t s) := by
  unfold execBnz
  refine OutKept.mk ?_
  refine State.cuRow_kept ?_ ?_
  · assumption
  · refine branchOp_kept ?_
    assumption

theorem State.trapLogged_kept {kb : Bool} {ka : State} {s : State} {e : Nat} {tr : OpTrap} (h1 : Kept kb ka s) :
    Kept kb ka (State.trapLogged s e tr) := by
  unfold State.trapLogged
  split
  · rename_i v1 v2
    split
    · rename_i v3 v4 v5
      refine State.eccUncorrectable_kept ?_
      assumption
    · rename_i v6 v7
      assumption
  · rename_i v8 v9
    assumption

theorem execFenceM_kept {kb : Bool} {ka : State} {e : EngId} {s : State} (h2 : Kept kb ka s) :
    OutKept kb ka (execFenceM e s) := by
  unfold execFenceM
  refine OutKept.mk ?_
  refine State.cuRow_kept ?_ ?_
  · assumption
  · refine fenceOp_kept ?_
    assumption

theorem State.returnGo_kept {kb : Bool} {ka : State} {s : State} {e : Nat} {isRti : Bool} (h1 : Kept kb ka s) :
    Kept kb ka (State.returnGo s e isRti) := by
  unfold State.returnGo
  split
  · rename_i v1 v2 v3
    assumption
  · rename_i v4 v5 v6
    refine State.returnFrom_kept ?_
    assumption

theorem execRetg_kept {kb : Bool} {ka : State} {e : EngId} {s : State} (h2 : Kept kb ka s) :
    OutKept kb ka (execRetg e s) := by
  unfold execRetg
  split
  · rename_i v1 v2 v3
    refine OutKept.mk ?_
    refine State.takeTrap_kept ?_
    refine State.trapLogged_kept ?_
    assumption
  · rename_i v4 v5
    refine OutKept.mk ?_
    refine State.returnGo_kept ?_
    assumption

theorem State.trapGo_kept {kb : Bool} {ka : State} {s : State} {e : Nat} {t : Word} {nx : Nat} (h1 : Kept kb ka s) :
    Kept kb ka (State.trapGo s e t nx) := by
  unfold State.trapGo
  split
  · rename_i v1 v2 v3 v4
    assumption
  · rename_i v5 v6 v7
    refine State.gateEnter_kept ?_
    refine State.ctrlSeen_kept ?_
    assumption

theorem execBne_kept {kb : Bool} {ka : State} {e : EngId} {t : Word} {s : State} (h3 : Kept kb ka s) :
    OutKept kb ka (execBne e t s) := by
  unfold execBne
  refine OutKept.mk ?_
  refine State.cuRow_kept ?_ ?_
  · assumption
  · refine branchOp_kept ?_
    assumption

theorem execBge_kept {kb : Bool} {ka : State} {e : EngId} {t : Word} {s : State} (h3 : Kept kb ka s) :
    OutKept kb ka (execBge e t s) := by
  unfold execBge
  refine OutKept.mk ?_
  refine State.cuRow_kept ?_ ?_
  · assumption
  · refine branchOp_kept ?_
    assumption

theorem execFenceL_kept {kb : Bool} {ka : State} {e : EngId} {s : State} (h2 : Kept kb ka s) :
    OutKept kb ka (execFenceL e s) := by
  unfold execFenceL
  refine OutKept.mk ?_
  refine State.cuRow_kept ?_ ?_
  · assumption
  · refine fenceOp_kept ?_
    assumption

theorem execFenceA_kept {kb : Bool} {ka : State} {e : EngId} {s : State} (h2 : Kept kb ka s) :
    OutKept kb ka (execFenceA e s) := by
  unfold execFenceA
  refine OutKept.mk ?_
  refine State.cuRow_kept ?_ ?_
  · assumption
  · refine fenceOp_kept ?_
    assumption

theorem execJmp_kept {kb : Bool} {ka : State} {e : EngId} {t : Word} {s : State} (h3 : Kept kb ka s) :
    OutKept kb ka (execJmp e t s) := by
  unfold execJmp
  refine OutKept.mk ?_
  refine State.cuRow_kept ?_ ?_
  · assumption
  · refine branchOp_kept ?_
    assumption

theorem execRti_kept {kb : Bool} {ka : State} {e : EngId} {s : State} (h2 : Kept kb ka s) :
    OutKept kb ka (execRti e s) := by
  unfold execRti
  split
  · rename_i v1 v2 v3
    refine OutKept.mk ?_
    refine State.takeTrap_kept ?_
    refine State.trapLogged_kept ?_
    assumption
  · rename_i v4 v5
    refine OutKept.mk ?_
    refine State.returnGo_kept ?_
    assumption

theorem execBlt_kept {kb : Bool} {ka : State} {e : EngId} {t : Word} {s : State} (h3 : Kept kb ka s) :
    OutKept kb ka (execBlt e t s) := by
  unfold execBlt
  refine OutKept.mk ?_
  refine State.cuRow_kept ?_ ?_
  · assumption
  · refine branchOp_kept ?_
    assumption

theorem execRet_kept {kb : Bool} {ka : State} {e : EngId} {t : Word} {s : State} (h3 : Kept kb ka s) :
    OutKept kb ka (execRet e t s) := by
  unfold execRet
  refine OutKept.mk ?_
  refine State.cuRow_kept ?_ ?_
  · assumption
  · refine branchOp_kept ?_
    assumption

theorem execBeq_kept {kb : Bool} {ka : State} {e : EngId} {t : Word} {s : State} (h3 : Kept kb ka s) :
    OutKept kb ka (execBeq e t s) := by
  unfold execBeq
  refine OutKept.mk ?_
  refine State.cuRow_kept ?_ ?_
  · assumption
  · refine branchOp_kept ?_
    assumption

theorem execBltu_kept {kb : Bool} {ka : State} {e : EngId} {t : Word} {s : State} (h3 : Kept kb ka s) :
    OutKept kb ka (execBltu e t s) := by
  unfold execBltu
  refine OutKept.mk ?_
  refine State.cuRow_kept ?_ ?_
  · assumption
  · refine branchOp_kept ?_
    assumption

theorem execBgeu_kept {kb : Bool} {ka : State} {e : EngId} {t : Word} {s : State} (h3 : Kept kb ka s) :
    OutKept kb ka (execBgeu e t s) := by
  unfold execBgeu
  refine OutKept.mk ?_
  refine State.cuRow_kept ?_ ?_
  · assumption
  · refine branchOp_kept ?_
    assumption

theorem execBz_kept {kb : Bool} {ka : State} {e : EngId} {t : Word} {s : State} (h3 : Kept kb ka s) :
    OutKept kb ka (execBz e t s) := by
  unfold execBz
  refine OutKept.mk ?_
  refine State.cuRow_kept ?_ ?_
  · assumption
  · refine branchOp_kept ?_
    assumption

theorem execTrap_kept {kb : Bool} {ka : State} {e : EngId} {t : Word} {s : State} (h3 : Kept kb ka s) :
    OutKept kb ka (execTrap e t s) := by
  unfold execTrap
  split
  · rename_i v1 v2 v3
    refine OutKept.mk ?_
    refine State.takeTrap_kept ?_
    refine State.trapLogged_kept ?_
    assumption
  · rename_i v4 v5
    refine OutKept.mk ?_
    refine State.trapGo_kept ?_
    assumption

end Sys2Proof.Machine
end

