-- ==== Sys2Proof/Laws/KeptHalt.lean ====
section
/-! SUPPORT. What each operation of Machine/Halt.lean keeps (Laws/Kept.lean). -/

set_option maxRecDepth 4000

namespace Sys2Proof.Machine

theorem State.requestHalt_kept {kb : Bool} {ka : State} {s : State} {n : Nat} {cause : Nat} {comp : Nat} (h1 : Kept kb ka s) :
    Kept kb ka (State.requestHalt s n cause comp) := by
  unfold State.requestHalt
  extract_lets y1
  clear_value y1
  refine Kept.dite (fun _ => ?_) (fun _ => ?_)
  · assumption
  · refine State.setEngine_kept ?_
    assumption

theorem State.haltReply_kept {kb : Bool} {ka : State} {s : State} {w : HaltWait} (h1 : Kept kb ka s) :
    Kept kb ka (State.haltReply s w) := by
  unfold State.haltReply
  extract_lets y1 y2
  clear_value y1
  clear_value y2
  refine Kept.dite (fun _ => ?_) (fun _ => ?_)
  · refine State.reply_kept ?_
    assumption
  · refine State.reply_kept ?_
    assumption

theorem State.haltReplies_kept {kb : Bool} {ka : State} {s : State} (h1 : Kept kb ka s) :
    Kept kb ka (State.haltReplies s) := by
  unfold State.haltReplies
  extract_lets y1 y2
  unfold y1
  clear_value y2
  refine Kept.foldl (fun st1 x1 g1 => ?_) ?_
  · refine State.haltReply_kept ?_
    assumption
  · refine Kept.all ?_
    assumption

theorem State.stepEngine_kept {kb : Bool} {ka : State} {s : State} {n : Nat} {c : Nat} {noInt : Bool} (h1 : Kept kb ka s) :
    Kept kb ka (State.stepEngine s n c noInt) := by
  unfold State.stepEngine
  extract_lets y1 y2
  clear_value y1
  clear_value y2
  refine Kept.dite (fun _ => ?_) (fun _ => ?_)
  · assumption
  · refine State.setF_kept rfl ?_
    refine State.setEngine_kept ?_
    assumption

theorem State.dropHalts_kept {kb : Bool} {ka : State} {s : State} {k : Nat} (h1 : Kept kb ka s) :
    Kept kb ka (State.dropHalts s k) := by
  unfold State.dropHalts
  extract_lets y1
  have g1 : Kept kb ka y1 := by
    unfold y1
    refine Kept.foldl (fun st1 x1 g2 => ?_) ?_
    · extract_lets y2 y3
      clear_value y2
      clear_value y3
      refine Kept.dite (fun _ => ?_) (fun _ => ?_)
      · refine State.setEngine_kept ?_
        assumption
      · assumption
    · assumption
  clear_value y1
  refine State.modSect_kept ?_
  assumption

theorem State.resumeEngine_kept {kb : Bool} {ka : State} {s : State} {n : Nat} (h1 : Kept kb ka s) :
    Kept kb ka (State.resumeEngine s n) := by
  unfold State.resumeEngine
  extract_lets y1 y2 y3
  clear_value y1
  clear_value y2
  have g1 : Kept kb ka y3 := by
    unfold y3
    refine State.setF_kept rfl ?_
    refine State.setEngine_kept ?_
    assumption
  clear_value y3
  refine Kept.dite (fun _ => ?_) (fun _ => ?_)
  · assumption
  · refine Kept.dite (fun _ => ?_) (fun _ => ?_)
    · refine State.modEngine_kept ?_
      assumption
    · refine Kept.dite (fun _ => ?_) (fun _ => ?_)
      · assumption
      · refine State.forChannels_kept ?_ ?_
        · refine State.modSect_kept ?_
          assumption
        · intro w1 w2 w3
          refine State.glvUnhalt_kept ?_
          assumption

theorem State.haltTake_kept {kb : Bool} {ka : State} {s : State} {n : Nat} (h1 : Kept kb ka s) :
    Kept kb ka (State.haltTake s n) := by
  unfold State.haltTake
  extract_lets y1 y2 y3 y4 y5
  have g1 : Kept kb ka y1 := by
    unfold y1
    refine State.csrSettle_kept ?_
    assumption
  clear_value y1
  have g2 : Kept kb ka y2 := by
    unfold y2
    refine Kept.dite (fun _ => ?_) (fun _ => ?_)
    · refine State.swdtCatch_kept ?_
      assumption
    · assumption
  clear_value y2
  clear_value y3
  clear_value y4
  have g3 : Kept kb ka y5 := by
    unfold y5
    refine State.setEngine_kept ?_
    assumption
  clear_value y5
  split
  · rename_i v1 v2
    assumption
  · rename_i v3 v4 v5
    extract_lets y6 y7 y8
    have g4 : Kept kb ka y6 := by
      unfold y6
      refine State.setF_kept rfl ?_
      assumption
    clear_value y6
    have g5 : Kept kb ka y7 := by
      unfold y7
      refine Kept.dite (fun _ => ?_) (fun _ => ?_)
      · refine State.setF_kept rfl ?_
        assumption
      · assumption
    clear_value y7
    have g6 : Kept kb ka y8 := by
      unfold y8
      refine Kept.dite (fun _ => ?_) (fun _ => ?_)
      · refine State.forChannels_kept ?_ ?_
        · refine State.modSect_kept ?_
          assumption
        · intro w1 w2 w3
          refine State.glvHalt_kept ?_
          assumption
      · assumption
    clear_value y8
    refine State.haltReplies_kept ?_
    assumption

theorem State.haltTry_kept {kb : Bool} {ka : State} {s : State} {n : Nat} (h1 : Kept kb ka s) :
    Kept kb ka (State.haltTry s n) := by
  unfold State.haltTry
  refine Kept.dite (fun _ => ?_) (fun _ => ?_)
  · refine State.haltTake_kept ?_
    assumption
  · assumption

theorem State.gongDeliver_kept {kb : Bool} {ka : State} {s : State} {g : Nat} (h1 : Kept kb ka s) :
    Kept kb ka (State.gongDeliver s g) := by
  unfold State.gongDeliver
  extract_lets y1 y2 y3
  clear_value y1
  clear_value y2
  have g1 : Kept kb ka y3 := by
    unfold y3
    refine Kept.all ?_
    assumption
  clear_value y3
  refine Kept.dite (fun _ => ?_) (fun _ => ?_)
  · assumption
  · refine Kept.foldl (fun st1 x1 g2 => ?_) ?_
    · refine Kept.dite (fun _ => ?_) (fun _ => ?_)
      · refine State.requestHalt_kept ?_
        assumption
      · assumption
    · assumption

end Sys2Proof.Machine
end

