-- ==== Sys2Proof/Laws/KeptSect.lean ====
section
/-! SUPPORT. What each operation of Machine/Sect.lean keeps (Laws/Kept.lean). -/

set_option maxRecDepth 4000

namespace Sys2Proof.Machine

theorem State.dmaFree_kept {kb : Bool} {ka : State} {s : State} {c : Nat} {x : Nat} (h1 : Kept kb ka s) :
    Kept kb ka (State.dmaFree s c x) := by
  unfold State.dmaFree
  refine State.setF_kept rfl ?_
  assumption

theorem State.freeSems_kept {kb : Bool} {ka : State} {s : State} {k : Nat} (h1 : Kept kb ka s) :
    Kept kb ka (State.freeSems s k) := by
  unfold State.freeSems
  refine Kept.foldl (fun st1 x1 g1 => ?_) ?_
  · extract_lets y1
    refine State.setB_kept rfl ?_
    refine State.setF_kept rfl ?_
    assumption
  · assumption

theorem State.resetSectionDomain_kept {kb : Bool} {ka : State} {s : State} {k : Nat} (h1 : Kept kb ka s) :
    Kept kb ka (State.resetSectionDomain s k) := by
  unfold State.resetSectionDomain
  extract_lets y1 y2 y3 y4 y5 y6
  have g1 : Kept kb ka y1 := by
    unfold y1
    refine State.marchAbortSect_kept ?_
    refine State.checkAbortSect_kept ?_
    refine State.dropHalts_kept ?_
    assumption
  clear_value y1
  clear_value y2
  have g2 : Kept kb ka y3 := by
    unfold y3
    refine Kept.foldl (fun st1 x1 g3 => ?_) ?_
    · extract_lets y7 y8 y9
      clear_value y7
      clear_value y8
      have g4 : Kept kb ka y9 := by
        unfold y9
        refine State.setEngine_kept ?_
        assumption
      clear_value y9
      refine State.dmaFree_kept ?_
      refine State.setB_kept rfl ?_
      refine State.setDma_kept ?_
      assumption
    · assumption
  clear_value y3
  have g5 : Kept kb ka y4 := by
    unfold y4
    refine State.freeSems_kept ?_
    assumption
  clear_value y4
  have g6 : Kept kb ka y5 := by
    unfold y5
    refine State.setReg_kept rfl ?_
    assumption
  clear_value y5
  clear_value y6
  refine State.setSect_kept ?_
  assumption

theorem State.resetSection_kept {kb : Bool} {ka : State} {s : State} {k : Nat} (h1 : Kept kb ka s) :
    Kept kb ka (State.resetSection s k) := by
  unfold State.resetSection
  refine State.sessionSect_kept ?_
  refine State.emptySection_kept ?_
  refine State.resetSectionDomain_kept ?_
  assumption

theorem State.doorbell_kept {kb : Bool} {ka : State} {s : State} {k : Nat} {w : Word} (h1 : Kept kb ka s) :
    Kept kb ka (State.doorbell s k w) := by
  unfold State.doorbell
  refine Kept.foldl (fun st1 x1 g1 => ?_) ?_
  · refine State.modEngine_kept ?_
    assumption
  · assumption

theorem State.dcacheInv_kept {kb : Bool} {ka : State} {s : State} {k : Nat} {w : Word} (h1 : Kept kb ka s) :
    Kept kb ka (State.dcacheInv s k w) := by
  unfold State.dcacheInv
  refine Kept.foldl (fun st1 x1 g1 => ?_) ?_
  · refine State.modEngine_kept ?_
    assumption
  · assumption

theorem State.semAcquire_kept {kb : Bool} {ka : State} {s : State} {m : Master} {k : Nat} {c : Nat} {j : Nat} (h1 : Kept kb ka s) :
    Kept kb ka (State.semAcquire s m k c j) := by
  unfold State.semAcquire
  extract_lets y1 y2
  clear_value y2
  refine Kept.dite (fun _ => ?_) (fun _ => ?_)
  · assumption
  · refine State.modSect_kept ?_
    refine State.setF_kept rfl ?_
    refine State.setB_kept rfl ?_
    refine State.setF_kept rfl ?_
    assumption

theorem State.semRelease_kept {kb : Bool} {ka : State} {s : State} {m : Master} {k : Nat} {c : Nat} {j : Nat} (h1 : Kept kb ka s) :
    Kept kb ka (State.semRelease s m k c j) := by
  unfold State.semRelease
  extract_lets y1 y2
  clear_value y2
  refine Kept.dite (fun _ => ?_) (fun _ => ?_)
  · refine State.setB_kept rfl ?_
    refine State.setF_kept rfl ?_
    assumption
  · assumption

theorem State.semWrite_kept {kb : Bool} {ka : State} {s : State} {m : Master} {k : Nat} {c : Nat} {j : Nat} {w : Word} (h1 : Kept kb ka s) :
    Kept kb ka (State.semWrite s m k c j w) := by
  unfold State.semWrite
  refine Kept.dite (fun _ => ?_) (fun _ => ?_)
  · assumption
  · refine Kept.dite (fun _ => ?_) (fun _ => ?_)
    · refine State.semAcquire_kept ?_
      assumption
    · refine Kept.dite (fun _ => ?_) (fun _ => ?_)
      · refine State.semRelease_kept ?_
        assumption
      · assumption

theorem State.dmaPost_kept {kb : Bool} {ka : State} {s : State} {m : Master} {c : Nat} {x : Nat} {w : Word} (h1 : Kept kb ka s) :
    Kept kb ka (State.dmaPost s m c x w) := by
  unfold State.dmaPost
  extract_lets y1 y2 y3 y4 y5 y6
  clear_value y1
  clear_value y2
  clear_value y3
  clear_value y4
  clear_value y5
  have g1 : Kept kb ka y6 := by
    unfold y6
    split
    · rename_i v1 v2
      refine State.eccUncorrectable_kept ?_
      assumption
    · rename_i v3
      refine State.softReads_kept ?_
      assumption
  clear_value y6
  split
  · rename_i v4
    assumption
  · rename_i v5 v6
    assumption
  · rename_i v7 v8 v9
    extract_lets y7
    clear_value y7
    refine Kept.dite (fun _ => ?_) (fun _ => ?_)
    · assumption
    · refine Kept.dite (fun _ => ?_) (fun _ => ?_)
      · refine State.setB_kept rfl ?_
        assumption
      · refine State.dmaFree_kept ?_
        refine State.setDma_kept ?_
        assumption

theorem State.fenceGo_kept {kb : Bool} {ka : State} {s : State} {k : Nat} {w : Word} (h1 : Kept kb ka s) :
    Kept kb ka (State.fenceGo s k w) := by
  unfold State.fenceGo
  extract_lets y1 y2 y3
  have g1 : Kept kb ka y2 := by
    unfold y2
    refine State.setF_kept rfl ?_
    assumption
  clear_value y2
  clear_value y3
  refine Kept.dite (fun _ => ?_) (fun _ => ?_)
  · refine State.setF_kept rfl ?_
    assumption
  · refine Kept.dite (fun _ => ?_) (fun _ => ?_)
    · assumption
    · refine Kept.dite (fun _ => ?_) (fun _ => ?_)
      · refine State.setF_kept rfl ?_
        assumption
      · refine Kept.dite (fun _ => ?_) (fun _ => ?_)
        · refine State.setF_kept rfl ?_
          assumption
        · refine State.modSect_kept ?_
          refine State.setF_kept rfl ?_
          assumption

theorem State.sectGate_kept {kb : Bool} {ka : State} {s : State} {m : Master} {k : Nat} (h1 : Kept kb ka s) :
    Kept kb ka (State.sectGate s m k) := by
  unfold State.sectGate
  extract_lets y1
  have g1 : Kept kb ka y1 := by
    unfold y1
    refine State.setB_kept rfl ?_
    refine State.resetSection_kept ?_
    assumption
  clear_value y1
  refine Kept.dite (fun _ => ?_) (fun _ => ?_)
  · refine State.setB_kept rfl ?_
    refine State.setB_kept rfl ?_
    assumption
  · assumption

theorem State.sectRestore_kept {kb : Bool} {ka : State} {s : State} {m : Master} {k : Nat} (h1 : Kept kb ka s) :
    Kept kb ka (State.sectRestore s m k) := by
  unfold State.sectRestore
  refine Kept.dite (fun _ => ?_) (fun _ => ?_)
  · refine State.setB_kept rfl ?_
    refine State.setB_kept rfl ?_
    refine State.setB_kept rfl ?_
    assumption
  · assumption

theorem State.dmaMove_kept {kb : Bool} {ka : State} {s : State} {n : Nat} {d : Desc} {j : Nat} {o4 : Nat} (h1 : Kept kb ka s) :
    Kept kb ka (State.dmaMove s n d j o4).2.2 := by
  unfold State.dmaMove
  split
  · rename_i v1
    dsimp only
    assumption
  · rename_i v2 v3
    extract_lets y1 y2
    clear_value y1
    clear_value y2
    refine Kept.dite22 (fun _ => ?_) (fun _ => ?_)
    · refine State.dmaMove_kept ?_
      refine State.setWord_kept ?_
      assumption
    · refine Kept.dite22 (fun _ => ?_) (fun _ => ?_)
      · dsimp only
        refine State.eccUncorrectable_kept ?_
        assumption
      · refine State.dmaMove_kept ?_
        refine State.setWord_kept ?_
        refine State.softRead_kept ?_
        assumption

theorem State.dmaEnd_kept {kb : Bool} {ka : State} {s : State} {c : Nat} {x : Nat} {d : Desc} {code : Nat} {cnt : Nat} (h1 : Kept kb ka s) :
    Kept kb ka (State.dmaEnd s c x d code cnt) := by
  unfold State.dmaEnd
  extract_lets y1 y2 y3 y4 y5 y6
  clear_value y1
  clear_value y2
  have g1 : Kept kb ka y3 := by
    unfold y3
    refine State.setWord_kept ?_
    assumption
  clear_value y3
  clear_value y4
  have g2 : Kept kb ka y5 := by
    unfold y5
    refine State.setDma_kept ?_
    assumption
  clear_value y5
  have g3 : Kept kb ka y6 := by
    unfold y6
    refine State.dmaFree_kept ?_
    refine State.setB_kept rfl ?_
    assumption
  clear_value y6
  refine Kept.dite (fun _ => ?_) (fun _ => ?_)
  · refine State.setB_kept rfl ?_
    assumption
  · assumption

theorem State.dmaFinish_kept {kb : Bool} {ka : State} {s : State} {c : Nat} {x : Nat} {ups : List Upset} (h1 : Kept kb ka s) :
    Kept kb ka (State.dmaFinish s c x ups) := by
  unfold State.dmaFinish
  extract_lets y1 y2
  have g1 : Kept kb ka y1 := by
    unfold y1
    refine State.upset_kept ?_
    assumption
  clear_value y1
  clear_value y2
  split
  · rename_i v1 v2
    assumption
  · rename_i v3 v4 v5
    refine Kept.dite (fun _ => ?_) (fun _ => ?_)
    · assumption
    · split
      rename_i v6 v7 v8 v9 v10 v11
      have g2 : Kept kb ka v10 := by
        refine Kept.snd2 v11 ?_
        refine State.dmaMove_kept ?_
        assumption
      refine State.dmaEnd_kept ?_
      assumption

theorem execSectionPowerRestore_kept {kb : Bool} {ka : State} {m : Master} {k : SectId} {s : State} (h3 : Kept kb ka s) :
    OutKept kb ka (execSectionPowerRestore m k s) := by
  unfold execSectionPowerRestore
  refine OutKept.mk ?_
  refine State.sectRestore_kept ?_
  assumption

theorem State.dmaAbort_kept {kb : Bool} {ka : State} {s : State} {n : Nat} (h1 : Kept kb ka s) :
    Kept kb ka (State.dmaAbort s n) := by
  unfold State.dmaAbort
  extract_lets y1 y2 y3 y4
  clear_value y1
  have g1 : Kept kb ka y2.2 := by
    unfold y2
    refine State.drawNat_kept ?_
    assumption
  clear_value y2
  have g2 : Kept kb ka y3 := by
    unfold y3
    split
    · rename_i v1 v2 v3
      split
      rename_i v4 v5 v6 v7 v8
      have g3 : Kept kb ka v7 := by
        refine Kept.snd2 v8 ?_
        refine State.dmaMove_kept ?_
        assumption
      refine State.dmaEnd_kept ?_
      assumption
    · rename_i v9 v10
      assumption
  clear_value y3
  have g4 : Kept kb ka y4 := by
    unfold y4
    refine Kept.foldl (fun st1 x1 g5 => ?_) ?_
    · refine State.dmaEnd_kept ?_
      assumption
    · assumption
  clear_value y4
  refine State.dmaFree_kept ?_
  refine State.setDma_kept ?_
  assumption

theorem State.orphanSems_kept {kb : Bool} {ka : State} {s : State} {n : Nat} (h1 : Kept kb ka s) :
    Kept kb ka (State.orphanSems s n) := by
  unfold State.orphanSems
  refine Kept.foldl (fun st1 x1 g1 => ?_) ?_
  · extract_lets y1
    refine Kept.dite (fun _ => ?_) (fun _ => ?_)
    · refine State.setF_kept rfl ?_
      assumption
    · assumption
  · refine Kept.foldl (fun st2 x2 g2 => ?_) ?_
    · extract_lets y2
      refine Kept.dite (fun _ => ?_) (fun _ => ?_)
      · refine State.setF_kept rfl ?_
        assumption
      · assumption
    · assumption

theorem execDmaDescriptorEnd_kept {kb : Bool} {ka : State} {c : CluId} {x : Fin 4} {ups : List Upset} {s : State} (h4 : Kept kb ka s) :
    OutKept kb ka (execDmaDescriptorEnd c x ups s) := by
  unfold execDmaDescriptorEnd
  refine OutKept.mk ?_
  refine State.dmaFinish_kept ?_
  assumption

theorem execDmaPost_kept {kb : Bool} {ka : State} {m : Master} {c : CluId} {x : Fin 4} {w : Word} {s : State} (h5 : Kept kb ka s) :
    OutKept kb ka (execDmaPost m c x w s) := by
  unfold execDmaPost
  refine OutKept.mk ?_
  refine State.dmaPost_kept ?_
  assumption

theorem execFence_kept {kb : Bool} {ka : State} {o0 : Master} {k : SectId} {w : Word} {s : State} (h4 : Kept kb ka s) :
    OutKept kb ka (execFence o0 k w s) := by
  unfold execFence
  refine OutKept.mk ?_
  refine State.fenceGo_kept ?_
  assumption

theorem execSemRelease_kept {kb : Bool} {ka : State} {m : Master} {k : SectId} {c : Fin 8} {j : Fin 64} {s : State} (h5 : Kept kb ka s) :
    OutKept kb ka (execSemRelease m k c j s) := by
  unfold execSemRelease
  refine OutKept.mk ?_
  refine Kept.dite (fun _ => ?_) (fun _ => ?_)
  · assumption
  · refine State.semRelease_kept ?_
    assumption

theorem State.dmaStart_kept {kb : Bool} {ka : State} {s : State} {c : Nat} {x : Nat} (h1 : Kept kb ka s) :
    Kept kb ka (State.dmaStart s c x) := by
  unfold State.dmaStart
  extract_lets y1 y2
  clear_value y1
  clear_value y2
  split
  · rename_i v1 v2 v3 v4 v5 v6
    extract_lets y3
    have g1 : Kept kb ka y3 := by
      unfold y3
      refine State.dmaFree_kept ?_
      refine State.setDma_kept ?_
      assumption
    clear_value y3
    refine Kept.dite (fun _ => ?_) (fun _ => ?_)
    · assumption
    · refine Kept.dite (fun _ => ?_) (fun _ => ?_)
      · refine State.dmaEnd_kept ?_
        assumption
      · refine Kept.dite (fun _ => ?_) (fun _ => ?_)
        · refine State.dmaEnd_kept ?_
          assumption
        · refine State.setB_kept rfl ?_
          assumption
  · rename_i v7 v8 v9
    assumption

theorem execDoorbell_kept {kb : Bool} {ka : State} {k : SectId} {w : Word} {s : State} (h3 : Kept kb ka s) :
    OutKept kb ka (execDoorbell k w s) := by
  unfold execDoorbell
  refine OutKept.mk ?_
  refine State.doorbell_kept ?_
  assumption

theorem State.sectPowered_kept {kb : Bool} {ka : State} {s : State} {k : Nat} (h1 : Kept kb ka s) :
    Kept kb ka (State.sectPowered s k) := by
  unfold State.sectPowered
  extract_lets y1
  have g1 : Kept kb ka y1 := by
    unfold y1
    refine State.setB_kept rfl ?_
    refine State.resetSection_kept ?_
    assumption
  clear_value y1
  refine Kept.dite (fun _ => ?_) (fun _ => ?_)
  · refine Kept.foldl (fun st1 x1 g2 => ?_) ?_
    · refine State.scramble_kept ?_
      assumption
    · assumption
  · assumption

theorem execSectionPowerUpDone_kept {kb : Bool} {ka : State} {k : SectId} {s : State} (h2 : Kept kb ka s) :
    OutKept kb ka (execSectionPowerUpDone k s) := by
  unfold execSectionPowerUpDone
  refine OutKept.mk ?_
  refine State.sectPowered_kept ?_
  assumption

theorem execSemAcquire_kept {kb : Bool} {ka : State} {m : Master} {k : SectId} {c : Fin 8} {j : Fin 64} {s : State} (h5 : Kept kb ka s) :
    OutKept kb ka (execSemAcquire m k c j s) := by
  unfold execSemAcquire
  refine OutKept.mk ?_
  refine Kept.dite (fun _ => ?_) (fun _ => ?_)
  · assumption
  · refine State.semAcquire_kept ?_
    assumption

theorem execDcacheInvalidate_kept {kb : Bool} {ka : State} {k : SectId} {w : Word} {s : State} (h3 : Kept kb ka s) :
    OutKept kb ka (execDcacheInvalidate k w s) := by
  unfold execDcacheInvalidate
  refine OutKept.mk ?_
  refine State.dcacheInv_kept ?_
  assumption

theorem execDmaDescriptorStart_kept {kb : Bool} {ka : State} {c : CluId} {x : Fin 4} {s : State} (h3 : Kept kb ka s) :
    OutKept kb ka (execDmaDescriptorStart c x s) := by
  unfold execDmaDescriptorStart
  refine OutKept.mk ?_
  refine State.dmaStart_kept ?_
  assumption

theorem execSectionGate_kept {kb : Bool} {ka : State} {m : Master} {k : SectId} {s : State} (h3 : Kept kb ka s) :
    OutKept kb ka (execSectionGate m k s) := by
  unfold execSectionGate
  refine OutKept.mk ?_
  refine State.sectGate_kept ?_
  assumption

end Sys2Proof.Machine
end

