-- ==== Sys2Proof/Laws/KeptReset.lean ====
section
/-! SUPPORT. What each operation of Machine/Reset.lean keeps (Laws/Kept.lean). -/

set_option maxRecDepth 4000

namespace Sys2Proof.Machine

theorem State.resetSprgn_kept {kb : Bool} {ka : State} {s : State} (h1 : Kept kb ka s) :
    Kept kb ka (State.resetSprgn s) := by
  unfold State.resetSprgn
  refine Kept.foldl (fun st1 x1 g1 => ?_) ?_
  · refine State.setReg_kept rfl ?_
    refine State.setReg_kept rfl ?_
    assumption
  · assumption

theorem State.resetSve_kept {kb : Bool} {ka : State} {s : State} (h1 : Kept kb ka s) :
    Kept kb ka (State.resetSve s) := by
  unfold State.resetSve
  extract_lets y1
  clear_value y1
  refine State.setEngine_kept ?_
  assumption

theorem State.setMeas_kept {kb : Bool} {ka : State} {s : State} {kind : Nat} {d : List Octet} {svn : Nat} (h1 : Kept kb ka s) :
    Kept kb ka (State.setMeas s kind d svn) := by
  unfold State.setMeas
  extract_lets y1
  clear_value y1
  refine Kept.all ?_
  assumption

theorem State.clearSupervisor_kept {kb : Bool} {ka : State} {s : State} (h1 : Kept kb ka s) :
    Kept kb ka (State.clearSupervisor s) := by
  unfold State.clearSupervisor
  extract_lets y1 y2 y3 y4
  have g1 : Kept kb ka y1 := by
    unfold y1
    refine State.clearSup_kept ?_
    refine State.swdtCatch_kept ?_
    assumption
  clear_value y1
  have g2 : Kept kb ka y2 := by
    unfold y2
    refine State.scramble_kept ?_
    refine State.resetSprgn_kept ?_
    refine State.resetSve_kept ?_
    assumption
  clear_value y2
  clear_value y3
  have g3 : Kept kb ka y4 := by
    unfold y4
    refine Kept.all ?_
    assumption
  clear_value y4
  refine State.setB_kept rfl ?_
  refine State.setMeas_kept ?_
  assumption

theorem State.supervisorReset_kept {kb : Bool} {ka : State} {s : State} (h1 : Kept kb ka s) :
    Kept kb ka (State.supervisorReset s) := by
  unfold State.supervisorReset
  extract_lets y1
  have g1 : Kept kb ka y1 := by
    unfold y1
    refine State.endSession_kept ?_
    refine State.clearSupervisor_kept ?_
    assumption
  clear_value y1
  refine Kept.dite (fun _ => ?_) (fun _ => ?_)
  · refine State.sessionCheck_kept ?_
    refine State.moveDevState_kept ?_
    assumption
  · assumption

theorem State.setPins_kept {kb : Bool} {ka : State} {s : State} {f : Pins → Pins} (h1 : Kept kb ka s) :
    Kept kb ka (State.setPins s f) := by
  unfold State.setPins
  refine Kept.all ?_
  assumption

theorem execRefclkSysReturn_kept {kb : Bool} {ka : State} {s : State} (h1 : Kept kb ka s) :
    OutKept kb ka (execRefclkSysReturn s) := by
  unfold execRefclkSysReturn
  refine OutKept.mk ?_
  refine State.setPins_kept ?_
  assumption

theorem State.otpUndef_kept {kb : Bool} {ka : State} {s : State} {w : Nat} (h1 : Kept kb ka s) :
    Kept kb ka (State.otpUndef s w) := by
  unfold State.otpUndef
  refine Kept.foldl (fun st1 x1 g1 => ?_) ?_
  · split
    rename_i v1 v2 v3 v4
    have g2 : Kept kb ka v3 := by
      refine Kept.snd v4 ?_
      refine State.drawNat_kept ?_
      assumption
    extract_lets y1
    clear_value y1
    refine Kept.all ?_
    assumption
  · assumption

theorem State.otpInterrupt_kept {kb : Bool} {ka : State} {s : State} (h1 : Kept kb ka s) :
    Kept kb ka (State.otpInterrupt s) := by
  unfold State.otpInterrupt
  split
  · rename_i v1 v2
    assumption
  · rename_i v3 v4 v5 v6
    extract_lets y1 y2
    have g1 : Kept kb ka y1 := by
      unfold y1
      refine State.otpUndef_kept ?_
      assumption
    clear_value y1
    clear_value y2
    refine Kept.all ?_
    assumption

theorem State.deviceReset_kept {ka : State} {s : State} (h1 : Kept false ka s) : Kept false ka (State.deviceReset s) := by
  have g1 : Kept false ka s.otpInterrupt := State.otpInterrupt_kept h1
  unfold State.deviceReset
  generalize s.otpInterrupt = u at g1 ⊢
  dsimp only
  refine Kept.dite (fun _ => ?_) (fun _ => State.ibi_kept ?_) <;>
    exact g1.trans ⟨rfl, Nat.le_refl _, fun c => ⟨rfl, SMap.wf_drop (fun k => !Reg.alwaysOn k) c.regs, rfl, rfl, rfl, rfl, rfl, rfl, rfl, rfl, rfl,
      rfl, rfl⟩, nofun, nofun⟩

theorem execPgoodLow_kept {ka : State} {s : State} (h1 : Kept false ka s) :
    OutKept false ka (execPgoodLow s) := by
  unfold execPgoodLow
  refine OutKept.mk ?_
  refine State.deviceReset_kept ?_
  refine State.setPins_kept ?_
  assumption

theorem execPgoodRelease_kept {kb : Bool} {ka : State} {s : State} (h1 : Kept kb ka s) :
    OutKept kb ka (execPgoodRelease s) := by
  unfold execPgoodRelease
  refine OutKept.mk ?_
  refine State.setPins_kept ?_
  assumption

theorem execThermtrip_kept {ka : State} {s : State} (h1 : Kept false ka s) :
    OutKept false ka (execThermtrip s) := by
  unfold execThermtrip
  refine OutKept.mk ?_
  refine State.deviceReset_kept ?_
  refine State.setPins_kept ?_
  assumption

theorem execResetNRelease_kept {kb : Bool} {ka : State} {addrSel : Fin 4} {s : State} (h2 : Kept kb ka s) :
    OutKept kb ka (execResetNRelease addrSel s) := by
  unfold execResetNRelease
  refine OutKept.mk ?_
  refine Kept.dite (fun _ => ?_) (fun _ => ?_)
  · refine State.setPins_kept ?_
    assumption
  · assumption

theorem execRefclkSysLoss_kept {ka : State} {s : State} (h1 : Kept false ka s) :
    OutKept false ka (execRefclkSysLoss s) := by
  unfold execRefclkSysLoss
  refine OutKept.mk ?_
  refine State.deviceReset_kept ?_
  refine State.setPins_kept ?_
  assumption

theorem execThermtripRelease_kept {kb : Bool} {ka : State} {s : State} (h1 : Kept kb ka s) :
    OutKept kb ka (execThermtripRelease s) := by
  unfold execThermtripRelease
  refine OutKept.mk ?_
  refine State.setPins_kept ?_
  assumption

theorem State.swdtBite_kept {kb : Bool} {ka : State} {s : State} (h1 : Kept kb ka s) :
    Kept kb ka (State.swdtBite s) := by
  unfold State.swdtBite
  extract_lets y1
  have g1 : Kept kb ka y1 := by
    unfold y1
    refine State.supervisorReset_kept ?_
    refine State.setF_kept rfl ?_
    assumption
  clear_value y1
  refine Kept.dite (fun _ => ?_) (fun _ => ?_)
  · refine State.healthEvt_kept ?_
    refine State.setB_kept rfl ?_
    assumption
  · assumption

theorem execResetNLow_kept {ka : State} {s : State} (h1 : Kept false ka s) :
    OutKept false ka (execResetNLow s) := by
  unfold execResetNLow
  refine OutKept.mk ?_
  refine State.deviceReset_kept ?_
  refine State.setPins_kept ?_
  assumption

theorem execSwdtBite_kept {kb : Bool} {ka : State} {s : State} (h1 : Kept kb ka s) :
    OutKept kb ka (execSwdtBite s) := by
  unfold execSwdtBite
  refine OutKept.mk ?_
  refine State.swdtBite_kept ?_
  assumption

theorem State.aonPowerOn_kept {ka : State} {s : State} (h1 : Kept false ka s) : Kept false ka (State.aonPowerOn s) := by
  unfold State.aonPowerOn
  extract_lets s1
  have g1 : Kept false ka s1 := State.otpInterrupt_kept h1
  exact g1.trans ⟨rfl, Nat.le_refl _, fun _ => ⟨rfl, rfl, rfl, rfl, rfl, rfl, rfl, rfl, rfl, rfl, rfl, rfl, rfl⟩, nofun, nofun⟩

theorem execAonPowerOn_kept {ka : State} {s : State} (h1 : Kept false ka s) :
    OutKept false ka (execAonPowerOn s) := by
  unfold execAonPowerOn
  refine OutKept.mk ?_
  refine State.aonPowerOn_kept ?_
  assumption

end Sys2Proof.Machine
end

