-- ==== Sys2Proof/Laws/KeptHelm.lean ====
section
/-! SUPPORT. What each operation of Machine/Helm.lean keeps (Laws/Kept.lean). -/

set_option maxRecDepth 4000

namespace Sys2Proof.Machine

theorem State.setLevel_kept {kb : Bool} {ka : State} {s : State} {n : Nat} (h1 : Kept kb ka s) :
    Kept kb ka (State.setLevel s n) := by
  unfold State.setLevel
  extract_lets y1 y2
  have g1 : Kept kb ka y1 := by
    unfold y1
    refine Kept.dite (fun _ => ?_) (fun _ => ?_)
    · refine State.swdtCatch_kept ?_
      assumption
    · assumption
  clear_value y1
  clear_value y2
  refine Kept.all ?_
  assumption

theorem State.unlockPassword_kept {kb : Bool} {ka : State} {s : State} {pw : List Octet} (h1 : Kept kb ka s) :
    Kept kb ka (State.unlockPassword s pw).2 := by
  unfold State.unlockPassword
  extract_lets y1
  clear_value y1
  refine Kept.dite2 (fun _ => ?_) (fun _ => ?_)
  · refine Kept.mk2 ?_
    assumption
  · refine Kept.dite2 (fun _ => ?_) (fun _ => ?_)
    · refine Kept.mk2 ?_
      assumption
    · refine Kept.dite2 (fun _ => ?_) (fun _ => ?_)
      · refine Kept.mk2 ?_
        refine Kept.dite (fun _ => ?_) (fun _ => ?_)
        · refine State.setLevel_kept ?_
          assumption
        · assumption
      · refine Kept.mk2 ?_
        refine Kept.all ?_
        assumption

theorem State.unlockChallenge_kept {kb : Bool} {ka : State} {s : State} (h1 : Kept kb ka s) :
    Kept kb ka (State.unlockChallenge s).2 := by
  unfold State.unlockChallenge
  extract_lets y1 y2
  clear_value y1
  clear_value y2
  refine Kept.mk2 ?_
  refine Kept.draw ?_
  assumption

theorem State.dropNonce_kept {kb : Bool} {ka : State} {s : State} (h1 : Kept kb ka s) :
    Kept kb ka (State.dropNonce s) := by
  unfold State.dropNonce
  extract_lets y1
  clear_value y1
  refine Kept.all ?_
  assumption

theorem State.unlockResponse_kept {kb : Bool} {ka : State} {s : State} {total : Nat} {off : Nat} {part : List Octet} (h1 : Kept kb ka s) :
    Kept kb ka (State.unlockResponse s total off part).2 := by
  unfold State.unlockResponse
  refine Kept.dite2 (fun _ => ?_) (fun _ => ?_)
  · refine Kept.mk2 ?_
    assumption
  · split
    · rename_i v1 v2 v3
      refine Kept.mk2 ?_
      assumption
    · rename_i v4 v5 v6 v7
      extract_lets y1 y2 y3 y4
      clear_value y1
      clear_value y2
      clear_value y3
      have g1 : Kept kb ka y4 := by
        unfold y4
        refine State.dropNonce_kept ?_
        assumption
      clear_value y4
      refine Kept.dite2 (fun _ => ?_) (fun _ => ?_)
      · refine Kept.mk2 ?_
        refine Kept.all ?_
        assumption
      · refine Kept.dite2 (fun _ => ?_) (fun _ => ?_)
        · refine Kept.mk2 ?_
          refine Kept.all ?_
          assumption
        · refine Kept.dite2 (fun _ => ?_) (fun _ => ?_)
          · refine Kept.mk2 ?_
            refine State.setLevel_kept ?_
            assumption
          · refine Kept.mk2 ?_
            assumption

theorem State.lockDebug_kept {kb : Bool} {ka : State} {s : State} (h1 : Kept kb ka s) :
    Kept kb ka (State.lockDebug s) := by
  unfold State.lockDebug
  refine Kept.dite (fun _ => ?_) (fun _ => ?_)
  · refine State.dropNonce_kept ?_
    refine State.setLevel_kept ?_
    assumption
  · assumption

theorem State.attest_kept {kb : Bool} {ka : State} {s : State} {nonce : List Word} (h1 : Kept kb ka s) :
    Kept kb ka (State.attest s nonce).2 := by
  unfold State.attest
  extract_lets y1 y2
  clear_value y1
  have g1 : Kept kb ka y2.2 := by
    unfold y2
    refine State.drawNat_kept ?_
    assumption
  clear_value y2
  refine Kept.mk2 ?_
  assumption

theorem State.otpCtlWrite_kept {kb : Bool} {ka : State} {s : State} {m : Master} {w : Word} (h1 : Kept kb ka s) :
    Kept kb ka (State.otpCtlWrite s m w) := by
  unfold State.otpCtlWrite
  extract_lets y1 y2 y3 y4 y5 y6 y7 y8 y9
  clear_value y2
  have g1 : Kept kb ka y3 := by
    unfold y3
    refine State.setReg_kept rfl ?_
    assumption
  clear_value y3
  clear_value y4
  clear_value y5
  clear_value y6
  clear_value y7
  have g2 : Kept kb ka y8 := by
    unfold y8
    refine State.setF_kept rfl ?_
    assumption
  clear_value y8
  clear_value y9
  refine Kept.dite (fun _ => ?_) (fun _ => ?_)
  · assumption
  · refine Kept.dite (fun _ => ?_) (fun _ => ?_)
    · refine Kept.all ?_
      assumption
    · refine State.setF_kept rfl ?_
      assumption

theorem execNonceExpire_kept {kb : Bool} {ka : State} {s : State} (h1 : Kept kb ka s) :
    OutKept kb ka (execNonceExpire s) := by
  unfold execNonceExpire
  refine OutKept.mk ?_
  refine State.dropNonce_kept ?_
  assumption

theorem State.setOtp_kept {kb : Bool} {ka : State} {s : State} {w : Nat} {v : Word} (h1 : Kept kb ka s) :
    Kept kb ka (State.setOtp s w v) := by
  unfold State.setOtp
  extract_lets y1
  clear_value y1
  refine Kept.all ?_
  assumption

theorem execOtpGenerateSecret_kept {kb : Bool} {ka : State} {m : Master} {w : Word} {s : State} (h3 : Kept kb ka s) :
    OutKept kb ka (execOtpGenerateSecret m w s) := by
  unfold execOtpGenerateSecret
  refine OutKept.mk ?_
  refine State.otpCtlWrite_kept ?_
  assumption

theorem State.levelAtFuse_kept {kb : Bool} {ka : State} {s : State} {lc : Nat} (h1 : Kept kb ka s) :
    Kept kb ka (State.levelAtFuse s lc) := by
  unfold State.levelAtFuse
  extract_lets y1 y2
  clear_value y1
  have g1 : Kept kb ka y2 := by
    unfold y2
    refine Kept.all ?_
    assumption
  clear_value y2
  refine Kept.dite (fun _ => ?_) (fun _ => ?_)
  · refine Kept.dite (fun _ => ?_) (fun _ => ?_)
    · assumption
    · refine State.dropNonce_kept ?_
      refine State.setLevel_kept ?_
      assumption
  · refine Kept.dite (fun _ => ?_) (fun _ => ?_)
    · refine State.setLevel_kept ?_
      assumption
    · refine State.setLevel_kept ?_
      assumption

theorem State.arbStep_kept {kb : Bool} {ka : State} {s : State} {t : Nat} (h1 : Kept kb ka s) :
    Kept kb ka (State.arbStep s t) := by
  unfold State.arbStep
  extract_lets y1
  clear_value y1
  split
  · rename_i v1 v2 v3
    refine State.setOtp_kept ?_
    assumption
  · rename_i v4 v5
    assumption

theorem State.fillSecret_kept {kb : Bool} {ka : State} {s : State} (h1 : Kept kb ka s) :
    Kept kb ka (State.fillSecret s) := by
  unfold State.fillSecret
  refine Kept.foldl (fun st1 x1 g1 => ?_) ?_
  · split
    rename_i v1 v2 v3 v4
    have g2 : Kept kb ka v3 := by
      refine Kept.snd v4 ?_
      refine State.drawNat_kept ?_
      assumption
    refine State.setOtp_kept ?_
    assumption
  · assumption

theorem State.otpDone_kept {kb : Bool} {ka : State} {s : State} {ok : Bool} (h1 : Kept kb ka s) :
    Kept kb ka (State.otpDone s ok) := by
  unfold State.otpDone
  split
  · rename_i v1 v2
    assumption
  · rename_i v3 v4 v5 v6
    extract_lets y1 y2 y3
    clear_value y1
    have g1 : Kept kb ka y2 := by
      unfold y2
      refine Kept.all ?_
      assumption
    clear_value y2
    have g2 : Kept kb ka y3 := by
      unfold y3
      refine State.setF_kept rfl ?_
      assumption
    clear_value y3
    refine Kept.dite (fun _ => ?_) (fun _ => ?_)
    · refine State.otpUndef_kept ?_
      assumption
    · refine Kept.dite (fun _ => ?_) (fun _ => ?_)
      · refine State.fillSecret_kept ?_
        assumption
      · refine State.setOtp_kept ?_
        assumption

theorem State.arbCommit_kept {kb : Bool} {ka : State} {s : State} {t : Nat} {n : Nat} (h1 : Kept kb ka s) :
    Kept kb ka (State.arbCommit s t n) := by
  unfold State.arbCommit
  refine Kept.foldl (fun st1 x1 g1 => ?_) ?_
  · refine State.arbStep_kept ?_
    assumption
  · assumption

theorem execOtpProgram_kept {kb : Bool} {ka : State} {m : Master} {w : Word} {s : State} (h3 : Kept kb ka s) :
    OutKept kb ka (execOtpProgram m w s) := by
  unfold execOtpProgram
  refine OutKept.mk ?_
  refine State.otpCtlWrite_kept ?_
  assumption

theorem execOtpProgramDone_kept {kb : Bool} {ka : State} {ok : Bool} {s : State} (h2 : Kept kb ka s) :
    OutKept kb ka (execOtpProgramDone ok s) := by
  unfold execOtpProgramDone
  refine OutKept.mk ?_
  refine State.otpDone_kept ?_
  assumption

end Sys2Proof.Machine
end

