-- ==== Sys2Proof/Laws/KeptMailbox.lean ====
section
/-! SUPPORT. What each operation of Machine/Mailbox.lean keeps (Laws/Kept.lean). -/

set_option maxRecDepth 4000

namespace Sys2Proof.Machine

theorem State.mbxPop_kept {kb : Bool} {ka : State} {s : State} (h1 : Kept kb ka s) :
    Kept kb ka (State.mbxPop s).2 := by
  unfold State.mbxPop
  split
  · rename_i v1 v2
    refine Kept.mk2 ?_
    assumption
  · rename_i v3 v4 v5 v6
    extract_lets y1
    clear_value y1
    refine Kept.mk2 ?_
    refine Kept.all ?_
    assumption

theorem State.mbxAppend_kept {kb : Bool} {ka : State} {s : State} {w : Word} (h1 : Kept kb ka s) :
    Kept kb ka (State.mbxAppend s w) := by
  unfold State.mbxAppend
  extract_lets y1
  clear_value y1
  refine Kept.dite (fun _ => ?_) (fun _ => ?_)
  · refine Kept.all ?_
    assumption
  · assumption

theorem State.supReady_kept {kb : Bool} {ka : State} {s : State} (h1 : Kept kb ka s) :
    Kept kb ka (State.supReady s) := by
  unfold State.supReady
  refine State.setB_kept rfl ?_
  assumption

theorem State.mbxSend_kept {kb : Bool} {ka : State} {s : State} {status : Nat} {len : Nat} (h1 : Kept kb ka s) :
    Kept kb ka (State.mbxSend s status len) := by
  unfold State.mbxSend
  split
  · rename_i v1 v2 v3
    refine Kept.dite (fun _ => ?_) (fun _ => ?_)
    · refine State.setB_kept rfl ?_
      assumption
    · refine Kept.dite (fun _ => ?_) (fun _ => ?_)
      · refine State.modSeq_kept ?_
        refine State.clearMailbox_kept ?_
        assumption
      · refine Kept.dite (fun _ => ?_) (fun _ => ?_)
        · refine State.clearMailbox_kept ?_
          assumption
        · refine State.reply_kept ?_
          refine State.clearMailbox_kept ?_
          assumption
  · rename_i v4 v5
    extract_lets y1 y2
    have g1 : Kept kb ka y1 := by
      unfold y1
      refine State.setB_kept rfl ?_
      assumption
    clear_value y1
    clear_value y2
    refine Kept.dite (fun _ => ?_) (fun _ => ?_)
    · refine Kept.all ?_
      assumption
    · refine State.setB_kept rfl ?_
      assumption

theorem State.mbxRctl_kept {kb : Bool} {ka : State} {s : State} {w : Word} (h1 : Kept kb ka s) :
    Kept kb ka (State.mbxRctl s w) := by
  unfold State.mbxRctl
  extract_lets y1 y2
  have g1 : Kept kb ka y1 := by
    unfold y1
    refine State.setReg_kept rfl ?_
    assumption
  clear_value y1
  have g2 : Kept kb ka y2 := by
    unfold y2
    refine Kept.dite (fun _ => ?_) (fun _ => ?_)
    · refine State.supReady_kept ?_
      assumption
    · assumption
  clear_value y2
  refine Kept.dite (fun _ => ?_) (fun _ => ?_)
  · refine State.mbxSend_kept ?_
    assumption
  · assumption

theorem State.handOver_kept {kb : Bool} {ka : State} {s : State} {f : FwCmd} {hdr : Word} {ws : List Word} (h1 : Kept kb ka s) :
    Kept kb ka (State.handOver s f hdr ws) := by
  unfold State.handOver
  extract_lets y1 y2 y3
  have g1 : Kept kb ka y1 := by
    unfold y1
    refine State.setReg_kept rfl ?_
    assumption
  clear_value y1
  clear_value y2
  clear_value y3
  refine Kept.all ?_
  assumption

theorem execMbxDataRead_kept {kb : Bool} {ka : State} {s : State} (h1 : Kept kb ka s) :
    OutKept kb ka (execMbxDataRead s) := by
  unfold execMbxDataRead
  refine OutKept.mk ?_
  refine State.mbxPop_kept ?_
  assumption

theorem execMailboxTimeout_kept {kb : Bool} {ka : State} {s : State} (h1 : Kept kb ka s) :
    OutKept kb ka (execMailboxTimeout s) := by
  unfold execMailboxTimeout
  refine OutKept.mk ?_
  refine State.timeoutFirmware_kept ?_
  assumption

theorem execSupervisorReady_kept {kb : Bool} {ka : State} {s : State} (h1 : Kept kb ka s) :
    OutKept kb ka (execSupervisorReady s) := by
  unfold execSupervisorReady
  refine OutKept.mk ?_
  refine State.mbxRctl_kept ?_
  assumption

theorem execMailboxSend_kept {kb : Bool} {ka : State} {w : Word} {s : State} (h2 : Kept kb ka s) :
    OutKept kb ka (execMailboxSend w s) := by
  unfold execMailboxSend
  refine OutKept.mk ?_
  refine State.mbxRctl_kept ?_
  assumption

theorem execMbxReplyAppend_kept {kb : Bool} {ka : State} {w : Word} {s : State} (h2 : Kept kb ka s) :
    OutKept kb ka (execMbxReplyAppend w s) := by
  unfold execMbxReplyAppend
  refine OutKept.mk ?_
  refine State.mbxAppend_kept ?_
  assumption

end Sys2Proof.Machine
end

