-- ==== Sys2Proof/Laws/KeptRegBus.lean ====
section
/-! SUPPORT. What each operation of Machine/RegBus.lean keeps (Laws/Kept.lean). -/

set_option maxRecDepth 4000

namespace Sys2Proof.Machine

theorem State.popPort_kept {kb : Bool} {ka : State} {s : State} {peek : Bool} {r : Reg} (h1 : Kept kb ka s) :
    OptKept2 kb ka (State.popPort s peek r) := by
  unfold State.popPort
  extract_lets y1
  unfold y1
  split
  · rename_i v1
    refine OutKept.mk ?_
    refine Kept.dite2 (fun _ => ?_) (fun _ => ?_)
    · refine Kept.mk2 ?_
      assumption
    · refine State.qmEvtPop_kept ?_
      assumption
  · rename_i v2
    refine OutKept.mk ?_
    refine Kept.dite2 (fun _ => ?_) (fun _ => ?_)
    · refine Kept.mk2 ?_
      assumption
    · refine State.glvEvtPop_kept ?_
      assumption
  · rename_i v3
    refine OutKept.mk ?_
    refine Kept.dite2 (fun _ => ?_) (fun _ => ?_)
    · refine Kept.mk2 ?_
      assumption
    · refine State.hlthEvtPop_kept ?_
      assumption
  · rename_i v4 v5
    refine OutKept.mk ?_
    refine Kept.dite2 (fun _ => ?_) (fun _ => ?_)
    · refine Kept.mk2 ?_
      assumption
    · refine State.msgRxPop_kept ?_
      assumption
  · rename_i v6
    refine OutKept.mk ?_
    refine Kept.dite2 (fun _ => ?_) (fun _ => ?_)
    · refine Kept.mk2 ?_
      assumption
    · refine State.mbxPop_kept ?_
      assumption
  · rename_i v7 v8 v9 v10 v11 v12
    exact True.intro

theorem State.prbsErr_kept {kb : Bool} {ka : State} {s : State} {n : Nat} (h1 : Kept kb ka s) :
    Kept kb ka (State.prbsErr s n).2 := by
  unfold State.prbsErr
  extract_lets y1
  have g1 : Kept kb ka y1 := by
    unfold y1
    refine State.prbsCatch_kept ?_
    assumption
  clear_value y1
  refine Kept.mk2 ?_
  assumption

theorem State.present_kept {kb : Bool} {ka : State} {s : State} {r : Reg} (h1 : Kept kb ka s) :
    Kept kb ka (State.present s r).2 := by
  unfold State.present
  extract_lets y1 y2 y3 y4
  clear_value y1
  clear_value y2
  clear_value y3
  have g1 : Kept kb ka y4 := by
    unfold y4
    refine State.swdtCatch_kept ?_
    assumption
  clear_value y4
  split
  · rename_i v1
    refine Kept.mk2 ?_
    assumption
  · rename_i v2
    refine Kept.mk2 ?_
    assumption
  · rename_i v3
    refine Kept.mk2 ?_
    assumption
  · rename_i v4
    refine Kept.mk2 ?_
    assumption
  · rename_i v5
    refine Kept.mk2 ?_
    assumption
  · rename_i v6 v7
    refine State.glvReadWord_kept ?_
    assumption
  · rename_i v8
    refine Kept.mk2 ?_
    assumption
  · rename_i v9
    refine State.glvReadWord_kept ?_
    assumption
  · rename_i v10 v11
    refine State.prbsErr_kept ?_
    assumption
  · rename_i v12 v13
    refine Kept.mk2 ?_
    assumption
  · rename_i v14 v15
    refine Kept.mk2 ?_
    assumption
  · rename_i v16
    refine Kept.mk2 ?_
    assumption
  · rename_i v17
    refine Kept.mk2 ?_
    assumption
  · rename_i v18
    refine Kept.mk2 ?_
    assumption
  · rename_i v19
    refine Kept.mk2 ?_
    assumption
  · rename_i v20
    refine Kept.mk2 ?_
    assumption
  · rename_i v21 v22
    refine Kept.mk2 ?_
    assumption
  · rename_i v23
    refine Kept.mk2 ?_
    assumption
  · rename_i v24 v25
    refine Kept.mk2 ?_
    assumption
  · rename_i v26
    refine Kept.mk2 ?_
    assumption
  · rename_i v27
    refine Kept.mk2 ?_
    assumption
  · rename_i v28 v29 v30 v31 v32 v33 v34 v35 v36 v37 v38 v39 v40 v41 v42 v43 v44 v45 v46 v47 v48 v49
    refine Kept.mk2 ?_
    assumption

theorem State.readReg_kept {kb : Bool} {ka : State} {s : State} {peek : Bool} {r : Reg} (h1 : Kept kb ka s) :
    Kept kb ka (State.readReg s peek r).2 := by
  unfold State.readReg
  split
  · rename_i v1 v2 v3
    have g1 : Kept kb ka v2.2 := by
      refine OptKept2.some v3 ?_
      refine State.popPort_kept ?_
      assumption
    assumption
  · rename_i v4 v5
    split
    rename_i v6 v7 v8 v9
    have g2 : Kept kb ka v8 := by
      refine Kept.snd v9 ?_
      refine State.present_kept ?_
      assumption
    refine Kept.mk2 ?_
    refine Kept.dite (fun _ => ?_) (fun _ => ?_)
    · assumption
    · refine State.readClear_kept ?_
      assumption

theorem State.regRead_kept {kb : Bool} {ka : State} {s : State} {o1 : Master} {peek : Bool} {a : Nat} (h1 : Kept kb ka s) :
    Kept kb ka (State.regRead s o1 peek a).2 := by
  unfold State.regRead
  split
  · rename_i v1 v2 v3
    refine State.readReg_kept ?_
    assumption
  · rename_i v4 v5
    refine Kept.mk2 ?_
    assumption

theorem State.plainWrite_kept {kb : Bool} {ka : State} {s : State} {r : Reg} {w : Word} (h1 : Kept kb ka s) :
    Kept kb ka (State.plainWrite s r w) := by
  unfold State.plainWrite
  refine State.applyWrite_kept ?_
  assumption

theorem State.unlessRunning_kept {kb : Bool} {ka : State} {s : State} {k : Nat} {r : Reg} {w : Word} (h1 : Kept kb ka s) :
    Kept kb ka (State.unlessRunning s k r w) := by
  unfold State.unlessRunning
  refine Kept.dite (fun _ => ?_) (fun _ => ?_)
  · assumption
  · refine State.plainWrite_kept ?_
    assumption

theorem State.gongWrite_kept {kb : Bool} {ka : State} {s : State} {m : Master} {g : Nat} {w : Word} (h1 : Kept kb ka s) :
    Kept kb ka (State.gongWrite s m g w) := by
  unfold State.gongWrite
  extract_lets y1
  have g1 : Kept kb ka y1 := by
    unfold y1
    refine State.plainWrite_kept ?_
    assumption
  clear_value y1
  refine Kept.dite (fun _ => ?_) (fun _ => ?_)
  · assumption
  · refine Kept.dite (fun _ => ?_) (fun _ => ?_)
    · refine State.fireGong_kept ?_
      assumption
    · assumption

theorem State.ectlWrite_kept {kb : Bool} {ka : State} {s : State} {m : Master} {n : Nat} {w : Word} (h1 : Kept kb ka s) :
    Kept kb ka (State.ectlWrite s m n w) := by
  unfold State.ectlWrite
  extract_lets y1 y2
  have g1 : Kept kb ka y1 := by
    unfold y1
    refine State.plainWrite_kept ?_
    assumption
  clear_value y1
  have g2 : Kept kb ka y2 := by
    unfold y2
    refine Kept.dite (fun _ => ?_) (fun _ => ?_)
    · refine State.requestHalt_kept ?_
      assumption
    · assumption
  clear_value y2
  refine Kept.dite (fun _ => ?_) (fun _ => ?_)
  · assumption
  · refine Kept.dite (fun _ => ?_) (fun _ => ?_)
    · refine State.resumeEngine_kept ?_
      assumption
    · assumption

theorem State.cmpCtlWrite_kept {kb : Bool} {ka : State} {s : State} {m : Master} {n : Nat} {r : Reg} {w : Word} (h1 : Kept kb ka s) :
    Kept kb ka (State.cmpCtlWrite s m n r w) := by
  unfold State.cmpCtlWrite
  refine Kept.dite (fun _ => ?_) (fun _ => ?_)
  · assumption
  · refine State.plainWrite_kept ?_
    assumption

theorem State.writeReg_kept {kb : Bool} {ka : State} {s : State} {m : Master} {r : Reg} {w : Word} (h1 : Kept kb ka s) :
    Kept kb ka (State.writeReg s m r w) := by
  unfold State.writeReg
  split
  · rename_i v1
    refine State.beatCtlWrite_kept ?_
    assumption
  · rename_i v2
    refine State.beatPeriodWrite_kept ?_
    assumption
  · rename_i v3 v4
    refine State.unlessRunning_kept ?_
    assumption
  · rename_i v5 v6
    refine State.unlessRunning_kept ?_
    assumption
  · rename_i v7 v8
    refine State.unlessRunning_kept ?_
    assumption
  · rename_i v9 v10
    refine State.unlessRunning_kept ?_
    assumption
  · rename_i v11 v12
    refine State.unlessRunning_kept ?_
    assumption
  · rename_i v13 v14
    refine State.unlessRunning_kept ?_
    assumption
  · rename_i v15 v16
    refine Kept.dite (fun _ => ?_) (fun _ => ?_)
    · assumption
    · refine State.plainWrite_kept ?_
      assumption
  · rename_i v17 v18
    refine State.doorbell_kept ?_
    assumption
  · rename_i v19 v20
    refine State.dcacheInv_kept ?_
    assumption
  · rename_i v21 v22 v23 v24
    refine State.semWrite_kept ?_
    assumption
  · rename_i v25 v26 v27 v28
    refine State.dmaPost_kept ?_
    assumption
  · rename_i v29 v30
    refine State.fenceGo_kept ?_
    assumption
  · rename_i v31 v32
    refine Kept.dite (fun _ => ?_) (fun _ => ?_)
    · refine State.sectGate_kept ?_
      assumption
    · refine State.sectRestore_kept ?_
      assumption
  · rename_i v33 v34 v35
    refine Kept.dite (fun _ => ?_) (fun _ => ?_)
    · refine Kept.dite (fun _ => ?_) (fun _ => ?_)
      · refine State.plainWrite_kept ?_
        assumption
      · assumption
    · refine State.unlessRunning_kept ?_
      assumption
  · rename_i v36 v37 v38
    refine Kept.dite (fun _ => ?_) (fun _ => ?_)
    · refine Kept.dite (fun _ => ?_) (fun _ => ?_)
      · refine State.plainWrite_kept ?_
        assumption
      · assumption
    · refine State.unlessRunning_kept ?_
      assumption
  · rename_i v39
    refine State.plainWrite_kept ?_
    assumption
  · rename_i v40
    split
    · rename_i v41 v42 v43
      assumption
    · rename_i v44 v45
      refine State.qmPushWrite_kept ?_
      assumption
  · rename_i v46
    refine Kept.dite (fun _ => ?_) (fun _ => ?_)
    · refine State.handoffArm_kept ?_
      assumption
    · refine State.handoffCancel_kept ?_
      assumption
  · rename_i v47
    refine Kept.dite (fun _ => ?_) (fun _ => ?_)
    · assumption
    · refine State.plainWrite_kept ?_
      assumption
  · rename_i v48 v49
    refine State.glvTighten_kept ?_
    assumption
  · rename_i v50
    refine State.glvCmdWrite_kept ?_
    assumption
  · rename_i v51 v52
    refine State.laneCtlWrite_kept ?_
    assumption
  · rename_i v53 v54
    refine State.laneTestWrite_kept ?_
    assumption
  · rename_i v55 v56
    refine State.msgTxAppend_kept ?_
    assumption
  · rename_i v57 v58
    refine State.msgTxcWrite_kept ?_
    assumption
  · rename_i v59 v60
    refine State.plainWrite_kept ?_
    assumption
  · rename_i v61 v62
    refine State.ckuCtlWrite_kept ?_
    assumption
  · rename_i v63 v64
    refine Kept.dite (fun _ => ?_) (fun _ => ?_)
    · assumption
    · refine State.plainWrite_kept ?_
      assumption
  · rename_i v65 v66
    refine Kept.dite (fun _ => ?_) (fun _ => ?_)
    · assumption
    · refine State.plainWrite_kept ?_
      assumption
  · rename_i v67 v68
    refine Kept.dite (fun _ => ?_) (fun _ => ?_)
    · assumption
    · refine State.plainWrite_kept ?_
      assumption
  · rename_i v69 v70
    refine State.ckuStsWrite_kept ?_
    assumption
  · rename_i v71
    refine State.marchCtlWrite_kept ?_
    assumption
  · rename_i v72
    refine State.mbxAppend_kept ?_
    assumption
  · rename_i v73
    refine State.mbxRctl_kept ?_
    assumption
  · rename_i v74
    refine State.otpCtlWrite_kept ?_
    assumption
  · rename_i v75
    refine Kept.dite (fun _ => ?_) (fun _ => ?_)
    · refine State.plainWrite_kept ?_
      refine State.swdtCatch_kept ?_
      assumption
    · assumption
  · rename_i v76 v77
    refine State.gongWrite_kept ?_
    assumption
  · rename_i v78 v79
    refine State.ectlWrite_kept ?_
    assumption
  · rename_i v80 v81 v82
    refine State.cmpCtlWrite_kept ?_
    assumption
  · rename_i v83 v84 v85
    refine State.cmpCtlWrite_kept ?_
    assumption
  · rename_i v86
    refine State.nomWrite_kept ?_
    assumption
  · rename_i v87
    refine State.swdtWrite_kept ?_
    assumption
  · rename_i v88 v89 v90 v91 v92 v93 v94 v95 v96 v97 v98 v99 v100 v101 v102 v103 v104 v105 v106 v107 v108 v109 v110 v111 v112 v113 v114 v115 v116 v117 v118 v119 v120 v121 v122 v123 v124 v125 v126 v127 v128 v129 v130 v131 v132
    refine State.plainWrite_kept ?_
    assumption

theorem State.regWrite_kept {kb : Bool} {ka : State} {s : State} {m : Master} {a : Nat} {w : Word} (h1 : Kept kb ka s) :
    Kept kb ka (State.regWrite s m a w) := by
  unfold State.regWrite
  split
  · rename_i v1 v2 v3
    refine State.writeReg_kept ?_
    assumption
  · rename_i v4 v5
    assumption

theorem execHaltRequest_kept {kb : Bool} {ka : State} {m : Master} {n : EngId} {s : State} (h3 : Kept kb ka s) :
    OutKept kb ka (execHaltRequest m n s) := by
  unfold execHaltRequest
  refine OutKept.mk ?_
  refine State.ectlWrite_kept ?_
  assumption

theorem execResume_kept {kb : Bool} {ka : State} {m : Master} {n : EngId} {s : State} (h3 : Kept kb ka s) :
    OutKept kb ka (execResume m n s) := by
  unfold execResume
  refine OutKept.mk ?_
  refine State.ectlWrite_kept ?_
  assumption

theorem execGongFire_kept {kb : Bool} {ka : State} {m : Master} {g : Fin 8} {s : State} (h3 : Kept kb ka s) :
    OutKept kb ka (execGongFire m g s) := by
  unfold execGongFire
  refine OutKept.mk ?_
  refine State.gongWrite_kept ?_
  assumption

theorem execGongDelivery_kept {kb : Bool} {ka : State} {g : Fin 8} {s : State} (h2 : Kept kb ka s) :
    OutKept kb ka (execGongDelivery g s) := by
  unfold execGongDelivery
  refine OutKept.mk ?_
  refine State.gongDeliver_kept ?_
  assumption

theorem execRegisterWrite_kept {kb : Bool} {ka : State} {m : Master} {a : Word} {w : Word} {s : State} (h4 : Kept kb ka s) :
    OutKept kb ka (execRegisterWrite m a w s) := by
  unfold execRegisterWrite
  refine OutKept.mk ?_
  refine State.regWrite_kept ?_
  assumption

end Sys2Proof.Machine
end

