-- ==== Sys2Proof/Laws/KeptData.lean ====
section
/-! SUPPORT. What each operation of Machine/Data.lean keeps (Laws/Kept.lean). -/

set_option maxRecDepth 4000

namespace Sys2Proof.Machine

theorem State.glvWindowRead_kept {kb : Bool} {ka : State} {s : State} {off : Nat} (h1 : Kept kb ka s) :
    Kept kb ka (State.glvWindowRead s off).2 := by
  unfold State.glvWindowRead
  refine State.glvReadWord_kept ?_
  assumption

theorem State.glvWindowWrite_kept {kb : Bool} {ka : State} {s : State} {off : Nat} {w : Word} (h1 : Kept kb ka s) :
    Kept kb ka (State.glvWindowWrite s off w) := by
  unfold State.glvWindowWrite
  extract_lets y1
  clear_value y1
  refine Kept.dite (fun _ => ?_) (fun _ => ?_)
  · assumption
  · split
    rename_i v1 v2 v3 v4 v5
    have g1 : Kept kb ka v3 := by
      refine Kept.fst v5 ?_
      refine State.glvCompare_kept ?_
      assumption
    refine Kept.dite (fun _ => ?_) (fun _ => ?_)
    · assumption
    · refine State.modCh_kept ?_
      assumption

theorem State.writeCanon_kept {kb : Bool} {ka : State} {s : State} {m : Master} {ca : Nat} {bs : List Byte9} (h1 : Kept kb ka s) :
    Kept kb ka (State.writeCanon s m ca bs) := by
  unfold State.writeCanon
  split
  · rename_i v1 v2 v3
    refine State.regWrite_kept ?_
    assumption
  · rename_i v4 v5 v6
    refine Kept.foldl (fun st1 x1 g1 => ?_) ?_
    · extract_lets y1
      clear_value y1
      refine State.glvWindowWrite_kept ?_
      assumption
    · assumption
  · rename_i v7 v8 v9
    refine State.storeBytes_kept ?_
    assumption

theorem State.glvWindowWords_kept {kb : Bool} {ka : State} {s : State} {off : Nat} {o2 : Nat} (h1 : Kept kb ka s) :
    Kept kb ka (State.glvWindowWords s off o2).2 := by
  unfold State.glvWindowWords
  split
  · rename_i v1
    refine Kept.mk2 ?_
    assumption
  · rename_i v2 v3
    split
    rename_i v4 v5 v6 v7
    have g1 : Kept kb ka v6 := by
      refine Kept.snd v7 ?_
      refine State.glvWindowRead_kept ?_
      assumption
    split
    rename_i v8 v9 v10 v11
    have g2 : Kept kb ka v6 := by assumption
    have g3 : Kept kb ka v10 := by
      refine Kept.snd v11 ?_
      refine State.glvWindowWords_kept ?_
      assumption
    refine Kept.mk2 ?_
    assumption

theorem State.readCanon_kept {kb : Bool} {ka : State} {s : State} {m : Master} {ca : Nat} {n : Nat} (h1 : Kept kb ka s) :
    Kept kb ka (State.readCanon s m ca n).2 := by
  unfold State.readCanon
  split
  · rename_i v1 v2 v3
    split
    rename_i v4 v5 v6 v7
    have g1 : Kept kb ka v6 := by
      refine Kept.snd v7 ?_
      refine State.regRead_kept ?_
      assumption
    refine Kept.mk2 ?_
    assumption
  · rename_i v8 v9 v10
    split
    rename_i v11 v12 v13 v14
    have g2 : Kept kb ka v13 := by
      refine Kept.snd v14 ?_
      refine State.glvWindowWords_kept ?_
      assumption
    refine Kept.mk2 ?_
    assumption
  · rename_i v15 v16 v17
    refine Kept.mk2 ?_
    assumption

end Sys2Proof.Machine
end

