-- ==== Sys2Proof/Laws/KeptLsu.lean ====
section
/-! SUPPORT. What each operation of Machine/Lsu.lean keeps (Laws/Kept.lean). -/

set_option maxRecDepth 4000

namespace Sys2Proof.Machine

theorem execEccWriteback_kept {kb : Bool} {ka : State} {k : Nat} {s : State} (h2 : Kept kb ka s) :
    OutKept kb ka (execEccWriteback k s) := by
  unfold execEccWriteback
  refine OutKept.mk ?_
  refine Kept.dite (fun _ => ?_) (fun _ => ?_)
  · assumption
  · refine State.updSoft_kept ?_
    assumption

theorem OpOut.spad_kept {kb : Bool} {ka : State} {o : OpOut} {e : Nat} {a : Word} {store : Bool} (h1 : OpKept kb ka o) :
    OpKept kb ka (OpOut.spad o e a store) := by
  unfold OpOut.spad
  split
  · rename_i v1 v2
    refine OpKept.mk ?_
    split
    · rename_i v3
      refine Kept.mkSt ?_
      refine State.modEngine_kept ?_
      assumption
    · rename_i v4
      assumption
  · rename_i v5 v6
    assumption

theorem State.crossOut_kept {kb : Bool} {ka : State} {s : State} {e : Nat} {ca : Nat} (h1 : Kept kb ka s) :
    Kept kb ka (State.crossOut s e ca).2 := by
  unfold State.crossOut
  split
  · rename_i v1 v2 v3
    refine Kept.mk2 ?_
    refine State.modSect_kept ?_
    assumption
  · rename_i v4 v5
    refine Kept.mk2 ?_
    assumption

theorem State.loadIssue_kept {kb : Bool} {ka : State} {s : State} {e : Nat} {u : Nat} {l : Load} (h1 : Kept kb ka s) :
    Kept kb ka (State.loadIssue s e u l) := by
  unfold State.loadIssue
  extract_lets y1
  clear_value y1
  split
  rename_i v1 v2 v3 v4
  have g1 : Kept kb ka v3 := by
    refine Kept.snd v4 ?_
    refine Kept.dite2 (fun _ => ?_) (fun _ => ?_)
    · refine State.crossOut_kept ?_
      assumption
    · refine Kept.mk2 ?_
      assumption
  extract_lets y2 y3 y4
  clear_value y2
  clear_value y3
  have g2 : Kept kb ka y4 := by
    unfold y4
    refine State.setEngine_kept ?_
    assumption
  clear_value y4
  refine Kept.dite (fun _ => ?_) (fun _ => ?_)
  · refine State.waitBegin_kept ?_
    assumption
  · assumption

theorem loadOp_kept {kb : Bool} {ka : State} {size : Nat} {signed : Bool} {u : Nat} {s : State} {e : Nat} {a : Word} (h4 : Kept kb ka s) :
    OpKept kb ka (loadOp size signed u s e a) := by
  unfold loadOp
  split
  · rename_i v1 v2 v3 v4
    exact True.intro
  · rename_i v5 v6
    extract_lets y1 y2 y3 y4 y5 y6 y7 y8
    clear_value y1
    clear_value y2
    clear_value y3
    clear_value y4
    clear_value y5
    clear_value y6
    clear_value y7
    have g1 : Kept kb ka y8 := by
      unfold y8
      refine Kept.dite (fun _ => ?_) (fun _ => ?_)
      · refine State.modEngine_kept ?_
        assumption
      · assumption
    clear_value y8
    refine OpOut.plain_kept ?_
    refine State.loadIssue_kept ?_
    assumption

theorem State.codeStore_kept {kb : Bool} {ka : State} {s : State} {e : Nat} {ca : Nat} {bs : List Byte9} (h1 : Kept kb ka s) :
    Kept kb ka (State.codeStore s e ca bs) := by
  unfold State.codeStore
  refine State.modEngine_kept ?_
  refine State.storeBytes_kept ?_
  assumption

theorem storeOp_kept {kb : Bool} {ka : State} {size : Nat} {u : Nat} {s : State} {e : Nat} {a : Word} (h3 : Kept kb ka s) :
    OpKept kb ka (storeOp size u s e a) := by
  unfold storeOp
  split
  · rename_i v1 v2 v3 v4
    exact True.intro
  · rename_i v5 v6
    extract_lets y1 y2 y3 y4 y5 y6 y7
    clear_value y1
    clear_value y2
    clear_value y3
    clear_value y4
    clear_value y5
    clear_value y6
    have g1 : Kept kb ka y7 := by
      unfold y7
      refine State.setEngine_kept ?_
      assumption
    clear_value y7
    refine OpKept.dite (fun _ => ?_) (fun _ => ?_)
    · refine OpOut.plain_kept ?_
      refine State.codeStore_kept ?_
      assumption
    · refine OpOut.plain_kept ?_
      refine Kept.dite (fun _ => ?_) (fun _ => ?_)
      · refine State.waitBegin_kept ?_
        assumption
      · assumption

theorem lsuForm_kept {kb : Bool} {ka : State} {i : Nat} {u : Nat} {s : State} {e : Nat} {a : Word} (h3 : Kept kb ka s) :
    OpKept kb ka (lsuForm i u s e a) := by
  unfold lsuForm
  split
  · rename_i v1
    refine loadOp_kept ?_
    assumption
  · rename_i v2
    refine loadOp_kept ?_
    assumption
  · rename_i v3
    refine loadOp_kept ?_
    assumption
  · rename_i v4
    refine loadOp_kept ?_
    assumption
  · rename_i v5
    refine loadOp_kept ?_
    assumption
  · rename_i v6
    refine loadOp_kept ?_
    assumption
  · rename_i v7
    refine storeOp_kept ?_
    assumption
  · rename_i v8
    refine storeOp_kept ?_
    assumption
  · rename_i v9
    refine storeOp_kept ?_
    assumption
  · rename_i v10 v11 v12 v13 v14 v15 v16 v17 v18 v19
    refine storeOp_kept ?_
    assumption

theorem lsuInc_kept {kb : Bool} {ka : State} {i : Nat} {u : Nat} {s : State} {e : Nat} {t : Word} (h3 : Kept kb ka s) :
    OpKept kb ka (lsuInc i u s e t) := by
  unfold lsuInc
  extract_lets y1 y2 y3
  clear_value y1
  clear_value y2
  clear_value y3
  refine OpKept.dite (fun _ => ?_) (fun _ => ?_)
  · exact True.intro
  · split
    · rename_i v1 v2 v3 v4
      have g1 : Kept kb ka v3.st := by
        refine OpKept.ok v4 ?_
        refine OpOut.spad_kept ?_
        refine lsuForm_kept ?_
        assumption
      refine OpKept.mk ?_
      refine Kept.mkSt ?_
      refine State.modEngine_kept ?_
      assumption
    · rename_i v5 v6 v7
      refine OpOut.spad_kept ?_
      refine lsuForm_kept ?_
      assumption

theorem lsuIncRow_kept {kb : Bool} {ka : State} {i : Nat} {e : EngId} {u : Fin 2} {t : Word} {s : State} (h5 : Kept kb ka s) :
    OutKept kb ka (lsuIncRow i e u t s) := by
  unfold lsuIncRow
  refine OutKept.mk ?_
  refine State.opRow_kept ?_ ?_
  · assumption
  · refine lsuInc_kept ?_
    assumption

theorem State.postDone_kept {kb : Bool} {ka : State} {s : State} {k : Nat} {i : Nat} {link : Nat} {coll : Nat} (h1 : Kept kb ka s) :
    Kept kb ka (State.postDone s k i link coll) := by
  unfold State.postDone
  extract_lets y1 y2 y3
  clear_value y1
  have g1 : Kept kb ka y2 := by
    unfold y2
    refine State.setSect_kept ?_
    assumption
  clear_value y2
  have g2 : Kept kb ka y3 := by
    unfold y3
    refine State.incF_kept rfl ?_
    refine State.incF_kept rfl ?_
    assumption
  clear_value y3
  split
  · rename_i v1 v2
    assumption
  · rename_i v3 v4 v5
    refine Kept.dite (fun _ => ?_) (fun _ => ?_)
    · assumption
    · refine State.storeBytes_kept ?_
      assumption

theorem execLdhP_kept {kb : Bool} {ka : State} {e : EngId} {u : Fin 2} {t : Word} {s : State} (h4 : Kept kb ka s) :
    OutKept kb ka (execLdhP e u t s) := by
  unfold execLdhP
  refine lsuIncRow_kept ?_
  assumption

theorem State.atomicStore_kept {kb : Bool} {ka : State} {s : State} {e : Nat} {ca : Nat} {data : Word} (h1 : Kept kb ka s) :
    Kept kb ka (State.atomicStore s e ca data) := by
  unfold State.atomicStore
  refine State.modEngine_kept ?_
  refine State.setWord_kept ?_
  assumption

theorem State.atomicPerform_kept {kb : Bool} {ka : State} {s : State} {e : Nat} {kind : Nat} {ca : Nat} {data : Word} (h1 : Kept kb ka s) :
    Kept kb ka (State.atomicPerform s e kind ca data).2 := by
  unfold State.atomicPerform
  extract_lets y1 y2 y3
  clear_value y1
  have g1 : Kept kb ka y3 := by
    unfold y3
    refine State.modEngine_kept ?_
    assumption
  clear_value y3
  refine Kept.dite2 (fun _ => ?_) (fun _ => ?_)
  · refine Kept.mk2 ?_
    refine Kept.dite (fun _ => ?_) (fun _ => ?_)
    · refine State.atomicStore_kept ?_
      assumption
    · assumption
  · refine Kept.dite2 (fun _ => ?_) (fun _ => ?_)
    · refine Kept.mk2 ?_
      refine State.modEngine_kept ?_
      assumption
    · refine Kept.dite2 (fun _ => ?_) (fun _ => ?_)
      · refine Kept.mk2 ?_
        refine State.atomicStore_kept ?_
        assumption
      · refine Kept.mk2 ?_
        assumption

theorem State.atomicStart_kept {kb : Bool} {ka : State} {s : State} {e : Nat} {kind : Nat} {ca : Nat} {data : Word} {l : Load} (h1 : Kept kb ka s) :
    Kept kb ka (State.atomicStart s e kind ca data l).2 := by
  unfold State.atomicStart
  refine Kept.dite2 (fun _ => ?_) (fun _ => ?_)
  · split
    rename_i v1 v2 v3 v4 v5
    have g1 : Kept kb ka v4 := by
      refine Kept.snd v5 ?_
      refine State.atomicPerform_kept ?_
      refine State.softRead_kept ?_
      assumption
    refine Kept.mk2 ?_
    assumption
  · refine Kept.mk2 ?_
    assumption

theorem execPostPerformed_kept {kb : Bool} {ka : State} {k : SectId} {i : Nat} {link : Nat} {coll : Nat} {s : State} (h5 : Kept kb ka s) :
    OutKept kb ka (execPostPerformed k i link coll s) := by
  unfold execPostPerformed
  refine OutKept.mk ?_
  refine State.postDone_kept ?_
  assumption

theorem execSt2P_kept {kb : Bool} {ka : State} {e : EngId} {u : Fin 2} {t : Word} {s : State} (h4 : Kept kb ka s) :
    OutKept kb ka (execSt2P e u t s) := by
  unfold execSt2P
  refine lsuIncRow_kept ?_
  assumption

theorem State.drainOut_kept {kb : Bool} {ka : State} {s : State} {e : Nat} {i : Nat} (h1 : Kept kb ka s) :
    Kept kb ka (State.drainOut s e i) := by
  unfold State.drainOut
  extract_lets y1
  clear_value y1
  split
  · rename_i v1 v2
    assumption
  · rename_i v3 v4 v5
    extract_lets y2
    clear_value y2
    refine Kept.dite (fun _ => ?_) (fun _ => ?_)
    · refine State.modSect_kept ?_
      refine State.setEngine_kept ?_
      assumption
    · refine Kept.dite (fun _ => ?_) (fun _ => ?_)
      · split
        rename_i v6 v7 v8 v9 v10 v11
        have g1 : Kept kb ka v10 := by
          refine Kept.snd v11 ?_
          refine State.crossOut_kept ?_
          assumption
        refine State.setEngine_kept ?_
        assumption
      · refine State.storeBytes_kept ?_
        refine State.setEngine_kept ?_
        assumption

theorem State.drainOne_kept {kb : Bool} {ka : State} {s : State} {e : Nat} {i : Nat} (h1 : Kept kb ka s) :
    Kept kb ka (State.drainOne s e i) := by
  unfold State.drainOne
  refine Kept.dite (fun _ => ?_) (fun _ => ?_)
  · assumption
  · refine State.drainOut_kept ?_
    assumption

theorem State.storeDrain_kept {kb : Bool} {ka : State} {s : State} {e : Nat} {i : Nat} (h1 : Kept kb ka s) :
    Kept kb ka (State.storeDrain s e i) := by
  unfold State.storeDrain
  refine Kept.dite (fun _ => ?_) (fun _ => ?_)
  · assumption
  · split
    · rename_i v1 v2 v3 v4
      refine Kept.dite (fun _ => ?_) (fun _ => ?_)
      · assumption
      · refine State.drainOut_kept ?_
        refine State.drainOut_kept ?_
        assumption
    · rename_i v5 v6 v7
      refine State.drainOne_kept ?_
      assumption

theorem execLdbuP_kept {kb : Bool} {ka : State} {e : EngId} {u : Fin 2} {t : Word} {s : State} (h4 : Kept kb ka s) :
    OutKept kb ka (execLdbuP e u t s) := by
  unfold execLdbuP
  refine lsuIncRow_kept ?_
  assumption

theorem State.crossMeasure_kept {kb : Bool} {ka : State} {s : State} {k : Nat} {cycles : Nat} (h1 : Kept kb ka s) :
    Kept kb ka (State.crossMeasure s k cycles) := by
  unfold State.crossMeasure
  extract_lets y1 y2 y3
  clear_value y1
  clear_value y2
  have g1 : Kept kb ka y3 := by
    unfold y3
    refine Kept.dite (fun _ => ?_) (fun _ => ?_)
    · refine State.setF_kept rfl ?_
      assumption
    · assumption
  clear_value y3
  refine Kept.dite (fun _ => ?_) (fun _ => ?_)
  · assumption
  · refine Kept.dite (fun _ => ?_) (fun _ => ?_)
    · refine State.setB_kept rfl ?_
      assumption
    · assumption

theorem State.performStore_kept {kb : Bool} {ka : State} {s : State} {e : Nat} {ring : Nat} {ca : Nat} {bs : List Byte9} (h1 : Kept kb ka s) :
    Kept kb ka (State.performStore s e ring ca bs) := by
  unfold State.performStore
  refine State.writeCanon_kept ?_
  assumption

theorem atomicOp_kept {kb : Bool} {ka : State} {kind : Nat} {u : Nat} {s : State} {e : Nat} {a : Word} (h3 : Kept kb ka s) :
    OpKept kb ka (atomicOp kind u s e a) := by
  unfold atomicOp
  refine OpKept.dite (fun _ => ?_) (fun _ => ?_)
  · exact True.intro
  · refine OpKept.dite (fun _ => ?_) (fun _ => ?_)
    · exact True.intro
    · split
      · rename_i v1 v2 v3 v4 v5 v6
        exact True.intro
      · rename_i v7 v8 v9 v10
        extract_lets y1 y2 y3 y4
        clear_value y1
        clear_value y2
        clear_value y3
        clear_value y4
        split
        rename_i v11 v12 v13 v14
        have g1 : Kept kb ka v13 := by
          refine Kept.snd v14 ?_
          refine State.atomicStart_kept ?_
          assumption
        refine OpOut.plain_kept ?_
        refine State.loadIssue_kept ?_
        assumption

theorem execLdbP_kept {kb : Bool} {ka : State} {e : EngId} {u : Fin 2} {t : Word} {s : State} (h4 : Kept kb ka s) :
    OutKept kb ka (execLdbP e u t s) := by
  unfold execLdbP
  refine lsuIncRow_kept ?_
  assumption

theorem State.outDone_kept {kb : Bool} {ka : State} {s : State} {e : Nat} {i : Nat} {cross : Bool} (h1 : Kept kb ka s) :
    OptKept kb ka (State.outDone s e i cross) := by
  unfold State.outDone
  extract_lets y1
  clear_value y1
  split
  · rename_i v1 v2
    exact True.intro
  · rename_i v3 v4 v5
    refine OptKept.dite (fun _ => ?_) (fun _ => ?_)
    · exact True.intro
    · refine OutKept.mk ?_
      refine State.performStore_kept ?_
      refine State.setEngine_kept ?_
      assumption

theorem execSthP_kept {kb : Bool} {ka : State} {e : EngId} {u : Fin 2} {t : Word} {s : State} (h4 : Kept kb ka s) :
    OutKept kb ka (execSthP e u t s) := by
  unfold execSthP
  refine lsuIncRow_kept ?_
  assumption

theorem State.eccSeen_kept {kb : Bool} {ka : State} {s : State} {ca : Nat} {o2 : Ecc} (h1 : Kept kb ka s) :
    Kept kb ka (State.eccSeen s ca o2) := by
  unfold State.eccSeen
  split
  · rename_i v1
    assumption
  · rename_i v2
    refine State.markSoft_kept ?_
    assumption
  · rename_i v3
    refine State.markBad_kept ?_
    assumption

theorem State.loadPart_kept {kb : Bool} {ka : State} {s : State} {e : Nat} {l : Load} {ca : Nat} {n : Nat} {ecc : Ecc} (h1 : Kept kb ka s) :
    Kept kb ka (State.loadPart s e l ca n ecc).2 := by
  unfold State.loadPart
  extract_lets y1 y2
  have g1 : Kept kb ka y1 := by
    unfold y1
    split
    · rename_i v1 v2 v3 v4
      refine State.markBad_kept ?_
      assumption
    · rename_i v5 v6 v7 v8
      assumption
  clear_value y1
  have g2 : Kept kb ka y2 := by
    unfold y2
    refine State.softReads_kept ?_
    refine State.eccSeen_kept ?_
    assumption
  clear_value y2
  refine Kept.dite2 (fun _ => ?_) (fun _ => ?_)
  · split
    rename_i v9 v10 v11 v12 v13
    have g3 : Kept kb ka v12 := by
      refine Kept.snd v13 ?_
      refine State.readCanon_kept ?_
      assumption
    refine Kept.mk2 ?_
    assumption
  · split
    · rename_i v14 v15 v16 v17
      refine Kept.mk2 ?_
      assumption
    · rename_i v18 v19 v20
      refine Kept.mk2 ?_
      assumption

theorem execLd2P_kept {kb : Bool} {ka : State} {e : EngId} {u : Fin 2} {t : Word} {s : State} (h4 : Kept kb ka s) :
    OutKept kb ka (execLd2P e u t s) := by
  unfold execLd2P
  refine lsuIncRow_kept ?_
  assumption

theorem State.crossDone_kept {kb : Bool} {ka : State} {s : State} {e : Nat} {i : Nat} {cycles : Nat} (h1 : Kept kb ka s) :
    Kept kb ka (State.crossDone s e i cycles) := by
  unfold State.crossDone
  split
  · rename_i v1 v2
    assumption
  · rename_i v3 v4 v5
    have g1 : Kept kb ka v4 := by
      refine OptKept.some v5 ?_
      refine State.outDone_kept ?_
      assumption
    refine State.crossMeasure_kept ?_
    assumption

theorem atomicRow_kept {kb : Bool} {ka : State} {kind : Nat} {e : EngId} {u : Fin 2} {a : Word} {s : State} (h5 : Kept kb ka s) :
    OutKept kb ka (atomicRow kind e u a s) := by
  unfold atomicRow
  refine OutKept.mk ?_
  refine State.opRow_kept ?_ ?_
  · assumption
  · refine atomicOp_kept ?_
    assumption

theorem execSc_kept {kb : Bool} {ka : State} {e : EngId} {u : Fin 2} {a : Word} {s : State} (h4 : Kept kb ka s) :
    OutKept kb ka (execSc e u a s) := by
  unfold execSc
  refine atomicRow_kept ?_
  assumption

theorem execLdP_kept {kb : Bool} {ka : State} {e : EngId} {u : Fin 2} {t : Word} {s : State} (h4 : Kept kb ka s) :
    OutKept kb ka (execLdP e u t s) := by
  unfold execLdP
  refine lsuIncRow_kept ?_
  assumption

theorem lsuRow_kept {kb : Bool} {ka : State} {i : Nat} {e : EngId} {u : Fin 2} {a : Word} {s : State} (h5 : Kept kb ka s) :
    OutKept kb ka (lsuRow i e u a s) := by
  unfold lsuRow
  refine OutKept.mk ?_
  refine State.opRow_kept ?_ ?_
  · assumption
  · refine OpOut.spad_kept ?_
    refine lsuForm_kept ?_
    assumption

theorem execStoreDrain_kept {kb : Bool} {ka : State} {e : EngId} {i : Nat} {s : State} (h3 : Kept kb ka s) :
    OutKept kb ka (execStoreDrain e i s) := by
  unfold execStoreDrain
  refine OutKept.mk ?_
  refine State.storeDrain_kept ?_
  assumption

theorem execTas_kept {kb : Bool} {ka : State} {e : EngId} {u : Fin 2} {a : Word} {s : State} (h4 : Kept kb ka s) :
    OutKept kb ka (execTas e u a s) := by
  unfold execTas
  refine atomicRow_kept ?_
  assumption

theorem execSt2_kept {kb : Bool} {ka : State} {e : EngId} {u : Fin 2} {a : Word} {s : State} (h4 : Kept kb ka s) :
    OutKept kb ka (execSt2 e u a s) := by
  unfold execSt2
  refine lsuRow_kept ?_
  assumption

theorem execLdhuP_kept {kb : Bool} {ka : State} {e : EngId} {u : Fin 2} {t : Word} {s : State} (h4 : Kept kb ka s) :
    OutKept kb ka (execLdhuP e u t s) := by
  unfold execLdhuP
  refine lsuIncRow_kept ?_
  assumption

theorem execLd_kept {kb : Bool} {ka : State} {e : EngId} {u : Fin 2} {a : Word} {s : State} (h4 : Kept kb ka s) :
    OutKept kb ka (execLd e u a s) := by
  unfold execLd
  refine lsuRow_kept ?_
  assumption

theorem execLdh_kept {kb : Bool} {ka : State} {e : EngId} {u : Fin 2} {a : Word} {s : State} (h4 : Kept kb ka s) :
    OutKept kb ka (execLdh e u a s) := by
  unfold execLdh
  refine lsuRow_kept ?_
  assumption

theorem execLdhu_kept {kb : Bool} {ka : State} {e : EngId} {u : Fin 2} {a : Word} {s : State} (h4 : Kept kb ka s) :
    OutKept kb ka (execLdhu e u a s) := by
  unfold execLdhu
  refine lsuRow_kept ?_
  assumption

theorem execLdb_kept {kb : Bool} {ka : State} {e : EngId} {u : Fin 2} {a : Word} {s : State} (h4 : Kept kb ka s) :
    OutKept kb ka (execLdb e u a s) := by
  unfold execLdb
  refine lsuRow_kept ?_
  assumption

theorem execLdbu_kept {kb : Bool} {ka : State} {e : EngId} {u : Fin 2} {a : Word} {s : State} (h4 : Kept kb ka s) :
    OutKept kb ka (execLdbu e u a s) := by
  unfold execLdbu
  refine lsuRow_kept ?_
  assumption

theorem execLd2_kept {kb : Bool} {ka : State} {e : EngId} {u : Fin 2} {a : Word} {s : State} (h4 : Kept kb ka s) :
    OutKept kb ka (execLd2 e u a s) := by
  unfold execLd2
  refine lsuRow_kept ?_
  assumption

theorem execSt_kept {kb : Bool} {ka : State} {e : EngId} {u : Fin 2} {a : Word} {s : State} (h4 : Kept kb ka s) :
    OutKept kb ka (execSt e u a s) := by
  unfold execSt
  refine lsuRow_kept ?_
  assumption

theorem execSth_kept {kb : Bool} {ka : State} {e : EngId} {u : Fin 2} {a : Word} {s : State} (h4 : Kept kb ka s) :
    OutKept kb ka (execSth e u a s) := by
  unfold execSth
  refine lsuRow_kept ?_
  assumption

theorem execStb_kept {kb : Bool} {ka : State} {e : EngId} {u : Fin 2} {a : Word} {s : State} (h4 : Kept kb ka s) :
    OutKept kb ka (execStb e u a s) := by
  unfold execStb
  refine lsuRow_kept ?_
  assumption

theorem execStP_kept {kb : Bool} {ka : State} {e : EngId} {u : Fin 2} {t : Word} {s : State} (h4 : Kept kb ka s) :
    OutKept kb ka (execStP e u t s) := by
  unfold execStP
  refine lsuIncRow_kept ?_
  assumption

theorem execStbP_kept {kb : Bool} {ka : State} {e : EngId} {u : Fin 2} {t : Word} {s : State} (h4 : Kept kb ka s) :
    OutKept kb ka (execStbP e u t s) := by
  unfold execStbP
  refine lsuIncRow_kept ?_
  assumption

theorem execLr_kept {kb : Bool} {ka : State} {e : EngId} {u : Fin 2} {a : Word} {s : State} (h4 : Kept kb ka s) :
    OutKept kb ka (execLr e u a s) := by
  unfold execLr
  refine atomicRow_kept ?_
  assumption

theorem execGlobalStoreAck_kept {kb : Bool} {ka : State} {e : EngId} {i : Nat} {s : State} (h3 : Kept kb ka s) :
    OutKept kb ka (execGlobalStoreAck e i s) := by
  unfold execGlobalStoreAck
  refine OutKept.mk ?_
  refine OptKept.getD ?_ ?_
  · refine State.outDone_kept ?_
    assumption
  · assumption

theorem execCrossSectionStoreDone_kept {kb : Bool} {ka : State} {e : EngId} {i : Nat} {cycles : Nat} {s : State} (h4 : Kept kb ka s) :
    OutKept kb ka (execCrossSectionStoreDone e i cycles s) := by
  unfold execCrossSectionStoreDone
  refine OutKept.mk ?_
  refine State.crossDone_kept ?_
  assumption

end Sys2Proof.Machine
end

