-- ==== Sys2Proof/Laws/KeptFence.lean ====
section
/-! SUPPORT. What each operation of Machine/Fence.lean keeps (Laws/Kept.lean). -/

set_option maxRecDepth 4000

namespace Sys2Proof.Machine

theorem State.drainSb_kept {kb : Bool} {ka : State} {s : State} {n : Nat} {i : Nat} {o3 : Nat} (h1 : Kept kb ka s) :
    Kept kb ka (State.drainSb s n i o3) := by
  unfold State.drainSb
  split
  · rename_i v1
    assumption
  · rename_i v2 v3
    refine Kept.dite (fun _ => ?_) (fun _ => ?_)
    · refine State.drainSb_kept ?_
      assumption
    · refine State.drainSb_kept ?_
      refine State.drainOut_kept ?_
      assumption

theorem State.crossTime_kept {kb : Bool} {ka : State} {s : State} {n : Nat} {cross : Bool} (h1 : Kept kb ka s) :
    Kept kb ka (State.crossTime s n cross) := by
  unfold State.crossTime
  extract_lets y1
  have g1 : Kept kb ka y1.2 := by
    unfold y1
    refine State.drawNat_kept ?_
    assumption
  clear_value y1
  refine Kept.dite (fun _ => ?_) (fun _ => ?_)
  · refine State.crossMeasure_kept ?_
    assumption
  · assumption

theorem State.outAll_kept {kb : Bool} {ka : State} {s : State} {n : Nat} (h1 : Kept kb ka s) :
    Kept kb ka (State.outAll s n) := by
  unfold State.outAll
  extract_lets y1
  clear_value y1
  refine Kept.foldl (fun st1 x1 g1 => ?_) ?_
  · refine State.crossTime_kept ?_
    refine State.performStore_kept ?_
    assumption
  · refine State.setEngine_kept ?_
    assumption

theorem State.sbAll_kept {kb : Bool} {ka : State} {s : State} {n : Nat} {o2 : Nat} (h1 : Kept kb ka s) :
    Kept kb ka (State.sbAll s n o2) := by
  unfold State.sbAll
  split
  · rename_i v1
    assumption
  · rename_i v2 v3
    refine State.sbAll_kept ?_
    refine State.drainOut_kept ?_
    refine State.outAll_kept ?_
    assumption

theorem State.drainAll_kept {kb : Bool} {ka : State} {s : State} {n : Nat} (h1 : Kept kb ka s) :
    Kept kb ka (State.drainAll s n) := by
  unfold State.drainAll
  extract_lets y1
  have g1 : Kept kb ka y1 := by
    unfold y1
    refine State.modEngine_kept ?_
    assumption
  clear_value y1
  refine State.outAll_kept ?_
  refine State.sbAll_kept ?_
  assumption

theorem State.fenceEngine_kept {kb : Bool} {ka : State} {s : State} {n : Nat} (h1 : Kept kb ka s) :
    Kept kb ka (State.fenceEngine s n) := by
  unfold State.fenceEngine
  extract_lets y1 y2 y3 y4 y5 y6 y7 y8 y9 y10
  clear_value y1
  have g1 : Kept kb ka y2 := by
    unfold y2
    refine State.drainAll_kept ?_
    assumption
  clear_value y2
  have g2 : Kept kb ka y3 := by
    unfold y3
    refine State.dmaAbort_kept ?_
    assumption
  clear_value y3
  have g3 : Kept kb ka y4 := by
    unfold y4
    refine State.orphanSems_kept ?_
    assumption
  clear_value y4
  clear_value y5
  have g4 : Kept kb ka y6 := by
    unfold y6
    refine State.modEngine_kept ?_
    assumption
  clear_value y6
  have g5 : Kept kb ka y7 := by
    unfold y7
    refine State.haltEnded_kept ?_
    assumption
  clear_value y7
  have g6 : Kept kb ka y8 := by
    unfold y8
    refine State.forChannels_kept ?_ ?_
    · assumption
    · intro w1 w2 w3
      refine State.glvOwner_kept ?_
      refine State.glvPark_kept ?_
      assumption
  clear_value y8
  have g7 : Kept kb ka y9 := by
    unfold y9
    refine State.setReg_kept rfl ?_
    assumption
  clear_value y9
  have g8 : Kept kb ka y10 := by
    unfold y10
    refine State.logEvt_kept ?_
    refine State.setB_kept rfl ?_
    assumption
  clear_value y10
  refine Kept.dite (fun _ => ?_) (fun _ => ?_)
  · refine State.setF_kept rfl ?_
    assumption
  · assumption

theorem State.fenceFinish_kept {kb : Bool} {ka : State} {s : State} {k : Nat} (h1 : Kept kb ka s) :
    Kept kb ka (State.fenceFinish s k) := by
  unfold State.fenceFinish
  split
  · rename_i v1 v2 v3
    refine State.setF_kept rfl ?_
    refine State.fenceEngine_kept ?_
    refine State.modSect_kept ?_
    assumption
  · rename_i v4 v5
    assumption

theorem execFenceDone_kept {kb : Bool} {ka : State} {k : SectId} {s : State} (h2 : Kept kb ka s) :
    OutKept kb ka (execFenceDone k s) := by
  unfold execFenceDone
  refine OutKept.mk ?_
  refine State.fenceFinish_kept ?_
  assumption

end Sys2Proof.Machine
end

