-- ==== Sys2Proof/Laws/KeptStm.lean ====
section
/-! SUPPORT. What each operation of Machine/Stm.lean keeps (Laws/Kept.lean). -/

set_option maxRecDepth 4000

namespace Sys2Proof.Machine

theorem State.stmSave_kept {kb : Bool} {ka : State} {s : State} {e : Nat} {a : Nat} (h1 : Kept kb ka s) :
    Kept kb ka (State.stmSave s e a) := by
  unfold State.stmSave
  refine State.setWords_kept ?_
  assumption

theorem State.stmRestore_kept {kb : Bool} {ka : State} {s : State} {e : Nat} {a : Nat} (h1 : Kept kb ka s) :
    Kept kb ka (State.stmRestore s e a) := by
  unfold State.stmRestore
  extract_lets y1 y2 y3 y4
  clear_value y1
  have g1 : Kept kb ka y2 := by
    unfold y2
    refine State.softReads_kept ?_
    assumption
  clear_value y2
  clear_value y3
  clear_value y4
  split
  · rename_i v1 v2 v3
    refine State.modEngine_kept ?_
    refine State.eccUncorrectable_kept ?_
    assumption
  · rename_i v4 v5
    refine State.modEngine_kept ?_
    assumption

theorem State.stmAccept_kept {kb : Bool} {ka : State} {s : State} {e : Nat} {i : Nat} {src : Word} {dst : Word} {o : Word} {t : Word} (h1 : Kept kb ka s) :
    Kept kb ka (State.stmAccept s e i src dst o t) := by
  unfold State.stmAccept
  refine Kept.dite (fun _ => ?_) (fun _ => ?_)
  · refine Kept.dite (fun _ => ?_) (fun _ => ?_)
    · assumption
    · refine State.modEngine_kept ?_
      assumption
  · refine Kept.dite (fun _ => ?_) (fun _ => ?_)
    · refine State.stmSave_kept ?_
      assumption
    · refine State.stmRestore_kept ?_
      assumption

theorem stmOp_kept {kb : Bool} {ka : State} {i : Nat} {s : State} {e : Nat} {t : Word} (h2 : Kept kb ka s) :
    OpKept kb ka (stmOp i s e t) := by
  unfold stmOp
  extract_lets y1 y2 y3 y4 y5
  clear_value y1
  clear_value y2
  clear_value y3
  clear_value y4
  clear_value y5
  split
  · rename_i v1 v2
    exact True.intro
  · rename_i v3
    refine OpKept.dite (fun _ => ?_) (fun _ => ?_)
    · exact True.intro
    · refine OpKept.dite (fun _ => ?_) (fun _ => ?_)
      · exact True.intro
      · refine OpOut.plain_kept ?_
        refine State.stmAccept_kept ?_
        assumption

theorem execSave_kept {kb : Bool} {ka : State} {e : EngId} {t : Word} {s : State} (h3 : Kept kb ka s) :
    OutKept kb ka (execSave e t s) := by
  unfold execSave
  refine OutKept.mk ?_
  refine State.opRow_kept ?_ ?_
  · assumption
  · refine stmOp_kept ?_
    assumption

theorem State.stmStep_kept {kb : Bool} {ka : State} {s : State} {e : Nat} (h1 : Kept kb ka s) :
    Kept kb ka (State.stmStep s e) := by
  unfold State.stmStep
  extract_lets y1 y2 y3 y4 y5 y6 y7 y8 y9 y10
  clear_value y1
  clear_value y2
  clear_value y3
  clear_value y5
  clear_value y6
  clear_value y7
  clear_value y8
  clear_value y9
  have g1 : Kept kb ka y10 := by
    unfold y10
    refine Kept.dite (fun _ => ?_) (fun _ => ?_)
    · refine State.softRead_kept ?_
      assumption
    · assumption
  clear_value y10
  refine Kept.dite (fun _ => ?_) (fun _ => ?_)
  · assumption
  · refine Kept.dite (fun _ => ?_) (fun _ => ?_)
    · refine State.modEngine_kept ?_
      assumption
    · refine Kept.dite (fun _ => ?_) (fun _ => ?_)
      · refine State.modEngine_kept ?_
        refine State.eccUncorrectable_kept ?_
        assumption
      · refine State.modEngine_kept ?_
        refine State.setWord_kept ?_
        assumption

theorem State.stmRun_kept {kb : Bool} {ka : State} {s : State} {e : Nat} {o2 : Nat} (h1 : Kept kb ka s) :
    Kept kb ka (State.stmRun s e o2) := by
  unfold State.stmRun
  split
  · rename_i v1
    assumption
  · rename_i v2 v3
    refine Kept.dite (fun _ => ?_) (fun _ => ?_)
    · assumption
    · refine State.stmRun_kept ?_
      refine State.stmStep_kept ?_
      assumption

theorem State.stmNext_kept {kb : Bool} {ka : State} {s : State} {e : Nat} (h1 : Kept kb ka s) :
    Kept kb ka (State.stmNext s e) := by
  unfold State.stmNext
  extract_lets y1
  clear_value y1
  split
  · rename_i v1 v2 v3 v4
    refine Kept.dite (fun _ => ?_) (fun _ => ?_)
    · assumption
    · refine State.stmAccept_kept ?_
      refine State.setEngine_kept ?_
      assumption
  · rename_i v5 v6 v7
    assumption

theorem State.stmDeliver_kept {kb : Bool} {ka : State} {s : State} {e : Nat} (h1 : Kept kb ka s) :
    OptKept kb ka (State.stmDeliver s e) := by
  unfold State.stmDeliver
  extract_lets y1
  clear_value y1
  split
  · rename_i v1 v2 v3 v4
    refine OptKept.dite (fun _ => ?_) (fun _ => ?_)
    · exact True.intro
    · refine State.longopFault_kept ?_
      refine State.setEngine_kept ?_
      assumption
  · rename_i v5 v6 v7
    exact True.intro

theorem execRestore_kept {kb : Bool} {ka : State} {e : EngId} {t : Word} {s : State} (h3 : Kept kb ka s) :
    OutKept kb ka (execRestore e t s) := by
  unfold execRestore
  refine OutKept.mk ?_
  refine State.opRow_kept ?_ ?_
  · assumption
  · refine stmOp_kept ?_
    assumption

theorem execGath_kept {kb : Bool} {ka : State} {e : EngId} {t : Word} {s : State} (h3 : Kept kb ka s) :
    OutKept kb ka (execGath e t s) := by
  unfold execGath
  refine OutKept.mk ?_
  refine State.opRow_kept ?_ ?_
  · assumption
  · refine stmOp_kept ?_
    assumption

theorem State.stmStop_kept {kb : Bool} {ka : State} {s : State} {e : Nat} {ecc : Bool} (h1 : Kept kb ka s) :
    Kept kb ka (State.stmStop s e ecc) := by
  unfold State.stmStop
  extract_lets y1 y2 y3 y4
  clear_value y1
  clear_value y3
  have g1 : Kept kb ka y4 := by
    unfold y4
    refine Kept.dite (fun _ => ?_) (fun _ => ?_)
    · refine State.eccUncorrectable_kept ?_
      assumption
    · assumption
  clear_value y4
  refine State.modEngine_kept ?_
  assumption

theorem State.stmComplete_kept {kb : Bool} {ka : State} {s : State} {e : Nat} {stop : Option (Nat × Bool)} (h1 : Kept kb ka s) :
    Kept kb ka (State.stmComplete s e stop) := by
  unfold State.stmComplete
  extract_lets y1 y2 y3 y4
  have g1 : Kept kb ka y3 := by
    unfold y3
    refine State.stmRun_kept ?_
    assumption
  have g2 : Kept kb ka y4 := by
    unfold y4
    split
    · rename_i v1 v2
      refine Kept.dite (fun _ => ?_) (fun _ => ?_)
      · assumption
      · refine State.stmStop_kept ?_
        assumption
    · rename_i v3
      assumption
  refine Kept.dite (fun _ => ?_) (fun _ => ?_)
  · assumption
  · refine Kept.dite (fun _ => ?_) (fun _ => ?_)
    · refine OptKept.getD ?_ ?_
      · refine State.stmDeliver_kept ?_
        assumption
      · refine State.stmNext_kept ?_
        assumption
    · assumption

theorem execStmComplete_kept {kb : Bool} {ka : State} {e : EngId} {stop : Option (Nat × Bool)} {s : State} (h3 : Kept kb ka s) :
    OutKept kb ka (execStmComplete e stop s) := by
  unfold execStmComplete
  refine OutKept.mk ?_
  refine State.stmComplete_kept ?_
  assumption

theorem execCopy_kept {kb : Bool} {ka : State} {e : EngId} {t : Word} {s : State} (h3 : Kept kb ka s) :
    OutKept kb ka (execCopy e t s) := by
  unfold execCopy
  refine OutKept.mk ?_
  refine State.opRow_kept ?_ ?_
  · assumption
  · refine stmOp_kept ?_
    assumption

theorem execFill_kept {kb : Bool} {ka : State} {e : EngId} {t : Word} {s : State} (h3 : Kept kb ka s) :
    OutKept kb ka (execFill e t s) := by
  unfold execFill
  refine OutKept.mk ?_
  refine State.opRow_kept ?_ ?_
  · assumption
  · refine stmOp_kept ?_
    assumption

theorem execIngest_kept {kb : Bool} {ka : State} {e : EngId} {t : Word} {s : State} (h3 : Kept kb ka s) :
    OutKept kb ka (execIngest e t s) := by
  unfold execIngest
  refine OutKept.mk ?_
  refine State.opRow_kept ?_ ?_
  · assumption
  · refine stmOp_kept ?_
    assumption

end Sys2Proof.Machine
end

