-- ==== Sys2Proof/Laws/KeptBoundary.lean ====
section
/-! SUPPORT. What each operation of Machine/Boundary.lean keeps (Laws/Kept.lean). -/

set_option maxRecDepth 4000

namespace Sys2Proof.Machine

theorem State.irqSample_kept {kb : Bool} {ka : State} {s : State} {e : Nat} (h1 : Kept kb ka s) :
    Kept kb ka (State.irqSample s e) := by
  unfold State.irqSample
  extract_lets y1 y2
  clear_value y1
  clear_value y2
  refine State.setEngine_kept ?_
  assumption

theorem State.stmWords_kept {kb : Bool} {ka : State} {s : State} {e : Nat} {c : Nat} (h1 : Kept kb ka s) :
    Kept kb ka (State.stmWords s e c).2 := by
  unfold State.stmWords
  extract_lets y1 y2 y3
  clear_value y1
  clear_value y2
  clear_value y3
  refine Kept.dite2 (fun _ => ?_) (fun _ => ?_)
  · refine Kept.mk2 ?_
    assumption
  · refine Kept.dite2 (fun _ => ?_) (fun _ => ?_)
    · split
      rename_i v1 v2 v3 v4 v5 v6
      have g1 : Kept kb ka v5 := by
        refine Kept.snd v6 ?_
        refine State.drawNat_kept ?_
        assumption
      refine Kept.mk2 ?_
      assumption
    · refine Kept.mk2 ?_
      assumption

theorem State.tickTo_kept {kb : Bool} {ka : State} {s : State} {e : Nat} {c : Nat} (h1 : Kept kb ka s) :
    Kept kb ka (State.tickTo s e c) := by
  unfold State.tickTo
  extract_lets y1 y2 y3 y4
  clear_value y1
  clear_value y2
  clear_value y3
  clear_value y4
  split
  rename_i v1 v2 v3 v4
  have g1 : Kept kb ka v3 := by
    refine Kept.snd v4 ?_
    refine Kept.dite2 (fun _ => ?_) (fun _ => ?_)
    · refine State.stmWords_kept ?_
      assumption
    · refine Kept.mk2 ?_
      assumption
  extract_lets y5 y6
  have g2 : Kept kb ka y5 := by
    unfold y5
    refine State.setEngine_kept ?_
    assumption
  clear_value y5
  have g3 : Kept kb ka y6 := by
    unfold y6
    refine State.stmRun_kept ?_
    assumption
  clear_value y6
  refine Kept.dite (fun _ => ?_) (fun _ => ?_)
  · assumption
  · refine Kept.dite (fun _ => ?_) (fun _ => ?_)
    · refine State.stmNext_kept ?_
      assumption
    · assumption

theorem State.tick_kept {kb : Bool} {ka : State} {s : State} {e : Nat} (h1 : Kept kb ka s) :
    Kept kb ka (State.tick s e) := by
  unfold State.tick
  extract_lets y1
  clear_value y1
  split
  · rename_i v1 v2 v3 v4 v5
    refine Kept.dite (fun _ => ?_) (fun _ => ?_)
    · refine State.tickTo_kept ?_
      refine State.csrSettle_kept ?_
      refine State.tickTo_kept ?_
      assumption
    · refine State.tickTo_kept ?_
      assumption
  · rename_i v6 v7
    refine State.tickTo_kept ?_
    assumption

theorem State.atBoundary_kept {kb : Bool} {ka : State} {s : State} {e : Nat} (h1 : Kept kb ka s) :
    Kept kb ka (State.atBoundary s e) := by
  unfold State.atBoundary
  refine State.irqSample_kept ?_
  refine State.modEngine_kept ?_
  refine State.tick_kept ?_
  assumption

theorem execTimerExpire_kept {kb : Bool} {ka : State} {e : EngId} {n : Fin 2} {s : State} (h3 : Kept kb ka s) :
    OutKept kb ka (execTimerExpire e n s) := by
  unfold execTimerExpire
  extract_lets y1 y2
  clear_value y1
  clear_value y2
  split
  · rename_i v1
    refine OutKept.mk ?_
    refine State.setEngine_kept ?_
    assumption
  · rename_i v2
    refine OutKept.mk ?_
    assumption

theorem execWatchdogExpire_kept {kb : Bool} {ka : State} {e : EngId} {s : State} (h2 : Kept kb ka s) :
    OutKept kb ka (execWatchdogExpire e s) := by
  unfold execWatchdogExpire
  extract_lets y1
  clear_value y1
  split
  · rename_i v1
    refine OutKept.mk ?_
    refine State.setEngine_kept ?_
    assumption
  · rename_i v2
    refine OutKept.mk ?_
    assumption

end Sys2Proof.Machine
end

