-- ==== Sys2Proof/Laws/KeptComplete.lean ====
section
/-! SUPPORT. What each operation of Machine/Complete.lean keeps (Laws/Kept.lean). -/

set_option maxRecDepth 4000

namespace Sys2Proof.Machine

theorem State.endframeDone_kept {kb : Bool} {ka : State} {s : State} {e : Nat} (h1 : Kept kb ka s) :
    Kept kb ka (State.endframeDone s e) := by
  unfold State.endframeDone
  extract_lets y1 y2
  have g1 : Kept kb ka y1 := by
    unfold y1
    refine State.atBoundary_kept ?_
    assumption
  clear_value y1
  clear_value y2
  refine Kept.dite (fun _ => ?_) (fun _ => ?_)
  · refine Kept.dite (fun _ => ?_) (fun _ => ?_)
    · refine State.fpShortFault_kept ?_
      assumption
    · split
      · rename_i v1 v2 v3 v4 v5
        refine State.takeTrap_kept ?_
        assumption
      · rename_i v6 v7 v8 v9
        refine State.setEngine_kept ?_
        assumption
  · assumption

theorem State.endframeComplete_kept {kb : Bool} {ka : State} {s : State} {e : Nat} (h1 : Kept kb ka s) :
    Kept kb ka (State.endframeComplete s e) := by
  unfold State.endframeComplete
  extract_lets y1
  have g1 : Kept kb ka y1 := by
    unfold y1
    refine State.endframeDone_kept ?_
    assumption
  clear_value y1
  refine Kept.dite (fun _ => ?_) (fun _ => ?_)
  · refine State.modSect_kept ?_
    assumption
  · assumption

theorem State.loadEccFault_kept {kb : Bool} {ka : State} {s : State} {e : Nat} {u : Nat} {i : Nat} {l : Load} {k : Nat} (h1 : Kept kb ka s) :
    Kept kb ka (State.loadEccFault s e u i l k) := by
  unfold State.loadEccFault
  extract_lets y1 y2
  have g1 : Kept kb ka y1 := by
    unfold y1
    refine Kept.dite (fun _ => ?_) (fun _ => ?_)
    · assumption
    · refine State.eccUncorrectable_kept ?_
      assumption
  clear_value y1
  have g2 : Kept kb ka y2 := by
    unfold y2
    refine State.modEngine_kept ?_
    assumption
  clear_value y2
  refine Kept.dite (fun _ => ?_) (fun _ => ?_)
  · refine State.modEngine_kept ?_
    assumption
  · refine Kept.dite (fun _ => ?_) (fun _ => ?_)
    · assumption
    · refine State.faultEntry_kept ?_
      refine State.atBoundary_kept ?_
      assumption

theorem State.loadRead_kept {kb : Bool} {ka : State} {s : State} {e : Nat} {u : Nat} {i : Nat} {l : Load} {ecc : Ecc} (h1 : Kept kb ka s) :
    Kept kb ka (State.loadRead s e u i l ecc) := by
  unfold State.loadRead
  split
  · rename_i v1 v2 v3 v4 v5
    split
    · rename_i v6 v7 v8 v9
      have g1 : Kept kb ka v8 := by
        refine Kept.snd v9 ?_
        refine State.loadPart_kept ?_
        assumption
      refine State.loadEccFault_kept ?_
      assumption
    · rename_i v10 v11 v12 v13
      have g2 : Kept kb ka v12 := by
        refine Kept.snd v13 ?_
        refine State.loadPart_kept ?_
        assumption
      refine State.modEngine_kept ?_
      assumption
  · rename_i v14 v15 v16 v17 v18 v19
    split
    · rename_i v20 v21 v22 v23
      have g3 : Kept kb ka v22 := by
        refine Kept.snd v23 ?_
        refine State.loadPart_kept ?_
        assumption
      refine State.loadEccFault_kept ?_
      assumption
    · rename_i v24 v25 v26 v27
      have g4 : Kept kb ka v26 := by
        refine Kept.snd v27 ?_
        refine State.loadPart_kept ?_
        assumption
      refine State.modEngine_kept ?_
      assumption
  · rename_i v28 v29 v30
    split
    · rename_i v31 v32 v33 v34
      have g5 : Kept kb ka v33 := by
        refine Kept.snd v34 ?_
        refine State.loadPart_kept ?_
        assumption
      refine State.loadEccFault_kept ?_
      assumption
    · rename_i v35 v36 v37 v38
      have g6 : Kept kb ka v37 := by
        refine Kept.snd v38 ?_
        refine State.loadPart_kept ?_
        assumption
      refine State.modEngine_kept ?_
      assumption

theorem State.atomicRead_kept {kb : Bool} {ka : State} {s : State} {e : Nat} {u : Nat} {i : Nat} {l : Load} {ecc : Ecc} (h1 : Kept kb ka s) :
    Kept kb ka (State.atomicRead s e u i l ecc) := by
  unfold State.atomicRead
  extract_lets y1
  have g1 : Kept kb ka y1 := by
    unfold y1
    refine State.softReads_kept ?_
    refine State.eccSeen_kept ?_
    assumption
  clear_value y1
  split
  · rename_i v1 v2 v3
    refine State.loadEccFault_kept ?_
    assumption
  · rename_i v4 v5
    split
    rename_i v6 v7 v8 v9
    have g2 : Kept kb ka v8 := by
      refine Kept.snd v9 ?_
      refine State.atomicPerform_kept ?_
      assumption
    refine State.modEngine_kept ?_
    assumption

theorem State.loadComplete_kept {kb : Bool} {ka : State} {s : State} {e : Nat} {u : Nat} {i : Nat} {ecc : Ecc} (h1 : Kept kb ka s) :
    Kept kb ka (State.loadComplete s e u i ecc) := by
  unfold State.loadComplete
  extract_lets y1
  clear_value y1
  split
  · rename_i v1 v2
    assumption
  · rename_i v3 v4 v5
    refine Kept.dite (fun _ => ?_) (fun _ => ?_)
    · assumption
    · refine Kept.dite (fun _ => ?_) (fun _ => ?_)
      · refine State.loadEccFault_kept ?_
        assumption
      · split
        · rename_i v6 v7 v8 v9 v10
          refine Kept.dite (fun _ => ?_) (fun _ => ?_)
          · refine State.setEngine_kept ?_
            assumption
          · refine State.setEngine_kept ?_
            assumption
        · rename_i v11 v12 v13 v14
          refine Kept.dite (fun _ => ?_) (fun _ => ?_)
          · assumption
          · refine Kept.dite (fun _ => ?_) (fun _ => ?_)
            · refine State.loadRead_kept ?_
              assumption
            · refine State.atomicRead_kept ?_
              assumption

theorem State.fenceDone_kept {kb : Bool} {ka : State} {s : State} {e : Nat} (h1 : Kept kb ka s) :
    Kept kb ka (State.fenceDone s e) := by
  unfold State.fenceDone
  split
  · rename_i v1 v2
    assumption
  · rename_i v3 v4 v5
    extract_lets y1 y2 y3
    have g1 : Kept kb ka y1 := by
      unfold y1
      refine State.atBoundary_kept ?_
      assumption
    clear_value y1
    clear_value y2
    clear_value y3
    refine Kept.dite (fun _ => ?_) (fun _ => ?_)
    · assumption
    · refine Kept.dite (fun _ => ?_) (fun _ => ?_)
      · refine State.setEngine_kept ?_
        assumption
      · split
        · rename_i v6 v7 v8 v9 v10
          refine State.takeTrap_kept ?_
          assumption
        · rename_i v11 v12 v13 v14
          refine State.setEngine_kept ?_
          assumption

theorem State.dFill_kept {kb : Bool} {ka : State} {s : State} {e : Nat} {u : Nat} {i : Nat} {way : Nat} {ecc : Ecc} (h1 : Kept kb ka s) :
    Kept kb ka (State.dFill s e u i way ecc) := by
  unfold State.dFill
  extract_lets y1
  clear_value y1
  split
  · rename_i v1 v2
    assumption
  · rename_i v3 v4 v5
    refine Kept.dite (fun _ => ?_) (fun _ => ?_)
    · assumption
    · split
      · rename_i v6 v7 v8
        refine State.setEngine_kept ?_
        assumption
      · rename_i v9 v10 v11 v12
        extract_lets y2 y3 y4 y5 y6
        clear_value y2
        have g1 : Kept kb ka y3 := by
          unfold y3
          refine State.softReads_kept ?_
          refine State.eccSeen_kept ?_
          assumption
        clear_value y3
        clear_value y4
        clear_value y5
        clear_value y6
        refine Kept.dite (fun _ => ?_) (fun _ => ?_)
        · assumption
        · split
          · rename_i v13 v14 v15 v16
            extract_lets y7 y8
            have g2 : Kept kb ka y7 := by
              unfold y7
              refine Kept.dite (fun _ => ?_) (fun _ => ?_)
              · assumption
              · refine State.eccUncorrectable_kept ?_
                assumption
            clear_value y7
            have g3 : Kept kb ka y8 := by
              unfold y8
              refine State.modEngine_kept ?_
              assumption
            clear_value y8
            refine State.loadComplete_kept ?_
            assumption
          · rename_i v17 v18 v19
            split
            · rename_i v20 v21 v22
              refine State.setEngine_kept ?_
              assumption
            · rename_i v23 v24
              refine State.setEngine_kept ?_
              assumption

theorem execLoadComplete_kept {kb : Bool} {ka : State} {e : EngId} {u : Fin 2} {i : Nat} {ecc : Ecc} {s : State} (h5 : Kept kb ka s) :
    OutKept kb ka (execLoadComplete e u i ecc s) := by
  unfold execLoadComplete
  refine OutKept.mk ?_
  refine State.loadComplete_kept ?_
  assumption

theorem execEndframeComplete_kept {kb : Bool} {ka : State} {e : EngId} {s : State} (h2 : Kept kb ka s) :
    OutKept kb ka (execEndframeComplete e s) := by
  unfold execEndframeComplete
  refine OutKept.mk ?_
  refine State.endframeComplete_kept ?_
  assumption

theorem execDcacheFill_kept {kb : Bool} {ka : State} {e : EngId} {u : Fin 2} {i : Nat} {way : Fin 2} {ecc : Ecc} {s : State} (h6 : Kept kb ka s) :
    OutKept kb ka (execDcacheFill e u i way ecc s) := by
  unfold execDcacheFill
  refine OutKept.mk ?_
  refine State.dFill_kept ?_
  assumption

theorem execFenceComplete_kept {kb : Bool} {ka : State} {e : EngId} {s : State} (h2 : Kept kb ka s) :
    OutKept kb ka (execFenceComplete e s) := by
  unfold execFenceComplete
  refine OutKept.mk ?_
  refine State.fenceDone_kept ?_
  assumption

end Sys2Proof.Machine
end

