-- ==== Sys2Proof/Laws/KeptIssue.lean ====
section
/-! SUPPORT. What each operation of Machine/Issue.lean keeps (Laws/Kept.lean). -/

set_option maxRecDepth 4000

namespace Sys2Proof.Machine

theorem State.haltNow_kept {kb : Bool} {ka : State} {s : State} {e : Nat} (h1 : Kept kb ka s) :
    Kept kb ka (State.haltNow s e) := by
  unfold State.haltNow
  refine Kept.dite (fun _ => ?_) (fun _ => ?_)
  · refine State.haltTake_kept ?_
    refine State.atBoundary_kept ?_
    assumption
  · assumption

theorem execHalt_kept {kb : Bool} {ka : State} {e : EngId} {s : State} (h2 : Kept kb ka s) :
    OutKept kb ka (execHalt e s) := by
  unfold execHalt
  refine OutKept.mk ?_
  refine State.haltNow_kept ?_
  assumption

theorem opAt_kept {kb : Bool} {ka : State} {k : Nat} {nx : Nat} {s : State} {e : Nat} {t : Word} (h3 : Kept kb ka s) :
    OpKept kb ka (opAt k nx s e t) := by
  unfold opAt
  extract_lets y1 y2 y3
  refine OpKept.dite (fun _ => ?_) (fun _ => ?_)
  · refine aluOp_kept ?_
    assumption
  · refine OpKept.dite (fun _ => ?_) (fun _ => ?_)
    · refine aluOp_kept ?_
      assumption
    · refine OpKept.dite (fun _ => ?_) (fun _ => ?_)
      · refine bfuOp_kept ?_
        assumption
      · refine OpKept.dite (fun _ => ?_) (fun _ => ?_)
        · refine mulOp_kept ?_
          assumption
        · refine OpKept.dite (fun _ => ?_) (fun _ => ?_)
          · refine divTrig_kept ?_
            assumption
          · refine OpKept.dite (fun _ => ?_) (fun _ => ?_)
            · refine macAt_kept ?_
              assumption
            · refine OpKept.dite (fun _ => ?_) (fun _ => ?_)
              · refine fpuOp_kept ?_
                assumption
              · refine OpKept.dite (fun _ => ?_) (fun _ => ?_)
                · refine fplTrig_kept ?_
                  assumption
                · refine OpKept.dite (fun _ => ?_) (fun _ => ?_)
                  · refine fpuOp_kept ?_
                    assumption
                  · refine OpKept.dite (fun _ => ?_) (fun _ => ?_)
                    · refine OpOut.spad_kept ?_
                      refine lsuForm_kept ?_
                      assumption
                    · refine OpKept.dite (fun _ => ?_) (fun _ => ?_)
                      · refine OpOut.spad_kept ?_
                        refine atomicOp_kept ?_
                        assumption
                      · refine OpKept.dite (fun _ => ?_) (fun _ => ?_)
                        · refine lsuInc_kept ?_
                          assumption
                        · refine OpKept.dite (fun _ => ?_) (fun _ => ?_)
                          · refine OpOut.spad_kept ?_
                            refine lsuForm_kept ?_
                            assumption
                          · refine OpKept.dite (fun _ => ?_) (fun _ => ?_)
                            · refine OpOut.spad_kept ?_
                              refine atomicOp_kept ?_
                              assumption
                            · refine OpKept.dite (fun _ => ?_) (fun _ => ?_)
                              · refine lsuInc_kept ?_
                                assumption
                              · refine OpKept.dite (fun _ => ?_) (fun _ => ?_)
                                · refine branchOp_kept ?_
                                  assumption
                                · refine OpKept.dite (fun _ => ?_) (fun _ => ?_)
                                  · refine fenceOp_kept ?_
                                    assumption
                                  · refine OpKept.dite (fun _ => ?_) (fun _ => ?_)
                                    · refine fenceOp_kept ?_
                                      assumption
                                    · refine OpKept.dite (fun _ => ?_) (fun _ => ?_)
                                      · refine fenceOp_kept ?_
                                        assumption
                                      · refine OpKept.dite (fun _ => ?_) (fun _ => ?_)
                                        · refine isyncOp_kept ?_
                                          assumption
                                        · refine OpKept.dite (fun _ => ?_) (fun _ => ?_)
                                          · refine csrrOp_kept ?_
                                            assumption
                                          · refine OpKept.dite (fun _ => ?_) (fun _ => ?_)
                                            · refine csrwOp_kept ?_
                                              assumption
                                            · refine OpKept.dite (fun _ => ?_) (fun _ => ?_)
                                              · refine endframeOp_kept ?_
                                                assumption
                                              · refine OpKept.dite (fun _ => ?_) (fun _ => ?_)
                                                · refine stmOp_kept ?_
                                                  assumption
                                                · split
                                                  · rename_i v1 v2 v3 v4 v5 v6 v7 v8 v9 v10 v11 v12 v13 v14 v15 v16 v17 v18 v19 v20 v21 v22 v23 v24 v25
                                                    refine chioRdOp_kept ?_
                                                    assumption
                                                  · rename_i v26 v27 v28 v29 v30 v31 v32 v33 v34 v35 v36 v37 v38 v39 v40 v41 v42 v43 v44 v45 v46 v47 v48 v49 v50
                                                    refine chioWrOp_kept ?_
                                                    assumption
                                                  · rename_i v51 v52 v53 v54 v55 v56 v57 v58 v59 v60 v61 v62 v63 v64 v65 v66 v67 v68 v69 v70 v71 v72 v73 v74 v75
                                                    refine chioPopOp_kept ?_
                                                    assumption
                                                  · rename_i v76 v77 v78 v79 v80 v81 v82 v83 v84 v85 v86 v87 v88 v89 v90 v91 v92 v93 v94 v95 v96 v97 v98 v99 v100
                                                    refine chioPopOp_kept ?_
                                                    assumption
                                                  · rename_i v101 v102 v103 v104 v105 v106 v107 v108 v109 v110 v111 v112 v113 v114 v115 v116 v117 v118 v119 v120 v121 v122 v123 v124 v125
                                                    refine chioPushOp_kept ?_
                                                    assumption
                                                  · rename_i v126 v127 v128 v129 v130 v131 v132 v133 v134 v135 v136 v137 v138 v139 v140 v141 v142 v143 v144 v145 v146 v147 v148 v149 v150
                                                    refine chioOccOp_kept ?_
                                                    assumption
                                                  · rename_i v151 v152 v153 v154 v155 v156 v157 v158 v159 v160 v161 v162 v163 v164 v165 v166 v167 v168 v169 v170 v171 v172 v173 v174 v175 v176 v177 v178 v179 v180 v181
                                                    refine OpOut.plain_kept ?_
                                                    assumption

theorem State.heldFault_kept {kb : Bool} {ka : State} {s : State} {e : Nat} (h1 : Kept kb ka s) :
    OptKept kb ka (State.heldFault s e) := by
  unfold State.heldFault
  split
  · rename_i v1 v2 v3
    have g1 : Kept kb ka v2 := by
      refine OptKept.some v3 ?_
      refine State.fplDeliver_kept ?_
      assumption
    refine OutKept.mk ?_
    assumption
  · rename_i v4 v5
    refine State.stmDeliver_kept ?_
    assumption

theorem State.wdtFault_kept {kb : Bool} {ka : State} {s : State} {e : Nat} (h1 : Kept kb ka s) :
    Kept kb ka (State.wdtFault s e) := by
  unfold State.wdtFault
  extract_lets y1
  clear_value y1
  refine State.faultEntry_kept ?_
  refine State.setEngine_kept ?_
  assumption

theorem State.acceptInt_kept {kb : Bool} {ka : State} {s : State} {e : Nat} {v : Nat} {r : VecRead} (h1 : Kept kb ka s) :
    Kept kb ka (State.acceptInt s e v r) := by
  unfold State.acceptInt
  extract_lets y1
  clear_value y1
  split
  · rename_i v1 v2
    refine State.vectorFail_kept ?_
    assumption
  · rename_i v3 v4
    refine State.enter_kept ?_
    refine State.vectorSeen_kept ?_
    assumption
  · rename_i v5
    assumption

theorem State.boundaryEvent_kept {kb : Bool} {ka : State} {s : State} {e : Nat} (h1 : Kept kb ka s) :
    OptKept kb ka (State.boundaryEvent s e) := by
  unfold State.boundaryEvent
  extract_lets y1 y2
  clear_value y1
  clear_value y2
  refine OptKept.dite (fun _ => ?_) (fun _ => ?_)
  · refine OutKept.mk ?_
    refine State.fpShortFault_kept ?_
    assumption
  · refine OptKept.dite (fun _ => ?_) (fun _ => ?_)
    · refine State.heldFault_kept ?_
      assumption
    · refine OptKept.dite (fun _ => ?_) (fun _ => ?_)
      · exact True.intro
      · refine OptKept.dite (fun _ => ?_) (fun _ => ?_)
        · refine State.fpLongFault_kept ?_
          assumption
        · refine OptKept.dite (fun _ => ?_) (fun _ => ?_)
          · refine State.longopFault_kept ?_
            assumption
          · refine OptKept.dite (fun _ => ?_) (fun _ => ?_)
            · refine OutKept.mk ?_
              refine State.wdtFault_kept ?_
              assumption
            · split
              · rename_i v1 v2 v3 v4 v5 v6 v7 v8 v9
                refine OutKept.mk ?_
                refine State.acceptInt_kept ?_
                assumption
              · rename_i v10 v11 v12 v13 v14 v15 v16
                exact True.intro

theorem State.interruptAccept_kept {kb : Bool} {ka : State} {s : State} {e : Nat} (h1 : Kept kb ka s) :
    Kept kb ka (State.interruptAccept s e) := by
  unfold State.interruptAccept
  extract_lets y1 y2
  have g1 : Kept kb ka y1 := by
    unfold y1
    refine State.atBoundary_kept ?_
    assumption
  clear_value y1
  clear_value y2
  refine Kept.dite (fun _ => ?_) (fun _ => ?_)
  · assumption
  · refine Kept.dite (fun _ => ?_) (fun _ => ?_)
    · assumption
    · refine Kept.dite (fun _ => ?_) (fun _ => ?_)
      · assumption
      · refine OptKept.getD ?_ ?_
        · refine State.boundaryEvent_kept ?_
          assumption
        · assumption

theorem execInterruptAccept_kept {kb : Bool} {ka : State} {e : EngId} {s : State} (h2 : Kept kb ka s) :
    OutKept kb ka (execInterruptAccept e s) := by
  unfold execInterruptAccept
  refine OutKept.mk ?_
  refine State.interruptAccept_kept ?_
  assumption

theorem State.iMiss_kept {kb : Bool} {ka : State} {s : State} {e : Nat} {base : Nat} (h1 : Kept kb ka s) :
    Kept kb ka (State.iMiss s e base) := by
  unfold State.iMiss
  extract_lets y1
  clear_value y1
  refine Kept.dite (fun _ => ?_) (fun _ => ?_)
  · assumption
  · refine State.setEngine_kept ?_
    assumption

theorem State.awaitResults_kept {kb : Bool} {ka : State} {s : State} {e : Nat} {units : List Nat} (h1 : Kept kb ka s) :
    Kept kb ka (State.awaitResults s e units) := by
  unfold State.awaitResults
  extract_lets y1 y2 y3 y4 y5 y6
  clear_value y1
  clear_value y2
  clear_value y3
  clear_value y4
  clear_value y5
  clear_value y6
  refine Kept.dite (fun _ => ?_) (fun _ => ?_)
  · assumption
  · refine State.modEngine_kept ?_
    refine State.countStall_kept ?_
    assumption

theorem State.shortFault_kept {kb : Bool} {ka : State} {s : State} {e : Nat} (h1 : Kept kb ka s) :
    Kept kb ka (State.shortFault s e) := by
  unfold State.shortFault
  extract_lets y1 y2
  have g1 : Kept kb ka y1 := by
    unfold y1
    refine State.atBoundary_kept ?_
    assumption
  clear_value y1
  clear_value y2
  refine Kept.dite (fun _ => ?_) (fun _ => ?_)
  · assumption
  · refine Kept.dite (fun _ => ?_) (fun _ => ?_)
    · assumption
    · refine State.fpShortFault_kept ?_
      assumption

theorem execFpShortFault_kept {kb : Bool} {ka : State} {e : EngId} {s : State} (h2 : Kept kb ka s) :
    OutKept kb ka (execFpShortFault e s) := by
  unfold execFpShortFault
  refine OutKept.mk ?_
  refine State.shortFault_kept ?_
  assumption

theorem State.fetchLogged_kept {kb : Bool} {ka : State} {s : State} {e : Nat} {o2 : Option (Nat × Bool)} (h1 : Kept kb ka s) :
    Kept kb ka (State.fetchLogged s e o2) := by
  unfold State.fetchLogged
  split
  · rename_i v1 v2
    split
    · rename_i v3 v4 v5
      refine State.eccLog_kept ?_
      assumption
    · rename_i v6 v7
      assumption
  · rename_i v8 v9
    refine State.eccUncorrectable_kept ?_
    assumption
  · rename_i v10
    assumption

theorem State.iCorrect_kept {kb : Bool} {ka : State} {s : State} {e : Nat} {k : Nat} (h1 : Kept kb ka s) :
    Kept kb ka (State.iCorrect s e k) := by
  unfold State.iCorrect
  extract_lets y1
  clear_value y1
  refine Kept.dite (fun _ => ?_) (fun _ => ?_)
  · refine State.eccCount_kept ?_
    refine State.setEngine_kept ?_
    assumption
  · assumption

theorem State.fetchSeen_kept {kb : Bool} {ka : State} {s : State} {e : Nat} {p : Nat} {nx : Nat} (h1 : Kept kb ka s) :
    Kept kb ka (State.fetchSeen s e p nx) := by
  unfold State.fetchSeen
  extract_lets y1
  clear_value y1
  refine Kept.dite (fun _ => ?_) (fun _ => ?_)
  · refine State.softReads_kept ?_
    assumption
  · refine Kept.foldl (fun st1 x1 g1 => ?_) ?_
    · refine State.iCorrect_kept ?_
      assumption
    · assumption

theorem State.earlyWait_kept {kb : Bool} {ka : State} {s : State} {e : Nat} {us : List Nat} (h1 : Kept kb ka s) :
    Kept kb ka (State.earlyWait s e us) := by
  unfold State.earlyWait
  refine Kept.dite (fun _ => ?_) (fun _ => ?_)
  · assumption
  · refine State.waitBegin_kept ?_
    refine State.modEngine_kept ?_
    assumption

theorem State.awaitFpl_kept {kb : Bool} {ka : State} {s : State} {e : Nat} (h1 : Kept kb ka s) :
    Kept kb ka (State.awaitFpl s e) := by
  unfold State.awaitFpl
  extract_lets y1
  clear_value y1
  split
  · rename_i v1 v2 v3
    extract_lets y2 y3
    clear_value y2
    have g1 : Kept kb ka y3 := by
      unfold y3
      refine Kept.dite (fun _ => ?_) (fun _ => ?_)
      · assumption
      · refine State.countStall_kept ?_
        assumption
    clear_value y3
    refine State.modEngine_kept ?_
    assumption
  · rename_i v4 v5
    assumption

theorem State.cmpHit_kept {kb : Bool} {ka : State} {s : State} {e : Nat} {c : Nat} (h1 : Kept kb ka s) :
    Kept kb ka (State.cmpHit s e c) := by
  unfold State.cmpHit
  extract_lets y1 y2
  clear_value y1
  have g1 : Kept kb ka y2 := by
    unfold y2
    refine State.setReg_kept rfl ?_
    assumption
  clear_value y2
  refine Kept.dite (fun _ => ?_) (fun _ => ?_)
  · refine State.fireGong_kept ?_
    assumption
  · assumption

theorem State.trigger_kept {kb : Bool} {ka : State} {s : State} {e : Nat} {k : Nat} {nx : Nat} {t : Word} (h1 : Kept kb ka s) :
    Kept kb ka (State.trigger s e k nx t) := by
  unfold State.trigger
  extract_lets y1 y2
  clear_value y1
  clear_value y2
  split
  · rename_i v1 v2 v3
    have g1 : Kept kb ka v2.st := by
      refine OpKept.ok v3 ?_
      refine OpKept.dite (fun _ => ?_) (fun _ => ?_)
      · exact True.intro
      · refine opAt_kept ?_
        assumption
    refine State.modEngine_kept ?_
    assumption
  · rename_i v4 v5 v6
    refine State.waitBegin_kept ?_
    refine State.modEngine_kept ?_
    assumption
  · rename_i v7 v8 v9
    assumption

theorem State.issueGo_kept {kb : Bool} {ka : State} {s : State} {e : Nat} {all : List Move} {ms : List Move} {nx : Nat} (h1 : Kept kb ka s) :
    Kept kb ka (State.issueGo s e all ms nx) := by
  unfold State.issueGo
  extract_lets y1 y2 y3 y4 y5 y6 y7 y8 y9 y10 y11 y12 y13
  clear_value y1
  clear_value y2
  clear_value y3
  clear_value y4
  clear_value y5
  clear_value y6
  clear_value y7
  clear_value y8
  have g1 : Kept kb ka y9 := by
    unfold y9
    refine State.setEngine_kept ?_
    assumption
  clear_value y9
  have g2 : Kept kb ka y10 := by
    unfold y10
    refine Kept.dite (fun _ => ?_) (fun _ => ?_)
    · assumption
    · refine State.modEngine_kept ?_
      refine State.countStall_kept ?_
      assumption
  clear_value y10
  have g3 : Kept kb ka y11 := by
    unfold y11
    refine State.csrSettle_kept ?_
    assumption
  clear_value y11
  have g4 : Kept kb ka y12 := by
    unfold y12
    refine Kept.foldl (fun st1 x1 g5 => ?_) ?_
    · refine Kept.dite (fun _ => ?_) (fun _ => ?_)
      · refine State.trapGo_kept ?_
        assumption
      · refine Kept.dite (fun _ => ?_) (fun _ => ?_)
        · refine State.returnGo_kept ?_
          assumption
        · refine Kept.dite (fun _ => ?_) (fun _ => ?_)
          · refine State.returnGo_kept ?_
            assumption
          · refine State.trigger_kept ?_
            assumption
    · assumption
  clear_value y12
  have g6 : Kept kb ka y13 := by
    unfold y13
    refine State.modEngine_kept ?_
    assumption
  clear_value y13
  refine State.modEngine_kept ?_
  assumption

theorem State.fate_kept {kb : Bool} {ka : State} {s : State} {e : Nat} (h1 : Kept kb ka s) :
    FateKept kb ka (State.fate s e) := by
  unfold State.fate
  split
  · rename_i v1 v2 v3 v4 v5
    refine FateKept.fault ?_ ?_
    · assumption
    · refine State.fetchLogged_kept ?_
      assumption
  · rename_i v6 v7 v8
    refine FateKept.wait ?_
    refine State.iMiss_kept ?_
    assumption
  · rename_i v9 v10 v11 v12 v13
    extract_lets y1 y2 y3 y4 y5 y6 y7 y8 y9 y10 y11 y12 y13 y14 y15 y16 y17
    have g1 : Kept kb ka y1 := by
      unfold y1
      refine State.fetchSeen_kept ?_
      assumption
    clear_value y1
    clear_value y2
    clear_value y3
    clear_value y4
    clear_value y5
    clear_value y6
    have g2 : Kept kb ka y7 := by
      unfold y7
      refine State.awaitResults_kept ?_
      assumption
    clear_value y7
    have g3 : Kept kb ka y8 := by
      unfold y8
      refine Kept.dite (fun _ => ?_) (fun _ => ?_)
      · refine State.awaitFpl_kept ?_
        assumption
      · assumption
    clear_value y8
    clear_value y9
    clear_value y10
    clear_value y11
    unfold y12
    have g4 : Kept kb ka y13 := by
      unfold y13
      refine State.csrSettle_kept ?_
      unfold y12
      refine Kept.dite (fun _ => ?_) (fun _ => ?_)
      · refine State.modEngine_kept ?_
        refine State.setEngine_kept ?_
        assumption
      · refine State.setEngine_kept ?_
        assumption
    clear_value y13
    clear_value y14
    clear_value y15
    clear_value y16
    have g5 : Kept kb ka y17 := by
      unfold y17
      refine Kept.foldl (fun st1 x1 g6 => ?_) ?_
      · refine State.cmpHit_kept ?_
        assumption
      · assumption
    clear_value y17
    refine FateKept.dite (fun _ => ?_) (fun _ => ?_)
    · refine FateKept.fault ?_ ?_
      · assumption
      · assumption
    · refine FateKept.dite (fun _ => ?_) (fun _ => ?_)
      · refine FateKept.wait ?_
        refine State.earlyWait_kept ?_
        assumption
      · refine FateKept.dite (fun _ => ?_) (fun _ => ?_)
        · refine FateKept.wait ?_
          assumption
        · split
          · rename_i v14 v15 v16 v17 v18 v19
            refine FateKept.halt ?_ ?_
            · assumption
            · assumption
          · rename_i v20 v21 v22 v23 v24
            split
            · rename_i v25 v26 v27
              extract_lets y18
              clear_value y18
              refine FateKept.fault ?_ ?_
              · assumption
              · assumption
            · rename_i v28 v29
              split
              · rename_i v30 v31 v32
                refine FateKept.fault ?_ ?_
                · assumption
                · refine State.trapLogged_kept ?_
                  refine Kept.dite (fun _ => ?_) (fun _ => ?_)
                  · refine State.modEngine_kept ?_
                    assumption
                  · assumption
              · rename_i v33 v34
                refine FateKept.issue ?_ ?_
                · assumption
                · refine State.issueGo_kept ?_
                  refine Kept.dite (fun _ => ?_) (fun _ => ?_)
                  · refine State.modEngine_kept ?_
                    assumption
                  · assumption

theorem State.issueSecond_kept {kb : Bool} {ka : State} {s : State} {e : Nat} (h1 : Kept kb ka s) :
    Kept kb ka (State.issueSecond s e) := by
  unfold State.issueSecond
  refine Kept.dite (fun _ => ?_) (fun _ => ?_)
  · assumption
  · split
    · rename_i v1 v2 v3 v4 v5
      have g1 : Kept kb ka v3 := by
        refine FateKept.issuePre (b := kb) (a := ka) v5 ?_
        refine State.fate_kept ?_
        refine State.modEngine_kept ?_
        assumption
      have g2 : Kept kb ka v4 := by
        refine FateKept.issuePost (b := kb) (a := ka) v5 ?_
        refine State.fate_kept ?_
        refine State.modEngine_kept ?_
        assumption
      assumption
    · rename_i v6 v7 v8
      assumption

theorem State.cmpHalt_kept {kb : Bool} {ka : State} {s : State} {e : Nat} {cause : Nat} {comp : Nat} (h1 : Kept kb ka s) :
    Kept kb ka (State.cmpHalt s e cause comp) := by
  unfold State.cmpHalt
  refine State.haltTry_kept ?_
  refine State.modEngine_kept ?_
  refine State.requestHalt_kept ?_
  assumption

theorem State.bundleFault_kept {kb : Bool} {ka : State} {s : State} {e : Nat} {tr : OpTrap} {pre : State} (h1 : Kept kb ka s) (h4 : Kept kb ka pre) :
    Kept kb ka (State.bundleFault s e tr pre) := by
  unfold State.bundleFault
  extract_lets y1
  clear_value y1
  refine Kept.dite (fun _ => ?_) (fun _ => ?_)
  · refine State.fpShortFault_kept ?_
    assumption
  · refine State.takeTrap_kept ?_
    assumption

theorem State.bundleIssue_kept {kb : Bool} {ka : State} {s : State} {e : Nat} {ups : List Upset} (h1 : Kept kb ka s) :
    Kept kb ka (State.bundleIssue s e ups) := by
  unfold State.bundleIssue
  extract_lets y1 y2 y3
  have g1 : Kept kb ka y1 := by
    unfold y1
    refine State.upsetCache_kept ?_
    refine State.upset_kept ?_
    assumption
  clear_value y1
  have g2 : Kept kb ka y2 := by
    unfold y2
    refine State.atBoundary_kept ?_
    assumption
  clear_value y2
  clear_value y3
  refine Kept.dite (fun _ => ?_) (fun _ => ?_)
  · assumption
  · refine Kept.dite (fun _ => ?_) (fun _ => ?_)
    · refine State.haltTake_kept ?_
      assumption
    · refine Kept.dite (fun _ => ?_) (fun _ => ?_)
      · assumption
      · refine Kept.dite (fun _ => ?_) (fun _ => ?_)
        · split
          · rename_i v1 v2 v3 v4 v5 v6 v7
            have g3 : Kept kb ka v6 := by
              refine OptKept.some v7 ?_
              refine State.boundaryEvent_kept ?_
              assumption
            assumption
          · rename_i v8 v9 v10 v11 v12 v13
            refine State.setEngine_kept ?_
            assumption
        · refine Kept.dite (fun _ => ?_) (fun _ => ?_)
          · refine OptKept.getD ?_ ?_
            · refine State.boundaryEvent_kept ?_
              assumption
            · refine State.waitCycle_kept ?_
              assumption
          · refine Kept.dite (fun _ => ?_) (fun _ => ?_)
            · refine State.fpShortFault_kept ?_
              assumption
            · split
              · rename_i v14 v15 v16 v17 v18 v19 v20 v21 v22 v23 v24
                have g4 : Kept kb ka v22 := by
                  refine FateKept.faultPre (b := kb) (a := ka) v24 ?_
                  refine State.fate_kept ?_
                  assumption
                have g5 : Kept kb ka v23 := by
                  refine FateKept.faultPost (b := kb) (a := ka) v24 ?_
                  refine State.fate_kept ?_
                  assumption
                refine State.bundleFault_kept ?_ ?_
                · assumption
                · assumption
              · rename_i v25 v26 v27 v28 v29 v30 v31 v32 v33 v34 v35 v36
                have g6 : Kept kb ka v34 := by
                  refine FateKept.haltPre (b := kb) (a := ka) v36 ?_
                  refine State.fate_kept ?_
                  assumption
                have g7 : Kept kb ka v35 := by
                  refine FateKept.haltPost (b := kb) (a := ka) v36 ?_
                  refine State.fate_kept ?_
                  assumption
                split
                · rename_i v37 v38 v39
                  have g8 : Kept kb ka v34 := by assumption
                  have g9 : Kept kb ka v35 := by assumption
                  have g10 : Kept kb ka v38 := by
                    refine OptKept.some v39 ?_
                    refine State.boundaryEvent_kept ?_
                    assumption
                  assumption
                · rename_i v40 v41
                  have g11 : Kept kb ka v34 := by assumption
                  have g12 : Kept kb ka v35 := by assumption
                  refine State.cmpHalt_kept ?_
                  assumption
              · rename_i v42 v43 v44 v45 v46 v47 v48 v49 v50
                have g13 : Kept kb ka v49 := by
                  refine FateKept.cast (b := kb) (a := ka) v50 ?_
                  refine State.fate_kept ?_
                  assumption
                refine Kept.dite (fun _ => ?_) (fun _ => ?_)
                · assumption
                · refine OptKept.getD ?_ ?_
                  · refine State.boundaryEvent_kept ?_
                    assumption
                  · refine State.waitCycle_kept ?_
                    assumption
              · rename_i v51 v52 v53 v54 v55 v56 v57 v58 v59 v60
                have g14 : Kept kb ka v58 := by
                  refine FateKept.issuePre (b := kb) (a := ka) v60 ?_
                  refine State.fate_kept ?_
                  assumption
                have g15 : Kept kb ka v59 := by
                  refine FateKept.issuePost (b := kb) (a := ka) v60 ?_
                  refine State.fate_kept ?_
                  assumption
                split
                · rename_i v61 v62 v63
                  have g16 : Kept kb ka v58 := by assumption
                  have g17 : Kept kb ka v59 := by assumption
                  have g18 : Kept kb ka v62 := by
                    refine OptKept.some v63 ?_
                    refine State.boundaryEvent_kept ?_
                    assumption
                  assumption
                · rename_i v64 v65
                  have g19 : Kept kb ka v58 := by assumption
                  have g20 : Kept kb ka v59 := by assumption
                  refine Kept.dite (fun _ => ?_) (fun _ => ?_)
                  · refine State.issueSecond_kept ?_
                    assumption
                  · assumption

theorem execBundleIssue_kept {kb : Bool} {ka : State} {e : EngId} {ups : List Upset} {s : State} (h3 : Kept kb ka s) :
    OutKept kb ka (execBundleIssue e ups s) := by
  unfold execBundleIssue
  refine OutKept.mk ?_
  refine State.bundleIssue_kept ?_
  assumption

theorem State.iFill_kept {kb : Bool} {ka : State} {s : State} {e : Nat} {way : Nat} (h1 : Kept kb ka s) :
    Kept kb ka (State.iFill s e way) := by
  unfold State.iFill
  split
  · rename_i v1 v2
    assumption
  · rename_i v3 v4 v5 v6
    extract_lets y1 y2 y3 y4 y5
    have g1 : Kept kb ka y1 := by
      unfold y1
      refine State.softReads_kept ?_
      assumption
    clear_value y1
    have g2 : Kept kb ka y2 := by
      unfold y2
      refine State.modEngine_kept ?_
      assumption
    clear_value y2
    clear_value y3
    clear_value y4
    unfold y5
    refine Kept.dite (fun _ => ?_) (fun _ => ?_)
    · assumption
    · split
      · rename_i v7 v8 v9 v10
        split
        · rename_i v11 v12 v13 v14
          assumption
        · rename_i v15 v16
          refine State.eccUncorrectable_kept ?_
          assumption
      · rename_i v17 v18 v19
        refine State.setEngine_kept ?_
        assumption

theorem execIcacheFill_kept {kb : Bool} {ka : State} {e : EngId} {way : Fin 2} {s : State} (h3 : Kept kb ka s) :
    OutKept kb ka (execIcacheFill e way s) := by
  unfold execIcacheFill
  refine OutKept.mk ?_
  refine Kept.dite (fun _ => ?_) (fun _ => ?_)
  · assumption
  · refine State.iFill_kept ?_
    assumption

end Sys2Proof.Machine
end

