-- ==== Sys2Proof/Laws/KeptLink.lean ====
section
/-! SUPPORT. What each operation of Machine/Link.lean keeps (Laws/Kept.lean). -/

set_option maxRecDepth 4000

namespace Sys2Proof.Machine

theorem State.adaptStep_kept {kb : Bool} {ka : State} {s : State} {n : Nat} {par : AdaptParam} {up : Bool} (h1 : Kept kb ka s) :
    Kept kb ka (State.adaptStep s n par up) := by
  unfold State.adaptStep
  extract_lets y1 y2 y3 y4
  have g1 : Kept kb ka y1 := by
    unfold y1
    refine State.modLn_kept ?_
    assumption
  clear_value y1
  clear_value y2
  clear_value y3
  clear_value y4
  refine Kept.dite (fun _ => ?_) (fun _ => ?_)
  · split
    · rename_i v1 v2
      refine State.setF_kept rfl ?_
      assumption
    · rename_i v3 v4
      refine State.setF_kept rfl ?_
      assumption
    · rename_i v5 v6 v7
      refine State.modLn_kept ?_
      assumption
    · rename_i v8 v9 v10
      refine State.modLn_kept ?_
      assumption
  · assumption

theorem State.setSlot_kept {kb : Bool} {ka : State} {s : State} {c : Nat} {x : Slot} (h1 : Kept kb ka s) :
    Kept kb ka (State.setSlot s c x) := by
  unfold State.setSlot
  refine State.modCh_kept ?_
  assumption

theorem State.slotAll_kept {kb : Bool} {ka : State} {s : State} {n : Nat} {idx : List Nat} {st : BitVec 3} (h1 : Kept kb ka s) :
    Kept kb ka (State.slotAll s n idx st) := by
  unfold State.slotAll
  refine Kept.foldl (fun st1 x1 g1 => ?_) ?_
  · extract_lets y1
    clear_value y1
    refine State.setSlot_kept ?_
    assumption
  · assumption

theorem State.upLost_kept {kb : Bool} {ka : State} {s : State} {n : Nat} {q : Nat} (h1 : Kept kb ka s) :
    Kept kb ka (State.upLost s n q) := by
  unfold State.upLost
  extract_lets y1 y2
  have g1 : Kept kb ka y1 := by
    unfold y1
    refine State.incF_kept rfl ?_
    assumption
  clear_value y1
  have g2 : Kept kb ka y2 := by
    unfold y2
    refine Kept.dite (fun _ => ?_) (fun _ => ?_)
    · refine State.modLn_kept ?_
      assumption
    · assumption
  clear_value y2
  refine State.chioArrivals_kept ?_
  refine State.slotAll_kept ?_
  assumption

theorem State.upKeptOut_kept {kb : Bool} {ka : State} {s : State} {n : Nat} (h1 : Kept kb ka s) :
    Kept kb ka (State.upKeptOut s n) := by
  unfold State.upKeptOut
  refine Kept.dite (fun _ => ?_) (fun _ => ?_)
  · refine Kept.foldl (fun st1 x1 g1 => ?_) ?_
    · extract_lets y1
      clear_value y1
      split
      · rename_i v1 v2 v3 v4 v5
        refine State.upLost_kept ?_
        refine State.setLn_kept ?_
        assumption
      · rename_i v6 v7 v8
        refine State.upLost_kept ?_
        assumption
    · assumption
  · assumption

theorem State.signalIn_kept {kb : Bool} {ka : State} {s : State} {n : Nat} (h1 : Kept kb ka s) :
    Kept kb ka (State.signalIn s n) := by
  unfold State.signalIn
  refine Kept.dite (fun _ => ?_) (fun _ => ?_)
  · refine State.laneGoto_kept ?_
    refine State.setB_kept rfl ?_
    assumption
  · assumption

theorem execLaneQuickRetrain_kept {kb : Bool} {ka : State} {n : LaneId} {s : State} (h2 : Kept kb ka s) :
    OutKept kb ka (execLaneQuickRetrain n s) := by
  unfold execLaneQuickRetrain
  refine OutKept.mk ?_
  refine State.laneCommand_kept ?_
  assumption

theorem State.ackIn_kept {kb : Bool} {ka : State} {s : State} {n : Nat} {seq : Nat} (h1 : Kept kb ka s) :
    Kept kb ka (State.ackIn s n seq) := by
  unfold State.ackIn
  extract_lets y1
  clear_value y1
  split
  · rename_i v1 v2
    assumption
  · rename_i v3 v4 v5
    extract_lets y2 y3 y4 y5 y6
    have g1 : Kept kb ka y3 := by
      unfold y3
      refine State.setLn_kept ?_
      assumption
    clear_value y3
    have g2 : Kept kb ka y4 := by
      unfold y4
      refine Kept.dite (fun _ => ?_) (fun _ => ?_)
      · refine State.setF_kept rfl ?_
        assumption
      · assumption
    clear_value y4
    have g3 : Kept kb ka y5 := by
      unfold y5
      refine Kept.dite (fun _ => ?_) (fun _ => ?_)
      · refine State.modLn_kept ?_
        assumption
      · assumption
    clear_value y5
    have g4 : Kept kb ka y6 := by
      unfold y6
      refine Kept.dite (fun _ => ?_) (fun _ => ?_)
      · refine State.modLn_kept ?_
        assumption
      · assumption
    clear_value y6
    refine State.laneTryReady_kept ?_
    assumption

theorem State.identCheck_kept {kb : Bool} {ka : State} {s : State} {n : Nat} (h1 : Kept kb ka s) :
    Kept kb ka (State.identCheck s n) := by
  unfold State.identCheck
  extract_lets y1
  clear_value y1
  refine Kept.dite (fun _ => ?_) (fun _ => ?_)
  · assumption
  · refine Kept.dite (fun _ => ?_) (fun _ => ?_)
    · refine State.laneFail_kept ?_
      assumption
    · refine Kept.dite (fun _ => ?_) (fun _ => ?_)
      · refine State.laneFail_kept ?_
        assumption
      · refine Kept.dite (fun _ => ?_) (fun _ => ?_)
        · refine State.laneGoto_kept ?_
          assumption
        · assumption

theorem State.helloIn_kept {kb : Bool} {ka : State} {s : State} {n : Nat} {ws : List Word} (h1 : Kept kb ka s) :
    Kept kb ka (State.helloIn s n ws) := by
  unfold State.helloIn
  extract_lets y1
  have g1 : Kept kb ka y1 := by
    unfold y1
    refine Kept.foldl (fun st1 x1 g2 => ?_) ?_
    · refine State.setReg_kept rfl ?_
      assumption
    · assumption
  clear_value y1
  refine Kept.dite (fun _ => ?_) (fun _ => ?_)
  · refine State.identCheck_kept ?_
    refine State.modLn_kept ?_
    assumption
  · assumption

theorem State.scaleIn_kept {kb : Bool} {ka : State} {s : State} {n : Nat} {ws : List Word} (h1 : Kept kb ka s) :
    Kept kb ka (State.scaleIn s n ws) := by
  unfold State.scaleIn
  extract_lets y1
  have g1 : Kept kb ka y1 := by
    unfold y1
    refine Kept.foldl (fun st1 x1 g2 => ?_) ?_
    · refine State.setReg_kept rfl ?_
      assumption
    · assumption
  clear_value y1
  refine Kept.dite (fun _ => ?_) (fun _ => ?_)
  · refine State.identCheck_kept ?_
    refine State.modLn_kept ?_
    assumption
  · assumption

theorem State.mapAckIn_kept {kb : Bool} {ka : State} {s : State} {n : Nat} {w : Word} (h1 : Kept kb ka s) :
    Kept kb ka (State.mapAckIn s n w) := by
  unfold State.mapAckIn
  extract_lets y1 y2
  clear_value y1
  have g1 : Kept kb ka y2 := by
    unfold y2
    refine State.modLn_kept ?_
    assumption
  clear_value y2
  refine Kept.dite (fun _ => ?_) (fun _ => ?_)
  · refine Kept.dite (fun _ => ?_) (fun _ => ?_)
    · refine Kept.dite (fun _ => ?_) (fun _ => ?_)
      · refine State.laneGoto_kept ?_
        assumption
      · assumption
    · refine State.laneFail_kept ?_
      refine State.setF_kept rfl ?_
      assumption
  · assumption

theorem State.retrainIn_kept {kb : Bool} {ka : State} {s : State} {n : Nat} {w : Word} (h1 : Kept kb ka s) :
    Kept kb ka (State.retrainIn s n w) := by
  unfold State.retrainIn
  refine Kept.dite (fun _ => ?_) (fun _ => ?_)
  · refine State.laneCommand_kept ?_
    assumption
  · assumption

theorem State.recvMsg_kept {kb : Bool} {ka : State} {s : State} {n : Nat} {mtype : Nat} {seq : Nat} {ackReq : Bool} {ws : List Word} (h1 : Kept kb ka s) :
    Kept kb ka (State.recvMsg s n mtype seq ackReq ws) := by
  unfold State.recvMsg
  extract_lets y1 y2 y3
  clear_value y1
  have g1 : Kept kb ka y2 := by
    unfold y2
    refine Kept.dite (fun _ => ?_) (fun _ => ?_)
    · refine State.modLn_kept ?_
      assumption
    · assumption
  clear_value y2
  clear_value y3
  refine Kept.dite (fun _ => ?_) (fun _ => ?_)
  · assumption
  · split
    · rename_i v1 v2
      refine State.ackIn_kept ?_
      assumption
    · rename_i v3 v4
      refine State.helloIn_kept ?_
      assumption
    · rename_i v5 v6
      refine State.scaleIn_kept ?_
      assumption
    · rename_i v7 v8
      refine State.mapAckIn_kept ?_
      assumption
    · rename_i v9 v10
      refine State.retrainIn_kept ?_
      assumption
    · rename_i v11 v12
      refine State.msgRxIn_kept ?_
      assumption
    · rename_i v13 v14
      refine State.msgRxIn_kept ?_
      assumption
    · rename_i v15 v16 v17 v18 v19 v20 v21 v22 v23
      refine Kept.dite (fun _ => ?_) (fun _ => ?_)
      · assumption
      · refine State.setB_kept rfl ?_
        assumption

theorem State.unpackMsgs_kept {kb : Bool} {ka : State} {s : State} {n : Nat} {o2 : Nat} {o3 : List Word} (h1 : Kept kb ka s) :
    Kept kb ka (State.unpackMsgs s n o2 o3) := by
  unfold State.unpackMsgs
  split
  · rename_i v1 v2
    assumption
  · rename_i v3 v4 v5
    assumption
  · rename_i v6 v7 v8 v9 v10
    extract_lets y1 y2
    clear_value y1
    clear_value y2
    refine Kept.dite (fun _ => ?_) (fun _ => ?_)
    · assumption
    · refine Kept.dite (fun _ => ?_) (fun _ => ?_)
      · refine State.setB_kept rfl ?_
        assumption
      · refine State.unpackMsgs_kept ?_
        refine State.recvMsg_kept ?_
        assumption

theorem State.upBeat_kept {kb : Bool} {ka : State} {s : State} {n : Nat} {pay : List Word} (h1 : Kept kb ka s) :
    Kept kb ka (State.upBeat s n pay) := by
  unfold State.upBeat
  extract_lets y1 y2 y3 y4 y5 y6
  clear_value y1
  clear_value y2
  have g1 : Kept kb ka y3 := by
    unfold y3
    refine State.modLn_kept ?_
    assumption
  clear_value y3
  have g2 : Kept kb ka y4 := by
    unfold y4
    refine State.setB_kept rfl ?_
    assumption
  clear_value y4
  have g3 : Kept kb ka y5 := by
    unfold y5
    refine Kept.dite (fun _ => ?_) (fun _ => ?_)
    · refine State.setB_kept rfl ?_
      assumption
    · assumption
  clear_value y5
  have g4 : Kept kb ka y6 := by
    unfold y6
    refine State.incF_kept rfl ?_
    assumption
  clear_value y6
  refine Kept.dite (fun _ => ?_) (fun _ => ?_)
  · refine State.upLost_kept ?_
    assumption
  · refine Kept.dite (fun _ => ?_) (fun _ => ?_)
    · refine State.laneFail_kept ?_
      assumption
    · refine Kept.dite (fun _ => ?_) (fun _ => ?_)
      · refine State.laneFail_kept ?_
        assumption
      · refine State.unpackMsgs_kept ?_
        assumption

theorem State.recordIn_kept {kb : Bool} {ka : State} {s : State} {n : Nat} {r : Nat} {i : Nat} {pay : List Word} (h1 : Kept kb ka s) :
    Kept kb ka (State.recordIn s n r i pay) := by
  unfold State.recordIn
  extract_lets y1 y2 y3
  clear_value y1
  unfold y2
  clear_value y3
  refine Kept.dite (fun _ => ?_) (fun _ => ?_)
  · refine State.setSlot_kept ?_
    assumption
  · refine Kept.dite (fun _ => ?_) (fun _ => ?_)
    · refine State.glvUpstream_kept ?_
      refine State.setSlot_kept ?_
      assumption
    · refine State.setSlot_kept ?_
      assumption

theorem State.recordsIn_kept {kb : Bool} {ka : State} {s : State} {n : Nat} {idx : List Nat} {pay : List Word} (h1 : Kept kb ka s) :
    Kept kb ka (State.recordsIn s n idx pay) := by
  unfold State.recordsIn
  refine Kept.foldl (fun st1 x1 g1 => ?_) ?_
  · refine State.recordIn_kept ?_
    assumption
  · assumption

theorem State.upTake_kept {kb : Bool} {ka : State} {s : State} {n : Nat} {q : Nat} {ty : Nat} {pay : List Word} (h1 : Kept kb ka s) :
    Kept kb ka (State.upTake s n q ty pay) := by
  unfold State.upTake
  extract_lets y1 y2 y3
  clear_value y1
  have g1 : Kept kb ka y2 := by
    unfold y2
    refine Kept.dite (fun _ => ?_) (fun _ => ?_)
    · refine State.recordsIn_kept ?_
      assumption
    · refine State.slotAll_kept ?_
      assumption
  clear_value y2
  have g2 : Kept kb ka y3 := by
    unfold y3
    refine Kept.dite (fun _ => ?_) (fun _ => ?_)
    · refine State.setB_kept rfl ?_
      assumption
    · assumption
  clear_value y3
  refine Kept.dite (fun _ => ?_) (fun _ => ?_)
  · refine Kept.dite (fun _ => ?_) (fun _ => ?_)
    · refine State.upBeat_kept ?_
      assumption
    · refine State.chioArrivals_kept ?_
      refine State.modLn_kept ?_
      assumption
  · refine Kept.dite (fun _ => ?_) (fun _ => ?_)
    · refine State.chioArrivals_kept ?_
      assumption
    · refine Kept.dite (fun _ => ?_) (fun _ => ?_)
      · refine State.unpackMsgs_kept ?_
        assumption
      · refine Kept.dite (fun _ => ?_) (fun _ => ?_)
        · refine State.captureIn_kept ?_
          assumption
        · assumption

theorem State.nakIn_kept {kb : Bool} {ka : State} {s : State} {n : Nat} {p : Nat} {nak : Nat} (h1 : Kept kb ka s) :
    Kept kb ka (State.nakIn s n p nak) := by
  unfold State.nakIn
  extract_lets y1
  have g1 : Kept kb ka y1 := by
    unfold y1
    refine State.incF_kept rfl ?_
    assumption
  clear_value y1
  refine Kept.dite (fun _ => ?_) (fun _ => ?_)
  · assumption
  · split
    · rename_i v1 v2 v3 v4
      refine State.modLn_kept ?_
      assumption
    · rename_i v5 v6 v7
      refine State.setB_kept rfl ?_
      assumption

theorem State.upFail_kept {kb : Bool} {ka : State} {s : State} {n : Nat} {p : Nat} {q : Nat} (h1 : Kept kb ka s) :
    Kept kb ka (State.upFail s n p q) := by
  unfold State.upFail
  extract_lets y1
  clear_value y1
  refine Kept.dite (fun _ => ?_) (fun _ => ?_)
  · refine State.setLn_kept ?_
    assumption
  · refine State.upLost_kept ?_
    assumption

theorem State.upService_kept {kb : Bool} {ka : State} {s : State} {n : Nat} {kind : Nat} {cw : Codeword} (h1 : Kept kb ka s) :
    Kept kb ka (State.upService s n kind cw) := by
  unfold State.upService
  extract_lets y1 y2 y3 y4 y5 y6 y7 y8
  have g1 : Kept kb ka y1 := by
    unfold y1
    refine State.modLn_kept ?_
    assumption
  clear_value y1
  clear_value y2
  clear_value y3
  clear_value y4
  clear_value y5
  clear_value y6
  clear_value y7
  clear_value y8
  split
  · rename_i v1 v2 v3 v4
    refine Kept.dite (fun _ => ?_) (fun _ => ?_)
    · refine State.upTake_kept ?_
      refine State.nakIn_kept ?_
      refine State.setLn_kept ?_
      assumption
    · refine Kept.dite (fun _ => ?_) (fun _ => ?_)
      · refine State.upTake_kept ?_
        refine State.upLost_kept ?_
        refine State.nakIn_kept ?_
        refine State.setLn_kept ?_
        assumption
      · refine State.upLost_kept ?_
        refine State.setLn_kept ?_
        assumption
  · rename_i v5 v6
    refine Kept.dite (fun _ => ?_) (fun _ => ?_)
    · refine State.upTake_kept ?_
      refine State.nakIn_kept ?_
      assumption
    · refine State.upFail_kept ?_
      assumption

theorem State.alignIn_kept {kb : Bool} {ka : State} {s : State} {n : Nat} {off : BitVec 18} (h1 : Kept kb ka s) :
    Kept kb ka (State.alignIn s n off) := by
  unfold State.alignIn
  extract_lets y1 y2 y3
  clear_value y1
  have g1 : Kept kb ka y2 := by
    unfold y2
    refine State.setF_kept rfl ?_
    refine State.setB_kept rfl ?_
    assumption
  clear_value y2
  have g2 : Kept kb ka y3 := by
    unfold y3
    refine State.modLn_kept ?_
    assumption
  clear_value y3
  refine State.laneTryReady_kept ?_
  assumption

theorem State.upBringup_kept {kb : Bool} {ka : State} {s : State} {n : Nat} {kind : Nat} {off : BitVec 18} {cw : Codeword} (h1 : Kept kb ka s) :
    Kept kb ka (State.upBringup s n kind off cw) := by
  unfold State.upBringup
  extract_lets y1 y2 y3 y4 y5 y6 y7
  clear_value y1
  have g1 : Kept kb ka y2 := by
    unfold y2
    refine Kept.dite (fun _ => ?_) (fun _ => ?_)
    · refine State.modLn_kept ?_
      assumption
    · assumption
  clear_value y2
  clear_value y3
  clear_value y4
  have g2 : Kept kb ka y5 := by
    unfold y5
    refine State.setB_kept rfl ?_
    assumption
  clear_value y5
  have g3 : Kept kb ka y6 := by
    unfold y6
    refine Kept.dite (fun _ => ?_) (fun _ => ?_)
    · refine State.setB_kept rfl ?_
      assumption
    · assumption
  clear_value y6
  have g4 : Kept kb ka y7 := by
    unfold y7
    refine State.unpackMsgs_kept ?_
    assumption
  clear_value y7
  refine Kept.dite (fun _ => ?_) (fun _ => ?_)
  · refine Kept.dite (fun _ => ?_) (fun _ => ?_)
    · refine Kept.dite (fun _ => ?_) (fun _ => ?_)
      · refine State.alignIn_kept ?_
        assumption
      · assumption
    · refine Kept.dite (fun _ => ?_) (fun _ => ?_)
      · refine State.unpackMsgs_kept ?_
        assumption
      · refine Kept.dite (fun _ => ?_) (fun _ => ?_)
        · refine State.captureIn_kept ?_
          assumption
        · assumption
  · assumption

theorem execLaneRetry_kept {kb : Bool} {ka : State} {n : LaneId} {s : State} (h2 : Kept kb ka s) :
    OutKept kb ka (execLaneRetry n s) := by
  unfold execLaneRetry
  split
  · rename_i v1
    refine OutKept.mk ?_
    refine State.laneGoto_kept ?_
    refine State.modLn_kept ?_
    refine State.lanePreset_kept ?_
    assumption
  · rename_i v2
    refine OutKept.mk ?_
    assumption

theorem State.packFrom_kept {kb : Bool} {ka : State} {s : State} {n : Nat} {room : Nat} {keep : Nat} (h1 : Kept kb ka s) :
    Kept kb ka (State.packFrom s n room keep).2 := by
  unfold State.packFrom
  extract_lets y1 y2
  clear_value y1
  clear_value y2
  split
  rename_i v1 v2 v3 v4
  extract_lets y3 y4
  clear_value y3
  clear_value y4
  refine Kept.mk2 ?_
  refine State.setLn_kept ?_
  assumption

theorem State.recordWords_kept {kb : Bool} {ka : State} {s : State} {n : Nat} {o2 : List Nat} (h1 : Kept kb ka s) :
    Kept kb ka (State.recordWords s n o2).2 := by
  unfold State.recordWords
  split
  · rename_i v1
    refine Kept.mk2 ?_
    assumption
  · rename_i v2 v3 v4
    extract_lets y1 y2
    clear_value y1
    have g1 : Kept kb ka y2 := by
      unfold y2
      refine State.glvCompare_kept ?_
      assumption
    clear_value y2
    split
    rename_i v5 v6 v7 v8 v9
    have g2 : Kept kb ka v8 := by
      refine Kept.snd v9 ?_
      refine State.glvSlot_kept ?_
      assumption
    split
    rename_i v10 v11 v12 v13
    have g3 : Kept kb ka v8 := by assumption
    have g4 : Kept kb ka v12 := by
      refine Kept.snd v13 ?_
      refine State.recordWords_kept ?_
      assumption
    refine Kept.mk2 ?_
    assumption

theorem State.dnContent_kept {kb : Bool} {ka : State} {s : State} {n : Nat} {q : Nat} (h1 : Kept kb ka s) :
    Kept kb ka (State.dnContent s n q).2 := by
  unfold State.dnContent
  extract_lets y1 y2 y3 y4 y5
  clear_value y1
  clear_value y2
  clear_value y3
  have g1 : Kept kb ka y4 := by
    unfold y4
    refine State.modLn_kept ?_
    assumption
  clear_value y4
  clear_value y5
  refine Kept.dite2 (fun _ => ?_) (fun _ => ?_)
  · split
    rename_i v1 v2 v3 v4 v5
    have g2 : Kept kb ka v4 := by
      refine Kept.snd v5 ?_
      refine State.packFrom_kept ?_
      assumption
    refine Kept.mk2 ?_
    assumption
  · refine Kept.dite2 (fun _ => ?_) (fun _ => ?_)
    · refine Kept.dite2 (fun _ => ?_) (fun _ => ?_)
      · split
        rename_i v6 v7 v8 v9 v10 v11 v12
        have g3 : Kept kb ka v11 := by
          refine Kept.snd v12 ?_
          refine State.packFrom_kept ?_
          assumption
        refine Kept.mk2 ?_
        assumption
      · refine Kept.mk2 ?_
        assumption
    · split
      rename_i v13 v14 v15 v16 v17 v18
      have g4 : Kept kb ka v17 := by
        refine Kept.snd v18 ?_
        refine State.recordWords_kept ?_
        assumption
      refine Kept.mk2 ?_
      assumption

theorem State.slotSend_kept {kb : Bool} {ka : State} {s : State} {n : Nat} (h1 : Kept kb ka s) :
    Kept kb ka (State.slotSend s n) := by
  unfold State.slotSend
  extract_lets y1 y2 y3 y4 y5 y6 y7
  clear_value y1
  clear_value y2
  clear_value y3
  have g1 : Kept kb ka y4 := by
    unfold y4
    refine Kept.dite (fun _ => ?_) (fun _ => ?_)
    · refine State.incF_kept rfl ?_
      assumption
    · assumption
  clear_value y4
  clear_value y5
  clear_value y6
  clear_value y7
  refine Kept.dite (fun _ => ?_) (fun _ => ?_)
  · refine State.modLn_kept ?_
    assumption
  · split
    · rename_i v1 v2 v3 v4 v5
      extract_lets y8
      clear_value y8
      refine State.setLn_kept ?_
      assumption
    · rename_i v6 v7 v8
      split
      rename_i v9 v10 v11 v12 v13
      have g2 : Kept kb ka v12 := by
        refine Kept.snd v13 ?_
        refine State.dnContent_kept ?_
        assumption
      extract_lets y9
      clear_value y9
      refine Kept.dite (fun _ => ?_) (fun _ => ?_)
      · refine State.setLn_kept ?_
        assumption
      · refine State.setLn_kept ?_
        assumption

theorem execDownstreamSlotSend_kept {kb : Bool} {ka : State} {n : ChLane} {s : State} (h2 : Kept kb ka s) :
    OutKept kb ka (execDownstreamSlotSend n s) := by
  unfold execDownstreamSlotSend
  refine OutKept.mk ?_
  refine State.slotSend_kept ?_
  assumption

theorem State.drawInts_kept {kb : Bool} {ka : State} {o0 : Nat} {o1 : State} (h2 : Kept kb ka o1) :
    Kept kb ka (State.drawInts o0 o1).2 := by
  unfold State.drawInts
  split
  · rename_i v1 v2
    refine Kept.mk2 ?_
    assumption
  · rename_i v3 v4 v5
    split
    rename_i v6 v7 v8 v9
    have g1 : Kept kb ka v8 := by
      refine Kept.snd v9 ?_
      refine State.drawNat_kept ?_
      assumption
    split
    rename_i v10 v11 v12 v13
    have g2 : Kept kb ka v8 := by assumption
    have g3 : Kept kb ka v12 := by
      refine Kept.snd v13 ?_
      refine State.drawInts_kept ?_
      assumption
    refine Kept.mk2 ?_
    assumption

theorem execLaneFullRetrain_kept {kb : Bool} {ka : State} {n : LaneId} {s : State} (h2 : Kept kb ka s) :
    OutKept kb ka (execLaneFullRetrain n s) := by
  unfold execLaneFullRetrain
  refine OutKept.mk ?_
  refine State.laneCommand_kept ?_
  assumption

theorem execLossOfSignal_kept {kb : Bool} {ka : State} {n : LaneId} {s : State} (h2 : Kept kb ka s) :
    OutKept kb ka (execLossOfSignal n s) := by
  unfold execLossOfSignal
  split
  · rename_i v1
    refine OutKept.mk ?_
    refine State.laneFail_kept ?_
    assumption
  · rename_i v2
    refine OutKept.mk ?_
    assumption

theorem State.trainAnswer_kept {kb : Bool} {ka : State} {s : State} {n : Nat} {c : BitVec 16} {ready : Bool} (h1 : Kept kb ka s) :
    Kept kb ka (State.trainAnswer s n c ready) := by
  unfold State.trainAnswer
  extract_lets y1 y2 y3 y4 y5 y6 y7 y8 y9
  clear_value y1
  unfold y2
  unfold y3
  clear_value y4
  clear_value y5
  clear_value y6
  clear_value y7
  clear_value y8
  clear_value y9
  split
  rename_i v1 v2 v3 v4
  split
  rename_i v5 v6 v7 v8
  split
  rename_i v9 v10 v11 v12
  extract_lets y10 y11
  clear_value y10
  clear_value y11
  refine State.modLn_kept ?_
  refine State.setReg_kept rfl ?_
  assumption

theorem execSignalDetect_kept {kb : Bool} {ka : State} {n : LaneId} {s : State} (h2 : Kept kb ka s) :
    OutKept kb ka (execSignalDetect n s) := by
  unfold execSignalDetect
  refine OutKept.mk ?_
  refine State.signalIn_kept ?_
  assumption

theorem execAdaptStep_kept {kb : Bool} {ka : State} {n : ChLane} {par : AdaptParam} {up : Bool} {s : State} (h4 : Kept kb ka s) :
    OutKept kb ka (execAdaptStep n par up s) := by
  unfold execAdaptStep
  refine OutKept.mk ?_
  refine State.adaptStep_kept ?_
  assumption

theorem execLaneTest_kept {kb : Bool} {ka : State} {n : LaneId} {w : Word} {s : State} (h3 : Kept kb ka s) :
    OutKept kb ka (execLaneTest n w s) := by
  unfold execLaneTest
  refine OutKept.mk ?_
  refine State.laneTestWrite_kept ?_
  assumption

theorem execLaneDisable_kept {kb : Bool} {ka : State} {n : LaneId} {s : State} (h2 : Kept kb ka s) :
    OutKept kb ka (execLaneDisable n s) := by
  unfold execLaneDisable
  refine OutKept.mk ?_
  refine State.laneSetEn_kept ?_
  assumption

theorem execLaneHold_kept {kb : Bool} {ka : State} {n : LaneId} {s : State} (h2 : Kept kb ka s) :
    OutKept kb ka (execLaneHold n s) := by
  unfold execLaneHold
  refine OutKept.mk ?_
  refine State.laneCommand_kept ?_
  assumption

theorem execHubevt_kept {kb : Bool} {ka : State} {n : ChLane} {seq : Fin 512} {ackReq : Bool} {ws : List Word} {s : State} (h5 : Kept kb ka s) :
    OutKept kb ka (execHubevt n seq ackReq ws s) := by
  unfold execHubevt
  refine OutKept.mk ?_
  refine State.recvMsg_kept ?_
  assumption

theorem execLaneStateTimeout_kept {kb : Bool} {ka : State} {n : LaneId} {s : State} (h2 : Kept kb ka s) :
    OutKept kb ka (execLaneStateTimeout n s) := by
  unfold execLaneStateTimeout
  refine OutKept.mk ?_
  refine State.laneTimeout_kept ?_
  assumption

theorem State.shortCheck_kept {kb : Bool} {ka : State} {s : State} {n : Nat} {gnd : Nat} {sup : Nat} {pair : Bool} (h1 : Kept kb ka s) :
    Kept kb ka (State.shortCheck s n gnd sup pair) := by
  unfold State.shortCheck
  extract_lets y1
  have g1 : Kept kb ka y1 := by
    unfold y1
    refine State.setReg_kept rfl ?_
    assumption
  clear_value y1
  refine Kept.dite (fun _ => ?_) (fun _ => ?_)
  · refine Kept.dite (fun _ => ?_) (fun _ => ?_)
    · refine State.laneFail_kept ?_
      assumption
    · refine Kept.dite (fun _ => ?_) (fun _ => ?_)
      · refine State.laneFail_kept ?_
        assumption
      · refine Kept.dite (fun _ => ?_) (fun _ => ?_)
        · refine State.laneFail_kept ?_
          assumption
        · refine State.modLn_kept ?_
          assumption
  · assumption

theorem execSvcMessage_kept {kb : Bool} {ka : State} {n : ChLane} {seq : Fin 512} {ackReq : Bool} {ws : List Word} {s : State} (h5 : Kept kb ka s) :
    OutKept kb ka (execSvcMessage n seq ackReq ws s) := by
  unfold execSvcMessage
  refine OutKept.mk ?_
  refine State.recvMsg_kept ?_
  assumption

theorem State.upCodeword_kept {kb : Bool} {ka : State} {s : State} {n : Nat} {kind : Nat} {off : BitVec 18} {cw : Codeword} (h1 : Kept kb ka s) :
    Kept kb ka (State.upCodeword s n kind off cw) := by
  unfold State.upCodeword
  refine Kept.dite (fun _ => ?_) (fun _ => ?_)
  · refine State.upService_kept ?_
    assumption
  · refine Kept.dite (fun _ => ?_) (fun _ => ?_)
    · refine State.upBringup_kept ?_
      assumption
    · assumption

theorem execUpstreamBeatCodeword_kept {kb : Bool} {ka : State} {n : ChLane} {off : BitVec 18} {cw : Codeword} {s : State} (h4 : Kept kb ka s) :
    OutKept kb ka (execUpstreamBeatCodeword n off cw s) := by
  unfold execUpstreamBeatCodeword
  refine OutKept.mk ?_
  refine State.upCodeword_kept ?_
  assumption

theorem execUpstreamDataCodeword_kept {kb : Bool} {ka : State} {n : ChLane} {cw : Codeword} {s : State} (h3 : Kept kb ka s) :
    OutKept kb ka (execUpstreamDataCodeword n cw s) := by
  unfold execUpstreamDataCodeword
  refine OutKept.mk ?_
  refine State.upCodeword_kept ?_
  assumption

theorem execScale_kept {kb : Bool} {ka : State} {n : ChLane} {seq : Fin 512} {w1 : Word} {w2 : Word} {w3 : Word} {w4 : Word} {s : State} (h7 : Kept kb ka s) :
    OutKept kb ka (execScale n seq w1 w2 w3 w4 s) := by
  unfold execScale
  refine OutKept.mk ?_
  refine State.recvMsg_kept ?_
  assumption

theorem State.trainRequest_kept {kb : Bool} {ka : State} {s : State} {n : Nat} {pst : BitVec 16} (h1 : Kept kb ka s) :
    Kept kb ka (State.trainRequest s n pst) := by
  unfold State.trainRequest
  extract_lets y1 y2 y3
  clear_value y1
  unfold y2
  unfold y3
  split
  rename_i v1 v2 v3 v4
  have g1 : Kept kb ka v3 := by
    refine Kept.snd v4 ?_
    refine State.drawNat_kept ?_
    assumption
  extract_lets y4 y5 y6 y7 y8 y9
  clear_value y4
  clear_value y5
  clear_value y6
  clear_value y7
  clear_value y8
  clear_value y9
  refine State.modLn_kept ?_
  assumption

theorem State.trainFrame_kept {kb : Bool} {ka : State} {s : State} {n : Nat} {fr : TrainFrame} (h1 : Kept kb ka s) :
    Kept kb ka (State.trainFrame s n fr) := by
  unfold State.trainFrame
  extract_lets y1 y2 y3 y4 y5
  clear_value y1
  have g1 : Kept kb ka y2 := by
    unfold y2
    refine Kept.dite (fun _ => ?_) (fun _ => ?_)
    · refine State.setB_kept rfl ?_
      assumption
    · assumption
  clear_value y2
  have g2 : Kept kb ka y3 := by
    unfold y3
    refine State.modLn_kept ?_
    assumption
  clear_value y3
  have g3 : Kept kb ka y4 := by
    unfold y4
    refine State.trainAnswer_kept ?_
    refine State.trainRequest_kept ?_
    assumption
  clear_value y4
  have g4 : Kept kb ka y5 := by
    unfold y5
    refine State.setB_kept rfl ?_
    assumption
  clear_value y5
  refine Kept.dite (fun _ => ?_) (fun _ => ?_)
  · refine Kept.dite (fun _ => ?_) (fun _ => ?_)
    · refine State.laneTryTrain_kept ?_
      assumption
    · refine Kept.dite (fun _ => ?_) (fun _ => ?_)
      · refine State.modLn_kept ?_
        assumption
      · refine State.modLn_kept ?_
        assumption
  · assumption

theorem execAck_kept {kb : Bool} {ka : State} {n : ChLane} {seq : Fin 512} {s : State} (h3 : Kept kb ka s) :
    OutKept kb ka (execAck n seq s) := by
  unfold execAck
  refine OutKept.mk ?_
  refine State.recvMsg_kept ?_
  assumption

theorem execMsgTxAppend_kept {kb : Bool} {ka : State} {n : LaneId} {w : Word} {s : State} (h3 : Kept kb ka s) :
    OutKept kb ka (execMsgTxAppend n w s) := by
  unfold execMsgTxAppend
  refine OutKept.mk ?_
  refine State.msgTxAppend_kept ?_
  assumption

theorem execTrainingFrame_kept {kb : Bool} {ka : State} {n : ChLane} {fr : TrainFrame} {s : State} (h3 : Kept kb ka s) :
    OutKept kb ka (execTrainingFrame n fr s) := by
  unfold execTrainingFrame
  refine OutKept.mk ?_
  refine State.trainFrame_kept ?_
  assumption

theorem execMsgRxRead_kept {kb : Bool} {ka : State} {n : LaneId} {s : State} (h2 : Kept kb ka s) :
    OutKept kb ka (execMsgRxRead n s) := by
  unfold execMsgRxRead
  refine OutKept.mk ?_
  refine State.msgRxPop_kept ?_
  assumption

theorem execHello_kept {kb : Bool} {ka : State} {n : ChLane} {seq : Fin 512} {w1 : Word} {w2 : Word} {w3 : Word} {w4 : Word} {s : State} (h7 : Kept kb ka s) :
    OutKept kb ka (execHello n seq w1 w2 w3 w4 s) := by
  unfold execHello
  refine OutKept.mk ?_
  refine State.recvMsg_kept ?_
  assumption

theorem execSafeNAssert_kept {kb : Bool} {ka : State} {s : State} (h1 : Kept kb ka s) :
    OutKept kb ka (execSafeNAssert s) := by
  unfold execSafeNAssert
  extract_lets y1 y2
  clear_value y1
  have g1 : Kept kb ka y2 := by
    unfold y2
    refine Kept.all ?_
    assumption
  clear_value y2
  refine OutKept.mk ?_
  refine Kept.dite (fun _ => ?_) (fun _ => ?_)
  · assumption
  · refine State.askSafe_kept ?_
    refine State.ibi_kept ?_
    assumption

theorem execManagementCodeword_kept {kb : Bool} {ka : State} {n : ChLane} {cw : Codeword} {s : State} (h3 : Kept kb ka s) :
    OutKept kb ka (execManagementCodeword n cw s) := by
  unfold execManagementCodeword
  refine OutKept.mk ?_
  refine State.upCodeword_kept ?_
  assumption

theorem execCaptureCodeword_kept {kb : Bool} {ka : State} {n : ChLane} {cw : Codeword} {s : State} (h3 : Kept kb ka s) :
    OutKept kb ka (execCaptureCodeword n cw s) := by
  unfold execCaptureCodeword
  refine OutKept.mk ?_
  refine State.upCodeword_kept ?_
  assumption

theorem State.msgRetry_kept {kb : Bool} {ka : State} {s : State} {n : Nat} {seq : Nat} (h1 : Kept kb ka s) :
    Kept kb ka (State.msgRetry s n seq) := by
  unfold State.msgRetry
  extract_lets y1 y2 y3
  clear_value y1
  clear_value y2
  have g1 : Kept kb ka y3 := by
    unfold y3
    refine State.setB_kept rfl ?_
    refine State.setLn_kept ?_
    assumption
  clear_value y3
  split
  · rename_i v1 v2
    assumption
  · rename_i v3 v4 v5
    extract_lets y4
    have g2 : Kept kb ka y4 := by
      unfold y4
      refine Kept.dite (fun _ => ?_) (fun _ => ?_)
      · refine State.setF_kept rfl ?_
        assumption
      · assumption
    clear_value y4
    refine Kept.dite (fun _ => ?_) (fun _ => ?_)
    · refine State.setLn_kept ?_
      assumption
    · refine Kept.dite (fun _ => ?_) (fun _ => ?_)
      · refine State.laneFail_kept ?_
        assumption
      · assumption

theorem execMessageRetry_kept {kb : Bool} {ka : State} {n : ChLane} {seq : Fin 512} {s : State} (h3 : Kept kb ka s) :
    OutKept kb ka (execMessageRetry n seq s) := by
  unfold execMessageRetry
  refine OutKept.mk ?_
  refine State.msgRetry_kept ?_
  assumption

theorem execMapAck_kept {kb : Bool} {ka : State} {n : ChLane} {w : Word} {s : State} (h3 : Kept kb ka s) :
    OutKept kb ka (execMapAck n w s) := by
  unfold execMapAck
  refine OutKept.mk ?_
  refine State.recvMsg_kept ?_
  assumption

theorem execRetrain_kept {kb : Bool} {ka : State} {n : ChLane} {w : Word} {s : State} (h3 : Kept kb ka s) :
    OutKept kb ka (execRetrain n w s) := by
  unfold execRetrain
  refine OutKept.mk ?_
  refine State.recvMsg_kept ?_
  assumption

theorem execLaneEnable_kept {kb : Bool} {ka : State} {n : LaneId} {s : State} (h2 : Kept kb ka s) :
    OutKept kb ka (execLaneEnable n s) := by
  unfold execLaneEnable
  refine OutKept.mk ?_
  refine State.laneSetEn_kept ?_
  assumption

theorem State.termDetect_kept {kb : Bool} {ka : State} {s : State} {n : Nat} {settled : Bool} (h1 : Kept kb ka s) :
    Kept kb ka (State.termDetect s n settled) := by
  unfold State.termDetect
  extract_lets y1
  have g1 : Kept kb ka y1 := by
    unfold y1
    refine State.setB_kept rfl ?_
    assumption
  clear_value y1
  refine Kept.dite (fun _ => ?_) (fun _ => ?_)
  · refine Kept.dite (fun _ => ?_) (fun _ => ?_)
    · refine State.laneGoto_kept ?_
      assumption
    · assumption
  · assumption

theorem execTerminationDetect_kept {kb : Bool} {ka : State} {n : LaneId} {settled : Bool} {s : State} (h3 : Kept kb ka s) :
    OutKept kb ka (execTerminationDetect n settled s) := by
  unfold execTerminationDetect
  refine OutKept.mk ?_
  refine State.termDetect_kept ?_
  assumption

theorem execShortCheck_kept {kb : Bool} {ka : State} {n : LaneId} {gnd : BitVec 4} {sup : BitVec 4} {pair : Bool} {s : State} (h5 : Kept kb ka s) :
    OutKept kb ka (execShortCheck n gnd sup pair s) := by
  unfold execShortCheck
  refine OutKept.mk ?_
  refine State.shortCheck_kept ?_
  assumption

theorem execCodewordLockLoss_kept {kb : Bool} {ka : State} {n : ChLane} {s : State} (h2 : Kept kb ka s) :
    OutKept kb ka (execCodewordLockLoss n s) := by
  unfold execCodewordLockLoss
  split
  · rename_i v1
    refine OutKept.mk ?_
    refine State.modLn_kept ?_
    assumption
  · rename_i v2
    refine OutKept.mk ?_
    assumption

theorem execAdaptComplete_kept {kb : Bool} {ka : State} {n : ChLane} {s : State} (h2 : Kept kb ka s) :
    OutKept kb ka (execAdaptComplete n s) := by
  unfold execAdaptComplete
  split
  · rename_i v1
    split
    rename_i v2 v3 v4 v5
    have g1 : Kept kb ka v4 := by
      refine Kept.snd v5 ?_
      refine State.drawNat_kept ?_
      assumption
    extract_lets y1
    clear_value y1
    split
    rename_i v6 v7 v8 v9
    have g2 : Kept kb ka v4 := by assumption
    have g3 : Kept kb ka v8 := by
      refine Kept.snd v9 ?_
      refine State.drawInts_kept ?_
      assumption
    split
    rename_i v10 v11 v12 v13
    have g4 : Kept kb ka v4 := by assumption
    have g5 : Kept kb ka v8 := by assumption
    have g6 : Kept kb ka v12 := by
      refine Kept.snd v13 ?_
      refine State.drawInts_kept ?_
      assumption
    extract_lets y2
    have g7 : Kept kb ka y2 := by
      unfold y2
      refine State.modLn_kept ?_
      assumption
    clear_value y2
    refine OutKept.mk ?_
    refine State.identCheck_kept ?_
    refine State.laneGoto_kept ?_
    refine State.setReg_kept rfl ?_
    assumption
  · rename_i v14
    refine OutKept.mk ?_
    assumption

theorem execEyeSweep_kept {kb : Bool} {ka : State} {n : LaneId} {eye : Fin 4} {height : Fin 512} {width : Fin 1024} {s : State} (h5 : Kept kb ka s) :
    OutKept kb ka (execEyeSweep n eye height width s) := by
  unfold execEyeSweep
  refine OutKept.mk ?_
  refine State.laneEye_kept ?_
  assumption

theorem execSvcSend_kept {kb : Bool} {ka : State} {n : LaneId} {w : Word} {s : State} (h3 : Kept kb ka s) :
    OutKept kb ka (execSvcSend n w s) := by
  unfold execSvcSend
  refine OutKept.mk ?_
  refine State.msgTxcWrite_kept ?_
  assumption

end Sys2Proof.Machine
end

