-- ==== Sys2Proof/Laws/KeptBeat.lean ====
section
/-! SUPPORT. What each operation of Machine/Beat.lean keeps (Laws/Kept.lean). -/

set_option maxRecDepth 4000

namespace Sys2Proof.Machine

theorem State.sectEnter_kept {kb : Bool} {ka : State} {s : State} {k : Nat} (h1 : Kept kb ka s) :
    Kept kb ka (State.sectEnter s k) := by
  unfold State.sectEnter
  extract_lets y1 y2
  clear_value y1
  have g1 : Kept kb ka y2 := by
    unfold y2
    refine State.modSect_kept ?_
    assumption
  clear_value y2
  refine Kept.foldl (fun st1 x1 g2 => ?_) ?_
  · extract_lets y3
    have g3 : Kept kb ka y3 := by
      unfold y3
      refine State.setF_kept rfl ?_
      refine State.modEngine_kept ?_
      refine State.irqSample_kept ?_
      refine State.csrSettle_kept ?_
      assumption
    clear_value y3
    refine State.haltTry_kept ?_
    assumption
  · assumption

theorem State.markLost_kept {kb : Bool} {ka : State} {s : State} (h1 : Kept kb ka s) :
    Kept kb ka (State.markLost s) := by
  unfold State.markLost
  refine Kept.foldl (fun st1 x1 g1 => ?_) ?_
  · extract_lets y1 y2
    clear_value y1
    have g2 : Kept kb ka y2 := by
      unfold y2
      refine Kept.foldl (fun st2 x2 g3 => ?_) ?_
      · refine Kept.dite (fun _ => ?_) (fun _ => ?_)
        · refine Kept.foldl (fun st3 x3 g4 => ?_) ?_
          · refine State.modCh_kept ?_
            assumption
          · assumption
        · assumption
      · assumption
    clear_value y2
    refine Kept.dite (fun _ => ?_) (fun _ => ?_)
    · assumption
    · refine State.modLn_kept ?_
      assumption
  · assumption

theorem State.beatCloses_kept {kb : Bool} {ka : State} {s : State} (h1 : Kept kb ka s) :
    Kept kb ka (State.beatCloses s) := by
  unfold State.beatCloses
  extract_lets y1
  have g1 : Kept kb ka y1 := by
    unfold y1
    refine Kept.foldl (fun st1 x1 g2 => ?_) ?_
    · refine State.pushReachAll_kept ?_
      assumption
    · assumption
  clear_value y1
  refine Kept.foldl (fun st2 x2 g3 => ?_) ?_
  · refine State.upKeptOut_kept ?_
    assumption
  · assumption

theorem State.nextBeat_kept {kb : Bool} {ka : State} {s : State} (h1 : Kept kb ka s) :
    Kept kb ka (State.nextBeat s) := by
  unfold State.nextBeat
  refine Kept.dite (fun _ => ?_) (fun _ => ?_)
  · refine State.setB_kept rfl ?_
    refine State.setReg_kept rfl ?_
    assumption
  · refine State.setReg_kept rfl ?_
    assumption

theorem State.freshness_kept {kb : Bool} {ka : State} {s : State} {beat : Nat} (h1 : Kept kb ka s) :
    Kept kb ka (State.freshness s beat) := by
  unfold State.freshness
  refine State.forChannels_kept ?_ ?_
  · assumption
  · intro w1 w2 w3
    refine State.glvFresh_kept ?_
    assumption

theorem State.queueBoundary_kept {kb : Bool} {ka : State} {s : State} (h1 : Kept kb ka s) :
    Kept kb ka (State.queueBoundary s) := by
  unfold State.queueBoundary
  extract_lets y1
  have g1 : Kept kb ka y1 := by
    unfold y1
    refine State.handoffExecute_kept ?_
    assumption
  clear_value y1
  refine Kept.foldl (fun st1 x1 g2 => ?_) ?_
  · refine State.qmStage_kept ?_
    assumption
  · assumption

theorem State.chanBoundary_kept {kb : Bool} {ka : State} {s : State} (h1 : Kept kb ka s) :
    Kept kb ka (State.chanBoundary s) := by
  unfold State.chanBoundary
  refine State.updChan_kept ?_
  assumption

theorem State.timerBoundary_kept {kb : Bool} {ka : State} {s : State} (h1 : Kept kb ka s) :
    Kept kb ka (State.timerBoundary s) := by
  unfold State.timerBoundary
  refine Kept.foldl (fun st1 x1 g1 => ?_) ?_
  · extract_lets y1
    clear_value y1
    refine Kept.dite (fun _ => ?_) (fun _ => ?_)
    · assumption
    · refine Kept.dite (fun _ => ?_) (fun _ => ?_)
      · refine State.irqSample_kept ?_
        assumption
      · refine State.irqSample_kept ?_
        refine State.setEngine_kept ?_
        assumption
  · assumption

theorem State.sectReport_kept {kb : Bool} {ka : State} {s : State} {k : Nat} {cyc : Nat} {fin : Bool} (h1 : Kept kb ka s) :
    Kept kb ka (State.sectReport s k cyc fin) := by
  unfold State.sectReport
  extract_lets y1 y2 y3 y4
  clear_value y1
  have g1 : Kept kb ka y3 := by
    unfold y3
    refine State.setReg_kept rfl ?_
    assumption
  clear_value y3
  have g2 : Kept kb ka y4 := by
    unfold y4
    refine State.setReg_kept rfl ?_
    assumption
  clear_value y4
  refine State.modSect_kept ?_
  assumption

theorem State.sectStopIssue_kept {kb : Bool} {ka : State} {s : State} {k : Nat} (h1 : Kept kb ka s) :
    Kept kb ka (State.sectStopIssue s k) := by
  unfold State.sectStopIssue
  refine Kept.foldl (fun st1 x1 g1 => ?_) ?_
  · refine State.modEngine_kept ?_
    assumption
  · assumption

theorem State.sectAbandon_kept {kb : Bool} {ka : State} {s : State} {k : Nat} (h1 : Kept kb ka s) :
    Kept kb ka (State.sectAbandon s k) := by
  unfold State.sectAbandon
  refine Kept.foldl (fun st1 x1 g1 => ?_) ?_
  · extract_lets y1 y2
    clear_value y1
    have g2 : Kept kb ka y2 := by
      unfold y2
      refine State.modEngine_kept ?_
      assumption
    clear_value y2
    refine Kept.dite (fun _ => ?_) (fun _ => ?_)
    · refine State.drainSb_kept ?_
      assumption
    · assumption
  · assumption

theorem State.sectStop_kept {kb : Bool} {ka : State} {s : State} {k : Nat} (h1 : Kept kb ka s) :
    Kept kb ka (State.sectStop s k) := by
  unfold State.sectStop
  extract_lets y1
  have g1 : Kept kb ka y1 := by
    unfold y1
    refine State.sectStopIssue_kept ?_
    refine State.sectAbandon_kept ?_
    assumption
  clear_value y1
  refine State.modSect_kept ?_
  refine State.setF_kept rfl ?_
  refine State.dropHalts_kept ?_
  assumption

theorem State.sectOverrun_kept {kb : Bool} {ka : State} {s : State} {k : Nat} (h1 : Kept kb ka s) :
    Kept kb ka (State.sectOverrun s k) := by
  unfold State.sectOverrun
  extract_lets y1 y2 y3 y4 y5
  have g1 : Kept kb ka y2 := by
    unfold y2
    refine State.setF_kept rfl ?_
    assumption
  clear_value y2
  have g2 : Kept kb ka y3 := by
    unfold y3
    refine State.incF_kept rfl ?_
    assumption
  clear_value y3
  have g3 : Kept kb ka y4 := by
    unfold y4
    refine State.logEvt_kept ?_
    refine State.fireSource_kept ?_
    refine State.setB_kept rfl ?_
    assumption
  clear_value y4
  clear_value y5
  refine Kept.dite (fun _ => ?_) (fun _ => ?_)
  · refine State.forChannels_kept ?_ ?_
    · refine State.setB_kept rfl ?_
      refine State.sectStop_kept ?_
      assumption
    · intro w1 w2 w3
      refine State.glvPark_kept ?_
      assumption
  · refine State.sectEnter_kept ?_
    refine State.sectAbandon_kept ?_
    assumption

theorem State.sectRunning_kept {kb : Bool} {ka : State} {s : State} {k : Nat} {cyc : Nat} {b : Word} (h1 : Kept kb ka s) :
    Kept kb ka (State.sectRunning s k cyc b) := by
  unfold State.sectRunning
  extract_lets y1 y2 y3
  clear_value y1
  have g1 : Kept kb ka y2 := by
    unfold y2
    refine State.sectReport_kept ?_
    assumption
  clear_value y2
  have g2 : Kept kb ka y3 := by
    unfold y3
    refine Kept.dite (fun _ => ?_) (fun _ => ?_)
    · refine State.setF_kept rfl ?_
      assumption
    · assumption
  clear_value y3
  refine Kept.dite (fun _ => ?_) (fun _ => ?_)
  · refine State.sectStop_kept ?_
    assumption
  · refine Kept.dite (fun _ => ?_) (fun _ => ?_)
    · assumption
    · refine Kept.dite (fun _ => ?_) (fun _ => ?_)
      · refine State.sectEnter_kept ?_
        refine State.sectAbandon_kept ?_
        assumption
      · refine Kept.dite (fun _ => ?_) (fun _ => ?_)
        · refine State.sectEnter_kept ?_
          assumption
        · refine State.sectOverrun_kept ?_
          assumption

theorem State.sectModes_kept {kb : Bool} {ka : State} {s : State} {k : Nat} (h1 : Kept kb ka s) :
    Kept kb ka (State.sectModes s k) := by
  unfold State.sectModes
  refine Kept.foldl (fun st1 x1 g1 => ?_) ?_
  · extract_lets y1 y2
    clear_value y1
    have g2 : Kept kb ka y2 := by
      unfold y2
      refine State.modEngine_kept ?_
      assumption
    clear_value y2
    refine Kept.dite (fun _ => ?_) (fun _ => ?_)
    · refine State.requestHalt_kept ?_
      assumption
    · assumption
  · assumption

theorem State.sectStart_kept {kb : Bool} {ka : State} {s : State} {k : Nat} {b : Word} (h1 : Kept kb ka s) :
    Kept kb ka (State.sectStart s k b) := by
  unfold State.sectStart
  extract_lets y1 y2
  clear_value y1
  have g1 : Kept kb ka y2 := by
    unfold y2
    refine State.setF_kept rfl ?_
    assumption
  clear_value y2
  refine Kept.dite (fun _ => ?_) (fun _ => ?_)
  · refine State.sectModes_kept ?_
    refine State.modSect_kept ?_
    assumption
  · assumption

theorem State.sectBoundary_kept {kb : Bool} {ka : State} {s : State} {k : Nat} {cyc : Nat} {b : Word} (h1 : Kept kb ka s) :
    Kept kb ka (State.sectBoundary s k cyc b) := by
  unfold State.sectBoundary
  refine Kept.dite (fun _ => ?_) (fun _ => ?_)
  · refine State.sectRunning_kept ?_
    assumption
  · refine State.sectStart_kept ?_
    refine State.sectReport_kept ?_
    assumption

theorem State.stopReply_kept {kb : Bool} {ka : State} {s : State} {due : Bool} (h1 : Kept kb ka s) :
    Kept kb ka (State.stopReply s due) := by
  unfold State.stopReply
  extract_lets y1 y2
  clear_value y1
  have g1 : Kept kb ka y2 := by
    unfold y2
    refine Kept.foldl (fun st1 x1 g2 => ?_) ?_
    · refine State.reply_kept ?_
      assumption
    · refine State.modSeq_kept ?_
      assumption
  clear_value y2
  split
  · rename_i v1 v2 v3
    refine Kept.dite (fun _ => ?_) (fun _ => ?_)
    · refine State.reply_kept ?_
      refine State.clearMailbox_kept ?_
      assumption
    · assumption
  · rename_i v4 v5
    assumption

theorem State.sectFirst_kept {kb : Bool} {ka : State} {s : State} {was : List Nat} (h1 : Kept kb ka s) :
    Kept kb ka (State.sectFirst s was) := by
  unfold State.sectFirst
  refine Kept.foldl (fun st1 x1 g1 => ?_) ?_
  · refine Kept.dite (fun _ => ?_) (fun _ => ?_)
    · refine State.sectEnter_kept ?_
      assumption
    · assumption
  · assumption

theorem State.startReleases_kept {kb : Bool} {ka : State} {s : State} {b : Word} (h1 : Kept kb ka s) :
    Kept kb ka (State.startReleases s b) := by
  unfold State.startReleases
  extract_lets y1 y2
  clear_value y1
  have g1 : Kept kb ka y2 := by
    unfold y2
    refine Kept.dite (fun _ => ?_) (fun _ => ?_)
    · refine State.forChannels_kept ?_ ?_
      · refine Kept.all ?_
        assumption
      · intro w1 w2 w3
        refine State.glvRelease_kept ?_
        assumption
    · assumption
  clear_value y2
  refine Kept.foldl (fun st1 x1 g2 => ?_) ?_
  · refine Kept.dite (fun _ => ?_) (fun _ => ?_)
    · refine State.forChannels_kept ?_ ?_
      · refine State.modSect_kept ?_
        assumption
      · intro w4 w5 w6
        refine State.glvRelease_kept ?_
        assumption
    · assumption
  · assumption

theorem State.boundary_kept {kb : Bool} {ka : State} {s : State} (h1 : Kept kb ka s) :
    Kept kb ka (State.boundary s) := by
  unfold State.boundary
  extract_lets y1 y2 y3 y4 y5 y6 y7 y8 y9 y10 y11 y12 y13 y14 y15 y16
  clear_value y1
  have g1 : Kept kb ka y2 := by
    unfold y2
    refine State.beatCloses_kept ?_
    assumption
  clear_value y2
  clear_value y3
  have g2 : Kept kb ka y4 := by
    unfold y4
    refine State.nextBeat_kept ?_
    refine State.freshness_kept ?_
    refine State.markLost_kept ?_
    assumption
  clear_value y4
  clear_value y5
  clear_value y6
  have g3 : Kept kb ka y7 := by
    unfold y7
    refine Kept.all ?_
    assumption
  clear_value y7
  have g4 : Kept kb ka y8 := by
    unfold y8
    refine State.clockBoundary_kept ?_
    assumption
  clear_value y8
  have g5 : Kept kb ka y9 := by
    unfold y9
    refine State.queueBoundary_kept ?_
    refine State.chanBoundary_kept ?_
    assumption
  clear_value y9
  have g6 : Kept kb ka y10 := by
    unfold y10
    refine State.timerBoundary_kept ?_
    assumption
  clear_value y10
  clear_value y11
  clear_value y12
  have g7 : Kept kb ka y13 := by
    unfold y13
    refine Kept.foldl (fun st1 x1 g8 => ?_) ?_
    · refine State.sectBoundary_kept ?_
      assumption
    · assumption
  clear_value y13
  have g9 : Kept kb ka y14 := by
    unfold y14
    refine State.stopReply_kept ?_
    refine State.sectFirst_kept ?_
    refine State.startReleases_kept ?_
    assumption
  clear_value y14
  have g10 : Kept kb ka y15 := by
    unfold y15
    refine State.modEngine_kept ?_
    refine State.tick_kept ?_
    assumption
  clear_value y15
  have g11 : Kept kb ka y16 := by
    unfold y16
    refine Kept.foldl (fun st2 x2 g12 => ?_) ?_
    · refine State.ckuBoundary_kept ?_
      assumption
    · assumption
  clear_value y16
  refine Kept.foldl (fun st3 x3 g13 => ?_) ?_
  · refine State.frmUpdate_kept ?_
    refine State.laneBoundary_kept ?_
    assumption
  · assumption

theorem State.beatBoundary_kept {kb : Bool} {ka : State} {s : State} (h1 : Kept kb ka s) :
    Kept kb ka (State.beatBoundary s) := by
  unfold State.beatBoundary
  refine Kept.dite (fun _ => ?_) (fun _ => ?_)
  · refine State.boundary_kept ?_
    assumption
  · assumption

theorem State.holdover_kept {kb : Bool} {ka : State} {s : State} (h1 : Kept kb ka s) :
    Kept kb ka (State.holdover s) := by
  unfold State.holdover
  refine Kept.dite (fun _ => ?_) (fun _ => ?_)
  · refine State.boundary_kept ?_
    refine State.beatFlag_kept ?_
    refine State.setB_kept rfl ?_
    assumption
  · assumption

theorem execHoldover_kept {kb : Bool} {ka : State} {s : State} (h1 : Kept kb ka s) :
    OutKept kb ka (execHoldover s) := by
  unfold execHoldover
  refine OutKept.mk ?_
  refine State.holdover_kept ?_
  assumption

theorem execBeatBoundary_kept {kb : Bool} {ka : State} {s : State} (h1 : Kept kb ka s) :
    OutKept kb ka (execBeatBoundary s) := by
  unfold execBeatBoundary
  refine OutKept.mk ?_
  refine State.beatBoundary_kept ?_
  assumption

end Sys2Proof.Machine
end

