-- ==== Sys2Proof/Laws/KeptDebug.lean ====
section
/-! SUPPORT. What each operation of Machine/Debug.lean keeps (Laws/Kept.lean). -/

set_option maxRecDepth 4000

namespace Sys2Proof.Machine

theorem State.dbgReadWords_kept {kb : Bool} {ka : State} {s : State} {a : Nat} {o2 : Nat} (h1 : Kept kb ka s) :
    Kept kb ka (State.dbgReadWords s a o2).2 := by
  unfold State.dbgReadWords
  split
  · rename_i v1
    refine Kept.mk2 ?_
    assumption
  · rename_i v2 v3
    refine Kept.dite2 (fun _ => ?_) (fun _ => ?_)
    · refine Kept.mk2 ?_
      assumption
    · split
      · rename_i v4 v5 v6 v7
        extract_lets y1
        clear_value y1
        refine Kept.dite2 (fun _ => ?_) (fun _ => ?_)
        · refine Kept.mk2 ?_
          refine State.eccUncorrectable_kept ?_
          assumption
        · split
          rename_i v8 v9 v10 v11 v12
          have g1 : Kept kb ka v11 := by
            refine Kept.snd v12 ?_
            refine State.dbgReadWords_kept ?_
            refine State.softRead_kept ?_
            assumption
          refine Kept.mk2 ?_
          assumption
      · rename_i v13 v14 v15 v16
        split
        rename_i v17 v18 v19 v20
        have g2 : Kept kb ka v19 := by
          refine Kept.snd v20 ?_
          refine State.regRead_kept ?_
          assumption
        split
        rename_i v21 v22 v23 v24
        have g3 : Kept kb ka v19 := by assumption
        have g4 : Kept kb ka v23 := by
          refine Kept.snd v24 ?_
          refine State.dbgReadWords_kept ?_
          assumption
        refine Kept.mk2 ?_
        assumption
      · rename_i v25 v26 v27 v28
        split
        rename_i v29 v30 v31 v32
        have g5 : Kept kb ka v31 := by
          refine Kept.snd v32 ?_
          refine State.glvWindowRead_kept ?_
          assumption
        split
        rename_i v33 v34 v35 v36
        have g6 : Kept kb ka v31 := by assumption
        have g7 : Kept kb ka v35 := by
          refine Kept.snd v36 ?_
          refine State.dbgReadWords_kept ?_
          assumption
        refine Kept.mk2 ?_
        assumption
      · rename_i v37 v38 v39
        refine Kept.mk2 ?_
        assumption

theorem State.dbgEngWrite_kept {kb : Bool} {ka : State} {s : State} {n : Nat} {i : Nat} {w : Word} (h1 : Kept kb ka s) :
    OptKept kb ka (State.dbgEngWrite s n i w) := by
  have hx : ∀ x, OptKept kb ka (some (s.setEngine n x)) := fun x => State.setEngine_kept h1
  unfold State.dbgEngWrite
  extract_lets x
  clear_value x
  refine OptKept.dite (fun _ => hx _) (fun _ => ?_)
  refine OptKept.dite (fun _ => OptKept.dite (fun _ => True.intro) (fun _ => hx _)) (fun _ => ?_)
  refine OptKept.dite (fun _ => OptKept.dite (fun _ => True.intro) (fun _ => hx _)) (fun _ => ?_)
  refine OptKept.dite (fun _ => hx _) (fun _ => ?_)
  refine OptKept.dite (fun _ => hx _) (fun _ => ?_)
  refine OptKept.dite (fun _ => hx _) (fun _ => ?_)
  refine OptKept.dite (fun _ => hx _) (fun _ => ?_)
  refine OptKept.dite (fun _ => hx _) (fun _ => ?_)
  exact OptKept.dite (fun _ => State.csrWrite_kept h1) (fun _ => True.intro)

theorem State.dbgEngWrites_kept {kb : Bool} {ka : State} {s : State} {n : Nat} {i : Nat} {o3 : List Word} (h1 : Kept kb ka s) :
    Kept kb ka (State.dbgEngWrites s n i o3).2 := by
  unfold State.dbgEngWrites
  split
  · rename_i v1
    refine Kept.mk2 ?_
    assumption
  · rename_i v2 v3 v4
    split
    · rename_i v5 v6 v7
      have g1 : Kept kb ka v6 := by
        refine OptKept.some v7 ?_
        refine State.dbgEngWrite_kept ?_
        assumption
      split
      rename_i v8 v9 v10 v11
      have g2 : Kept kb ka v6 := by assumption
      have g3 : Kept kb ka v10 := by
        refine Kept.snd v11 ?_
        refine State.dbgEngWrites_kept ?_
        assumption
      refine Kept.mk2 ?_
      assumption
    · rename_i v12 v13
      refine Kept.mk2 ?_
      assumption

theorem State.dbgWriteWords_kept {kb : Bool} {ka : State} {s : State} {a : Nat} {o2 : List Word} (h1 : Kept kb ka s) :
    Kept kb ka (State.dbgWriteWords s a o2).2 := by
  unfold State.dbgWriteWords
  split
  · rename_i v1
    refine Kept.mk2 ?_
    assumption
  · rename_i v2 v3 v4
    extract_lets y1
    have g1 : Kept kb ka y1 := by
      unfold y1
      refine State.writeCanon_kept ?_
      assumption
    clear_value y1
    refine Kept.dite2 (fun _ => ?_) (fun _ => ?_)
    · refine Kept.mk2 ?_
      assumption
    · split
      rename_i v5 v6 v7 v8 v9
      have g2 : Kept kb ka v8 := by
        refine Kept.snd v9 ?_
        refine State.dbgWriteWords_kept ?_
        assumption
      refine Kept.mk2 ?_
      assumption

end Sys2Proof.Machine
end

