-- ==== Sys2Proof/Laws/KeptLoader.lean ====
section
/-! SUPPORT. What each operation of Machine/Loader.lean keeps (Laws/Kept.lean). -/

set_option maxRecDepth 4000

namespace Sys2Proof.Machine

theorem State.zeroPlacement_kept {kb : Bool} {ka : State} {s : State} {k : Nat} {mask : Word} (h1 : Kept kb ka s) :
    Kept kb ka (State.zeroPlacement s k mask) := by
  unfold State.zeroPlacement
  extract_lets y1
  have g1 : Kept kb ka y1 := by
    unfold y1
    refine Kept.foldl (fun st1 x1 g2 => ?_) ?_
    · refine Kept.dite (fun _ => ?_) (fun _ => ?_)
      · refine State.zeroMem_kept ?_
        refine State.zeroMem_kept ?_
        assumption
      · assumption
    · assumption
  clear_value y1
  refine Kept.foldl (fun st2 x2 g3 => ?_) ?_
  · refine Kept.dite (fun _ => ?_) (fun _ => ?_)
    · refine State.zeroMem_kept ?_
      assumption
    · assumption
  · assumption

theorem State.setParcel_kept {kb : Bool} {ka : State} {s : State} {base : Nat} {p : Nat} {v : Nat} (h1 : Kept kb ka s) :
    Kept kb ka (State.setParcel s base p v) := by
  unfold State.setParcel
  extract_lets y1
  clear_value y1
  refine State.setWord_kept ?_
  assumption

theorem State.patchLim19_kept {kb : Bool} {ka : State} {s : State} {base : Nat} {p : Nat} {v : ℤ} (h1 : Kept kb ka s) :
    OptKept kb ka (State.patchLim19 s base p v) := by
  unfold State.patchLim19
  extract_lets y1 y2 y3
  clear_value y1
  clear_value y2
  clear_value y3
  refine OptKept.dite (fun _ => ?_) (fun _ => ?_)
  · exact True.intro
  · refine OutKept.mk ?_
    refine State.setParcel_kept ?_
    refine State.setParcel_kept ?_
    assumption

theorem State.relocate_kept {kb : Bool} {ka : State} {s : State} {k : Nat} {sym : Nat} {use : Word} {b : Word} {r : Word × Word} (h1 : Kept kb ka s) :
    OptKept2 kb ka (State.relocate s k sym use b r) := by
  unfold State.relocate
  extract_lets y1 y2 y3 y4 y5 y6 y7 y8
  clear_value y1
  clear_value y2
  clear_value y3
  clear_value y4
  clear_value y5
  clear_value y6
  clear_value y7
  clear_value y8
  split
  · rename_i v1
    split
    · rename_i v2
      exact True.intro
    · rename_i v3
      refine OutKept.mk ?_
      refine Kept.mk2 ?_
      refine State.setWord_kept ?_
      assumption
  · rename_i v4
    split
    · rename_i v5
      split
      · rename_i v6
        refine OutKept.mk ?_
        refine Kept.mk2 ?_
        assumption
      · rename_i v7
        exact True.intro
    · rename_i v8
      split
      · rename_i v9
        split
        · rename_i v10
          refine OutKept.mk ?_
          refine Kept.mk2 ?_
          assumption
        · rename_i v11
          exact True.intro
      · rename_i v12
        split
        · rename_i v13
          split
          · rename_i v14
            refine OutKept.mk ?_
            refine Kept.mk2 ?_
            assumption
          · rename_i v15
            exact True.intro
        · rename_i v16
          split
          · rename_i v17
            split
            · rename_i v18
              exact True.intro
            · rename_i v19
              refine OptKept.map ?_
              refine State.patchLim19_kept ?_
              assumption
          · rename_i v20
            split
            · rename_i v21
              split
              · rename_i v22
                refine OptKept.const ?_
                assumption
              · rename_i v23
                exact True.intro
            · rename_i v24
              split
              · rename_i v25
                split
                · rename_i v26
                  refine OptKept.const ?_
                  assumption
                · rename_i v27
                  exact True.intro
              · rename_i v28
                exact True.intro

theorem State.loadAct_kept {kb : Bool} {ka : State} {s : State} {k : Nat} {sym : Nat} {use : Word} {b : Option Word} {o5 : LoadAct} (h1 : Kept kb ka s) :
    Kept kb ka (State.loadAct s k sym use b o5).1 := by
  unfold State.loadAct
  split
  · rename_i v1
    refine Kept.mk1 ?_
    refine State.zeroPlacement_kept ?_
    assumption
  · rename_i v2 v3 v4
    refine Kept.mk1 ?_
    refine State.setWord_kept ?_
    assumption
  · rename_i v5 v6
    split
    · rename_i v7
      refine Kept.mk1 ?_
      assumption
    · rename_i v8 v9
      split
      · rename_i v10 v11 v12 v13
        have g1 : Kept kb ka v12 := by
          refine OptKept2.some v13 ?_
          refine State.relocate_kept ?_
          assumption
        refine Kept.mk1 ?_
        assumption
      · rename_i v14 v15
        refine Kept.mk1 ?_
        assumption

theorem State.loadArrive_kept {kb : Bool} {ka : State} {s : State} {x : Session} (h1 : Kept kb ka s) :
    Kept kb ka (State.loadArrive s x).1 := by
  unfold State.loadArrive
  extract_lets y1 y2
  clear_value y1
  clear_value y2
  refine Kept.dite1 (fun _ => ?_) (fun _ => ?_)
  · refine Kept.mk1 ?_
    assumption
  · split
    · rename_i v1 v2 v3 v4
      extract_lets y3 y4 y5
      clear_value y3
      clear_value y4
      have g1 : Kept kb ka y5.1 := by
        unfold y5
        refine Kept.foldl1 (fun st1 x1 g2 => ?_) ?_
        · refine State.loadAct_kept ?_
          assumption
        · refine Kept.mk1 ?_
          assumption
      clear_value y5
      refine Kept.mk1 ?_
      assumption
    · rename_i v5 v6 v7
      refine Kept.mk1 ?_
      assumption

theorem State.applyChMap_kept {kb : Bool} {ka : State} {s : State} {m : ChMap} (h1 : Kept kb ka s) :
    Kept kb ka (State.applyChMap s m) := by
  unfold State.applyChMap
  extract_lets y1 y2 y3 y4 y5
  clear_value y1
  have g1 : Kept kb ka y2 := by
    unfold y2
    refine Kept.all ?_
    assumption
  clear_value y2
  have g2 : Kept kb ka y3 := by
    unfold y3
    refine Kept.foldl (fun st1 x1 g3 => ?_) ?_
    · refine Kept.dite (fun _ => ?_) (fun _ => ?_)
      · refine State.emptySection_kept ?_
        assumption
      · assumption
    · assumption
  clear_value y3
  have g4 : Kept kb ka y4 := by
    unfold y4
    refine State.forChannels_kept ?_ ?_
    · assumption
    · intro w1 w2 w3
      refine State.modCh_kept ?_
      refine State.glvOwner_kept ?_
      assumption
  clear_value y4
  have g5 : Kept kb ka y5 := by
    unfold y5
    refine Kept.foldl (fun st2 x2 g6 => ?_) ?_
    · refine Kept.foldl (fun st3 x3 g7 => ?_) ?_
      · refine State.modCh_kept ?_
        assumption
      · assumption
    · assumption
  clear_value y5
  refine Kept.foldl (fun st4 x4 g8 => ?_) ?_
  · refine State.frmUpdate_kept ?_
    assumption
  · assumption

theorem State.placeSection_kept {kb : Bool} {ka : State} {s : State} {k : Nat} {j : Nat} {sym : Nat} {w0 : Word} {w1 : Word} {v : Variant} (h1 : Kept kb ka s) :
    Kept kb ka (State.placeSection s k j sym w0 w1 v) := by
  unfold State.placeSection
  extract_lets y1 y2 y3 y4 y5 y6 y7 y8 y9 y10 y11
  clear_value y1
  have g1 : Kept kb ka y2 := by
    unfold y2
    refine State.setReg_kept rfl ?_
    assumption
  clear_value y2
  have g2 : Kept kb ka y3 := by
    unfold y3
    refine State.setReg_kept rfl ?_
    assumption
  clear_value y3
  have g3 : Kept kb ka y4 := by
    unfold y4
    refine State.setReg_kept rfl ?_
    assumption
  clear_value y4
  have g4 : Kept kb ka y5 := by
    unfold y5
    refine State.setReg_kept rfl ?_
    assumption
  clear_value y5
  have g5 : Kept kb ka y6 := by
    unfold y6
    refine State.setF_kept rfl ?_
    assumption
  clear_value y6
  have g6 : Kept kb ka y7 := by
    unfold y7
    refine State.setF_kept rfl ?_
    assumption
  clear_value y7
  have g7 : Kept kb ka y8 := by
    unfold y8
    refine State.setReg_kept rfl ?_
    assumption
  clear_value y8
  have g8 : Kept kb ka y9 := by
    unfold y9
    refine State.setB_kept rfl ?_
    refine State.setF_kept rfl ?_
    refine State.setF_kept rfl ?_
    refine State.setF_kept rfl ?_
    assumption
  clear_value y9
  have g9 : Kept kb ka y10 := by
    unfold y10
    refine State.modSect_kept ?_
    assumption
  clear_value y10
  have g10 : Kept kb ka y11 := by
    unfold y11
    split
    · rename_i v1 v2
      assumption
    · rename_i v3 v4 v5
      refine Kept.foldl (fun st1 x1 g11 => ?_) ?_
      · refine Kept.dite (fun _ => ?_) (fun _ => ?_)
        · refine Kept.foldl (fun st2 x2 g12 => ?_) ?_
          · refine State.glvOwner_kept ?_
            assumption
          · assumption
        · assumption
      · assumption
  clear_value y11
  refine State.setF_kept rfl ?_
  assumption

theorem State.loadSchedule_kept {kb : Bool} {ka : State} {s : State} {x : Session} {hdr : List Word} {body : List Word} (h1 : Kept kb ka s) :
    Kept kb ka (State.loadSchedule s x hdr body).2 := by
  unfold State.loadSchedule
  extract_lets y1
  split
  · rename_i v1 v2 v3
    refine Kept.mk2 ?_
    refine State.placeSection_kept ?_
    assumption
  · rename_i v4 v5
    refine Kept.mk2 ?_
    refine State.loadFailed_kept ?_
    assumption

end Sys2Proof.Machine
end

