-- ==== Sys2Proof/Laws/KeptImages.lean ====
section
/-! SUPPORT. What each operation of Machine/Images.lean keeps (Laws/Kept.lean). -/

set_option maxRecDepth 4000

namespace Sys2Proof.Machine

theorem State.releaseSve_kept {kb : Bool} {ka : State} {s : State} {entry : Word} (h1 : Kept kb ka s) :
    Kept kb ka (State.releaseSve s entry) := by
  unfold State.releaseSve
  extract_lets y1 y2
  have g1 : Kept kb ka y1 := by
    unfold y1
    refine State.resetSprgn_kept ?_
    refine State.resetSve_kept ?_
    assumption
  clear_value y1
  have g2 : Kept kb ka y2 := by
    unfold y2
    refine State.modEngine_kept ?_
    assumption
  clear_value y2
  refine Kept.dite (fun _ => ?_) (fun _ => ?_)
  · refine State.requestHalt_kept ?_
    assumption
  · assumption

theorem State.checkConfigured_kept {kb : Bool} {ka : State} {s : State} (h1 : Kept kb ka s) :
    Kept kb ka (State.checkConfigured s) := by
  unfold State.checkConfigured
  refine Kept.dite (fun _ => ?_) (fun _ => ?_)
  · refine State.moveDevState_kept ?_
    assumption
  · assumption

theorem State.acceptSup_kept {kb : Bool} {ka : State} {s : State} {body : List Word} (h1 : Kept kb ka s) :
    Kept kb ka (State.acceptSup s body).2 := by
  unfold State.acceptSup
  extract_lets y1
  have g1 : Kept kb ka y1 := by
    unfold y1
    refine State.releaseSve_kept ?_
    assumption
  clear_value y1
  refine Kept.dite2 (fun _ => ?_) (fun _ => ?_)
  · refine Kept.mk2 ?_
    assumption
  · refine Kept.mk2 ?_
    refine State.checkConfigured_kept ?_
    refine State.moveDevState_kept ?_
    assumption

theorem State.acceptChMap_kept {kb : Bool} {ka : State} {s : State} {body : List Word} (h1 : Kept kb ka s) :
    Kept kb ka (State.acceptChMap s body).2 := by
  unfold State.acceptChMap
  split
  · rename_i v1 v2
    refine Kept.mk2 ?_
    assumption
  · rename_i v3 v4 v5
    refine Kept.mk2 ?_
    refine State.checkConfigured_kept ?_
    refine State.applyChMap_kept ?_
    assumption

theorem State.acceptSchedule_kept {kb : Bool} {ka : State} {s : State} {x : Session} (h1 : Kept kb ka s) :
    Kept kb ka (State.acceptSchedule s x).2 := by
  unfold State.acceptSchedule
  extract_lets y1
  clear_value y1
  refine Kept.dite2 (fun _ => ?_) (fun _ => ?_)
  · refine Kept.mk2 ?_
    refine State.loadFailed_kept ?_
    assumption
  · refine State.loadSchedule_kept ?_
    assumption

theorem State.limitsBlock_kept {kb : Bool} {ka : State} {s : State} {first : Nat} {count : Nat} (h1 : Kept kb ka s) :
    Kept kb ka (State.limitsBlock s first count) := by
  unfold State.limitsBlock
  refine Kept.foldl (fun st1 x1 g1 => ?_) ?_
  · extract_lets y1 y2
    clear_value y1
    clear_value y2
    refine Kept.dite (fun _ => ?_) (fun _ => ?_)
    · refine Kept.dite (fun _ => ?_) (fun _ => ?_)
      · assumption
      · refine State.sendLimits_kept ?_
        assumption
    · assumption
  · assumption

theorem State.acceptLimits_kept {kb : Bool} {ka : State} {s : State} {body : List Word} (h1 : Kept kb ka s) :
    Kept kb ka (State.acceptLimits s body).2 := by
  unfold State.acceptLimits
  extract_lets y1 y2 y3 y4
  clear_value y1
  clear_value y2
  have g1 : Kept kb ka y3 := by
    unfold y3
    refine Kept.dite (fun _ => ?_) (fun _ => ?_)
    · refine Kept.foldl (fun st1 x1 g2 => ?_) ?_
      · refine State.glvCompare_kept ?_
        assumption
      · assumption
    · assumption
  clear_value y3
  have g3 : Kept kb ka y4 := by
    unfold y4
    refine Kept.foldl (fun st2 x2 g4 => ?_) ?_
    · refine State.modCh_kept ?_
      assumption
    · assumption
  clear_value y4
  refine Kept.dite2 (fun _ => ?_) (fun _ => ?_)
  · refine Kept.mk2 ?_
    assumption
  · refine Kept.dite2 (fun _ => ?_) (fun _ => ?_)
    · refine Kept.mk2 ?_
      assumption
    · refine Kept.mk2 ?_
      refine State.checkConfigured_kept ?_
      refine State.setLock_kept ?_
      refine State.limitsBlock_kept ?_
      assumption

theorem State.stepEight_kept {kb : Bool} {ka : State} {s : State} {x : Session} (h1 : Kept kb ka s) :
    Kept kb ka (State.stepEight s x).2 := by
  unfold State.stepEight
  extract_lets y1
  clear_value y1
  refine Kept.dite2 (fun _ => ?_) (fun _ => ?_)
  · refine State.acceptSup_kept ?_
    assumption
  · refine Kept.dite2 (fun _ => ?_) (fun _ => ?_)
    · refine State.acceptLimits_kept ?_
      assumption
    · refine Kept.dite2 (fun _ => ?_) (fun _ => ?_)
      · refine State.acceptSchedule_kept ?_
        assumption
      · refine State.acceptChMap_kept ?_
        assumption

theorem State.measure_kept {kb : Bool} {ka : State} {s : State} {x : Session} (h1 : Kept kb ka s) :
    Kept kb ka (State.measure s x) := by
  unfold State.measure
  extract_lets y1 y2
  clear_value y1
  clear_value y2
  refine Kept.dite (fun _ => ?_) (fun _ => ?_)
  · refine State.setMeas_kept ?_
    assumption
  · refine Kept.dite (fun _ => ?_) (fun _ => ?_)
    · refine State.setMeas_kept ?_
      assumption
    · refine Kept.dite (fun _ => ?_) (fun _ => ?_)
      · refine State.setMeas_kept ?_
        assumption
      · refine State.setMeas_kept ?_
        assumption

theorem State.verificationEnd_kept {kb : Bool} {ka : State} {s : State} (h1 : Kept kb ka s) :
    Kept kb ka (State.verificationEnd s) := by
  unfold State.verificationEnd
  split
  · rename_i v1 v2
    assumption
  · rename_i v3 v4 v5
    extract_lets y1 y2 y3
    have g1 : Kept kb ka y1 := by
      unfold y1
      refine State.endCmd_kept ?_
      assumption
    clear_value y1
    clear_value y2
    have g2 : Kept kb ka y3 := by
      unfold y3
      refine Kept.all ?_
      assumption
    clear_value y3
    refine Kept.dite (fun _ => ?_) (fun _ => ?_)
    · assumption
    · split
      rename_i v6 v7 v8 v9 v10
      split
      rename_i v11 v12 v13 v14
      have g3 : Kept kb ka v13 := by
        refine Kept.snd v14 ?_
        refine Kept.dite2 (fun _ => ?_) (fun _ => ?_)
        · refine State.stepEight_kept ?_
          assumption
        · refine Kept.mk2 ?_
          refine Kept.dite (fun _ => ?_) (fun _ => ?_)
          · refine State.loadFailed_kept ?_
            assumption
          · assumption
      extract_lets y4 y5 y6
      have g4 : Kept kb ka y4 := by
        unfold y4
        refine State.setReg_kept rfl ?_
        assumption
      clear_value y4
      have g5 : Kept kb ka y5 := by
        unfold y5
        refine Kept.dite (fun _ => ?_) (fun _ => ?_)
        · refine State.arbCommit_kept ?_
          assumption
        · assumption
      clear_value y5
      have g6 : Kept kb ka y6 := by
        unfold y6
        refine State.measure_kept ?_
        assumption
      clear_value y6
      refine Kept.dite (fun _ => ?_) (fun _ => ?_)
      · refine State.reply_kept ?_
        assumption
      · refine Kept.dite (fun _ => ?_) (fun _ => ?_)
        · refine State.replyState_kept ?_
          assumption
        · refine State.reply_kept ?_
          assumption

theorem execVerificationComplete_kept {kb : Bool} {ka : State} {s : State} (h1 : Kept kb ka s) :
    OutKept kb ka (execVerificationComplete s) := by
  unfold execVerificationComplete
  refine OutKept.mk ?_
  refine State.verificationEnd_kept ?_
  assumption

end Sys2Proof.Machine
end

