-- ==== Sys2Proof/Laws/KeptHost.lean ====
section
/-! SUPPORT. What each operation of Machine/Host.lean keeps (Laws/Kept.lean). -/

set_option maxRecDepth 4000

namespace Sys2Proof.Machine

theorem State.cmdLoadEnd_kept {kb : Bool} {ka : State} {s : State} {h : HostHdr} (h1 : Kept kb ka s) :
    Kept kb ka (State.cmdLoadEnd s h) := by
  unfold State.cmdLoadEnd
  split
  · rename_i v1 v2
    assumption
  · rename_i v3 v4 v5
    extract_lets y1
    clear_value y1
    refine Kept.all ?_
    assumption

theorem State.cmdDbgHalt_kept {kb : Bool} {ka : State} {s : State} {h : HostHdr} {w0 : Word} (h1 : Kept kb ka s) :
    Kept kb ka (State.cmdDbgHalt s h w0) := by
  unfold State.cmdDbgHalt
  extract_lets y1 y2 y3 y4
  clear_value y1
  have g1 : Kept kb ka y2 := by
    unfold y2
    refine Kept.foldl (fun st1 x1 g2 => ?_) ?_
    · refine State.requestHalt_kept ?_
      assumption
    · assumption
  clear_value y2
  clear_value y3
  clear_value y4
  refine State.haltReplies_kept ?_
  refine Kept.all ?_
  assumption

theorem State.cmdDbgStep_kept {kb : Bool} {ka : State} {s : State} {h : HostHdr} {ws : List Word} (h1 : Kept kb ka s) :
    Kept kb ka (State.cmdDbgStep s h ws) := by
  unfold State.cmdDbgStep
  extract_lets y1 y2 y3
  clear_value y1
  have g1 : Kept kb ka y2 := by
    unfold y2
    refine State.stepEngine_kept ?_
    assumption
  clear_value y2
  clear_value y3
  refine Kept.dite (fun _ => ?_) (fun _ => ?_)
  · refine Kept.all ?_
    assumption
  · refine State.replyState_kept ?_
    assumption

theorem State.seqReply_kept {kb : Bool} {ka : State} {h : HostHdr} {r : Rep} (h2 : Kept kb ka r.2.2) :
    Kept kb ka (State.seqReply h r) := by
  unfold State.seqReply
  refine Kept.dite (fun _ => ?_) (fun _ => ?_)
  · refine State.replyState_kept ?_
    assumption
  · refine State.reply_kept ?_
    assumption

theorem repOk_kept {kb : Bool} {ka : State} {s : State} {ws : List Word} (h1 : Kept kb ka s) :
    Kept kb ka (repOk s ws).2.2 := by
  unfold repOk
  dsimp only
  assumption

theorem State.cmdGetStatus_kept {kb : Bool} {ka : State} {s : State} {h : HostHdr} (h1 : Kept kb ka s) :
    Kept kb ka (State.cmdGetStatus s h).2.2 := by
  unfold State.cmdGetStatus
  extract_lets y1 y2 y3 y4
  clear_value y1
  clear_value y2
  clear_value y3
  clear_value y4
  refine repOk_kept ?_
  assumption

theorem State.cmdGetIdentity_kept {kb : Bool} {ka : State} {s : State} (h1 : Kept kb ka s) :
    Kept kb ka (State.cmdGetIdentity s).2.2 := by
  unfold State.cmdGetIdentity
  refine repOk_kept ?_
  assumption

theorem State.cmdGetFeatures_kept {kb : Bool} {ka : State} {s : State} (h1 : Kept kb ka s) :
    Kept kb ka (State.cmdGetFeatures s).2.2 := by
  unfold State.cmdGetFeatures
  refine repOk_kept ?_
  assumption

theorem State.cmdReset_kept {kb : Bool} {ka : State} {s : State} {w0 : Word} (h1 : Kept kb ka s) :
    Kept kb ka (State.cmdReset s w0).2.2 := by
  unfold State.cmdReset
  extract_lets y1
  clear_value y1
  refine Kept.dite22 (fun _ => ?_) (fun _ => ?_)
  · refine repOk_kept ?_
    refine Kept.all ?_
    assumption
  · refine Kept.dite22 (fun _ => ?_) (fun _ => ?_)
    · refine repOk_kept ?_
      refine State.supervisorReset_kept ?_
      assumption
    · refine repOk_kept ?_
      refine State.resetSection_kept ?_
      assumption

theorem repFail_kept {kb : Bool} {ka : State} {s : State} {st : Nat} (h1 : Kept kb ka s) :
    Kept kb ka (repFail s st).2.2 := by
  unfold repFail
  dsimp only
  assumption

theorem State.cmdClearSafe_kept {kb : Bool} {ka : State} {s : State} {h : HostHdr} (h1 : Kept kb ka s) :
    Kept kb ka (State.cmdClearSafe s h).2.2 := by
  unfold State.cmdClearSafe
  refine Kept.dite22 (fun _ => ?_) (fun _ => ?_)
  · refine repFail_kept ?_
    assumption
  · refine repOk_kept ?_
    refine State.sessionCheck_kept ?_
    refine State.leaveSafe_kept (by simp_all) ?_
    assumption

theorem State.cmdLoadBegin_kept {kb : Bool} {ka : State} {s : State} {ws : List Word} (h1 : Kept kb ka s) :
    Kept kb ka (State.cmdLoadBegin s ws).2.2 := by
  unfold State.cmdLoadBegin
  extract_lets y1 y2 y3 y4 y5 y6
  clear_value y1
  clear_value y2
  clear_value y3
  clear_value y4
  have g1 : Kept kb ka y5 := by
    unfold y5
    refine Kept.all ?_
    assumption
  clear_value y5
  have g2 : Kept kb ka y6 := by
    unfold y6
    refine Kept.dite (fun _ => ?_) (fun _ => ?_)
    · refine State.scramble_kept ?_
      assumption
    · refine Kept.dite (fun _ => ?_) (fun _ => ?_)
      · refine State.emptySection_kept ?_
        assumption
      · assumption
  clear_value y6
  refine repOk_kept ?_
  assumption

theorem State.storeImgWords_kept {kb : Bool} {ka : State} {s : State} {ty : Nat} {img : List Word} {start : Nat} (h1 : Kept kb ka s) :
    Kept kb ka (State.storeImgWords s ty img start) := by
  unfold State.storeImgWords
  refine Kept.foldl (fun st1 x1 g1 => ?_) ?_
  · split
    · rename_i v1 v2 v3
      refine Kept.dite (fun _ => ?_) (fun _ => ?_)
      · refine State.setWord_kept ?_
        assumption
      · assumption
    · rename_i v4 v5
      assumption
  · assumption

theorem State.cmdLoadData_kept {kb : Bool} {ka : State} {s : State} {ws : List Word} (h1 : Kept kb ka s) :
    Kept kb ka (State.cmdLoadData s ws).2.2 := by
  unfold State.cmdLoadData
  split
  · rename_i v1 v2
    refine repFail_kept ?_
    assumption
  · rename_i v3 v4 v5
    extract_lets y1 y2 y3 y4 y5
    clear_value y1
    clear_value y2
    have g1 : Kept kb ka y3.1 := by
      unfold y3
      refine State.loadArrive_kept ?_
      refine State.storeImgWords_kept ?_
      assumption
    clear_value y3
    have g2 : Kept kb ka y4 := by
      unfold y4
      assumption
    clear_value y4
    clear_value y5
    refine Kept.dite22 (fun _ => ?_) (fun _ => ?_)
    · refine repFail_kept ?_
      assumption
    · refine repOk_kept ?_
      refine Kept.all ?_
      assumption

theorem State.cmdLoadAbort_kept {kb : Bool} {ka : State} {s : State} (h1 : Kept kb ka s) :
    Kept kb ka (State.cmdLoadAbort s).2.2 := by
  unfold State.cmdLoadAbort
  refine repOk_kept ?_
  refine State.endSession_kept ?_
  assumption

theorem State.cmdMarchRun_kept {kb : Bool} {ka : State} {s : State} {w0 : Word} (h1 : Kept kb ka s) :
    Kept kb ka (State.cmdMarchRun s w0).2.2 := by
  unfold State.cmdMarchRun
  extract_lets y1 y2
  clear_value y1
  have g1 : Kept kb ka y2 := by
    unfold y2
    refine State.marchCtlWrite_kept ?_
    assumption
  clear_value y2
  refine Kept.dite22 (fun _ => ?_) (fun _ => ?_)
  · refine repOk_kept ?_
    assumption
  · refine repFail_kept ?_
    assumption

theorem State.cmdMarchResult_kept {kb : Bool} {ka : State} {s : State} (h1 : Kept kb ka s) :
    Kept kb ka (State.cmdMarchResult s).2.2 := by
  unfold State.cmdMarchResult
  refine repOk_kept ?_
  assumption

theorem State.cmdUnlockPassword_kept {kb : Bool} {ka : State} {s : State} {ws : List Word} (h1 : Kept kb ka s) :
    Kept kb ka (State.cmdUnlockPassword s ws).2.2 := by
  unfold State.cmdUnlockPassword
  split
  rename_i v1 v2 v3 v4
  have g1 : Kept kb ka v3 := by
    refine Kept.snd v4 ?_
    refine State.unlockPassword_kept ?_
    assumption
  dsimp only
  assumption

theorem State.cmdUnlockChallenge_kept {kb : Bool} {ka : State} {s : State} (h1 : Kept kb ka s) :
    Kept kb ka (State.cmdUnlockChallenge s).2.2 := by
  unfold State.cmdUnlockChallenge
  split
  rename_i v1 v2 v3 v4
  have g1 : Kept kb ka v3 := by
    refine Kept.snd v4 ?_
    refine State.unlockChallenge_kept ?_
    assumption
  refine repOk_kept ?_
  assumption

theorem State.cmdUnlockResponse_kept {kb : Bool} {ka : State} {s : State} {ws : List Word} (h1 : Kept kb ka s) :
    Kept kb ka (State.cmdUnlockResponse s ws).2.2 := by
  unfold State.cmdUnlockResponse
  extract_lets y1 y2
  clear_value y1
  clear_value y2
  split
  rename_i v1 v2 v3 v4
  have g1 : Kept kb ka v3 := by
    refine Kept.snd v4 ?_
    refine State.unlockResponse_kept ?_
    assumption
  dsimp only
  assumption

theorem State.cmdDbgResume_kept {kb : Bool} {ka : State} {s : State} {w0 : Word} (h1 : Kept kb ka s) :
    Kept kb ka (State.cmdDbgResume s w0).2.2 := by
  unfold State.cmdDbgResume
  extract_lets y1
  clear_value y1
  refine repOk_kept ?_
  refine Kept.foldl (fun st1 x1 g1 => ?_) ?_
  · refine State.resumeEngine_kept ?_
    assumption
  · assumption

theorem State.cmdDbgRead_kept {kb : Bool} {ka : State} {s : State} {ws : List Word} (h1 : Kept kb ka s) :
    Kept kb ka (State.cmdDbgRead s ws).2.2 := by
  unfold State.cmdDbgRead
  extract_lets y1 y2 y3 y4 y5 y6
  clear_value y1
  clear_value y2
  clear_value y3
  clear_value y4
  have g1 : Kept kb ka y5 := by
    unfold y5
    refine Kept.dite (fun _ => ?_) (fun _ => ?_)
    · refine State.cntCatch_kept ?_
      assumption
    · assumption
  clear_value y5
  clear_value y6
  refine Kept.dite22 (fun _ => ?_) (fun _ => ?_)
  · refine Kept.dite22 (fun _ => ?_) (fun _ => ?_)
    · refine repFail_kept ?_
      assumption
    · dsimp only
      assumption
  · split
    rename_i v1 v2 v3 v4 v5
    have g2 : Kept kb ka v4 := by
      refine Kept.snd v5 ?_
      refine State.dbgReadWords_kept ?_
      assumption
    refine Kept.dite22 (fun _ => ?_) (fun _ => ?_)
    · refine repFail_kept ?_
      assumption
    · dsimp only
      assumption

theorem State.cmdDbgWrite_kept {kb : Bool} {ka : State} {s : State} {ws : List Word} (h1 : Kept kb ka s) :
    Kept kb ka (State.cmdDbgWrite s ws).2.2 := by
  unfold State.cmdDbgWrite
  extract_lets y1 y2 y3 y4 y5
  clear_value y1
  clear_value y2
  clear_value y3
  unfold y4
  clear_value y5
  refine Kept.dite22 (fun _ => ?_) (fun _ => ?_)
  · refine Kept.dite22 (fun _ => ?_) (fun _ => ?_)
    · refine Kept.dite22 (fun _ => ?_) (fun _ => ?_)
      · refine repOk_kept ?_
        refine State.dbgEngWrites_kept ?_
        assumption
      · dsimp only
        refine State.dbgEngWrites_kept ?_
        assumption
    · refine repFail_kept ?_
      assumption
  · refine Kept.dite22 (fun _ => ?_) (fun _ => ?_)
    · refine repOk_kept ?_
      refine State.dbgWriteWords_kept ?_
      assumption
    · dsimp only
      refine State.dbgWriteWords_kept ?_
      assumption

theorem State.cmdDbgCmp_kept {kb : Bool} {ka : State} {s : State} {watch : Bool} {ws : List Word} (h1 : Kept kb ka s) :
    Kept kb ka (State.cmdDbgCmp s watch ws).2.2 := by
  unfold State.cmdDbgCmp
  extract_lets y1 y2 y3
  clear_value y1
  clear_value y2
  have g1 : Kept kb ka y3 := by
    unfold y3
    refine State.csrWrite_kept ?_
    assumption
  clear_value y3
  refine repOk_kept ?_
  refine State.writeReg_kept ?_
  assumption

theorem State.cmdDbgVterm_kept {kb : Bool} {ka : State} {s : State} {ws : List Word} (h1 : Kept kb ka s) :
    Kept kb ka (State.cmdDbgVterm s ws).2.2 := by
  unfold State.cmdDbgVterm
  extract_lets y1 y2 y3 y4 y5 y6 y7
  clear_value y1
  clear_value y2
  clear_value y3
  clear_value y4
  clear_value y5
  clear_value y6
  clear_value y7
  refine Kept.dite22 (fun _ => ?_) (fun _ => ?_)
  · refine repFail_kept ?_
    assumption
  · refine repOk_kept ?_
    refine Kept.all ?_
    assumption

theorem State.cmdDbgGong_kept {kb : Bool} {ka : State} {s : State} {ws : List Word} (h1 : Kept kb ka s) :
    Kept kb ka (State.cmdDbgGong s ws).2.2 := by
  unfold State.cmdDbgGong
  extract_lets y1 y2 y3
  clear_value y1
  clear_value y2
  have g1 : Kept kb ka y3 := by
    unfold y3
    refine Kept.dite (fun _ => ?_) (fun _ => ?_)
    · refine State.gongWrite_kept ?_
      assumption
    · refine Kept.dite (fun _ => ?_) (fun _ => ?_)
      · refine State.fireGong_kept ?_
        assumption
      · assumption
  clear_value y3
  refine repOk_kept ?_
  assumption

theorem State.cmdDbgStatus_kept {kb : Bool} {ka : State} {s : State} (h1 : Kept kb ka s) :
    Kept kb ka (State.cmdDbgStatus s).2.2 := by
  unfold State.cmdDbgStatus
  extract_lets y1 y2 y3
  unfold y1
  unfold y2
  clear_value y3
  refine repOk_kept ?_
  assumption

theorem State.runSeq_kept {kb : Bool} {ka : State} {s : State} {o : Nat} {h : HostHdr} {ws : List Word} (h1 : Kept kb ka s) :
    Kept kb ka (State.runSeq s o h ws) := by
  unfold State.runSeq
  extract_lets y1
  clear_value y1
  refine Kept.dite (fun _ => ?_) (fun _ => ?_)
  · refine State.cmdLoadEnd_kept ?_
    assumption
  · refine Kept.dite (fun _ => ?_) (fun _ => ?_)
    · refine State.cmdDbgHalt_kept ?_
      assumption
    · refine Kept.dite (fun _ => ?_) (fun _ => ?_)
      · refine State.cmdDbgStep_kept ?_
        assumption
      · refine State.seqReply_kept ?_
        refine Kept.dite22 (fun _ => ?_) (fun _ => ?_)
        · refine State.cmdGetStatus_kept ?_
          assumption
        · refine Kept.dite22 (fun _ => ?_) (fun _ => ?_)
          · refine State.cmdGetIdentity_kept ?_
            assumption
          · refine Kept.dite22 (fun _ => ?_) (fun _ => ?_)
            · refine State.cmdGetFeatures_kept ?_
              assumption
            · refine Kept.dite22 (fun _ => ?_) (fun _ => ?_)
              · refine State.cmdReset_kept ?_
                assumption
              · refine Kept.dite22 (fun _ => ?_) (fun _ => ?_)
                · refine repOk_kept ?_
                  refine State.askSafe_kept ?_
                  assumption
                · refine Kept.dite22 (fun _ => ?_) (fun _ => ?_)
                  · refine State.cmdClearSafe_kept ?_
                    assumption
                  · refine Kept.dite22 (fun _ => ?_) (fun _ => ?_)
                    · refine State.cmdLoadBegin_kept ?_
                      assumption
                    · refine Kept.dite22 (fun _ => ?_) (fun _ => ?_)
                      · refine State.cmdLoadData_kept ?_
                        assumption
                      · refine Kept.dite22 (fun _ => ?_) (fun _ => ?_)
                        · refine State.cmdLoadAbort_kept ?_
                          assumption
                        · refine Kept.dite22 (fun _ => ?_) (fun _ => ?_)
                          · refine State.cmdMarchRun_kept ?_
                            assumption
                          · refine Kept.dite22 (fun _ => ?_) (fun _ => ?_)
                            · refine State.cmdMarchResult_kept ?_
                              assumption
                            · refine Kept.dite22 (fun _ => ?_) (fun _ => ?_)
                              · refine State.cmdUnlockPassword_kept ?_
                                assumption
                              · refine Kept.dite22 (fun _ => ?_) (fun _ => ?_)
                                · refine State.cmdUnlockChallenge_kept ?_
                                  assumption
                                · refine Kept.dite22 (fun _ => ?_) (fun _ => ?_)
                                  · refine State.cmdUnlockResponse_kept ?_
                                    assumption
                                  · refine Kept.dite22 (fun _ => ?_) (fun _ => ?_)
                                    · refine repOk_kept ?_
                                      refine State.lockDebug_kept ?_
                                      assumption
                                    · refine Kept.dite22 (fun _ => ?_) (fun _ => ?_)
                                      · split
                                        rename_i v1 v2 v3 v4 v5 v6 v7 v8 v9 v10 v11 v12 v13 v14 v15 v16 v17 v18 v19 v20 v21 v22 v23
                                        have g1 : Kept kb ka v22 := by
                                          refine Kept.snd v23 ?_
                                          refine State.attest_kept ?_
                                          assumption
                                        refine repOk_kept ?_
                                        assumption
                                      · refine Kept.dite22 (fun _ => ?_) (fun _ => ?_)
                                        · refine State.cmdDbgResume_kept ?_
                                          assumption
                                        · refine Kept.dite22 (fun _ => ?_) (fun _ => ?_)
                                          · refine State.cmdDbgRead_kept ?_
                                            assumption
                                          · refine Kept.dite22 (fun _ => ?_) (fun _ => ?_)
                                            · refine State.cmdDbgWrite_kept ?_
                                              assumption
                                            · refine Kept.dite22 (fun _ => ?_) (fun _ => ?_)
                                              · refine State.cmdDbgCmp_kept ?_
                                                assumption
                                              · refine Kept.dite22 (fun _ => ?_) (fun _ => ?_)
                                                · refine State.cmdDbgCmp_kept ?_
                                                  assumption
                                                · refine Kept.dite22 (fun _ => ?_) (fun _ => ?_)
                                                  · refine State.cmdDbgVterm_kept ?_
                                                    assumption
                                                  · refine Kept.dite22 (fun _ => ?_) (fun _ => ?_)
                                                    · refine State.cmdDbgGong_kept ?_
                                                      assumption
                                                    · refine State.cmdDbgStatus_kept ?_
                                                      assumption

theorem State.cmdEventLog_kept {kb : Bool} {ka : State} {s : State} {w0 : Word} (h1 : Kept kb ka s) :
    Kept kb ka (State.cmdEventLog s w0).2.2 := by
  unfold State.cmdEventLog
  extract_lets y1 y2 y3
  clear_value y1
  clear_value y2
  clear_value y3
  refine repOk_kept ?_
  refine Kept.all ?_
  assumption

theorem State.cmdStart_kept {kb : Bool} {ka : State} {s : State} (h1 : Kept kb ka s) :
    Kept kb ka (State.cmdStart s).2.2 := by
  unfold State.cmdStart
  extract_lets y1 y2 y3 y4 y5 y6
  clear_value y1
  have g1 : Kept kb ka y2 := by
    unfold y2
    refine State.setB_kept rfl ?_
    refine State.setB_kept rfl ?_
    assumption
  clear_value y2
  have g2 : Kept kb ka y3 := by
    unfold y3
    refine Kept.foldl (fun st1 x1 g3 => ?_) ?_
    · refine State.laneTryTrain_kept ?_
      assumption
    · assumption
  clear_value y3
  have g4 : Kept kb ka y4 := by
    unfold y4
    refine Kept.foldl (fun st2 x2 g5 => ?_) ?_
    · refine Kept.dite (fun _ => ?_) (fun _ => ?_)
      · refine State.modSect_kept ?_
        assumption
      · assumption
    · assumption
  clear_value y4
  clear_value y5
  have g6 : Kept kb ka y6 := by
    unfold y6
    refine Kept.all ?_
    assumption
  clear_value y6
  refine repOk_kept ?_
  refine State.sessionCheck_kept ?_
  refine State.moveDevState_kept ?_
  assumption

theorem State.cmdStopSection_kept {kb : Bool} {ka : State} {s : State} {w0 : Word} (h1 : Kept kb ka s) :
    Kept kb ka (State.cmdStopSection s w0).2.2 := by
  unfold State.cmdStopSection
  extract_lets y1 y2 y3
  clear_value y1
  clear_value y2
  have g1 : Kept kb ka y3 := by
    unfold y3
    refine State.forChannels_kept ?_ ?_
    · assumption
    · intro w1 w2 w3
      refine State.glvPark_kept ?_
      assumption
  clear_value y3
  refine repOk_kept ?_
  refine State.modSect_kept ?_
  assumption

theorem State.cmdStartSection_kept {kb : Bool} {ka : State} {s : State} {w0 : Word} (h1 : Kept kb ka s) :
    Kept kb ka (State.cmdStartSection s w0).2.2 := by
  unfold State.cmdStartSection
  extract_lets y1
  clear_value y1
  refine repOk_kept ?_
  refine State.modSect_kept ?_
  assumption

theorem State.cmdPark_kept {kb : Bool} {ka : State} {s : State} {ws : List Word} (h1 : Kept kb ka s) :
    Kept kb ka (State.cmdPark s ws).2.2 := by
  unfold State.cmdPark
  refine repOk_kept ?_
  refine State.parkBlock_kept ?_
  assumption

theorem State.cmdRelease_kept {kb : Bool} {ka : State} {s : State} {ws : List Word} (h1 : Kept kb ka s) :
    Kept kb ka (State.cmdRelease s ws).2.2 := by
  unfold State.cmdRelease
  split
  rename_i v1 v2 v3 v4 v5
  have g1 : Kept kb ka v2 := by
    refine Kept.fst v5 ?_
    refine State.releaseBlock_kept ?_
    assumption
  dsimp only
  assumption

theorem State.fwReadWords_kept {kb : Bool} {ka : State} {s : State} {a : Nat} {o2 : Nat} (h1 : Kept kb ka s) :
    Kept kb ka (State.fwReadWords s a o2).2 := by
  unfold State.fwReadWords
  split
  · rename_i v1
    refine Kept.mk2 ?_
    assumption
  · rename_i v2 v3
    extract_lets y1
    clear_value y1
    refine Kept.dite2 (fun _ => ?_) (fun _ => ?_)
    · refine Kept.mk2 ?_
      assumption
    · refine Kept.dite2 (fun _ => ?_) (fun _ => ?_)
      · refine Kept.mk2 ?_
        refine State.eccUncorrectable_kept ?_
        assumption
      · split
        rename_i v4 v5 v6 v7 v8 v9
        have g1 : Kept kb ka v8 := by
          refine Kept.snd v9 ?_
          refine State.readCanon_kept ?_
          refine State.softRead_kept ?_
          assumption
        split
        rename_i v10 v11 v12 v13
        have g2 : Kept kb ka v8 := by assumption
        have g3 : Kept kb ka v12 := by
          refine Kept.snd v13 ?_
          refine State.fwReadWords_kept ?_
          assumption
        refine Kept.mk2 ?_
        assumption

theorem State.cmdRead_kept {kb : Bool} {ka : State} {s : State} {ws : List Word} (h1 : Kept kb ka s) :
    Kept kb ka (State.cmdRead s ws).2.2 := by
  unfold State.cmdRead
  extract_lets y1
  clear_value y1
  split
  rename_i v1 v2 v3 v4
  have g1 : Kept kb ka v3 := by
    refine Kept.snd v4 ?_
    refine State.fwReadWords_kept ?_
    assumption
  dsimp only
  assumption

theorem State.fwWriteWords_kept {kb : Bool} {ka : State} {s : State} {a : Nat} {o2 : List Word} (h1 : Kept kb ka s) :
    Kept kb ka (State.fwWriteWords s a o2).2 := by
  unfold State.fwWriteWords
  split
  · rename_i v1
    refine Kept.mk2 ?_
    assumption
  · rename_i v2 v3 v4
    extract_lets y1
    have g1 : Kept kb ka y1 := by
      unfold y1
      refine State.writeCanon_kept ?_
      assumption
    clear_value y1
    refine Kept.dite2 (fun _ => ?_) (fun _ => ?_)
    · refine Kept.mk2 ?_
      assumption
    · split
      rename_i v5 v6 v7 v8 v9
      have g2 : Kept kb ka v8 := by
        refine Kept.snd v9 ?_
        refine State.fwWriteWords_kept ?_
        assumption
      refine Kept.mk2 ?_
      assumption

theorem State.cmdWrite_kept {kb : Bool} {ka : State} {s : State} {ws : List Word} (h1 : Kept kb ka s) :
    Kept kb ka (State.cmdWrite s ws).2.2 := by
  unfold State.cmdWrite
  extract_lets y1
  clear_value y1
  split
  rename_i v1 v2 v3 v4
  have g1 : Kept kb ka v3 := by
    refine Kept.snd v4 ?_
    refine State.fwWriteWords_kept ?_
    assumption
  refine Kept.dite22 (fun _ => ?_) (fun _ => ?_)
  · refine repOk_kept ?_
    assumption
  · dsimp only
    assumption

theorem State.readRegs_kept {kb : Bool} {ka : State} {s : State} {o1 : List Reg} (h1 : Kept kb ka s) :
    Kept kb ka (State.readRegs s o1).2 := by
  unfold State.readRegs
  split
  · rename_i v1
    refine Kept.mk2 ?_
    assumption
  · rename_i v2 v3 v4
    split
    rename_i v5 v6 v7 v8
    have g1 : Kept kb ka v7 := by
      refine Kept.snd v8 ?_
      refine State.readReg_kept ?_
      assumption
    split
    rename_i v9 v10 v11 v12
    have g2 : Kept kb ka v7 := by assumption
    have g3 : Kept kb ka v11 := by
      refine Kept.snd v12 ?_
      refine State.readRegs_kept ?_
      assumption
    refine Kept.mk2 ?_
    assumption

theorem State.cmdLinkStatus_kept {kb : Bool} {ka : State} {s : State} {w0 : Word} (h1 : Kept kb ka s) :
    Kept kb ka (State.cmdLinkStatus s w0).2.2 := by
  unfold State.cmdLinkStatus
  extract_lets y1
  clear_value y1
  split
  rename_i v1 v2 v3 v4
  have g1 : Kept kb ka v3 := by
    refine Kept.snd v4 ?_
    refine State.readRegs_kept ?_
    assumption
  refine repOk_kept ?_
  assumption

theorem State.cmdLinkRetrain_kept {kb : Bool} {ka : State} {s : State} {w0 : Word} (h1 : Kept kb ka s) :
    Kept kb ka (State.cmdLinkRetrain s w0).2.2 := by
  unfold State.cmdLinkRetrain
  refine repOk_kept ?_
  refine State.laneCommand_kept ?_
  assumption

theorem State.cmdLinkTest_kept {kb : Bool} {ka : State} {s : State} {ws : List Word} (h1 : Kept kb ka s) :
    Kept kb ka (State.cmdLinkTest s ws).2.2 := by
  unfold State.cmdLinkTest
  extract_lets y1
  clear_value y1
  split
  rename_i v1 v2 v3 v4
  have g1 : Kept kb ka v3 := by
    refine Kept.snd v4 ?_
    refine State.readReg_kept ?_
    refine State.laneTestWrite_kept ?_
    assumption
  refine repOk_kept ?_
  assumption

theorem State.cmdHealthReport_kept {kb : Bool} {ka : State} {s : State} (h1 : Kept kb ka s) :
    Kept kb ka (State.cmdHealthReport s).2.2 := by
  unfold State.cmdHealthReport
  refine repOk_kept ?_
  assumption

theorem State.cmdAvsStatus_kept {kb : Bool} {ka : State} {s : State} (h1 : Kept kb ka s) :
    Kept kb ka (State.cmdAvsStatus s).2.2 := by
  unfold State.cmdAvsStatus
  refine repOk_kept ?_
  assumption

theorem State.cmdQueuePush_kept {kb : Bool} {ka : State} {s : State} {ws : List Word} (h1 : Kept kb ka s) :
    Kept kb ka (State.cmdQueuePush s ws).2.2 := by
  unfold State.cmdQueuePush
  extract_lets y1 y2 y3
  have g1 : Kept kb ka y1 := by
    unfold y1
    refine State.qmPushFinish_kept ?_
    assumption
  clear_value y1
  have g2 : Kept kb ka y2 := by
    unfold y2
    refine Kept.foldl (fun st1 x1 g3 => ?_) ?_
    · refine State.setReg_kept rfl ?_
      assumption
    · assumption
  clear_value y2
  have g4 : Kept kb ka y3 := by
    unfold y3
    refine State.qmPushFinish_kept ?_
    refine State.qmPushWrite_kept ?_
    assumption
  clear_value y3
  refine Kept.dite22 (fun _ => ?_) (fun _ => ?_)
  · refine repOk_kept ?_
    assumption
  · refine repFail_kept ?_
    assumption

theorem State.cmdQueueStatus_kept {kb : Bool} {ka : State} {s : State} {w0 : Word} (h1 : Kept kb ka s) :
    Kept kb ka (State.cmdQueueStatus s w0).2.2 := by
  unfold State.cmdQueueStatus
  extract_lets y1 y2
  clear_value y1
  clear_value y2
  refine repOk_kept ?_
  assumption

theorem State.fwEffect_kept {kb : Bool} {ka : State} {s : State} {o : Nat} {ws : List Word} (h1 : Kept kb ka s) :
    Kept kb ka (State.fwEffect s o ws).2.2 := by
  unfold State.fwEffect
  extract_lets y1
  clear_value y1
  refine Kept.dite22 (fun _ => ?_) (fun _ => ?_)
  · refine State.cmdEventLog_kept ?_
    assumption
  · refine Kept.dite22 (fun _ => ?_) (fun _ => ?_)
    · refine State.cmdLoadBegin_kept ?_
      assumption
    · refine Kept.dite22 (fun _ => ?_) (fun _ => ?_)
      · refine State.cmdLoadData_kept ?_
        assumption
      · refine Kept.dite22 (fun _ => ?_) (fun _ => ?_)
        · refine State.cmdStart_kept ?_
          assumption
        · refine Kept.dite22 (fun _ => ?_) (fun _ => ?_)
          · refine State.cmdStopSection_kept ?_
            assumption
          · refine Kept.dite22 (fun _ => ?_) (fun _ => ?_)
            · refine State.cmdStartSection_kept ?_
              assumption
            · refine Kept.dite22 (fun _ => ?_) (fun _ => ?_)
              · refine State.cmdPark_kept ?_
                assumption
              · refine Kept.dite22 (fun _ => ?_) (fun _ => ?_)
                · refine State.cmdRelease_kept ?_
                  assumption
                · refine Kept.dite22 (fun _ => ?_) (fun _ => ?_)
                  · refine State.cmdRead_kept ?_
                    assumption
                  · refine Kept.dite22 (fun _ => ?_) (fun _ => ?_)
                    · refine State.cmdWrite_kept ?_
                      assumption
                    · refine Kept.dite22 (fun _ => ?_) (fun _ => ?_)
                      · refine State.cmdLinkStatus_kept ?_
                        assumption
                      · refine Kept.dite22 (fun _ => ?_) (fun _ => ?_)
                        · refine State.cmdLinkRetrain_kept ?_
                          assumption
                        · refine Kept.dite22 (fun _ => ?_) (fun _ => ?_)
                          · refine State.cmdLinkTest_kept ?_
                            assumption
                          · refine Kept.dite22 (fun _ => ?_) (fun _ => ?_)
                            · refine State.cmdHealthReport_kept ?_
                              assumption
                            · refine Kept.dite22 (fun _ => ?_) (fun _ => ?_)
                              · refine State.cmdAvsStatus_kept ?_
                                assumption
                              · refine Kept.dite22 (fun _ => ?_) (fun _ => ?_)
                                · refine State.cmdQueuePush_kept ?_
                                  assumption
                                · refine Kept.dite22 (fun _ => ?_) (fun _ => ?_)
                                  · refine State.cmdQueueStatus_kept ?_
                                    assumption
                                  · refine repOk_kept ?_
                                    assumption

theorem State.runFirmware_kept {kb : Bool} {ka : State} {s : State} {o : Nat} {h : HostHdr} {ws : List Word} (h1 : Kept kb ka s) :
    Kept kb ka (State.runFirmware s o h ws) := by
  unfold State.runFirmware
  refine Kept.dite (fun _ => ?_) (fun _ => ?_)
  · refine State.handOver_kept ?_
    refine State.cmdLoadEnd_kept ?_
    assumption
  · split
    rename_i v1 v2 v3 v4 v5 v6
    have g1 : Kept kb ka v5 := by
      refine Kept.snd2 v6 ?_
      refine State.fwEffect_kept ?_
      assumption
    refine Kept.dite (fun _ => ?_) (fun _ => ?_)
    · refine State.reply_kept ?_
      assumption
    · refine State.handOver_kept ?_
      assumption

theorem State.decodeCmd_kept {kb : Bool} {ka : State} {s : State} {o : Nat} {h : HostHdr} {ws : List Word} (h1 : Kept kb ka s) :
    Kept kb ka (State.decodeCmd s o h ws) := by
  unfold State.decodeCmd
  refine Kept.dite (fun _ => ?_) (fun _ => ?_)
  · refine State.reply_kept ?_
    assumption
  · refine Kept.dite (fun _ => ?_) (fun _ => ?_)
    · refine State.reply_kept ?_
      assumption
    · split
      · rename_i v1 v2 v3 v4
        refine State.replyState_kept ?_
        assumption
      · rename_i v5 v6 v7 v8 v9
        refine Kept.dite (fun _ => ?_) (fun _ => ?_)
        · refine State.replyState_kept ?_
          assumption
        · refine Kept.dite (fun _ => ?_) (fun _ => ?_)
          · refine State.reply_kept ?_
            assumption
          · refine Kept.dite (fun _ => ?_) (fun _ => ?_)
            · refine State.reply_kept ?_
              assumption
            · refine Kept.dite (fun _ => ?_) (fun _ => ?_)
              · refine State.runSeq_kept ?_
                assumption
              · refine State.runFirmware_kept ?_
                assumption

theorem State.setNack_kept {kb : Bool} {ka : State} {s : State} {b : Bool} (h1 : Kept kb ka s) :
    Kept kb ka (State.setNack s b) := by
  unfold State.setNack
  extract_lets y1
  clear_value y1
  refine Kept.all ?_
  assumption

theorem State.hostCommand_kept {kb : Bool} {ka : State} {s : State} {o : Nat} {h : HostHdr} {ws : List Word} (h1 : Kept kb ka s) :
    Kept kb ka (State.hostCommand s o h ws) := by
  unfold State.hostCommand
  refine Kept.dite (fun _ => ?_) (fun _ => ?_)
  · refine State.decodeCmd_kept ?_
    refine State.safeLevel_kept ?_
    refine State.setNack_kept ?_
    assumption
  · refine State.setNack_kept ?_
    assumption

theorem execGetFeatures_kept {kb : Bool} {ka : State} {h : HostHdr} {ws : List Word} {s : State} (h3 : Kept kb ka s) :
    OutKept kb ka (execGetFeatures h ws s) := by
  unfold execGetFeatures
  refine OutKept.mk ?_
  refine State.hostCommand_kept ?_
  assumption

theorem execQueueStatus_kept {kb : Bool} {ka : State} {h : HostHdr} {ws : List Word} {s : State} (h3 : Kept kb ka s) :
    OutKept kb ka (execQueueStatus h ws s) := by
  unfold execQueueStatus
  refine OutKept.mk ?_
  refine State.hostCommand_kept ?_
  assumption

theorem execMarchRun_kept {kb : Bool} {ka : State} {h : HostHdr} {ws : List Word} {s : State} (h3 : Kept kb ka s) :
    OutKept kb ka (execMarchRun h ws s) := by
  unfold execMarchRun
  refine OutKept.mk ?_
  refine State.hostCommand_kept ?_
  assumption

theorem execClearSafe_kept {kb : Bool} {ka : State} {h : HostHdr} {ws : List Word} {s : State} (h3 : Kept kb ka s) :
    OutKept kb ka (execClearSafe h ws s) := by
  unfold execClearSafe
  refine OutKept.mk ?_
  refine State.hostCommand_kept ?_
  assumption

theorem execUnlockChallenge_kept {kb : Bool} {ka : State} {h : HostHdr} {ws : List Word} {s : State} (h3 : Kept kb ka s) :
    OutKept kb ka (execUnlockChallenge h ws s) := by
  unfold execUnlockChallenge
  refine OutKept.mk ?_
  refine State.hostCommand_kept ?_
  assumption

theorem execReadReg_kept {kb : Bool} {ka : State} {h : HostHdr} {ws : List Word} {s : State} (h3 : Kept kb ka s) :
    OutKept kb ka (execReadReg h ws s) := by
  unfold execReadReg
  refine OutKept.mk ?_
  refine State.hostCommand_kept ?_
  assumption

theorem execStopSection_kept {kb : Bool} {ka : State} {h : HostHdr} {ws : List Word} {s : State} (h3 : Kept kb ka s) :
    OutKept kb ka (execStopSection h ws s) := by
  unfold execStopSection
  refine OutKept.mk ?_
  refine State.hostCommand_kept ?_
  assumption

theorem execStart_kept {kb : Bool} {ka : State} {h : HostHdr} {ws : List Word} {s : State} (h3 : Kept kb ka s) :
    OutKept kb ka (execStart h ws s) := by
  unfold execStart
  refine OutKept.mk ?_
  refine State.hostCommand_kept ?_
  assumption

theorem execReadMem_kept {kb : Bool} {ka : State} {h : HostHdr} {ws : List Word} {s : State} (h3 : Kept kb ka s) :
    OutKept kb ka (execReadMem h ws s) := by
  unfold execReadMem
  refine OutKept.mk ?_
  refine State.hostCommand_kept ?_
  assumption

theorem execReleaseChannels_kept {kb : Bool} {ka : State} {h : HostHdr} {ws : List Word} {s : State} (h3 : Kept kb ka s) :
    OutKept kb ka (execReleaseChannels h ws s) := by
  unfold execReleaseChannels
  refine OutKept.mk ?_
  refine State.hostCommand_kept ?_
  assumption

theorem execGetEventLog_kept {kb : Bool} {ka : State} {h : HostHdr} {ws : List Word} {s : State} (h3 : Kept kb ka s) :
    OutKept kb ka (execGetEventLog h ws s) := by
  unfold execGetEventLog
  refine OutKept.mk ?_
  refine State.hostCommand_kept ?_
  assumption

theorem execWriteMem_kept {kb : Bool} {ka : State} {h : HostHdr} {ws : List Word} {s : State} (h3 : Kept kb ka s) :
    OutKept kb ka (execWriteMem h ws s) := by
  unfold execWriteMem
  refine OutKept.mk ?_
  refine State.hostCommand_kept ?_
  assumption

theorem execAttest_kept {kb : Bool} {ka : State} {h : HostHdr} {ws : List Word} {s : State} (h3 : Kept kb ka s) :
    OutKept kb ka (execAttest h ws s) := by
  unfold execAttest
  refine OutKept.mk ?_
  refine State.hostCommand_kept ?_
  assumption

theorem execLoadEnd_kept {kb : Bool} {ka : State} {h : HostHdr} {ws : List Word} {s : State} (h3 : Kept kb ka s) :
    OutKept kb ka (execLoadEnd h ws s) := by
  unfold execLoadEnd
  refine OutKept.mk ?_
  refine State.hostCommand_kept ?_
  assumption

theorem execDeviceResetDelayEnd_kept {ka : State} {s : State} (h1 : Kept false ka s) :
    OutKept false ka (execDeviceResetDelayEnd s) := by
  unfold execDeviceResetDelayEnd
  refine OutKept.mk ?_
  refine Kept.dite (fun _ => ?_) (fun _ => ?_)
  · refine State.deviceReset_kept ?_
    assumption
  · assumption

theorem State.haltTimeout_kept {kb : Bool} {ka : State} {s : State} (h1 : Kept kb ka s) :
    Kept kb ka (State.haltTimeout s) := by
  unfold State.haltTimeout
  split
  · rename_i v1 v2 v3 v4
    extract_lets y1
    clear_value y1
    refine State.haltReply_kept ?_
    refine Kept.all ?_
    assumption
  · rename_i v5 v6
    assumption

theorem execDbgWrite_kept {kb : Bool} {ka : State} {h : HostHdr} {ws : List Word} {s : State} (h3 : Kept kb ka s) :
    OutKept kb ka (execDbgWrite h ws s) := by
  unfold execDbgWrite
  refine OutKept.mk ?_
  refine State.hostCommand_kept ?_
  assumption

theorem execResetDevice_kept {kb : Bool} {ka : State} {h : HostHdr} {ws : List Word} {s : State} (h3 : Kept kb ka s) :
    OutKept kb ka (execResetDevice h ws s) := by
  unfold execResetDevice
  refine OutKept.mk ?_
  refine State.hostCommand_kept ?_
  assumption

theorem execResetSupervisor_kept {kb : Bool} {ka : State} {h : HostHdr} {ws : List Word} {s : State} (h3 : Kept kb ka s) :
    OutKept kb ka (execResetSupervisor h ws s) := by
  unfold execResetSupervisor
  refine OutKept.mk ?_
  refine State.hostCommand_kept ?_
  assumption

theorem execGetIdentity_kept {kb : Bool} {ka : State} {h : HostHdr} {ws : List Word} {s : State} (h3 : Kept kb ka s) :
    OutKept kb ka (execGetIdentity h ws s) := by
  unfold execGetIdentity
  refine OutKept.mk ?_
  refine State.hostCommand_kept ?_
  assumption

theorem execUnlockResponse_kept {kb : Bool} {ka : State} {h : HostHdr} {ws : List Word} {s : State} (h3 : Kept kb ka s) :
    OutKept kb ka (execUnlockResponse h ws s) := by
  unfold execUnlockResponse
  refine OutKept.mk ?_
  refine State.hostCommand_kept ?_
  assumption

theorem execLinkTest_kept {kb : Bool} {ka : State} {h : HostHdr} {ws : List Word} {s : State} (h3 : Kept kb ka s) :
    OutKept kb ka (execLinkTest h ws s) := by
  unfold execLinkTest
  refine OutKept.mk ?_
  refine State.hostCommand_kept ?_
  assumption

theorem execLoadData_kept {kb : Bool} {ka : State} {h : HostHdr} {ws : List Word} {s : State} (h3 : Kept kb ka s) :
    OutKept kb ka (execLoadData h ws s) := by
  unfold execLoadData
  refine OutKept.mk ?_
  refine State.hostCommand_kept ?_
  assumption

theorem execSafe_kept {kb : Bool} {ka : State} {h : HostHdr} {ws : List Word} {s : State} (h3 : Kept kb ka s) :
    OutKept kb ka (execSafe h ws s) := by
  unfold execSafe
  refine OutKept.mk ?_
  refine State.hostCommand_kept ?_
  assumption

theorem execQueuePush_kept {kb : Bool} {ka : State} {h : HostHdr} {ws : List Word} {s : State} (h3 : Kept kb ka s) :
    OutKept kb ka (execQueuePush h ws s) := by
  unfold execQueuePush
  refine OutKept.mk ?_
  refine State.hostCommand_kept ?_
  assumption

theorem execLoadAbort_kept {kb : Bool} {ka : State} {h : HostHdr} {ws : List Word} {s : State} (h3 : Kept kb ka s) :
    OutKept kb ka (execLoadAbort h ws s) := by
  unfold execLoadAbort
  refine OutKept.mk ?_
  refine State.hostCommand_kept ?_
  assumption

theorem execGetStatus_kept {kb : Bool} {ka : State} {h : HostHdr} {ws : List Word} {s : State} (h3 : Kept kb ka s) :
    OutKept kb ka (execGetStatus h ws s) := by
  unfold execGetStatus
  refine OutKept.mk ?_
  refine State.hostCommand_kept ?_
  assumption

theorem execResetSection_kept {kb : Bool} {ka : State} {h : HostHdr} {ws : List Word} {s : State} (h3 : Kept kb ka s) :
    OutKept kb ka (execResetSection h ws s) := by
  unfold execResetSection
  refine OutKept.mk ?_
  refine State.hostCommand_kept ?_
  assumption

theorem execLoadBegin_kept {kb : Bool} {ka : State} {h : HostHdr} {ws : List Word} {s : State} (h3 : Kept kb ka s) :
    OutKept kb ka (execLoadBegin h ws s) := by
  unfold execLoadBegin
  refine OutKept.mk ?_
  refine State.hostCommand_kept ?_
  assumption

theorem execStartSection_kept {kb : Bool} {ka : State} {h : HostHdr} {ws : List Word} {s : State} (h3 : Kept kb ka s) :
    OutKept kb ka (execStartSection h ws s) := by
  unfold execStartSection
  refine OutKept.mk ?_
  refine State.hostCommand_kept ?_
  assumption

theorem execParkChannels_kept {kb : Bool} {ka : State} {h : HostHdr} {ws : List Word} {s : State} (h3 : Kept kb ka s) :
    OutKept kb ka (execParkChannels h ws s) := by
  unfold execParkChannels
  refine OutKept.mk ?_
  refine State.hostCommand_kept ?_
  assumption

theorem execWriteReg_kept {kb : Bool} {ka : State} {h : HostHdr} {ws : List Word} {s : State} (h3 : Kept kb ka s) :
    OutKept kb ka (execWriteReg h ws s) := by
  unfold execWriteReg
  refine OutKept.mk ?_
  refine State.hostCommand_kept ?_
  assumption

theorem execLinkStatus_kept {kb : Bool} {ka : State} {h : HostHdr} {ws : List Word} {s : State} (h3 : Kept kb ka s) :
    OutKept kb ka (execLinkStatus h ws s) := by
  unfold execLinkStatus
  refine OutKept.mk ?_
  refine State.hostCommand_kept ?_
  assumption

theorem execLinkRetrain_kept {kb : Bool} {ka : State} {h : HostHdr} {ws : List Word} {s : State} (h3 : Kept kb ka s) :
    OutKept kb ka (execLinkRetrain h ws s) := by
  unfold execLinkRetrain
  refine OutKept.mk ?_
  refine State.hostCommand_kept ?_
  assumption

theorem execMarchResult_kept {kb : Bool} {ka : State} {h : HostHdr} {ws : List Word} {s : State} (h3 : Kept kb ka s) :
    OutKept kb ka (execMarchResult h ws s) := by
  unfold execMarchResult
  refine OutKept.mk ?_
  refine State.hostCommand_kept ?_
  assumption

theorem execUnlockPassword_kept {kb : Bool} {ka : State} {h : HostHdr} {ws : List Word} {s : State} (h3 : Kept kb ka s) :
    OutKept kb ka (execUnlockPassword h ws s) := by
  unfold execUnlockPassword
  refine OutKept.mk ?_
  refine State.hostCommand_kept ?_
  assumption

theorem execLock_kept {kb : Bool} {ka : State} {h : HostHdr} {ws : List Word} {s : State} (h3 : Kept kb ka s) :
    OutKept kb ka (execLock h ws s) := by
  unfold execLock
  refine OutKept.mk ?_
  refine State.hostCommand_kept ?_
  assumption

theorem execDbgHalt_kept {kb : Bool} {ka : State} {h : HostHdr} {ws : List Word} {s : State} (h3 : Kept kb ka s) :
    OutKept kb ka (execDbgHalt h ws s) := by
  unfold execDbgHalt
  refine OutKept.mk ?_
  refine State.hostCommand_kept ?_
  assumption

theorem execDbgResume_kept {kb : Bool} {ka : State} {h : HostHdr} {ws : List Word} {s : State} (h3 : Kept kb ka s) :
    OutKept kb ka (execDbgResume h ws s) := by
  unfold execDbgResume
  refine OutKept.mk ?_
  refine State.hostCommand_kept ?_
  assumption

theorem execDbgStep_kept {kb : Bool} {ka : State} {h : HostHdr} {ws : List Word} {s : State} (h3 : Kept kb ka s) :
    OutKept kb ka (execDbgStep h ws s) := by
  unfold execDbgStep
  refine OutKept.mk ?_
  refine State.hostCommand_kept ?_
  assumption

theorem execDbgReplyTimeout_kept {kb : Bool} {ka : State} {s : State} (h1 : Kept kb ka s) :
    OutKept kb ka (execDbgReplyTimeout s) := by
  unfold execDbgReplyTimeout
  refine OutKept.mk ?_
  refine State.haltTimeout_kept ?_
  assumption

theorem execDbgRead_kept {kb : Bool} {ka : State} {h : HostHdr} {ws : List Word} {s : State} (h3 : Kept kb ka s) :
    OutKept kb ka (execDbgRead h ws s) := by
  unfold execDbgRead
  refine OutKept.mk ?_
  refine State.hostCommand_kept ?_
  assumption

theorem execDbgBreak_kept {kb : Bool} {ka : State} {h : HostHdr} {ws : List Word} {s : State} (h3 : Kept kb ka s) :
    OutKept kb ka (execDbgBreak h ws s) := by
  unfold execDbgBreak
  refine OutKept.mk ?_
  refine State.hostCommand_kept ?_
  assumption

theorem execDbgWatch_kept {kb : Bool} {ka : State} {h : HostHdr} {ws : List Word} {s : State} (h3 : Kept kb ka s) :
    OutKept kb ka (execDbgWatch h ws s) := by
  unfold execDbgWatch
  refine OutKept.mk ?_
  refine State.hostCommand_kept ?_
  assumption

theorem execDbgVterm_kept {kb : Bool} {ka : State} {h : HostHdr} {ws : List Word} {s : State} (h3 : Kept kb ka s) :
    OutKept kb ka (execDbgVterm h ws s) := by
  unfold execDbgVterm
  refine OutKept.mk ?_
  refine State.hostCommand_kept ?_
  assumption

theorem execDbgGong_kept {kb : Bool} {ka : State} {h : HostHdr} {ws : List Word} {s : State} (h3 : Kept kb ka s) :
    OutKept kb ka (execDbgGong h ws s) := by
  unfold execDbgGong
  refine OutKept.mk ?_
  refine State.hostCommand_kept ?_
  assumption

theorem execDbgStatus_kept {kb : Bool} {ka : State} {h : HostHdr} {ws : List Word} {s : State} (h3 : Kept kb ka s) :
    OutKept kb ka (execDbgStatus h ws s) := by
  unfold execDbgStatus
  refine OutKept.mk ?_
  refine State.hostCommand_kept ?_
  assumption

theorem execHealthReport_kept {kb : Bool} {ka : State} {h : HostHdr} {ws : List Word} {s : State} (h3 : Kept kb ka s) :
    OutKept kb ka (execHealthReport h ws s) := by
  unfold execHealthReport
  refine OutKept.mk ?_
  refine State.hostCommand_kept ?_
  assumption

theorem execAvsStatus_kept {kb : Bool} {ka : State} {h : HostHdr} {ws : List Word} {s : State} (h3 : Kept kb ka s) :
    OutKept kb ka (execAvsStatus h ws s) := by
  unfold execAvsStatus
  refine OutKept.mk ?_
  refine State.hostCommand_kept ?_
  assumption

theorem execSvc_kept {kb : Bool} {ka : State} {h : HostHdr} {ws : List Word} {s : State} (h3 : Kept kb ka s) :
    OutKept kb ka (execSvc h ws s) := by
  unfold execSvc
  refine OutKept.mk ?_
  refine State.hostCommand_kept ?_
  assumption

end Sys2Proof.Machine
end

