-- ==== Sys2Proof/Laws/KeptI3c.lean ====
section
/-! SUPPORT. What each operation of Machine/I3c.lean keeps (Laws/Kept.lean). -/

set_option maxRecDepth 4000

namespace Sys2Proof.Machine

theorem State.replyEnter_kept {kb : Bool} {ka : State} {s : State} (h1 : Kept kb ka s) :
    Kept kb ka (State.replyEnter s) := by
  unfold State.replyEnter
  split
  · rename_i v1 v2 v3 v4
    refine Kept.dite (fun _ => ?_) (fun _ => ?_)
    · refine State.enqueueReply_kept ?_
      refine State.modSeq_kept ?_
      assumption
    · assumption
  · rename_i v5 v6
    assumption

theorem State.assignDa_kept {kb : Bool} {ka : State} {s : State} {da : BitVec 7} (h1 : Kept kb ka s) :
    Kept kb ka (State.assignDa s da) := by
  unfold State.assignDa
  refine State.modSeq_kept ?_
  assumption

theorem execEntdaa_kept {kb : Bool} {ka : State} {da : BitVec 7} {s : State} (h2 : Kept kb ka s) :
    OutKept kb ka (execEntdaa da s) := by
  unfold execEntdaa
  refine OutKept.mk ?_
  refine State.assignDa_kept ?_
  assumption

theorem State.setCcc_kept {kb : Bool} {ka : State} {s : State} {f : Seq → Seq} (h1 : Kept kb ka s) :
    Kept kb ka (State.setCcc s f) := by
  unfold State.setCcc
  refine State.modSeq_kept ?_
  assumption

theorem execEnec_kept {kb : Bool} {ka : State} {s : State} (h1 : Kept kb ka s) :
    OutKept kb ka (execEnec s) := by
  unfold execEnec
  refine OutKept.mk ?_
  refine State.setCcc_kept ?_
  assumption

theorem execDisec_kept {kb : Bool} {ka : State} {s : State} (h1 : Kept kb ka s) :
    OutKept kb ka (execDisec s) := by
  unfold execDisec
  refine OutKept.mk ?_
  refine State.setCcc_kept ?_
  assumption

theorem State.getCcc_kept {kb : Bool} {ka : State} {s : State} {l : List Octet} (h1 : Kept kb ka s) :
    Kept kb ka (State.getCcc s l) := by
  unfold State.getCcc
  refine State.modSeq_kept ?_
  assumption

theorem execGetbcr_kept {kb : Bool} {ka : State} {s : State} (h1 : Kept kb ka s) :
    OutKept kb ka (execGetbcr s) := by
  unfold execGetbcr
  refine OutKept.mk ?_
  refine State.getCcc_kept ?_
  assumption

theorem execSetmrl_kept {kb : Bool} {ka : State} {v : Fin 65536} {s : State} (h2 : Kept kb ka s) :
    OutKept kb ka (execSetmrl v s) := by
  unfold execSetmrl
  refine OutKept.mk ?_
  refine State.setCcc_kept ?_
  assumption

theorem State.getStatusCcc_kept {kb : Bool} {ka : State} {s : State} {busErr : Bool} (h1 : Kept kb ka s) :
    Kept kb ka (State.getStatusCcc s busErr) := by
  unfold State.getStatusCcc
  extract_lets y1 y2 y3
  clear_value y1
  clear_value y2
  have g1 : Kept kb ka y3 := by
    unfold y3
    refine State.getCcc_kept ?_
    assumption
  clear_value y3
  refine State.modSeq_kept ?_
  assumption

theorem execGetstatus_kept {kb : Bool} {ka : State} {busErr : Bool} {s : State} (h2 : Kept kb ka s) :
    OutKept kb ka (execGetstatus busErr s) := by
  unfold execGetstatus
  refine OutKept.mk ?_
  refine State.getStatusCcc_kept ?_
  assumption

theorem State.targetLogicReset_kept {kb : Bool} {ka : State} {s : State} (h1 : Kept kb ka s) :
    Kept kb ka (State.targetLogicReset s) := by
  unfold State.targetLogicReset
  extract_lets y1 y2 y3
  have g1 : Kept kb ka y1 := by
    unfold y1
    split
    · rename_i v1 v2 v3
      refine Kept.dite (fun _ => ?_) (fun _ => ?_)
      · refine State.loadFailed_kept ?_
        assumption
      · assumption
    · rename_i v4 v5
      assumption
  clear_value y1
  have g2 : Kept kb ka y2 := by
    unfold y2
    refine State.clearMailbox_kept ?_
    assumption
  clear_value y2
  clear_value y3
  refine State.modSeq_kept ?_
  assumption

theorem State.targetReset_kept {ka : State} {s : State} (h1 : Kept false ka s) :
    Kept false ka (State.targetReset s) := by
  unfold State.targetReset
  refine Kept.dite (fun _ => ?_) (fun _ => ?_)
  · assumption
  · refine Kept.dite (fun _ => ?_) (fun _ => ?_)
    · refine State.targetLogicReset_kept ?_
      assumption
    · refine State.deviceReset_kept ?_
      refine State.modSeq_kept ?_
      assumption

theorem execTargetResetPattern_kept {ka : State} {s : State} (h1 : Kept false ka s) :
    OutKept false ka (execTargetResetPattern s) := by
  unfold execTargetResetPattern
  refine OutKept.mk ?_
  refine State.targetReset_kept ?_
  assumption

theorem execRstdaa_kept {kb : Bool} {ka : State} {s : State} (h1 : Kept kb ka s) :
    OutKept kb ka (execRstdaa s) := by
  unfold execRstdaa
  refine OutKept.mk ?_
  refine State.setCcc_kept ?_
  assumption

theorem execSetmwl_kept {kb : Bool} {ka : State} {v : Fin 65536} {s : State} (h2 : Kept kb ka s) :
    OutKept kb ka (execSetmwl v s) := by
  unfold execSetmwl
  refine OutKept.mk ?_
  refine State.setCcc_kept ?_
  assumption

theorem execEnthdr0_kept {kb : Bool} {ka : State} {s : State} (h1 : Kept kb ka s) :
    OutKept kb ka (execEnthdr0 s) := by
  unfold execEnthdr0
  refine OutKept.mk ?_
  refine State.setCcc_kept ?_
  assumption

theorem execGetmrl_kept {kb : Bool} {ka : State} {s : State} (h1 : Kept kb ka s) :
    OutKept kb ka (execGetmrl s) := by
  unfold execGetmrl
  refine OutKept.mk ?_
  refine State.getCcc_kept ?_
  assumption

theorem State.packetWords_kept {kb : Bool} {ka : State} {s : State} {h : Word} {ws : List Word} {low : Bool} (h1 : Kept kb ka s) :
    Kept kb ka (State.packetWords s h ws low) := by
  unfold State.packetWords
  extract_lets y1
  clear_value y1
  refine Kept.dite (fun _ => ?_) (fun _ => ?_)
  · refine State.reply_kept ?_
    assumption
  · refine Kept.dite (fun _ => ?_) (fun _ => ?_)
    · refine State.reply_kept ?_
      assumption
    · refine State.hostCommand_kept ?_
      assumption

theorem State.privateWrite_kept {kb : Bool} {ka : State} {s : State} {os : List Octet} {ddr : Option Octet} {low : Bool} (h1 : Kept kb ka s) :
    Kept kb ka (State.privateWrite s os ddr low) := by
  unfold State.privateWrite
  extract_lets y1 y2 y3 y4 y5
  have g1 : Kept kb ka y1 := by
    unfold y1
    refine State.modSeq_kept ?_
    refine State.safeLevel_kept ?_
    refine State.setNack_kept ?_
    assumption
  clear_value y1
  clear_value y2
  clear_value y3
  clear_value y4
  have g2 : Kept kb ka y5 := by
    unfold y5
    refine State.reply_kept ?_
    assumption
  clear_value y5
  refine Kept.dite (fun _ => ?_) (fun _ => ?_)
  · refine State.setNack_kept ?_
    assumption
  · refine Kept.dite (fun _ => ?_) (fun _ => ?_)
    · refine State.reply_kept ?_
      assumption
    · split
      · rename_i v1 v2 v3 v4
        assumption
      · rename_i v5 v6 v7 v8 v9
        extract_lets y6 y7
        clear_value y6
        clear_value y7
        refine Kept.dite (fun _ => ?_) (fun _ => ?_)
        · refine State.packetWords_kept ?_
          assumption
        · assumption

theorem State.ibiRaise_kept {kb : Bool} {ka : State} {s : State} {nack : Bool} (h1 : Kept kb ka s) :
    Kept kb ka (State.ibiRaise s nack) := by
  unfold State.ibiRaise
  split
  · rename_i v1 v2 v3 v4
    refine Kept.dite (fun _ => ?_) (fun _ => ?_)
    · refine State.modSeq_kept ?_
      assumption
    · assumption
  · rename_i v5 v6
    assumption

theorem execReplyQueueEntry_kept {kb : Bool} {ka : State} {s : State} (h1 : Kept kb ka s) :
    OutKept kb ka (execReplyQueueEntry s) := by
  unfold execReplyQueueEntry
  refine OutKept.mk ?_
  refine State.replyEnter_kept ?_
  assumption

theorem State.privateRead_kept {kb : Bool} {ka : State} {s : State} {n : Nat} {ddr : Option Octet} (h1 : Kept kb ka s) :
    Kept kb ka (State.privateRead s n ddr) := by
  unfold State.privateRead
  split
  · rename_i v1 v2 v3 v4 v5 v6 v7
    extract_lets y1 y2 y3
    clear_value y1
    clear_value y2
    have g1 : Kept kb ka y3.2 := by
      unfold y3
      refine State.drawNat_kept ?_
      assumption
    clear_value y3
    refine Kept.dite (fun _ => ?_) (fun _ => ?_)
    · refine State.setNack_kept ?_
      assumption
    · split
      rename_i v8 v9 v10 v11 v12
      have g2 : Kept kb ka v11 := by
        refine Kept.snd v12 ?_
        refine Kept.dite2 (fun _ => ?_) (fun _ => ?_)
        · refine Kept.mk2 ?_
          assumption
        · refine Kept.mk2 ?_
          assumption
      refine State.modSeq_kept ?_
      assumption
  · rename_i v13 v14 v15
    refine State.setNack_kept ?_
    assumption

theorem execPrivateRead_kept {kb : Bool} {ka : State} {octets : Nat} {ddr : Option Octet} {s : State} (h3 : Kept kb ka s) :
    OutKept kb ka (execPrivateRead octets ddr s) := by
  unfold execPrivateRead
  refine OutKept.mk ?_
  refine State.privateRead_kept ?_
  assumption

theorem execIbiRetry_kept {kb : Bool} {ka : State} {nack : Bool} {s : State} (h2 : Kept kb ka s) :
    OutKept kb ka (execIbiRetry nack s) := by
  unfold execIbiRetry
  refine OutKept.mk ?_
  refine State.ibiRaise_kept ?_
  assumption

theorem execSetdasa_kept {kb : Bool} {ka : State} {static : BitVec 7} {da : BitVec 7} {s : State} (h3 : Kept kb ka s) :
    OutKept kb ka (execSetdasa static da s) := by
  unfold execSetdasa
  refine OutKept.mk ?_
  refine Kept.dite (fun _ => ?_) (fun _ => ?_)
  · refine State.assignDa_kept ?_
    assumption
  · refine State.modSeq_kept ?_
    assumption

theorem execGetpid_kept {kb : Bool} {ka : State} {s : State} (h1 : Kept kb ka s) :
    OutKept kb ka (execGetpid s) := by
  unfold execGetpid
  refine OutKept.mk ?_
  refine State.getCcc_kept ?_
  assumption

theorem execGetdcr_kept {kb : Bool} {ka : State} {s : State} (h1 : Kept kb ka s) :
    OutKept kb ka (execGetdcr s) := by
  unfold execGetdcr
  refine OutKept.mk ?_
  refine State.getCcc_kept ?_
  assumption

theorem execGetmxds_kept {kb : Bool} {ka : State} {s : State} (h1 : Kept kb ka s) :
    OutKept kb ka (execGetmxds s) := by
  unfold execGetmxds
  refine OutKept.mk ?_
  refine State.getCcc_kept ?_
  assumption

theorem execGetmwl_kept {kb : Bool} {ka : State} {s : State} (h1 : Kept kb ka s) :
    OutKept kb ka (execGetmwl s) := by
  unfold execGetmwl
  refine OutKept.mk ?_
  refine State.getCcc_kept ?_
  assumption

theorem execRstact_kept {kb : Bool} {ka : State} {b : Octet} {s : State} (h2 : Kept kb ka s) :
    OutKept kb ka (execRstact b s) := by
  unfold execRstact
  refine OutKept.mk ?_
  refine State.setCcc_kept ?_
  assumption

theorem execPrivateWrite_kept {kb : Bool} {ka : State} {octets : List Octet} {ddr : Option Octet} {safeNLow : Bool} {s : State} (h4 : Kept kb ka s) :
    OutKept kb ka (execPrivateWrite octets ddr safeNLow s) := by
  unfold execPrivateWrite
  refine OutKept.mk ?_
  refine State.privateWrite_kept ?_
  assumption

end Sys2Proof.Machine
end

