-- ==== Sys2Proof/Laws/KeptPower.lean ====
section
/-! SUPPORT. What each operation of Machine/Power.lean keeps (Laws/Kept.lean). -/

set_option maxRecDepth 4000

namespace Sys2Proof.Machine

theorem State.refLnLost_kept {kb : Bool} {ka : State} {s : State} (h1 : Kept kb ka s) :
    Kept kb ka (State.refLnLost s) := by
  unfold State.refLnLost
  refine Kept.foldl (fun st1 x1 g1 => ?_) ?_
  · refine Kept.dite (fun _ => ?_) (fun _ => ?_)
    · assumption
    · refine State.laneLeave_kept ?_
      assumption
  · assumption

theorem State.addSpares_kept {kb : Bool} {ka : State} {s : State} {l : List (Nat × Nat × Nat × Nat)} (h1 : Kept kb ka s) :
    Kept kb ka (State.addSpares s l) := by
  unfold State.addSpares
  refine Kept.foldl (fun st1 x1 g1 => ?_) ?_
  · extract_lets y1 y2
    clear_value y1
    clear_value y2
    refine Kept.all ?_
    assumption
  · assumption

theorem State.bootSummary_kept {kb : Bool} {ka : State} {s : State} {rep : BootMarch} (h1 : Kept kb ka s) :
    Kept kb ka (State.bootSummary s rep) := by
  unfold State.bootSummary
  extract_lets y1 y2
  clear_value y1
  clear_value y2
  refine State.setReg_kept rfl ?_
  refine State.setReg_kept rfl ?_
  assumption

theorem execRefclkLnLoss_kept {kb : Bool} {ka : State} {s : State} (h1 : Kept kb ka s) :
    OutKept kb ka (execRefclkLnLoss s) := by
  unfold execRefclkLnLoss
  refine OutKept.mk ?_
  refine State.refLnLost_kept ?_
  assumption

theorem State.safeAtExit_kept {kb : Bool} {ka : State} {s : State} {low : Bool} (h1 : Kept kb ka s) :
    Kept kb ka (State.safeAtExit s low) := by
  unfold State.safeAtExit
  extract_lets y1 y2 y3 y4
  clear_value y1
  clear_value y2
  clear_value y3
  have g1 : Kept kb ka y4 := by
    unfold y4
    refine Kept.all ?_
    assumption
  clear_value y4
  refine Kept.dite (fun _ => ?_) (fun _ => ?_)
  · refine State.enterSafe_kept ?_
    assumption
  · assumption

theorem State.selftestEnd_kept {kb : Bool} {ka : State} {s : State} {low : Bool} (h1 : Kept kb ka s) :
    Kept kb ka (State.selftestEnd s low) := by
  unfold State.selftestEnd
  refine Kept.dite (fun h => State.safeAtExit_kept (State.setDevState_kept (fun x => ?_) h1)) (fun _ => h1)
  rcases x with x | x
  · exact absurd (h.1.symm.trans x) (by decide)
  · exact absurd (h.1.symm.trans x.1) (by decide)

theorem execSelftestEnd_kept {kb : Bool} {ka : State} {safeNLow : Bool} {s : State} (h2 : Kept kb ka s) :
    OutKept kb ka (execSelftestEnd safeNLow s) := by
  unfold execSelftestEnd
  refine OutKept.mk ?_
  refine State.selftestEnd_kept ?_
  assumption

theorem State.bootFence_kept {kb : Bool} {ka : State} {s : State} {n : Nat} (h1 : Kept kb ka s) :
    Kept kb ka (State.bootFence s n) := by
  unfold State.bootFence
  refine Kept.dite (fun _ => ?_) (fun _ => ?_)
  · assumption
  · refine Kept.dite (fun _ => ?_) (fun _ => ?_)
    · refine State.modEngine_kept ?_
      assumption
    · refine State.fenceEngine_kept ?_
      assumption

theorem State.otpFound_kept {kb : Bool} {ka : State} {s : State} {l : List (Fin 1024)} (h1 : Kept kb ka s) :
    Kept kb ka (State.otpFound s l) := by
  unfold State.otpFound
  refine Kept.foldl (fun st1 x1 g1 => ?_) ?_
  · extract_lets y1
    clear_value y1
    refine Kept.all ?_
    assumption
  · assumption

theorem State.safeSampled_kept {kb : Bool} {ka : State} {s : State} {low : Bool} (h1 : Kept kb ka s) :
    Kept kb ka (State.safeSampled s low) := by
  unfold State.safeSampled
  extract_lets y1
  clear_value y1
  refine Kept.all ?_
  assumption

theorem State.bootMarchEnd_kept {kb : Bool} {ka : State} {s : State} {rep : BootMarch} (h1 : Kept kb ka s) :
    Kept kb ka (State.bootMarchEnd s rep) := by
  unfold State.bootMarchEnd
  extract_lets y1 y2 y3 y4 y5 y6 y7 y8 y9
  have g1 : Kept kb ka y1 := by
    unfold y1
    refine State.safeSampled_kept ?_
    assumption
  clear_value y1
  clear_value y2
  have g2 : Kept kb ka y3 := by
    unfold y3
    refine Kept.all ?_
    assumption
  clear_value y3
  have g3 : Kept kb ka y4 := by
    unfold y4
    refine State.addSpares_kept ?_
    refine Kept.foldl (fun st1 x1 g4 => ?_) ?_
    · refine State.zeroMem_kept ?_
      assumption
    · assumption
  clear_value y4
  have g5 : Kept kb ka y5 := by
    unfold y5
    refine State.forChannels_kept ?_ ?_
    · assumption
    · intro w1 w2 w3
      refine State.modCh_kept ?_
      assumption
  clear_value y5
  have g6 : Kept kb ka y6 := by
    unfold y6
    refine State.bootSummary_kept ?_
    assumption
  clear_value y6
  have g7 : Kept kb ka y7 := by
    unfold y7
    refine Kept.foldl (fun st2 x2 g8 => ?_) ?_
    · refine State.floorRaise_kept ?_
      assumption
    · assumption
  clear_value y7
  have g9 : Kept kb ka y8 := by
    unfold y8
    refine Kept.foldl (fun st3 x3 g10 => ?_) ?_
    · refine State.bootFence_kept ?_
      assumption
    · assumption
  clear_value y8
  have g11 : Kept kb ka y9 := by
    unfold y9
    refine Kept.foldl (fun st4 x4 g12 => ?_) ?_
    · refine Kept.foldl (fun st5 x5 g13 => ?_) ?_
      · refine State.bootFence_kept ?_
        assumption
      · assumption
    · assumption
  clear_value y9
  refine Kept.dite (fun _ => ?_) (fun _ => ?_)
  · assumption
  · refine Kept.dite (fun _ => ?_) (fun _ => ?_)
    · refine State.safeAtExit_kept ?_
      refine State.setDevState_kept (fun _ => rfl) ?_
      assumption
    · assumption

theorem execBootMarchComplete_kept {kb : Bool} {ka : State} {rep : BootMarch} {s : State} (h2 : Kept kb ka s) :
    OutKept kb ka (execBootMarchComplete rep s) := by
  unfold execBootMarchComplete
  refine OutKept.mk ?_
  refine State.bootMarchEnd_kept ?_
  assumption

theorem State.applyTrims_kept {kb : Bool} {ka : State} {s : State} {usable : List Word} {floor : Nat} (h1 : Kept kb ka s) :
    Kept kb ka (State.applyTrims s usable floor) := by
  unfold State.applyTrims
  extract_lets y1
  have g1 : Kept kb ka y1 := by
    unfold y1
    refine Kept.foldl (fun st1 x1 g2 => ?_) ?_
    · refine State.setF_kept rfl ?_
      assumption
    · assumption
  clear_value y1
  refine State.setF_kept rfl ?_
  assumption

theorem State.fuseEnd_kept {kb : Bool} {ka : State} {s : State} {f : FuseLoad} (h1 : Kept kb ka s) :
    Kept kb ka (State.fuseEnd s f) := by
  unfold State.fuseEnd
  refine Kept.dite (fun _ => h1) (fun h => ?_)
  have h0 : s.devState = 0 := by
    by_contra e
    exact h (.inr (.inl e))
  extract_lets s0 lc bad march s1 hm s2 s3 s4 mm s5
  have hd : s0.devState = 0 := by
    have e : s0.regs = s.regs := (State.addSpares_regs _ _).trans (State.otpFound_regs _ _)
    rw [← h0]
    simp [State.devState, State.getF, State.reg, e]
  have g0 : Kept kb ka s0 := State.safeSampled_kept (State.addSpares_kept (State.otpFound_kept h1))
  have hf : s0.inFault → False := by
    rintro (x | x)
    · exact absurd (hd.symm.trans x) (by decide)
    · exact absurd (hd.symm.trans x.1) (by decide)
  clear_value s0
  have g1 : Kept kb ka s1 := State.setDevState_kept (fun x => (hf x).elim) g0
  clear_value s1 lc march
  have g2 : Kept kb ka s2 := Kept.all g1
  clear_value s2
  have g3 : Kept kb ka s3 := State.boundary_kept (State.applyTrims_kept (State.levelAtFuse_kept g2))
  clear_value s3
  have g5 : Kept kb ka s5 := by
    refine Kept.dite (fun _ => Kept.all (State.setB_kept (f := F.MARCH_STS_BUSY) rfl g3)) (fun _ => ?_)
    exact Kept.foldl (fun st m g => State.scramble_kept g) g3
  clear_value s5
  exact Kept.dite (fun _ => State.safeAtExit_kept g5) (fun _ => g5)

theorem execFuseLoadEnd_kept {kb : Bool} {ka : State} {f : FuseLoad} {s : State} (h2 : Kept kb ka s) :
    OutKept kb ka (execFuseLoadEnd f s) := by
  unfold execFuseLoadEnd
  refine OutKept.mk ?_
  refine State.fuseEnd_kept ?_
  assumption

end Sys2Proof.Machine
end

