-- ==== Sys2Proof/Laws/Ops.lean ====
section
/-! SUPPORT. What the shared operations over memory, the Glove and the reply queue do, said once for each, so that proofs cite
these and need not unfold them. -/

namespace Sys2Proof.Machine

/-! ## Memory -/

@[simp] theorem State.memHeld_clearResv (s : State) (k ca : Nat) : (s.clearResv k).memHeld ca = s.memHeld ca := rfl
@[simp] theorem State.word_clearResv (s : State) (k ca : Nat) : (s.clearResv k).word ca = s.word ca := rfl

@[simp] theorem State.memHeld_setWord (s : State) (ca : Nat) (w : Word) (x : Nat) : (s.setWord ca w).memHeld x = s.memHeld x := by
  unfold State.setWord; split <;> rfl

/-- A word that no march run holds reads as it was written. -/
theorem State.word_setWord_self {s : State} {ca x : Nat} {w : Word} (hh : s.memHeld ca = false) (hx : x / 4 = ca / 4) :
    (s.setWord ca w).word x = w := by
  have h' : s.memHeld x = false := by simpa [State.memHeld, hx] using hh
  have : (s.setWord ca w).memHeld x = false := by simp [h']
  simp [State.word, this]
  simp [State.setWord, hh, State.clearResv, hx]

/-- Writing a word leaves every other word alone. -/
theorem State.word_setWord_ne {s : State} {ca x : Nat} {w : Word} (hx : x / 4 ≠ ca / 4) : (s.setWord ca w).word x = s.word x := by
  cases hh : s.memHeld ca
  · unfold State.word
    rw [State.memHeld_setWord]
    simp [State.setWord, hh, State.clearResv, SMap.get_set_ne hx]
  · simp [State.setWord, hh]

/-- A whole word written has fresh check bits (R289). -/
theorem State.isBad_setWord_self {s : State} {ca x : Nat} {w : Word} (hx : x / 4 = ca / 4) : (s.setWord ca w).isBad x = false := by
  have h' : s.memHeld x = s.memHeld ca := by simp [State.memHeld, hx]
  unfold State.isBad
  rw [State.memHeld_setWord, h']
  cases hh : s.memHeld ca
  · simp [State.setWord, hh, State.clearResv, hx]
  · rfl

/-- A cleared memory reads as zero (R321, R396). -/
theorem State.word_zeroMem {s : State} {m : MemId} {ca : Nat} (h : memOf (4 * (ca / 4)) = some m) : (s.zeroMem m).word ca = 0 := by
  have hm : (s.zeroMem m).memHeld ca = s.memHeld ca := rfl
  unfold State.word
  rw [hm]
  cases hh : s.memHeld ca
  · simp [State.zeroMem, State.resetMem, SMap.get_drop, h, memDflt]
  · rfl

/-- A memory whose contents are undefined reads as a new generation of free words. -/
theorem State.word_scramble {s : State} {m : MemId} {ca : Nat} (hh : s.memHeld ca = false) (h : memOf (4 * (ca / 4)) = some m) :
    (s.scramble m).word ca = Config.freeWord (s.fresh + 1) (ca / 4) := by
  have hm : (s.scramble m).memHeld ca = false := hh
  unfold State.word
  rw [hm]
  simp [State.scramble, State.resetMem, SMap.get_drop, h, memDflt]

theorem SMap.get_congr {α : Type} {d d' : Nat → α} {k : Nat} (h : d k = d' k) : ∀ m : SMap α, SMap.get d m k = SMap.get d' m k
  | [] => h
  | e :: m => by simp only [SMap.get]; split <;> first | rfl | exact SMap.get_congr h m

/-- Forgetting one memory leaves every other alone. -/
theorem State.word_resetMem_ne {s : State} {m : MemId} {g ca : Nat} (h : memOf (4 * (ca / 4)) ≠ some m) :
    (s.resetMem m g).word ca = s.word ca := by
  have hm : (s.resetMem m g).memHeld ca = s.memHeld ca := rfl
  unfold State.word
  rw [hm]
  simp only [State.resetMem, SMap.get_drop, h, decide_false, Bool.false_eq_true, if_false]
  rw [SMap.get_congr (memDflt_set h)]

/-! ## The Glove -/

theorem State.fireSource_ch (s : State) (f : Nat × Nat) (c : Nat) : (s.fireSource f).ch c = s.ch c := by
  unfold State.fireSource
  generalize List.range 8 = l
  induction l generalizing s with
  | nil => rfl
  | cons g l ih => rw [List.foldl_cons, ih]; split <;> rfl

theorem State.glvPostTrip_ch (s : State) (c cause j : Nat) : (s.glvPostTrip c cause).ch j = s.ch j := by
  simp only [State.glvPostTrip, State.fireSource_ch]
  split <;> rfl

theorem State.ch_ite {p : Prop} [Decidable p] {a b : State} {j : Nat} (h : a.ch j = b.ch j) : (if p then a else b).ch j = b.ch j := by
  split
  · exact h
  · rfl

/-- A cause that reaches one channel leaves every other alone. -/
theorem State.glvEnter_ch_ne {s : State} {c j cause act : Nat} {trip : Bool} (hj : j ≠ c) :
    (s.glvEnter c trip cause act).ch j = s.ch j := by
  simp only [State.glvEnter]
  rw [State.ch_ite (State.glvPostTrip_ch _ _ _ _)]
  simp [hj]

/-- A cause reaches a channel (R120, R121). -/
theorem State.glvEnter_takes {s : State} {c cause act : Nat} {trip : Bool} (ha : act < 4) (hc : cause < 32) :
    (s.ch c).takes trip cause act ((s.glvEnter c trip cause act).ch c) := by
  have h1 : (s.ch c).g0.act < 4 := fld_lt _ _ _
  have h2 : (s.ch c).g0.cause < 32 := fld_lt _ _ _
  simp only [State.glvEnter]
  rw [State.ch_ite (State.glvPostTrip_ch _ _ _ _)]
  simp only [State.ch_setCh, if_true]
  generalize s.ch c = x at h1 h2 ⊢
  refine ⟨?_, ?_, ?_, ?_, rfl, rfl, rfl⟩
  all_goals simp only [Chan.modW7, Chan.modEntry, GlvEntry.state, GlvEntry.act, GlvEntry.cause] at h1 h2 ⊢
  all_goals repeat rw [fld_setFld_ne (by omega)]
  all_goals try rw [fld_setFld_self (by omega)]
  · cases trip <;> by_cases h : fld x.g0.w7 35 34 = 2 <;> simp [h]
  · have hm : ∀ n < 4, n % 2 ^ (33 + 1 - 32) = n := fun n hn => Nat.mod_eq_of_lt hn
    rw [hm]
    · by_cases h : fld x.g0.w7 35 34 < 2 <;> by_cases h' : fld x.g0.w7 33 32 < act <;> simp only [h, h', if_true, if_false] <;> omega
    · by_cases h : fld x.g0.w7 35 34 < 2 <;> by_cases h' : fld x.g0.w7 33 32 < act <;> simp [h, h', ha, h1]
  · have hm : ∀ n < 32, n % 2 ^ (31 + 1 - 27) = n := fun n hn => Nat.mod_eq_of_lt hn
    rw [hm]
    · by_cases h : fld x.g0.w7 35 34 < 2 <;> by_cases h' : fld x.g0.w7 31 27 = 26 <;> simp [h, h']
    · by_cases h : fld x.g0.w7 35 34 < 2 <;> by_cases h' : fld x.g0.w7 31 27 = 26 <;> simp [h, h', hc, h2]

/-! ## Replies -/

/-- A command of the sequencer is answered (R406, R407, R410). -/
theorem State.reply_answered (s : State) (status : Nat) (tag : BitVec 9) (noibi : Bool) (words : List Word) :
    s.Answered (s.reply status tag noibi words) status tag noibi words := by
  unfold State.reply
  dsimp only
  generalize hu0 : (if status = stSTATE then s.incF .HOST_STATE_ERR F.HOST_STATE_ERR_COUNT else s) = u
  have hu : u.seq = s.seq := by rw [← hu0]; split <;> rfl
  have hs : u.devState = s.devState := by
    rw [← hu0]; split
    · simp [State.devState, State.incF, State.getF]
    · rfl
  have hreg : ∀ x : Reg, ¬ (x = .HOST_STATE_ERR ∧ status = 3) → u.reg x = s.reg x := by
    intro x hx
    rw [← hu0]; split
    · next h => simp only [State.incF, State.reg_setF]; split
                · next h' => exact absurd ⟨h', h⟩ hx
                · rfl
    · rfl
  have hrest : { u with regs := s.regs, seq := s.seq } = s := by rw [← hu0]; split <;> rfl
  have hcount : status = 3 → u.getF .HOST_STATE_ERR F.HOST_STATE_ERR_COUNT =
      min (2 ^ 36 - 1) (s.getF .HOST_STATE_ERR F.HOST_STATE_ERR_COUNT + 1) := by
    intro h
    have hl : s.getF .HOST_STATE_ERR F.HOST_STATE_ERR_COUNT < 2 ^ 36 := fld_lt _ _ _
    have hm : ∀ n < 2 ^ 36, n % 2 ^ (35 + 1 - 0) = n := fun n hn => Nat.mod_eq_of_lt hn
    have hc : ∀ n, satAdd n 1 (2 ^ (35 + 1 - 0) - 1) = min (2 ^ 36 - 1) (n + 1) := by intro n; simp only [satAdd]; split <;> omega
    rw [← hu0, if_pos (show status = stSTATE from h)]
    unfold State.incF
    rw [State.getF_setF_self _ _ _ _ (by decide)]
    change satAdd _ _ (2 ^ (35 + 1 - 0) - 1) % 2 ^ (35 + 1 - 0) = _
    rw [hc, hm _ (by omega)]
  clear hu0
  split
  · next h =>
    simp only [Bool.and_eq_true, decide_eq_true_eq, List.isEmpty_iff, hu] at h
    have he : u.enqueueReply { status := status, tag := tag, words := words, noibi := noibi, state := 0 } = { u with seq := { u.seq with
        replies := u.seq.replies ++ [{ status := status, tag := tag, words := words, noibi := noibi, state := BitVec.ofNat 9 u.devState }]
        ibis := if s.seq.replies = [] ∧ noibi = false ∧ s.seq.ibiEn = true then ibiInsert 1 s.seq.ibis else s.seq.ibis } } := by
      simp only [State.enqueueReply, State.ibi, hu]
      cases hn : noibi <;> cases hi : s.seq.ibiEn <;> by_cases hl : s.seq.replies = [] <;> simp [hl]
    rw [he]
    refine ⟨⟨hrest, hreg⟩, hcount, fun _ _ => ⟨?_, ?_, rfl⟩, fun hc => absurd h hc, ?_⟩
    · rw [hu, hs]
    · rw [hu]; exact h.2
    · rw [hu]
  · next h =>
    simp only [Bool.and_eq_true, decide_eq_true_eq, List.isEmpty_iff, hu] at h
    refine ⟨⟨hrest, hreg⟩, hcount, fun h1 h2 => absurd ⟨h1, h2⟩ h, fun _ => ⟨?_, ?_, ?_⟩, ?_⟩ <;> simp [hu]

end Sys2Proof.Machine
end

