-- ==== Sys2Proof/WellFormed.lean ====
section
/-! DEFINITION. Which commands the outside can send: the checks on operands that their types leave open. exec has a meaning for
the others too; they are events that no interface of the device carries. -/

namespace Sys2Proof

/-- A word fits n bits. -/
def fits (n : Nat) (w : Word) : Bool := decide (w.toNat < 2 ^ n)

/-- A codeword has 142 payload words (R326). -/
def Codeword.wf (c : Codeword) : Bool := c.pay.length == 142

/-- A failing row names a bank of at most 64. -/
def FailRow.wf (f : FailRow) : Bool := decide (f.bank < 64)

/-- Spare rows exist for kinds 0-7, and each bank has two (R398): memory kind, instance, bank, count. -/
def sparesOk (xs : List (Nat × Nat × Nat × Nat)) : Bool :=
  xs.all (fun x => decide (x.1 < 8 ∧ x.2.1 < 256 ∧ x.2.2.1 < 64 ∧ x.2.2.2 ≤ 2))

/-- The boot march reports spare rows that exist. -/
def BootMarch.wf (r : BootMarch) : Bool := sparesOk r.spares

/-- The trims name the usable engines of the six sections, 32 each, and a FLOOR of 650 to 850 mV (R482). -/
def FuseLoad.wf (f : FuseLoad) : Bool :=
  f.usable.length == 6 && f.usable.all (fits 32) && decide (650 ≤ f.floor.val ∧ f.floor.val ≤ 850) && sparesOk f.repairs

/-- A management message and its header fit one payload (R340). -/
def msgWordsOk (ws : List Word) : Bool := decide (ws.length ≤ 141)

/-- A host packet has at most 511 parameter words (Table 16.2). -/
def hostWordsOk (ws : List Word) : Bool := decide (ws.length ≤ 511)

/-- The three rows of RESET differ in the SCOPE of their parameter word (R418). -/
def resetScope (n : Nat) (ws : List Word) : Bool := match ws with | [w] => w.toNat % 4 == n | _ => false

/-- The check on one command. -/
def Instr.wellFormed : Instr → Bool
  | .upstreamBeatCodeword _ _ c => c.wf
  | .upstreamDataCodeword _ c => c.wf
  | .managementCodeword _ c => c.wf
  | .captureCodeword _ c => c.wf
  | .hubevt _ _ _ ws => msgWordsOk ws
  | .svcMessage _ _ _ ws => msgWordsOk ws
  | .marchComplete fails _ => fails.all FailRow.wf
  | .bootMarchComplete rep => rep.wf
  | .resetDevice _ ws => resetScope 0 ws
  | .resetSupervisor _ ws => resetScope 1 ws
  | .resetSection _ ws => resetScope 2 ws
  | .loadData _ ws => hostWordsOk ws
  | .writeReg _ ws => hostWordsOk ws
  | .writeMem _ ws => hostWordsOk ws
  | .dbgWrite _ ws => hostWordsOk ws
  | .svc _ ws => hostWordsOk ws
  | .fuseLoadEnd f => f.wf
  | .beatInEdge sinceEdge _ high => decide (high ≤ sinceEdge)
  | _ => true

end Sys2Proof
end

