-- ==== Sys2Proof/Tests/Slice0.lean ====
section
/-! SUPPORT. The model's own tests: an ill-formed term for each check of WellFormed, one-step tests whose expected values are worked out
by hand from the rules cited, and for every statement with hypotheses a state and operands that meet them (test_hyp_<statement>,
one conjunct for each clause). -/

namespace Sys2Proof.Tests

set_option Elab.async false

open Sys2Proof Sys2Proof.Machine

/-! ## Small states -/

/-- The state after reset. -/
abbrev s0 : State := State.reset
/-- A list of words, filled with zeros to n. -/
def zs (n : Nat) (ws : List Word) : List Word := (ws ++ List.replicate n 0).take n
/-- A codeword of slot p with header h and the first words of its payload. -/
def cw (p : Nat) (h : BitVec 28) (ws : List Word) : Codeword := { slot := p, fec := true, hdr := h, pay := zs 142 ws }
/-- A host packet header with tag 1. -/
def hh : HostHdr := { tag := 1, noibi := false, safeNLow := false }
/-- The device in state v (Table 16.5) with the supervisor ready, and a target that has a dynamic address. -/
def dev (v : Nat) : State :=
  let s := (s0.setF .HOST_STATE F.HOST_STATE_STATE v).setB .HOST_STATE F.HOST_STATE_SUP true
  { s with seq := { s.seq with da := some 8 }, helm := { s.helm with loaded := true } }
/-- Engine e of the reset state, changed. -/
def en (e : Nat) (f : Engine → Engine) : State := s0.modEngine e f
/-- Lane n of the reset state in lane state v, changed. -/
def lan (n v : Nat) (f : Lane → Lane) : State := (s0.setF (.LN_STS n) F.LN_STS_STATE v).modLn n f
/-- Section k in state v (Table 2.5). -/
def sec (k v : Nat) : State := s0.setF (.SEC_STATE k) F.SEC_STATE_STATE v
/-- The state of an outcome, or the one after reset. -/
def nx : Out → State
  | .next t => t
  | _ => State.reset
/-- A load of n bytes at canonical address a. -/
def ldOf (a n kind : Nat) : Load :=
  { addr := a, iss := a, size := n, signed := false, kind := kind, data := 0, fwd := none, miss := false, trig := 0, pc := 0, seq := 5, ring := 0, hit := false, part1 := none }
/-- Engine 1 of the running section waits at a fence.a, so that section 0 stands still (R150); engine 0 changed. -/
def stE (f : Engine → Engine) : State := (en 1 (fun x => { x with fence := some 2, inBeat := true })).modEngine 0 f
/-- A store-buffer entry of one word at canonical address a. -/
def sbOf (a : Nat) (post glob : Bool) : SbEntry := { addr := a, bytes := [1, 2, 3, 4], post := post, glob := glob, seq := 1, ring := 0, split := false }

/-! ## WellFormed: an ill-formed term for each check -/

theorem test_wf_short_codeword_1 : (Instr.upstreamBeatCodeword 0 0 { cw 0 0 [] with pay := zs 141 [] }).wellFormed = false := by decide +kernel
theorem test_wf_short_codeword_2 : (Instr.upstreamDataCodeword 0 { cw 0 0 [] with pay := zs 143 [] }).wellFormed = false := by decide +kernel
theorem test_wf_short_codeword_3 : (Instr.managementCodeword 0 { cw 0 0 [] with pay := [] }).wellFormed = false := by decide +kernel
theorem test_wf_short_codeword_4 : (Instr.captureCodeword 0 { cw 0 0 [] with pay := [] }).wellFormed = false := by decide +kernel
theorem test_wf_codeword : (Instr.captureCodeword 0 (cw 0 0 [])).wellFormed = true := by decide +kernel
theorem test_wf_long_message : (Instr.hubevt 0 0 true (zs 142 [])).wellFormed = false ∧ (Instr.svcMessage 0 0 true (zs 142 [])).wellFormed = false ∧
    (Instr.svcMessage 0 0 true (zs 141 [])).wellFormed = true := by decide +kernel
theorem test_wf_fail_bank : (Instr.marchComplete [⟨0, 64⟩] false).wellFormed = false ∧ (Instr.marchComplete [⟨0, 63⟩] false).wellFormed = true := by
  decide +kernel
/-- A boot march with spare rows sp. -/
def bm (sp : List (Nat × Nat × Nat × Nat)) (dev : Bool) (fails : Nat) : BootMarch :=
  { spares := sp, engines := [], clusters := [], device := dev, fails := fails, repaired := 0, noSpare := false, unc := false, first := 0, safeNLow := false }
/-- A fuse load with usable engines us, FLOOR f and repair fuses rp. -/
def fz (us : List Word) (f : Fin 1024) (rp : List (Nat × Nat × Nat × Nat)) : FuseLoad :=
  { romOk := true, usable := us, floor := f, otpBad := [], repairs := rp, safeNLow := false }
theorem test_wf_spares : (Instr.bootMarchComplete (bm [(8, 0, 0, 1)] false 0)).wellFormed = false ∧
    (Instr.bootMarchComplete (bm [(0, 256, 0, 1)] false 0)).wellFormed = false ∧ (Instr.bootMarchComplete (bm [(0, 0, 64, 1)] false 0)).wellFormed = false ∧
    (Instr.bootMarchComplete (bm [(0, 0, 0, 3)] false 0)).wellFormed = false ∧ (Instr.bootMarchComplete (bm [(7, 255, 63, 2)] false 0)).wellFormed = true := by
  decide +kernel
theorem test_wf_reset_scope : (Instr.resetDevice hh [1]).wellFormed = false ∧ (Instr.resetSupervisor hh [2]).wellFormed = false ∧
    (Instr.resetSection hh [0]).wellFormed = false ∧ (Instr.resetSection hh []).wellFormed = false ∧ (Instr.resetSection hh [2]).wellFormed = true := by
  decide +kernel
theorem test_wf_long_packet : (Instr.loadData hh (zs 512 [])).wellFormed = false ∧ (Instr.writeReg hh (zs 512 [])).wellFormed = false ∧
    (Instr.writeMem hh (zs 512 [])).wellFormed = false ∧ (Instr.dbgWrite hh (zs 512 [])).wellFormed = false ∧
    (Instr.svc hh (zs 512 [])).wellFormed = false ∧ (Instr.svc hh (zs 511 [])).wellFormed = true := by decide +kernel
theorem test_wf_fuses : (Instr.fuseLoadEnd (fz (zs 5 []) 700 [])).wellFormed = false ∧ (Instr.fuseLoadEnd (fz [2 ^ 32, 0, 0, 0, 0, 0] 700 [])).wellFormed = false ∧
    (Instr.fuseLoadEnd (fz (zs 6 []) 649 [])).wellFormed = false ∧ (Instr.fuseLoadEnd (fz (zs 6 []) 851 [])).wellFormed = false ∧
    (Instr.fuseLoadEnd (fz (zs 6 []) 650 [(0, 0, 0, 3)])).wellFormed = false ∧
    (Instr.fuseLoadEnd (fz (zs 6 []) 650 [])).wellFormed = true ∧ (Instr.fuseLoadEnd (fz (zs 6 []) 850 [(0, 0, 0, 2)])).wellFormed = true := by decide +kernel
theorem test_wf_beat_in : (Instr.beatInEdge 100 50 101).wellFormed = false ∧ (Instr.beatInEdge 100 50 100).wellFormed = true := by decide +kernel
/-- No row of the table has bits (spec/opcode_table.json). -/
theorem test_no_word_spells_a_command : decodeTableWord 8 0 = none ∧ decodeTableWord 36 5 = none := by decide

/-! ## A state and operands that meet the hypotheses of each statement -/

theorem test_hyp_StepRunsTheFrontCommandOrIdles : s0.pending = [] := by decide
theorem test_hyp_StepsKeepEveryTableCanonical : Canonical s0 ∧ step s0 = .next s0 := by
  exact ⟨⟨by decide, by decide, by decide, by decide, by decide, by decide, by decide, by decide, by decide, by decide, by decide, by decide, by decide⟩, rfl⟩
theorem test_hyp_FaultLastsUntilDeviceReset :
    { dev 7 with pending := [.safeNAssert] }.inFault ∧ ((dev 6).setF .HOST_STATE F.HOST_STATE_PREV 7).inFault ∧ mayResetDevice .safeNAssert = false := by
  unfold State.inFault; decide +kernel
theorem test_hyp_GloveLockLastsUntilDeviceReset : (s0.setB .GLV_CTL F.GLV_CTL_LOCK true).glvLocked ∧ mayResetDevice .glvCmdDone = false := by
  unfold State.glvLocked; decide +kernel
/-- Engine 0 with the div operand v, overflow traps on or off. -/
def divE (v : Word) (trap : Bool) : State := en 0 (fun x => (x.setPort 0x0C0 v).setCsrW 0 0 (if trap then 1 else 0))
theorem test_hyp_DivisionsDeliverTheExactQuotientOrFault :
    (((divE 7 false).engine 0).divBusy = false ∧ (2 : Word) ≠ 0) ∧
    (((divE 0x800000000#36 false).engine 0).port 0x0C0 = 0x800000000#36 ∧ (((divE 0x800000000#36 false).engine 0).csrW 0 0).getLsbD 0 = false) ∧
    (((divE 0x800000000#36 true).engine 0).port 0x0C0 = 0x800000000#36 ∧ (((divE 0x800000000#36 true).engine 0).csrW 0 0).getLsbD 0 = true) ∧
    (let l : LongOp := { res := 3, flags := 0, enabled := 0, pc := 0, trig := 0, due := 20 }
     let h : HeldTrig := { socket := 0x0D0, a := 8, t := 2, ctl := 0, pc := 0 }
     let runs := fun (s : State) => s.unitRuns 0 (fun x => x.awaitsLong 0x0D0 0x0D3)
     let s := en 0 (fun x => { x with divOp := some l, held := [h] })
     (s.engine 0).divBusy = true ∧ runs s = true ∧ runs (s.modEngine 0 (fun x => { x with halted := true })) = false ∧ (s0.engine 0).divOp = none ∧
     ((en 0 (fun x => { x with divOp := some l })).engine 0).divOp = some l ∧ (s.engine 0).held = [h] ∧
     0x0D0 ≤ h.socket ∧ { h with socket := 0x0D3 }.socket ≤ 0x0D3) := by decide +kernel
theorem test_hyp_MultiplierAndAccumulatorCommandsFollowTheirTables :
    ((0 : Word).toNat % 4 ≠ 3 ∧ (2 : Word).toNat % 4 ≠ 3 ∧ (3 : Word).toNat % 4 = 3) ∧
    ((0 : Word).toNat / 64 % 4 ≠ 3 ∧ (0x0BF : Word).toNat / 64 % 4 = 2 ∧ (0x0C0 : Word).toNat / 64 % 4 = 3) ∧
    -- 3 / 2 rounds to nearest even and to nearest away at the tie
    ((0x041 : Word).toNat % 64 ≠ 0 ∧ (2 * ((3 : Int) - 2 * 2 ^ 1)).natAbs = 2 ^ 1) := by decide +kernel
/-- FPCTL with every trap enabled. -/
def fpAll : Word := 0x1F0
theorem test_hyp_ShortFloatCommandsDeliverAndRaiseFlags :
    -- an operand exception whose trap is enabled; an inexact result with its trap enabled, with no trap enabled, and no short fault pending
    (let r := fpAdd 0 0x7FC000001#36 0x3FC000000#36
     r.opExc = true ∧ r.flags &&& trapEnables fpAll &&& 24 ≠ 0) ∧
    (let r := fpMul 0 0x3FC000001#36 0x3FC000001#36
     r.opExc = false ∧ r.flags &&& trapEnables fpAll ≠ 0 ∧ r.flags &&& trapEnables 0 = 0 ∧ (s0.engine 0).fpShort = none) := by decide +kernel
theorem test_hyp_SignsComparisonsAndConversionsFollowTheirRules : (0 : Nat) < 4 ∧ (3 : Nat) < 4 := by decide
theorem test_hyp_FloatArithmeticIsCorrectlyRounded :
    (1 ≠ 0 ∧ (3 : Nat) < 4 ∧ 2 * ((roundAt 0 false 3 0 1).1 * 2 ^ 1) = 2 * 3 + 2 ^ 1 ∧ 2 * 1 = 2 * ((roundAt 0 false 1 0 1).1 * 2 ^ 1) + 2 ^ 1) ∧
    (∃ m ex, fpVal 0x3FC000000#36 = .fin false m ex ∧ m ≠ 0) ∧ (∃ m ex, fpVal 0x000000001#36 = .fin false m ex ∧ m ≠ 0) := by
  exact ⟨by decide +kernel, ⟨_, _, rfl, by decide⟩, ⟨_, _, rfl, by decide⟩⟩
theorem test_hyp_DivisionAndRootStartCompleteAndFault :
    (¬ ((fpDiv 0 0x3FC000000#36 0x3FC000000#36).opExc = true ∧ (fpDiv 0 0x3FC000000#36 0x3FC000000#36).flags &&& trapEnables 0 &&& 24 ≠ 0) ∧
      (s0.engine 0).fpLong = none ∧ (s0.engine 0).fplOp = none ∧ ((en 0 (fun x => { x with fpLong := some (0, 8) })).engine 0).fpLong ≠ none) ∧
    (let l : LongOp := { res := 3, flags := 1, enabled := 1, pc := 4, trig := 0, due := 15 }
     let h : HeldTrig := { socket := 0x159, a := 0, t := 0, ctl := 0, pc := 0 }
     let s := en 0 (fun x => { x with fplOp := some l, held := [h] })
     (s.engine 0).fplBusy = true ∧ (s0.engine 0).fplBusy = false ∧ (s0.engine 0).fplRaises = false ∧ (s.engine 0).held = [h] ∧ (s.engine 0).fpLong = none ∧
     s.unitRuns 0 (fun x => x.awaitsLong 0x159 0x15A) = true ∧
     ((en 0 (fun x => { x with fplOp := some l })).engine 0).fplOp = some l ∧ l.flags &&& l.enabled ≠ 0 ∧ { l with enabled := 0 }.flags &&& 0 = 0) ∧
    (let s := en 0 (fun x => { x with fpShort := some (4, 3) })
     (s.engine 0).fpShort = some (4, 3) ∧ (s.engine 0).branch = none ∧ (s.engine 0).halted = false ∧ s.engStalled 0 = false ∧ (s0.engine 0).fpShort = none) := by decide +kernel
/-- Engine 0 in performance mode, with a cacheable region over the shared memory from 0x80000. -/
def cacheE : State := ((en 0 (fun x => { x with csr := [(0, 0x100)] })).setReg (.PRGN_BASE 0 0) 0x80000).setReg (.PRGN_ATTR 0 0) (setFld (setFld (setFld 0 35 35 1) 34 29 18) 28 25 15)
theorem test_hyp_LoadsEnterTheirUnitWithTheirForm_2 :
    -- an entry of the store buffer that holds all of a load, one that holds part of it, and none
    (let b := sbOf 0x10000000 false true
     overlaps b.addr b.bytes.length 0x10000000 4 = true ∧ b.addr ≤ 0x10000000 ∧ 0x10000000 + 4 ≤ b.addr + b.bytes.length ∧
     overlaps b.addr b.bytes.length 0x10000000 8 = true ∧ ¬ 0x10000000 + 8 ≤ b.addr + b.bytes.length ∧ overlaps b.addr b.bytes.length 0x10000004 4 = false) ∧
    -- cacheable and not; a line that the cache has, and one that it lacks
    (s0.cacheable 0 0x80000 4 = false ∧ cacheE.cacheable 0 0x80000 4 = true ∧ (cacheE.engine 0).dLine 0x10000000 = none ∧
      (let s := cacheE.modEngine 0 (fun x => { x with dcache := [(0, some { base := 0x10000000, words := zs 8 [7] })] })
       ∀ j < 4, ((s.engine 0).dLine (0x10000000 + j)).isSome = true)) ∧
    -- an access that crosses to section 1, one that stays
    crossSect 0 0x12000000 = some 1 ∧ crossSect 0 0x10000000 = none := by decide +kernel
theorem test_hyp_LoadsEnterTheirUnitWithTheirForm :
    -- a load that the engine may make, one refused by the map, a misaligned pair; masks at their limits
    -- a load that an entry of the store buffer holds
    ((en 0 (fun x => { x with loads0 := [ldOf (spadBase 0) 4 0], sb := [sbOf (spadBase 0) false false] })).engine 0).loadHeld = true ∧
    (s0.engine 0).loadHeld = false ∧ (s0.engine 0).perf 0 = false ∧
    s0.accessRefused 0 0xFFFC 4 false = none ∧ s0.accessRefused 0 0x20000 4 false ≠ none ∧ s0.accessRefused 0 0x2 8 false = some (3, 2) ∧
    ((0x010 : Word).toNat / 16 % 32 = 1 ∧ (0x030 : Word).toNat / 16 % 32 = 3 ∧ (0x040 : Word).toNat / 16 % 32 = 4 ∧
      (0x100 : Word).toNat / 16 % 32 = 16 ∧ (0x110 : Word).toNat / 16 % 32 = 17) := by decide +kernel
theorem test_hyp_StoresEnterTheBufferAndWriteTheirBytesAlone :
    s0.accessRefused 0 0xFFFC 4 true = none ∧ s0.isCode 0 0xFFFC = false ∧ s0.accessRefused 0 0x40000 4 true ≠ none ∧
    (let s := en 0 (fun x => x.setCsrW 0 0 4)
     s.accessRefused 0 0x40000 4 true = none ∧ s.isCode 0 0x40000 = true) ∧
    -- one part and two, a store buffer with room and a full one
    (4 % 8 + 4 ≤ 8 ∧ ¬ 4 % 8 + 8 ≤ 8 ∧ (s0.engine 0).sbWait = [] ∧ (s0.engine 0).sb.length + 2 ≤ 8 ∧
      ((en 0 (fun x => { x with sb := List.replicate 8 (sbOf 0x40 false false) })).engine 0).sb.length = 8) := by decide +kernel
theorem test_hyp_StoresEnterTheBufferAndWriteTheirBytesAlone_2 :
    ¬ (0 ≤ 2 ∧ 2 < 0 + [(1 : Byte9), 2].length) ∧ (0 ≤ 1 ∧ 1 < 0 + [(1 : Byte9), 2].length) ∧ s0.memHeld 0 = false ∧ s0.isBad 0 = false ∧
    (s0.markBad 0).isBad 0 = true := by decide +kernel
theorem test_hyp_AtomicsActOnTheirWordAtOnce :
    -- the cluster SRAM window of cluster 0 with SEC_CFG.ATOMIC at 0 and at 1; an address outside the window; the reservation held
    s0.getF (.SEC_CFG 0) F.SEC_CFG_ATOMIC = 0 ∧ (s0.setF (.SEC_CFG 0) F.SEC_CFG_ATOMIC 1).getF (.SEC_CFG 0) F.SEC_CFG_ATOMIC = 1 ∧
    atomicRange 0 0x40000 = false ∧ atomicRange 0 0x10000000 = true ∧ s0.accessRefused 0 0x10000000 4 true = none ∧
    ((en 0 (fun x => { x with resv := some 8 })).engine 0).resv = some 8 ∧ overlaps 0x10000000 4 0x10000000 4 = true ∧
    (s0.markBad 0x10000000).isBad 0x10000000 = true ∧ s0.word 0x10000000 = 0 ∧
    -- an earlier post to the word, an earlier store under way; the memory of another section's stall
    (let p : Post := { eng := 0, addr := 0x10000000, bytes := [1], seq := 0 }
     ((s0.modSect 0 (fun x => { x with posts := [p] })).sect 0).posts = [p] ∧ overlaps p.addr p.bytes.length 0x10000000 4 = true) ∧
    (stE id).portHeld 32 0x10000000 = true ∧ s0.portHeld 32 0x10000000 = false ∧ crossSect 32 0x10000000 = some 0 := by decide +kernel
theorem test_hyp_ReturningLoadsDeliverTheirBytes :
    (let b := spadBase 0
     let s := fun l => en 0 (fun x => { x with loads0 := [l] })
     ((s (ldOf b 4 0)).engine 0).loadsOf 0 = [ldOf b 4 0] ∧ (memOf b).isSome = true ∧ (s (ldOf b 4 0)).badWord b 4 = none ∧
     (s (ldOf b 4 0)).olderStore 0 (ldOf b 4 0) = false ∧ ((s (ldOf b 4 0)).markBad b).badWord b 4 = some b ∧
     ((s (ldOf b 4 0)).modEngine 0 (fun x => { x with sb := [sbOf b false false] })).olderStore 0 (ldOf b 4 0) = true ∧
     4 ∈ [1, 2, 4, 8] ∧ { ldOf b 2 0 with signed := true }.size < 4 ∧
     s0.loadRuns 0 0 (ldOf b 4 0) = true ∧ (stE id).loadRuns 0 0 (ldOf b 4 0) = false ∧
     (let l := { ldOf b 4 0 with fwd := some [1, 2, 3, 4], hit := true }
      ([1, 2, 3, 4] : List Byte9).length = l.size ∧ l.hit = true) ∧
     -- an error that a halt kept, in an engine that is halted, locked and neither; a device register
     { ldOf b 4 0 with bad := some b }.bad = some b ∧ ((en 0 (fun x => { x with halted := true })).engine 0).halted = true ∧
     ((en 0 (fun x => { x with locked := true })).engine 0).locked = true ∧ ((en 0 (fun x => { x with inBeat := true })).engine 0).inBeat = true ∧ (s0.engine 0).inBeat = false ∧
     (let a := Reg.HOST_DEVID.addr
      globalLoc a = some (.dev a) ∧ a % 4 = 0 ∧ Reg.ofAddr a = some .HOST_DEVID ∧ Reg.HOST_DEVID.readsStored = true ∧ s0.loadRuns 0 0 (ldOf a 4 0) = true ∧
        s0.olderStore 0 (ldOf a 4 0) = false) ∧
     -- an access of one transaction, and one of two before and after its first part
     ((ldOf b 4 0).iss < 0x10000 ∨ 4 ≤ 8 - b % 8) ∧
     (let l := { ldOf (0x10000000 + 4) 8 0 with part1 := some (List.replicate 4 0) }
      ¬ (l.iss < 0x10000 ∨ l.size ≤ 8 - l.addr % 8) ∧ (memOf (l.addr + 4)).isSome = true ∧ l.part1.map List.length = some (8 - l.addr % 8))) := by decide +kernel
/-- Engine 0 waits with lsu0 for a line that its cache lacks. -/
def missE : State := en 0 (fun x => { x with loads0 := [{ ldOf 0x10000000 4 0 with miss := true }] })
theorem test_hyp_CacheFillsServeTheWaitingLoad :
    (missE.engine 0).loadsOf 0 = [{ ldOf 0x10000000 4 0 with miss := true }] ∧
    (List.range 4).find? (fun j => ((missE.engine 0).dLine (0x10000000 + j)).isNone) = some 0 ∧ missE.badWord 0x10000000 32 = none ∧
    missE.engStalled 0 = false ∧ (stE id).engStalled 0 = true ∧ (stE id).portHeld 32 0x10000000 = true ∧ missE.portHeld 0 0x10000000 = false ∧ (missE.markBad 0x10000000).badWord 0x10000000 32 = some 0x10000000 ∧
    overlaps 0x10000010 4 0x10000000 32 = true ∧
    (let s := missE.modEngine 0 (fun x => { x with dcache := [(0, some { base := 0x10000000, words := zs 8 [] })] })
     (List.range 4).find? (fun j => ((s.engine 0).dLine (0x10000000 + j)).isNone) = none) := by decide +kernel
theorem test_hyp_StoresDrainInOrderToTheirTarget :
    (let s := en 0 (fun x => { x with sb := [sbOf (spadBase 0) false false, sbOf (spadBase 0) false false, sbOf 0x10000000 false true, sbOf (spadBase 0 + 64) true false] })
     (s.engine 0).sb[4]? = none ∧ (s.engine 0).sb[2]? = some (sbOf 0x10000000 false true) ∧
     s.drainHeld 0 1 = true ∧ s.drainHeld 0 0 = false ∧ s.drainHeld 0 2 = false ∧
     overlaps (spadBase 0) 4 (spadBase 0) 4 = true ∧ overlaps (spadBase 0) 4 0x10000000 4 = false ∧ (s.engine 0).loads0 = [] ∧ (s.engine 0).sb.length ≤ 8) ∧
    (s0.advances 0 Engine.awaitsStores = true ∧ (stE id).advances 0 Engine.awaitsStores = false ∧ s0.egressFull 0 = false) ∧
    -- the two parts of a split local store; a split store waits for both of its parts
    (let a := { sbOf (spadBase 0 + 4) false false with split := true }
     let b := { sbOf (spadBase 0 + 8) false false with split := true, seq := 2 }
     ((en 0 (fun x => { x with sb := [a, b] })).engine 0).sbPartner 0 0 = some 1 ∧ a.split = true ∧ b.seq = a.seq + 1) := by
  decide +kernel
theorem test_hyp_StoresDrainInOrderToTheirTarget_full :
    (let o : OutStore := { addr := 0x12000000, bytes := [1, 2, 3, 4], cross := true, seq := 1, ring := 0, split := false }
     let s := en 0 (fun x => { x with outStores := (List.range 128).map (fun i => { o with xq := i }) })
     s.egressFull 0 = true ∧ s0.egressFull 0 = false) := by decide +kernel
theorem test_hyp_StoresUnderWayAndWritebacksReachTheirWords :
    (let o : OutStore := { addr := 0x10000000, bytes := [1, 2, 3, 4], cross := false, seq := 1, ring := 0, split := false }
     let s := fun c : Bool => en 0 (fun x => { x with outStores := [{ o with cross := c }] })
     ((s false).engine 0).outStores[0]? = some o ∧ memOf o.addr ≠ none ∧ o.addr < 2 ^ 36 ∧ ((s true).engine 0).outStores[0]? = some { o with cross := true } ∧
     (s true).getF (.SEC_XQ_MAX 0) F.SEC_XQ_MAX_CYC = 0 ∧ ((s true).setF (.SEC_XQ_MAX 0) F.SEC_XQ_MAX_CYC 5).getF (.SEC_XQ_MAX 0) F.SEC_XQ_MAX_CYC = 5) ∧
    (let p : Post := { eng := 0, addr := 0x10000000, bytes := [1], seq := 1 }
     ((s0.modSect 0 (fun x => { x with posts := [p] })).sect 0).posts[0]? = some p ∧ s0.stalled 0 = false ∧ (stE id).stalled 0 = true ∧
     (stE id).engStalls 1 = true ∧ ((stE id).engine 1).awaitsStores = true ∧ memOf p.addr = memOf (p.addr + 0x80) ∧ p.addr / 8 % 16 = (p.addr + 0x80) / 8 % 16) ∧
    -- a store to a device register; a store of engine 0 into the memory that its own stall holds, awaited by its load and not
    (let a := Reg.BEAT_NUM.addr
     globalLoc a = some (.dev a) ∧ (let w : Word := BitVec.ofNat 36 (1 + 2 * 2 ^ 9 + 3 * 2 ^ 18 + 4 * 2 ^ 27)
       ([1, 2, 3, 4] : List Byte9) = [byteOf w 0, byteOf w 1, byteOf w 2, byteOf w 3])) ∧
    (portSect 0x10000000 = some 0 ∧ (stE id).engStalls 0 = false ∧ ((stE id).engine 1).awaitsStore 1 0x10000000 4 = true ∧ (s0.engine 0).awaitsStore 1 0x10000000 4 = false) ∧
    (s0.memStalled 0x10000000 = false ∧ (stE id).memStalled 0x10000000 = true) := by decide +kernel

theorem test_hyp_BranchesDecideAndLeaveTwoDelaySlots :
    ((s0.engine 0).branch = none ∧ (s0.engine 0).fence = none) ∧
    (let s := en 0 (fun x => { x with rsDepth := 16, csr := [(0, 2)] })
     (s.engine 0).branch = none ∧ (s.engine 0).rsDepth = 16 ∧ bit ((s.engine 0).csrW 0 0) 1 = true) ∧
    (let s := en 0 (fun x => { x with csr := [(0, 2)] })
     (s.engine 0).rsDepth = 0 ∧ bit ((s.engine 0).csrW 0 0) 1 = true) ∧
    (let s := en 0 (fun x => { x with csr := [(0, 0x900)] })
     (s.engine 0).perf 0 = true ∧ bit ((s.engine 0).csrW 0 0) 11 = true) := by decide +kernel
/-- Engine e with the stack pointer of ring 0 at v, limits from 0 to hi. -/
def spE (e : Nat) (v hi : Word) : State := en e (fun x => ((x.setSp 0 v).setCsrW e 0x034 hi).setCsrW e 0x030 0)
theorem test_hyp_AnEntryBuildsItsFrameAndRedirects :
    -- the lowest frame of the scratchpad, its highest, and the two ends of the supervisor memory
    (let x := fun s : State => fun e : Nat => (s.engine e).applyInc ((s.engine e).cyc + 2)
     let ok := fun (s : State) (e : Nat) => let sp := ((x s e).spOf 0).toNat
       sp % 8 = 0 ∧ sp ≤ ((x s e).csrW e 0x034).toNat ∧ ((x s e).csrW e 0x030).toNat + 0x20 ≤ sp ∧
       (sp ≤ 0x10000 ∨ e = 192 ∧ 0x080000020 ≤ sp ∧ sp ≤ 0x080100000)
     ok (spE 0 0x20 0x20) 0 ∧ ok (spE 0 0x10000 0x10000) 0 ∧ ok (spE 192 0x080000020 0x080000020) 192 ∧ ok (spE 192 0x080100000 0x080100000) 192) ∧
    (let b : PendBranch := { ds := 2, taken := true, target := 0x40 }
     ((spE 0 0x20 0x20).modEngine 0 (fun x => { x with branch := some b }) |>.engine 0).branch = some b ∧ b.ds < 4 ∧
     codeRegion b.target.toNat = some (0, 0x40)) ∧
    -- no room for the frame; an inner and the outermost attempt
    (((spE 0 0x10 0x20).engine 0).frameLoc 0 0 0x10 = none ∧ bit (((spE 0 0x10 0x20).engine 0).csrW 0 0x021) 23 = false ∧
      bit (((spE 0 0x10 0x20).modEngine 0 (fun x => x.setCsrW 0 0x021 0x800000) |>.engine 0).csrW 0 0x021) 23 = true) ∧
    (3 < 4 ∧ 63 < 64 ∧ 7 < 8 ∧ (0 : Nat) < 2 ^ 36) := by decide +kernel
/-- Engine 0 with vector v of its table, at scratchpad address 0, holding w, and IMASK 0. -/
def vecE (v : Nat) (w : Word) : State := (s0.modEngine 0 (fun x => { x with imask := 0 })).setWord (spadBase 0 + 4 * v) w
theorem test_hyp_FaultsAndTrapsEnterThroughTheirTables :
    (((vecE 5 0x800000040#36).engine 0).imask ≠ 7 ∧ ctrlLoc 0 (4 * 5) = some (spadBase 0 + 20) ∧ (vecE 5 0x800000040#36).isBad (spadBase 0 + 20) = false ∧
      (vecE 5 0x800000040#36).word (spadBase 0 + 20) = 0x800000040#36 ∧ bit 0x800000040#36 35 = true ∧ bit ((vecE 5 0).word (spadBase 0 + 20)) 35 = false) ∧
    (s0.markBad (spadBase 0 + 20)).isBad (spadBase 0 + 20) = true ∧ (s0.engine 0).imask = 7 ∧
    ((s0.engine 0).branch = none ∧ ctrlLoc 0 (4 * 255) ≠ none ∧ ctrlLoc 0 0x10000 = none ∧
      (let w : Word := 0x380000040#36
       bit w 31 = true ∧ 0 ≤ fld w 33 32 ∧ fld w 35 34 ≤ 0)) ∧
    ((en 0 (fun x => { x with branch := some { ds := 1, taken := false, target := 0 } })).engine 0).branch ≠ none := by decide +kernel
/-- Engine 0 in ring r, with a frame at scratchpad address 0x100 whose words are ws. -/
def frameE (r : Nat) (ws : List Word) : State :=
  ((spE 0 0 0).modEngine 0 (fun x => (({ x with ring := BitVec.ofNat 2 r }).setSp r 0x100).setCsrW 0 (0x034 + r) 0x10000)).setWords (spadBase 0 + 0x100) ws
theorem test_hyp_ReturnsRestoreTheFrame :
    (((frameE 1 []).engine 0).branch = none ∧ ((frameE 1 []).engine 0).frameLoc 0 1 (0x100 + 0x20) = some (spadBase 0 + 0x100) ∧
      ((en 0 (fun x => x.setSp 0 4)).engine 0).frameLoc 0 0 (4 + 0x20) = none) ∧
    -- rti in ring 2; a frame with a bad word
    (2 ≤ ((frameE 2 []).engine 0).ring.toNat ∧ ((frameE 1 []).markBad (spadBase 0 + 0x100)).isBad (spadBase 0 + 0x100) = true) ∧
    -- ring 1 returns to ring 1 with no branch pending, and to two delay slots; the frame says ring 0; an EPC outside Table 6.1
    (let ok := fun s : State => ∀ k < 8, s.isBad (spadBase 0 + 0x100 + 4 * k) = false
     ok (frameE 1 [0x10, 0x0F, 0x20, 0, 0, 1, 2, 0]) ∧ ok (frameE 1 [0x10, 0x0F, 0x20, 0, 0x100, 1, 2, 0])) ∧
    ((0x0F : Word).toNat / 8 % 4 = 1 ∧ (0x07 : Word).toNat / 8 % 4 < 1 ∧ codeRegion 0x10 = some (0, 0x10) ∧ codeRegion 0x4000 = none ∧
      (0x100 : Word).toNat / 128 % 4 = 2 ∧ (0x180 : Word).toNat / 128 % 4 = 3 ∧ ¬ 16 < (0x100 : Word).toNat / 16 % 32 ∧ 16 < (0x110 : Word).toNat / 16 % 32) := by
  decide +kernel
theorem test_hyp_FencesWaitForTheirOperations :
    (let x := s0.engine 0
     x.branch = none ∧ x.fence = none ∧ x.sb = [] ∧ x.sbWait = [] ∧ x.outStores = [] ∧ (s0.sect 0).posts = [] ∧ x.divOp = none ∧ x.fplOp = none ∧
     x.held = [] ∧ x.stm.op = 0 ∧ x.fpLong = none ∧ x.longop = none) ∧
    ((en 0 (fun x => { x with fpLong := some (0, 1) })).engine 0).fpLong ≠ none ∧ ((en 0 (fun x => { x with longop := some 0 })).engine 0).longop ≠ none ∧
    ((en 0 (fun x => { x with sb := [sbOf 0 false false] })).engine 0).sb ≠ [] ∧ ((en 0 (fun x => { x with fence := some 2 })).engine 0).fence = some 2 ∧
    ((en 0 (fun x => { x with branch := some { ds := 1, taken := false, target := 0 } })).engine 0).branch ≠ none ∧
    (let x := (en 0 (fun x => { x with efWait := true })).engine 0
     x.efWait = true ∧ x.efDone = false) ∧
    s0.unitRuns 0 (fun x => x.fence.isSome) = true ∧ (stE id).unitRuns 0 (fun x => x.fence.isSome) = false ∧ s0.unitRuns 0 (fun _ => false) = true ∧
    ((en 0 (fun x => { x with fpShort := some (4, 3) })).engine 0).fpShort ≠ none ∧ (s0.engine 0).fpShort = none ∧
    -- at the boundary where nothing is left to wait for: a pending long fault, an error of stm, a short fault, none
    (let at' := fun (f : Engine → Engine) => (en 0 (fun x => f { x with fence := some 1, nextPc := some 4, efWait := true })).atBoundary 0
     let done := fun (b : State) => let z := b.engine 0
       z.divOp == none && z.fplOp == none && z.held == [] && z.stm.op == 0 && z.sb == [] && z.sbWait == [] && z.outStores == [] && z.branch == none && z.efWait && !z.efDone
     (∀ f ∈ [id, (fun x : Engine => { x with fpLong := some (0, 1) }), (fun x => { x with longop := some 0 }), (fun x => { x with fpShort := some (4, 3) })], done (at' f) = true) ∧
     ((at' id).engine 0).fpShort = none ∧ ((at' id).engine 0).fpLong = none ∧ ((at' id).engine 0).longop = none ∧
     ((at' (fun x => { x with fpLong := some (0, 1) })).engine 0).fpLong ≠ none ∧ ((at' (fun x => { x with longop := some 0 })).engine 0).longop ≠ none ∧
     ((at' (fun x => { x with fpShort := some (4, 3) })).engine 0).fpShort ≠ none) := by decide +kernel
theorem test_hyp_CsrAccessesFollowTheRingsAndTheirFields :
    csrListed 0x7FF = false ∧ csrListed 0x011 = true ∧ csrListed 0x03C = true ∧ csrListed 0x03F = true ∧ csrListed 0x130 = true ∧
    (s0.engine 0).ring.toNat ≤ csrReadRing 0x020 ∧ csrReadRing 0x020 < ((en 0 (fun x => { x with ring := 3 })).engine 0).ring.toNat ∧
    csrWriteRing 0x011 = some 1 ∧ csrListed 0x008 = true ∧ csrWriteRing 0x008 = none ∧ csrWriteRing 0x050 = some 3 ∧ (0x108 ≤ 0x10B) ∧ csrListed 0x140 = true ∧ csrWriteRing 0x140 ≠ none := by decide +kernel
/-- Engine 0 with the three ports of stm. -/
def stmE (src dst o : Word) : State := en 0 (fun x => ((x.setPort 0x241 src).setPort 0x242 dst).setPort 0x240 o)
theorem test_hyp_StreamTriggersStartSaveAndRestore :
    65536 < (0x10001 : Word).toNat ∧ 2048 < (0x801 : Word).toNat ∧ s0.stmCheck 0 2 0 2 0 1 = some (.code 0x03 2) ∧ s0.stmCheck 0 1 0x40 0x80 0 4 = none ∧
    (s0.engine 0).longop = none ∧ (s0.engine 0).stm.op = 0 ∧
    (let m : Stm := { op := 1, cnt := 1, src := 0, dst := 0, opnd := 0, susp := false, start := 0, rcd := [] }
     ((en 0 (fun x => { x with stm := m })).engine 0).stm.op ≠ 0) ∧ s0.saveRefused 0 0x40 true = none ∧ s0.saveRefused 0 0x40 false = none ∧
    s0.badWord (canonOf 0 0x40) 16 = none ∧ (0x44 : Word).toNat % 8 ≠ 0 ∧ 5 ≤ (0xA00000000#36).toNat / 2 ^ 33 ∧ (0x800000010#36).toNat / 2 ^ 33 = 4 := by
  decide +kernel
theorem test_hyp_StreamOperationsWriteTheirWords :
    -- fill to the end of the scratchpad, a copy whose source does not overlap, an ingest of one record
    (let f : Stm := { op := 2, cnt := 2, src := 0, dst := 0xFFF8, opnd := 7, susp := false, start := 0, rcd := [] }
     let s := en 0 (fun x => { x with stm := f })
     (s.engine 0).stm = f ∧ (s.engine 0).longop = none ∧ 0 < f.cnt ∧ (s.engine 0).held = [] ∧ f.dst.toNat % 4 = 0 ∧ f.dst.toNat + 4 * f.cnt ≤ 0x10000 ∧
     s.memHeld (spadBase 0) = false) ∧
    (let c : Stm := { op := 1, cnt := 2, src := 0x40, dst := 0x80, opnd := 0, susp := false, start := 0, rcd := [] }
     ∀ j < 2, s0.isSoft (canonOf 0 (c.src + BitVec.ofNat 36 (4 * j)).toNat) = false ∧ s0.isBad (canonOf 0 (c.src + BitVec.ofNat 36 (4 * j)).toNat) = false ∧
       canonOf 0 (c.src + BitVec.ofNat 36 (4 * j)).toNat / 4 < (spadBase 0 + 0x80) / 4) ∧
    4 % 4 = 0 ∧ ((en 0 (fun x => { x with stm := { Stm.reset with op := 3, susp := true } })).engine 0).stm.susp = true ∧
    s0.unitRuns 0 (fun x => x.awaitsLong 0x250 0x255) = true ∧ (stE id).unitRuns 0 (fun x => x.awaitsLong 0x250 0x255) = false ∧ (1 < 2) := by decide +kernel
/-- Engine 0 owns channel c, which lane c / 2048 carries. -/
def ownS (c : Nat) : State := s0.modCh c (fun x => { x with populated := true, owner := 0 })
theorem test_hyp_ChioCommandsAnswerAsTheirTableSays :
    (ownS 5).owns 0 5 = true ∧ s0.owns 0 5 = false ∧ (192 : EngId).val = 192 ∧
    -- a streamed read of a channel with a slot that waits, and of one whose lane has expired
    (let m : MapLane := { lane := 0, ident := 0, mask := 0, scale := [], fmv := 0, up := [5], dn := [], firstUp := 0, firstDn := 0 }
     let s := ((ownS 5).setB (.SEC_FRAME 0) F.SEC_FRAME_STYLE true).setB (.LN_STS 0) F.LN_STS_INSVC true
     let s := { s with helm := { s.helm with chmap := some { lanes := [m], blocks := [] } } }
     (s.slotOf 5 (s.readBeat 0)).st = 0 ∧ s.streamed 0 = true ∧ s.laneDown 0 = false ∧ 5 ∈ (s.laneMap 0).up ∧
     0 ∈ ((s.modSect 0 (fun x => { x with laneExpired := [0] })).sect 0).laneExpired) ∧
    -- a queue whose entry is popped, one with entries and one without, a full push counter, no older store across an 8-byte line
    (((ownS 5).setQ 5 { Queue.reset with popped := true }).q 5).popped = true ∧ (s0.q 5).stOcc = 0 ∧ (s0.q 5).popped = false ∧
    (s0.sect 0).pushCnt < 1024 ∧ ¬ ((s0.modSect 0 (fun x => { x with pushCnt := 1024 })).sect 0).pushCnt < 1024 ∧
    (((ownS 5).setQ 5 { Queue.reset with stOcc := 1, stWords := zs 8 [] }).q 5).stWords.length = 8 ∧ s0.memHeld (spadBase 0) = false ∧ (s0.engine 0).oldStores = [] ∧ 0x40 % 8 = 0 ∧ 0x40 + 32 ≤ 0x10000 ∧
    (((ownS 5).modCh 5 (fun x => { x with ing1 := { Slot.empty with st := 1 } })).slotOf 5 (s0.readBeat 0)).st = 1 ∧
    (((ownS 5).setQ 5 { Queue.reset with stOcc := 1 }).q 5).stOcc = 1 := by decide +kernel
theorem test_hyp_ExpiredReadsAndLimitHalves :
    (s0.engine 0).waitRead = none ∧ ((en 0 (fun x => { x with waitRead := some { k := 1, ch := 5, trig := 0 } })).engine 0).waitRead = some { k := 1, ch := 5, trig := 0 } ∧
    (s0.engine 1).waitRead = none := by decide +kernel
theorem test_hyp_QueuesKeepTheirOrderAndCountTheirDrops :
    s0.getF .QM_PUSH F.QM_PUSH_STS ≠ 3 ∧ (s0.setF .QM_PUSH F.QM_PUSH_STS 3).getF .QM_PUSH F.QM_PUSH_STS = 3 ∧
    (s0.setQ 0 { Queue.reset with occ := 8 }).q 0 = { Queue.reset with occ := 8 } ∧ (s0.setQ 32768 { Queue.reset with occ := 16 }).q 32768 = { Queue.reset with occ := 16 } ∧
    ((s0.modSect 0 (fun x => { x with pushBuf := [{ ch := 1, words := zs 4 [] }] })).sect 0).pushBuf = [{ ch := 1, words := zs 4 [] }] ∧
    ({ s0 with qmBusy := some 2 } : State).qmBusy = some 2 ∧ (s0.setF .QM_HOFF F.QM_HOFF_STS 1).getF .QM_HOFF F.QM_HOFF_STS = 1 ∧
    s0.getF .QM_HOFF F.QM_HOFF_STS ≠ 1 ∧
    -- a beat number one too early, the earliest that is accepted, and a refused owner
    ((s0.setReg .QM_HOFF_BEAT 1).getF .QM_HOFF_BEAT F.QM_HOFF_BEAT_BEAT < s0.beatNum + 2 ∧ s0.beatNum + 2 - 1 ≤ 2 ^ 35) ∧
    (s0.beatNum + 2 ≤ (s0.setReg .QM_HOFF_BEAT 2).getF .QM_HOFF_BEAT F.QM_HOFF_BEAT_BEAT) ∧ s0.handoffRefused 192 0 1 = true ∧
    ((ownS 5).setF (.SEC_STATE 0) F.SEC_STATE_STATE 1).handoffRefused 0 5 1 = false := by decide +kernel
/-- Section 0 runs, engine 0 is in the beat, and its schedule memory begins with word w. -/
def runE (w : Word) : State := ((sec 0 2).modEngine 0 (fun x => { x with inBeat := true })).setWord (schedBase 0) w
/-- The state before the bundle, as BundlesMoveTheirValuesAndStartTheirUnits writes it. -/
def before (s : State) : State := (s.upset []).atBoundary 0
/-- Long moves with an immediate 5 and E = 1, first parcel in H0 (R171, R173): to D3, to alu0.add, to socket 0x3FF. -/
def moveD3 : Word := 0x000178006#36
def moveAdd : Word := 0x000178098#36
def moveBad : Word := 0x0001787FE#36
/-- A long move that is never done and ends its bundle (R178). -/
def moveNo : Word := 0x000034000#36
/-- Engine 0 in performance mode at code address 0x40000 of an executable region. -/
def perfE : State := (((runE 0).modEngine 0 (fun x => { x with pc := 0x40000, csr := [(0, 0x100)] })).setReg (.PRGN_BASE 0 0) 0x80000).setReg (.PRGN_ATTR 0 0) (setFld (setFld (setFld 0 35 35 1) 34 29 18) 28 25 15)
/-- The same with DUAL_EN set, and a line of the I-cache with the two bundles D3 := 5 and nothing. -/
def dualE : State := perfE.modEngine 0 (fun x => { x with
  csr := [(0, 0x500)], icache := [(0, some { base := 0x10000000, words := zs 8 [moveD3, moveNo] })] })
theorem test_hyp_BundlesMoveTheirValuesAndStartTheirUnits_1 :
    s0.mayRun 0 = false ∧ (stE id).engStalled 0 = true ∧ s0.engStalled 0 = false ∧ (s0.engine 0).icMiss = none ∧ (runE 0).mayRun 0 = true ∧ ((runE 0).engine 0).haltReq = none ∧
    (let s := before (runE moveD3)
     let x := s.engine 0
     s.boundaryEvent 0 = none ∧ x.efWait = false ∧ x.waits = false ∧ x.csrLate = none ∧ s.pairs 0 = false ∧ s.fetchSeen 0 0 2 = s ∧ x.flights = [] ∧ x.aInc = [] ∧ x.branch = none ∧
     x.stepLeft = none ∧ s.brkHits 0 x.pc.toNat = [] ∧ x.divOp = none ∧ x.fplOp = none ∧ x.loads0 = [] ∧ x.loads1 = []) ∧
    ((en 0 (fun x => { x with icMiss := some (0x80000, 10) })).engine 0).icMiss = some (0x80000, 10) ∧ (s0.engine 0).cyc < 10 ∧
    s0.badWord 0x10000000 32 = none ∧ (s0.markBad 0x10000004).badWord 0x10000000 32 = some 0x10000004 := by decide +kernel
theorem test_hyp_BundlesMoveTheirValuesAndStartTheirUnits_2 :
    ((before ((runE 0).modEngine 0 (fun x => { x with pc := 0x4000 }))).fetchBundle 0 = .fault 0x03 0x4000 none) ∧
    (∃ b, (before perfE).fetchBundle 0 = .miss b) ∧
    -- the line with an uncorrectable word has come: in the bundle at the PC, and beside it; a miss that waits already
    (let at' := fun (pc ca : Nat) => let s := perfE.markBad ca
       s.setEngine 0 { s.engine 0 with icMiss := none, iDirect := some 0x10000000, pc := BitVec.ofNat 36 pc }
     perfE.engStalled 0 = false ∧ (perfE.markBad 0x10000000).badWord 0x10000000 32 = some 0x10000000 ∧
     (match (at' 0x40000 0x10000000).fetchBundle 0 with | .fault 9 _ _ => true | _ => false) = true ∧
     (match (at' 0x40000 0x1000001C).fetchBundle 0 with | .fault _ _ _ => false | _ => true) = true) ∧
    ((perfE.engine 0).perf 0 = true ∧ (some ((0x10000000 : Nat), (3 : Nat))).map (·.1) = some 0x10000000) ∧
    (let m : Move := { prd := 0, neg := false, dst := 3, src := .imm 5, bad := false }
     (before (runE moveD3)).fetchBundle 0 = .bundle [m] 2 false ∧ (before (runE moveD3)).bundleIllegal 0 [m] false = false ∧ trigUnit m.dst = none ∧
     m.resUnit = none ∧ ((before (runE moveD3)).engine 0).guard m = true) ∧
    (let s := before dualE
     let m : Move := { prd := 0, neg := false, dst := 3, src := .imm 5, bad := false }
     let n : Move := { prd := 0, neg := true, dst := 0, src := .sock 0, bad := false }
     s.pairs 0 = true ∧ s.fetchBundle 0 = .bundle [m] 0x40002 false ∧
     (s.setEngine 0 { s.engine 0 with pc := 0x40002 }).fetchBundle 0 = .bundle [n] 0x40004 false ∧ s.bundleIllegal 0 [n] false = false ∧
     n.resUnit = none ∧ trigUnit n.dst = none ∧ s.brkHits 0 0x40002 = [] ∧ s.fetchSeen 0 0x40000 0x40002 = s) ∧
    (let m : Move := { prd := 0, neg := false, dst := 0x3FF, src := .imm 5, bad := false }
     (before (runE moveBad)).fetchBundle 0 = .bundle [m] 2 false ∧ (before (runE moveBad)).bundleIllegal 0 [m] false = true) := by
  exact ⟨by decide +kernel, ⟨_, rfl⟩, by decide +kernel, by decide +kernel, by decide +kernel, by decide +kernel, by decide +kernel⟩
theorem test_hyp_BundlesMoveTheirValuesAndStartTheirUnits_3 :
    (let m : Move := { prd := 0, neg := false, dst := 0x04C, src := .imm 5, bad := false }
     let s := before (runE moveAdd)
     let s1 := s.setEngine 0 { s.engine 0 with bundlePc := (s.engine 0).pc, exemptOnce := false, fresh := false }
     s.fetchBundle 0 = .bundle [m] 2 false ∧ s.bundleIllegal 0 [m] false = false ∧ trigUnit m.dst = some uAlu0 ∧ m.never = false ∧
     ((s.setEngine 0 (s.engine 0)).trigFault 0 m.dst 2 5).isNone = true ∧ (match opAt m.dst 2 s1 0 5 with
      | .ok r => decide ((r.st.engine 0).branch = none ∧ (r.st.engine 0).fence = none ∧ (r.st.engine 0).efWait = false ∧ (r.st.engine 0).stepLeft = none ∧ r.writes ≠ [])
      | _ => false) = true) := by decide +kernel
/-- Engine 0 runs at its first bundle word w with the event of a boundary set by f. -/
def evE (w : Word) (f : Engine → Engine) : State := (runE w).modEngine 0 f
/-- Engine 0 runs and has doorbell pending (code 0x22), whose vector holds w. -/
def intE (w : Word) : State :=
  (((runE moveD3).modEngine 0 (fun x => { x with inBeat := true, imask := 0, irqSince := [(2, 0)] })).modEngine 0 (fun x => x.setCsrW 0 0x012 4)).setWord (spadBase 0 + 4 * 0x22) w
theorem test_hyp_InterruptsTimersAndTheWatchdog :
    (s0.mayRun 0 = false ∧ ∀ k < 14, s0.intPending 0 k = false) ∧
    (let s0 := intE 0x880000040#36
     let s := s0.atBoundary 0
     s0.mayRun 0 = true ∧ (s.engine 0).irqReady 2 = true ∧ (s.engine 0).haltReq = none ∧ (s.engine 0).fpShort = none ∧ s.preciseFault 0 = false ∧
     (s.engine 0).wdtPend = none ∧ s.beginsStall 0 = false ∧ s.haltFirst 0 = false ∧ ((s.markBad (spadBase 0 + 4 * 0x22)).isBad (spadBase 0 + 4 * 0x22)) = true ∧ s.acceptPoint 0 = true ∧ (s.engine 0).stepNoInt = false ∧ (s.engine 0).fpLong = none ∧ (s.engine 0).longop = none ∧
     s.intPending 0 2 = true ∧ ctrlLoc 0 (4 * 0x22) = some (spadBase 0 + 4 * 0x22) ∧ s.isBad (spadBase 0 + 4 * 0x22) = false ∧
     s.word (spadBase 0 + 4 * 0x22) = 0x880000040#36 ∧ bit 0x880000040#36 35 = true ∧ (s.engine 0).imask.toNat < fld 0x880000040#36 33 31 ∧
     ∀ j < 14, j ≠ 2 → s.intPending 0 j = false) ∧
    (let s := en 0 (fun x => (x.setCsrW 0 0x068 0x800000000#36).setCsrW 0 0x069 3)
     bit ((s.engine 0).csrW 0 0x068) 35 = true ∧ fld ((s.engine 0).csrW 0 0x069) 23 0 ≠ 0) ∧
    -- a timer of beats may expire in a stall
    ((stE id).engStalled 0 = true ∧ s0.engStalled 0 = false ∧ ((en 0 (fun x => { x with halted := true })).engine 0).halted = true ∧
      bit (put 35 32 9) 32 = true ∧ (s0.engine 0).halted = false) ∧
    -- a bundle that begins a stall (it starts fpl, whose fault is on its way) with a short fault pending
    (let l : LongOp := { res := 3, flags := 1, enabled := 1, pc := 4, trig := 0, due := 15 }
     let b := (evE 0x0001782B2#36 (fun x => { x with fpShort := some (4, 3), fplOp := some l })).atBoundary 0
     b.beginsStall 0 = true ∧ (b.engine 0).fpShort ≠ none ∧ (b.engine 0).branch = none ∧ (b.engine 0).haltReq = none ∧ (b.engine 0).efWait = false ∧ (b.engine 0).waits = false ∧
     b.mayRun 0 = true) ∧
    (let s := (sec 0 2).modEngine 0 (fun x => { x with haltReq := some 1, inBeat := true })
     (s.atBoundary 0).haltFirst 0 = true) ∧
    -- a source that is pending since no two cycles; a bundle that faults; a short fault and the watchdog before the bundle
    (let s := (sec 0 2).modEngine 0 (fun x => x.setCsrW 0 0x012 4)
     s.intPending 0 2 = true ∧ ((s.atBoundary 0).engine 0).irqReady 2 = false) ∧
    ((evE moveBad id).atBoundary 0).preciseFault 0 = true ∧
    (match ((evE moveBad id).atBoundary 0).fate 0 with | .fault tr _ _ => pendingKind tr == 0 | _ => false) = true ∧
    (match ((evE moveD3 (fun x => { x with fpShort := some (4, 3) })).atBoundary 0).fate 0 with
     | .issue p _ => (p.engine 0).fpShort.isSome && (p.engine 0).branch.isNone
     | _ => false) = true ∧
    (match ((evE moveD3 (fun x => { x with wdtPend := some 0 })).atBoundary 0).fate 0 with
     | .issue p _ => (p.engine 0).wdtPend == some 0 && p.acceptPoint 0 && (p.engine 0).fpShort.isNone && (p.engine 0).fpLong.isNone && (p.engine 0).longop.isNone
     | _ => false) = true ∧
    bit (((en 0 (fun x => x.setCsrW 0 0x060 0x800000000#36)).engine 0).csrW 0 0x060) 35 = true ∧ bit ((s0.engine 0).csrW 0 0x060) 35 = false := by
  decide +kernel
theorem test_hyp_HaltsResumesAndTheGong :
    dbgEntryOk .debug 0 = true ∧ dbgEntryOk (.engine 0 0) 0 = false ∧ ((en 0 (fun x => { x with halted := true })).engine 0).halted = true ∧
    ((en 0 (fun x => { x with haltReq := some 1 })).engine 0).haltReq = some 1 ∧ ((sec 0 2).modEngine 0 (fun x => { x with haltReq := some 1, inBeat := true })).canHalt 0 = true ∧ s0.canHalt 0 = false ∧
    (let s := (sec 0 2).modEngine 0 (fun x => { x with haltReq := some 1, inBeat := true, fence := some 2, nextPc := some 4, imask := 0 })
     (((s.atBoundary 0).csrSettle 0).engine 0).haltReq = some 1 ∧ (((s.atBoundary 0).csrSettle 0).engine 0).nextPc = some 4) ∧
    (((ownS 5).setCh 5 { (ownS 5).ch 5 with g0 := { ((ownS 5).ch 5).g0 with w7 := setFld (setFld 0 35 34 2) 31 27 0x1A } }).ch 5).g0.cause = 0x1A ∧
    s0.seq.haltWait = [] ∧ (s0.engine 0).haltReq = none ∧
    -- the first engine of its section to halt, and the last to resume, with a channel that is sound and one that is not
    (s0.anyHalted 0 = false ∧ ownedBy 0 ((s0.modCh 5 (fun x => x.setOwner 0)).ch 5) = true ∧ (ownS 5).glvSound 5 ∧ ¬ ((ownS 5).modCh 5 (fun x => { x with bad0 := true })).glvSound 5 ∧
      ((((ownS 5).modCh 5 (fun x => { x with g0 := { x.g0 with w7 := 0 } })).ch 5).g0.state < 2) ∧ (let s := en 0 (fun x => { x with halted := true })
        (List.range 32).all (fun i => i == 0 || !(s.engine i).inHalt) = true)) ∧
    (let s : State := { s0 with dbg := { s0.dbg with deliver := [(0, 1)] } }
     0 < SMap.get (fun _ => 0) s.dbg.deliver 0 ∧ SMap.get (fun _ => 0) s0.dbg.deliver 0 = 0) := by decide +kernel
theorem test_hyp_GloveCommandsParkReleaseAndReport :
    (s0.setF .GLV_CMD F.GLV_CMD_STS 1).getF .GLV_CMD F.GLV_CMD_STS = 1 ∧ s0.getF .GLV_CMD F.GLV_CMD_STS ≠ 1 ∧
    -- counts 0, 1, 256 and 257, a block that runs past the last channel; a channel that is released and one that is refused
    (¬ 256 < (256 : Fin 512).val ∧ 256 < (257 : Fin 512).val ∧ 32768 < (32767 : Fin 32768).val + (2 : Fin 512).val ∧ ¬ 32768 < (32767 : Fin 32768).val + (1 : Fin 512).val) ∧
    2 ≤ (s0.ch 5).g0.state ∧ s0.releaseRefused 5 = true ∧
    (let s := ((sec 0 2).setB .GLV_CTL F.GLV_CTL_LOCK true).modCh 5 (fun x => { (x.setOwner 0) with populated := true, covered := true })
     s.releaseRefused 5 = false ∧ 2 ≤ (s.ch 5).g0.state ∧ (s.ch 5).g0 = (s.ch 5).g1 ∧ (s.ch 5).bad = false ∧ s.glvHeld = false) ∧
    ({ s0 with glvCmd := some true } : State).glvCmd = some true ∧ ({ s0 with glvEvts := [1] } : State).glvEvts = [1] := by decide +kernel
/-- A channel whose two copies have W0 = 10, W1 = 10, W4 = 5, setpoint mode allowed, in state 1 (ARMED) and owned by engine 0. -/
def chS : State := s0.modCh 5 (fun x =>
  let g := { x.g0 with w0 := 10, w1 := 10, w2 := 10, w3 := 0, w4 := 5, w6 := setFld x.g0.w6 35 31 7, w7 := setFld x.g0.w7 35 34 1 }
  { ({ x with g0 := g, g1 := g } : Chan).setOwner 0 with populated := true })
/-- The same channel ACTIVE in mode CC with DEBOUNCE 1. -/
def chA : State := chS.modCh 5 (fun x =>
  let g := { x.g0 with w6 := setFld x.g0.w6 11 8 1, w7 := setFld x.g0.w7 35 34 0 }
  { x with g0 := g, g1 := g, inForce := 1 })
theorem test_hyp_LimitsOnlyTightenAndBothChecksTrip :
    ((s0.ch 0).g0 = (s0.ch 0).g1 ∧ s0.glvHeld = false ∧
      -- a tighter and a looser word of W0, of W3, and of W6 (a mode taken away, one added)
      ((0 : Word).toNat ≤ ((s0.ch 0).g0.word 0).toNat ∧ ¬ (1 : Word).toNat ≤ ((s0.ch 0).g0.word 0).toNat) ∧
      (((s0.ch 0).g0.word 3).toInt ≤ (1 : Word).toInt ∧ ¬ ((s0.ch 0).g0.word 3).toInt ≤ (-1 : Word).toInt) ∧
      ((∀ i < 5, bit ((s0.ch 0).g0.word 6) (31 + i) = true → bit ((s0.ch 0).g0.word 6) (31 + i) = true) ∧ bit ((s0.ch 0).g0.word 6) 31 = false)) ∧
    (let x := chS.ch 5
     x.g0 = x.g1 ∧ x.bad = false ∧ chS.glvHeld = false ∧ x.g0.state < 2 ∧ x.g0.owner = 0 ∧ bit x.g0.w6 31 = true ∧ bit x.g0.w6 32 = true ∧ bit x.g0.w6 33 = true ∧
     bit x.g0.w6 34 = false ∧ (10 : Word).toInt ≤ x.g0.w0.toNat ∧ (11 : Word).toInt > x.g0.w0.toNat ∧ (-11 : Word).toInt < -(x.g0.w1.toNat : Int) ∧
     (11 : Word).toInt > x.g0.w2.toInt ∧ ((5 : Word).toInt - 0).natAbs ≤ x.g0.w4.toNat ∧ ((6 : Word).toInt - 0).natAbs > x.g0.w4.toNat ∧ chS.glvEvts.length < 256) ∧
    2 ≤ (s0.ch 5).g0.state ∧
    -- an ARMED and an ACTIVE channel, DBC below and at DEBOUNCE, a record of VOLT 10 (at VMAX), 11 (above), -1, and each other test failing or not
    ((chS.ch 5).g0.state = 1 ∧ (chA.ch 5).g0.state = 0 ∧ (chA.ch 5).g0 = (chA.ch 5).g1 ∧ (chA.ch 5).bad = false ∧ chA.glvHeld = false ∧ (chA.ch 5).inForce ≠ 4 ∧
      (chA.ch 5).g0.dbc < (chA.ch 5).g0.debounce ∧ ¬ (chS.ch 5).g0.dbc < (chS.ch 5).g0.debounce ∧
      (10 : Word).toInt ≤ (chA.ch 5).g0.w2.toInt ∧ (11 : Word).toInt > (chA.ch 5).g0.w2.toInt ∧ (-1 : Word).toInt < (chA.ch 5).g0.w3.toInt ∧
      (11 : Word).toInt > (chA.ch 5).g0.w0.toNat ∧ sext 18 (fld (0x000040000 : Word) 35 18) > sext 18 (fld (chA.ch 5).g0.w5 35 18) ∧
      bit (0x400000000 : Word) 34 = true ∧ bit (0x800000000 : Word) 35 = true ∧ bit (0x100000000 : Word) 32 = true ∧
      ((-1 : Word).toInt < 0 ∧ ¬ (0 : Word).toInt < 0)) := by decide +kernel
theorem test_hyp_GloveCopiesThatDisagreeTrip :
    (let s := s0.modCh 5 (fun x => { x with g1 := { x.g1 with w0 := 1 } })
     (s.ch 5).g0 ≠ (s.ch 5).g1 ∧ s.glvHeld = false ∧ s.march.boot = false ∧ (s.ch 5).g0.word 1 = (s.ch 5).g1.word 1 ∧ (s.ch 5).g0.word 0 ≠ (s.ch 5).g1.word 0 ∧
     (s.setF .GLV_TSEL F.GLV_TSEL_CH 5).getF .GLV_TSEL F.GLV_TSEL_CH = 5 ∧ s.getF .GLV_CMD F.GLV_CMD_STS ≠ 1) ∧
    ((s0.modCh 5 (fun x => { x with bad1 := true })).ch 5).bad = true ∧ ((s0.ch 5).g0 = (s0.ch 5).g1 ∧ (s0.ch 5).bad = false ∧ s0.glvHeld = false) ∧
    ({ s0 with march := { March.reset with busy := true, kind := 7 } } : State).glvHeld = true := by decide +kernel
theorem test_hyp_LanesMoveThroughTheirStates :
    (∀ v < 12, (lan 0 v id).laneState 0 = v) ∧ (lan 3 3 (fun x => { x with markers := 3 })).laneState 3 = 3 ∧
    ((lan 3 3 (fun x => { x with markers := 3 })).setB .BEAT_CTL F.BEAT_CTL_LOCKED true).getB .BEAT_CTL F.BEAT_CTL_LOCKED = true ∧
    ((lan 3 3 (fun x => { x with markers := 3 })).ln 3).markerLock = false ∧ ((lan 16 2 (fun x => { x with shortsDone := true })).ln 16).shortsDone = true ∧
    (s0.setF (.LN_CTL 0) F.LN_CTL_RETRY 1).getF (.LN_CTL 0) F.LN_CTL_RETRY ≠ 0 ∧ (s0.ln 0).noRetry = false ∧
    ((lan 0 5 (fun x => { x with cwBad := 8, adaptGood := 1024 })).ln 0).cwBad = 8 ∧ 1024 ≤ ((lan 0 5 (fun x => { x with cwBad := 8, adaptGood := 1024 })).ln 0).adaptGood ∧
    -- fault flags clear and set; a HELLO and a SCALE that do not fit; 256 codewords since the last step, and none
    (fld ((lan 0 3 id).reg (.LN_FAULT 0)) 9 0 = 0 ∧ fld (((lan 0 3 id).setReg (.LN_FAULT 0) 1).reg (.LN_FAULT 0)) 9 0 ≠ 0) ∧
    (let s := lan 0 5 (fun x => { x with hello := true, scaled := true, cwSince := 256, adaptGood := 1024 })
     let m : MapLane := { lane := 0, ident := 0, mask := 0, scale := [1, 0, 0, 0], fmv := 0, up := [], dn := [], firstUp := 0, firstDn := 0 }
     (s.ln 0).hello = true ∧ (s.ln 0).scaled = true ∧ s.helloBad 0 = true ∧ (s.setReg (.LN_HUBID 0 1) 0x1000).helloBad 0 = false ∧
     s.scaleBad 0 = false ∧ ({ s with helm := { s.helm with chmap := some { lanes := [m], blocks := [] } } } : State).scaleBad 0 = true ∧
     256 ≤ (s.ln 0).cwSince ∧ ¬ 256 ≤ ((lan 0 9 (fun x => { x with cwSince := 3 })).ln 0).cwSince) ∧
    (lan 0 9 id).getB (.LN_CTL 0) F.LN_CTL_ADAPT_FREEZE = false ∧ (15 < 16 ∧ ¬ (16 : LaneId).val < 16) ∧
    ((lan 0 9 id).setB (.LN_STS 0) F.LN_STS_INSVC true).inService 0 = true ∧ (chS.ch 5).g0.state < 2 := by decide +kernel
theorem test_hyp_ManagementMessagesActOnceTheLaneFrames :
    (5 ≤ (lan 0 5 id).laneState 0 ∧ (lan 0 9 id).laneState 0 ≤ 9 ∧ ¬ 5 ≤ (lan 0 4 id).laneState 0 ∧ ¬ (lan 0 10 id).laneState 0 ≤ 9) ∧
    (let m : Msg := { mtype := 0x040, words := [1], ackReq := true, seq := 3, attempts := 1 }
     let s := lan 0 9 (fun x => { x with waitAck := [m], svcSeq := 3 })
     (s.ln 0).waitAck = [m] ∧ (s.ln 0).out = [] ∧ m.ackReq = true ∧ m.seq = (3 : Fin 512).val ∧ (s.ln 0).svcSeq = (3 : Fin 512).val ∧ s.laneState 0 ≠ 8 ∧
     m.attempts < 4 ∧ 4 ≤ { m with attempts := 4 }.attempts ∧ m.mtype ≠ 0x020) ∧
    ((lan 0 6 id).described 0 = false ∧ fld (0x1000 : Word) 19 12 = 1 ∧ fld (0x2000 : Word) 19 12 ≠ 1 ∧ ((lan 0 6 (fun x => { x with scaled := true, hello := true })).ln 0).scaled = true ∧
      ((lan 0 6 (fun x => { x with scaled := true, hello := true })).ln 0).hello = true) ∧
    -- the ACK of a READY at ALIGN, and of a message of another kind
    (let m : Msg := { mtype := 0x015, words := [1], ackReq := true, seq := 3, attempts := 1 }
     let s := lan 0 8 (fun x => { x with waitAck := [m], readySeq := 3, readyB := some 7 })
     s.laneState 0 = 8 ∧ (s.ln 0).waitAck = [m] ∧ (s.ln 0).readySeq = (3 : Fin 512).val ∧ (s.ln 0).readyB = some 7 ∧ (0x010 : Nat) ∉ [0x015, 0x017, 0x040]) ∧
    (let m : MapLane := { lane := 0, ident := 0, mask := 0, scale := [1, 0, 0, 0], fmv := 0, up := [], dn := [], firstUp := 0, firstDn := 0 }
     let s : State := { lan 0 6 id with helm := { s0.helm with chmap := some { lanes := [m], blocks := [] } } }
     s.described 0 = true ∧ ∃ k < 4, ([0, 0, 0, 0] : List Word).getD k 0 ≠ (s.laneMap 0).scale.getD k 0) ∧
    ((lan 0 7 id).laneState 0 = 7 ∧ fld (0 : Word) 34 27 = ((lan 0 7 id).laneMap 0).fmv ∧ ((lan 0 7 id).ln 0).mapSent 0 = true ∧
      bit (0x004000000#36) 26 = true ∧ ((lan 0 7 (fun x => { x with mapUpAck := true })).ln 0).mapUpAck = true ∧
      ((lan 0 7 id).ln 0).mapUpAck = false ∧ (lan 0 5 id).laneState 0 = 5) ∧
    (∀ v < 4, fld (BitVec.ofNat 36 v) 1 0 = v) ∧
    (let w : Word := 0x00040000#36
     fld w 26 18 = 1 ∧ s0.getF (.LN_MSG_TXC 0) F.LN_MSG_TXC_STS ≠ 1 ∧ 1 ≤ ((lan 0 9 (fun x => { x with txBuf := [7] })).ln 0).txBuf.length ∧
     ((lan 0 9 (fun x => { x with rxBuf := [7] })).ln 0).rxBuf = [7]) := by decide +kernel
/-- The header of a codeword of type ty in beat 0 with nominal slot q and no NAK. -/
def cwH (ty q : Nat) : BitVec 28 :=
  let h := BitVec.ofNat 28 (ty * 2 ^ 24 + q % 127 * 2 ^ 17 + 127 * 2 ^ 4)
  h ||| BitVec.ofNat 28 (hcheck h)
/-- Lane 0 in service, whose map gives index 5 the first record codeword. -/
def upS : State :=
  let m : MapLane := { lane := 0, ident := 0, mask := 0, scale := [], fmv := 0, up := [5], dn := [5], firstUp := 1, firstDn := 1 }
  let s := (lan 0 9 id).setB (.LN_STS 0) F.LN_STS_INSVC true
  { s with helm := { s.helm with chmap := some { lanes := [m], blocks := [] } } }
/-- A codeword decodes in beat 0 with nominal slot q and type ty, and asks for no replay. -/
def goodCw (c : Codeword) (q ty : Nat) : Bool :=
  cwDecodes c && (c.hdr.extractLsb' 11 6).toNat == 0 && (c.hdr.extractLsb' 17 7).toNat == q % 127 && (c.hdr.extractLsb' 24 4).toNat == ty &&
    (c.hdr.extractLsb' 4 7).toNat == 127
theorem test_hyp_CodewordsCarryRecordsAndMessages :
    (s0.framing 0 = false ∧ s0.inService 0 = false) ∧ (upS.inService 0 = true ∧ (upS.ln 0).upExpect = [] ∧ (upS.ln 0).upShift = 0 ∧ upS.framing 0 = true) ∧
    -- a bad codeword that a NAK can still recover, and one that comes too late for it
    (cwDecodes { cw 1 (cwH 2 1) [] with fec := false } = false ∧ (upS.ln 0).naks < 2 ∧ 1 + 6 ≤ upS.kNow + 2 ∧ ¬ upS.kNow + 6 ≤ upS.kNow + 2) ∧
    -- record, beat, management and capture codewords
    (goodCw (cw 2 (cwH 2 2) []) 2 2 = true ∧ ((upS.laneMap 0).up.drop ((2 - 1 - 1) * 35)).take 35 = [5] ∧ [5].Nodup) ∧
    (goodCw (cw 0 (cwH 1 0) []) 0 1 = true ∧ (cw 0 (cwH 1 0) []).pay.getD 0 0 = upS.reg .BEAT_NUM ∧ fld ((cw 0 (cwH 1 0) []).pay.getD 3 0) 35 27 = 0 ∧ 3 < (cw 0 (cwH 1 0) []).pay.length) ∧
    (goodCw (cw 1 (cwH 4 1) []) 1 4 = true ∧ (cw 1 (cwH 4 1) [0x200040000#36, 9]).pay.length = 142 ∧ fld 0x200040000#36 35 27 = 0x040 ∧ fld 0x200040000#36 26 18 = 1 ∧
      (if 1 ≤ 1 ∧ (upS.laneMap 0).firstUp ≤ 1 - 1 then [5] else ([] : List Nat)) = []) ∧
    (goodCw (cw 1 (cwH 5 1) []) 1 5 = true ∧ ((upS.setB .EXP_CTL F.EXP_CTL_CAP_EN true).setB (.EXPK_STS 0) F.EXPK_STS_LINK true).getB .EXP_CTL F.EXP_CTL_CAP_EN = true ∧
      upS.expLane 0 = 0 ∧ (upS.sv 0).cap.length < 64) ∧
    -- slot 0 with a codeword of another type; an idle codeword that asks for a replay, of a codeword that was sent and of one that was not
    goodCw (cw 0 (cwH 2 0) []) 0 2 = true ∧
    (let h : BitVec 28 := BitVec.ofNat 28 (20 * 2 ^ 17 + 9 * 2 ^ 4)
     let c := cw 20 (h ||| BitVec.ofNat 28 (hcheck h)) []
     let d : TxCw := { slot := 17, q := 9, ty := 0, hdr := 0, pay := [] }
     cwDecodes c = true ∧ (c.hdr.extractLsb' 24 4).toNat = 0 ∧ (c.hdr.extractLsb' 17 7).toNat = 20 % 127 ∧ (c.hdr.extractLsb' 11 6).toNat = upS.beatNum % 64 ∧
     (c.hdr.extractLsb' 4 7).toNat = 9 ∧ (upS.laneMap 0).up.drop ((20 - 1 - 1) * 35) = [] ∧
     ([d].find? (fun t => t.slot + 3 == 20 && t.q % 127 == 9)) = some d ∧ (upS.ln 0).dnSent.find? (fun t => t.slot + 3 == 20 && t.q % 127 == 9) = none) ∧
    -- a downstream slot with records
    (upS.dnRecords 0 2 = [5] ∧ (upS.dnRecords 0 2).Nodup ∧ upS.dnRecords 0 0 = []) ∧
    -- a lane in ADAPT that has codeword lock
    ((lan 0 5 (fun x => { x with cwLock := true })).laneState 0 = 5 ∧ (lan 0 5 id).inService 0 = false ∧
      ((lan 0 5 (fun x => { x with cwLock := true })).ln 0).cwLock = true ∧ cwDecodes (cw 1 (cwH 4 1) [0x200040000#36, 9]) = true) ∧
    (upS.keptOut (upS.ln 0).dnSlot = false ∧ (upS.ln 0).alignDue = none ∧ ((upS.modLn 0 (fun x => { x with alignDue := some 9 })).ln 0).alignDue = some 9 ∧
      (upS.ln 0).acks = [] ∧ (upS.ln 0).dnSlot < upS.kNow + 3 ∧ (upS.ln 0).nakDue = [] ∧ (upS.ln 0).dnReplay = [] ∧ (upS.ln 0).safeDue = false) := by decide +kernel
/-- Service lane 0 is up and may start frames. -/
def expS : State := ((s0.setB (.EXPK_STS 0) F.EXPK_STS_LINK true).setB (.EXPK_CFG 0) F.EXPK_CFG_EN true).setB .EXP_CTL F.EXP_CTL_EN true
/-- A PAUSE frame of q quanta to the group address: 60 octets and their FCS. -/
def pauseBody (q : Nat) : List Octet := [0x01, 0x80, 0xC2, 0x00, 0x00, 0x01] ++ List.replicate 6 (2 : Octet) ++
  ([0x88, 0x08, 0x00, 0x01, BitVec.ofNat 8 (q / 256), BitVec.ofNat 8 q] : List Octet) ++ List.replicate 42 (0 : Octet)
def pauseF (q : Nat) : List Octet := pauseBody q ++ (List.range 4).map (fun j => BitVec.ofNat 8 (crc32Ieee (pauseBody q) >>> (8 * j)))
theorem test_hyp_ExportTakesSendsAndAbandonsFrames :
    ((pauseF 1).length = 64 ∧ ([] : List Octet).length < 64) ∧
    s0.expOn 0 = false ∧
    (let s := expS.setQ 32773 { Queue.reset with occ := 1 }
     s.expOn 0 = true ∧ s.expFits 0 = true ∧ s.expNext 0 = some 32773 ∧ 0 < (s.q 32773).occ ∧ ∀ j < 4, s.isBad (0x040000000 + 32773 * 0x100 + 4 * j) = false) ∧
    (let s := expS.setSv 0 { Svc.reset with cap := [zs 143 []] }
     s.expOn 0 = true ∧ s.expFits 0 = true ∧ s.expNext 0 = none ∧ (s.sv 0).cap = [zs 143 []]) ∧
    (let g := expS.expFrame 0
     let s := expS.setSv 0 { Svc.reset with build := some g, holdOver := true }
     (s.sv 0).build = some g ∧ s.expOn 0 = true ∧ (s.sv 0).sending = none ∧ (s.sv 0).holdOver = true ∧
     ((expS.setSv 0 { Svc.reset with sending := some g }).sv 0).sending = some g) ∧
    expS.getB (.EXPK_STS 0) F.EXPK_STS_LINK = true ∧ s0.getB (.EXPK_STS 0) F.EXPK_STS_LINK = false := by decide +kernel
theorem test_hyp_SafeParksEverythingAndTestsTakeTheLane :
    (s0.held = false ∧ ({ s0 with pins := { s0.pins with resetNLow := true } } : State).held = true) ∧
    ({ dev 1 with seq := { s0.seq with ibiEn := true } } : State).seq.ibiEn = true ∧ (dev 1).devState < 2 ∧ 2 ≤ (dev 2).devState ∧
    (fld (0 : Word) 5 1 = 0 ∧ fld (0x30 : Word) 5 1 / 8 = 3 ∧ fld (0x2 : Word) 5 1 ≠ 0 ∧ fld (0x2 : Word) 5 1 / 8 ≠ 3) ∧
    ((lan 0 10 id).laneState 0 = 10 ∧ (lan 0 5 id).laneState 0 = 5 ∧ (lan 0 9 id).laneState 0 ≤ 9 ∧ ¬ 5 ≤ (lan 0 4 id).laneState 0) ∧
    ((s0.setF (.LN_EYE_THR 0) F.LN_EYE_THR_HEIGHT 1).getF (.LN_EYE_THR 0) F.LN_EYE_THR_HEIGHT = 1 ∧ s0.getB (.LN_STS 0) F.LN_STS_EYE_LOW = false ∧
      s0.health.evts.length < 256) := by decide +kernel
/-- Check unit 0 with LEN words of the shared memory of cluster 0. -/
def ckS (len : Nat) (busy : Bool) : State := ((s0.setReg (.CKU_ADDR 0) 0x10000000).setF (.CKU_LEN 0) F.CKU_LEN_LEN len).setB (.CKU_STS 0) F.CKU_STS_BUSY busy
theorem test_hyp_ChecksStartStopAndComplete :
    ((ckS 2 false).getB (.CKU_STS 0) F.CKU_STS_BUSY = false ∧ (ckS 2 true).getB (.CKU_STS 0) F.CKU_STS_BUSY = true ∧ bit 0x400000000#36 34 = true ∧
      (ckS 2 false).ckuRegionOk 0 = true ∧ s0.ckuRegionOk 0 = false) ∧
    -- lengths 0, 65536 and 65537, an address that is no word, an octet check of a word kind, a record check of an odd length, a period of 0
    ((ckS 0 false).getF (.CKU_LEN 0) F.CKU_LEN_LEN = 0 ∧ ¬ 65536 < (ckS 65536 false).getF (.CKU_LEN 0) F.CKU_LEN_LEN ∧ 65536 < (ckS 65537 false).getF (.CKU_LEN 0) F.CKU_LEN_LEN ∧
      0x10000001 % 4 ≠ 0 ∧ (bit 0x280000000#36 31 = true ∧ 2 ≤ fld 0x280000000#36 33 32) ∧ (fld 0x200000000#36 33 32 = 2 ∧ 3 % 2 ≠ 0) ∧
      (bit 0x040000000#36 30 = true ∧ fld 0x040000000#36 15 0 = 0)) ∧
    (∀ i < 2, (ckS 2 true).isSoft (0x10000000 + 4 * i) = false ∧ (ckS 2 true).isBad (0x10000000 + 4 * i) = false) ∧
    -- unit 0 in a section that stands still and in one that does not
    ((stE id).stalled 0 = true ∧ (ckS 2 true).stalled 0 = false) ∧ ((ckS 2 true).markBad 0x10000004).isBad 0x10000004 = true ∧
    ((ckS 2 true).markBad 0x10000004).isBad 0x10000000 = false ∧
    (let s := fun v => (ckS 2 true).setReg (.CKU_CTL 0) v
     fld ((s 0x100000000#36).reg (.CKU_CTL 0)) 33 32 = 1 ∧ fld ((s 0x200000000#36).reg (.CKU_CTL 0)) 33 32 = 2 ∧ fld ((s 0x300000000#36).reg (.CKU_CTL 0)) 33 32 = 3 ∧
     bit ((s 0x080000000#36).reg (.CKU_CTL 0)) 31 = true ∧ bit ((s 0x210000000#36).reg (.CKU_CTL 0)) 28 = true) := by decide +kernel
/-- A march run of kind and instance, algorithm alg. -/
def mrS (kind inst alg waits : Nat) : State := { s0 with march := { March.reset with busy := true, kind := kind, inst := inst, alg := alg, waits := waits } }
theorem test_hyp_MarchRunsRefuseStartStopAndComplete :
    (s0.march.busy = false ∧ s0.march.boot = false ∧ ({ s0 with march := { March.reset with boot := true } } : State).march.boot = true) ∧
    -- bad operands: instance 192, algorithm 3, a read-only run of a cache, a retention run of no length; the last good instance
    (¬ (191 : Nat) = 192 ∧ fld 0x300000000#36 33 32 = 3 ∧ (fld 0x102000000#36 33 32 = 1 ∧ fld 0x102000000#36 26 24 = 2) ∧ (fld 0x200000000#36 33 32 = 2 ∧ fld 0x200000000#36 15 0 = 0) ∧
      fld 0x000BF0000#36 23 16 = 191 ∧ fld 0x000C00000#36 23 16 = 192 ∧ fld 0x000FF0000#36 23 16 = 255) ∧
    -- a gated section; a section that runs, with the engine fenced and not; device memories in AWAIT_SUPERVISOR and OPERATIONAL
    ((s0.setB (.SEC_PWR 0) F.SEC_PWR_GATED true).gated 0 = true ∧ s0.gated 0 = false ∧ (sec 0 2).running 0 = true ∧ s0.running 0 = false ∧
      (((sec 0 2).modEngine 0 (fun x => { x with fenced := true })).engine 0).fenced = true ∧ (1 ≤ (dev 2).devState ∧ (dev 2).devState ≤ 2) ∧ ¬ (dev 5).devState ≤ 3) ∧
    ((mrS 0 5 0 0).march.busy = true ∧ (mrS 0 5 0 0).march.boot = false ∧ (mrS 0 5 2 1).march.waits ≠ 0 ∧ (mrS 0 5 0 0).march.waits = 0 ∧ (mrS 7 1 1 0).march.kind < 8 ∧
      (mrS 0 5 1 0).march.alg = 1 ∧ (mrS 0 5 0 0).march.alg ≠ 1 ∧ ((mrS 0 5 1 0).setB .MARCH_CTL F.MARCH_CTL_REPAIR true).getB .MARCH_CTL F.MARCH_CTL_REPAIR = true ∧ ∀ f ∈ [(⟨0x10000000, 63⟩ : FailRow)], f.bank < 64) ∧
    -- a read-only run of the shared memory of cluster 0 with a corrected and an uncorrectable word, and one of a Glove copy
    (let s := (mrS 4 0 1 0).markBad 0x10000000
     let s : State := { s with eccSoft := s.eccSoft.set (fun _ => false) (0x10000004 / 4) true }
     s.march.alg = 1 ∧ SMap.wf (fun _ => false) s.eccSoft = true ∧ SMap.wf (fun _ => false) s.eccBad = true ∧ memOf (MemId.shared 0).base = some (.shared 0) ∧
     s.isBad 0x10000004 = false ∧ s.isSoft 0x10000004 = true ∧ s.march.kind ≠ 7 ∧ ¬ (mrS 7 1 1 0).march.kind ≠ 7 ∧ memOf MemId.sup.base = some .sup ∧ memOf MemId.queue.base = some .queue) := by decide +kernel
/-- Context 0 of cluster 0 with descriptor d queued or running. -/
def dmS (q : List Desc) (r : Option Desc) : State := s0.setDma 0 { queue := q, running := r }
/-- A fill of n words at scratchpad address 0x100. -/
def fillD (n : Nat) (bad : Bool) : Desc := { w0 := 7, w1 := 0x100, w2 := BitVec.ofNat 36 (2 ^ 34 + n), addr := 0x40, ring := 0, bad := bad }
theorem test_hyp_SemaphoresCachesDoorbellsAndDma_2 :
    -- a section that stands still, a master outside it and the debug domain; a descriptor of section 1 into section 0
    ((stE id).stalled 0 = true ∧ Master.engine 0 0 ≠ .debug ∧ (dmaMem 32 0x10000000).bind MemId.sect = some 0 ∧ (stE id).stalled 1 = false ∧
      bit (fillD 1 false).w2 34 = true) ∧
    -- who may release
    ((Master.sve true = .sve true) ∧ (s0.setF (.SEC_SEM 0 0 0) F.SEC_SEM_STATE 2).getF (.SEC_SEM 0 0 0) F.SEC_SEM_STATE ≠ 1) := by decide +kernel
theorem test_hyp_SemaphoresCachesDoorbellsAndDma :
    (∀ v < 3, (s0.setF (.SEC_SEM 0 0 0) F.SEC_SEM_STATE v).getF (.SEC_SEM 0 0 0) F.SEC_SEM_STATE = v) ∧
    (let s := (s0.setF (.SEC_SEM 0 0 0) F.SEC_SEM_STATE 1).setF (.SEC_SEM 0 0 0) F.SEC_SEM_OWNER 3
     s.getF (.SEC_SEM 0 0 0) F.SEC_SEM_STATE = 1 ∧ s.getF (.SEC_SEM 0 0 0) F.SEC_SEM_OWNER = (3 : Fin 192).val ∧
     (s.sect 0).dbgSem 0 0 = decide (Master.engine 3 0 = .debug)) ∧
    (3 / 32 = (0 : SectId).val ∧ bit (8 : Word) 3 = true ∧ bit 0x100000000#36 32 = true) ∧
    ((s0.dmaCtx 0).queue = [] ∧ ((dmS (List.replicate 4 (fillD 1 false)) none).dmaCtx 0).queue.length = 4 ∧ (∀ j < 3, s0.isBad (spadBase 0 + 4 * j) = false) ∧
      ((s0.markBad (spadBase 0 + 4)).isBad (spadBase 0 + 4) = true ∧ (s0.markBad (spadBase 0 + 4)).isBad (spadBase 0) = false)) ∧
    (((dmS [fillD 1 false] none).dmaCtx 0).queue = [fillD 1 false] ∧ ((dmS [fillD 1 false] none).dmaCtx 0).running = none ∧ ((dmS [fillD 1 false] none).engine 0).halted = false ∧
      (dmS [fillD 1 false] none).stalled 0 = false ∧ (stE id).stalled 0 = true ∧
      s0.gated 0 = false ∧ (fillD 1 true).bad = true ∧ s0.dmaBad 0 (fillD 1 false) = false ∧ s0.dmaBad 0 (fillD 0 false) = true) ∧
    (((dmS [] (some (fillD 2 false))).dmaCtx 0).running = some (fillD 2 false) ∧ bit (fillD 2 false).w2 34 = true ∧
      (let d : Desc := { fillD 2 false with w0 := 0x40, w2 := 2 }
       bit d.w2 34 = false ∧ fld d.w2 16 0 = 2 ∧ (∀ j < 2, s0.isBad (canonOf 0 (d.w0.toNat + 4 * j)) = false) ∧ s0.memHeld (canonOf 0 (d.w0.toNat + 4)) = false ∧
       canonOf 0 d.w0.toNat / 4 ≠ canonOf 0 (d.w0.toNat + 4) / 4 ∧ canonOf 0 d.w1.toNat / 4 ≠ canonOf 0 (d.w0.toNat + 4) / 4)) := by decide +kernel
theorem test_hyp_SectionsGatePowerAndFence :
    (s0.sectState 0 = 0 ∧ (sec 0 3).sectState 0 = 3 ∧ s0.gated 0 = false ∧ (s0.setB (.SEC_PWR 0) F.SEC_PWR_GATED true).getB (.SEC_PWR 0) F.SEC_PWR_GATED = true ∧
      (s0.setB (.SEC_PWR 0) F.SEC_PWR_BUSY true).getB (.SEC_PWR 0) F.SEC_PWR_BUSY = true ∧ s0.getB (.SEC_PWR 0) F.SEC_PWR_BUSY = false ∧ s0.march.boot = false) ∧
    (bit 0x800000005#36 35 = true ∧ bit (5 : Word) 35 = false ∧ (s0.setF (.SEC_FENCE 0) F.SEC_FENCE_STS 1).getF (.SEC_FENCE 0) F.SEC_FENCE_STS = 1 ∧
      ((en 5 (fun x => { x with fenced := true })).engine 5).fenced = true ∧ (s0.engine 5).fenced = false ∧ (s0.setB (.SEC_PWR 0) F.SEC_PWR_GATED true).gated 0 = true) ∧
    (((s0.modSect 5 (fun x => { x with fencing := some 191 })).sect 5).fencing = some 191 ∧ 191 / 32 = (5 : SectId).val ∧ (s0.sect 5).fencing = none) := by decide +kernel
/-- GET_STATUS is a row of Tables 16.7 and 18.4. -/
theorem test_host_row : IsHostRow (.getStatus, 0x001) := by unfold IsHostRow; exact List.mem_cons_self ..
theorem test_hyp_HostCommandsAreCheckedInOrder :
    (5 < 6) ∧ (1 ≤ (dev 1).devState ∧ (dev 7).devState ≤ 7) ∧ ((dev 3).seq.session = none) ∧
    -- each scope and type that a row names
    ((∀ v < 3, fld (BitVec.ofNat 36 v) 1 0 = v) ∧ (∀ v < 5, fld (BitVec.ofNat 36 v) 7 0 = v)) ∧ ¬ s0.listens ∧ (dev 3).listens ∧ (dev 3).offsetOk 0x001 [] = true ∧ paramsOk 0x001 [1] = false ∧ paramsOk 0x001 [] = true ∧
    -- SAFE cleared outside SAFE; GET_EVENT_LOG without and with a supervisor; RELEASE without level; a second command while one waits
    ((dev 3).legalNow 0x012 [] = none ∧ (dev 3).legalNow 0x004 [1] = some .firmware ∧
      ((dev 3).setB .HOST_STATE F.HOST_STATE_SUP false).getB .HOST_STATE F.HOST_STATE_SUP = false ∧ (dev 3).getB .HOST_STATE F.HOST_STATE_SUP = true ∧
      ({ dev 3 with dbg := { s0.dbg with level := 0 } } : State).authOk 0x080 = false ∧ (dev 3).authOk 0x004 = true ∧
      (let f : FwCmd := { opcode := 4, tag := 0, noibi := false, status := 0, words := [] }
       ({ dev 3 with seq := { (dev 3).seq with fw := some f } } : State).hostBusy 0x004 .firmware [1] = true) ∧ (dev 3).hostBusy 0x004 .firmware [1] = false) := by
  unfold State.listens; decide +kernel
/-- State.hostTakes as a Bool. -/
def takes (s : State) (o : Nat) (ws : List Word) (x : Exec) : Bool :=
  !s.blocksHeld && s.devState != 0 && s.seq.da.isSome && decide (s.seq.replies.length < 4) && paramsOk o (ws.take 511) && s.offsetOk o (ws.take 511) && s.legalNow o (ws.take 511) == some x &&
    (x != .firmware || s.getB .HOST_STATE F.HOST_STATE_SUP) && s.authOk o && !s.hostBusy o x (ws.take 511)
theorem takes_hostTakes {s : State} {o : Nat} {ws : List Word} {x : Exec} (h : takes s o ws x = true) : s.hostTakes o ws x := by
  simp only [takes, Bool.and_eq_true, Bool.or_eq_true, bne_iff_ne, ne_eq, decide_eq_true_eq, beq_iff_eq, Bool.not_eq_true'] at h
  obtain ⟨⟨⟨⟨⟨⟨⟨⟨⟨h0, h1⟩, h2⟩, h3⟩, h4⟩, h9⟩, h5⟩, h6⟩, h7⟩, h8⟩ := h
  refine ⟨⟨h0, h1, ?_, h3⟩, h4, h9, h5, fun hx => h6.resolve_left (fun hn => hn hx), h7, h8⟩
  intro hd; rw [hd] at h2; exact absurd h2 (by decide)
/-- A session of type ty with n of 20 words received. -/
def sess (ty : Nat) (ws : List Word) : Session := { type := ty, target := 0, count := 20, words := ws, closing := false, tag := 0, noibi := false }
def withSess (s : State) (ty : Nat) (ws : List Word) : State := { s with seq := { s.seq with session := some (sess ty ws) } }
theorem test_hyp_SequencerCommandsActAndReply :
    (takes (dev 1) 0x001 [] .seq = true ∧ takes (dev 1) 0x002 [] .seq = true ∧ takes (dev 1) 0x003 [] .seq = true) ∧
    (takes (dev 3) 0x010 [0] .seq = true ∧ takes (dev 3) 0x010 [1] .seq = true ∧ takes (dev 3) 0x010 [2] .seq = true ∧ takes (dev 3) 0x010 [0x52] .seq = true) ∧
    (takes (dev 1) 0x011 [] .seq = true ∧ (dev 1).devState < 2 ∧ takes (dev 2) 0x011 [] .seq = true) ∧ (takes (dev 6) 0x012 [] .seq = true ∧ (dev 6).seq.session = none) ∧
    (takes (dev 2) 0x020 [1, 3] .seq = true ∧ takes (dev 3) 0x020 [2, 3] .seq = true) ∧
    (takes (withSess (dev 3) 3 (zs 20 [])) 0x022 [] .firmware = true ∧ { sess 3 [] with closing := true }.closing = true) ∧
    ((withSess (dev 2) 1 []).openSession = some (sess 1 []) ∧ takes (withSess (dev 2) 1 []) 0x021 [0, 5] .seq = true ∧ takes (withSess (dev 2) 1 (zs 20 [])) 0x022 [] .seq = true ∧
      takes (withSess (dev 2) 1 []) 0x023 [] .seq = true ∧ takes (withSess (dev 3) 3 []) 0x023 [] .seq = true) ∧
    (takes (dev 2) 0x060 [0] .seq = true ∧ takes (dev 2) 0x061 [] .seq = true ∧ s0.march.boot = false) := by
  decide +kernel
/-- The device in state v with the debug level at 2, lifecycle DEPLOYED (3), identity derived. -/
def dbgS (v : Nat) : State := { dev v with dbg := { (dev v).dbg with level := 2 }, helm := { (dev v).helm with lc := 3, idKey := some 5 } }
theorem test_hyp_UnlockAttestAndDebugCommandsActAndReply_1 :
    s0.seq.haltWait = [] ∧ (let x : HaltWait := { opcode := 0x080, tag := 0, noibi := false, targets := [0] }
      ({ s0 with seq := { s0.seq with haltWait := [x] } } : State).seq.haltWait = [x]) ∧
    (takes (dbgS 2) 0x070 [1, 5] .seq = true ∧ (dbgS 2).helm.lc = 3 ∧ (dbgS 2).dbg.pwFail < 5 ∧ s0.helm.lc ≠ 3 ∧
      5 ≤ ({ s0.dbg with pwFail := 5 } : Dbg).pwFail ∧ (dbgS 2).pwdSet = false) ∧
    (takes (dbgS 2) 0x071 [] .seq = true ∧ takes (dbgS 2) 0x072 [0x8000, 0x00] .seq = true ∧ (dbgS 2).dbg.nonce = none ∧
      (let n : List Octet := [1]
       ({ (dbgS 2).dbg with nonce := some n } : Dbg).nonce = some n ∧ fld (0x8000 : Word) 11 0 = (dbgS 2).dbg.resp.length ∧ fld (0x8004 : Word) 11 0 ≠ (dbgS 2).dbg.resp.length ∧
       ([1, 2, 3, 4] : List Octet).length < fld (0x8000 : Word) 23 12 ∧ fld (0x4000 : Word) 23 12 ≤ ([1, 2, 3, 4] : List Octet).length)) ∧
    takes (dbgS 2) 0x073 [] .seq = true ∧ takes (dbgS 2) 0x074 (zs 12 []) .seq = true := by decide +kernel
theorem test_hyp_UnlockAttestAndDebugCommandsActAndReply_2 :
    takes (dbgS 2) 0x080 [0] .seq = true ∧ takes (dbgS 2) 0x081 [0x800000000#36] .seq = true ∧ takes (dbgS 2) 0x082 [0, 1] .seq = true ∧
    ((dbgS 2).engine 0).halted = false ∧ (((dbgS 2).modEngine 0 (fun x => { x with halted := true })).engine 0).halted = true ∧
    takes (dbgS 2) 0x083 [0, 0, 1] .seq = true ∧ takes (dbgS 2) 0x083 [0x800000000#36, 0, 1] .seq = true ∧ takes (dbgS 2) 0x084 [0, 0, 1] .seq = true ∧
    takes (dbgS 2) 0x085 [0, 0, 0] .seq = true ∧ takes (dbgS 2) 0x086 [0, 0, 0] .seq = true ∧ takes (dbgS 2) 0x087 [0, 0x800000001#36] .seq = true ∧
    SMap.get (fun _ => none) ({ (dbgS 2).dbg with rxd := [(0, some 1)] } : Dbg).rxd 0 ≠ none ∧ SMap.get (fun _ => none) (dbgS 2).dbg.rxd 0 = none ∧
    SMap.get (fun _ => none) ({ (dbgS 2).dbg with txd := [(0, some 1)] } : Dbg).txd 0 = some 1 ∧
    takes (dbgS 2) 0x088 [0] .seq = true ∧ takes (dbgS 2) 0x088 [0x400000000#36, 0] .seq = true ∧ takes (dbgS 2) 0x088 [0x800000000#36] .seq = true ∧
    takes (dbgS 2) 0x089 [] .seq = true := by decide +kernel
theorem test_hyp_FirmwareCommandsActAndAreHandedOver :
    takes (dev 3) 0x004 [1] .firmware = true ∧ takes (dev 3) 0x020 [3, 3] .firmware = true ∧ takes (dev 3) 0x020 [4, 3] .firmware = true ∧
    ((withSess (dev 3) 3 []).openSession = some (sess 3 []) ∧ takes (withSess (dev 3) 3 []) 0x021 [0, 7] .firmware = true ∧ 
      ((withSess (dev 3) 3 []).offsetOk 0x021 [1, 7] = false ∧ (sess 3 []).sel = none ∧ (sess 3 []).words.length + 1 ≤ (sess 3 []).count)) ∧
    -- the last word of the body of an image arrives; one word too many
    (let x := { sess 3 (zs 16 [0, 0, 2]) with count := 20 }
     ¬ 16 + imgBodyLen (x.words ++ [1]) ≤ (x.words ++ [1]).length ∧ 16 + imgBodyLen (x.words ++ [1, 2]) ≤ (x.words ++ [1, 2]).length ∧ 16 < (x.words ++ [1, 2]).length ∧
     20 < (x.words ++ zs 5 []).length) ∧
    takes (dev 4) 0x030 [] .firmware = true ∧ ((dev 4).setF (.SEC_STATE 5) F.SEC_STATE_STATE 1).sectState 5 = 1 ∧
    takes ((dev 5).setF (.SEC_STATE 5) F.SEC_STATE_STATE 2) 0x031 [5] .firmware = true ∧ takes ((dev 5).setF (.SEC_STATE 0) F.SEC_STATE_STATE 1) 0x032 [0] .firmware = true ∧
    takes (dev 4) 0x033 [32767, 1] .firmware = true ∧ takes (dev 5) 0x034 [0, 2] .firmware = true ∧ takes (dev 3) 0x040 [0, 511] .firmware = true ∧
    takes (dev 3) 0x041 [0, 1] .firmware = true ∧ takes (dev 3) 0x042 [0, 1] .firmware = true ∧ takes (dev 3) 0x043 [0, 1] .firmware = true ∧
    takes (dev 3) 0x050 [19] .firmware = true ∧ takes (dev 3) 0x051 [0x100] .firmware = true ∧ takes (dev 3) 0x052 [0, 0] .firmware = true ∧
    takes (dev 3) 0x090 [] .firmware = true ∧ takes (dev 3) 0x091 [] .firmware = true ∧ takes (dev 4) 0x0A0 [32768, 1, 2, 3, 4] .firmware = true ∧
    takes (dev 4) 0x0A1 [0] .firmware = true ∧ takes (dev 3) 0x0F0 [] .firmware = true := by decide +kernel
/-- An image of type ty with the given body and no signature block. -/
def img (ty : Nat) (vuse : Word) (body : List Word) : Session :=
  let hdr : List Word := [BitVec.ofNat 36 (2 ^ 27 + ty), 0, BitVec.ofNat 36 body.length] ++ zs 5 [] ++ [vuse] ++ zs 7 []
  { type := ty, target := 0, count := 20, words := hdr ++ body, closing := true, tag := 0, noibi := false }
/-- A schedule body: one variant that uses logical engine 0, 800 MHz, a budget of one cycle, no segment and no record. -/
def schedBody : List Word := zs 10 [BitVec.ofNat 36 (2 ^ 32 + 800 * 2 ^ 19), 0, 10] ++ [1, BitVec.ofNat 36 (2 ^ 30), 0, 0, 1, 0, 0]
theorem test_hyp_VerifiedImagesTakeEffect :
    (s0.seq.session = none ∧ ({ s0 with seq := { s0.seq with session := some (img 4 0 [0]) } } : State).seq.session = some (img 4 0 [0]) ∧
      (img 4 0 [0]).closing = true ∧ imgFormOk (img 4 0 [0]) = false) ∧
    (imgBody (img 1 0 [0x040000000#36]).words = [0x040000000#36] ∧ supBodyOk [0x040000000#36] = true ∧ supBodyOk [0x040077FFF#36] = true ∧ supBodyOk [0x040078000#36] = false) ∧
    (limitsBodyOk (zs 8 [BitVec.ofNat 36 (2 ^ 16 + 32767)]) = true ∧ limitsBodyOk (zs 8 [BitVec.ofNat 36 (2 * 2 ^ 16 + 32767)]) = false ∧ ¬ s0.glvLocked ∧
      (s0.setB .GLV_CTL F.GLV_CTL_LOCK true).glvLocked ∧ (chS.ch 5).live = true) ∧
    (s0.gated 0 = false ∧ (s0.setB (.SEC_PWR 0) F.SEC_PWR_GATED true).gated 0 = true ∧ parseVariants [] = none ∧ (parseVariants schedBody).isSome = true ∧
      (img 3 1 schedBody).sel = none) ∧
    -- images whose VUSE words agree with the variants and do not; the loader's part of a session that chose variant 0, and one whose relocation failed
    (let x := { img 3 1 schedBody with sel := some (0, 0, 0) }
     (parseVariants (imgBody x.words)).map (fun vs => (vuseOk (x.words.take 16) vs, vs[0]?.isSome)) = some (true, true) ∧ x.relB ≠ none ∧
     { x with relB := none }.relB = none ∧
     (parseVariants (imgBody (img 3 3 schedBody).words)).map (vuseOk ((img 3 3 schedBody).words.take 16)) = some false ∧
     (mrS 0 0 0 0).march.busy = true ∧ (mrS 0 0 0 0).march.alg ≠ 1 ∧ marchSect 0 0 = some 0) ∧ s0.memHeld 0 = false ∧
    (parseChMap [1] s0.kNow = none ∧ (parseChMap [0] s0.kNow).isSome = true) := by
  unfold State.glvLocked; decide +kernel
theorem test_hyp_LoadersWriteScheduleImagesAsTheyArrive :
    -- a body that is not whole, one whose variant does not fit, one that fits, in time and too slow
    ((img 3 1 []).words.length = 16 ∧ (imgBody (img 3 1 []).words).length < 10 ∧ (sess 3 []).words.length < 16 ∧ 10 ≤ (imgBody (img 3 1 schedBody).words).length ∧
      (img 3 1 schedBody).sel = none ∧ (img 3 1 schedBody).acts = 0 ∧ (img 3 1 schedBody).relB = some 0) ∧
    (bit ((s0.setReg (.SEC_USABLE 0) 0).reg (.SEC_USABLE 0)) (physOf 0 0) = false ∧
      (min 8 (fld (schedBody.getD 0 0) 35 32) = 1 ∧ (∀ i < 32, bit (1 : Word) i = true → bit (s0.reg (.SEC_USABLE 0)) (physOf 0 i) = true)) ∧
      (schedBody.getD 2 0).toNat + 7 ≤ schedBody.length ∧ schedBody.dropLast.length < (schedBody.getD 2 0).toNat + 7) ∧
    (let slow := fun (b : List Word) => decide (fld (b.getD 0 0) 29 19 * s0.beat.period < 100 * fld (b.getD 14 0) 17 0)
     slow schedBody = false ∧ slow (schedBody.set 14 8001) = true ∧ ¬ s0.cclk < 800) ∧
    { img 3 1 schedBody with sel := some (9, 0, 0) }.sel = some (8 + 1, 0, 0) ∧ { img 3 1 schedBody with sel := some (0, 0, 0) }.sel = some (0, 0, 0) ∧
    (((parseVariants (imgBody (img 3 1 schedBody).words)).bind (·[0]?)).isSome = true) ∧
    -- the placed words and others
    (memOf (4 * (spadBase 0 / 4)) = some (.spad 0) ∧ bit (1 : Word) 0 = true ∧ 0 = 0 * 32 + physOf 0 0 ∧ memOf (4 * (spadBase 1 / 4)) = some (.spad 1)) ∧
    -- relocation records of each type: within the ranges and beyond them
    (∀ ca ∈ [0, 4, spadBase 0], s0.memHeld ca = false) ∧
    (let b := fun (r : Word) => fld r 31 30 == 0 && fld r 29 25 == 0 && fld r 16 0 == 0
     let r := fun (ty arg : Nat) => (BitVec.ofNat 36 (ty * 2 ^ 32 + arg * 2 ^ 17) : Word)
     (∀ ty < 8, fld (r ty 0) 35 32 = ty) ∧ b (r 2 0) = true ∧ fld (r 3 7) 24 17 = 7 ∧ ¬ fld (r 3 8) 24 17 < 8 ∧ fld (r 4 31) 24 17 = 31 ∧ ¬ fld (r 4 32) 24 17 < 32 ∧
     b (r 6 0 + 1) = false ∧ 8 ≤ fld (r 8 0) 35 32 ∧
     (let m : ChMap := { lanes := [], blocks := [{ sect := 0, leng := 5, first := 7, count := 1 }] }
      (({ s0 with helm := { s0.helm with chmap := some m } } : State).helm.chmap.bind (fun m => m.blocks.find? (fun o => o.sect == 0 && o.leng == 5))).isSome = true) ∧
     s0.helm.chmap = none) ∧
    (8191 < 8192 ∧ ¬ (8192 : Nat) < 8192 ∧ (0x3FFE : Nat) ≤ 0x3FFE ∧ bit (1 : Word) 0 = true ∧ bit (1 : Word) 1 = false) ∧
    -- a move whose immediate a relocation may fill
    (let move := 5 * 2 ^ 33
     move.testBit 35 = true ∧ move.testBit 33 = true ∧ move % 2 ^ 19 = 0 ∧ -262144 ≤ (0 : Word).toInt + (262143 : Word).toInt ∧ (0 : Word).toInt + (262143 : Word).toInt ≤ 262143 ∧
      ¬ (0 : Word).toInt + (262144 : Word).toInt ≤ 262143) := by decide +kernel
/-- The octets of a packet of header h and parameters ps. -/
def packet (h : Word) (ps : List Word) : List Octet := packWords (h :: ps ++ [BitVec.ofNat 36 (ckuCrc 0x82F63B78 (h :: ps))])
/-- The conditions of MailboxRepliesAndTheI3cTarget on a packet. -/
def packetGood (os : List Octet) (ddr : Bool) : Bool :=
  let h := (unpackWords 256 os).headD 0
  let n := 9 * ((fld h 17 9 + 3) / 2)
  let ws := unpackWords 257 (os.take n)
  os.length == (if ddr = true ∧ n % 2 = 1 then n + 1 else n) && ws.getD (fld h 17 9 + 1) 0 == BitVec.ofNat 36 (ckuCrc 0x82F63B78 (h :: (ws.drop 1).take (fld h 17 9)))
theorem test_hyp_MailboxRepliesAndTheI3cTarget_1 :
    (let f : FwCmd := { opcode := 4, tag := 0, noibi := false, status := 0, words := [] }
     let s : State := { s0 with seq := { s0.seq with fw := some f } }
     s.stopWaits = false ∧ s.seq.fw = some f ∧ bit (0 : Word) 16 = false ∧ s.seq.mbxReply.length = fld (0 : Word) 25 17 ∧ s.seq.mbxReply.length ≠ fld (0x20000 : Word) 25 17 ∧ s0.seq.fw = none ∧
     ({ s0.seq with timedOut := true } : Seq).timedOut = true ∧ s0.seq.timedOut = false) ∧
    (let r : Reply := { status := 0, tag := 0, words := [], noibi := false, state := 0 }
     let q := { s0.seq with outside := [r], replies := [r, r, r], da := some 8, ibis := [1], ibiEn := true }
     q.outside = r :: [] ∧ q.replies.length < 4 ∧ q.da ≠ none ∧ q.ibis = 1 :: [] ∧ q.ibiEn = true ∧ s0.seq.outside = [] ∧ s0.seq.replies = [] ∧ s0.seq.ibis = [] ∧
     4 ≤ [r, r, r, r].length ∧ (dev 3).blocksHeld = false ∧ s0.blocksHeld = true ∧ ({ q with hdr := true } : Seq).hdr = true ∧ q.hdr = false) ∧
    -- a STOP_SECTION that firmware has taken and whose boundary has not passed
    (let f : FwCmd := { opcode := 0x031, tag := 0, noibi := false, status := 0, words := [] }
     let s := (sec 0 2).modSect 0 (fun x => { x with stopAt := some 1 })
     ({ s with seq := { s.seq with fw := some { f with words := [1] } } } : State).stopWaits = true) ∧
    (s0.pins.addrSel.toNat + 0x30 = (0x30 : BitVec 7).toNat ∧ (0x31 : BitVec 7).toNat ≠ 0x30 + s0.pins.addrSel.toNat) ∧
    (¬ s0.listens ∧ (dev 3).listens) := by unfold State.listens; decide +kernel
theorem test_hyp_MailboxRepliesAndTheI3cTarget_2 :
    -- a packet too short, a damaged one, an opcode that is not assigned, a reserved bit, GET_STATUS; with a pad octet under HDR-DDR
    (([] : List Octet).length < 9 ∧ 9 ≤ (packet 0 []).length ∧ packetGood (packet 0 []) false = true ∧ packetGood ((packet 0 []).set 0 1) false = false ∧
      packetGood (packet 0 [] ++ [0]) true = true ∧ packetGood (packet 0 []) true = false ∧ packetGood (packet (BitVec.ofNat 36 (2 ^ 9)) [5]) false = true) ∧
    (opAssigned 0 = false ∧ opAssigned 1 = true ∧ fld (BitVec.ofNat 36 (2 ^ 27) : Word) 35 27 = 1 ∧ packetGood (packet (BitVec.ofNat 36 (2 ^ 27)) []) false = true ∧
      fld (BitVec.ofNat 36 (2 ^ 27 + 1) : Word) 7 0 ≠ 0) := by decide +kernel
theorem test_hyp_OtpProgramsAndHealthUpdates_1 :
    (s0.getF .HELM_OTPCTL F.HELM_OTPCTL_STS ≠ 1 ∧ (s0.setF .HELM_OTPCTL F.HELM_OTPCTL_STS 1).getF .HELM_OTPCTL F.HELM_OTPCTL_STS = 1 ∧
      s0.otpAllowed 0x001 5 = true ∧ s0.otpAllowed 0x081 5 = false ∧ ({ s0.helm with lc := 1 } : Helm).lc = 1 ∧ s0.helm.lc ≠ 1) ∧
    (s0.helm.prog = none ∧ ({ s0.helm with prog := some (0x0A0, 0) } : Helm).prog = some (0x0A0, 0) ∧ ({ s0.helm with prog := some (1, 5) } : Helm).prog = some (1, 5)) ∧
    (let on := fun (r : Nat) => { (dev 3).setB .HLTH_CTL F.HLTH_CTL_AVS_EN true with health := { Health.reset with raise := r } }
     ¬ ((on 0).devState = 0) ∧ (on 0).getB .HLTH_CTL F.HLTH_CTL_AVS_EN = true ∧ (on 1).health.raise = 1 ∧ (on 2).health.raise = 2 ∧ (on 1).health.raiseT < 4 ∧
     4 ≤ ({ (on 1).health with raiseT := 4 } : Health).raiseT ∧ (on 1).health.raiseSent = false ∧ ({ (on 1).health with raiseSent := true } : Health).raiseSent = true ∧
     (on 0).health.stopped = false ∧ ({ (on 0).health with stopped := true } : Health).stopped = true ∧ (on 0).health.fails + 1 ≠ 3 ∧
     ({ (on 0).health with fails := 2 } : Health).fails + 1 = 3 ∧
     -- the hundredth sample above 850 mV; a voltage below 0
     (100 ≤ ({ (on 0).health with negCnt := 99 } : Health).negCnt + 1 ∧ (850 : Int) < (851 + 0 : Int) - 0 ∧ ¬ (0 : Int) ≤ (0 + 0 : Int) - 1) ∧ (848 ≤ (848 : Fin 1024).val ∧ (852 : Fin 1024).val ≤ 852) ∧ ¬ 848 ≤ (847 : Fin 1024).val ∧ ¬ (853 : Fin 1024).val ≤ 852) := by
  decide +kernel
/-- The device operational, with the thermal loop on, TMAX at t and the thresholds 100 and 90. -/
def thS (t : Nat) : State :=
  (((((dev 5).setB .HLTH_CTL F.HLTH_CTL_THR_EN true).setF .HLTH_THERM F.HLTH_THERM_TMAX t).setF .HLTH_THERM F.HLTH_THERM_THR_HOT 100).setF .HLTH_THERM F.HLTH_THERM_THR_CLR 90)
theorem test_hyp_OtpProgramsAndHealthUpdates_2 :
    (let tj := fun t => sext 9 ((thS t).getF .HLTH_THERM F.HLTH_THERM_TMAX)
     100 ≤ tj 100 ∧ ¬ tj 100 ≤ 90 ∧ tj 90 ≤ 90 ∧ ¬ 100 ≤ tj 90 ∧ ¬ (100 ≤ tj 95 ∨ tj 95 ≤ 90) ∧ (thS 100).getB .HLTH_CTL F.HLTH_CTL_THR_EN = true ∧
     (let s := (thS 100).setF .HLTH_CLK F.HLTH_CLK_NOM 1600
      ceil50 (max s.fminSched 800) + 50 * s.health.tsteps < floor50 (min (s.getF .HLTH_CLK F.HLTH_CLK_NOM) (s.getF .HLTH_CLK F.HLTH_CLK_CEIL))) ∧
     (let s := (thS 100).setF .HLTH_CLK F.HLTH_CLK_NOM 800
      ¬ ceil50 (max s.fminSched 800) + 50 * s.health.tsteps < floor50 (min (s.getF .HLTH_CLK F.HLTH_CLK_NOM) (s.getF .HLTH_CLK F.HLTH_CLK_CEIL)))) ∧
    ((dev 3).devState ≠ 0 ∧ ((dev 3).setB .HLTH_CTL F.HLTH_CTL_AGE_EN true).getB .HLTH_CTL F.HLTH_CTL_AGE_EN = true ∧
      max ((dev 3).getF .HLTH_CTL F.HLTH_CTL_GB_MIN) ((0 * (dev 3).getF .HLTH_CTL F.HLTH_CTL_HORIZON + 999) / 1000) < 256) ∧
    (s0.health.evts = [] ∧ ({ s0.health with evts := [3] } : Health).evts = [3]) ∧
    ((s0.setB .HLTH_SWDT F.HLTH_SWDT_EN true).getB .HLTH_SWDT F.HLTH_SWDT_EN = true ∧ (s0.engine 192).halted = false ∧ s0.getB .HLTH_SWDT F.HLTH_SWDT_EN = false) := by
  decide +kernel
theorem test_hyp_ResetsOfThePinsAndTheTargetReset :
    -- the balls of a device in reset, and of one that runs
    ((s0.pins.resetNLow = false ∧ s0.helm.loaded = false) ∧
      ((dev 5).pins.resetNLow = false ∧ (dev 5).pins.pgoodLow = false ∧ (dev 5).pins.refSysLost = false ∧ (dev 5).pins.thermtrip = false ∧ (dev 5).helm.loaded = true)) ∧
    (s0.seq.resetPend = false ∧ ({ s0.seq with resetPend := true } : Seq).resetPend = true) ∧
    (({ s0.seq with rstact := 0 } : Seq).rstact = 0 ∧ 2 ≤ ({ s0.seq with rstact := 2 } : Seq).rstact ∧ s0.seq.rstact = 1) ∧
    ((withSess (dev 3) 3 []).seq.session = some (sess 3 []) ∧ (sess 3 []).target ≤ 5 ∧ (sess 4 []).type ≠ 3 ∧ s0.march.boot = false) := by decide +kernel
theorem test_hyp_BootRunsFromFuseLoadToAwaitSupervisor :
    -- fuse load that goes on to SELFTEST, to FAULT and past the boot march; one that waits
    (s0.devState = 0 ∧ s0.helm.loaded = false ∧ s0.pins.resetNLow = false ∧ s0.pins.pgoodLow = false ∧ s0.pins.refSysLost = false ∧ s0.pins.thermtrip = false ∧
      s0.helm.otpBad = [] ∧ SMap.wf (fun _ => false) s0.helm.otpBad = true ∧ (fz (zs 6 []) 700 []).otpBad = [] ∧
      SMap.get (fun _ => false) (s0.otpFound [7]).helm.otpBad 7 = true ∧ s0.seq.safePend = false ∧ s0.pins.safeSeenBoot = false ∧ bit (s0.otpWord 7) 0 = false ∧
      bit (({ s0 with helm := { s0.helm with otp := [(7, 1)] } } : State).otpWord 7) 0 = true ∧
      ({ s0.pins with resetNLow := true } : Pins).resetNLow = true) ∧
    (s0.march.boot = false ∧ ({ s0.march with boot := true } : March).boot = true ∧ s0.march.busy = false ∧ (bm [] false 0).device = false ∧ (bm [] true 3).device = true) ∧
    ((dev 1).devState = 1 ∧ (dev 2).devState ≠ 1) ∧ ((lan 0 0 id).laneState 0 = 0 ∧ (lan 0 9 id).laneState 0 ≠ 0 ∧ (lan 0 11 id).laneState 0 = 11 ∧
      (chS.ch 5).g0.state < 2) ∧ (∀ n, (s0.engine n).sb = [] ∧ (s0.engine n).outStores = [] ∧ s0.dmaCtx n = DmaCtx.reset) := by
  refine ⟨by decide +kernel, by decide +kernel, by decide +kernel, by decide +kernel, fun n => ⟨rfl, rfl, rfl⟩⟩
/-- Canonical as a Bool. -/
def canonB (s : State) : Bool :=
  SMap.wf (memDflt s.undef) s.mem && SMap.wf Reg.dflt s.regs && SMap.wf (fun _ => 0) s.undef && SMap.wf (fun _ => false) s.eccSoft &&
  SMap.wf (fun _ => false) s.eccBad && SMap.wf (fun _ => Engine.reset) s.eng && SMap.wf (fun _ => Section.reset) s.sec &&
  SMap.wf (fun _ => DmaCtx.reset) s.dma && SMap.wf (fun _ => Chan.reset) s.chan && SMap.wf (fun _ => Queue.reset) s.queue &&
  SMap.wf (fun _ => Lane.reset) s.lane && SMap.wf (fun _ => Svc.reset) s.svc && SMap.wf (fun _ => Cku.reset) s.cku
theorem canonB_canonical {s : State} (h : canonB s = true) : Canonical s := by
  simp only [canonB, Bool.and_eq_true] at h
  obtain ⟨⟨⟨⟨⟨⟨⟨⟨⟨⟨⟨⟨a, b⟩, c⟩, d⟩, e⟩, f⟩, g⟩, i⟩, j⟩, k⟩, l⟩, m⟩, n⟩ := h
  exact ⟨a, b, c, d, e, f, g, i, j, k, l, m, n⟩
/-- The beat generator runs. -/
def beats (s : State) : State := { s with beat := { s.beat with started := true } }
theorem test_hyp_BoundariesNumberBeatsAndJudgeThem :
    (s0.beat.started = false ∧ (beats s0).beat.started = true ∧ (beats s0).beat.aligned = false ∧ ({ (beats s0).beat with aligned := true } : BeatGen).aligned = true) ∧
    canonB (beats s0) = true ∧
    -- an ACTIVE channel within its freshness limits, at its limit of upstream beats, and of downstream beats
    (let s := beats (s0.modCh 5 (fun x => { x with g0 := { x.g0 with w7 := setFld x.g0.w7 35 34 0 }, g1 := { x.g1 with w7 := setFld x.g1.w7 35 34 0 } }))
     canonB s = true ∧ (s.ch 5).g0.state = 0 ∧ (s.ch 5).lostDn = false ∧ (s.ln 0).dnLostBits = 0 ∧ (s.ch 5).g0.fup = (s.ch 5).g0.freshUp ∧ (s.ch 5).g0.fdn = (s.ch 5).g0.freshDn ∧
     s.beat.length = none ∧ (s.beatCloses.slotOf 5 0).st ≠ 1) ∧
    -- a beat that an alignment has ended early, so that a codeword is kept out of it
    (let s : State := { upS with beat := { upS.beat with started := true, length := some 100 } }
     canonB s = true ∧ s.beat.length ≠ none ∧ s.inService 0 = true ∧ (s.ln 0).upExpect = [] ∧ 20 < s.kNow + 3 ∧ s.keptOut 20 = true) ∧
    -- a hand-off that is due, to an engine that is fenced and to one that is not
    (let s := beats ((s0.setF .QM_HOFF F.QM_HOFF_STS 1).setReg .QM_HOFF_BEAT 1)
     canonB s = true ∧ s.getF .QM_HOFF F.QM_HOFF_STS = 1 ∧ s.getF .QM_HOFF_BEAT F.QM_HOFF_BEAT_BEAT = (s.reg .BEAT_NUM + 1).toNat ∧ (s.engine 0).fenced = false ∧
     ((s.modEngine 0 (fun x => { x with fenced := true })).engine 0).fenced = true) ∧
    -- a periodic check that is due and one that is not
    (let s := beats (s0.setCku 0 { armed := true, due := 0 })
     canonB s = true ∧ (s.ckUnit 0).armed = true ∧ (s.ckUnit 0).due = 0 ∧ s.getB (.CKU_STS 0) F.CKU_STS_BUSY = false ∧ ((s.setCku 0 { armed := true, due := 1 }).ckUnit 0).due ≠ 0) := by
  decide +kernel
theorem test_hyp_BoundariesNumberBeatsAndJudgeThem_lanes :
    (let s := beats ((lan 0 9 (fun x => { x with beatMiss := 1 })).setB (.LN_STS 0) F.LN_STS_INSVC true)
     canonB s = true ∧ s.inService 0 = true ∧ (s.ln 0).beatOk = false ∧ 1 ≤ (s.ln 0).beatMiss) ∧
    (let s := beats (lan 0 4 (fun x => { x with trainDone := true }))
     canonB s = true ∧ s.laneState 0 = 4 ∧ (s.ln 0).trainDone = true ∧ (s.ln 0).testGo = false) ∧
    (let s := beats (lan 0 8 (fun x => { x with testGo := true }))
     canonB s = true ∧ (s.ln 0).testGo = true ∧ s.inService 0 = false) ∧
    (let s := beats (lan 0 8 (fun x => { x with readyB := some 1, readyAck := true }))
     canonB s = true ∧ s.laneState 0 = 8 ∧ (s.ln 0).readyB = some (s.reg .BEAT_NUM + 1) ∧ (s.ln 0).readyAck = true ∧ (s.ln 0).testGo = false) ∧
    ((beats s0).fminSched ≤ 2000 ∧ (beats s0).getB .HLTH_STS F.HLTH_STS_AVS_FAIL = false ∧
      (let s := beats ((s0.setB .HLTH_STS F.HLTH_STS_PEND_DOWN true).setB .HLTH_CTL F.HLTH_CTL_MWIN true)
       canonB s = true ∧ s.getB .HLTH_STS F.HLTH_STS_PEND_DOWN = true ∧ s.getB .HLTH_CTL F.HLTH_CTL_MWIN = true)) := by decide +kernel
/-- Section 0 in state v, using engine 0, the beat generator running. -/
def bsec (v : Nat) (f : Section → Section) (g : Engine → Engine) : State := beats (((sec 0 v).modSect 0 (fun x => f { x with useMask := 1 })).modEngine 0 g)
theorem test_hyp_SectionsEnterOverrunStartAndStopAtABoundary :
    (let s := bsec 2 (fun x => { x with stopAt := some 1 }) id
     canonB s = true ∧ s.sectState 0 = 2 ∧ (s.sect 0).stopAt = some (s.reg .BEAT_NUM + 1)) ∧
    (let s := bsec 2 id (fun x => { x with halted := true, efDone := true })
     canonB s = true ∧ (s.sect 0).stopAt = none ∧ (s.engine 0).halted = true) ∧
    (let s := bsec 4 (fun x => { x with dbgHalted := true }) id
     canonB s = true ∧ s.sectState 0 = 4 ∧ (s.sect 0).dbgHalted = true ∧ ∀ i < 32, (s.engine i).halted = false ∧ (s.engine i).stepLeft = none) ∧
    (let s := bsec 2 id (fun x => { x with efDone := true })
     canonB s = true ∧ bit (s.sect 0).useMask 0 = true ∧ (s.engine 0).efDone = true ∧ (s.engine 0).locked = false ∧ (s.engine 0).fenced = false ∧ (s.sect 0).dbgHalted = false ∧
     ∀ i < 32, 1 ≤ i → bit (s.sect 0).useMask i = false) ∧
    (let s := bsec 2 id id
     let t := s.setF (.SEC_FRAME 0) F.SEC_FRAME_OVR_LIMIT 1
     canonB s = true ∧ canonB t = true ∧ (s.engine 0).efDone = false ∧ s.getF (.SEC_FRAME 0) F.SEC_FRAME_OVR_LIMIT = 0 ∧ t.getF (.SEC_FRAME 0) F.SEC_FRAME_OVR_LIMIT ≤ min 15 (0 + 1)) ∧
    (let s := bsec 1 (fun x => { x with startAt := some 1 }) id
     canonB s = true ∧ s.sectState 0 = 1 ∧ (s.sect 0).startAt = some (s.reg .BEAT_NUM + 1)) ∧
    (let s := bsec 0 id id
     canonB s = true ∧ s.sectState 0 = 0 ∧ (s.sect 0).startAt = none) := by decide +kernel
/-- The address of a register as a word. -/
def adr (r : Reg) : Word := BitVec.ofNat 36 r.addr
theorem test_hyp_RegisterWritesFollowTheirTypesAndTheBeatInput_1 :
    Reg.ofAddr (0 : Word).toNat = none ∧
    (∀ r ∈ [Reg.BEAT_NUM, .HOST_DEVID], Reg.ofAddr (adr r).toNat = some r ∧ r.hasOperation = false) := by decide +kernel
theorem test_hyp_WritesOfRegistersWithAnOperationOfTheirOwn_1 :
    (∀ r ∈ [Reg.SEC_FRAME 5, .SEC_BUDGET 0, .SEC_ENTRY 5, .SEC_MODE 0, .SEC_CFG 5, .SEC_XQ_MAX 0, .PRGN_BASE 5 7, .PRGN_ATTR 0 0, .PRGN_ATTR 6 0, .PRGN_BASE 6 7, .SEC_STALL_LIMIT 5,
      .CKU_ADDR 0, .CKU_LEN 49, .CKU_EXP 49, .QM_HOFF_BEAT, .BEAT_PERIOD, .SEC_FENCE 5, .SEC_DBELL 0, .SEC_DCINV 5, .SEC_PWR 5, .SEC_SEM 5 7 63, .SEC_DMA_POST 5 7 3, .QM_PUSH,
      .QM_HOFF, .GLV_TW 6, .GLV_CMD, .LN_TEST 19, .LN_MSG_TX 19, .LN_MSG_TXC 0, .LN_CTL 19, .HOST_MBX_REPLY, .HOST_MBX_RCTL, .HELM_OTPCTL, .MARCH_CTL, .CKU_CTL 49, .CKU_STS 49,
      .DBG_GONG 7, .DBG_ECTL 192, .DBG_BCTL 192 3, .DBG_WCTL 0 1, .QM_THR, .EXPK_CFG 3, .HLTH_CLK, .HLTH_SWDT, .DBG_CTL, .BEAT_CTL], Reg.ofAddr (adr r).toNat = some r) := by decide +kernel
theorem test_hyp_WritesOfRegistersWithAnOperationOfTheirOwn_2 :
    (sec 5 2).running 5 = true ∧ s0.running 5 = false ∧ fld (0x400 : Word) 9 0 = 0 ∧ fld (1 : Word) 9 0 ≠ 0 ∧ (.sve false : Master) ≠ .sve true ∧
    (s0.setB (.CKU_STS 49) F.CKU_STS_BUSY true).getB (.CKU_STS 49) F.CKU_STS_BUSY = true ∧ s0.getB (.CKU_STS 49) F.CKU_STS_BUSY = false ∧
    (s0.setF .QM_HOFF F.QM_HOFF_STS 1).getF .QM_HOFF F.QM_HOFF_STS = 1 ∧ s0.getF .QM_HOFF F.QM_HOFF_STS ≠ 1 ∧
    -- ACQ and REL: both or neither, one alone; an engine and another master; PARK, RELEASE and neither
    (bit (0xC00000000#36) 35 = bit (0xC00000000#36) 34 ∧ (bit (0x800000000#36) 35 = true ∧ bit (0x800000000#36) 34 = false) ∧
      (bit (0x400000000#36) 35 = false ∧ bit (0x400000000#36) 34 = true)) ∧ (Master.engine 0 0 ≠ .debug) ∧
    ((32767 : Fin 32768).val = fld (0x400FFFFFF#36) 14 0 ∧ (511 : Fin 512).val = fld (0x400FFFFFF#36) 23 15 ∧ fld (0x400FFFFFF#36) 35 34 = 1 ∧ fld (0x800000000#36) 35 34 = 2 ∧
      fld (0xC00000000#36) 35 34 = 3 ∧ (s0.setF .GLV_CMD F.GLV_CMD_STS 1).getF .GLV_CMD F.GLV_CMD_STS = 1 ∧ s0.getF .GLV_CMD F.GLV_CMD_STS ≠ 1) ∧
    -- SEND of a lane; a lane that is on with each command, and one that is off
    (bit (0x20000 : Word) 17 = true ∧ bit (0 : Word) 17 = false ∧ bit (0xD : Word) 0 = true ∧ (lan 0 9 id).laneState 0 ≠ 0 ∧ s0.laneState 0 = 0 ∧
      fld (0x1 : Word) 3 2 = 0 ∧ fld (0x5 : Word) 3 2 = 1 ∧ fld (0x9 : Word) 3 2 = 2 ∧ fld (0xD : Word) 3 2 = 3) ∧
    -- SEND and READY of the mailbox, GO of the OTP with its four commands, START and ABORT of the march unit and of a check unit
    (bit (0x800000000#36) 35 = true ∧ bit (0x10000 : Word) 35 = false ∧ bit (0x10000 : Word) 16 = true ∧ bit (0 : Word) 16 = false ∧
      fld (0xA00000000#36) 34 33 = 1 ∧ fld (0xC00000000#36) 34 33 = 2 ∧ fld (0x800000000#36) 34 33 = 0 ∧ fld (0xE00000000#36) 34 33 = 3 ∧
      bit (0x400000000#36) 35 = false ∧ bit (0x400000000#36) 34 = true ∧ bit (0x040000000#36) 30 = true ∧ bit (0 : Word) 30 = false) := by decide +kernel
theorem test_hyp_WritesOfRegistersWithAnOperationOfTheirOwn_3 :
    (dbgEntryOk .debug 192 = true ∧ dbgEntryOk (.engine 0 0) 0 = false ∧ dbgEntryOk (.engine 0 0) 192 = false ∧ Master.sve true ≠ .debug) ∧
    -- ACT 3, REC_HIGH, MAXFR and NOM at and beyond their limits
    (fld (0x600000000#36) 34 33 = 3 ∧ fld (0x400000000#36) 34 33 ≠ 3 ∧ fld (0x100 : Word) 12 8 = 1 ∧ fld (0x1000 : Word) 12 8 = 16 ∧ fld (0x1100 : Word) 12 8 = 17 ∧ fld (0 : Word) 12 8 = 0 ∧
      fld (BitVec.ofNat 36 (1024 * 2 ^ 14)) 27 14 = 1024 ∧ fld (BitVec.ofNat 36 (9216 * 2 ^ 14)) 27 14 = 9216 ∧ fld (BitVec.ofNat 36 (9217 * 2 ^ 14)) 27 14 = 9217 ∧
      fld (800 : Word) 10 0 % 50 = 0 ∧ fld (1600 : Word) 10 0 ≤ s0.getF .HLTH_CLK F.HLTH_CLK_CEIL ∧ ¬ fld (1650 : Word) 10 0 ≤ s0.getF .HLTH_CLK F.HLTH_CLK_CEIL ∧ 750 < 800 ∧
      fld (825 : Word) 10 0 % 50 ≠ 0) ∧
    -- the watchdog that counts, that is frozen, that has reached 0; a kick, a start, and a write that loads nothing
    (let on := (s0.setB .HLTH_SWDT F.HLTH_SWDT_EN true).setF .HLTH_SWDT F.HLTH_SWDT_COUNT 5
     let fz := { (on.modEngine 192 (fun x => { x with halted := true })).setB .DBG_CTL F.DBG_CTL_WDT_DBG_FREEZE true with dbg := { on.dbg with level := 2 } }
     on.getB .HLTH_SWDT F.HLTH_SWDT_EN = true ∧ (on.engine 192).halted = false ∧ on.getF .HLTH_SWDT F.HLTH_SWDT_COUNT = 5 ∧ s0.getB .HLTH_SWDT F.HLTH_SWDT_EN = false ∧
     (fz.engine 192).halted = true ∧ fz.dbg.level = 2 ∧ fz.getB .DBG_CTL F.DBG_CTL_WDT_DBG_FREEZE = true ∧ bit (0xC00000001#36) 34 = true ∧ bit (0x800000001#36) 35 = true ∧
     bit (0x800000001#36) 34 = false) ∧
    -- BEAT_CTL locked and not, a new source and the old one, a pulse that stands while OUT_EN is cleared
    ((s0.setB .BEAT_CTL F.BEAT_CTL_LOCKED true).getB .BEAT_CTL F.BEAT_CTL_LOCKED = true ∧ s0.getB .BEAT_CTL F.BEAT_CTL_LOCKED = false ∧
      s0.getB .BEAT_CTL F.BEAT_CTL_SRC = false ∧ bit (1 : Word) 0 = true ∧ bit (8 : Word) 3 = true ∧ ({ s0.beat with outPulse := true } : BeatGen).outPulse = true) := by decide +kernel
/-- BEAT_IN is the source, in the given state of the input. -/
def inS (relock aligned : Bool) (cnt : Nat) : State := { s0.setB .BEAT_CTL F.BEAT_CTL_SRC true with beat := { s0.beat with started := true, relock := relock, aligned := aligned, lockCnt := cnt } }
theorem test_hyp_RegisterWritesFollowTheirTypesAndTheBeatInput_2 :
    -- periods 499, 500, 10000 and 10001, a map whose records fit
    (s0.getB .BEAT_CTL F.BEAT_CTL_LOCKED = false ∧ ¬ 500 ≤ fld (499 : Word) 13 0 ∧ 500 ≤ fld (500 : Word) 13 0 ∧ fld (10000 : Word) 13 0 ≤ 10000 ∧ ¬ fld (10001 : Word) 13 0 ≤ 10000 ∧
      s0.helm.chmap = none ∧ (s0.setB .BEAT_CTL F.BEAT_CTL_LOCKED true).getB .BEAT_CTL F.BEAT_CTL_LOCKED = true) ∧
    (s0.getB .BEAT_CTL F.BEAT_CTL_SRC = false ∧ (inS true false 0).getB .BEAT_CTL F.BEAT_CTL_SRC = true ∧ s0.beat.period = 1000 ∧ s0.getF .BEAT_CTL F.BEAT_CTL_WINDOW = 5) ∧
    -- RELOCK before and after half a period; the third good period; the window's two limits and the units outside it
    (2 * 499 < 1000 ∧ 1000 ≤ 2 * 500 ∧ (inS true false 0).beat.relock = true) ∧ (3 ≤ (inS false false 3).beat.lockCnt ∧ (inS false false 2).beat.lockCnt < 3 ∧ (inS false false 3).beat.aligned = false) ∧
    ((inS false true 3).beat.aligned = true ∧ (991 + 4 ≤ 1000 + 5 ∧ 1000 ≤ 991 + 4 + 5) ∧ (1001 + 4 ≤ 1000 + 5 ∧ 1000 ≤ 1001 + 4 + 5) ∧ ¬ 1000 ≤ 990 + 4 + 5 ∧ ¬ 1002 + 4 ≤ 1000 + 5) := by decide +kernel
/-! ## One step, with the value worked out by hand from the rule -/

/-- What the command leaves of engine 0. -/
def after (c : Instr) (s : State) : Engine := (nx (exec c s)).engine 0
/-- Engine 0 with v in operand port k. -/
def po (k : Nat) (v : Word) : State := en 0 (fun x => x.setPort k v)

/-- Table 7.1: add is modulo 2^36. -/
theorem test_add_wraps : (after (.add 0 0 1) (po 0x040 0xFFFFFFFFF#36)).result 0x041 = 0 := by decide +kernel
/-- Table 7.1: sub is o - t. -/
theorem test_sub_order : (after (.sub 0 1 3) (po 0x060 5)).result 0x061 = 2 := by decide +kernel
/-- R195: sar fills with the sign, also when the amount is 36 or more. -/
theorem test_sar_sign : (after (.sar 0 0 35) (po 0x040 0x800000000#36)).result 0x041 = 0xFFFFFFFFF#36 ∧
    (after (.sar 0 0 63) (po 0x040 0x800000000#36)).result 0x041 = 0xFFFFFFFFF#36 := by decide +kernel
/-- R195: a rotation by 37 is one by 1. -/
theorem test_rol_wraps : (after (.rol 0 0 37) (po 0x040 0x800000001#36)).result 0x041 = 3 := by decide +kernel
/-- Table 7.1: min is signed, minu is not. -/
theorem test_min_signed : (after (.min 0 0 1) (po 0x040 0xFFFFFFFFF#36)).result 0x041 = 0xFFFFFFFFF#36 ∧
    (after (.minu 0 0 1) (po 0x040 0xFFFFFFFFF#36)).result 0x041 = 1 := by decide +kernel
/-- R196, R197: bits 7:4 of 0x90 are 9, which ext reads as -7. -/
theorem test_ext_signs : (after (.ext 0 0x104) (po 0x080 0x90)).result 0x084 = 0xFFFFFFFF9#36 ∧
    (after (.extu 0 0x104) (po 0x080 0x90)).result 0x084 = 9 := by decide +kernel
/-- Table 7.2: swh exchanges the halves, clz of 1 is 35. -/
theorem test_swh_clz : (after (.swh 0 0x000040002#36) s0).result 0x084 = 0x000080001#36 ∧ (after (.clz 0 1) s0).result 0x084 = 35 := by decide +kernel
/-- Table 7.4: the signed high word of -1 * -1 is 0, the unsigned one 2^36 - 2. -/
theorem test_mulh_signs : (after (.mulh 0 0xFFFFFFFFF#36) (po 0x0A0 0xFFFFFFFFF#36)).result 0x0A4 = 0 ∧
    (after (.mulhu 0 0xFFFFFFFFF#36) (po 0x0A0 0xFFFFFFFFF#36)).result 0x0A4 = 0xFFFFFFFFE#36 := by decide +kernel
/-- R200: -7 / 2 is -3, and its remainder -1. -/
theorem test_div_truncates : ((after (.div 0 2) (po 0x0C0 0xFFFFFFFF9#36)).divOp.map (fun l => l.res)) = some 0xFFFFFFFFD#36 ∧
    ((after (.rem 0 2) (po 0x0C0 0xFFFFFFFF9#36)).divOp.map (fun l => l.res)) = some 0xFFFFFFFFF#36 := by decide +kernel
/-- R203: 3 - 2 * 2 is -1 over 80 bits. -/
theorem test_msub : (after (.macMsub 0 1 2) (en 0 (fun x => (x.setPort 0x100 2).setAcc 1 3))).accOf 1 = BitVec.allOnes 80 := by decide +kernel
/-- R205: 3 / 2 rounds to the even 2, 5 / 2 to the even 2 as well (RND 1). -/
theorem test_mac_rd_even : (after (.macRd 0 0 0x041) (en 0 (fun x => x.setAcc 0 3))).result 0x104 = 2 ∧
    (after (.macRd 0 0 0x041) (en 0 (fun x => x.setAcc 0 5))).result 0x104 = 2 := by decide +kernel
/-- R223, R225: 1 + 1 = 2 in binary36 (bias 255). -/
theorem test_fadd : (after (.fadd 0 0x3FC000000#36) (po 0x140 0x3FC000000#36)).result 0x144 = 0x400000000#36 := by decide +kernel
/-- Table 8.5: 1 against 2 is less; a NaN is unordered. -/
theorem test_fcmp : (after (.fcmp 0 0x400000000#36) (po 0x140 0x3FC000000#36)).result 0x144 = 1 ∧
    (after (.fcmp 0 0x7FE000000#36) (po 0x140 0x3FC000000#36)).result 0x144 = 8 := by decide +kernel
/-- Table 8.4: -1 converts to the integer -1. -/
theorem test_f2i : (after (.f2i 0 0xBFC000000#36) s0).result 0x144 = 0xFFFFFFFFF#36 := by decide +kernel
/-- R187: ld.p with INC 4 and AREG 2 advances A2 by 4. -/
theorem test_post_increment : (after (.ldP 0 0 0x802) s0).aReg 2 = 4 := by decide +kernel
/-- R159, R161: a store of two words that crosses an 8-byte boundary takes two entries. -/
theorem test_st2_two_entries : ((after (.st2 0 0 0x44) (en 0 (fun x => (x.setPort 0x180 5).setPort 0x181 6))).sb.map (fun b => (b.addr, b.bytes.length))) =
    [(spadBase 0 + 0x44, 4), (spadBase 0 + 0x48, 4)] := by decide +kernel
/-- R159: the drained word reaches the scratchpad. -/
theorem test_store_drain : (nx (exec (.storeDrain 0 0) (en 0 (fun x => { x with sb := [sbOf (spadBase 0) false false] })))).word (spadBase 0) =
    BitVec.ofNat 36 (1 + 2 * 2 ^ 9 + 3 * 2 ^ 18 + 4 * 2 ^ 27) := by decide +kernel
/-- R160: a loaded byte of 0x1FF is -1 for ldb. -/
theorem test_ldb_signs : ((nx (exec (.loadComplete 0 0 0 .clean) ((s0.setWord (spadBase 0) 0x1FF).modEngine 0 (fun x => { x with loads0 := [{ ldOf (spadBase 0) 1 0 with signed := true }] })))).engine 0).result 0x184 =
    0xFFFFFFFFF#36 := by decide +kernel
/-- R212: tas writes its word only where it was 0. -/
theorem test_tas : (nx (exec (.tas 0 0 0x40) (s0.modEngine 0 (fun x => x.setPort 0x180 9)))).word (spadBase 0 + 0x40) = 9 ∧
    (nx (exec (.tas 0 0 0x40) ((s0.setWord (spadBase 0 + 0x40) 1).modEngine 0 (fun x => x.setPort 0x180 9)))).word (spadBase 0 + 0x40) = 1 := by decide +kernel
/-- R154, R206: jmp leaves two delay slots. -/
theorem test_jmp : (after (.jmp 0 0x20) s0).branch = some { ds := 2, taken := true, target := 0x20 } := by decide +kernel
/-- Table 9.1: csrw of IMASK. -/
theorem test_csrw_imask : (after (.csrw 0 0x011) (po 0x200 3)).imask = 3 := by decide +kernel
/-- R217: the end of a fill of two words. -/
theorem test_fill : (nx (exec (.stmComplete 0 none) (en 0 (fun x => { x with stm := { op := 2, cnt := 2, src := 0, dst := 0x40, opnd := 7, susp := false, start := 0, rcd := [] } })))).word (spadBase 0 + 0x44) = 7 := by
  decide +kernel
/-- R76: a channel that the engine does not own answers code 2. -/
theorem test_chio_not_owner : (after (.chioRd 0 5) s0).result 0x265 = 2 := by decide +kernel
/-- R184: lim.lo writes the low half of lim.y. -/
theorem test_lim_lo : (after (.limLo 0 0x3FFFF) (en 0 (fun x => x.setResult 0x284 0x000040000#36))).result 0x284 = 0x00007FFFF#36 := by decide +kernel
/-- R135: a block of no channels is done at once. -/
theorem test_park_none : (nx (exec (.glvCmdPark 5 0) s0)).getF .GLV_CMD F.GLV_CMD_STS = 0 := by decide +kernel
/-- R130: a word that would widen a limit is refused. -/
theorem test_tighten_refused : (nx (exec (.glvTighten 0 1) s0)).getB .GLV_STS F.GLV_STS_TIGHT_REJ = true := by decide +kernel
/-- Table 13.2: OFF goes to DETECT when EN is set. -/
theorem test_lane_enable : (nx (exec (.laneEnable 19) s0)).laneState 19 = 1 := by decide +kernel
/-- R355: a short to ground is FAULT with cause 2. -/
theorem test_short : (nx (exec (.shortCheck 0 1 1 true) (lan 0 2 id))).laneState 0 = 11 ∧ (nx (exec (.shortCheck 0 1 1 true) (lan 0 2 id))).laneCause 0 = 2 := by
  decide +kernel
/-- R374: PAUSE of 0 quanta ends a pause. -/
theorem test_pause : (nx (exec (.pause 1 (pauseF 0)) (s0.setB (.EXPK_STS 1) F.EXPK_STS_PAUSED true))).getB (.EXPK_STS 1) F.EXPK_STS_PAUSED = false := by decide +kernel
/-- Table 15.2: ALG 3 adds the words; 5 + 7 is not the expected 0. -/
theorem test_check_sum : (let s := nx (exec (.checkComplete 0 []) (((ckS 2 true).setReg (.CKU_CTL 0) 0x300000000#36).setWords 0x10000000 [5, 7]))
    s.reg (.CKU_RES 0) = 12 ∧ s.getB (.CKU_STS 0) F.CKU_STS_MIS = true) := by decide +kernel
/-- R405: CRC-32C of the octets 1 to 9 in ASCII is 0xE3069283. -/
theorem test_crc32c : (([0x31, 0x32, 0x33, 0x34, 0x35, 0x36, 0x37, 0x38, 0x39] : List Nat).flatMap (fun o => (List.range 8).map (fun i => decide (o / 2 ^ i % 2 = 1)))).foldl
    (fun c b => if decide (c % 2 = 1) != b then (c / 2) ^^^ 0x82F63B78 else c / 2) 0xFFFFFFFF ^^^ 0xFFFFFFFF = 0xE3069283 := by decide +kernel
/-- R296: a free semaphore is taken by the writer. -/
theorem test_sem : (nx (exec (.semAcquire (.engine 3 0) 0 1 2) s0)).getF (.SEC_SEM 0 1 2) F.SEC_SEM_OWNER = 3 := by decide +kernel
/-- R274: a doorbell sets pending bit 2 of the named engine alone. -/
theorem test_doorbell : ((nx (exec (.doorbell 1 2) s0)).engine 33).csrW 33 0x012 = 4 ∧ ((nx (exec (.doorbell 1 2) s0)).engine 32).csrW 32 0x012 = 0 := by decide +kernel
/-- R410: GET_STATUS is answered OK with four words. -/
theorem test_get_status : ((nx (exec (.getStatus hh []) (dev 2))).seq.replies.map (fun r => (r.status, r.tag, r.words.length))) = [(0, 1, 4)] := by decide +kernel
/-- R409: a command with a parameter it does not have is BAD_PARAM (4). -/
theorem test_bad_param : ((nx (exec (.getStatus hh [0]) (dev 2))).seq.replies.map (fun r => r.status)) = [4] := by decide +kernel
/-- R402: a target with no dynamic address does not acknowledge. -/
theorem test_nack : (nx (exec (.getStatus hh []) s0)).seq.nacked = true := by decide +kernel
/-- Table 16.1: BCR is 0x06. -/
theorem test_getbcr : (nx (exec .getbcr (dev 2))).seq.lastCcc = [6] := by decide +kernel
/-- BEAT_PERIOD: a period outside 500 to 10,000 is ignored. -/
theorem test_period : (nx (exec (.beatPeriodWrite 499) s0)).getF .BEAT_PERIOD F.BEAT_PERIOD_PERIOD = 1000 ∧
    (nx (exec (.beatPeriodWrite 500) s0)).getF .BEAT_PERIOD F.BEAT_PERIOD_PERIOD = 500 := by decide +kernel
/-- R40: a boundary numbers the beat. -/
theorem test_boundary : (nx (exec .beatBoundary (beats s0))).reg .BEAT_NUM = 1 := by decide +kernel
/-- R412: SAFE_N in OPERATIONAL (5) enters SAFE (6) and keeps the state left. -/
theorem test_safe : (nx (exec .safeNAssert (dev 5))).devState = 6 ∧ (nx (exec .safeNAssert (dev 5))).getF .HOST_STATE F.HOST_STATE_PREV = 5 := by decide +kernel
/-- R436: a programmed bit is set and no bit is cleared. -/
theorem test_otp : (nx (exec (.otpProgramDone true) { s0 with helm := { s0.helm with otp := [(1, 2)], prog := some (1, 5) } })).otpWord 1 = 7 := by decide +kernel
/-- R522: power-on of the always-on domain holds the device in reset. -/
theorem test_aon : (nx (exec .aonPowerOn (dev 5))).devState = 0 ∧ (nx (exec .aonPowerOn (dev 5))).pins.pgoodLow = true := by decide +kernel
/-- R34, R8: a write by an access type. -/
theorem test_register_write : (nx (exec (.registerWrite (.sve true) (adr (.SEC_STALL_LIMIT 2)) 9) s0)).reg (.SEC_STALL_LIMIT 2) = 9 := by decide +kernel

/-- R278, R284: both parts of a split local store are written in one cycle. -/
theorem test_split_store : (let a := { sbOf (spadBase 0 + 4) false false with split := true }
    let t := nx (exec (.storeDrain 0 1) (en 0 (fun x => { x with sb := [a, { a with addr := spadBase 0 + 8, seq := 2 }] })))
    t.word (spadBase 0 + 4) = t.word (spadBase 0 + 8) ∧ t.word (spadBase 0 + 4) ≠ 0 ∧ (t.engine 0).sb = []) := by decide +kernel
/-- R144: a division that finds the path busy is held with its operands. -/
theorem test_fdiv_held : ((after (.fdiv 0 7) (en 0 (fun x => { x.setPort 0x140 5 with
    fplOp := some { res := 3, flags := 0, enabled := 0, pc := 0, trig := 0, due := 15 } }))).held.map (fun h => (h.a, h.t))) = [(5, 7)] := by decide +kernel
/-- R132: copies that disagree trip the channel (cause 0x1D) and set CMP_ERR. -/
theorem test_glove_copies : (let t := nx (exec (.glvTighten 0 0) ((chS.modCh 5 (fun x => { x with g1 := { x.g1 with w0 := 1 } })).setF .GLV_TSEL F.GLV_TSEL_CH 5))
    (t.ch 5).g0.cause = 0x1D ∧ t.getB .GLV_STS F.GLV_STS_CMP_ERR = true) := by decide +kernel
/-- R401: SETDASA with a static address that is not 0x30 + ADDR_SEL is not acknowledged. -/
theorem test_setdasa : (nx (exec (.setdasa 0x31 9) { dev 2 with seq := s0.seq })).seq.da = none ∧
    (nx (exec (.setdasa 0x30 9) { dev 2 with seq := s0.seq })).seq.da = some 9 := by decide +kernel
/-- R407: an in-band interrupt that the controller does not acknowledge is raised again. -/
theorem test_ibi_nack : (let s : State := { dev 2 with seq := { (dev 2).seq with ibiEn := true, ibis := [1] } }
    (nx (exec (.ibiRetry true) s)).seq.ibis = [1] ∧ (nx (exec (.ibiRetry false) s)).seq.ibis = []) := by decide +kernel
/-- FIPS 180-4, the example "abc" of SHA-384: its first and last octets. -/
theorem test_sha384 : (sha384 [0x61, 0x62, 0x63]).take 8 = [0xCB, 0x00, 0x75, 0x3F, 0x45, 0xA3, 0x5E, 0x8B] ∧
    (sha384 [0x61, 0x62, 0x63]).drop 44 = [0x34, 0xC8, 0x25, 0xA7] := by decide +kernel
/-- SP 800-186: the base point of P-384 lies on the curve. -/
theorem test_p384 : p384On p384G = true ∧ p384On (p384G.1, p384G.2 + 1) = false := by decide +kernel

/-- R391, the meaning of DONE: writing 1 to it clears DONE and ERR, and keeps MIS. -/
theorem test_check_done_write :
    (nx (exec (.registerWrite (.sve true) (adr (.CKU_STS 3)) (put 34 34 1))
      (s0.setReg (.CKU_STS 3) (setFld (put 34 33 3) 30 28 4)))).reg (.CKU_STS 3) = put 33 33 1 := by decide +kernel

end Sys2Proof.Tests
end

section
/-! SUPPORT. What every command keeps, and the canonical form of every table as an invariant of the steps. -/

namespace Sys2Proof.Machine

/-- Every command keeps what Laws/Kept.lean names; only one that may carry out a device reset lets FAULT and GLV_CTL.LOCK end
(R412, R129). One arm per row of the command table, each by the law of its meaning. -/
theorem exec_kept (c : Instr) (s : State) : OutKept (!mayResetDevice c) s (exec c s) := by
  cases c with
  | beatBoundary => exact execBeatBoundary_kept .refl
  | beatInEdge => exact execBeatInEdge_kept .refl
  | holdover => exact execHoldover_kept .refl
  | relock => exact execRelock_kept .refl
  | beatPeriodWrite => exact execBeatPeriodWrite_kept .refl
  | streamedWaitExpiry => exact execStreamedWaitExpiry_kept .refl
  | bundleIssue => exact execBundleIssue_kept .refl
  | icacheFill => exact execIcacheFill_kept .refl
  | dcacheFill => exact execDcacheFill_kept .refl
  | add => exact execAdd_kept .refl
  | sub => exact execSub_kept .refl
  | and => exact execAnd_kept .refl
  | or => exact execOr_kept .refl
  | xor => exact execXor_kept .refl
  | andn => exact execAndn_kept .refl
  | shl => exact execShl_kept .refl
  | shr => exact execShr_kept .refl
  | sar => exact execSar_kept .refl
  | rol => exact execRol_kept .refl
  | min => exact execMin_kept .refl
  | max => exact execMax_kept .refl
  | minu => exact execMinu_kept .refl
  | maxu => exact execMaxu_kept .refl
  | ceq => exact execCeq_kept .refl
  | cne => exact execCne_kept .refl
  | clt => exact execClt_kept .refl
  | cltu => exact execCltu_kept .refl
  | cle => exact execCle_kept .refl
  | cleu => exact execCleu_kept .refl
  | ext => exact execExt_kept .refl
  | extu => exact execExtu_kept .refl
  | ins => exact execIns_kept .refl
  | clz => exact execClz_kept .refl
  | ctz => exact execCtz_kept .refl
  | popc => exact execPopc_kept .refl
  | perm => exact execPerm_kept .refl
  | swh => exact execSwh_kept .refl
  | mul => exact execMul_kept .refl
  | mulh => exact execMulh_kept .refl
  | mulhu => exact execMulhu_kept .refl
  | mul12 => exact execMul12_kept .refl
  | mul24 => exact execMul24_kept .refl
  | div => exact execDiv_kept .refl
  | divu => exact execDivu_kept .refl
  | rem => exact execRem_kept .refl
  | remu => exact execRemu_kept .refl
  | divComplete => exact execDivComplete_kept .refl
  | macMul => exact execMacMul_kept .refl
  | macMac => exact execMacMac_kept .refl
  | macMsub => exact execMacMsub_kept .refl
  | macClr => exact execMacClr_kept .refl
  | macRd => exact execMacRd_kept .refl
  | macGet => exact execMacGet_kept .refl
  | macPut => exact execMacPut_kept .refl
  | fabs => exact execFabs_kept .refl
  | fneg => exact execFneg_kept .refl
  | fmin => exact execFmin_kept .refl
  | fmax => exact execFmax_kept .refl
  | fcmp => exact execFcmp_kept .refl
  | fadd => exact execFadd_kept .refl
  | fsub => exact execFsub_kept .refl
  | fmul => exact execFmul_kept .refl
  | fma => exact execFma_kept .refl
  | fdiv => exact execFdiv_kept .refl
  | fsqrt => exact execFsqrt_kept .refl
  | i2f => exact execI2f_kept .refl
  | u2f => exact execU2f_kept .refl
  | f2i => exact execF2i_kept .refl
  | f2u => exact execF2u_kept .refl
  | w2f => exact execW2f_kept .refl
  | f2w => exact execF2w_kept .refl
  | h2f => exact execH2f_kept .refl
  | f2h => exact execF2h_kept .refl
  | fpShortFault => exact execFpShortFault_kept .refl
  | fpLongComplete => exact execFpLongComplete_kept .refl
  | ld => exact execLd_kept .refl
  | ldh => exact execLdh_kept .refl
  | ldhu => exact execLdhu_kept .refl
  | ldb => exact execLdb_kept .refl
  | ldbu => exact execLdbu_kept .refl
  | ld2 => exact execLd2_kept .refl
  | st => exact execSt_kept .refl
  | sth => exact execSth_kept .refl
  | stb => exact execStb_kept .refl
  | st2 => exact execSt2_kept .refl
  | ldP => exact execLdP_kept .refl
  | ldhP => exact execLdhP_kept .refl
  | ldhuP => exact execLdhuP_kept .refl
  | ldbP => exact execLdbP_kept .refl
  | ldbuP => exact execLdbuP_kept .refl
  | ld2P => exact execLd2P_kept .refl
  | stP => exact execStP_kept .refl
  | sthP => exact execSthP_kept .refl
  | stbP => exact execStbP_kept .refl
  | st2P => exact execSt2P_kept .refl
  | tas => exact execTas_kept .refl
  | lr => exact execLr_kept .refl
  | sc => exact execSc_kept .refl
  | loadComplete => exact execLoadComplete_kept .refl
  | eccWriteback => exact execEccWriteback_kept .refl
  | storeDrain => exact execStoreDrain_kept .refl
  | globalStoreAck => exact execGlobalStoreAck_kept .refl
  | postPerformed => exact execPostPerformed_kept .refl
  | crossSectionStoreDone => exact execCrossSectionStoreDone_kept .refl
  | jmp => exact execJmp_kept .refl
  | call => exact execCall_kept .refl
  | ret => exact execRet_kept .refl
  | beq => exact execBeq_kept .refl
  | bne => exact execBne_kept .refl
  | blt => exact execBlt_kept .refl
  | bge => exact execBge_kept .refl
  | bltu => exact execBltu_kept .refl
  | bgeu => exact execBgeu_kept .refl
  | bz => exact execBz_kept .refl
  | bnz => exact execBnz_kept .refl
  | trap => exact execTrap_kept .refl
  | rti => exact execRti_kept .refl
  | retg => exact execRetg_kept .refl
  | fenceL => exact execFenceL_kept .refl
  | fenceM => exact execFenceM_kept .refl
  | fenceA => exact execFenceA_kept .refl
  | fenceComplete => exact execFenceComplete_kept .refl
  | isync => exact execIsync_kept .refl
  | csrr => exact execCsrr_kept .refl
  | csrw => exact execCsrw_kept .refl
  | endframe => exact execEndframe_kept .refl
  | endframeComplete => exact execEndframeComplete_kept .refl
  | copy => exact execCopy_kept .refl
  | fill => exact execFill_kept .refl
  | gath => exact execGath_kept .refl
  | ingest => exact execIngest_kept .refl
  | save => exact execSave_kept .refl
  | restore => exact execRestore_kept .refl
  | stmComplete => exact execStmComplete_kept .refl
  | chioRd => exact execChioRd_kept .refl
  | chioWr => exact execChioWr_kept .refl
  | chioPop => exact execChioPop_kept .refl
  | chioPeek => exact execChioPeek_kept .refl
  | chioPush => exact execChioPush_kept .refl
  | chioOcc => exact execChioOcc_kept .refl
  | limLo => exact execLimLo_kept .refl
  | limHi => exact execLimHi_kept .refl
  | pushReachQm => exact execPushReachQm_kept .refl
  | qmPush => exact execQmPush_kept .refl
  | qmPushDone => exact execQmPushDone_kept .refl
  | qmEvtRead => exact execQmEvtRead_kept .refl
  | handoffArm => exact execHandoffArm_kept .refl
  | handoffCancel => exact execHandoffCancel_kept .refl
  | glvTighten => exact execGlvTighten_kept .refl
  | glvCmdPark => exact execGlvCmdPark_kept .refl
  | glvCmdRelease => exact execGlvCmdRelease_kept .refl
  | glvCmdDone => exact execGlvCmdDone_kept .refl
  | glvEvtRead => exact execGlvEvtRead_kept .refl
  | safeNAssert => exact execSafeNAssert_kept .refl
  | downstreamSlotSend => exact execDownstreamSlotSend_kept .refl
  | upstreamBeatCodeword => exact execUpstreamBeatCodeword_kept .refl
  | upstreamDataCodeword => exact execUpstreamDataCodeword_kept .refl
  | managementCodeword => exact execManagementCodeword_kept .refl
  | captureCodeword => exact execCaptureCodeword_kept .refl
  | ack => exact execAck_kept .refl
  | messageRetry => exact execMessageRetry_kept .refl
  | hubevt => exact execHubevt_kept .refl
  | svcMessage => exact execSvcMessage_kept .refl
  | hello => exact execHello_kept .refl
  | scale => exact execScale_kept .refl
  | mapAck => exact execMapAck_kept .refl
  | retrain => exact execRetrain_kept .refl
  | laneEnable => exact execLaneEnable_kept .refl
  | laneDisable => exact execLaneDisable_kept .refl
  | laneFullRetrain => exact execLaneFullRetrain_kept .refl
  | laneQuickRetrain => exact execLaneQuickRetrain_kept .refl
  | laneHold => exact execLaneHold_kept .refl
  | laneStateTimeout => exact execLaneStateTimeout_kept .refl
  | terminationDetect => exact execTerminationDetect_kept .refl
  | shortCheck => exact execShortCheck_kept .refl
  | signalDetect => exact execSignalDetect_kept .refl
  | trainingFrame => exact execTrainingFrame_kept .refl
  | codewordLockLoss => exact execCodewordLockLoss_kept .refl
  | adaptComplete => exact execAdaptComplete_kept .refl
  | adaptStep => exact execAdaptStep_kept .refl
  | lossOfSignal => exact execLossOfSignal_kept .refl
  | laneRetry => exact execLaneRetry_kept .refl
  | eyeSweep => exact execEyeSweep_kept .refl
  | laneTest => exact execLaneTest_kept .refl
  | msgTxAppend => exact execMsgTxAppend_kept .refl
  | svcSend => exact execSvcSend_kept .refl
  | msgRxRead => exact execMsgRxRead_kept .refl
  | exportItemTake => exact execExportItemTake_kept .refl
  | exportFrameSend => exact execExportFrameSend_kept .refl
  | exportHoldoffExpire => exact execExportHoldoffExpire_kept .refl
  | pause => exact execPause_kept .refl
  | pauseExpire => exact execPauseExpire_kept .refl
  | rxFrameDiscard => exact execRxFrameDiscard_kept .refl
  | linkChange => exact execLinkChange_kept .refl
  | checkStart => exact execCheckStart_kept .refl
  | checkAbort => exact execCheckAbort_kept .refl
  | checkComplete => exact execCheckComplete_kept .refl
  | marchStart => exact execMarchStart_kept .refl
  | marchAbort => exact execMarchAbort_kept .refl
  | retentionWaitEnd => exact execRetentionWaitEnd_kept .refl
  | marchComplete => exact execMarchComplete_kept .refl
  | bootMarchComplete => exact execBootMarchComplete_kept .refl
  | semAcquire => exact execSemAcquire_kept .refl
  | semRelease => exact execSemRelease_kept .refl
  | dcacheInvalidate => exact execDcacheInvalidate_kept .refl
  | dmaPost => exact execDmaPost_kept .refl
  | dmaDescriptorStart => exact execDmaDescriptorStart_kept .refl
  | dmaDescriptorEnd => exact execDmaDescriptorEnd_kept .refl
  | doorbell => exact execDoorbell_kept .refl
  | timerExpire => exact execTimerExpire_kept .refl
  | watchdogExpire => exact execWatchdogExpire_kept .refl
  | interruptAccept => exact execInterruptAccept_kept .refl
  | getStatus => exact execGetStatus_kept .refl
  | getIdentity => exact execGetIdentity_kept .refl
  | getFeatures => exact execGetFeatures_kept .refl
  | getEventLog => exact execGetEventLog_kept .refl
  | resetDevice => exact execResetDevice_kept .refl
  | deviceResetDelayEnd => exact execDeviceResetDelayEnd_kept .refl
  | resetSupervisor => exact execResetSupervisor_kept .refl
  | resetSection => exact execResetSection_kept .refl
  | safe => exact execSafe_kept .refl
  | clearSafe => exact execClearSafe_kept .refl
  | loadBegin => exact execLoadBegin_kept .refl
  | loadData => exact execLoadData_kept .refl
  | loadEnd => exact execLoadEnd_kept .refl
  | verificationComplete => exact execVerificationComplete_kept .refl
  | loadAbort => exact execLoadAbort_kept .refl
  | start => exact execStart_kept .refl
  | stopSection => exact execStopSection_kept .refl
  | startSection => exact execStartSection_kept .refl
  | parkChannels => exact execParkChannels_kept .refl
  | releaseChannels => exact execReleaseChannels_kept .refl
  | readReg => exact execReadReg_kept .refl
  | writeReg => exact execWriteReg_kept .refl
  | readMem => exact execReadMem_kept .refl
  | writeMem => exact execWriteMem_kept .refl
  | linkStatus => exact execLinkStatus_kept .refl
  | linkRetrain => exact execLinkRetrain_kept .refl
  | linkTest => exact execLinkTest_kept .refl
  | marchRun => exact execMarchRun_kept .refl
  | marchResult => exact execMarchResult_kept .refl
  | unlockPassword => exact execUnlockPassword_kept .refl
  | unlockChallenge => exact execUnlockChallenge_kept .refl
  | unlockResponse => exact execUnlockResponse_kept .refl
  | nonceExpire => exact execNonceExpire_kept .refl
  | lock => exact execLock_kept .refl
  | attest => exact execAttest_kept .refl
  | dbgHalt => exact execDbgHalt_kept .refl
  | dbgResume => exact execDbgResume_kept .refl
  | dbgStep => exact execDbgStep_kept .refl
  | dbgReplyTimeout => exact execDbgReplyTimeout_kept .refl
  | dbgRead => exact execDbgRead_kept .refl
  | dbgWrite => exact execDbgWrite_kept .refl
  | dbgBreak => exact execDbgBreak_kept .refl
  | dbgWatch => exact execDbgWatch_kept .refl
  | dbgVterm => exact execDbgVterm_kept .refl
  | dbgGong => exact execDbgGong_kept .refl
  | dbgStatus => exact execDbgStatus_kept .refl
  | healthReport => exact execHealthReport_kept .refl
  | avsStatus => exact execAvsStatus_kept .refl
  | queuePush => exact execQueuePush_kept .refl
  | queueStatus => exact execQueueStatus_kept .refl
  | svc => exact execSvc_kept .refl
  | mbxDataRead => exact execMbxDataRead_kept .refl
  | mbxReplyAppend => exact execMbxReplyAppend_kept .refl
  | mailboxSend => exact execMailboxSend_kept .refl
  | supervisorReady => exact execSupervisorReady_kept .refl
  | mailboxTimeout => exact execMailboxTimeout_kept .refl
  | replyQueueEntry => exact execReplyQueueEntry_kept .refl
  | privateRead => exact execPrivateRead_kept .refl
  | ibiRetry => exact execIbiRetry_kept .refl
  | entdaa => exact execEntdaa_kept .refl
  | setdasa => exact execSetdasa_kept .refl
  | rstdaa => exact execRstdaa_kept .refl
  | enec => exact execEnec_kept .refl
  | disec => exact execDisec_kept .refl
  | getpid => exact execGetpid_kept .refl
  | getbcr => exact execGetbcr_kept .refl
  | getdcr => exact execGetdcr_kept .refl
  | getstatus => exact execGetstatus_kept .refl
  | getmxds => exact execGetmxds_kept .refl
  | setmwl => exact execSetmwl_kept .refl
  | getmwl => exact execGetmwl_kept .refl
  | setmrl => exact execSetmrl_kept .refl
  | getmrl => exact execGetmrl_kept .refl
  | enthdr0 => exact execEnthdr0_kept .refl
  | rstact => exact execRstact_kept .refl
  | targetResetPattern => exact execTargetResetPattern_kept .refl
  | otpProgram => exact execOtpProgram_kept .refl
  | otpGenerateSecret => exact execOtpGenerateSecret_kept .refl
  | otpProgramDone => exact execOtpProgramDone_kept .refl
  | haltRequest => exact execHaltRequest_kept .refl
  | resume => exact execResume_kept .refl
  | halt => exact execHalt_kept .refl
  | gongFire => exact execGongFire_kept .refl
  | gongDelivery => exact execGongDelivery_kept .refl
  | txdWrite => exact execTxdWrite_kept .refl
  | rxdRead => exact execRxdRead_kept .refl
  | avsUpdate => exact execAvsUpdate_kept .refl
  | thermalSample => exact execThermalSample_kept .refl
  | thermalStep => exact execThermalStep_kept .refl
  | thermtrip => exact execThermtrip_kept .refl
  | thermtripRelease => exact execThermtripRelease_kept .refl
  | ageingReplan => exact execAgeingReplan_kept .refl
  | hlthEvtRead => exact execHlthEvtRead_kept .refl
  | swdtKick => exact execSwdtKick_kept .refl
  | swdtBite => exact execSwdtBite_kept .refl
  | sectionGate => exact execSectionGate_kept .refl
  | sectionPowerRestore => exact execSectionPowerRestore_kept .refl
  | sectionPowerUpDone => exact execSectionPowerUpDone_kept .refl
  | fence m => exact execFence_kept (o0 := m) .refl
  | fenceDone => exact execFenceDone_kept .refl
  | aonPowerOn => exact execAonPowerOn_kept .refl
  | resetNLow => exact execResetNLow_kept .refl
  | resetNRelease => exact execResetNRelease_kept .refl
  | pgoodLow => exact execPgoodLow_kept .refl
  | refclkSysLoss => exact execRefclkSysLoss_kept .refl
  | refclkSysReturn => exact execRefclkSysReturn_kept .refl
  | refclkLnLoss => exact execRefclkLnLoss_kept .refl
  | fuseLoadEnd => exact execFuseLoadEnd_kept .refl
  | selftestEnd => exact execSelftestEnd_kept .refl
  | registerWrite => exact execRegisterWrite_kept .refl
  | pgoodRelease => exact execPgoodRelease_kept .refl
  | privateWrite => exact execPrivateWrite_kept .refl
  | exportFrameComplete => exact execExportFrameComplete_kept .refl

/-- What a command that answers t keeps. -/
theorem kept_of_exec {c : Instr} {s t : State} (h : exec c s = .next t) : Kept (!mayResetDevice c) s t := by
  have hk := exec_kept c s
  rw [h] at hk
  exact hk

/-- The canonical form says nothing of the queue of commands. -/
theorem Canonical.setPending {s : State} (h : Canonical s) (cs : List Instr) : Canonical { s with pending := cs } :=
  ⟨h.mem, h.regs, h.undef, h.eccSoft, h.eccBad, h.eng, h.sec, h.dma, h.chan, h.queue, h.lane, h.svc, h.cku⟩

/-- Settles O3: at reset every table is the empty one, whose form is canonical. -/
theorem resetTablesAreCanonical : Obligations.ResetTablesAreCanonical :=
  ⟨rfl, rfl, rfl, rfl, rfl, rfl, rfl, rfl, rfl, rfl, rfl, rfl, rfl⟩

/-- Settles O4: an idle step changes nothing, and the command at the front of the queue keeps the canonical form. -/
theorem stepsKeepEveryTableCanonical : Obligations.StepsKeepEveryTableCanonical := by
  intro s t hc hs
  unfold step at hs
  cases hq : s.pending with
  | nil =>
    rw [hq] at hs
    injection hs with e
    exact e ▸ hc
  | cons c cs =>
    rw [hq] at hs
    exact (kept_of_exec hs).canon (hc.setPending cs)

end Sys2Proof.Machine
end

section
/-! SUPPORT. What writing a memory word leaves unchanged: it reaches memory, the check bits and the reservations alone. -/

namespace Sys2Proof.Machine

@[simp] theorem State.setWord_regs (s : State) (ca : Nat) (w : Word) : (s.setWord ca w).regs = s.regs := by
  unfold State.setWord
  split <;> rfl

@[simp] theorem State.setWord_queue (s : State) (ca : Nat) (w : Word) : (s.setWord ca w).queue = s.queue := by
  unfold State.setWord
  split <;> rfl

@[simp] theorem State.setWords_regs (s : State) (ca : Nat) (ws : List Word) : (s.setWords ca ws).regs = s.regs := by
  induction ws generalizing s ca with
  | nil => rfl
  | cons w ws ih => rw [State.setWords, ih, State.setWord_regs]

/-! ## Errors found in memory words: what finding one leaves unchanged (R288, R289, R486) -/

/-- s and t agree on every part that the finding of an error never touches: it reaches registers, marks, engines, sections, a Glove
entry, the free values, the health block and the event log. -/
structure State.SameButErrors (s t : State) : Prop where
  beat : t.beat = s.beat
  mem : t.mem = s.mem
  undef : t.undef = s.undef
  dma : t.dma = s.dma
  queue : t.queue = s.queue
  qm : t.qmEvts = s.qmEvts ∧ t.qmBusy = s.qmBusy
  glv : t.glvEvts = s.glvEvts ∧ t.glvCmd = s.glvCmd
  lane : t.lane = s.lane
  svc : t.svc = s.svc
  cku : t.cku = s.cku
  march : t.march = s.march
  helm : t.helm = s.helm
  dbg : t.dbg = s.dbg
  pins : t.pins = s.pins
  pending : t.pending = s.pending

theorem State.SameButErrors.refl (s : State) : s.SameButErrors s :=
  ⟨rfl, rfl, rfl, rfl, rfl, ⟨rfl, rfl⟩, ⟨rfl, rfl⟩, rfl, rfl, rfl, rfl, rfl, rfl, rfl, rfl⟩

theorem State.SameButErrors.trans {s t u : State} (h : s.SameButErrors t) (h' : t.SameButErrors u) : s.SameButErrors u :=
  ⟨h'.beat.trans h.beat, h'.mem.trans h.mem, h'.undef.trans h.undef, h'.dma.trans h.dma, h'.queue.trans h.queue,
    ⟨h'.qm.1.trans h.qm.1, h'.qm.2.trans h.qm.2⟩, ⟨h'.glv.1.trans h.glv.1, h'.glv.2.trans h.glv.2⟩, h'.lane.trans h.lane, h'.svc.trans h.svc,
    h'.cku.trans h.cku, h'.march.trans h.march, h'.helm.trans h.helm, h'.dbg.trans h.dbg, h'.pins.trans h.pins, h'.pending.trans h.pending⟩

/-- A change of the parts that errors reach. -/
theorem State.SameButErrors.upd {s : State} {regs eccSoft eccBad eng sec chan fresh health seq} :
    s.SameButErrors { s with
      regs := regs, eccSoft := eccSoft, eccBad := eccBad, eng := eng, sec := sec, chan := chan, fresh := fresh, health := health, seq := seq } :=
  ⟨rfl, rfl, rfl, rfl, rfl, ⟨rfl, rfl⟩, ⟨rfl, rfl⟩, rfl, rfl, rfl, rfl, rfl, rfl, rfl, rfl⟩

theorem State.sectStall_same (s : State) (k c d : Nat) : s.SameButErrors (s.sectStall k c d) := by
  simp only [State.sectStall]
  split
  · exact .refl s
  · exact .upd

theorem State.eccCount_same (s : State) (sec : Option Nat) (rd : Reader) : s.SameButErrors (s.eccCount sec rd) := by
  unfold State.eccCount
  extract_lets u
  have hu : s.SameButErrors u := by
    simp only [u]
    split
    · exact .upd
    · exact .refl s
  clear_value u
  split
  · split
    · exact hu.trans (.trans .upd (State.sectStall_same _ _ _ _))
    · exact hu.trans .upd
  · exact hu.trans .upd
  · exact hu

/-- A read of a word in which a single-bit error stands. -/
theorem State.softRead_same (s : State) (ca : Nat) (rd : Reader) : s.SameButErrors (s.softRead ca rd) := by
  unfold State.softRead
  split
  · exact .trans .upd (State.eccCount_same _ _ _)
  · exact .refl s

theorem State.softReads_same (s : State) (ca n : Nat) (rd : Reader) : s.SameButErrors (s.softReads ca n rd) := by
  unfold State.softReads
  split
  · exact .refl s
  · generalize wordsIn ca n = l
    induction l generalizing s with
    | nil => exact .refl s
    | cons k l ih => exact (s.softRead_same k rd).trans (ih _)

theorem State.markBad_same (s : State) (ca : Nat) : s.SameButErrors (s.markBad ca) := by
  unfold State.markBad
  split
  · exact .upd
  · exact .upd

theorem State.logEvt_same (s : State) (src data : Nat) : s.SameButErrors (s.logEvt src data) := by
  unfold State.logEvt
  split
  · exact .upd
  · exact .refl s

/-- An uncorrectable error found in a word. -/
theorem State.eccUncorrectable_same (s : State) (ca : Nat) : s.SameButErrors (s.eccUncorrectable ca) := by
  unfold State.eccUncorrectable
  extract_lets u
  refine (s.markBad_same ca).trans ?_
  change u.SameButErrors _
  clear_value u
  split
  · exact .trans .upd (State.logEvt_same _ _ _)
  · exact .trans .upd (State.logEvt_same _ _ _)
  · split
    · exact .trans .upd (State.logEvt_same _ _ _)
    · exact .refl u
  · exact .refl u

theorem State.reg_congr {s t : State} (h : s.regs = t.regs) (r : Reg) : s.reg r = t.reg r := by
  simp [State.reg, h]

theorem State.getF_congr {s t : State} (h : s.regs = t.regs) (r : Reg) (f : Nat × Nat) : s.getF r f = t.getF r f := by
  simp [State.getF, State.reg_congr h]

theorem State.getB_congr {s t : State} (h : s.regs = t.regs) (r : Reg) (f : Nat × Nat) : s.getB r f = t.getB r f := by
  simp [State.getB, State.reg_congr h]

theorem State.reg_setB (s : State) (r r' : Reg) (f : Nat × Nat) (v : Bool) :
    (s.setB r f v).reg r' = if r' = r then setFld (s.reg r) f.1 f.2 (if v then 1 else 0) else s.reg r' := State.reg_setF ..

theorem State.reg_setF_ne {s : State} {r r' : Reg} {f : Nat × Nat} {v : Nat} (h : r' ≠ r) : (s.setF r f v).reg r' = s.reg r' := by
  rw [State.reg_setF, if_neg h]

theorem State.reg_setB_ne {s : State} {r r' : Reg} {f : Nat × Nat} {v : Bool} (h : r' ≠ r) : (s.setB r f v).reg r' = s.reg r' :=
  State.reg_setF_ne h

theorem State.reg_incF_ne {s : State} {r r' : Reg} {f : Nat × Nat} {n : Nat} (h : r' ≠ r) : (s.incF r f n).reg r' = s.reg r' :=
  State.reg_setF_ne h

/-- A one-bit field after a one-bit field of the same register was set. -/
theorem State.getB_setB_same (s : State) (r : Reg) {i j : Nat} (b : Bool) (h : j < 36) :
    (s.setB r (i, i) b).getB r (j, j) = if j = i then b else s.getB r (j, j) := by
  rw [State.getB, State.reg_setB, if_pos rfl]
  exact bit_setBit h

/-- A field that takes the same field of another word reads as in that word. -/
theorem fld_setFld_fld {w v : Word} {hi lo : Nat} (h : hi < 36) : fld (setFld w hi lo (fld v hi lo)) hi lo = fld v hi lo := by
  rw [fld_setFld_self h, Nat.mod_eq_of_lt (fld_lt v hi lo)]

/-- Setting a bit leaves a field that does not hold it. -/
theorem fld_setBit_ne {w : Word} {i hi lo : Nat} {b : Bool} (h : hi < i ∨ i < lo) : fld (setBit w i b) hi lo = fld w hi lo :=
  fld_setFld_ne h

/-- A saturating counter is the smaller of its sum and its cap. -/
theorem satAdd_eq_min (a b cap : Nat) : satAdd a b cap = min cap (a + b) := by
  unfold satAdd
  split <;> omega

/-! ## Registers after such a find -/

/-- The registers that the finding of an error never writes. -/
def Reg.eccFree : Reg → Bool
  | .SEC_ECC _ | .SEC_ECC_ADDR _ | .HLTH_ECC | .HLTH_ECC_ADDR | .HLTH_STS => false
  | _ => true

theorem Reg.eccFree_ne {r : Reg} (h : r.eccFree = true) :
    (∀ k, r ≠ .SEC_ECC k) ∧ (∀ k, r ≠ .SEC_ECC_ADDR k) ∧ r ≠ .HLTH_ECC ∧ r ≠ .HLTH_ECC_ADDR ∧ r ≠ .HLTH_STS := by
  refine ⟨fun k e => ?_, fun k e => ?_, fun e => ?_, fun e => ?_, fun e => ?_⟩ <;> (subst e; exact Bool.noConfusion h)

theorem State.sectStall_regs (s : State) (k c d : Nat) : (s.sectStall k c d).regs = s.regs := by
  simp only [State.sectStall]
  split <;> rfl

theorem State.markBad_regs (s : State) (ca : Nat) : (s.markBad ca).regs = s.regs := by
  unfold State.markBad
  split <;> rfl

theorem State.logEvt_regs (s : State) (src data : Nat) : (s.logEvt src data).regs = s.regs := by
  unfold State.logEvt
  split <;> rfl

section
variable {r : Reg} (h : r.eccFree = true)
include h

theorem State.eccCount_reg (s : State) (sec : Option Nat) (rd : Reader) : (s.eccCount sec rd).reg r = s.reg r := by
  obtain ⟨h1, -⟩ := Reg.eccFree_ne h
  unfold State.eccCount
  extract_lets u
  have hu : u.reg r = s.reg r := by
    simp only [u]
    split
    · exact State.reg_incF_ne (h1 _)
    · rfl
  clear_value u
  split
  · split
    · exact (State.reg_congr (State.sectStall_regs _ _ _ _) r).trans hu
    · exact hu
  · exact hu
  · exact hu

theorem State.softRead_reg (s : State) (ca : Nat) (rd : Reader) : (s.softRead ca rd).reg r = s.reg r := by
  unfold State.softRead
  split
  · exact State.eccCount_reg h _ _ _
  · rfl

theorem State.softReads_reg (s : State) (ca n : Nat) (rd : Reader) : (s.softReads ca n rd).reg r = s.reg r := by
  unfold State.softReads
  split
  · rfl
  · generalize wordsIn ca n = l
    induction l generalizing s with
    | nil => rfl
    | cons k l ih => exact (ih _).trans (State.softRead_reg h s k rd)

theorem State.eccUncorrectable_reg (s : State) (ca : Nat) : (s.eccUncorrectable ca).reg r = s.reg r := by
  obtain ⟨h1, h2, h3, h4, h5⟩ := Reg.eccFree_ne h
  have hm := State.reg_congr (s.markBad_regs ca) r
  unfold State.eccUncorrectable
  extract_lets u
  change u.reg r = _ at hm
  clear_value u
  rw [← hm]
  split
  · rw [State.reg_congr (State.logEvt_regs _ _ _) r]
    refine (State.reg_setB_ne h5).trans ?_
    rw [State.reg_setReg, if_neg h4, State.reg_incF_ne h3]
  · rw [State.reg_congr (State.logEvt_regs _ _ _) r]
    refine (State.reg_setB_ne h5).trans ?_
    rw [State.reg_setReg, if_neg h4, State.reg_incF_ne h3]
  · split
    · rw [State.eccLog, State.reg_congr (State.logEvt_regs _ _ _) r, State.reg_setReg, if_neg (h2 _), State.reg_incF_ne (h1 _)]
    · rfl
  · rfl

end

/-! ## Marks of uncorrectable errors -/

theorem State.eccCount_eccBad (s : State) (sec : Option Nat) (rd : Reader) : (s.eccCount sec rd).eccBad = s.eccBad := by
  unfold State.eccCount
  extract_lets u
  have hu : u.eccBad = s.eccBad := by
    simp only [u]
    split <;> rfl
  clear_value u
  split
  · split
    · simp only [State.sectStall]
      split <;> exact hu
    · exact hu
  · exact hu
  · exact hu

/-- A corrected read marks no word as uncorrectable. -/
theorem State.softRead_eccBad (s : State) (ca : Nat) (rd : Reader) : (s.softRead ca rd).eccBad = s.eccBad := by
  unfold State.softRead
  split
  · exact State.eccCount_eccBad _ _ _
  · rfl

theorem State.memHeld_congr {s t : State} (h : t.march = s.march) (ca : Nat) : t.memHeld ca = s.memHeld ca := by
  simp only [State.memHeld, State.marchMem, h]

theorem State.isBad_softRead (s : State) (ca : Nat) (rd : Reader) (a : Nat) : (s.softRead ca rd).isBad a = s.isBad a := by
  rw [State.isBad, State.isBad, State.memHeld_congr (s.softRead_same ca rd).march, State.softRead_eccBad]

/-- Writing a word leaves the marks of every other. -/
theorem State.isBad_setWord_ne {s : State} {ca x : Nat} {w : Word} (h : x / 4 ≠ ca / 4) : (s.setWord ca w).isBad x = s.isBad x := by
  rw [State.isBad, State.isBad, State.memHeld_setWord]
  unfold State.setWord
  split
  · rfl
  · simp [State.clearResv, SMap.get_set_ne h]

/-- Writing a word marks none. -/
theorem State.isBad_setWord_le {s : State} {ca x : Nat} {w : Word} (h : s.isBad x = false) : (s.setWord ca w).isBad x = false := by
  by_cases hx : x / 4 = ca / 4
  · exact State.isBad_setWord_self hx
  · rw [State.isBad_setWord_ne hx, h]

/-! ## A word written and a part of the state changed commute -/

theorem State.setWord_setDma (s : State) (ca : Nat) (w : Word) (n : Nat) (x : DmaCtx) :
    (s.setDma n x).setWord ca w = (s.setWord ca w).setDma n x := by
  unfold State.setWord
  change (if s.memHeld ca = true then _ else _) = _
  split <;> rfl

theorem State.setWord_setReg (s : State) (ca : Nat) (w : Word) (r : Reg) (v : Word) :
    (s.setReg r v).setWord ca w = (s.setWord ca w).setReg r v := by
  unfold State.setWord
  change (if s.memHeld ca = true then _ else _) = _
  split <;> rfl

theorem State.setDma_setReg (s : State) (n : Nat) (x : DmaCtx) (r : Reg) (v : Word) :
    (s.setReg r v).setDma n x = (s.setDma n x).setReg r v := rfl

theorem State.reg_setWord (s : State) (ca : Nat) (w : Word) (r : Reg) : (s.setWord ca w).reg r = s.reg r :=
  State.reg_congr (s.setWord_regs ca w) r

theorem State.setWord_dma (s : State) (ca : Nat) (w : Word) : (s.setWord ca w).dma = s.dma := by
  unfold State.setWord
  split <;> rfl

end Sys2Proof.Machine
end

section
/-! SUPPORT. The Queue Manager: pushes by the room in their queue, and the handoff register. Settles O31. -/

namespace Sys2Proof.Machine

/-! ## Pushes (R93, R95, R98) -/

/-- A full step queue refuses a push. -/
theorem State.qmPush_stepFull {s : State} {q : Nat} {ws : List Word} (hq : q < 32768) (h : 8 ≤ (s.q q).occ) :
    s.qmPush q ws = (s, 1) := by
  simp [State.qmPush, qDepth, isStepQ, hq, h]

/-- A full record queue drops a push and counts the drop. -/
theorem State.qmPush_recordFull {s : State} {q : Nat} {ws : List Word} (hq : ¬ q < 32768) (h : 16 ≤ (s.q q).occ) :
    s.qmPush q ws = (s.qmDrop q, 2) := by
  simp [State.qmPush, qDepth, isStepQ, hq, h]

/-- The state once a queue with room has taken an entry: its words are in their slot, the queue one longer. -/
def State.qmTaken (s : State) (q : Nat) (ws : List Word) : State :=
  (s.setWords (qSlotAddr q (((s.q q).head + (s.q q).occ) % qDepth q)) (ws.take (qWords q))).setQ q
    { s.q q with occ := (s.q q).occ + 1, drops := 0, tags := (s.q q).tags ++ [(s.q q).drops] }

/-- A queue with room takes the entry; a record queue that reaches its threshold posts an event. -/
theorem State.qmPush_room {s : State} {q : Nat} {ws : List Word} (h : ¬ qDepth q ≤ (s.q q).occ) :
    s.qmPush q ws = (if 32768 ≤ q ∧ (s.q q).occ < s.getF .QM_THR F.QM_THR_REC_HIGH ∧ s.getF .QM_THR F.QM_THR_REC_HIGH ≤ (s.q q).occ + 1
      then (s.qmTaken q ws).qmEvent q ((s.q q).occ + 1) else s.qmTaken q ws, 0) := by
  have hreg : (s.qmTaken q ws).regs = s.regs := by simp [State.qmTaken]
  have hq : (!isStepQ q) = decide (32768 ≤ q) := by
    unfold isStepQ
    by_cases hlt : q < 32768 <;> simp [hlt]; omega
  unfold State.qmPush
  rw [if_neg h]
  change (if (!isStepQ q && decide ((s.q q).occ < (s.qmTaken q ws).getF .QM_THR F.QM_THR_REC_HIGH) &&
    decide ((s.qmTaken q ws).getF .QM_THR F.QM_THR_REC_HIGH ≤ (s.q q).occ + 1)) = true
    then ((s.qmTaken q ws).qmEvent q ((s.q q).occ + 1), 0) else (s.qmTaken q ws, 0)) = _
  rw [State.getF_congr hreg, hq]
  simp only [Bool.and_eq_true, decide_eq_true_eq, and_assoc]
  split <;> rfl

/-- An overflow drop of a record queue is counted in the queue and in QM_DROPS (R95). -/
theorem State.qmDrop_eq (s : State) (q : Nat) :
    s.qmDrop q = (s.setQ q { s.q q with drops := min 255 ((s.q q).drops + 1) }).setF .QM_DROPS F.QM_DROPS_COUNT
      (min (2 ^ (F.QM_DROPS_COUNT.1 + 1 - F.QM_DROPS_COUNT.2) - 1) (s.getF .QM_DROPS F.QM_DROPS_COUNT + 1)) := by
  simp only [State.qmDrop, State.incF, satAdd_eq_min]
  rfl

/-! ## The handoff register (R99, R103) -/

theorem State.beatNum_lt (s : State) : s.beatNum < 2 ^ 36 := fld_lt _ _ _

/-- The word of an armed or refused handoff: owner, count and first channel as written, STS 3 or STS 1 with ARM. -/
def handoffArmed (w : Word) (refused : Bool) : Word :=
  let x := setFld (setFld 0 32 16 (fld w 32 16)) 14 0 (fld w 14 0)
  if refused then setFld x 34 33 3 else setBit (setFld x 34 33 1) 35 true

theorem handoffArmed_block (w : Word) (b : Bool) : fld (handoffArmed w b) 32 16 = fld w 32 16 ∧ fld (handoffArmed w b) 14 0 = fld w 14 0 := by
  constructor <;> cases b <;> simp only [handoffArmed, Bool.false_eq_true, if_false, if_true]
  all_goals repeat rw [fld_setBit_ne (by omega)]
  all_goals rw [fld_setFld_ne (by omega)]
  · rw [fld_setFld_ne (by omega), fld_setFld_fld (by omega)]
  · rw [fld_setFld_ne (by omega), fld_setFld_fld (by omega)]
  · rw [fld_setFld_fld (by omega)]
  · rw [fld_setFld_fld (by omega)]

theorem handoffArmed_sts (w : Word) (b : Bool) : fld (handoffArmed w b) 34 33 = if b then 3 else 1 := by
  cases b
  · simp only [handoffArmed, Bool.false_eq_true, if_false]
    rw [fld_setBit_ne (by omega), fld_setFld_self (by omega)]
    rfl
  · simp only [handoffArmed, if_true]
    rw [fld_setFld_self (by omega)]
    rfl

theorem handoffArmed_arm (w : Word) : bit (handoffArmed w false) 35 = true := bit_setBit_self (by omega)

/-- B is too early or the block is refused (R99). -/
def State.handoffFails (s : State) (w : Word) : Bool :=
  decide (2 ^ 35 ≤ (s.getF .QM_HOFF_BEAT F.QM_HOFF_BEAT_BEAT + 2 ^ 36 - (s.beatNum + 2) % 2 ^ 36) % 2 ^ 36) ||
    s.handoffRefused (fld w 32 25) (fld w 14 0) (fld w 24 16)

/-- B lies before the beat that may first be armed. -/
theorem State.handoffFails_of_early {s : State} {w : Word} (hn : s.beatNum + 2 < 2 ^ 36)
    (hb : s.getF .QM_HOFF_BEAT F.QM_HOFF_BEAT_BEAT < s.beatNum + 2) (hd : s.beatNum + 2 - s.getF .QM_HOFF_BEAT F.QM_HOFF_BEAT_BEAT ≤ 2 ^ 35) :
    s.handoffFails w = true := by
  have : 2 ^ 35 ≤ (s.getF .QM_HOFF_BEAT F.QM_HOFF_BEAT_BEAT + 2 ^ 36 - (s.beatNum + 2) % 2 ^ 36) % 2 ^ 36 := by omega
  rw [State.handoffFails, decide_eq_true this, Bool.true_or]

/-- B lies at the beat that may first be armed, or after it. -/
theorem State.handoffFails_of_late {s : State} {w : Word} (hb : s.beatNum + 2 ≤ s.getF .QM_HOFF_BEAT F.QM_HOFF_BEAT_BEAT)
    (hd : s.getF .QM_HOFF_BEAT F.QM_HOFF_BEAT_BEAT - (s.beatNum + 2) < 2 ^ 35)
    (hr : s.handoffRefused (fld w 32 25) (fld w 14 0) (fld w 24 16) = false) : s.handoffFails w = false := by
  have h36 : s.getF .QM_HOFF_BEAT F.QM_HOFF_BEAT_BEAT < 2 ^ 36 := fld_lt _ _ _
  have : ¬ 2 ^ 35 ≤ (s.getF .QM_HOFF_BEAT F.QM_HOFF_BEAT_BEAT + 2 ^ 36 - (s.beatNum + 2) % 2 ^ 36) % 2 ^ 36 := by omega
  simp only [State.handoffFails, hr, decide_eq_false this, Bool.or_false]

theorem State.handoffArm_eq {s : State} (h : s.getF .QM_HOFF F.QM_HOFF_STS ≠ 1) (w : Word) :
    s.handoffArm w = s.setReg .QM_HOFF (handoffArmed w (s.handoffFails w)) := by
  unfold State.handoffArm
  rw [if_neg h]
  change (if s.handoffFails w = true then _ else _) = _
  split
  · next hf => rw [hf]; rfl
  · next hf => rw [Bool.eq_false_iff.mpr hf]; rfl

/-- Cancelling an armed handoff clears STS and ARM. -/
theorem State.handoffCancel_armed {s : State} (h : s.getF .QM_HOFF F.QM_HOFF_STS = 1) (w : Word) :
    s.handoffCancel w = s.setReg .QM_HOFF (setFld (setFld (s.reg .QM_HOFF) 34 33 0) 35 35 0) := by
  unfold State.handoffCancel
  rw [if_pos h, State.setB, State.setF, State.setF, State.reg_setReg, if_pos rfl, State.setReg_setReg]
  rfl

/-- Settles O31: by the room in the queue of a push, and by the state of the handoff. -/
theorem queuesKeepTheirOrderAndCountTheirDrops : Obligations.QueuesKeepTheirOrderAndCountTheirDrops := by
  unfold Obligations.QueuesKeepTheirOrderAndCountTheirDrops
  refine ⟨fun s q ws start => ?_, fun s w k => ⟨?_, ?_, ?_, ?_, ?_, ?_, ?_⟩⟩
  · intro z depth n hi pushed
    have hp : pushed (start.qmPush q ws) := by
      have hd : qDepth q = depth := by simp [qDepth, isStepQ, depth]
      by_cases hfull : depth ≤ z.occ
      · simp only [pushed, if_pos hfull]
        by_cases hq : q < 32768
        · simp only [if_pos hq]
          exact State.qmPush_stepFull hq (by simpa [depth, hq] using hfull)
        · simp only [if_neg hq]
          rw [State.qmPush_recordFull hq (by simpa [depth, hq] using hfull), State.qmDrop_eq]
          exact ⟨rfl, rfl⟩
      · simp only [pushed, if_neg hfull]
        rw [State.qmPush_room (by rwa [hd])]
        simp only [State.qmTaken, hd, qSlotAddr, qWords, isStepQ, decide_eq_true_eq, true_and]
        rfl
    refine ⟨?_, ?_⟩
    · rintro w rfl rfl rfl hs
      refine ⟨_, hp, ?_⟩
      change Host.Outcome.next (State.qmPushWrite _ _) = _
      rw [State.qmPushWrite, if_neg hs]
    · rintro k p l hb rfl rfl rfl
      refine ⟨_, hp, ?_⟩
      change Host.Outcome.next (State.pushReach _ _) = _
      rw [State.pushReach, hb]
  · intro h
    change Host.Outcome.next (State.qmPushWrite _ _) = _
    rw [State.qmPushWrite, if_pos h]
  · intro h
    change Host.Outcome.next (State.pushReach _ _) = _
    rw [State.pushReach, h]
  · intro r h
    change Host.Outcome.next (State.qmPushFinish _) = _
    rw [State.qmPushFinish, h]
  · intro h
    change Host.Outcome.next (State.qmPushFinish _) = _
    rw [State.qmPushFinish, h]
  · change Host.Outcome.next (State.qmEvtPop _).2 = _
    cases he : s.qmEvts with
    | nil =>
      rw [State.qmEvtPop, he]
      change Host.Outcome.next s = Host.Outcome.next { s with qmEvts := [] }
      rw [← he]
    | cons e l => rw [State.qmEvtPop, he]; rfl
  · intro h
    constructor
    · change Host.Outcome.next (State.handoffArm _ _) = _
      rw [State.handoffArm, if_pos h]
    · refine ⟨_, congrArg Host.Outcome.next (State.handoffCancel_armed h w), ?_, ?_, ?_⟩
      · rw [fld_setFld_ne (by omega), fld_setFld_self (by omega), Nat.zero_mod]
      · rw [bit_setFld (by omega), if_pos (by omega), Nat.zero_testBit]
      · rw [fld_setFld_ne (by omega), fld_setFld_ne (by omega)]
  · intro h
    refine ⟨_, congrArg Host.Outcome.next (State.handoffArm_eq h w), (handoffArmed_block _ _).1, (handoffArmed_block _ _).2, ⟨?_, ?_⟩,
      _, congrArg Host.Outcome.next (if_neg h), ?_, ?_, ?_⟩
    · rintro (⟨hn, hb, hd⟩ | hr)
      · rw [State.handoffFails_of_early hn hb hd, handoffArmed_sts, if_pos rfl]
      · have hf : s.handoffFails w = true := by simp [State.handoffFails, hr]
        rw [hf, handoffArmed_sts, if_pos rfl]
    · rintro ⟨hb, hd⟩ hr
      rw [State.handoffFails_of_late hb hd (by simpa using hr)]
      exact ⟨handoffArmed_sts w false, handoffArmed_arm w⟩
    · rw [fld_setFld_ne (by omega), fld_setFld_fld (by omega)]
    · rw [fld_setFld_fld (by omega)]
    · rw [fld_setFld_ne (by omega), fld_setFld_ne (by omega)]

end Sys2Proof.Machine
end

section
/-! SUPPORT. The comparison of the two copies of a Glove entry (R132): what a cause leaves beside the entry (R133), and the trip of an
entry that fails, seen through every access to it. -/

namespace Sys2Proof.Machine

/-! ## The event word of a trip -/

/-- A word is the sum of its fields VALID, CAUSE, BEAT and CH. -/
theorem toNat_eq_event_fields (w : Word) :
    w.toNat = fld w 35 35 * 2 ^ 35 + fld w 34 30 * 2 ^ 30 + fld w 29 15 * 2 ^ 15 + fld w 14 0 := by
  have h := w.isLt
  simp only [fld, Nat.shiftRight_eq_div_pow]
  omega

/-- The word that a trip posts (R133). -/
theorem tripEvent_eq (cause beat c : Nat) :
    setFld (setFld (setBit (put 34 30 cause) 35 true) 29 15 beat) 14 0 c =
      BitVec.ofNat 36 (2 ^ 35 + cause % 32 * 2 ^ 30 + beat % 2 ^ 15 * 2 ^ 15 + c % 2 ^ 15) := by
  apply BitVec.eq_of_toNat_eq
  rw [toNat_eq_event_fields, BitVec.toNat_ofNat]
  have h1 : fld (setFld (setFld (setBit (put 34 30 cause) 35 true) 29 15 beat) 14 0 c) 35 35 = 1 := by
    rw [fld_setFld_ne (by omega), fld_setFld_ne (by omega), setBit, fld_setFld_self (by omega)]; rfl
  have h2 : fld (setFld (setFld (setBit (put 34 30 cause) 35 true) 29 15 beat) 14 0 c) 34 30 = cause % 32 := by
    rw [fld_setFld_ne (by omega), fld_setFld_ne (by omega), fld_setBit_ne (by omega), put, fld_setFld_self (by omega)]; rfl
  have h3 : fld (setFld (setFld (setBit (put 34 30 cause) 35 true) 29 15 beat) 14 0 c) 29 15 = beat % 2 ^ 15 := by
    rw [fld_setFld_ne (by omega), fld_setFld_self (by omega)]
  have h4 : fld (setFld (setFld (setBit (put 34 30 cause) 35 true) 29 15 beat) 14 0 c) 14 0 = c % 2 ^ 15 := by
    rw [fld_setFld_self (by omega)]
  rw [h1, h2, h3, h4]
  omega

/-! ## The Gong leaves the rest alone -/

theorem State.fireSource_reg (s : State) (f : Nat × Nat) {r : Reg} (h : ∀ g, r ≠ .DBG_GONG g) : (s.fireSource f).reg r = s.reg r := by
  unfold State.fireSource
  generalize List.range 8 = l
  induction l generalizing s with
  | nil => rfl
  | cons g l ih =>
    rw [List.foldl_cons, ih]
    split
    · change ((s.setB (.DBG_GONG g) F.DBG_GONG_FIRED true).incF (.DBG_GONG g) F.DBG_GONG_COUNT).reg r = _
      rw [State.reg_incF_ne (h g), State.reg_setB_ne (h g)]
    · rfl

theorem State.fireSource_glvEvts (s : State) (f : Nat × Nat) : (s.fireSource f).glvEvts = s.glvEvts := by
  unfold State.fireSource
  generalize List.range 8 = l
  induction l generalizing s with
  | nil => rfl
  | cons g l ih =>
    rw [List.foldl_cons, ih]
    split <;> rfl

/-! ## What a cause leaves beside the entry (R107, R133) -/

theorem State.glvPostTrip_glvEvts (s : State) (c cause : Nat) :
    (s.glvPostTrip c cause).glvEvts = if s.glvEvts.length < 256 then
      s.glvEvts ++ [BitVec.ofNat 36 (2 ^ 35 + cause % 32 * 2 ^ 30 + s.beatNum % 2 ^ 15 * 2 ^ 15 + c % 2 ^ 15)] else s.glvEvts := by
  simp only [State.glvPostTrip, State.fireSource_glvEvts, tripEvent_eq, pushEvt]
  by_cases h : s.glvEvts.length < 256
  · simp only [h, if_true]; rfl
  · simp only [h, if_false]; rfl

/-- A trip sets EVT_OVF where the store is full, and touches no other field of GLV_STS. -/
theorem State.glvPostTrip_sts (s : State) (c cause : Nat) :
    (s.glvPostTrip c cause).reg .GLV_STS =
      if s.glvEvts.length < 256 then s.reg .GLV_STS else setFld (s.reg .GLV_STS) 0 0 1 := by
  simp only [State.glvPostTrip, pushEvt]
  rw [State.fireSource_reg _ _ (by simp), State.reg_incF_ne (by decide)]
  by_cases h : s.glvEvts.length < 256
  · simp only [h, if_true]; rfl
  · simp only [h, if_false, if_true]
    rw [State.reg_setB, if_pos rfl]; rfl

theorem State.glvPostTrip_trips (s : State) (c cause : Nat) :
    (s.glvPostTrip c cause).getF .GLV_TRIPS F.GLV_TRIPS_COUNT = min (2 ^ 36 - 1) (s.getF .GLV_TRIPS F.GLV_TRIPS_COUNT + 1) := by
  have hl : s.getF .GLV_TRIPS F.GLV_TRIPS_COUNT < 2 ^ 36 := fld_lt _ _ _
  simp only [State.glvPostTrip]
  rw [State.getF, State.fireSource_reg _ _ (by simp), ← State.getF, State.incF, State.getF_setF_self _ _ _ _ (by decide),
    satAdd_eq_min]
  have hb : ∀ u : State, u.getF .GLV_TRIPS F.GLV_TRIPS_COUNT = s.getF .GLV_TRIPS F.GLV_TRIPS_COUNT →
      min (2 ^ (F.GLV_TRIPS_COUNT.1 + 1 - F.GLV_TRIPS_COUNT.2) - 1) (u.getF .GLV_TRIPS F.GLV_TRIPS_COUNT + 1) %
        2 ^ (F.GLV_TRIPS_COUNT.1 + 1 - F.GLV_TRIPS_COUNT.2) = min (2 ^ 36 - 1) (s.getF .GLV_TRIPS F.GLV_TRIPS_COUNT + 1) := by
    intro u hu
    rw [hu]
    exact Nat.mod_eq_of_lt (by simp only [F.GLV_TRIPS_COUNT]; omega)
  split
  · exact hb _ (congrArg (fld · _ _) (State.reg_setB_ne (by decide)))
  · exact hb _ rfl

/-- The channel once a cause has reached it: its W7 with STATE, ACT, CAUSE and LAST anew. -/
def State.chEntered (s : State) (c : Nat) (trip : Bool) (cause act : Nat) : Chan :=
  let x := s.ch c
  let old := x.g0.state
  let st := if trip || old == 2 then 2 else 3
  let act' := if old < 2 then act else if x.g0.act < act then act else x.g0.act
  let cause' := if old < 2 then cause else if x.g0.cause = 0x1A then cause else x.g0.cause
  let last := if st = old then fld x.g0.w7 14 0 else s.beatNum
  x.modW7 (fun w => setFld (setFld (setFld (setFld w 35 34 st) 33 32 act') 31 27 cause') 14 0 last)

theorem State.chEntered_state (s : State) (c cause act : Nat) (trip : Bool) :
    (s.chEntered c trip cause act).g0.state = if trip || (s.ch c).g0.state == 2 then 2 else 3 := by
  change fld (setFld (setFld (setFld (setFld (s.ch c).g0.w7 35 34 (if trip || (s.ch c).g0.state == 2 then 2 else 3)) 33 32 _) 31 27 _) 14 0 _)
    35 34 = _
  rw [fld_setFld_ne (by omega), fld_setFld_ne (by omega), fld_setFld_ne (by omega), fld_setFld_self (by omega)]
  split <;> rfl

theorem State.chEntered_last (s : State) (c cause act : Nat) (trip : Bool) :
    fld (s.chEntered c trip cause act).g0.w7 14 0 =
      if (s.chEntered c trip cause act).g0.state = (s.ch c).g0.state then fld (s.ch c).g0.w7 14 0 else s.beatNum % 2 ^ 15 := by
  rw [State.chEntered_state]
  simp only [State.chEntered, Chan.modW7, Chan.modEntry]
  rw [fld_setFld_self (by omega)]
  generalize (if (trip || (s.ch c).g0.state == 2) = true then 2 else 3) = st
  by_cases h : st = (s.ch c).g0.state
  · rw [if_pos h, if_pos h]
    exact Nat.mod_eq_of_lt (fld_lt _ _ _)
  · rw [if_neg h, if_neg h]

theorem State.glvEnter_eq (s : State) (c cause act : Nat) (trip : Bool) :
    s.glvEnter c trip cause act = if (s.chEntered c trip cause act).g0.state = 2 ∧ (s.ch c).g0.state ≠ 2
      then (s.setCh c (s.chEntered c trip cause act)).glvPostTrip c cause else s.setCh c (s.chEntered c trip cause act) := by
  rw [State.chEntered_state]
  rfl

theorem State.glvEnter_ch (s : State) (c cause act : Nat) (trip : Bool) :
    (s.glvEnter c trip cause act).ch c = s.chEntered c trip cause act := by
  rw [State.glvEnter_eq, State.ch_ite (State.glvPostTrip_ch _ _ _ _), State.ch_setCh, if_pos rfl]

/-- A register that neither the Glove's events nor the Gong write keeps its word. -/
theorem State.glvEnter_sts (s : State) (c cause act : Nat) (trip : Bool) :
    (s.glvEnter c trip cause act).reg .GLV_STS =
      if (s.chEntered c trip cause act).g0.state = 2 ∧ (s.ch c).g0.state ≠ 2 ∧ 256 ≤ s.glvEvts.length
      then setFld (s.reg .GLV_STS) 0 0 1 else s.reg .GLV_STS := by
  rw [State.glvEnter_eq]
  by_cases h : (s.chEntered c trip cause act).g0.state = 2 ∧ (s.ch c).g0.state ≠ 2
  · rw [if_pos h, State.glvPostTrip_sts]
    by_cases hl : s.glvEvts.length < 256
    · rw [if_pos (show (s.setCh c _).glvEvts.length < 256 from hl), if_neg (by omega)]; rfl
    · rw [if_neg (show ¬ (s.setCh c _).glvEvts.length < 256 from hl), if_pos ⟨h.1, h.2, by omega⟩]; rfl
  · rw [if_neg h, if_neg (by tauto)]; rfl

/-- What a cause that reaches a channel leaves beside its entry. -/
theorem State.glvEnter_transition (s : State) (c cause act : Nat) (trip : Bool) :
    s.Transition (s.glvEnter c trip cause act) c cause := by
  have hch := s.glvEnter_ch c cause act trip
  constructor
  case last =>
    rw [hch]
    exact s.chEntered_last c cause act trip
  case overflow =>
    rw [State.getB, State.glvEnter_sts, hch]
    split
    · next h => simp [h, F.GLV_STS_EVT_OVF, bit_setFld]
    · next h => simp [h, State.getB]
  case events =>
    rw [hch, State.glvEnter_eq]
    by_cases h : (s.chEntered c trip cause act).g0.state = 2 ∧ (s.ch c).g0.state ≠ 2
    · rw [if_pos h, State.glvPostTrip_glvEvts]
      simp [h]; rfl
    · rw [if_neg h, if_neg (by tauto)]; rfl
  case trips =>
    rw [hch, State.glvEnter_eq]
    by_cases h : (s.chEntered c trip cause act).g0.state = 2 ∧ (s.ch c).g0.state ≠ 2
    · rw [if_pos h, if_pos h, State.glvPostTrip_trips]; rfl
    · rw [if_neg h, if_neg h]; rfl

/-! ## An entry that fails the comparison -/

/-- What a trip of channel c by the comparison leaves. -/
structure State.CopiesTripped (s t : State) (c : Nat) : Prop where
  cmpErr : t.getB .GLV_STS F.GLV_STS_CMP_ERR = true
  takes : (s.ch c).takes true 0x1D 2 (t.ch c)
  transition : s.Transition t c 0x1D
  others : ∀ d, d ≠ c → t.ch d = s.ch d

/-- Nothing of what a trip counts and posts differs between s and t. -/
structure State.SameGlove (s t : State) : Prop where
  ch : ∀ d, t.ch d = s.ch d
  evts : t.glvEvts = s.glvEvts
  ovf : t.getB .GLV_STS F.GLV_STS_EVT_OVF = s.getB .GLV_STS F.GLV_STS_EVT_OVF
  trips : t.getF .GLV_TRIPS F.GLV_TRIPS_COUNT = s.getF .GLV_TRIPS F.GLV_TRIPS_COUNT
  beat : t.beatNum = s.beatNum

theorem State.SameGlove.trans {s t u : State} (h : s.SameGlove t) (h' : t.SameGlove u) : s.SameGlove u :=
  ⟨fun d => (h'.ch d).trans (h.ch d), h'.evts.trans h.evts, h'.ovf.trans h.ovf, h'.trips.trans h.trips, h'.beat.trans h.beat⟩

theorem State.SameGlove.of_regs {s t : State} (hc : t.chan = s.chan) (he : t.glvEvts = s.glvEvts) (hr : t.regs = s.regs) : s.SameGlove t :=
  ⟨fun d => by simp [State.ch, hc], he, State.getB_congr hr _ _, State.getF_congr hr _ _, State.getF_congr hr _ _⟩

theorem State.SameGlove.symm {s t : State} (h : s.SameGlove t) : t.SameGlove s :=
  ⟨fun d => (h.ch d).symm, h.evts.symm, h.ovf.symm, h.trips.symm, h.beat.symm⟩

theorem State.SameGlove.refl (s : State) : s.SameGlove s := ⟨fun _ => rfl, rfl, rfl, rfl, rfl⟩

/-- Every field of GLV_STS but EVT_OVF, and of GLV_CMD, is none that a trip counts or posts in. -/
theorem State.SameGlove.setF {s : State} {r : Reg} {f : Nat × Nat} (v : Nat) (h : r = .GLV_CMD ∨ r = .GLV_STS ∧ 0 < f.2) :
    s.SameGlove (s.setF r f v) := by
  have hb : ∀ r', r' ≠ .GLV_CMD → r' ≠ .GLV_STS → (s.setF r f v).reg r' = s.reg r' := by
    intro r' h1 h2
    refine State.reg_setF_ne ?_
    rcases h with rfl | ⟨rfl, -⟩
    · exact h1
    · exact h2
  refine ⟨fun _ => rfl, rfl, ?_, congrArg (fld · _ _) (hb _ (by decide) (by decide)), congrArg (fld · _ _) (hb _ (by decide) (by decide))⟩
  rcases h with rfl | ⟨rfl, hf⟩
  · exact congrArg (bit · _) (State.reg_setF_ne (by decide))
  · rw [State.getB, State.reg_setF, if_pos rfl, F.GLV_STS_EVT_OVF, bit_setFld (by omega), if_neg (by omega)]
    rfl

/-- What a trip leaves is not changed by what it does not look at. -/
theorem State.CopiesTripped.congr {s s' t t' : State} {c : Nat} (h : s.CopiesTripped t c) (hs : s.SameGlove s') (ht : t.SameGlove t')
    (hc : t'.getB .GLV_STS F.GLV_STS_CMP_ERR = true) : s'.CopiesTripped t' c where
  cmpErr := hc
  takes := by rw [hs.ch, ht.ch]; exact h.takes
  transition := by
    obtain ⟨h1, h2, h3, h4⟩ := h.transition
    constructor
    · rw [hs.ch, ht.ch, hs.beat]; exact h1
    · rw [hs.ch, ht.ch, hs.beat, hs.evts, ht.evts]; exact h2
    · rw [hs.ch, ht.ch, hs.evts, hs.ovf, ht.ovf]; exact h3
    · rw [hs.ch, ht.ch, hs.trips, ht.trips]; exact h4
  others := fun d hd => by rw [hs.ch, ht.ch]; exact h.others d hd

/-- The entry of channel c fails the comparison of R132. -/
def State.glvFails (s : State) (c : Nat) : Prop := (s.ch c).g0 ≠ (s.ch c).g1 ∨ (s.ch c).bad = true ∨ s.glvHeld = true

theorem State.glvSound_of_not_fails {s : State} {c : Nat} (h : ¬ s.glvFails c) : s.glvSound c := by
  unfold State.glvFails at h
  simpa only [not_or, not_not, Bool.not_eq_true] using h

/-- An entry that passes is used as it is. -/
theorem State.glvCompare_pass {s : State} {c : Nat} (h : ¬ s.glvFails c) : s.glvCompare c = (s, true) := by
  obtain ⟨h1, h2, h3⟩ := State.glvSound_of_not_fails h
  simp [State.glvCompare, h1, h2, h3]

theorem State.glvCompare_snd_of_fails {s : State} {c : Nat} (h : s.glvFails c) : (s.glvCompare c).2 = false := by
  unfold State.glvFails at h
  simp only [State.glvCompare]
  rw [if_pos]
  simpa [or_assoc] using h

/-- Raising an alert leaves the Glove alone. -/
theorem State.withAlert_sameGlove (s : State) : s.SameGlove (s.withAlert (fun st => st.setB .GLV_STS F.GLV_STS_CMP_ERR true)) := by
  refine (State.SameGlove.setF (f := F.GLV_STS_CMP_ERR) 1 (.inr ⟨rfl, by decide⟩)).trans (State.SameGlove.of_regs ?_ ?_ ?_)
  all_goals
    simp only [State.withAlert, State.ibi]
    split
    · split <;> rfl
    · rfl

theorem State.withAlert_regs (s : State) (f : State → State) : (s.withAlert f).regs = (f s).regs := by
  simp only [State.withAlert, State.ibi]
  split
  · split <;> rfl
  · rfl

/-- An entry that fails trips its channel. -/
theorem State.glvCompare_trips {s : State} {c : Nat} (h : s.glvFails c) : s.CopiesTripped (s.glvCompare c).1 c := by
  have e : (s.glvCompare c).1 = (s.withAlert (fun st => st.setB .GLV_STS F.GLV_STS_CMP_ERR true)).glvTripOpen c 0x1D := by
    unfold State.glvFails at h
    simp only [State.glvCompare]
    rw [if_pos]
    simpa [or_assoc] using h
  have hg := s.withAlert_sameGlove
  have hr := s.withAlert_regs (fun st => st.setB .GLV_STS F.GLV_STS_CMP_ERR true)
  rw [e, State.glvTripOpen]
  generalize s.withAlert (fun st => st.setB .GLV_STS F.GLV_STS_CMP_ERR true) = u at hg hr
  have hu : bit (u.reg .GLV_STS) 2 = true := by
    rw [State.reg_congr hr, State.reg_setB, if_pos rfl]
    simp [F.GLV_STS_CMP_ERR, bit_setFld]
  have hc : (u.glvEnter c true 0x1D 2).getB .GLV_STS F.GLV_STS_CMP_ERR = true := by
    rw [State.getB, State.glvEnter_sts, F.GLV_STS_CMP_ERR]
    split
    · rw [bit_setFld (by omega), if_neg (by omega), hu]
    · exact hu
  refine State.CopiesTripped.congr (s := u) ?_ hg.symm (.refl _) hc
  exact ⟨hc, State.glvEnter_takes (by omega) (by omega), u.glvEnter_transition c 0x1D 2 true, fun d hd => State.glvEnter_ch_ne hd⟩

/-! ## The accesses (R123, R132, R135) -/

section
variable {s : State} {c : Nat} (h : s.glvFails c)
include h

theorem State.glvUse_of_fails (f : State → State) : s.glvUse c f = (s.glvCompare c).1 := by
  simp [State.glvUse, State.glvCompare_snd_of_fails h]

theorem State.glvSetpoint_of_fails (e mode : Nat) (v : Word) : s.glvSetpoint e c mode v = (s.glvCompare c).1 := by
  simp [State.glvSetpoint, State.glvCompare_snd_of_fails h]

theorem State.glvUpstream_of_fails (w0 w1 w2 w3 : Word) : s.glvUpstream c w0 w1 w2 w3 = (s.glvCompare c).1 := by
  simp [State.glvUpstream, State.glvCompare_snd_of_fails h]

theorem State.glvWindowWrite_of_fails (hb : s.march.boot = false) (k : Nat) (w : Word) :
    s.glvWindowWrite (c * 32 + 4 * k % 32) w = (s.glvCompare c).1 := by
  have hc : (c * 32 + 4 * k % 32) / 32 = c := by omega
  simp [State.glvWindowWrite, hc, hb, State.glvCompare_snd_of_fails h]

theorem State.glvTighten_of_fails (hb : s.march.boot = false) (hc : s.getF .GLV_TSEL F.GLV_TSEL_CH = c) (k : Nat) (w : Word) :
    s.glvTighten k w = (s.glvCompare c).1.setB .GLV_STS F.GLV_STS_TIGHT_REJ true := by
  simp [State.glvTighten, hc, hb, State.glvCompare_snd_of_fails h]

theorem State.glvRelease_of_fails : s.glvRelease c = ((s.glvCompare c).1.setB .GLV_STS F.GLV_STS_REL_REJ true, 2) := by
  simp [State.glvRelease, State.glvCompare_snd_of_fails h]

end

/-! ## GLV_CMD on a block of one channel -/

theorem glvCmdWord_fields (op first count : Nat) (h1 : op < 4) (h2 : first < 32768) (h3 : count < 512) :
    fld (glvCmdWord op first count) 35 34 = op ∧ fld (glvCmdWord op first count) 14 0 = first ∧
      fld (glvCmdWord op first count) 23 15 = count := by
  unfold glvCmdWord put
  refine ⟨?_, ?_, ?_⟩
  · rw [fld_setFld_ne (by omega), fld_setFld_ne (by omega), fld_setFld_self (by omega)]
    exact Nat.mod_eq_of_lt (by omega)
  · rw [fld_setFld_self (by omega)]
    exact Nat.mod_eq_of_lt (by omega)
  · rw [fld_setFld_ne (by omega), fld_setFld_self (by omega)]
    exact Nat.mod_eq_of_lt (by omega)

/-- The state as a command on a block finds it: COUNT and FIRST have the written values. -/
def State.glvCmdNamed (s : State) (first count : Nat) : State :=
  (s.setF .GLV_CMD F.GLV_CMD_COUNT count).setF .GLV_CMD F.GLV_CMD_FIRST first

theorem State.glvCmdNamed_sameGlove (s : State) (first count : Nat) : s.SameGlove (s.glvCmdNamed first count) :=
  (State.SameGlove.setF _ (.inl rfl)).trans (.setF _ (.inl rfl))

/-- The state while the command runs: STS is busy, and whether a channel was refused is kept. -/
def State.glvCmdBusy (s : State) (refused : Bool) : State := { s.setF .GLV_CMD F.GLV_CMD_STS 1 with glvCmd := some refused }

theorem State.glvCmdBusy_sameGlove (s : State) (b : Bool) : s.SameGlove (s.glvCmdBusy b) :=
  (State.SameGlove.setF (r := .GLV_CMD) (f := F.GLV_CMD_STS) 1 (.inl rfl)).trans (.of_regs rfl rfl rfl)

theorem State.glvCmdBusy_sts (s : State) (b : Bool) (f : Nat × Nat) : (s.glvCmdBusy b).getB .GLV_STS f = s.getB .GLV_STS f :=
  congrArg (bit · f.2) (State.reg_setF_ne (s := s) (r := .GLV_CMD) (by decide))

/-- A park of one channel. -/
theorem State.glvCmdWrite_park_one {s : State} {c : Nat} {n : Nat} (hs : s.getF .GLV_CMD F.GLV_CMD_STS ≠ 1) (hc : c < 32768) (hn : n = 1) :
    s.glvCmdWrite (glvCmdWord 1 c n) = ((s.glvCmdNamed c 1).glvPark c 0x19).glvCmdBusy false := by
  subst hn
  obtain ⟨h1, h2, h3⟩ := glvCmdWord_fields 1 c 1 (by omega) hc (by omega)
  unfold State.glvCmdWrite
  rw [if_neg hs, h1, h2, h3]
  exact (if_neg (by decide)).trans ((if_neg (by omega)).trans (if_pos rfl))

/-- A release of one channel. -/
theorem State.glvCmdWrite_release_one {s : State} {c : Nat} {n : Nat} (hs : s.getF .GLV_CMD F.GLV_CMD_STS ≠ 1) (hc : c < 32768) (hn : n = 1) :
    s.glvCmdWrite (glvCmdWord 2 c n) =
      ((s.glvCmdNamed c 1).glvRelease c).1.glvCmdBusy ((if ((s.glvCmdNamed c 1).glvRelease c).2 = 2 then 1 else 0) != 0) := by
  subst hn
  obtain ⟨h1, h2, h3⟩ := glvCmdWord_fields 2 c 1 (by omega) hc (by omega)
  unfold State.glvCmdWrite
  rw [if_neg hs, h1, h2, h3]
  exact (if_neg (by decide)).trans ((if_neg (by omega)).trans (if_neg (by decide)))

/-! ## Reads of a word -/

/-- Where two words agree, a mix that takes another word in the bits in which they differ shows them. -/
theorem bit_mix {a b v : Word} {i : Nat} (h : bit a i = bit b i) : bit ((a &&& ~~~(a ^^^ b)) ||| (v &&& (a ^^^ b))) i = bit a i := by
  simp only [bit] at h ⊢
  have hi : b.getLsbD i = true → i < 36 := BitVec.lt_of_getLsbD
  simpa [h] using hi

/-- The two copies of a word as a read outside the boot march obtains them: W7 with the trip in it. -/
def State.glvCopiesRead (s : State) (c k : Nat) : Word × Word :=
  glvCopies (if k = 7 then (s.glvCompare c).1.ch c else s.ch c) (fun i => s.glvHeld && s.march.inst == i) k

/-- Copies that agree on a word of a readable entry give it. -/
theorem State.glvReadWord_agree {s : State} {c k : Nat} (hb : s.march.boot = false)
    (h : (s.glvCopiesRead c k).1 = (s.glvCopiesRead c k).2 ∧ (k = 7 ∨ (!(s.ch c).bad) = true)) :
    s.glvReadWord c k = ((s.glvCopiesRead c k).1, (s.glvCompare c).1) := by
  unfold State.glvReadWord
  simp only [hb, Bool.false_eq_true, if_false, Bool.false_or]
  exact if_pos h

/-- Otherwise a free value fills the bits in which the copies of W7 differ, or the whole of another word. -/
theorem State.glvReadWord_free {s : State} {c k : Nat} (hb : s.march.boot = false)
    (h : ¬ ((s.glvCopiesRead c k).1 = (s.glvCopiesRead c k).2 ∧ (k = 7 ∨ (!(s.ch c).bad) = true))) :
    s.glvReadWord c k =
      (let m : Word := if k = 7 then (s.glvCopiesRead c k).1 ^^^ (s.glvCopiesRead c k).2 else BitVec.allOnes 36
       (((s.glvCopiesRead c k).1 &&& ~~~m) ||| (BitVec.ofNat 36 (Config.freeNat (s.glvCompare c).1.fresh % 2 ^ 36) &&& m),
        { (s.glvCompare c).1 with fresh := (s.glvCompare c).1.fresh + 1 })) := by
  unfold State.glvReadWord
  simp only [hb, Bool.false_eq_true, if_false, Bool.false_or]
  exact if_neg h

/-- A read changes nothing but by the comparison, and may draw a free value. -/
theorem State.glvReadWord_sameGlove (s : State) (c k : Nat) (hb : s.march.boot = false) :
    (s.glvCompare c).1.SameGlove (s.glvReadWord c k).2 ∧ (s.glvReadWord c k).2.regs = (s.glvCompare c).1.regs := by
  by_cases h : (s.glvCopiesRead c k).1 = (s.glvCopiesRead c k).2 ∧ (k = 7 ∨ (!(s.ch c).bad) = true)
  · rw [State.glvReadWord_agree hb h]
    exact ⟨.refl _, rfl⟩
  · rw [State.glvReadWord_free hb h]
    exact ⟨.of_regs rfl rfl rfl, rfl⟩

/-- Without a march run the copies are those of the entry. -/
theorem State.glvCopiesRead_of_free {s : State} {c k : Nat} (h : s.glvHeld = false) (hk : k ≠ 7) :
    s.glvCopiesRead c k = ((s.ch c).g0.word k, (s.ch c).g1.word k) := by
  simp [State.glvCopiesRead, glvCopies, h, hk]

theorem State.glvCopiesRead_w7 {s : State} {c : Nat} (h : s.glvHeld = false) :
    s.glvCopiesRead c 7 = (((s.glvCompare c).1.ch c).g0.w7, ((s.glvCompare c).1.ch c).g1.w7) := by
  simp [State.glvCopiesRead, glvCopies, h, GlvEntry.word]

/-- Settles O37: the comparison of R132 trips the channel, and what the access would have done does not happen. -/
theorem gloveCopiesThatDisagreeTrip : Obligations.GloveCopiesThatDisagreeTrip := by
  intro s c x fails trips
  refine ⟨fun h => ?_, fun h => ⟨State.glvCompare_pass h, fun f => ?_, fun hb k => ?_⟩⟩
  · have hd := State.glvCompare_trips h
    have hfs : ∀ t, s.CopiesTripped t c → trips t := fun t ⟨h1, h2, h3, h4⟩ => ⟨h1, h2, h3, h4⟩
    refine ⟨?_, ?_, ?_, ?_, ?_, ?_, ?_, ?_, ?_, ?_⟩
    · intro e mode v
      rw [State.glvSetpoint_of_fails h]
      exact hfs _ hd
    · intro w0 w1 w2 w3
      rw [State.glvUpstream_of_fails h]
      exact hfs _ hd
    · intro k w
      split
      · next hb => simp [State.glvWindowWrite, hb]
      · next hb =>
        rw [State.glvWindowWrite_of_fails h (by simpa using hb)]
        exact hfs _ hd
    · intro f
      rw [State.glvUse_of_fails h]
      exact hfs _ hd
    · intro hb k
      obtain ⟨hg, hr⟩ := s.glvReadWord_sameGlove c k hb
      exact hfs _ (hd.congr (.refl _) hg ((State.getB_congr hr _ _).trans hd.cmpErr))
    · intro hb k hk r
      split
      · next hv =>
        obtain ⟨hw, hbad, hh⟩ := hv
        have hp := State.glvCopiesRead_of_free (c := c) hh (show k ≠ 7 by omega)
        have ha : (s.glvCopiesRead c k).1 = (s.glvCopiesRead c k).2 ∧ (k = 7 ∨ (!(s.ch c).bad) = true) := by
          rw [hp]
          exact ⟨hw, .inr (by simpa using hbad)⟩
        simp only [r, State.glvReadWord_agree hb ha, hp]
        rfl
      · next hv =>
        split
        · next hh =>
          have hp := State.glvCopiesRead_of_free (c := c) hh (show k ≠ 7 by omega)
          have ha : ¬ ((s.glvCopiesRead c k).1 = (s.glvCopiesRead c k).2 ∧ (k = 7 ∨ (!(s.ch c).bad) = true)) := by
            rw [hp]
            rintro ⟨hw, hbad⟩
            exact hv ⟨hw, by simpa [show k ≠ 7 by omega] using hbad, hh⟩
          simp only [r, State.glvReadWord_free hb ha, if_neg (show k ≠ 7 by omega)]
          exact ⟨_, (State.glvCompare_kept (kb := false) .refl).fresh, Nat.lt_succ_self _, by rw [BitVec.not_allOnes, BitVec.and_zero, BitVec.zero_or, BitVec.and_allOnes]⟩
        · exact trivial
    · intro hb hh r i h1 h2 he
      have hp := State.glvCopiesRead_w7 (c := c) hh
      by_cases ha : (s.glvCopiesRead c 7).1 = (s.glvCopiesRead c 7).2 ∧ (7 = 7 ∨ (!(s.ch c).bad) = true)
      · simp only [r, State.glvReadWord_agree hb ha, hp]
      · simp only [r, State.glvReadWord_free hb ha, hp, if_true] at he ⊢
        exact bit_mix he
    · intro k w hc hb
      refine ⟨_, congrArg Host.Outcome.next (State.glvTighten_of_fails h hb hc k w), ?_, ?_⟩
      · refine hfs _ (hd.congr (.refl _) (.setF 1 (.inr ⟨rfl, by decide⟩)) ?_)
        exact (State.getB_setB_same _ _ _ (by omega)).trans hd.cmpErr
      · exact State.getB_setB_self _ _ _ _ (by omega)
    · rintro b n rfl hn hs
      have hd' : (s.glvCmdNamed b 1).glvFails b := h
      have he := State.glvCmdWrite_release_one hs b.isLt hn
      rw [State.glvRelease_of_fails hd'] at he
      refine ⟨_, congrArg Host.Outcome.next he, ?_, ?_, rfl⟩
      · refine hfs _ ((State.glvCompare_trips hd').congr (s.glvCmdNamed_sameGlove _ _).symm
          (.trans (.setF 1 (.inr ⟨rfl, by decide⟩)) (State.glvCmdBusy_sameGlove _ _)) ?_)
        rw [State.glvCmdBusy_sts]
        exact (State.getB_setB_same _ _ _ (by omega)).trans (State.glvCompare_trips hd').cmpErr
      · rw [State.glvCmdBusy_sts]
        exact State.getB_setB_self _ _ _ _ (by omega)
    · rintro b n rfl hn hs
      have hd' : (s.glvCmdNamed b 1).glvFails b := h
      have he := State.glvCmdWrite_park_one hs b.isLt hn
      rw [State.glvPark, State.glvUse_of_fails hd'] at he
      refine ⟨_, congrArg Host.Outcome.next he, hfs _ ((State.glvCompare_trips hd').congr (s.glvCmdNamed_sameGlove _ _).symm
        (State.glvCmdBusy_sameGlove _ _) ?_)⟩
      rw [State.glvCmdBusy_sts]
      exact (State.glvCompare_trips hd').cmpErr
  · rw [State.glvUse, State.glvCompare_pass h]; rfl
  · obtain ⟨hw, hbad, hh⟩ := State.glvSound_of_not_fails h
    have hp : s.glvCopiesRead c k = (x.g0.word k, x.g0.word k) := by
      by_cases hk : k = 7
      · subst hk
        rw [State.glvCopiesRead_w7 hh, State.glvCompare_pass h, ← hw]
        rfl
      · rw [State.glvCopiesRead_of_free hh hk, ← hw]
    rw [State.glvReadWord_agree hb (by rw [hp]; exact ⟨rfl, .inr (by simpa using hbad)⟩), hp, State.glvCompare_pass h]

end Sys2Proof.Machine
end

section
/-! SUPPORT. Semaphores, and the engines that a mask names (R274, R287, R296). -/

namespace Sys2Proof.Machine

/-! ## Semaphores (R296) -/

/-- The two conditions that keep a write from a semaphore: a stall, but for the debug domain. -/
theorem State.portStill_iff (s : State) (m : Master) (k : Nat) : s.portStill m k = true ↔ s.stalled k = true ∧ m ≠ .debug := by
  simp [State.portStill]

theorem masterNum_lt (m : Master) : masterNum m < 256 := by
  cases m with
  | engine n ring => exact Nat.lt_trans n.isLt (by decide)
  | sve r => exact (by decide : 255 < 256)
  | debug => exact (by decide : 255 < 256)

/-- The word of a semaphore that a master has acquired. -/
def semTaken (w : Word) (n : Nat) : Word :=
  setFld (setBit (setFld w 11 10 1) 9 (fld w 11 10 == 2)) 7 0 n

theorem semTaken_fields (w : Word) (n : Nat) (h : n < 256) :
    fld (semTaken w n) 11 10 = 1 ∧ bit (semTaken w n) 9 = (fld w 11 10 == 2) ∧ fld (semTaken w n) 7 0 = n := by
  refine ⟨?_, ?_, ?_⟩
  · rw [semTaken, fld_setFld_ne (by omega), fld_setBit_ne (by omega), fld_setFld_self (by omega)]
    rfl
  · rw [semTaken, bit_setFld (by omega), if_neg (by omega), bit_setBit_self (by omega)]
  · rw [semTaken, fld_setFld_self (by omega)]
    exact Nat.mod_eq_of_lt h

theorem State.semAcquire_eq {s : State} {k c j : Nat} (m : Master) (h : s.getF (.SEC_SEM k c j) F.SEC_SEM_STATE ≠ 1) :
    s.semAcquire m k c j = (s.setReg (.SEC_SEM k c j) (semTaken (s.reg (.SEC_SEM k c j)) (masterNum m))).setSect k
      { s.sect k with dbgSems := SMap.set (fun _ => false) (s.sect k).dbgSems (64 * c + j) (m == .debug) } := by
  unfold State.semAcquire
  rw [if_neg h]
  simp only [State.setB, State.setF, State.reg_setReg, if_true, State.setReg_setReg, State.modSect_eq]
  rfl

/-- The master that may release a semaphore: its holder, or the SVE in ring 0. -/
def State.semReleasable (s : State) (m : Master) (k c j : Nat) : Prop :=
  m = .sve true ∨ (s.getF (.SEC_SEM k c j) F.SEC_SEM_STATE = 1 ∧ s.getF (.SEC_SEM k c j) F.SEC_SEM_OWNER = masterNum m ∧
    (s.sect k).dbgSem c j = decide (m = .debug))

theorem State.semRelease_of {s : State} {m : Master} {k c j : Nat} (h : s.semReleasable m k c j) :
    s.semRelease m k c j = s.setReg (.SEC_SEM k c j) (setBit (setFld (s.reg (.SEC_SEM k c j)) 11 10 0) 9 false) := by
  unfold State.semRelease
  rw [if_pos]
  · simp only [State.setB, State.setF, State.reg_setReg, if_true, State.setReg_setReg]
    rfl
  · rcases h with h | ⟨h1, h2, h3⟩
    · simp [h]
    · simp [h1, h2, h3, beq_eq_decide]

theorem State.semRelease_of_not {s : State} {m : Master} {k c j : Nat} (h : ¬ s.semReleasable m k c j) : s.semRelease m k c j = s := by
  unfold State.semRelease
  rw [if_neg]
  intro h'
  refine h ?_
  simp only [Bool.or_eq_true, Bool.and_eq_true, beq_iff_eq] at h'
  rcases h' with ⟨⟨h1, h2⟩, h3⟩ | h'
  · exact .inr ⟨h1, h2, by rw [h3, beq_eq_decide]⟩
  · exact .inl h'

/-! ## The engines that a mask names (R274, R287) -/

theorem mem_maskEngines {k : Nat} {w : Word} {n : Nat} :
    n ∈ maskEngines k w ↔ (n / 32 = k ∧ bit w (n % 32) = true) ∨ (n = 192 ∧ bit w 32 = true) := by
  simp only [maskEngines, List.mem_append, List.mem_map, List.mem_filter, List.mem_range]
  constructor
  · rintro (⟨i, ⟨hi, hb⟩, rfl⟩ | h)
    · exact .inl ⟨by omega, by rwa [show (k * 32 + i) % 32 = i by omega]⟩
    · split at h
      · next hb => exact .inr ⟨by simpa using h, hb⟩
      · simp at h
  · rintro (⟨rfl, hb⟩ | ⟨rfl, hb⟩)
    · exact .inl ⟨n % 32, ⟨by omega, hb⟩, by omega⟩
    · exact .inr (by simp [hb])

theorem nodup_maskEngines (k : Nat) (hk : k < 6) (w : Word) : (maskEngines k w).Nodup := by
  refine List.Nodup.append ?_ ?_ ?_
  · exact (List.nodup_range.filter _).map (fun a b h => by simpa using h)
  · split <;> simp
  · intro n hn hn'
    simp only [List.mem_map, List.mem_filter, List.mem_range] at hn
    obtain ⟨i, ⟨hi, -⟩, rfl⟩ := hn
    split at hn'
    · simp only [List.mem_singleton] at hn'
      omega
    · simp at hn'

/-- A change of every engine of a list without repetition. -/
theorem State.engine_foldl_modEngine (f : Nat → Engine → Engine) {l : List Nat} (hl : l.Nodup) (s : State) (n : Nat) :
    (l.foldl (fun st i => st.modEngine i (f i)) s).engine n = if n ∈ l then f n (s.engine n) else s.engine n := by
  induction l generalizing s with
  | nil => simp
  | cons i l ih =>
    obtain ⟨hi, hl⟩ := List.nodup_cons.mp hl
    rw [List.foldl_cons, ih hl]
    by_cases hn : n ∈ l
    · have : n ≠ i := fun e => hi (e ▸ hn)
      simp [hn, this]
    · by_cases e : n = i
      · subst e
        simp [hn]
      · simp [hn, e]

theorem State.foldl_modEngine_frame (f : Nat → Engine → Engine) (l : List Nat) (s : State) :
    { l.foldl (fun st i => st.modEngine i (f i)) s with eng := s.eng } = s := by
  induction l generalizing s with
  | nil => rfl
  | cons i l ih =>
    exact congrArg (fun u : State => { u with eng := s.eng }) (ih (s.modEngine i (f i)))

end Sys2Proof.Machine
end

section
/-! SUPPORT. Cluster DMA (R298 to R301): the status register, posts, starts, moves and ends of descriptors. Settles O45. -/

namespace Sys2Proof.Machine

/-! ## What the check of a descriptor looks at (R291 to R295, R299) -/

/-- s and t agree on what the protection rules look at: the engines, the regions, and which sections run. -/
structure State.SameRules (s t : State) : Prop where
  eng : t.eng = s.eng
  attr : ∀ o k, t.reg (.PRGN_ATTR o k) = s.reg (.PRGN_ATTR o k)
  base : ∀ o k, t.reg (.PRGN_BASE o k) = s.reg (.PRGN_BASE o k)
  state : ∀ k, t.reg (.SEC_STATE k) = s.reg (.SEC_STATE k)

section
variable {s t : State} (h : s.SameRules t)
include h

theorem State.SameRules.engine (n : Nat) : t.engine n = s.engine n := by simp [State.engine, h.eng]

theorem State.SameRules.running (k : Nat) : t.running k = s.running k := by
  simp only [State.running, State.sectState, State.getF, h.state]

theorem State.SameRules.region (e a : Nat) : t.region e a = s.region e a := by
  have hc : ∀ o k b, t.covers o k b = s.covers o k b := fun o k b => by simp only [State.covers, h.attr, h.base]
  simp only [State.region, hc, h.attr]

theorem State.SameRules.ringOk (e ring a : Nat) (write : Bool) (r : Rng) : t.ringOk e ring a write r = s.ringOk e ring a write r := by
  simp only [State.ringOk, h.region]

theorem State.SameRules.marked (e a : Nat) : t.marked e a = s.marked e a := by
  simp only [State.marked, h.engine, h.region]

theorem State.SameRules.schedCovered (e a : Nat) : t.schedCovered e a = s.schedCovered e a := by
  simp only [State.schedCovered, h.region]

theorem State.SameRules.dmaRangeOk (n ring a count : Nat) (write : Bool) :
    t.dmaRangeOk n ring a count write = s.dmaRangeOk n ring a count write := by
  simp only [State.dmaRangeOk, h.running, h.engine, h.marked, h.ringOk, h.schedCovered]

theorem State.SameRules.dmaBad (n : Nat) (d : Desc) : t.dmaBad n d = s.dmaBad n d := by
  simp only [State.dmaBad, h.dmaRangeOk]

end

/-- A context's table entry and status register are none of it. -/
theorem State.sameRules_dma (s : State) (n c x : Nat) (y : DmaCtx) (v : Word) : s.SameRules ((s.setDma n y).setReg (dmaSts c x) v) := by
  constructor
  · rfl
  all_goals intros; rw [State.reg_setReg, if_neg (by unfold dmaSts; exact nofun)]; rfl

/-! ## The status register -/

/-- The status register when a descriptor ends. -/
def dmaEndSts (w : Word) (free : Nat) (irq : Bool) : Word :=
  let v := setFld (setBit w 33 false) 32 30 free
  if irq then setBit v 35 true else v

theorem dmaEndSts_fields (w : Word) (free : Nat) (irq : Bool) (hf : free ≤ 4) :
    fld (dmaEndSts w free irq) 32 30 = free ∧ bit (dmaEndSts w free irq) 33 = false ∧ bit (dmaEndSts w free irq) 34 = bit w 34 ∧
      bit (dmaEndSts w free irq) 35 = (bit w 35 || irq) := by
  have hm : free % 2 ^ (32 + 1 - 30) = free := Nat.mod_eq_of_lt (by omega)
  cases irq <;> simp only [dmaEndSts, Bool.false_eq_true, if_false, if_true]
  · refine ⟨?_, ?_, ?_, ?_⟩
    · rw [fld_setFld_self (by omega), hm]
    · rw [bit_setFld (by omega), if_neg (by omega), bit_setBit_self (by omega)]
    · rw [bit_setFld (by omega), if_neg (by omega), bit_setBit (by omega), if_neg (by omega)]
    · rw [bit_setFld (by omega), if_neg (by omega), bit_setBit (by omega), if_neg (by omega), Bool.or_false]
  · refine ⟨?_, ?_, ?_, ?_⟩
    · rw [fld_setBit_ne (by omega), fld_setFld_self (by omega), hm]
    · rw [bit_setBit (by omega), if_neg (by omega), bit_setFld (by omega), if_neg (by omega), bit_setBit_self (by omega)]
    · rw [bit_setBit (by omega), if_neg (by omega), bit_setFld (by omega), if_neg (by omega), bit_setBit (by omega), if_neg (by omega)]
    · rw [bit_setBit_self (by omega), Bool.or_true]

/-- The word W3 of a descriptor that ends. -/
def dmaEndWord (code cnt : Nat) : Word := setFld (setFld (setBit 0 35 true) 34 32 code) 16 0 cnt

theorem dmaEndWord_fields (code cnt : Nat) (h1 : code < 8) (h2 : cnt < 2 ^ 17) :
    bit (dmaEndWord code cnt) 35 = true ∧ fld (dmaEndWord code cnt) 34 32 = code ∧ fld (dmaEndWord code cnt) 31 17 = 0 ∧
      fld (dmaEndWord code cnt) 16 0 = cnt := by
  unfold dmaEndWord
  refine ⟨?_, ?_, ?_, ?_⟩
  · rw [bit_setFld (by omega), if_neg (by omega), bit_setFld (by omega), if_neg (by omega), bit_setBit_self (by omega)]
  · rw [fld_setFld_ne (by omega), fld_setFld_self (by omega)]
    exact Nat.mod_eq_of_lt (by omega)
  · rw [fld_setFld_ne (by omega), fld_setFld_ne (by omega), fld_setBit_ne (by omega), fld_zero]
  · rw [fld_setFld_self (by omega)]
    exact Nat.mod_eq_of_lt (by omega)

/-! ## Ends (R300) -/

theorem State.dmaFree_eq (s : State) (c x : Nat) :
    s.dmaFree c x = s.setReg (dmaSts c x) (setFld (s.reg (dmaSts c x)) 32 30 (4 - (s.dmaCtx (4 * c + x)).queue.length)) := rfl

/-- BUSY clears, FREE follows the queue, and IRQ sets if the descriptor asks for it. -/
theorem State.dmaRelease_eq (u : State) (c x : Nat) (irq : Bool) :
    (if irq = true then ((u.setB (dmaSts c x) F.SEC_DMA_STS_BUSY false).dmaFree c x).setB (dmaSts c x) F.SEC_DMA_STS_IRQ true
      else (u.setB (dmaSts c x) F.SEC_DMA_STS_BUSY false).dmaFree c x) =
    u.setReg (dmaSts c x) (dmaEndSts (u.reg (dmaSts c x)) (4 - (u.dmaCtx (4 * c + x)).queue.length) irq) := by
  have hv : (u.setB (dmaSts c x) F.SEC_DMA_STS_BUSY false).dmaFree c x =
      u.setReg (dmaSts c x) (dmaEndSts (u.reg (dmaSts c x)) (4 - (u.dmaCtx (4 * c + x)).queue.length) false) := by
    rw [State.dmaFree_eq, State.reg_setB, if_pos rfl, State.setB, State.setF, State.setReg_setReg]
    rfl
  rw [hv]
  cases irq with
  | false => rfl
  | true =>
    rw [if_pos rfl, State.setB, State.setF, State.reg_setReg, if_pos rfl, State.setReg_setReg]
    rfl

/-- A descriptor that ends: W3 is written, the context is free, the status follows. -/
theorem State.dmaEnd_eq (s : State) (c x : Nat) (d : Desc) (code cnt : Nat) :
    s.dmaEnd c x d code cnt =
      ((s.setWord (spadBase (4 * c + x) + d.addr + 12) (dmaEndWord code cnt)).setDma (4 * c + x)
        { s.dmaCtx (4 * c + x) with running := none }).setReg (dmaSts c x)
        (dmaEndSts (s.reg (dmaSts c x)) (4 - (s.dmaCtx (4 * c + x)).queue.length) (bit d.w2 35)) := by
  have hd : (s.setWord (spadBase (4 * c + x) + d.addr + 12) (dmaEndWord code cnt)).dmaCtx (4 * c + x) = s.dmaCtx (4 * c + x) := by
    simp only [State.dmaCtx, State.setWord_dma]
  have hr := State.reg_setWord s (spadBase (4 * c + x) + d.addr + 12) (dmaEndWord code cnt) (dmaSts c x)
  refine (State.dmaRelease_eq ((s.setWord (spadBase (4 * c + x) + d.addr + 12) (dmaEndWord code cnt)).setDma (4 * c + x)
    { (s.setWord (spadBase (4 * c + x) + d.addr + 12) (dmaEndWord code cnt)).dmaCtx (4 * c + x) with running := none })
    c x (bit d.w2 35)).trans ?_
  rw [State.dmaCtx_setDma, if_pos rfl, hd]
  change State.setReg _ _ (dmaEndSts (State.reg (State.setWord _ _ _) _) _ _) = _
  rw [hr]

/-- Only a register and an entry of the section table change. -/
theorem State.onlyRegs_setReg_setSect (s : State) (r : Reg) (v : Word) (k : Nat) (y : Section) :
    s.onlyRegs { (s.setReg r v).setSect k y with sec := s.sec } (· = r) := by
  refine ⟨by simp only [State.setReg, State.setSect], fun r' h => ?_⟩
  simp only [State.reg, State.setReg, State.setSect]
  exact SMap.get_set_ne (Reg.key_ne h)

/-- Only a register changes. -/
theorem State.onlyRegs_setReg (s : State) (r : Reg) (v : Word) : s.onlyRegs (s.setReg r v) (· = r) := by
  exact ⟨rfl, fun r' h => (State.reg_setReg s r r' v).trans (if_neg h)⟩

/-- What the end of descriptor d leaves: `s0` has the context and the status before it, b the rest of the state. -/
structure State.DmaEnded (s0 b t : State) (c x : Nat) (d : Desc) (rest : List Desc) (code cnt : Nat) : Prop where
  only : ∃ w, (bit w 35 = true ∧ fld w 34 32 = code ∧ fld w 31 17 = 0 ∧ fld w 16 0 = cnt) ∧
    (b.setWord (spadBase (4 * c + x) + d.addr + 12) w).onlyRegs
      { t with dma := (b.setWord (spadBase (4 * c + x) + d.addr + 12) w).dma } (· = dmaSts c x)
  others : ∀ i, i ≠ 4 * c + x → t.dmaCtx i = s0.dmaCtx i
  ctx : t.dmaCtx (4 * c + x) = { queue := rest, running := none }
  free : t.getF (dmaSts c x) F.SEC_DMA_STS_FREE = 4 - (t.dmaCtx (4 * c + x)).queue.length
  busy : t.getB (dmaSts c x) F.SEC_DMA_STS_BUSY = false
  lost : t.getB (dmaSts c x) F.SEC_DMA_STS_LOST = s0.getB (dmaSts c x) F.SEC_DMA_STS_LOST
  irq : t.getB (dmaSts c x) F.SEC_DMA_STS_IRQ = true ↔ s0.getB (dmaSts c x) F.SEC_DMA_STS_IRQ = true ∨ bit d.w2 35 = true

/-- Only the context and its status register change. -/
theorem State.onlyRegs_setDma_setReg (b : State) (n : Nat) (y : DmaCtx) (r : Reg) (v : Word) :
    b.onlyRegs { (b.setDma n y).setReg r v with dma := b.dma } (· = r) := by
  refine ⟨by simp only [State.setReg, State.setDma], fun r' h => ?_⟩
  simp only [State.reg, State.setReg, State.setDma]
  exact SMap.get_set_ne (Reg.key_ne h)

/-- The state that the end of a descriptor leaves, by its parts. -/
theorem State.dmaEnded_of_parts {s0 b : State} {c x : Nat} {v : Word} (d : Desc) (rest : List Desc) {code cnt : Nat}
    (h1 : code < 8) (h2 : cnt < 2 ^ 17) (hb : b.dma = s0.dma)
    (hv : bit v 34 = bit (s0.reg (dmaSts c x)) 34 ∧ bit v 35 = bit (s0.reg (dmaSts c x)) 35) :
    s0.DmaEnded b (((b.setWord (spadBase (4 * c + x) + d.addr + 12) (dmaEndWord code cnt)).setDma (4 * c + x)
      { queue := rest, running := none }).setReg (dmaSts c x) (dmaEndSts v (4 - rest.length) (bit d.w2 35))) c x d rest code cnt := by
  obtain ⟨f1, f2, f3, f4⟩ := dmaEndSts_fields v (4 - rest.length) (bit d.w2 35) (by omega)
  constructor
  case only => exact ⟨_, dmaEndWord_fields code cnt h1 h2, State.onlyRegs_setDma_setReg _ _ _ _ _⟩
  case others =>
    intro i hi
    rw [State.dmaCtx_setReg, State.dmaCtx_setDma, if_neg hi]
    simp only [State.dmaCtx, State.setWord_dma, hb]
  case ctx => rw [State.dmaCtx_setReg, State.dmaCtx_setDma, if_pos rfl]
  case free =>
    rw [State.dmaCtx_setReg, State.dmaCtx_setDma, if_pos rfl, State.getF_setReg, if_pos rfl]
    exact f1
  case busy =>
    rw [State.getB_setReg, if_pos rfl]
    exact f2
  case lost =>
    rw [State.getB_setReg, if_pos rfl]
    exact f3.trans hv.1
  case irq =>
    rw [State.getB_setReg, if_pos rfl]
    change bit _ 35 = true ↔ bit _ 35 = true ∨ _
    rw [f4, hv.2, Bool.or_eq_true]

/-- A context and its status register set on a state b that has the contexts of s. -/
theorem State.dmaSet_facts {s b : State} {c x : Nat} (hb : b.dma = s.dma) {y : DmaCtx} {v : Word} (hv : fld v 32 30 = 4 - y.queue.length) :
    (b.onlyRegs { (b.setDma (4 * c + x) y).setReg (dmaSts c x) v with dma := b.dma } (· = dmaSts c x) ∧
      ∀ i, i ≠ 4 * c + x → ((b.setDma (4 * c + x) y).setReg (dmaSts c x) v).dmaCtx i = s.dmaCtx i) ∧
    ((b.setDma (4 * c + x) y).setReg (dmaSts c x) v).getF (dmaSts c x) F.SEC_DMA_STS_FREE =
      4 - (((b.setDma (4 * c + x) y).setReg (dmaSts c x) v).dmaCtx (4 * c + x)).queue.length ∧
    ((b.setDma (4 * c + x) y).setReg (dmaSts c x) v).dmaCtx (4 * c + x) = y := by
  have hc : ((b.setDma (4 * c + x) y).setReg (dmaSts c x) v).dmaCtx (4 * c + x) = y := by
    rw [State.dmaCtx_setReg, State.dmaCtx_setDma, if_pos rfl]
  refine ⟨⟨State.onlyRegs_setDma_setReg _ _ _ _ _, fun i hi => ?_⟩, ?_, hc⟩
  · rw [State.dmaCtx_setReg, State.dmaCtx_setDma, if_neg hi]
    simp only [State.dmaCtx, hb]
  · rw [hc, State.getF_setReg, if_pos rfl]
    exact hv

/-- A descriptor that ends at once as its context takes it. -/
theorem State.dmaEnd_taken (s : State) (c x : Nat) (d : Desc) (rest : List Desc) (r : Option Desc) {code : Nat} (h1 : code < 8) :
    s.DmaEnded s (((s.setDma (4 * c + x) { queue := rest, running := r }).dmaFree c x).dmaEnd c x d code 0) c x d rest code 0 := by
  have e : ((s.setDma (4 * c + x) { queue := rest, running := r }).dmaFree c x).dmaEnd c x d code 0 =
      ((s.setWord (spadBase (4 * c + x) + d.addr + 12) (dmaEndWord code 0)).setDma (4 * c + x) { queue := rest, running := none }).setReg
        (dmaSts c x) (dmaEndSts (setFld (s.reg (dmaSts c x)) 32 30 (4 - rest.length)) (4 - rest.length) (bit d.w2 35)) := by
    rw [State.dmaFree_eq, State.dmaEnd_eq, State.setWord_setReg, State.setWord_setDma]
    simp only [State.dmaCtx_setReg, State.dmaCtx_setDma, State.reg_setReg, if_true]
    rw [State.setDma_setReg, State.setDma_setDma, State.setReg_setReg]
    rfl
  rw [e]
  exact State.dmaEnded_of_parts d rest h1 (by omega) rfl
    ⟨by rw [bit_setFld (by omega), if_neg (by omega)], by rw [bit_setFld (by omega), if_neg (by omega)]⟩

/-! ## Moves (R299, R300) -/

/-- One word moves: a fill writes the word W0, a copy reads its source word. -/
def State.dmaMoveWord (n : Nat) (d : Desc) (st : State) (j : Nat) : State :=
  if bit d.w2 34 = true then st.setWord (canonOf n (d.w1.toNat + 4 * j)) d.w0
  else (st.softRead (canonOf n (d.w0.toNat + 4 * j)) (.unit (sectOf n))).setWord (canonOf n (d.w1.toNat + 4 * j))
    (st.word (canonOf n (d.w0.toNat + 4 * j)))

/-- Moving a word marks no word as uncorrectable. -/
theorem State.isBad_dmaMoveWord_le {st : State} {n : Nat} {d : Desc} {j a : Nat} (h : st.isBad a = false) :
    (st.dmaMoveWord n d j).isBad a = false := by
  unfold State.dmaMoveWord
  split
  · exact State.isBad_setWord_le h
  · exact State.isBad_setWord_le (by rwa [State.isBad_softRead])

/-- It leaves the mark of every word but the one written. -/
theorem State.isBad_dmaMoveWord_ne {st : State} {n : Nat} {d : Desc} {j a : Nat} (h : a / 4 ≠ canonOf n (d.w1.toNat + 4 * j) / 4) :
    (st.dmaMoveWord n d j).isBad a = st.isBad a := by
  unfold State.dmaMoveWord
  split
  · exact State.isBad_setWord_ne h
  · rw [State.isBad_setWord_ne h, State.isBad_softRead]

theorem State.dmaMoveWord_dma (st : State) (n : Nat) (d : Desc) (j : Nat) : (st.dmaMoveWord n d j).dma = st.dma := by
  unfold State.dmaMoveWord
  split
  · exact State.setWord_dma _ _ _
  · exact (State.setWord_dma _ _ _).trans (State.softRead_same _ _ _).dma

theorem State.dmaMoveWord_reg {r : Reg} (h : r.eccFree = true) (st : State) (n : Nat) (d : Desc) (j : Nat) :
    (st.dmaMoveWord n d j).reg r = st.reg r := by
  unfold State.dmaMoveWord
  split
  · exact State.reg_setWord _ _ _ _
  · exact (State.reg_setWord _ _ _ _).trans (State.softRead_reg h _ _ _)

/-- The words j to j + k - 1 have moved. -/
def State.dmaMoved (s : State) (n : Nat) (d : Desc) (j k : Nat) : State := (List.range' j k).foldl (State.dmaMoveWord n d) s

theorem State.dmaMoved_succ (s : State) (n : Nat) (d : Desc) (j k : Nat) :
    s.dmaMoved n d j (k + 1) = (s.dmaMoveWord n d j).dmaMoved n d (j + 1) k := rfl

theorem State.dmaMoved_dma (s : State) (n : Nat) (d : Desc) (j k : Nat) : (s.dmaMoved n d j k).dma = s.dma := by
  unfold State.dmaMoved
  induction k generalizing s j with
  | zero => rfl
  | succ k ih => exact (ih _ _).trans (s.dmaMoveWord_dma n d j)

theorem State.dmaMoved_reg {r : Reg} (h : r.eccFree = true) (s : State) (n : Nat) (d : Desc) (j k : Nat) :
    (s.dmaMoved n d j k).reg r = s.reg r := by
  unfold State.dmaMoved
  induction k generalizing s j with
  | zero => rfl
  | succ k ih => exact (ih _ _).trans (State.dmaMoveWord_reg h s n d j)

/-- A descriptor whose source words are readable, or that fills, moves every word. -/
theorem State.dmaMove_clean (n : Nat) (d : Desc) (k : Nat) : ∀ (s : State) (j : Nat),
    (bit d.w2 34 = true ∨ ∀ i, j ≤ i → i < j + k → s.isBad (canonOf n (d.w0.toNat + 4 * i)) = false) →
    s.dmaMove n d j k = (j + k, false, s.dmaMoved n d j k) := by
  induction k with
  | zero => exact fun _ _ _ => rfl
  | succ k ih =>
    intro s j h
    have hs : (s.dmaMoveWord n d j).dmaMove n d (j + 1) k = (j + (k + 1), false, s.dmaMoved n d j (k + 1)) := by
      rw [ih, show j + 1 + k = j + (k + 1) by omega]
      · rfl
      · exact h.imp_right fun h i h1 h2 => State.isBad_dmaMoveWord_le (h i (by omega) (by omega))
    rw [State.dmaMove]
    rcases h with h | h
    · rw [State.dmaMoveWord, if_pos h] at hs
      simp only [if_pos h, hs]
    · by_cases hf : bit d.w2 34 = true
      · rw [State.dmaMoveWord, if_pos hf] at hs
        simp only [if_pos hf, hs]
      · rw [State.dmaMoveWord, if_neg hf] at hs
        simp only [if_neg hf, h j (Nat.le_refl j) (by omega), Bool.false_eq_true, if_false, hs]

/-- A copy stops at the first uncorrectable source word. -/
theorem State.dmaMove_stops {n : Nat} {d : Desc} (hf : bit d.w2 34 = false) (k : Nat) : ∀ (s : State) (j m : Nat), m < k →
    s.isBad (canonOf n (d.w0.toNat + 4 * (j + m))) = true →
    (∀ i, j ≤ i → i < j + m → s.isBad (canonOf n (d.w0.toNat + 4 * i)) = false ∧
      canonOf n (d.w1.toNat + 4 * i) / 4 ≠ canonOf n (d.w0.toNat + 4 * (j + m)) / 4) →
    s.dmaMove n d j k = (j + m, true, (s.dmaMoved n d j m).eccUncorrectable (canonOf n (d.w0.toNat + 4 * (j + m)))) := by
  induction k with
  | zero => exact fun _ _ _ h => absurd h (Nat.not_lt_zero _)
  | succ k ih =>
    intro s j m hm hb h
    rw [State.dmaMove]
    simp only [hf, Bool.false_eq_true, if_false]
    cases m with
    | zero =>
      rw [Nat.add_zero] at hb
      rw [if_pos hb]
      rfl
    | succ m =>
      obtain ⟨h0, -⟩ := h j (Nat.le_refl j) (by omega)
      have hj : j + (m + 1) = j + 1 + m := by omega
      rw [hj] at hb h ⊢
      have hs := ih (s.dmaMoveWord n d j) (j + 1) m (by omega)
        (by rw [State.isBad_dmaMoveWord_ne (fun e => (h j (Nat.le_refl j) (by omega)).2 e.symm), hb])
        (fun i h1 h2 => ⟨State.isBad_dmaMoveWord_le (h i (by omega) (by omega)).1, (h i (by omega) (by omega)).2⟩)
      rw [if_neg (by rw [h0]; exact Bool.false_ne_true), State.dmaMoved_succ]
      rw [State.dmaMoveWord, if_neg (by rw [hf]; exact Bool.false_ne_true)] at hs ⊢
      exact hs

/-! ## The commands -/

/-- What keeps a context still: its engine's halt, a stall or the gate of its section. -/
theorem State.dmaHeld_iff (s : State) (n : Nat) :
    s.dmaHeld n = true ↔ (s.engine n).halted = true ∨ s.stalled (sectOf n) = true ∨ s.gated (sectOf n) = true := by
  simp [State.dmaHeld, or_assoc]

/-- A memory that the descriptor writes, or reads, belongs to a section that stands still. -/
theorem State.dmaStill_iff (s : State) (n : Nat) (d : Desc) :
    s.dmaStill n d = true ↔ (∃ i, (dmaMem n d.w1.toNat).bind MemId.sect = some i ∧ s.stalled i = true) ∨
      (bit d.w2 34 = false ∧ ∃ i, (dmaMem n d.w0.toNat).bind MemId.sect = some i ∧ s.stalled i = true) := by
  have hst : ∀ o : Option Nat, (match o with | some k => s.stalled k | none => false) = true ↔ ∃ i, o = some i ∧ s.stalled i = true := by
    intro o
    cases o <;> simp
  simp only [State.dmaStill, Bool.or_eq_true, Bool.and_eq_true, Bool.not_eq_true']
  exact or_congr (hst _) (and_congr_right fun _ => hst _)

theorem sectOf_dma (c : CluId) (x : Fin 4) : sectOf (4 * c.val + x.val) = c.val / 8 := by
  unfold sectOf
  omega

/-- A context that runs, has no descriptor or is held takes none. -/
theorem State.dmaStart_still {s : State} {c x : Nat}
    (h : (s.dmaCtx (4 * c + x)).running ≠ none ∨ (s.dmaCtx (4 * c + x)).queue = [] ∨ s.dmaHeld (4 * c + x) = true) :
    s.dmaStart c x = s := by
  unfold State.dmaStart
  extract_lets n ctx
  split
  · next d rest hr hq =>
    rcases h with h | h | h
    · exact absurd hr h
    · exact absurd (hq.symm.trans h) (List.cons_ne_nil _ _)
    · exact if_pos h
  · rfl

/-- The state once a context has taken its next descriptor. -/
def State.dmaTaken (s : State) (c x : Nat) (d : Desc) (rest : List Desc) : State :=
  (s.setDma (4 * c + x) { queue := rest, running := some d }).dmaFree c x

theorem State.dmaTaken_eq (s : State) (c x : Nat) (d : Desc) (rest : List Desc) :
    s.dmaTaken c x d rest = (s.setDma (4 * c + x) { queue := rest, running := some d }).setReg (dmaSts c x)
      (setFld (s.reg (dmaSts c x)) 32 30 (4 - rest.length)) := by
  rw [State.dmaTaken, State.dmaFree_eq, State.dmaCtx_setDma, if_pos rfl]
  rfl

/-- A context at rest takes its first descriptor: it ends at once, or runs. -/
theorem State.dmaStart_of {s : State} {c x : Nat} {d : Desc} {rest : List Desc} (hr : (s.dmaCtx (4 * c + x)).running = none)
    (hq : (s.dmaCtx (4 * c + x)).queue = d :: rest) (hh : ¬ s.dmaHeld (4 * c + x) = true) :
    s.dmaStart c x = if d.bad = true then (s.dmaTaken c x d rest).dmaEnd c x d 2 0
      else if s.dmaBad (4 * c + x) d = true then (s.dmaTaken c x d rest).dmaEnd c x d 1 0
      else (s.dmaTaken c x d rest).setB (dmaSts c x) F.SEC_DMA_STS_BUSY true := by
  have hb : (s.dmaTaken c x d rest).dmaBad (4 * c + x) d = s.dmaBad (4 * c + x) d := by
    rw [State.dmaTaken_eq]
    exact (s.sameRules_dma _ _ _ _ _).dmaBad _ _
  rw [← hb]
  unfold State.dmaStart
  simp only [hr, hq]
  exact if_neg hh

/-- A descriptor that is taken and passes its check runs. -/
theorem State.dmaRuns_eq (s : State) (c x : Nat) (d : Desc) (rest : List Desc) :
    (s.dmaTaken c x d rest).setB (dmaSts c x) F.SEC_DMA_STS_BUSY true =
      (s.setDma (4 * c + x) { queue := rest, running := some d }).setReg (dmaSts c x)
        (setBit (setFld (s.reg (dmaSts c x)) 32 30 (4 - rest.length)) 33 true) := by
  rw [State.dmaTaken_eq, State.setB, State.setF, State.reg_setReg, if_pos rfl, State.setReg_setReg]
  rfl

theorem State.dmaFinish_idle {s : State} {c x : Nat}
    (h : (s.dmaCtx (4 * c + x)).running = none ∨ s.dmaHeld (4 * c + x) = true) : s.dmaFinish c x [] = s := by
  change (match (s.dmaCtx (4 * c + x)).running with
    | none => s
    | some d => if (s.dmaHeld (4 * c + x) || s.dmaStill (4 * c + x) d) = true then s else _) = s
  split
  · rfl
  · next d hr =>
    rcases h with h | h
    · exact absurd (hr.symm.trans h) (Option.some_ne_none d)
    · rw [h, Bool.true_or, if_pos rfl]

theorem State.dmaFinish_still {s : State} {c x : Nat} {d : Desc} (hr : (s.dmaCtx (4 * c + x)).running = some d)
    (h : s.dmaStill (4 * c + x) d = true) : s.dmaFinish c x [] = s := by
  unfold State.dmaFinish
  simp only [State.upset, List.foldl_nil, hr, h, Bool.or_true, if_true]

/-- The running descriptor ends as its words have moved. -/
theorem State.dmaFinish_of {s : State} {c x : Nat} {d : Desc} {j : Nat} {err : Bool} {u : State}
    (hr : (s.dmaCtx (4 * c + x)).running = some d) (hh : ¬ s.dmaHeld (4 * c + x) = true) (hs : ¬ s.dmaStill (4 * c + x) d = true)
    (hm : s.dmaMove (4 * c + x) d 0 (fld d.w2 16 0) = (j, err, u)) :
    s.dmaFinish c x [] = u.dmaEnd c x d (if err = true then 2 else 0) j := by
  unfold State.dmaFinish
  simp only [State.upset, List.foldl_nil, hr, hh, hs, Bool.or_self, Bool.false_eq_true, if_false, hm]

/-- The running descriptor ends on a state that differs from s in words moved and an error found. -/
theorem State.dmaEnd_running {s u : State} {c x : Nat} (d : Desc) {code cnt : Nat} (h1 : code < 8) (h2 : cnt < 2 ^ 17)
    (hd : u.dma = s.dma) (hr : u.reg (dmaSts c x) = s.reg (dmaSts c x)) :
    s.DmaEnded u (u.dmaEnd c x d code cnt) c x d (s.dmaCtx (4 * c + x)).queue code cnt := by
  have hc : u.dmaCtx (4 * c + x) = s.dmaCtx (4 * c + x) := by simp only [State.dmaCtx, hd]
  rw [State.dmaEnd_eq, hc]
  exact State.dmaEnded_of_parts d _ h1 h2 hd ⟨by rw [hr], by rw [hr]⟩

/-! ## Posts (R298) -/

/-- The master that may post to the context: its own engine. -/
def dmaOwner (m : Master) (n : Nat) : Prop := ∃ (k : Fin 192) (r : Fin 4), m = .engine k r ∧ k.val = n

theorem State.dmaPost_ignored {s : State} {m : Master} {c x : Nat} (w : Word)
    (h : ¬ dmaOwner m (4 * c + x) ∨ s.stalled (sectOf (4 * c + x)) = true) : s.dmaPost m c x w = s := by
  cases m with
  | debug => rfl
  | sve r => rfl
  | engine k ring =>
    refine if_pos (h.imp_left fun h' e => h' ⟨k, ring, rfl, e⟩)

theorem State.dmaPost_full {s : State} {k : Fin 192} {ring : Fin 4} {c x : Nat} (w : Word) (hk : k.val = 4 * c + x)
    (hs : s.stalled (sectOf (4 * c + x)) = false) (hq : 4 ≤ (s.dmaCtx (4 * c + x)).queue.length) :
    s.dmaPost (.engine k ring) c x w = s.setReg (dmaSts c x) (setBit (s.reg (dmaSts c x)) 34 true) := by
  refine (if_neg ?_).trans (if_pos hq)
  rw [hs]
  simp [hk]

/-- The descriptor that a post copies from the scratchpad of engine n. -/
def State.dmaPosted (s : State) (n ring : Nat) (w : Word) (bad : Bool) : Desc :=
  { w0 := s.word (spadBase n + fld w 15 0 / 16 * 16), w1 := s.word (spadBase n + fld w 15 0 / 16 * 16 + 4),
    w2 := s.word (spadBase n + fld w 15 0 / 16 * 16 + 8), addr := fld w 15 0 / 16 * 16, ring := ring, bad := bad }

/-- The first uncorrectable one of the words that a post copies. -/
def State.dmaPostBad (s : State) (n : Nat) (w : Word) : Option Nat :=
  (List.range 3).find? (fun k => s.isBad (spadBase n + fld w 15 0 / 16 * 16 + 4 * k))

/-- The state once the words of a post have been read. -/
def State.dmaPostRead (s : State) (n : Nat) (w : Word) : State :=
  match s.dmaPostBad n w with
  | some k => s.eccUncorrectable (spadBase n + fld w 15 0 / 16 * 16 + 4 * k)
  | none => s.softReads (spadBase n + fld w 15 0 / 16 * 16) 12 (.unit (sectOf n))

theorem State.dmaPostRead_dma (s : State) (n : Nat) (w : Word) : (s.dmaPostRead n w).dma = s.dma := by
  unfold State.dmaPostRead
  split
  · exact (s.eccUncorrectable_same _).dma
  · exact (s.softReads_same _ _ _).dma

/-- A context with room takes the descriptor. -/
theorem State.dmaPost_taken {s : State} {k : Fin 192} {ring : Fin 4} {c x : Nat} (w : Word) (hk : k.val = 4 * c + x)
    (hs : s.stalled (sectOf (4 * c + x)) = false) (hq : (s.dmaCtx (4 * c + x)).queue.length < 4) :
    s.dmaPost (.engine k ring) c x w = ((s.dmaPostRead (4 * c + x) w).setDma (4 * c + x) { s.dmaCtx (4 * c + x) with
      queue := (s.dmaCtx (4 * c + x)).queue ++ [s.dmaPosted (4 * c + x) ring w (s.dmaPostBad (4 * c + x) w).isSome] }).dmaFree c x := by
  refine (if_neg ?_).trans (if_neg (by omega))
  rw [hs]
  simp [hk]

theorem State.dmaPostBad_none {s : State} {n : Nat} {w : Word}
    (h : ∀ j, j < 3 → s.isBad (spadBase n + fld w 15 0 / 16 * 16 + 4 * j) = false) : s.dmaPostBad n w = none := by
  refine List.find?_eq_none.mpr fun j hj => ?_
  rw [h j (List.mem_range.mp hj)]
  exact Bool.false_ne_true

theorem State.dmaPostBad_some {s : State} {n j : Nat} {w : Word} (hj : j < 3)
    (hb : s.isBad (spadBase n + fld w 15 0 / 16 * 16 + 4 * j) = true)
    (h : ∀ i, i < j → s.isBad (spadBase n + fld w 15 0 / 16 * 16 + 4 * i) = false) : s.dmaPostBad n w = some j :=
  List.find?_range_eq_some.mpr ⟨hb, List.mem_range.mpr hj, fun i hi => by rw [h i hi]; rfl⟩

/-- Settles O45: semaphores by their state and holder, masks engine by engine, descriptors by the register of their context. -/
theorem semaphoresCachesDoorbellsAndDma : Obligations.SemaphoresCachesDoorbellsAndDma := by
  refine ⟨fun m k c j s => ?_, fun k w s => ?_, fun c x s => ?_⟩
  · intro r own still
    have hown : own = masterNum m := by cases m <;> rfl
    have hst : s.portStill m k = true ↔ still := s.portStill_iff m k
    refine ⟨?_, ?_, ?_⟩
    · rintro h
      change Host.Outcome.next (if s.portStill m k = true then s else s.semAcquire m k c j) = _
      rcases h with h | h
      · rw [if_pos (hst.mpr h)]
      · rw [State.semAcquire, if_pos h, ite_self]
    · intro h1 h2
      obtain ⟨f1, f2, f3⟩ := semTaken_fields (s.reg r) (masterNum m) (masterNum_lt m)
      have he : exec (.semAcquire m k c j) s = .next ((s.setReg r (semTaken (s.reg r) (masterNum m))).setSect k
          { s.sect k with dbgSems := SMap.set (fun _ => false) (s.sect k).dbgSems (64 * c.val + j.val) (m == .debug) }) := by
        change Host.Outcome.next (if s.portStill m k = true then s else s.semAcquire m k c j) = _
        rw [if_neg (fun h => h1 (hst.mp h)), State.semAcquire_eq m h2]
      refine ⟨_, he, State.onlyRegs_setReg_setSect _ _ _ _ _, ?_, fun i => ?_, ?_, ?_, ?_⟩
      · rw [State.getF_setSect, State.getF_setReg, if_pos rfl]
        exact f1
      · rw [State.sect_setSect, State.sect_setReg]
        split
        · next h => rw [h]
        · rfl
      · rw [State.sect_setSect, if_pos rfl]
        exact SMap.get_set_self.trans (beq_eq_decide _ _)
      · rw [hown, State.getF_setSect, State.getF_setReg, if_pos rfl]
        exact f3
      · rw [State.getB_setSect, State.getB_setReg, if_pos rfl]
        change bit _ 9 = true ↔ _
        rw [f2, beq_iff_eq]
        rfl
    · intro may
      have hmay : s.semReleasable m k c j ↔ may := by simp only [State.semReleasable, may, hown, r]
      refine ⟨fun h => ?_, fun h1 h2 => ?_⟩
      · change Host.Outcome.next (if s.portStill m k = true then s else s.semRelease m k c j) = _
        rcases h with h | h
        · rw [if_pos (hst.mpr h)]
        · rw [State.semRelease_of_not (fun h' => h (hmay.mp h')), ite_self]
      · have he : exec (.semRelease m k c j) s = .next (s.setReg r (setBit (setFld (s.reg r) 11 10 0) 9 false)) := by
          change Host.Outcome.next (if s.portStill m k = true then s else s.semRelease m k c j) = _
          rw [if_neg (fun h => h1 (hst.mp h)), State.semRelease_of (hmay.mpr h2)]
        refine ⟨_, he, State.onlyRegs_setReg _ _ _, ?_, ?_, ?_⟩
        · rw [State.getF_setReg, if_pos rfl]
          exact (fld_setBit_ne (hi := 11) (lo := 10) (by omega)).trans (fld_setFld_self (by omega))
        · rw [State.getB_setReg, if_pos rfl]
          exact bit_setBit_self (by omega)
        · rw [State.getF_setReg, if_pos rfl]
          exact (fld_setBit_ne (hi := 7) (lo := 0) (by omega)).trans (fld_setFld_ne (by omega))
  · intro named
    have hm : ∀ n, n ∈ maskEngines k w ↔ named n := fun n => mem_maskEngines
    have hn := nodup_maskEngines k k.isLt w
    refine ⟨⟨_, rfl, State.foldl_modEngine_frame _ _ _, fun n => ?_⟩, ⟨_, rfl, State.foldl_modEngine_frame _ _ _, fun n => ?_⟩⟩
    · refine ⟨fun h => ?_, fun h => ?_⟩
      · exact (State.engine_foldl_modEngine _ hn s n).trans (if_pos ((hm n).mpr h))
      · exact (State.engine_foldl_modEngine _ hn s n).trans (if_neg fun h' => h ((hm n).mp h'))
    · refine ⟨fun h => ?_, fun h => ?_⟩
      · exact (State.engine_foldl_modEngine _ hn s n).trans (if_pos ((hm n).mpr h))
      · exact (State.engine_foldl_modEngine _ hn s n).trans (if_neg fun h' => h ((hm n).mp h'))
  · intro n sts ctx only free ended
    have hsec : sectOf n = c.val / 8 := sectOf_dma c x
    have hended : ∀ b t d rest code cnt, s.DmaEnded b t c x d rest code cnt → ended b t d rest code cnt := by
      rintro b t d rest code cnt ⟨⟨w, ⟨w1, w2, w3, w4⟩, ho⟩, h1, h2, h3, h4, h5, h6⟩
      exact ⟨w, w1, w2, w3, w4, ⟨ho, h1⟩, h2, h3, h4, h5, h6⟩
    refine ⟨fun m w => ?_, ?_⟩
    · intro own ring a ca put
      rw [← hsec]
      have htake : ∀ bad, own → s.stalled (sectOf n) = false → ctx.queue.length < 4 → (s.dmaPostBad n w).isSome = bad →
          ∃ t, exec (.dmaPost m c x w) s = .next t ∧ put (s.dmaPostRead n w) t bad := by
        rintro bad ⟨k, r, rfl, hk⟩ hs hq rfl
        refine ⟨_, congrArg Host.Outcome.next (State.dmaPost_taken w hk hs hq), ?_⟩
        rw [State.dmaFree_eq, State.dmaCtx_setDma, if_pos rfl]
        obtain ⟨h1, h2, h3⟩ := State.dmaSet_facts (c := c) (x := x) (s.dmaPostRead_dma n w) (y := { ctx with
          queue := ctx.queue ++ [s.dmaPosted n r w (s.dmaPostBad n w).isSome] })
          (v := setFld (((s.dmaPostRead n w).setDma n { ctx with
            queue := ctx.queue ++ [s.dmaPosted n r w (s.dmaPostBad n w).isSome] }).reg (dmaSts c x)) 32 30
            (4 - (ctx.queue ++ [s.dmaPosted n r w (s.dmaPostBad n w).isSome]).length))
          ((fld_setFld_self (by omega)).trans (Nat.mod_eq_of_lt (by omega)))
        exact ⟨h1, h2, h3⟩
      refine ⟨fun h => ?_, ?_, ?_, ?_⟩
      · exact congrArg Host.Outcome.next (State.dmaPost_ignored w h)
      · rintro hs ⟨k, r, rfl, hk⟩ hq
        refine ⟨_, congrArg Host.Outcome.next (State.dmaPost_full w hk hs hq), State.onlyRegs_setReg _ _ _, ?_⟩
        exact (State.getB_setReg _ _ _ _ _).trans ((if_pos rfl).trans (bit_setBit_self (by omega)))
      · intro hs ho hq hb
        have hb' := State.dmaPostBad_none hb
        have := htake false ho hs hq (by rw [hb']; rfl)
        rwa [State.dmaPostRead, hb'] at this
      · intro hs ho hq j hj hb h
        have hb' := State.dmaPostBad_some hj hb h
        have := htake true ho hs hq (by rw [hb']; rfl)
        rwa [State.dmaPostRead, hb'] at this
    · intro held
      have hh : s.dmaHeld n = true ↔ held := by rw [State.dmaHeld_iff, hsec]
      refine ⟨?_, ?_, ?_, ?_, ?_⟩
      · intro h
        exact congrArg Host.Outcome.next (State.dmaStart_still (by rw [hh]; exact h))
      · intro d rest hr hq hn
        have hs := State.dmaStart_of hr hq (by rw [hh]; exact hn)
        have hnot : ∀ {p : Bool}, p = false → ¬ p = true := fun h => by rw [h]; exact Bool.false_ne_true
        refine ⟨_, rfl, fun hb => ?_, fun hb hbad => ?_, fun hb hbad => ?_⟩
        · rw [hs.trans (if_pos hb)]
          exact hended _ _ _ _ _ _ (State.dmaEnd_taken s c x d rest (some d) (by omega))
        · rw [hs.trans ((if_neg (hnot hb)).trans (if_pos hbad))]
          exact hended _ _ _ _ _ _ (State.dmaEnd_taken s c x d rest (some d) (by omega))
        · rw [hs.trans ((if_neg (hnot hb)).trans (if_neg (hnot hbad))), State.dmaRuns_eq]
          have hv : fld (setBit (setFld (s.reg (dmaSts c x)) 32 30 (4 - rest.length)) 33 true) 32 30 = 4 - rest.length := by
            rw [fld_setBit_ne (by omega), fld_setFld_self (by omega)]
            exact Nat.mod_eq_of_lt (by omega)
          obtain ⟨f1, f2, f3⟩ := State.dmaSet_facts (s := s) (c := c) (x := x) rfl (y := { queue := rest, running := some d }) hv
          exact ⟨f1, f2, f3, (State.getB_setReg _ _ _ _ _).trans ((if_pos rfl).trans (bit_setBit_self (by omega)))⟩
      · exact fun ups => rfl
      · intro h
        exact congrArg Host.Outcome.next (State.dmaFinish_idle (by rw [hh]; exact h))
      · intro standing
        have hsi : ∀ d : Desc, s.dmaStill n d = true ↔ standing d.w1 ∨ (bit d.w2 34 = false ∧ standing d.w0) :=
          fun d => State.dmaStill_iff s n d
        refine ⟨fun d hr h => ?_, fun d hr h1 h2 h3 => ?_⟩
        · exact congrArg Host.Outcome.next (State.dmaFinish_still hr ((hsi d).mpr h))
        · intro count fill src dst moved
          have hfin := fun {j err u} => State.dmaFinish_of (c := c) (x := x) (j := j) (err := err) (u := u) hr (by rw [hh]; exact h1)
            (fun h => ((hsi d).mp h).elim h2 (fun h' => h3 h'.1 h'.2))
          have hcount : count < 2 ^ 17 := fld_lt _ _ _
          have hmoved : ∀ k, moved s k = s.dmaMoved n d 0 k := by
            intro k
            simp only [moved, State.dmaMoved, ← List.range_eq_range', ← hsec]
            rfl
          have hdma : ∀ k, (s.dmaMoved n d 0 k).dma = s.dma := fun k => s.dmaMoved_dma n d 0 k
          have hreg : ∀ k, (s.dmaMoved n d 0 k).reg (dmaSts c x) = s.reg (dmaSts c x) := fun k => State.dmaMoved_reg rfl s n d 0 k
          refine ⟨fun h => ?_, fun hf k hk hb h => ?_⟩
          · have hm := State.dmaMove_clean n d count s 0 (h.imp_right fun h i _ hi => h i (by omega))
            refine ⟨_, congrArg Host.Outcome.next (hfin hm), ?_⟩
            rw [hmoved, Nat.zero_add]
            exact hended _ _ _ _ _ _ (State.dmaEnd_running d (by decide) hcount (hdma _) (hreg _))
          · have hm := State.dmaMove_stops hf count s 0 k hk (by rwa [Nat.zero_add])
              (fun i _ hi => by rw [Nat.zero_add] at hi ⊢; exact h i hi)
            refine ⟨_, congrArg Host.Outcome.next (hfin hm), ?_⟩
            rw [hmoved, Nat.zero_add]
            exact hended _ _ _ _ _ _ (State.dmaEnd_running d (by decide) (by omega)
              ((State.eccUncorrectable_same _ _).dma.trans (hdma k)) ((State.eccUncorrectable_reg rfl _ _).trans (hreg k)))

end Sys2Proof.Machine
end

section
/-! SUPPORT. What an access in flight, a corrected read and a word written change of an engine, and the place of an access (R161, R212 to R216, R288). -/

namespace Sys2Proof.Machine

/-! ## The end of a row that starts an operation without result ports -/

theorem State.opRow_plain_self (t : State) (e u lat : Nat) : t.opRow e u (.plain t lat) = t.withEngineAfter e (t.engine e) := by
  simp [State.opRow, OpOut.plain, Engine.land, State.withEngineAfter, State.modEngine]

/-- Such a row leaves the state that its operation made, whichever state it started from. -/
theorem State.opRow_plain_any (s t : State) (e u lat : Nat) : s.opRow e u (.plain t lat) = t.withEngineAfter e (t.engine e) :=
  t.opRow_plain_self e u lat

/-- An engine written and then ended is that engine ended, while its cycle stands. -/
theorem State.withEngineAfter_setEngine (s : State) (e : Nat) {y : Engine} (h : y.cyc = (s.engine e).cyc) :
    (s.setEngine e y).withEngineAfter e ((s.setEngine e y).engine e) = s.withEngineAfter e y := by
  simp [State.withEngineAfter, State.setEngine_setEngine, h]

/-! ## The place of a new access in flight -/

/-- An access joins those in flight of its unit. -/
def Engine.join (x : Engine) (u : Nat) (l : Load) : Engine :=
  { x.setLoads u (x.loadsOf u ++ [l]) with seqNo := x.seqNo + 1 }

theorem Engine.loadsOf_join (x : Engine) (u : Fin 2) (l : Load) :
    (x.join u l).loadsOf u = x.loadsOf u ++ [l] ∧ (x.join u l).loadsOf (1 - u) = x.loadsOf (1 - u) := by
  fin_cases u <;> exact ⟨rfl, rfl⟩

/-- It changes the accesses in flight and the program order alone. -/
theorem Engine.join_frame (x : Engine) (u : Nat) (l : Load) :
    x.join u l = { x with loads0 := (x.join u l).loads0, loads1 := (x.join u l).loads1, seqNo := x.seqNo + 1 } := by
  unfold Engine.join Engine.setLoads
  split <;> rfl

/-- An access whose data is known makes no engine wait for its store buffer. -/
theorem Engine.loadHeld_join (x : Engine) (u : Nat) {l : Load} (h : l.fwd.isNone = false) : (x.join u l).loadHeld = x.loadHeld := by
  unfold Engine.join Engine.setLoads Engine.loadsOf Engine.loadHeld
  split <;> simp [h, Bool.or_comm]

theorem Engine.loadHeld_csr (x : Engine) (c : SMap Word) : Engine.loadHeld { x with csr := c } = x.loadHeld := rfl

theorem State.loadIssue_known (s : State) (e u : Nat) {l : Load} (h : l.fwd.isNone = false) :
    s.loadIssue e u l = s.setEngine e ((s.engine e).join u { l with xq := 0 }) := by
  have hj := Engine.loadHeld_join (s.engine e) u (l := { l with xq := 0 }) h
  unfold State.loadIssue
  rw [h]
  change (if (!(s.engine e).loadHeld && ((s.engine e).join u { l with xq := 0 }).loadHeld) = true then _ else _) = _
  rw [hj]
  simp [Engine.join]

theorem State.loadIssue_unknown (s : State) (e u : Nat) {l : Load} (h : l.fwd.isNone = true) :
    s.loadIssue e u l =
      let p := s.crossOut e l.addr
      let y := (s.engine e).join u { l with xq := p.1 }
      if !(s.engine e).loadHeld && y.loadHeld then (p.2.setEngine e y).waitBegin e else p.2.setEngine e y := by
  unfold State.loadIssue
  rw [h]
  rfl

/-! ## A wait that begins -/

theorem State.sectStall_eng (s : State) (k c d : Nat) : (s.sectStall k c d).eng = s.eng := by
  simp only [State.sectStall]
  split <;> rfl

theorem State.sectStall_setEngine (s : State) (e : Nat) (y : Engine) (k c d : Nat) :
    (s.setEngine e y).sectStall k c d = (s.sectStall k c d).setEngine e y := by
  simp only [State.sectStall, State.sect_setEngine]
  rw [apply_ite (State.setEngine · e y)]
  rfl

/-- The control and status registers of an engine after a stall of d cycles: STATUS bit 11, and counter 0x144 unless it is halted. -/
def csrStalled (e d : Nat) (halted : Bool) (csr : SMap Word) : SMap Word :=
  let c := SMap.set (csrReset e) csr 0x001 (setBit (SMap.get (csrReset e) csr 0x001) 11 true)
  if halted then c else SMap.set (csrReset e) c 0x144 (BitVec.ofNat 36 (satAdd (SMap.get (csrReset e) c 0x144).toNat d (2 ^ 36 - 1)))

/-- An engine that has counted a stall of d cycles. -/
def Engine.stallCounted (x : Engine) (e d : Nat) : Engine := { x with csr := csrStalled e d x.halted x.csr }

theorem Engine.stallCounted_eq (x : Engine) (e d : Nat) :
    x.stallCounted e d = (x.setCsrW e 0x001 (setBit (x.csrW e 0x001) 11 true)).countCsr e 0x144 d := by
  unfold Engine.stallCounted csrStalled Engine.countCsr
  change _ = if x.halted = true then _ else _
  split <;> rfl

theorem State.countStall_eq (s : State) (e d : Nat) :
    s.countStall e d = ((s.modSect (sectOf e) (fun k => { k with sched := true })).sectStall (sectOf e) (s.engine e).cyc d).setEngine e
      ((s.engine e).stallCounted e d) := by
  rw [Engine.stallCounted_eq]
  exact State.sectStall_setEngine (s.modSect (sectOf e) (fun k => { k with sched := true })) e _ _ _ _

theorem State.modSect_setEngine (s : State) (e : Nat) (y : Engine) (k : Nat) (f : Section → Section) :
    (s.setEngine e y).modSect k f = (s.modSect k f).setEngine e y := rfl

theorem Engine.stallCounted_join (x : Engine) (e d u : Nat) (l : Load) :
    (x.join u l).stallCounted e d = (x.stallCounted e d).join u l := by
  unfold Engine.join Engine.setLoads Engine.loadsOf Engine.stallCounted
  split <;> rfl

theorem State.engine_countStall (s : State) (e d : Nat) : (s.countStall e d).engine e = (s.engine e).stallCounted e d := by
  rw [State.countStall_eq, State.engine_setEngine, if_pos rfl]

theorem State.countStall_join (s : State) (e d u : Nat) (l : Load) :
    (s.setEngine e ((s.engine e).join u l)).countStall e d = (s.countStall e d).setEngine e (((s.countStall e d).engine e).join u l) := by
  have hcyc : ((s.engine e).join u l).cyc = (s.engine e).cyc := by
    rw [Engine.join_frame]
  rw [State.engine_countStall, State.countStall_eq, State.countStall_eq, State.engine_setEngine, if_pos rfl, hcyc, Engine.stallCounted_join,
    State.setEngine_setEngine, State.modSect_setEngine, State.sectStall_setEngine, State.setEngine_setEngine]

/-- A wait that begins changes an engine's control and status registers alone. -/
theorem State.waitBegin_engine (s : State) (e : Nat) : ∃ c, (s.waitBegin e).engine e = { s.engine e with csr := c } := by
  unfold State.waitBegin
  split
  · exact ⟨_, rfl⟩
  · exact ⟨_, (State.engine_countStall _ _ _).trans rfl⟩

/-- A wait begins alike before and after an access has joined. -/
theorem State.waitBegin_join (s : State) (e u : Nat) (l : Load) :
    (s.setEngine e ((s.engine e).join u l)).waitBegin e = (s.waitBegin e).setEngine e (((s.waitBegin e).engine e).join u l) := by
  have hperf : ((s.engine e).join u l).perf e = (s.engine e).perf e := by
    rw [Engine.join_frame]
    rfl
  unfold State.waitBegin
  rw [State.engine_setEngine, if_pos rfl, hperf]
  split
  · rfl
  · exact State.countStall_join (s.drawNat 18).2 e ((s.drawNat 18).1 + 1) u l

/-! ## What a corrected read and a word written change of an engine -/

/-- A corrected read of an engine counts in its own control and status registers alone. -/
theorem State.softRead_engine (s : State) (ca n m : Nat) :
    ∃ c, (s.softRead ca (.engine n)).engine m = { s.engine m with csr := c } := by
  have hcount (t : State) : ∃ c, (t.modEngine n (fun x => x.countCsr n 0x145 1)).engine m = { t.engine m with csr := c } := by
    rw [State.modEngine, State.engine_setEngine]
    split
    case isTrue h =>
      subst h
      unfold Engine.countCsr
      split <;> exact ⟨_, rfl⟩
    · exact ⟨_, rfl⟩
  unfold State.softRead State.eccCorrected State.eccCount
  split
  · extract_lets u v
    obtain ⟨c, hc⟩ := hcount u
    have hu : u.engine m = s.engine m := by
      simp only [u]
      split <;> rfl
    rw [hu] at hc
    refine ⟨c, Eq.trans ?_ hc⟩
    dsimp only
    split
    · rw [State.engine, State.sectStall_eng]
      rfl
    · rfl
  · exact ⟨_, rfl⟩

/-- A word written takes at most the reservation of an engine. -/
theorem State.setWord_engine (s : State) (ca : Nat) (w : Word) (m : Nat) : ∃ r, (s.setWord ca w).engine m = { s.engine m with resv := r } := by
  unfold State.setWord
  split
  · exact ⟨_, rfl⟩
  · unfold State.clearResv State.engine
    rw [SMap.get_update (by rfl)]
    dsimp only
    split <;> exact ⟨_, rfl⟩

theorem State.word_softRead (s : State) (ca : Nat) (rd : Reader) (a : Nat) : (s.softRead ca rd).word a = s.word a := by
  have h := s.softRead_same ca rd
  rw [State.word, State.word, State.memHeld_congr h.march, h.mem, h.undef]

/-- The lines that a store drops from an I-cache are those that hold one of its bytes. -/
theorem Engine.icache_iDrop (x : Engine) (ca n k : Nat) (l : CacheLine) :
    SMap.get (fun _ => none) (x.iDrop ca n).icache k = some l ↔
      SMap.get (fun _ => none) x.icache k = some l ∧ overlaps l.base 32 ca n = false := by
  unfold Engine.iDrop
  rw [SMap.get_update (by rfl), Option.filter_eq_some_iff]
  simp

end Sys2Proof.Machine
end

section
/-! PROOF. The atomic triggers (R161, R212 to R216): O16. -/

namespace Sys2Proof.Machine

/-! ## The refusals -/

theorem atomicOp_notOffered {kind u : Nat} {s : State} {e : Nat} {a : Word} (h : s.atomicOffered e kind = false) :
    atomicOp kind u s e a = .trap (.code 0x01 0) := by
  rw [atomicOp, h]
  rfl

theorem atomicOp_outside {kind u : Nat} {s : State} {e : Nat} {a : Word} (h : s.atomicOffered e kind = true)
    (ha : atomicRange e a.toNat = false) : atomicOp kind u s e a = .trap (.code 0x03 a) := by
  rw [atomicOp, h, ha]
  rfl

/-- The refusal of the bytes of an atomic: tas reads and writes, lr reads, sc writes. -/
def State.atomicRefused (s : State) (e kind : Nat) (a : Word) : Option (Nat × Word) :=
  (if kind = 3 then none else s.accessRefused e a.toNat 4 false).or (if kind = 2 then none else s.accessRefused e a.toNat 4 true)

theorem atomicOp_refused {kind u : Nat} {s : State} {e : Nat} {a : Word} {c : Nat} {ea : Word} (h : s.atomicOffered e kind = true)
    (ha : atomicRange e a.toNat = true) (hr : s.atomicRefused e kind a = some (c, ea)) :
    atomicOp kind u s e a = .trap (.code c ea) := by
  unfold State.atomicRefused at hr
  rw [atomicOp, h, ha, hr]
  rfl

/-- The access of an atomic as it is triggered. -/
def State.atomicLoad (s : State) (e u kind : Nat) (a : Word) : Load :=
  let x := s.engine e
  { addr := canonOf e a.toNat, iss := a.toNat, size := 4, signed := false, kind := kind, data := x.port (0x180 + 0x40 * u), fwd := none,
    miss := false, trig := x.cyc, pc := x.pc, seq := x.seqNo, ring := x.ring.toNat, hit := false, part1 := none }

theorem atomicOp_accepted {kind u : Nat} {s : State} {e : Nat} {a : Word} (h : s.atomicOffered e kind = true)
    (ha : atomicRange e a.toNat = true) (hr : s.atomicRefused e kind a = none) :
    atomicOp kind u s e a =
      let p := s.atomicStart e kind (canonOf e a.toNat) ((s.engine e).port (0x180 + 0x40 * u)) (s.atomicLoad e u kind a)
      .plain (p.2.loadIssue e u p.1) 2 := by
  unfold State.atomicRefused at hr
  rw [atomicOp, h, ha, hr]
  rfl

/-- tas is offered where the section's ATOMIC bit is 0, lr and sc where it is 1; the SVE has all three. -/
theorem atomicOffered_eq_false {s : State} {e : EngId} {kind need : Nat} (hn : need = if kind = 1 then 0 else 1) :
    s.atomicOffered e kind = false ↔ e.val ≠ 192 ∧ s.getF (.SEC_CFG (e / 32)) F.SEC_CFG_ATOMIC ≠ need := by
  subst hn
  simp [State.atomicOffered, sectOf]

/-! ## The access at the target -/

/-- Performing an atomic answers `answer` and leaves the state `after`, but that the engine's own I-cache has lost the lines that hold the
word where it `stores`. -/
structure State.AtomicPerforms (s : State) (e kind ca : Nat) (data answer : Word) (after : State) (stores : Prop) : Prop where
  answer : (s.atomicPerform e kind ca data).1 = answer
  others : ∀ y, (s.atomicPerform e kind ca data).2.setEngine e y = after.setEngine e y
  dropped : stores → (s.atomicPerform e kind ca data).2.engine e = (after.engine e).iDrop ca 4
  kept : ¬ stores → (s.atomicPerform e kind ca data).2.engine e = after.engine e
  own : ∃ r, after.engine e = { s.engine e with resv := r }

/-- The store of an atomic is the word written, with the lines of the own I-cache that hold it gone. -/
theorem State.atomicStore_engine (s : State) (e ca : Nat) (w : Word) :
    (s.atomicStore e ca w).engine e = ((s.setWord ca w).engine e).iDrop ca 4 := by
  rw [State.atomicStore, State.modEngine, State.engine_setEngine, if_pos rfl]

theorem State.atomicStore_setEngine (s : State) (e ca : Nat) (w : Word) (y : Engine) :
    (s.atomicStore e ca w).setEngine e y = (s.setWord ca w).setEngine e y := State.setEngine_setEngine _ _ _ _

theorem State.tas_performs (s : State) (e ca : Nat) (o : Word) :
    s.AtomicPerforms e 1 ca o (s.word ca) (if s.word ca = 0 then s.setWord ca o else s) (s.word ca = 0) := by
  by_cases h : s.word ca = 0
  · have hp : s.atomicPerform e 1 ca o = (s.word ca, s.atomicStore e ca o) := congrArg (Prod.mk _) (if_pos h)
    rw [if_pos h]
    refine ⟨by rw [hp], fun y => ?_, fun _ => ?_, fun hn => absurd h hn, s.setWord_engine ca o e⟩
    · rw [hp, State.atomicStore_setEngine]
    · rw [hp, State.atomicStore_engine]
  · have hp : s.atomicPerform e 1 ca o = (s.word ca, s) := congrArg (Prod.mk _) (if_neg h)
    rw [if_neg h]
    exact ⟨by rw [hp], fun y => by rw [hp], fun hs => absurd hs h, fun _ => by rw [hp], _, rfl⟩

theorem State.lr_performs (s : State) (e ca : Nat) (o : Word) :
    s.AtomicPerforms e 2 ca o (s.word ca) (s.modEngine e (fun x => { x with resv := some (ca / 4) })) False :=
  ⟨rfl, fun _ => rfl, False.elim, fun _ => rfl, some (ca / 4), by rw [State.modEngine, State.engine_setEngine, if_pos rfl]⟩

theorem State.sc_performs (s : State) (e ca : Nat) (o : Word) :
    let free := s.modEngine e (fun x => { x with resv := none })
    s.AtomicPerforms e 3 ca o (if (s.engine e).resv = some (ca / 4) then 0 else 1)
      (if (s.engine e).resv = some (ca / 4) then free.setWord ca o else free) ((s.engine e).resv = some (ca / 4)) := by
  intro free
  have hfree : free.engine e = { s.engine e with resv := none } := (State.engine_setEngine _ _ _ _).trans (if_pos rfl)
  by_cases h : (s.engine e).resv = some (ca / 4)
  · have hp : s.atomicPerform e 3 ca o = (0, free.atomicStore e ca o) := if_pos h
    obtain ⟨r, hr⟩ := free.setWord_engine ca o e
    rw [if_pos h, if_pos h]
    refine ⟨by rw [hp], fun y => ?_, fun _ => ?_, fun hn => absurd h hn, r, by rw [hr, hfree]⟩
    · rw [hp, State.atomicStore_setEngine]
    · rw [hp, State.atomicStore_engine]
  · have hp : s.atomicPerform e 3 ca o = (1, free) := if_neg h
    rw [if_neg h, if_neg h]
    exact ⟨by rw [hp], fun y => by rw [hp], fun hs => absurd hs h, fun _ => by rw [hp], none, hfree⟩

/-! ## The engine after its access has joined those in flight -/

/-- y is engine x after access l has joined those in flight of unit u and, where `drops`, its I-cache has lost the lines that hold the word at
ca; in every other part it is z. -/
structure Engine.Joined (x z y : Engine) (u : Fin 2) (l : Load) (ca : Nat) (drops : Prop) : Prop where
  own : y.loadsOf u = x.loadsOf u ++ [l]
  other : y.loadsOf (1 - u) = x.loadsOf (1 - u)
  order : y.seqNo = x.seqNo + 1
  lines : ∀ k c, SMap.get (fun _ => none) y.icache k = some c ↔
    SMap.get (fun _ => none) x.icache k = some c ∧ ¬ (drops ∧ overlaps c.base 32 ca 4 = true)
  rest : { y with loads0 := x.loads0, loads1 := x.loads1, seqNo := x.seqNo, spadAcc := x.spadAcc, icache := x.icache } = z

section
variable {x z : Engine} (hz : ∃ c r, z = { x with csr := c, resv := r })
include hz

theorem Engine.joined_join (u : Fin 2) (l : Load) (ca : Nat) : x.Joined z (z.join u l) u l ca False := by
  obtain ⟨c, r, rfl⟩ := hz
  obtain ⟨hown, hother⟩ := Engine.loadsOf_join { x with csr := c, resv := r } u l
  refine ⟨hown, hother, rfl, fun k d => ?_, ?_⟩
  · rw [Engine.join_frame]
    simp
  · rw [Engine.join_frame]

theorem Engine.joined_iDrop_join (u : Fin 2) (l : Load) (ca : Nat) : x.Joined z ((z.iDrop ca 4).join u l) u l ca True := by
  obtain ⟨c, r, rfl⟩ := hz
  obtain ⟨hown, hother⟩ := Engine.loadsOf_join (Engine.iDrop { x with csr := c, resv := r } ca 4) u l
  refine ⟨hown, hother, rfl, fun k d => ?_, ?_⟩
  · rw [Engine.join_frame]
    refine (Engine.icache_iDrop _ _ _ _ _).trans ?_
    simp
  · rw [Engine.join_frame]
    rfl

end

theorem Engine.join_cyc (x : Engine) (u : Nat) (l : Load) : (x.join u l).cyc = x.cyc := by
  rw [Engine.join_frame]

/-- The bytes of a word, lowest first. -/
def wordBytes (w : Word) : List Byte9 := [byteOf w 0, byteOf w 1, byteOf w 2, byteOf w 3]

/-! ## An atomic performed at once -/

theorem State.atomicStart_performs {s : State} {e kind ca : Nat} {o : Word} {l : Load}
    (h : (!s.olderStore e l && !s.isBad ca && !s.portHeld e ca) = true) :
    s.atomicStart e kind ca o l =
      let t := (s.softRead ca (.engine e)).atomicPerform e kind ca o
      ({ l with fwd := some (wordBytes t.1) }, t.2) := by
  rw [State.atomicStart, if_pos h]
  rfl

theorem State.atomicStart_waits {s : State} {e kind ca : Nat} {o : Word} {l : Load}
    (h : (!s.olderStore e l && !s.isBad ca && !s.portHeld e ca) = false) : s.atomicStart e kind ca o l = (l, s) := by
  rw [State.atomicStart, h]
  rfl

/-- An access whose atomic is performed joins with its answer as data; the row leaves the state after the atomic. -/
theorem State.opRow_performed {s after : State} {e kind ca lat : Nat} {v : Nat} {u : Fin 2} {o answer : Word} {l : Load} {stores : Prop}
    (h : (!s.olderStore e l && !s.isBad ca && !s.portHeld e ca) = true)
    (hp : (s.softRead ca (.engine e)).AtomicPerforms e kind ca o answer after stores) :
    ∃ y, s.opRow e v (let p := s.atomicStart e kind ca o l; .plain (p.2.loadIssue e u p.1) lat) = after.withEngineAfter e y ∧
      (s.engine e).Joined (after.engine e) y u { l with fwd := some (wordBytes answer), xq := 0 } ca stores := by
  generalize hl : ({ l with fwd := some (wordBytes answer), xq := 0 } : Load) = l'
  obtain ⟨hans, hothers, hdropped, hkept, r, hown⟩ := hp
  obtain ⟨c, hc⟩ := s.softRead_engine ca e e
  have hz : ∃ c r, after.engine e = { s.engine e with csr := c, resv := r } := ⟨c, r, by rw [hown, hc]⟩
  have hrow : s.opRow e v (let p := s.atomicStart e kind ca o l; .plain (p.2.loadIssue e u p.1) lat) =
      (after.setEngine e ((((s.softRead ca (.engine e)).atomicPerform e kind ca o).2.engine e).join u l')).withEngineAfter e
        ((((s.softRead ca (.engine e)).atomicPerform e kind ca o).2.engine e).join u l') := by
    rw [State.atomicStart_performs h]
    dsimp only
    rw [State.opRow_plain_any, State.loadIssue_known _ _ _ (by rfl), hothers, hans, State.engine_setEngine, if_pos rfl, ← hl]
  by_cases hs : stores
  · refine ⟨((after.engine e).iDrop ca 4).join u l', ?_, ?_⟩
    · rw [hrow, hdropped hs]
      have := after.withEngineAfter_setEngine e (y := ((after.engine e).iDrop ca 4).join u l') (Engine.join_cyc _ _ _)
      rwa [State.engine_setEngine, if_pos rfl] at this
    · have := Engine.joined_iDrop_join hz u l' ca
      rwa [← eq_true hs] at this
  · refine ⟨(after.engine e).join u l', ?_, ?_⟩
    · rw [hrow, hkept hs]
      have := after.withEngineAfter_setEngine e (y := (after.engine e).join u l') (Engine.join_cyc _ _ _)
      rwa [State.engine_setEngine, if_pos rfl] at this
    · have := Engine.joined_join hz u l' ca
      rwa [← eq_false hs] at this

/-! ## An atomic that waits -/

theorem State.engine_crossOut (s : State) (e ca n : Nat) : (s.crossOut e ca).2.engine n = s.engine n := by
  unfold State.crossOut
  split <;> rfl

/-- A wait begins with an access that waits where the engine had none that the store buffer holds and has one now. -/
theorem State.opRow_waits {s : State} {e kind ca lat : Nat} {v : Nat} {u : Fin 2} {o : Word} {l : Load}
    (h : (!s.olderStore e l && !s.isBad ca && !s.portHeld e ca) = false) (hl : l.fwd = none) (hca : l.addr = ca) :
    ∃ y : Engine,
      let s1 := (s.crossOut e ca).2
      let s' := if (s.engine e).loadHeld = false ∧ y.loadHeld = true then s1.waitBegin e else s1
      s.opRow e v (let p := s.atomicStart e kind ca o l; .plain (p.2.loadIssue e u p.1) lat) = s'.withEngineAfter e y ∧
      (s.engine e).Joined (s'.engine e) y u { l with xq := (s.crossOut e ca).1 } ca False := by
  subst hca
  generalize hs1 : (s.crossOut e l.addr).2 = s1
  generalize hl' : ({ l with xq := (s.crossOut e l.addr).1 } : Load) = l'
  have hx : s.engine e = s1.engine e := by
    rw [← hs1, State.engine_crossOut]
  have hrow : s.opRow e v (let p := s.atomicStart e kind l.addr o l; .plain (p.2.loadIssue e u p.1) lat) =
      s.opRow e v (.plain (if (!(s1.engine e).loadHeld && ((s1.engine e).join u l').loadHeld) = true
        then (s1.setEngine e ((s1.engine e).join u l')).waitBegin e else s1.setEngine e ((s1.engine e).join u l')) lat) := by
    rw [State.atomicStart_waits h]
    dsimp only
    rw [State.loadIssue_unknown _ _ _ (by rw [hl]; rfl), ← hx, ← hs1, ← hl']
  rw [hrow, hx]
  by_cases hw : (s1.engine e).loadHeld = false ∧ ((s1.engine e).join u l').loadHeld = true
  · obtain ⟨c, hc⟩ := s1.waitBegin_engine e
    have hheld : ((s1.waitBegin e).engine e |>.join u l').loadHeld = ((s1.engine e).join u l').loadHeld := by
      rw [hc]
      unfold Engine.join Engine.setLoads Engine.loadHeld
      split <;> rfl
    refine ⟨((s1.waitBegin e).engine e).join u l', ?_⟩
    rw [hheld]
    dsimp only
    rw [if_pos hw, if_pos (by rw [hw.1, hw.2]; rfl), State.opRow_plain_any, State.waitBegin_join]
    exact ⟨State.withEngineAfter_setEngine _ _ (Engine.join_cyc _ _ _), Engine.joined_join ⟨c, _, hc⟩ u l' l.addr⟩
  · refine ⟨(s1.engine e).join u l', ?_⟩
    dsimp only
    rw [if_neg hw, if_neg (by simpa using hw), State.opRow_plain_any]
    exact ⟨State.withEngineAfter_setEngine _ _ (Engine.join_cyc _ _ _), Engine.joined_join ⟨_, _, rfl⟩ u l' l.addr⟩

/-! ## The obligation -/

/-- Settles O16: an atomic is refused, performed at once with its answer as the data of its access, or its access waits. -/
theorem atomicsActOnTheirWordAtOnce : Obligations.AtomicsActOnTheirWordAtOnce := by
  unfold Obligations.AtomicsActOnTheirWordAtOnce
  intro e u a s x o ca w older waits cross s1 acts reads writes s0 free
  have hacts (c : Instr) (kind need : Nat) (refusal : Option (Nat × Word)) (answer : Word) (after : State) (stores : Prop)
      (hrow : exec c s = .next (s.opRow e (lsuUnit u) (atomicOp kind u s e a))) (hneed : need = if kind = 1 then 0 else 1)
      (hrefusal : s.atomicRefused e kind a = refusal) (hp : s0.AtomicPerforms e kind ca o answer after stores) :
      acts c kind need refusal answer after stores := by
    have hw : (!s.olderStore e (s.atomicLoad e u kind a) && !s.isBad ca && !s.portHeld e ca) = !waits := by
      have hold : s.olderStore e (s.atomicLoad e u kind a) =
          ((x.sb ++ x.sbWait).any (fun b => older b.seq b.addr b.bytes) || x.outStores.any (fun o => older o.seq o.addr o.bytes) ||
            (decide (e.val < 192) && (s.sect (e / 32)).posts.any (fun p => decide (p.eng = e) && older p.seq p.addr p.bytes))) := by
        simp only [State.olderStore, older, ← Bool.and_assoc]
        rfl
      rw [hold]
      simp only [waits, Bool.not_or]
    simp only [acts]
    by_cases hoff : s.atomicOffered e kind = false
    · rw [if_pos ((atomicOffered_eq_false hneed).mp hoff), hrow, atomicOp_notOffered hoff]
      rfl
    · rw [if_neg (fun h => hoff ((atomicOffered_eq_false hneed).mpr h))]
      replace hoff : s.atomicOffered e kind = true := by simpa using hoff
      by_cases hrange : atomicRange e a.toNat = false
      · rw [if_pos hrange, hrow, atomicOp_outside hoff hrange]
        rfl
      · rw [if_neg hrange]
        replace hrange : atomicRange e a.toNat = true := by simpa using hrange
        match refusal, hrefusal with
        | some (code, ea), hrefusal =>
          rw [hrow, atomicOp_refused hoff hrange hrefusal]
          rfl
        | none, hrefusal =>
          rw [hrow, atomicOp_accepted hoff hrange hrefusal]
          by_cases hwt : waits = true
          · have hcross : cross = crossSect e ca := if_pos hwt
            have hout : s1 = (s.crossOut e ca).2 ∧ (match (generalizing := false) cross with | some m => (s.sect m).xqNo | none => 0) = (s.crossOut e ca).1 := by
              simp only [s1, hcross, State.crossOut]
              cases crossSect e ca <;> exact ⟨rfl, rfl⟩
            obtain ⟨y, hy, hj⟩ := State.opRow_waits (v := lsuUnit u) (lat := 2) (u := u) (kind := kind) (o := o) (hw.trans (by rw [hwt]; rfl))
              (l := s.atomicLoad e u kind a) rfl rfl
            rw [← hout.1] at hy hj
            refine ⟨{ s.atomicLoad e u kind a with xq := (s.crossOut e ca).1 }, rfl, rfl, rfl, rfl, rfl, rfl, rfl, rfl, rfl, rfl,
              (if_pos hwt).symm, rfl, rfl, rfl, rfl, hout.2.symm, y, ?_⟩
            rw [if_pos hwt]
            refine ⟨congrArg Host.Outcome.next hy, hj.own, hj.other, hj.order, fun k d => (hj.lines k d).trans (and_congr_right' ?_), hj.rest⟩
            simp [hwt]
          · have hcross : cross = none := if_neg hwt
            have hno : waits = false := by simpa using hwt
            obtain ⟨y, hy, hj⟩ := State.opRow_performed (v := lsuUnit u) (lat := 2) (u := u) (l := s.atomicLoad e u kind a)
              (hw.trans (by rw [hno]; rfl)) hp
            refine ⟨{ s.atomicLoad e u kind a with fwd := some (wordBytes answer), xq := 0 }, rfl, rfl, rfl, rfl, rfl, rfl, rfl, rfl, rfl, rfl,
              (if_neg hwt).symm, rfl, rfl, rfl, rfl, by rw [hcross], y, ?_⟩
            rw [if_neg hwt]
            refine ⟨congrArg Host.Outcome.next hy, hj.own, hj.other, hj.order, fun k d => (hj.lines k d).trans (and_congr_right' ?_), hj.rest⟩
            simp [hno]
  have hresv : x.resv = (s0.engine e).resv := by
    obtain ⟨c, hc⟩ := s.softRead_engine ca e e
    exact (congrArg Engine.resv hc).symm
  have hw : s0.word ca = w := s.word_softRead ca _ ca
  refine ⟨hacts _ 1 0 _ _ _ _ rfl rfl rfl ?_, hacts _ 2 1 _ _ _ _ rfl rfl Option.or_none ?_,
    hacts _ 3 1 _ _ _ _ rfl rfl Option.none_or ?_⟩
  · rw [← hw]
    exact s0.tas_performs e ca o
  · rw [← hw]
    exact s0.lr_performs e ca o
  · rw [hresv]
    exact s0.sc_performs e ca o

end Sys2Proof.Machine
end

section
/-! PROOF. Stores under way, posts and the write-back of a corrected word (R18, R150, R162, R306 to R314, R288): O20. -/

namespace Sys2Proof.Machine

/-! ## Addresses of memory, and the bytes of a word -/

/-- Every memory address below 2^36 leads to memory for every master. -/
theorem globalLoc_of_mem {a : Nat} (hm : memOf a ≠ none) (h : a < 2 ^ 36) : globalLoc a = some (.mem a) := by
  have hout (hlo : 0x0C0000000 ≤ a) (hhi : a < 0x0C1100000) : memOf a = none := by
    have hw : windowOf a = none := if_neg (by omega)
    rw [memOf, hw]
    simp only
    rw [if_neg (by omega), if_neg (by omega), if_neg (by omega), if_neg (by omega)]
  unfold globalLoc
  rw [if_neg (fun hr => hm (hout hr.1 (by omega))), if_neg (fun hr => hm (hout (by omega) hr.2)), if_pos h]
  cases hmem : memOf a with
  | none => exact absurd hmem hm
  | some m => rfl

/-- A device address lies in the register space. -/
theorem lt_of_globalLoc_dev {a b : Nat} (h : globalLoc a = some (.dev b)) : a < 2 ^ 36 := by
  unfold globalLoc at h
  split at h
  · omega
  · split at h
    · cases h
    · split at h
      · assumption
      · cases h

/-- Bit i of a word lies in its byte i / 9. -/
theorem bit_setByteOf {w : Word} {j i : Nat} {b : Byte9} (h : i < 36) :
    bit (setByteOf w j b) i = if i / 9 = j then b.getLsbD (i % 9) else bit w i := by
  rw [setByteOf, bit_setFld h]
  by_cases hj : i / 9 = j
  · have hm : i - 9 * j = i % 9 := by omega
    rw [if_pos hj, if_pos (by omega), hm]
    rfl
  · rw [if_neg hj, if_neg (by omega)]

theorem getLsbD_byteOf {w : Word} {j k : Nat} (h : k < 9) : (byteOf w j).getLsbD k = bit w (9 * j + k) := by
  rw [byteOf, BitVec.getLsbD_extractLsb', decide_eq_true h, Bool.true_and]
  rfl

theorem wordOfBytes_byteOf (w : Word) : wordOfBytes [byteOf w 0, byteOf w 1, byteOf w 2, byteOf w 3] = w := by
  apply BitVec.eq_of_getLsbD_eq
  intro i hi
  change bit (setByteOf (setByteOf (setByteOf (setByteOf 0 0 (byteOf w 0)) 1 (byteOf w 1)) 2 (byteOf w 2)) 3 (byteOf w 3)) i = bit w i
  have hb (j : Nat) (hj : i / 9 = j) : (byteOf w j).getLsbD (i % 9) = bit w i := by
    rw [getLsbD_byteOf (Nat.mod_lt _ (by decide)), ← hj, Nat.div_add_mod]
  have hlt : i / 9 < 4 := by omega
  simp only [bit_setByteOf hi]
  split
  · exact hb 3 ‹_›
  · split
    · exact hb 2 ‹_›
    · split
      · exact hb 1 ‹_›
      · rw [if_pos (by omega), hb 0 (by omega)]

/-! ## A store under way -/

theorem State.performStore_mem {s : State} {e ring a : Nat} {bs : List Byte9} (hm : memOf a ≠ none) (h : a < 2 ^ 36) :
    s.performStore e ring a bs = s.storeBytes a bs := by
  rw [State.performStore, State.writeCanon, globalLoc_of_mem hm h]

theorem State.performStore_dev {s : State} {e ring a : Nat} {w : Word} (h : globalLoc a = some (.dev a)) :
    s.performStore e ring a [byteOf w 0, byteOf w 1, byteOf w 2, byteOf w 3] = s.regWrite (masterOf e ring) a w := by
  rw [State.performStore, State.writeCanon, h]
  exact congrArg (s.regWrite (masterOf e ring) a) (wordOfBytes_byteOf w)

/-- Some entry before place i of a list. -/
theorem any_take_iff {α : Type} {l : List α} {i : Nat} {p : α → Bool} :
    (l.take i).any p = true ↔ ∃ j < i, ∃ x, l[j]? = some x ∧ p x = true := by
  simp only [List.any_eq_true, List.mem_take_iff_getElem, List.getElem?_eq_some_iff]
  constructor
  · rintro ⟨x, ⟨j, hj, rfl⟩, hp⟩
    exact ⟨j, by omega, _, ⟨by omega, rfl⟩, hp⟩
  · rintro ⟨j, hj, x, ⟨hl, rfl⟩, hp⟩
    exact ⟨_, ⟨j, by omega, rfl⟩, hp⟩

/-- Store o of engine e to the word of o waits: for an older one that shares a byte, or for the end of a stall that does not await it. -/
theorem State.portStalled_iff {s : State} {e : Nat} {ca : Nat} {f : Engine → Bool} :
    s.portStalled e ca f = true ↔ ∃ m, portSect ca = some m ∧ s.stalled m = true ∧
      ¬ (e < 192 ∧ m = sectOf e ∧ s.engStalls e = true ∧ f (s.engine e) = true) := by
  unfold State.portStalled State.portHeld State.advances State.engStalled
  cases h : portSect ca with
  | none => simp
  | some k =>
    by_cases hk : k = sectOf e
    · subst hk
      by_cases he : e < 192
      · cases hs : s.stalled (sectOf e)
        · simp [he, hs]
        · simp [he, hs]
          grind
      · simp [he]
    · simp [hk]

/-- Store i under way is performed once no older one shares a byte with it and its port is not held. -/
theorem State.outDone_eq {s : State} {e i : Nat} {o : OutStore} (h : (s.engine e).outStores[i]? = some o) :
    s.outDone e i o.cross = if (∃ j < i, ∃ p, (s.engine e).outStores[j]? = some p ∧ overlaps p.addr p.bytes.length o.addr o.bytes.length = true) ∨
        s.portStalled e o.addr (fun y => y.awaitsStore o.seq o.addr o.bytes.length) = true then none
      else some ((s.setEngine e { s.engine e with outStores := (s.engine e).outStores.eraseIdx i }).performStore e o.ring o.addr o.bytes) := by
  rw [State.outDone, h]
  simp only [bne_self_eq_false, Bool.false_or, Bool.or_eq_true, any_take_iff]

/-! ## The latency of a cross-section store -/

theorem State.crossMeasure_off {s : State} {k n : Nat} (h : s.getF (.SEC_XQ_MAX k) F.SEC_XQ_MAX_CYC = 0) : s.crossMeasure k n = s := if_pos h

theorem State.onlyRegs_refl (s : State) (P : Reg → Prop) : s.onlyRegs s P := ⟨rfl, fun _ _ => rfl⟩

theorem State.onlyRegs.trans {s t u : State} {P : Reg → Prop} (h : s.onlyRegs t P) (h' : t.onlyRegs u P) : s.onlyRegs u P :=
  ⟨(congrArg (fun v : State => { v with regs := s.regs }) h'.1).trans h.1, fun r hr => (h'.2 r hr).trans (h.2 r hr)⟩

/-- The measure of a store that took n cycles, under the bound mx: MAXLAT is the larger, LATE sets beyond the bound. -/
def xqMeasured (mx n : Nat) (w : Word) : Word :=
  let v := if fld w 17 0 < min n 0x3FFFF then setFld w 17 0 (min n 0x3FFFF) else w
  if mx < n then setBit v 35 true else v

theorem fld_xqMeasured_maxlat (mx n : Nat) (w : Word) : fld (xqMeasured mx n w) 17 0 = max (fld w 17 0) (min n 0x3FFFF) := by
  have hv : fld (if fld w 17 0 < min n 0x3FFFF then setFld w 17 0 (min n 0x3FFFF) else w) 17 0 = max (fld w 17 0) (min n 0x3FFFF) := by
    split
    · rw [fld_setFld_self (by decide)]
      omega
    · omega
  unfold xqMeasured
  dsimp only
  split
  · rw [fld_setBit_ne (.inl (by decide)), hv]
  · exact hv

theorem bit_xqMeasured_late (mx n : Nat) (w : Word) : bit (xqMeasured mx n w) 35 = true ↔ bit w 35 = true ∨ mx < n := by
  have hv : bit (if fld w 17 0 < min n 0x3FFFF then setFld w 17 0 (min n 0x3FFFF) else w) 35 = bit w 35 := by
    split
    · rw [bit_setFld (by decide), if_neg (by decide)]
    · rfl
  unfold xqMeasured
  dsimp only
  split
  case isTrue hn => simp [bit_setBit_self, hn]
  case isFalse hn => rw [hv]; simp [hn]

theorem fld_xqMeasured_rest (mx n : Nat) (w : Word) : fld (xqMeasured mx n w) 34 18 = fld w 34 18 := by
  have hv : fld (if fld w 17 0 < min n 0x3FFFF then setFld w 17 0 (min n 0x3FFFF) else w) 34 18 = fld w 34 18 := by
    split
    · exact fld_setFld_ne (.inr (by decide))
    · rfl
  unfold xqMeasured
  dsimp only
  split
  · rw [fld_setBit_ne (.inl (by decide)), hv]
  · exact hv

/-- A measured store changes SECs_XQ alone. -/
theorem State.crossMeasure_on {s : State} {k n : Nat} (h : s.getF (.SEC_XQ_MAX k) F.SEC_XQ_MAX_CYC ≠ 0) :
    s.onlyRegs (s.crossMeasure k n) (· = .SEC_XQ k) ∧
    (s.crossMeasure k n).reg (.SEC_XQ k) = xqMeasured (s.getF (.SEC_XQ_MAX k) F.SEC_XQ_MAX_CYC) n (s.reg (.SEC_XQ k)) := by
  have hlat : (if n ≤ 0x3FFFF then n else 0x3FFFF) = min n 0x3FFFF := by
    split <;> omega
  unfold State.crossMeasure
  dsimp only
  rw [if_neg h, hlat]
  generalize hs1 : (if s.getF (.SEC_XQ k) F.SEC_XQ_MAXLAT < min n 0x3FFFF then s.setF (.SEC_XQ k) F.SEC_XQ_MAXLAT (min n 0x3FFFF) else s) = s1
  have h1 : s.onlyRegs s1 (· = .SEC_XQ k) ∧
      s1.reg (.SEC_XQ k) = if fld (s.reg (.SEC_XQ k)) 17 0 < min n 0x3FFFF then setFld (s.reg (.SEC_XQ k)) 17 0 (min n 0x3FFFF) else s.reg (.SEC_XQ k) := by
    subst hs1
    split
    case isTrue hm => exact ⟨s.onlyRegs_setReg _ _, by rw [State.reg_setF, if_pos rfl]; exact (if_pos hm).symm⟩
    case isFalse hm => exact ⟨s.onlyRegs_refl _, (if_neg hm).symm⟩
  unfold xqMeasured
  dsimp only
  rw [← h1.2]
  split
  · exact ⟨h1.1.trans (s1.onlyRegs_setReg _ _), by rw [State.reg_setB, if_pos rfl]; rfl⟩
  · exact ⟨h1.1, rfl⟩

/-! ## Posts -/

/-- Post i of a section is performed once none before it holds it back, while its section does not stand still or the stall awaits it. -/
theorem State.postDone_eq {s : State} {k i a b : Nat} {p : Post} (h : (s.sect k).posts[i]? = some p) :
    s.postDone k i a b = if s.postBehind k i p || (s.stalled k && !s.postAwaited k i p) then s
      else ((((s.setSect k { s.sect k with posts := (s.sect k).posts.eraseIdx i }).incF (.SEC_POST k) F.SEC_POST_LINK a).incF
        (.SEC_POST k) F.SEC_POST_COLL b).storeBytes p.addr p.bytes) := by
  rw [State.postDone, h]

theorem State.postBehind_iff {s : State} {k i : Nat} {p : Post} : s.postBehind k i p = true ↔
    ∃ j < i, ∃ o, (s.sect k).posts[j]? = some o ∧ (o.eng = p.eng ∧ overlaps o.addr o.bytes.length p.addr p.bytes.length = true ∨
      o.eng / 4 = p.eng / 4 ∧ memOf o.addr = memOf p.addr ∧ o.addr / 8 % 16 = p.addr / 8 % 16) := by
  unfold State.postBehind
  rw [any_take_iff]
  simp [samePath, cluOf, bankOf, and_assoc]

theorem State.postAwaited_iff {s : State} {k i : Nat} {p : Post} : s.postAwaited k i p = true ↔
    ∃ q ∈ (s.sect k).posts.drop i, p.eng / 4 = q.eng / 4 ∧ memOf p.addr = memOf q.addr ∧ p.addr / 8 % 16 = q.addr / 8 % 16 ∧
      s.engStalls q.eng = true ∧ (s.engine q.eng).awaitsStore q.seq q.addr q.bytes.length = true := by
  unfold State.postAwaited
  simp [samePath, cluOf, bankOf, and_assoc]

/-- SECs_POST after the cycles that a post waited for links and for its bank. -/
def postCounted (a b : Nat) (w : Word) : Word :=
  let v := setFld w 17 0 (satAdd (fld w 17 0) a (2 ^ 18 - 1))
  setFld v 35 18 (satAdd (fld v 35 18) b (2 ^ 18 - 1))

theorem fld_postCounted (a b : Nat) (w : Word) :
    fld (postCounted a b w) 17 0 = min (fld w 17 0 + a) (2 ^ 18 - 1) ∧ fld (postCounted a b w) 35 18 = min (fld w 35 18 + b) (2 ^ 18 - 1) := by
  unfold postCounted
  dsimp only
  constructor
  · rw [fld_setFld_ne (.inl (by decide)), fld_setFld_self (by decide), satAdd_eq_min]
    omega
  · rw [fld_setFld_self (by decide), fld_setFld_ne (.inr (by decide)), satAdd_eq_min]
    omega

theorem State.incF_post (s : State) (k a b : Nat) :
    (s.incF (.SEC_POST k) F.SEC_POST_LINK a).incF (.SEC_POST k) F.SEC_POST_COLL b =
      s.setReg (.SEC_POST k) (postCounted a b (s.reg (.SEC_POST k))) := by
  simp only [State.incF, State.setF, State.getF, State.reg_setReg, if_true, State.setReg_setReg]
  rfl

/-! ## ECC_WRITEBACK -/

theorem State.eccWriteback_facts (s : State) (k : Nat) :
    let t := { s with eccSoft := SMap.set (fun _ => false) s.eccSoft k false }
    t.isSoft (4 * k) = false ∧ ∀ j, j ≠ k → t.isSoft (4 * j) = s.isSoft (4 * j) := by
  have hk (j : Nat) : 4 * j / 4 = j := by omega
  refine ⟨?_, fun j hj => ?_⟩
  · rw [State.isSoft, hk]
    dsimp only
    exact SMap.get_set_self (d := fun _ => false) (m := s.eccSoft)
  · rw [State.isSoft, State.isSoft, hk]
    dsimp only
    exact SMap.get_set_ne (d := fun _ => false) (m := s.eccSoft) hj

/-! ## The obligation -/

/-- Settles O20: stores under way and posts are performed in order at their targets, a cross-section store is measured, and a corrected word
is written back. -/
theorem storesUnderWayAndWritebacksReachTheirWords : Obligations.StoresUnderWayAndWritebacksReachTheirWords := by
  unfold Obligations.StoresUnderWayAndWritebacksReachTheirWords
  refine ⟨⟨fun e i n s o => ?_, fun k i a b s p => ?_⟩, fun k s => ⟨fun h => ?_, fun h => ?_⟩⟩
  · intro x k blocked ho done
    have hout : s.outDone e i o.cross = if blocked then none else some done := by
      rw [State.outDone_eq ho]
      simp only [State.portStalled_iff]
      exact if_congr Iff.rfl rfl rfl
    refine ⟨fun hm ha => State.performStore_mem hm ha, fun w hd hb => ?_, fun hc => ?_, fun hc => ?_⟩
    · have ha : (BitVec.ofNat 36 o.addr).toNat = o.addr := Nat.mod_eq_of_lt (lt_of_globalLoc_dev hd)
      simp only [done, hb]
      rw [State.performStore_dev hd]
      refine congrArg Host.Outcome.next ?_
      rw [ha]
    · change Host.Outcome.next ((s.outDone e i false).getD s) = _
      rw [hc] at hout
      rw [hout]
      split <;> rfl
    · have hcross : exec (.crossSectionStoreDone e i n) s = .next (s.crossDone e i n) := rfl
      rw [hc] at hout
      rw [hcross, State.crossDone, hout]
      by_cases hb : blocked
      · rw [if_pos hb, if_pos hb]
      · rw [if_neg hb, if_neg hb]
        dsimp only
        by_cases hmx : done.getF (.SEC_XQ_MAX k) F.SEC_XQ_MAX_CYC = 0
        · rw [if_pos hmx, State.crossMeasure_off hmx]
        · rw [if_neg hmx]
          obtain ⟨honly, hreg⟩ := State.crossMeasure_on (n := n) hmx
          refine ⟨_, rfl, honly, ?_, ?_, ?_⟩
          · exact (congrArg (fld · 17 0) hreg).trans (fld_xqMeasured_maxlat ..)
          · exact (iff_of_eq (congrArg (bit · 35 = true) hreg)).trans (bit_xqMeasured_late ..)
          · exact (congrArg (fld · 34 18) hreg).trans (fld_xqMeasured_rest ..)
  · intro c hp
    have hpost : exec (.postPerformed k i a b) s = .next (s.postDone k i a b) := rfl
    have hheld : (s.postBehind k i p || (s.stalled k && !s.postAwaited k i p)) = true ↔ _ :=
      (Bool.or_eq_true _ _).to_iff.trans (or_congr State.postBehind_iff ((Bool.and_eq_true _ _).to_iff.trans
        (and_congr_right' ((Bool.not_eq_true' _).to_iff.trans (Bool.eq_false_iff.trans (not_congr State.postAwaited_iff))))))
    rw [hpost, State.postDone_eq hp]
    by_cases hb : (s.postBehind k i p || (s.stalled k && !s.postAwaited k i p)) = true
    · rw [if_pos (hheld.mp hb), if_pos hb]
    · rw [if_neg (fun h => hb (hheld.mpr h)), if_neg hb, State.incF_post]
      obtain ⟨hlink, hcoll⟩ := fld_postCounted a b (s.reg (.SEC_POST k))
      exact ⟨_, rfl, hlink, hcoll⟩
  · exact congrArg Host.Outcome.next (if_pos h)
  · obtain ⟨hself, hothers⟩ := s.eccWriteback_facts k
    exact ⟨_, congrArg Host.Outcome.next (if_neg (by simp [h])), hself, hothers, fun a => rfl, rfl⟩

end Sys2Proof.Machine
end

section
/-! PROOF. Commands of the sequencer (R413, R418, R494): O48. -/

namespace Sys2Proof.Machine

/-! ## A command that passes every check -/

/-- A command marked H that passes the checks of R409 runs on the state as its packet finds it. -/
theorem State.hostCommand_takes {s : State} {o : Nat} {h : HostHdr} {ws : List Word} (ht : s.hostTakes o ws .seq) (ho : opAssigned o = true) :
    s.hostCommand o h ws = (s.acked h).runSeq o h (ws.take 511) := by
  obtain ⟨⟨hheld, hstate, hda, hroom⟩, hparams, hoffset, hlegal, -, hauth, hbusy⟩ := ht
  have hacks : s.acksWrite = true := by
    simp [State.acksWrite, hheld, hstate, hroom, Option.isSome_iff_ne_none, hda]
  have hb : (s.setNack false).safeLevel h.safeNLow = s.acked h := rfl
  rw [State.hostCommand, if_pos hacks, hb, State.decodeCmd, ho, hparams]
  change (if (!(true && s.offsetOk o (ws.take 511))) = true then _ else match s.legalNow o (ws.take 511) with | none => _ | some x => _) = _
  rw [hoffset, hlegal]
  change (if (!s.authOk o) = true then _ else if s.hostBusy o .seq (ws.take 511) = true then _ else _) = _
  rw [hauth, hbusy]
  rfl

/-! ## A LOAD_END in the mailbox whose session is gone -/

theorem State.seq_swdtCatch (s : State) : s.swdtCatch.seq = s.seq := by
  unfold State.swdtCatch
  dsimp only
  split <;> rfl

theorem State.endSession_none {s : State} (h : s.seq.session = none) (st : Nat) : s.endSession st = s := by
  rw [State.endSession, h]

theorem State.sessionCheck_none {s : State} (h : s.seq.session = none) : s.sessionCheck = s := by
  rw [State.sessionCheck, h]

/-- The time-out of a firmware command passes a LOAD_END by when no session is open: it ends the session alone. -/
theorem State.timeoutFirmware_loadEnd {s : State} {f : FwCmd} (hs : s.seq.session = none) (hf : s.seq.fw = some f) (ho : f.opcode = 0x022) :
    s.timeoutFirmware = { s with seq := { s.seq with timedOut := true } } := by
  rw [State.timeoutFirmware, hf]
  dsimp only
  rw [if_pos ho, State.endSession_none hs]

/-- Clearing SUP does no more than the time-out while no session is open behind it. -/
theorem State.clearSup_eq {s u : State} (h : (s.setB .HOST_STATE F.HOST_STATE_SUP false).timeoutFirmware = u) (hs : u.seq.session = none) :
    s.clearSup = u := by
  rw [State.clearSup, h, hs]

theorem State.seq_clearSup_loadEnd {s : State} {f : FwCmd} (hs : s.seq.session = none) (hf : s.seq.fw = some f) (ho : f.opcode = 0x022) :
    s.clearSup.seq = { s.seq with timedOut := true } := by
  rw [State.clearSup_eq (State.timeoutFirmware_loadEnd (s := s.setB .HOST_STATE F.HOST_STATE_SUP false) hs hf ho) hs]
  rfl

theorem State.seq_clearSupervisor_loadEnd {s : State} {f : FwCmd} (hs : s.seq.session = none) (hf : s.seq.fw = some f) (ho : f.opcode = 0x022) :
    s.clearSupervisor.seq = { s.seq with timedOut := true, evlog := [] } := by
  rw [← s.seq_swdtCatch] at hs hf
  have h := State.seq_clearSup_loadEnd hs hf ho
  rw [s.seq_swdtCatch] at h
  exact congrArg (fun q : Seq => { q with evlog := [] }) h

theorem State.seq_ibi (s : State) (c : Nat) : (s.ibi c).seq.fw = s.seq.fw ∧ (s.ibi c).seq.session = s.seq.session := by
  unfold State.ibi
  split <;> exact ⟨rfl, rfl⟩

theorem State.seq_moveDevState (s : State) (v : Nat) :
    (s.moveDevState v).seq.fw = s.seq.fw ∧ (s.moveDevState v).seq.session = s.seq.session := by
  unfold State.moveDevState State.setDevState
  split
  · exact ⟨rfl, rfl⟩
  · split
    · exact ⟨rfl, rfl⟩
    · split
      · exact ⟨rfl, rfl⟩
      · exact State.seq_ibi _ _

/-- A supervisor reset leaves such a LOAD_END in the mailbox. -/
theorem State.fw_supervisorReset_loadEnd {s : State} {f : FwCmd} (hs : s.seq.session = none) (hf : s.seq.fw = some f) (ho : f.opcode = 0x022) :
    s.supervisorReset.seq.fw = some f := by
  have h := State.seq_clearSupervisor_loadEnd hs hf ho
  have hsess : s.clearSupervisor.seq.session = none := by rw [h]; exact hs
  have hfw : s.clearSupervisor.seq.fw = some f := by rw [h]; exact hf
  rw [State.supervisorReset, State.endSession_none hsess]
  split
  · obtain ⟨h1, h2⟩ := s.clearSupervisor.seq_moveDevState 2
    rw [State.sessionCheck_none (h2.trans hsess), h1, hfw]
  · exact hfw

/-- An answer leaves the firmware command in the mailbox. -/
theorem State.Answered.fw {s t : State} {st : Nat} {tag : BitVec 9} {noibi : Bool} {l : List Word} (h : s.Answered t st tag noibi l) :
    t.seq.fw = s.seq.fw := by
  have hkept := congrArg Seq.fw h.kept
  exact hkept

/-- AWAIT_IMAGES with a LOAD_END in the mailbox that no session belongs to. -/
def State.strayLoadEnd : State :=
  { State.reset.setF .HOST_STATE F.HOST_STATE_STATE 3 with
    helm := { Helm.reset with loaded := true }
    seq := { Seq.reset with da := some 0, fw := some { opcode := 0x022, tag := 0, noibi := false, status := 0, words := [] } } }

/-- RESET of supervisor scope: its parameter word. -/
def resetSupervisorParams : List Word := [1]

theorem State.strayLoadEnd_takes : State.strayLoadEnd.hostTakes 0x010 resetSupervisorParams .seq := by
  refine ⟨⟨by decide, by decide, by decide, by decide⟩, by decide, by decide, by decide, nofun, by decide, by decide⟩

/-- Refutes O48: a supervisor reset (RESET, R418) is to leave no firmware command, but where a LOAD_END stands in the mailbox and no session
is open it leaves that LOAD_END there, since the model takes a LOAD_END out of the mailbox with its session alone. The statement speaks of every
state; the one that refutes it is State.strayLoadEnd. -/
theorem not_sequencerCommandsActAndReply : ¬ Obligations.SequencerCommandsActAndReply := by
  unfold Obligations.SequencerCommandsActAndReply
  intro hall
  let h : HostHdr := { tag := 0, noibi := false, safeNLow := false }
  obtain ⟨-, -, -, hreset, -⟩ := hall h resetSupervisorParams State.strayLoadEnd
  obtain ⟨y, st, l, t, hexec, ⟨-, -, -, hsup, -⟩, hanswered⟩ := hreset (.resetSupervisor h resetSupervisorParams) (by simp) State.strayLoadEnd_takes
  let b := State.strayLoadEnd.acked h
  have hrun : exec (.resetSupervisor h resetSupervisorParams) State.strayLoadEnd = .next (b.supervisorReset.reply stOK h.tag h.noibi []) :=
    congrArg Host.Outcome.next (State.hostCommand_takes State.strayLoadEnd_takes (by decide))
  have ht : t = b.supervisorReset.reply stOK h.tag h.noibi [] := Host.Outcome.next.inj (hexec.symm.trans hrun)
  have hleft : b.supervisorReset.seq.fw = some { opcode := 0x022, tag := 0, noibi := false, status := 0, words := [] } :=
    State.fw_supervisorReset_loadEnd rfl rfl rfl
  have hy : y.seq.fw = none := (hsup (by decide)).ended.1
  have htb : t.seq.fw = b.supervisorReset.seq.fw := by
    rw [ht]
    exact (State.reply_answered ..).fw
  rw [hanswered.fw, hy, hleft] at htb
  cases htb

end Sys2Proof.Machine
end

section
/-! SUPPORT. A register written by its access types (R8, R9): what each bit of it reads as afterwards. -/

namespace Sys2Proof.Machine

/-- Two fields share no bit. -/
def Field.Apart (f g : Field) : Prop := f.hi < g.lo ∨ g.hi < f.lo

/-- Bit i of a word whose field f has been written with w. -/
def Field.written (f : Field) (locked : Bool) (old w : Word) (i : Nat) : Bool :=
  match f.acc with
  | .rw => bit w i
  | .rwl => if locked then bit old i else bit w i
  | .w1c => bit old i && !bit w i
  | _ => bit old i

/-- One field of a write. -/
def Field.write (f : Field) (locked : Bool) (old w acc : Word) : Word :=
  match f.acc with
  | .rw => setFld acc f.hi f.lo (fld w f.hi f.lo)
  | .rwl => if locked then acc else setFld acc f.hi f.lo (fld w f.hi f.lo)
  | .w1c => setFld acc f.hi f.lo ((fld old f.hi f.lo) &&& (2 ^ (f.hi + 1 - f.lo) - 1 - fld w f.hi f.lo))
  | _ => acc

theorem applyWrite_eq_foldl (fs : List Field) (locked : Bool) (old w : Word) :
    applyWrite fs locked old w = fs.foldl (fun acc f => f.write locked old w acc) old := rfl

theorem testBit_fld_sub {w : Word} {hi lo i : Nat} (h : lo ≤ i ∧ i ≤ hi) : (fld w hi lo).testBit (i - lo) = bit w i := by
  rw [testBit_fld, decide_eq_true (by omega), Bool.true_and, Nat.add_sub_cancel' h.1]
  rfl

/-- A field written leaves the bits outside it. -/
theorem Field.bit_write_outside {f : Field} {locked : Bool} {old w acc : Word} {i : Nat} (hi : i < 36) (h : ¬ (f.lo ≤ i ∧ i ≤ f.hi)) :
    bit (f.write locked old w acc) i = bit acc i := by
  unfold Field.write
  split
  · rw [bit_setFld hi, if_neg h]
  · split
    · rfl
    · rw [bit_setFld hi, if_neg h]
  · rw [bit_setFld hi, if_neg h]
  · rfl

/-- A field written reads by its access type. -/
theorem Field.bit_write_inside {f : Field} {locked : Bool} {old w acc : Word} {i : Nat} (hi : i < 36) (h : f.lo ≤ i ∧ i ≤ f.hi)
    (hacc : bit acc i = bit old i) : bit (f.write locked old w acc) i = f.written locked old w i := by
  unfold Field.write Field.written
  split
  · rw [bit_setFld hi, if_pos h, testBit_fld_sub h]
  · split
    · exact hacc
    · rw [bit_setFld hi, if_pos h, testBit_fld_sub h]
  · have hlt := fld_lt w f.hi f.lo
    have hcompl : (2 ^ (f.hi + 1 - f.lo) - 1 - fld w f.hi f.lo).testBit (i - f.lo) = !(fld w f.hi f.lo).testBit (i - f.lo) := by
      rw [Nat.sub_sub, Nat.add_comm 1, Nat.testBit_two_pow_sub_succ hlt, decide_eq_true (by omega), Bool.true_and]
    rw [bit_setFld hi, if_pos h, Nat.testBit_and, hcompl, testBit_fld_sub h, testBit_fld_sub h]
  · exact hacc

theorem bit_foldl_write_outside {fs : List Field} {locked : Bool} {old w acc : Word} {i : Nat} (hi : i < 36)
    (h : ∀ f ∈ fs, ¬ (f.lo ≤ i ∧ i ≤ f.hi)) : bit (fs.foldl (fun acc f => f.write locked old w acc) acc) i = bit acc i := by
  induction fs generalizing acc with
  | nil => rfl
  | cons f fs ih =>
    rw [List.foldl_cons, ih (fun g hg => h g (List.mem_cons_of_mem _ hg)), Field.bit_write_outside hi (h f List.mem_cons_self)]

/-- Each bit of a word written under the access types of its fields, which lie apart: by the field that holds it. -/
theorem bit_applyWrite {fs : List Field} (hfs : fs.Pairwise Field.Apart) (locked : Bool) (old w : Word) {i : Nat} (hi : i < 36) :
    bit (applyWrite fs locked old w) i = match fs.find? (fun f => decide (f.lo ≤ i ∧ i ≤ f.hi)) with
      | some f => f.written locked old w i
      | none => bit old i := by
  rw [applyWrite_eq_foldl]
  suffices h : ∀ acc, bit acc i = bit old i → bit (fs.foldl (fun acc f => f.write locked old w acc) acc) i =
      match fs.find? (fun f => decide (f.lo ≤ i ∧ i ≤ f.hi)) with
      | some f => f.written locked old w i
      | none => bit old i from h old rfl
  induction fs with
  | nil => exact fun acc hacc => hacc
  | cons f fs ih =>
    intro acc hacc
    obtain ⟨hf, hrest⟩ := List.pairwise_cons.mp hfs
    rw [List.foldl_cons]
    by_cases hin : f.lo ≤ i ∧ i ≤ f.hi
    · rw [List.find?_cons_of_pos (by simpa using hin), bit_foldl_write_outside hi, Field.bit_write_inside hi hin hacc]
      intro g hg
      have := hf g hg
      unfold Field.Apart at this
      omega
    · rw [List.find?_cons_of_neg (by simpa using hin)]
      exact ih hrest _ ((Field.bit_write_outside hi hin).trans hacc)

/-- The fields of a register lie apart. -/
theorem Reg.fields_apart (r : Reg) : r.fields.Pairwise Field.Apart := by
  cases r <;> simp [Reg.fields, Field.Apart]

/-! ## A write that its access types alone decide -/

/-- A register written by its access types, whatever else is written of it later by none. -/
theorem State.plainWrite_typed (s : State) (r : Reg) (w : Word) : s.WrittenAsTyped (s.plainWrite r w) r w := by
  refine ⟨s.onlyRegs_setReg r _, fun i hi => ?_⟩
  rw [State.plainWrite, State.reg_setReg, if_pos rfl, bit_applyWrite r.fields_apart _ _ _ hi]
  cases r.fields.find? (fun f => decide (f.lo ≤ i ∧ i ≤ f.hi)) with
  | none => rfl
  | some f =>
    unfold Field.written
    cases f.acc <;> rfl

/-- Writing w to a field of a register that holds v leaves v: the bits that are written agree, no 1 is written to a W1C bit. -/
def Field.Keeps (f : Field) (v w : Word) : Prop :=
  match f.acc with
  | .rw | .rwl => ∀ i, f.lo ≤ i → i ≤ f.hi → bit w i = bit v i
  | .w1c => ∀ i, f.lo ≤ i → i ≤ f.hi → bit w i = false
  | _ => True

theorem Field.written_keeps {f : Field} {v w : Word} {i : Nat} (h : f.Keeps v w) (hi : f.lo ≤ i ∧ i ≤ f.hi) :
    f.written false v w i = bit v i := by
  unfold Field.Keeps at h
  unfold Field.written
  cases ha : f.acc <;> rw [ha] at h <;> simp_all

theorem applyWrite_keeps {r : Reg} {v w : Word} (h : ∀ f ∈ r.fields, f.Keeps v w) : applyWrite r.fields false v w = v := by
  apply BitVec.eq_of_getLsbD_eq
  intro i hi
  change bit _ i = bit v i
  rw [bit_applyWrite r.fields_apart _ _ _ hi]
  cases hf : r.fields.find? (fun f => decide (f.lo ≤ i ∧ i ≤ f.hi)) with
  | none => rfl
  | some f => exact Field.written_keeps (h f (List.mem_of_find?_eq_some hf)) (by simpa using List.find?_some hf)

/-- A second write that keeps what the register holds after the first changes nothing. -/
theorem State.plainWrite_again (s : State) {r : Reg} {w w' : Word} (h : ∀ f ∈ r.fields, f.Keeps ((s.plainWrite r w).reg r) w') :
    (s.plainWrite r w).plainWrite r w' = s.plainWrite r w := by
  rw [State.plainWrite, applyWrite_keeps h, State.plainWrite, State.reg_setReg, if_pos rfl, State.setReg_setReg]

/-- A field that takes its own value leaves the word. -/
theorem setFld_fld {w : Word} {hi lo v : Nat} (h : v = fld w hi lo) : setFld w hi lo v = w := by
  subst h
  apply BitVec.eq_of_getLsbD_eq
  intro i hi36
  change bit _ i = bit w i
  rw [bit_setFld hi36]
  split
  case isTrue h => exact testBit_fld_sub h
  · rfl

theorem setBit_bit {w : Word} {i : Nat} {b : Bool} (h : bit w i = b) : setBit w i b = w := by
  refine setFld_fld ?_
  rw [fld_one, h]

end Sys2Proof.Machine
end

section
/-! PROOF. Writes of registers that have an operation of their own: O60. -/

namespace Sys2Proof.Machine

/-! ## A write at the address of a register -/

theorem exec_registerWrite_at {m : Master} {a w : Word} {s : State} {r : Reg} (h : Reg.ofAddr a.toNat = some r) :
    exec (.registerWrite m a w) s = .next (s.writeReg m r w) := by
  change Host.Outcome.next (s.regWrite m a.toNat w) = _
  rw [State.regWrite, h]

/-- Setting one bit keeps every other. -/
theorem bit_setBit_ne {w : Word} {i j : Nat} {b : Bool} (h : j ≠ i) (hj : j < 36) : bit (setBit w i b) j = bit w j := by
  rw [bit_setBit hj, if_neg h]

/-! ## MARCH_CTL and HOST_MBX_RCTL -/

/-- A write with ABORT starts nothing. -/
theorem State.marchCtlWrite_eq {s : State} {w : Word} (h : bit w 34 = true) :
    s.marchCtlWrite w = if (s.plainWrite .MARCH_CTL w).march.busy = true then (s.plainWrite .MARCH_CTL w).marchAbort else s.plainWrite .MARCH_CTL w := by
  simp [State.marchCtlWrite, h, State.plainWrite]
  rfl

/-- ABORT acts on what the write has left. -/
theorem State.marchCtlWrite_abort {s : State} {w : Word} (h34 : bit w 34 = true) :
    s.marchCtlWrite w = (s.plainWrite .MARCH_CTL w).marchCtlWrite (setBit ((s.plainWrite .MARCH_CTL w).reg .MARCH_CTL) 34 true) := by
  rw [State.marchCtlWrite_eq h34, State.marchCtlWrite_eq (bit_setBit_self (by decide)), State.plainWrite_again]
  simp only [Reg.fields, List.forall_mem_cons, Field.Keeps, true_and]
  refine ⟨?_, ?_, ?_, ?_, ?_, List.forall_mem_nil _⟩ <;> exact fun i _ _ => bit_setBit_ne (by omega) (by omega)

theorem State.marchCtlWrite_plain {s : State} {w : Word} (h35 : bit w 35 = false) (h34 : bit w 34 = false) :
    s.marchCtlWrite w = s.plainWrite .MARCH_CTL w := by
  simp [State.marchCtlWrite, h35, h34, State.plainWrite]

/-- A write without SEND. -/
theorem State.mbxRctl_eq {s : State} {w : Word} (h : bit w 35 = false) :
    s.mbxRctl w = if bit w 16 = true then (s.plainWrite .HOST_MBX_RCTL w).supReady else s.plainWrite .HOST_MBX_RCTL w := by
  simp [State.mbxRctl, h, State.plainWrite]

/-- READY acts on what the write has left. -/
theorem State.mbxRctl_ready {s : State} {w : Word} (h35 : bit w 35 = false) (h16 : bit w 16 = true) :
    s.mbxRctl w = (s.plainWrite .HOST_MBX_RCTL w).mbxRctl
      (setBit (setBit ((s.plainWrite .HOST_MBX_RCTL w).reg .HOST_MBX_RCTL) 16 true) 35 false) := by
  rw [State.mbxRctl_eq h35, State.mbxRctl_eq (bit_setBit_self (by decide)), State.plainWrite_again, h16,
    bit_setBit_ne (by decide) (by decide), bit_setBit_self (by decide)]
  simp only [Reg.fields, List.forall_mem_cons, Field.Keeps, true_and]
  refine ⟨?_, ?_, ?_, List.forall_mem_nil _⟩ <;>
    exact fun i _ _ => (bit_setBit_ne (by omega) (by omega)).trans (bit_setBit_ne (by omega) (by omega))

/-! ## The check units -/

/-- A write to CTL disarms the unit unless it sets PER. -/
def State.ckuArmed (s : State) (u : Nat) (per : Bool) : State := if per then s else s.setCku u { s.ckUnit u with armed := false }

theorem State.ckuArmed_cku (s : State) (u : Nat) (per : Bool) :
    (s.ckuArmed u per).ckUnit u = (if per = true then s.ckUnit u else { s.ckUnit u with armed := false }) ∧
      ∀ k, k ≠ u → (s.ckuArmed u per).ckUnit k = s.ckUnit k := by
  unfold State.ckuArmed
  cases per with
  | true => exact ⟨rfl, fun _ _ => rfl⟩
  | false => exact ⟨SMap.get_set_self, fun k hk => SMap.get_set_ne hk⟩

theorem State.ckuArmed_regs (s : State) (u : Nat) (per : Bool) : (s.ckuArmed u per).regs = s.regs := by
  cases per <;> rfl

theorem State.ckuArmed_again (s : State) (u : Nat) (per : Bool) : (s.ckuArmed u per).ckuArmed u per = s.ckuArmed u per := by
  cases per with
  | true => rfl
  | false =>
    have h := (s.ckuArmed_cku u false).1
    unfold State.ckuArmed at h ⊢
    rw [if_neg (by decide), h]
    simp [State.setCku]

/-- A write to the CTL of an idle unit without START. -/
theorem State.ckuCtlWrite_idle {s : State} {u : Nat} {w : Word} (h35 : bit w 35 = false) (hb : s.getB (.CKU_STS u) F.CKU_STS_BUSY = false) :
    s.ckuCtlWrite u w = (s.ckuArmed u (bit w 30)).plainWrite (.CKU_CTL u) w := by
  rw [State.ckuCtlWrite, hb]
  simp [h35, State.plainWrite, State.ckuArmed]

/-- What a write to the CTL of a busy unit stores: PER, and that it is disarmed without it. -/
def State.ckuPer (s : State) (u : Nat) (per : Bool) : State := (s.ckuArmed u per).setB (.CKU_CTL u) F.CKU_CTL_PER per

theorem State.reg_ckuPer (s : State) (u : Nat) (per : Bool) (r : Reg) :
    (s.ckuPer u per).reg r = if r = .CKU_CTL u then setBit (s.reg (.CKU_CTL u)) 30 per else s.reg r := by
  rw [State.ckuPer, State.reg_setB, State.reg_congr (s.ckuArmed_regs u per), State.reg_congr (s.ckuArmed_regs u per)]
  rfl

theorem State.ckuPer_again (s : State) (u : Nat) (per : Bool) : (s.ckuPer u per).ckuPer u per = s.ckuPer u per := by
  have hcomm (t : State) (v : Word) : (t.setReg (.CKU_CTL u) v).ckuArmed u per = (t.ckuArmed u per).setReg (.CKU_CTL u) v := by
    cases per <;> rfl
  have hval : setBit ((s.ckuPer u per).reg (.CKU_CTL u)) 30 per = (s.ckuPer u per).reg (.CKU_CTL u) := by
    rw [State.reg_ckuPer, if_pos rfl]
    exact setBit_bit (bit_setBit_self (by decide))
  have hself : s.ckuPer u per = (s.ckuArmed u per).setReg (.CKU_CTL u) ((s.ckuPer u per).reg (.CKU_CTL u)) := by
    rw [State.reg_ckuPer, if_pos rfl, ← State.reg_congr (s.ckuArmed_regs u per)]
    rfl
  calc (s.ckuPer u per).ckuPer u per
      = ((s.ckuPer u per).ckuArmed u per).setReg (.CKU_CTL u) (setBit ((s.ckuPer u per).reg (.CKU_CTL u)) 30 per) := by
        rw [← State.reg_congr ((s.ckuPer u per).ckuArmed_regs u per)]
        rfl
    _ = (((s.ckuArmed u per).setReg (.CKU_CTL u) ((s.ckuPer u per).reg (.CKU_CTL u))).ckuArmed u per).setReg (.CKU_CTL u)
          ((s.ckuPer u per).reg (.CKU_CTL u)) := by
        rw [hval, ← hself]
    _ = s.ckuPer u per := by
        rw [hcomm, State.setReg_setReg, State.ckuArmed_again, ← hself]

/-- A write to the CTL of a busy unit: ABORT acts on what it stores. -/
theorem State.ckuCtlWrite_busy {s : State} {u : Nat} {w : Word} (hb : s.getB (.CKU_STS u) F.CKU_STS_BUSY = true) :
    s.ckuCtlWrite u w = if bit w 34 = true then (s.ckuPer u (bit w 30)).ckuAbort u else s.ckuPer u (bit w 30) := by
  rw [State.ckuCtlWrite, hb]
  rfl

/-- CHECK_ABORT of a busy unit aborts the check. -/
theorem State.ckuCtlWrite_abort {s : State} {u : Nat} {per : Bool} (hb : s.getB (.CKU_STS u) F.CKU_STS_BUSY = true) :
    (s.ckuPer u per).ckuCtlWrite u (setBit (setBit ((s.ckuPer u per).reg (.CKU_CTL u)) 34 true) 35 false) = (s.ckuPer u per).ckuAbort u := by
  have hb' : (s.ckuPer u per).getB (.CKU_STS u) F.CKU_STS_BUSY = true := by
    rw [State.getB, State.reg_ckuPer, if_neg (by simp)]
    exact hb
  rw [State.ckuCtlWrite_busy hb', bit_setBit_ne (by decide) (by decide), bit_setBit_self (by decide), if_pos rfl,
    bit_setBit_ne (by decide) (by decide), bit_setBit_ne (by decide) (by decide), State.reg_ckuPer, if_pos rfl, bit_setBit_self (by decide),
    State.ckuPer_again]

/-- A write to STS: its access types, and DONE clears ERR too. -/
theorem State.ckuStsWrite_eq (s : State) (u : Nat) (w : Word) :
    s.ckuStsWrite u w = if bit w 34 = true then (s.plainWrite (.CKU_STS u) w).setF (.CKU_STS u) F.CKU_STS_ERR 0 else s.plainWrite (.CKU_STS u) w := rfl

/-! ## Debug entries -/

/-- A Gong group fires on what the write has left. -/
theorem State.gongWrite_fire {s : State} {m : Master} {g : Nat} {w : Word} (hok : dbgEntryOk m 0 = true) (h35 : bit w 35 = true) :
    s.gongWrite m g w = (s.plainWrite (.DBG_GONG g) w).gongWrite m g
      (setBit (setBit ((s.plainWrite (.DBG_GONG g) w).reg (.DBG_GONG g)) 35 true) 34 false) := by
  have hagain := s.plainWrite_again (r := .DBG_GONG g) (w := w)
    (w' := setBit (setBit ((s.plainWrite (.DBG_GONG g) w).reg (.DBG_GONG g)) 35 true) 34 false) (by
      have hne {i : Nat} (h : i < 34) : bit (setBit (setBit ((s.plainWrite (.DBG_GONG g) w).reg (.DBG_GONG g)) 35 true) 34 false) i =
          bit ((s.plainWrite (.DBG_GONG g) w).reg (.DBG_GONG g)) i :=
        (bit_setBit_ne (by omega) (by omega)).trans (bit_setBit_ne (by omega) (by omega))
      simp only [Reg.fields, List.forall_mem_cons, Field.Keeps, true_and]
      refine ⟨fun i h1 h2 => ?_, ?_, ?_, ?_, ?_, List.forall_mem_nil _⟩
      · obtain rfl : i = 34 := by omega
        exact bit_setBit_self (by decide)
      all_goals exact fun i _ _ => hne (by omega))
  rw [State.gongWrite, State.gongWrite, hok, hagain, h35, bit_setBit_ne (by decide) (by decide), bit_setBit_self (by decide)]
  rfl

/-- A halt request and a resume keep what a write of DBG_ECTLn has left of it. -/
theorem State.ectlWrite_again (s : State) {n : Nat} {w : Word} {a b : Bool} :
    (s.plainWrite (.DBG_ECTL n) w).plainWrite (.DBG_ECTL n)
      (setBit (setBit ((s.plainWrite (.DBG_ECTL n) w).reg (.DBG_ECTL n)) 35 a) 34 b) = s.plainWrite (.DBG_ECTL n) w := by
  refine s.plainWrite_again ?_
  simp only [Reg.fields, List.forall_mem_cons, Field.Keeps, true_and]
  refine ⟨?_, ?_, ?_, List.forall_mem_nil _⟩ <;>
    exact fun i _ _ => (bit_setBit_ne (by omega) (by omega)).trans (bit_setBit_ne (by omega) (by omega))

theorem State.requestHalt_regs (s : State) (n cause comp : Nat) : (s.requestHalt n cause comp).regs = s.regs := by
  unfold State.requestHalt
  dsimp only
  split <;> rfl

/-- A register that takes its own value in a state takes it alike in every state with the same registers. -/
theorem State.setReg_of_regs {u v : State} {r : Reg} {x : Word} (h : v.regs = u.regs) (hu : u.setReg r x = u) : v.setReg r x = v := by
  have hregs : SMap.set Reg.dflt u.regs r.key x = u.regs := congrArg State.regs hu
  rw [State.setReg, h, hregs, ← h]

/-- What HALT of a write to DBG_ECTLn leaves. -/
def State.haltAsked (u : State) (n : Nat) (halt : Bool) : State := if halt then u.requestHalt n 1 0 else u

theorem State.haltAsked_regs (u : State) (n : Nat) (halt : Bool) : (u.haltAsked n halt).regs = u.regs := by
  cases halt with
  | false => rfl
  | true => exact u.requestHalt_regs n 1 0

theorem State.ectlWrite_eq {s : State} {m : Master} {n : Nat} {w : Word} (hok : dbgEntryOk m n = true) :
    s.ectlWrite m n w = if bit w 34 = true then ((s.plainWrite (.DBG_ECTL n) w).haltAsked n (bit w 35)).resumeEngine n
      else (s.plainWrite (.DBG_ECTL n) w).haltAsked n (bit w 35) := by
  rw [State.ectlWrite, hok]
  rfl

/-- HALT_REQUEST on what the write has left. -/
theorem State.ectlWrite_halt {s : State} {m : Master} {n : Nat} {w : Word} (hok : dbgEntryOk m n = true) :
    (s.plainWrite (.DBG_ECTL n) w).ectlWrite m n (setBit (setBit ((s.plainWrite (.DBG_ECTL n) w).reg (.DBG_ECTL n)) 35 true) 34 false) =
      (s.plainWrite (.DBG_ECTL n) w).haltAsked n true := by
  rw [State.ectlWrite_eq hok, bit_setBit_self (by decide), if_neg (by decide), bit_setBit_ne (by decide) (by decide), bit_setBit_self (by decide),
    State.ectlWrite_again]

/-- RESUME on what the write and a halt request have left. -/
theorem State.ectlWrite_resume {s : State} {m : Master} {n : Nat} {w : Word} (halt : Bool) (hok : dbgEntryOk m n = true) :
    let v := (s.plainWrite (.DBG_ECTL n) w).haltAsked n halt
    v.ectlWrite m n (setBit (setBit (v.reg (.DBG_ECTL n)) 35 false) 34 true) = v.resumeEngine n := by
  intro v
  have hregs : v.regs = (s.plainWrite (.DBG_ECTL n) w).regs := State.haltAsked_regs _ _ _
  have hagain : v.plainWrite (.DBG_ECTL n) (setBit (setBit (v.reg (.DBG_ECTL n)) 35 false) 34 true) = v := by
    rw [State.plainWrite, State.reg_congr hregs]
    exact State.setReg_of_regs hregs (s.ectlWrite_again (a := false) (b := true))
  rw [State.ectlWrite_eq hok, bit_setBit_self (by decide), if_pos rfl, bit_setBit_ne (by decide) (by decide), bit_setBit_self (by decide), hagain]
  rfl

/-! ## Fields that keep their value where the written one is out of range -/

/-- A write whose field f has the value of the register instead of the written one where `ok` fails. -/
theorem State.plainWrite_keepField {s : State} {r : Reg} {f : Nat × Nat} {w : Word} {ok : Prop} [Decidable ok] (h36 : f.1 < 36) :
    ∃ v, s.plainWrite r (if ok then w else s.keepField r f w) = s.plainWrite r v ∧ (∀ i, i < f.2 ∨ f.1 < i → bit v i = bit w i) ∧
      (ok → fld v f.1 f.2 = fld w f.1 f.2) ∧ (¬ ok → fld v f.1 f.2 = s.getF r f) := by
  refine ⟨_, rfl, fun i hi => ?_, fun hok => by rw [if_pos hok], fun hok => ?_⟩
  · split
    · rfl
    · rw [State.keepField]
      by_cases h : i < 36
      · rw [bit_setFld h, if_neg (by omega)]
      · exact (BitVec.getLsbD_of_ge _ _ (by omega)).trans (BitVec.getLsbD_of_ge _ _ (by omega)).symm
  · rw [if_neg hok, State.keepField, fld_setFld_self h36]
    exact Nat.mod_eq_of_lt (fld_lt _ _ _)

/-! ## HLTH_SWDT -/

/-- t is s once the watchdog has been looked at: COUNT has fallen by a free amount if it counted. -/
structure State.SwdtLooked (s t : State) (counts : Prop) : Prop where
  only : s.onlyRegs { t with fresh := s.fresh } (· = .HLTH_SWDT)
  fresh : s.fresh ≤ t.fresh
  fell : counts → 0 < t.getF .HLTH_SWDT F.HLTH_SWDT_COUNT ∧ t.getF .HLTH_SWDT F.HLTH_SWDT_COUNT ≤ s.getF .HLTH_SWDT F.HLTH_SWDT_COUNT
  stood : ¬ counts → t.getF .HLTH_SWDT F.HLTH_SWDT_COUNT = s.getF .HLTH_SWDT F.HLTH_SWDT_COUNT ∧ t.fresh = s.fresh
  others : ∀ i, i < 16 ∨ 31 < i → bit (t.reg .HLTH_SWDT) i = bit (s.reg .HLTH_SWDT) i

/-- The watchdog counts. -/
def State.swdtCounts (s : State) : Prop :=
  s.getB .HLTH_SWDT F.HLTH_SWDT_EN = true ∧
    ¬ ((s.engine 192).halted = true ∧ s.dbg.level = 2 ∧ s.getB .DBG_CTL F.DBG_CTL_WDT_DBG_FREEZE = true) ∧
    s.getF .HLTH_SWDT F.HLTH_SWDT_COUNT ≠ 0

theorem State.swdtCatch_looked (s : State) : s.SwdtLooked s.swdtCatch s.swdtCounts := by
  have hcounts : (s.getB .HLTH_SWDT F.HLTH_SWDT_EN && !s.swdtFrozen && s.getF .HLTH_SWDT F.HLTH_SWDT_COUNT != 0) = true ↔ s.swdtCounts := by
    have hf : s.swdtFrozen = true ↔
        (s.engine 192).halted = true ∧ s.dbg.level = 2 ∧ s.getB .DBG_CTL F.DBG_CTL_WDT_DBG_FREEZE = true := by
      simp [State.swdtFrozen, and_assoc]
    simp [State.swdtCounts, ← hf, and_assoc]
  by_cases hc : s.swdtCounts
  · have hcatch : s.swdtCatch = (s.drawNat 16).2.setF .HLTH_SWDT F.HLTH_SWDT_COUNT
        ((s.drawNat 16).1 % s.getF .HLTH_SWDT F.HLTH_SWDT_COUNT + 1) := if_pos (hcounts.mpr hc)
    have hpos : 0 < s.getF .HLTH_SWDT F.HLTH_SWDT_COUNT := Nat.pos_of_ne_zero hc.2.2
    have hlt : s.getF .HLTH_SWDT F.HLTH_SWDT_COUNT < 65536 := fld_lt _ _ _
    have hmod := Nat.mod_lt (s.drawNat 16).1 hpos
    have hcount : s.swdtCatch.getF .HLTH_SWDT F.HLTH_SWDT_COUNT = (s.drawNat 16).1 % s.getF .HLTH_SWDT F.HLTH_SWDT_COUNT + 1 := by
      rw [hcatch, State.getF_setF_self _ _ _ _ (by decide)]
      exact Nat.mod_eq_of_lt (by change _ < 65536; omega)
    refine ⟨?_, ?_, fun _ => ?_, fun hn => absurd hc hn, fun i hi => ?_⟩
    · rw [hcatch]
      exact s.onlyRegs_setReg .HLTH_SWDT _
    · rw [hcatch]
      exact Nat.le_succ _
    · rw [hcount]
      omega
    · rw [hcatch, State.reg_setF, if_pos rfl]
      change bit (setFld (s.reg .HLTH_SWDT) 31 16 _) i = _
      by_cases h : i < 36
      · rw [bit_setFld h, if_neg (by omega)]
      · exact (BitVec.getLsbD_of_ge _ _ (by omega)).trans (BitVec.getLsbD_of_ge _ _ (by omega)).symm
  · have hcatch : s.swdtCatch = s := if_neg (fun h => hc (hcounts.mp h))
    rw [hcatch]
    exact ⟨s.onlyRegs_refl _, le_rfl, fun h => absurd h hc, fun _ => ⟨rfl, rfl⟩, fun _ _ => rfl⟩

/-- The fields of HLTH_SWDT after a write by its access types: EN and TIMEOUT take the written values, COUNT stays. -/
theorem State.plainWrite_swdt (s : State) (w : Word) :
    (s.plainWrite .HLTH_SWDT w).getB .HLTH_SWDT F.HLTH_SWDT_EN = bit w 35 ∧
    (s.plainWrite .HLTH_SWDT w).getF .HLTH_SWDT F.HLTH_SWDT_TIMEOUT = fld w 15 0 ∧
    (s.plainWrite .HLTH_SWDT w).getF .HLTH_SWDT F.HLTH_SWDT_COUNT = s.getF .HLTH_SWDT F.HLTH_SWDT_COUNT := by
  have hreg : (s.plainWrite .HLTH_SWDT w).reg .HLTH_SWDT = setFld (setFld (s.reg .HLTH_SWDT) 35 35 (fld w 35 35)) 15 0 (fld w 15 0) := by
    rw [State.plainWrite, State.reg_setReg, if_pos rfl]
    rfl
  refine ⟨?_, ?_, ?_⟩
  · rw [State.getB, hreg]
    change bit _ 35 = _
    rw [bit_setFld (by decide), if_neg (by decide), bit_setFld (by decide), if_pos (by decide), testBit_fld_sub (by decide)]
  · rw [State.getF, hreg]
    exact fld_setFld_fld (by decide)
  · rw [State.getF, hreg]
    exact (fld_setFld_ne (.inr (by decide))).trans (fld_setFld_ne (.inl (by decide)))

theorem State.swdtWrite_eq (s : State) (w : Word) :
    s.swdtWrite w = if bit w 34 = true ∨ (bit w 35 = true ∧ s.getB .HLTH_SWDT F.HLTH_SWDT_EN = false)
      then (s.swdtCatch.plainWrite .HLTH_SWDT w).swdtLoad else s.swdtCatch.plainWrite .HLTH_SWDT w := by
  rw [State.swdtWrite]
  refine if_congr ?_ rfl rfl
  simp

/-- Loading the watchdog sets COUNT to TIMEOUT. -/
theorem State.swdtLoad_fields (s : State) :
    s.onlyRegs s.swdtLoad (· = .HLTH_SWDT) ∧ s.swdtLoad.getB .HLTH_SWDT F.HLTH_SWDT_EN = s.getB .HLTH_SWDT F.HLTH_SWDT_EN ∧
    s.swdtLoad.getF .HLTH_SWDT F.HLTH_SWDT_TIMEOUT = s.getF .HLTH_SWDT F.HLTH_SWDT_TIMEOUT ∧
    s.swdtLoad.getF .HLTH_SWDT F.HLTH_SWDT_COUNT = s.getF .HLTH_SWDT F.HLTH_SWDT_TIMEOUT := by
  refine ⟨s.onlyRegs_setReg _ _, ?_, State.getF_setF_ne _ _ _ _ _ _ (.inr (.inl (by decide))), ?_⟩
  · rw [State.swdtLoad, State.getB, State.reg_setF, if_pos rfl]
    change bit (setFld _ 31 16 _) 35 = _
    rw [bit_setFld (by decide), if_neg (by decide)]
    rfl
  · rw [State.swdtLoad, State.getF_setF_self _ _ _ _ (by decide)]
    exact Nat.mod_eq_of_lt (fld_lt _ 15 0)

/-! ## Lanes, the Glove's commands and BEAT_CTL -/

/-- A write to LNn_CTL: its access types, then EN, then CMD for a lane that was enabled. -/
theorem State.laneCtlWrite_eq (s : State) (n : Nat) (w : Word) :
    s.laneCtlWrite n w = if bit w 0 = true ∧ s.laneState n ≠ 0
      then ((s.plainWrite (.LN_CTL n) w).laneSetEn n (bit w 0)).laneCommand n (fld w 3 2) 0x13
      else (s.plainWrite (.LN_CTL n) w).laneSetEn n (bit w 0) := by
  rw [State.laneCtlWrite]
  refine if_congr ?_ rfl rfl
  simp [lsOFF]

theorem State.laneCommand_zero (s : State) (n cause : Nat) : s.laneCommand n 0 cause = s := by
  unfold State.laneCommand
  simp

/-- A write to LNn_MSG_TXC without SEND sets LEN alone. -/
theorem State.msgTxcWrite_len {s : State} {n : Nat} {w : Word} (h : bit w 17 = false) :
    s.msgTxcWrite n w = s.setF (.LN_MSG_TXC n) F.LN_MSG_TXC_LEN (fld w 26 18) := by
  simp [State.msgTxcWrite, h]

/-- A bit of a register outside a field that is set. -/
theorem State.bit_setF_ne {s : State} {r : Reg} {f : Nat × Nat} {v i : Nat} (h : i < f.2 ∨ f.1 < i) :
    bit ((s.setF r f v).reg r) i = bit (s.reg r) i := by
  rw [State.reg_setF, if_pos rfl]
  by_cases hi : i < 36
  · rw [bit_setFld hi, if_neg (by omega)]
  · exact (BitVec.getLsbD_of_ge _ _ (by omega)).trans (BitVec.getLsbD_of_ge _ _ (by omega)).symm

/-- A write to GLV_CMD that names no operation sets COUNT and FIRST, and STS reads done. -/
theorem State.glvCmdWrite_idle {s : State} {w : Word} (hsts : s.getF .GLV_CMD F.GLV_CMD_STS ≠ 1) (h1 : fld w 35 34 ≠ 1) (h2 : fld w 35 34 ≠ 2) :
    s.glvCmdWrite w = s.setReg .GLV_CMD (setFld (setFld (setFld (s.reg .GLV_CMD) 23 15 (fld w 23 15)) 14 0 (fld w 14 0)) 33 32 0) := by
  rw [State.glvCmdWrite, if_neg hsts]
  dsimp only
  rw [if_pos (.inl ⟨h1, h2⟩)]
  simp only [State.setF, State.reg_setReg, if_true, State.setReg_setReg]
  rfl

theorem fld_glvCmd_idle (v w : Word) :
    fld (setFld (setFld (setFld v 23 15 (fld w 23 15)) 14 0 (fld w 14 0)) 33 32 0) 23 0 = fld w 23 0 := by
  apply Nat.eq_of_testBit_eq
  intro i
  rw [testBit_fld, testBit_fld]
  by_cases hi : i < 24
  · have hbit : bit (setFld (setFld (setFld v 23 15 (fld w 23 15)) 14 0 (fld w 14 0)) 33 32 0) i = bit w i := by
      rw [bit_setFld (by omega), if_neg (by omega), bit_setFld (by omega)]
      split
      case isTrue h => exact testBit_fld_sub h
      case isFalse h => rw [bit_setFld (by omega), if_pos (by omega), testBit_fld_sub (by omega)]
    rw [Nat.zero_add]
    exact congrArg (decide (i < 23 + 1 - 0) && ·) hbit
  · rw [decide_eq_false (by omega), Bool.false_and, Bool.false_and]

theorem bit_setFld_fld {v w : Word} {hi lo i : Nat} (h : i < 36) :
    bit (setFld v hi lo (fld w hi lo)) i = if lo ≤ i ∧ i ≤ hi then bit w i else bit v i := by
  rw [bit_setFld h]
  split
  case isTrue hin => exact testBit_fld_sub hin
  · rfl

/-- BEAT_CTL after a write: OUT_EN and LOAD_ARM are written, SRC and WINDOW unless LOCKED. -/
theorem bit_applyWrite_beatCtl (locked : Bool) (old w : Word) {i : Nat} (hi : i < 36) :
    bit (applyWrite (Reg.fields .BEAT_CTL) locked old w) i =
      if i = 1 ∨ i = 2 ∨ (locked = false ∧ (i = 0 ∨ (8 ≤ i ∧ i ≤ 11))) then bit w i else bit old i := by
  cases locked with
  | true =>
    change bit (setFld (setFld old 2 2 (fld w 2 2)) 1 1 (fld w 1 1)) i = _
    rw [bit_setFld_fld hi, bit_setFld_fld hi]
    grind
  | false =>
    change bit (setFld (setFld (setFld (setFld old 11 8 (fld w 11 8)) 2 2 (fld w 2 2)) 1 1 (fld w 1 1)) 0 0 (fld w 0 0)) i = _
    rw [bit_setFld_fld hi, bit_setFld_fld hi, bit_setFld_fld hi, bit_setFld_fld hi]
    grind

/-- What a write to BEAT_CTL that stores c leaves: a change of SRC restarts acquisition, OUT_EN 0 ends the pulse, RELOCK arms under SRC. -/
structure State.BeatCtlWritten (s t : State) (c : Word) (relock : Bool) : Prop where
  only : s.onlyRegs { t with beat := s.beat } (fun r => r = .BEAT_CTL ∨ r = .BEAT_STS)
  ctl : t.reg .BEAT_CTL = c
  sts : t.reg .BEAT_STS = if bit c 0 = s.getB .BEAT_CTL F.BEAT_CTL_SRC then s.reg .BEAT_STS else setBit (s.reg .BEAT_STS) 0 (bit c 0)
  beat : t.beat = { (if bit c 0 = s.getB .BEAT_CTL F.BEAT_CTL_SRC then s.beat else { s.beat with lockCnt := 0, aligned := false }) with
    outPulse := s.beat.outPulse && bit c 1
    relock := if relock = true ∧ bit c 0 = true then true else if bit c 0 = s.getB .BEAT_CTL F.BEAT_CTL_SRC then s.beat.relock else false }

/-- BEAT_CTL takes c, and acquisition restarts where SRC changes. -/
def State.beatSrcWritten (s : State) (c : Word) : State :=
  if bit c 0 = s.getB .BEAT_CTL F.BEAT_CTL_SRC then s.setReg .BEAT_CTL c
  else { (s.setReg .BEAT_CTL c).setB .BEAT_STS F.BEAT_STS_HOLDOVER (bit c 0) with
    beat := { s.beat with lockCnt := 0, aligned := false, relock := false } }

theorem State.reg_beatSrcWritten (s : State) (c : Word) : (s.beatSrcWritten c).reg .BEAT_CTL = c := by
  unfold State.beatSrcWritten
  split
  · rw [State.reg_setReg, if_pos rfl]
  · exact (State.reg_setB_ne (by decide)).trans ((State.reg_setReg ..).trans (if_pos rfl))

theorem State.beatSrcWritten_only (s : State) (c : Word) :
    s.onlyRegs { s.beatSrcWritten c with beat := s.beat } (fun r => r = .BEAT_CTL ∨ r = .BEAT_STS) := by
  unfold State.beatSrcWritten
  split
  · exact ⟨rfl, fun r hr => (State.reg_setReg ..).trans (if_neg (fun h => hr (.inl h)))⟩
  · exact ⟨rfl, fun r hr => (State.reg_setB_ne (fun h => hr (.inr h))).trans ((State.reg_setReg ..).trans (if_neg (fun h => hr (.inl h))))⟩

theorem State.beatSrcWritten_sts (s : State) (c : Word) : (s.beatSrcWritten c).reg .BEAT_STS =
    if bit c 0 = s.getB .BEAT_CTL F.BEAT_CTL_SRC then s.reg .BEAT_STS else setBit (s.reg .BEAT_STS) 0 (bit c 0) := by
  unfold State.beatSrcWritten
  split
  · rw [State.reg_setReg, if_neg (by decide)]
  · refine (State.reg_setB ..).trans ?_
    rw [if_pos rfl, State.reg_setReg, if_neg (by decide)]
    rfl

theorem State.beatSrcWritten_beat (s : State) (c : Word) : (s.beatSrcWritten c).beat =
    if bit c 0 = s.getB .BEAT_CTL F.BEAT_CTL_SRC then s.beat else { s.beat with lockCnt := 0, aligned := false, relock := false } := by
  unfold State.beatSrcWritten
  split <;> rfl

/-- The pulse of BEAT_OUT ends without OUT_EN, and RELOCK arms under SRC. -/
def State.beatOutWritten (u : State) (c : Word) (relock : Bool) : State :=
  { u with beat := { u.beat with
    outPulse := u.beat.outPulse && bit c 1
    relock := if relock = true ∧ bit c 0 = true then true else u.beat.relock } }

theorem State.beatCtlWrite_eq {s : State} {w c : Word}
    (hc : applyWrite (Reg.fields .BEAT_CTL) (s.getB .BEAT_CTL F.BEAT_CTL_LOCKED) (s.reg .BEAT_CTL) w = c) :
    s.beatCtlWrite w = (s.beatSrcWritten c).beatOutWritten c (bit w 3) := by
  have hsrc : (s.setReg .BEAT_CTL c).getB .BEAT_CTL F.BEAT_CTL_SRC = bit c 0 := by
    rw [State.getB, State.reg_setReg, if_pos rfl]
    rfl
  have hu : (s.beatSrcWritten c).reg .BEAT_CTL = c := s.reg_beatSrcWritten c
  have hwrite : s.beatCtlWrite w = (let u := s.beatSrcWritten c
      let v := { u with beat := { u.beat with outPulse := u.beat.outPulse && u.getB .BEAT_CTL F.BEAT_CTL_OUT_EN } }
      if bit w 3 = true then v.beatRelock else v) := by
    rw [State.beatCtlWrite]
    dsimp only
    rw [hc, hsrc]
    rfl
  generalize s.beatSrcWritten c = u at hu hwrite ⊢
  have hout : u.getB .BEAT_CTL F.BEAT_CTL_OUT_EN = bit c 1 := congrArg (bit · 1) hu
  rw [hwrite]
  dsimp only
  rw [hout]
  unfold State.beatRelock State.beatOutWritten
  change (if bit w 3 = true then if bit (u.reg .BEAT_CTL) 0 = true then _ else _ else _) = _
  rw [hu]
  by_cases h3 : bit w 3 = true
  · by_cases h0 : bit c 0 = true
    · rw [if_pos h3, if_pos h0, if_pos ⟨h3, h0⟩]
    · rw [if_pos h3, if_neg h0, if_neg (fun h => h0 h.2)]
  · rw [if_neg h3, if_neg (fun h => h3 h.1)]

theorem State.beatCtlWrite_written (s : State) (w : Word) : s.BeatCtlWritten (s.beatCtlWrite w)
    (applyWrite (Reg.fields .BEAT_CTL) (s.getB .BEAT_CTL F.BEAT_CTL_LOCKED) (s.reg .BEAT_CTL) w) (bit w 3) := by
  generalize hc : applyWrite (Reg.fields .BEAT_CTL) (s.getB .BEAT_CTL F.BEAT_CTL_LOCKED) (s.reg .BEAT_CTL) w = c
  rw [State.beatCtlWrite_eq hc]
  refine ⟨s.beatSrcWritten_only c, s.reg_beatSrcWritten c, s.beatSrcWritten_sts c, ?_⟩
  rw [State.beatOutWritten, s.beatSrcWritten_beat]
  split <;> rfl

/-! ## Semaphores and the commands of the Glove by their bits -/

/-- A write to a semaphore acquires by bit 35, releases by bit 34, and does nothing by both or neither. -/
theorem State.semWrite_cases (s : State) (m : Master) (k c j : Nat) (w : Word) :
    (bit w 35 = bit w 34 → s.semWrite m k c j w = s) ∧
    (bit w 35 = true → bit w 34 = false → s.semWrite m k c j w = if s.portStill m k then s else s.semAcquire m k c j) ∧
    (bit w 35 = false → bit w 34 = true → s.semWrite m k c j w = if s.portStill m k then s else s.semRelease m k c j) := by
  unfold State.semWrite
  cases bit w 35 <;> cases bit w 34 <;> cases s.portStill m k <;> simp

/-- The command of GLV_CMD on a block acts as a write of any word with its fields. -/
theorem State.glvCmdWrite_word {s : State} {w : Word} {op first count : Nat} (hop : fld w 35 34 = op) (hfirst : first = fld w 14 0)
    (hcount : count = fld w 23 15) : s.glvCmdWrite (glvCmdWord op first count) = s.glvCmdWrite w := by
  have h1 : op < 4 := by rw [← hop]; exact fld_lt w 35 34
  have h2 : first < 32768 := by rw [hfirst]; exact fld_lt w 14 0
  have h3 : count < 512 := by rw [hcount]; exact fld_lt w 23 15
  obtain ⟨ho, hf, hc⟩ := glvCmdWord_fields op first count h1 h2 h3
  unfold State.glvCmdWrite
  rw [ho, hf, hc, hop, ← hfirst, ← hcount]

/-- A write to HELM_OTPCTL that starts nothing. -/
theorem State.otpCtlWrite_plain {s : State} {m : Master} {w : Word} (h : bit w 35 = false ∨ fld w 34 33 = 0 ∨ fld w 34 33 = 3) :
    s.otpCtlWrite m w = s.plainWrite .HELM_OTPCTL w := by
  refine if_pos ?_
  rcases h with h | h | h <;> simp [h]

end Sys2Proof.Machine
end

section
/-! PROOF. Writes of registers that have an operation of their own, register by register: O60. -/

namespace Sys2Proof.Machine

/-! ## The last of the registers, one lemma each -/

theorem bit_setBit_all {w : Word} {i j : Nat} {b : Bool} (hi : i < 36) : bit (setBit w i b) j = if j = i then b else bit w j := by
  by_cases hj : j < 36
  · exact bit_setBit hj
  · rw [if_neg (by omega)]
    exact (BitVec.getLsbD_of_ge _ _ (by omega)).trans (BitVec.getLsbD_of_ge _ _ (by omega)).symm

/-- An idle unit takes a write of CTL by its access types. -/
theorem State.ckuArmed_typed (s : State) (u : Nat) (per : Bool) (w : Word) :
    s.WrittenAsTyped { (s.ckuArmed u per).plainWrite (.CKU_CTL u) w with cku := s.cku } (.CKU_CTL u) w := by
  have h : { (s.ckuArmed u per).plainWrite (.CKU_CTL u) w with cku := s.cku } = s.plainWrite (.CKU_CTL u) w := by
    cases per <;> rfl
  rw [h]
  exact s.plainWrite_typed _ w

/-- A busy unit takes PER alone. -/
theorem State.ckuPer_only (s : State) (u : Nat) (per : Bool) : s.onlyRegs { s.ckuPer u per with cku := s.cku } (· = .CKU_CTL u) := by
  have h : { s.ckuPer u per with cku := s.cku } = s.setB (.CKU_CTL u) F.CKU_CTL_PER per := by
    cases per <;> rfl
  rw [h]
  exact s.onlyRegs_setReg _ _

theorem State.bit_ckuPer (s : State) (u : Nat) (per : Bool) (i : Nat) :
    bit ((s.ckuPer u per).reg (.CKU_CTL u)) i = if i = 30 then per else bit (s.reg (.CKU_CTL u)) i := by
  rw [State.reg_ckuPer, if_pos rfl, bit_setBit_all (by decide)]

/-- A write that starts no abort leaves what it stores; ABORT of a busy unit is CHECK_ABORT on it. -/
theorem State.ckuCtlWrite_busy_exec {s : State} {u : CkuId} {w : Word} (hb : s.getB (.CKU_STS u) F.CKU_STS_BUSY = true) :
    Host.Outcome.next (s.ckuCtlWrite u w) =
      if bit w 34 = true then exec (.checkAbort u) (s.ckuPer u (bit w 30)) else .next (s.ckuPer u (bit w 30)) := by
  rw [State.ckuCtlWrite_busy hb]
  split
  · exact congrArg Host.Outcome.next (State.ckuCtlWrite_abort hb).symm
  · rfl

/-- A change of registers after a step that draws. -/
theorem State.onlyRegs_fresh {s u v : State} {P : Reg → Prop} (h : s.onlyRegs { u with fresh := s.fresh } P) (h' : u.onlyRegs v P) :
    s.onlyRegs { v with fresh := s.fresh } P :=
  ⟨(congrArg (fun x : State => { x with regs := s.regs, fresh := s.fresh }) h'.1).trans h.1, fun r hr => (h'.2 r hr).trans (h.2 r hr)⟩

/-- A write that loads the watchdog sets COUNT to TIMEOUT. -/
theorem State.swdtWrite_loads {s : State} {w : Word} (h : bit w 34 = true ∨ (bit w 35 = true ∧ s.getB .HLTH_SWDT F.HLTH_SWDT_EN = false)) :
    s.onlyRegs { s.swdtWrite w with fresh := s.fresh } (· = .HLTH_SWDT) ∧ (s.swdtWrite w).getF .HLTH_SWDT F.HLTH_SWDT_COUNT = fld w 15 0 := by
  obtain ⟨honly, _, _, hcount⟩ := (s.swdtCatch.plainWrite .HLTH_SWDT w).swdtLoad_fields
  obtain ⟨_, htimeout, _⟩ := s.swdtCatch.plainWrite_swdt w
  rw [State.swdtWrite_eq, if_pos h, hcount, htimeout]
  exact ⟨State.onlyRegs_fresh s.swdtCatch_looked.only ((State.onlyRegs_setReg _ _ _).trans honly), rfl⟩

/-- A write that does not load it leaves COUNT as it was looked at. -/
theorem State.swdtWrite_looks {s : State} {w : Word} (h : ¬ (bit w 34 = true ∨ (bit w 35 = true ∧ s.getB .HLTH_SWDT F.HLTH_SWDT_EN = false))) :
    s.onlyRegs { s.swdtWrite w with fresh := s.fresh } (· = .HLTH_SWDT) ∧ s.fresh ≤ (s.swdtWrite w).fresh ∧
      (s.swdtCounts → 0 < (s.swdtWrite w).getF .HLTH_SWDT F.HLTH_SWDT_COUNT ∧
        (s.swdtWrite w).getF .HLTH_SWDT F.HLTH_SWDT_COUNT ≤ s.getF .HLTH_SWDT F.HLTH_SWDT_COUNT) ∧
      (¬ s.swdtCounts → (s.swdtWrite w).getF .HLTH_SWDT F.HLTH_SWDT_COUNT = s.getF .HLTH_SWDT F.HLTH_SWDT_COUNT ∧ (s.swdtWrite w).fresh = s.fresh) := by
  obtain ⟨honly, hfresh, hfell, hstood, _⟩ := s.swdtCatch_looked
  obtain ⟨_, _, hcount⟩ := s.swdtCatch.plainWrite_swdt w
  rw [State.swdtWrite_eq, if_neg h, hcount]
  exact ⟨State.onlyRegs_fresh honly (State.onlyRegs_setReg _ _ _), hfresh, hfell, hstood⟩

/-- EN and TIMEOUT take the written values. -/
theorem State.swdtWrite_fields (s : State) (w : Word) :
    (s.swdtWrite w).getB .HLTH_SWDT F.HLTH_SWDT_EN = bit w 35 ∧ (s.swdtWrite w).getF .HLTH_SWDT F.HLTH_SWDT_TIMEOUT = fld w 15 0 := by
  obtain ⟨hen, htimeout, _⟩ := s.swdtCatch.plainWrite_swdt w
  obtain ⟨_, hen', htimeout', _⟩ := (s.swdtCatch.plainWrite .HLTH_SWDT w).swdtLoad_fields
  rw [State.swdtWrite_eq]
  split
  · exact ⟨hen'.trans hen, htimeout'.trans htimeout⟩
  · exact ⟨hen, htimeout⟩

/-- NOM of HLTH_CLK takes a value in range and CEIL stays. -/
theorem State.nomWrite_ok {s : State} {w : Word}
    (h : fld w 10 0 % 50 = 0 ∧ 800 ≤ fld w 10 0 ∧ fld w 10 0 ≤ s.getF .HLTH_CLK F.HLTH_CLK_CEIL) :
    s.onlyRegs (s.nomWrite w) (· = .HLTH_CLK) ∧ (s.nomWrite w).getF .HLTH_CLK F.HLTH_CLK_NOM = fld w 10 0 ∧
      (s.nomWrite w).getF .HLTH_CLK F.HLTH_CLK_CEIL = s.getF .HLTH_CLK F.HLTH_CLK_CEIL := by
  have ht : s.nomWrite w = s.setF .HLTH_CLK F.HLTH_CLK_NOM (fld w 10 0) := if_pos h
  rw [ht]
  refine ⟨s.onlyRegs_setReg _ _, ?_, State.getF_setF_ne _ _ _ _ _ _ (.inr (.inr (by decide)))⟩
  rw [State.getF_setF_self _ _ _ _ (by decide)]
  exact Nat.mod_eq_of_lt (fld_lt w 10 0)

/-- BEAT_OUT is inactive without OUT_EN. -/
theorem State.balls_beatOut {s : State} (h : s.getB .BEAT_CTL F.BEAT_CTL_OUT_EN = false) : s.balls.beatOut = false := by
  simp [State.balls, h]

/-- Bits of BEAT_STS after a write of BEAT_CTL: HOLDOVER follows a changed SRC. -/
theorem State.BeatCtlWritten.bit_sts {s t : State} {c : Word} {relock : Bool} (h : s.BeatCtlWritten t c relock) (i : Nat) :
    bit (t.reg .BEAT_STS) i = if bit c 0 ≠ s.getB .BEAT_CTL F.BEAT_CTL_SRC ∧ i = 0 then bit c 0 else bit (s.reg .BEAT_STS) i := by
  rw [h.sts]
  by_cases hsrc : bit c 0 = s.getB .BEAT_CTL F.BEAT_CTL_SRC
  · rw [if_pos hsrc, if_neg (fun hne => hne.1 hsrc)]
  · rw [if_neg hsrc, bit_setBit_all (by decide)]
    exact if_congr ⟨fun hi => ⟨hsrc, hi⟩, And.right⟩ rfl rfl

/-- Settles O60: each such register is written at its address, by State.writeReg, as the command of its name. -/
theorem writesOfRegistersWithAnOperationOfTheirOwn : Obligations.WritesOfRegistersWithAnOperationOfTheirOwn := by
  unfold Obligations.WritesOfRegistersWithAnOperationOfTheirOwn
  intro m a w s wr plain at' then' keeps
  have hat {r : Reg} {t : State} (h : at' r) (hw : s.writeReg m r w = t) : wr = .next t := by
    rw [← hw]
    exact exec_registerWrite_at h
  have hplain {r : Reg} (h : at' r) (hw : s.writeReg m r w = s.plainWrite r w) : plain r := ⟨_, hat h hw, s.plainWrite_typed r w⟩
  have hif {r : Reg} {p : Prop} [Decidable p] (h : at' r) (hw : s.writeReg m r w = if p then s else s.plainWrite r w) :
      (p → wr = .next s) ∧ (¬ p → plain r) :=
    ⟨fun hp => hat h (hw.trans (if_pos hp)), fun hp => hplain h (hw.trans (if_neg hp))⟩
  have hrun {r : Reg} {k : Nat} (h : at' r) (hw : s.writeReg m r w = s.unlessRunning k r w) :
      (s.running k = true → wr = .next s) ∧ (s.running k = false → plain r) :=
    ⟨(hif h hw).1, fun hk => (hif h hw).2 (by simp [hk])⟩
  have hkeeps {r : Reg} {f : Nat × Nat} {ok : Prop} [Decidable ok] (h36 : f.1 < 36) (h : at' r)
      (hw : s.writeReg m r w = s.plainWrite r (if ok then w else s.keepField r f w)) : keeps r f ok := by
    obtain ⟨v, hv, hout, hin, hkeep⟩ := State.plainWrite_keepField (s := s) (r := r) (w := w) (ok := ok) h36
    exact ⟨_, v, hat h (hw.trans hv), s.plainWrite_typed r v, hout, hin, hkeep⟩
  refine ⟨fun k r hr h => ?_, fun k j r hr h => ?_, fun j r hr h => ?_, fun k h => ?_, fun u r hr h => ?_, fun h => ?_, fun h => hat h rfl,
    fun k => ⟨fun h => hat h rfl, fun h => hat h rfl, fun h => hat h rfl, fun h => ?_⟩, fun k c j h => ?_, fun c x h => ?_, fun h => ?_,
    fun h => ?_, fun k h => hat h rfl, fun h => ?_, ?_⟩
  · simp only [List.mem_cons, List.not_mem_nil, or_false] at hr
    rcases hr with rfl | rfl | rfl | rfl | rfl | rfl <;> exact hrun h rfl
  · have hk : k.val ≠ 6 := by omega
    simp only [List.mem_cons, List.not_mem_nil, or_false] at hr
    rcases hr with rfl | rfl <;> exact hrun h (if_neg hk)
  · have hsve {r : Reg} (hr : s.writeReg m r w = if m = .sve true then s.plainWrite r w else s) (h : at' r) :
        (m ≠ .sve true → wr = .next s) ∧ (m = .sve true → plain r) :=
      ⟨fun hm => hat h (hr.trans (if_neg hm)), fun hm => hplain h (hr.trans (if_pos hm))⟩
    simp only [List.mem_cons, List.not_mem_nil, or_false] at hr
    rcases hr with rfl | rfl <;> exact hsve rfl h
  · exact hif h rfl
  · have hbusy : s.writeReg m r w = if s.getB (.CKU_STS u) F.CKU_STS_BUSY = true then s else s.plainWrite r w := by
      simp only [List.mem_cons, List.not_mem_nil, or_false] at hr
      rcases hr with rfl | rfl | rfl <;> rfl
    exact ⟨(hif h hbusy).1, fun hb => (hif h hbusy).2 (by simp [hb])⟩
  · exact hif h rfl
  · refine (hat h rfl).trans ?_
    change Host.Outcome.next (if bit w 35 = true then _ else _) = _
    split <;> rfl
  · obtain ⟨hnone, hacquire, hrelease⟩ := s.semWrite_cases m k c j w
    exact ⟨fun hb => hat h (hnone hb), fun h35 h34 => hat h (hacquire h35 h34), fun h35 h34 => hat h (hrelease h35 h34)⟩
  · refine (hat h rfl).trans ?_
    change Host.Outcome.next (s.dmaPost m (8 * (c.val / 8) + c.val % 8) x w) = _
    rw [Nat.div_add_mod]
    rfl
  · constructor
    · rintro n ring hm
      refine hat h ?_
      rw [hm]
      rfl
    · intro hm
      refine hat h ?_
      cases m with
      | engine n ring => exact absurd rfl (hm n ring)
      | sve b => rfl
      | debug => rfl
  · refine (hat h rfl).trans ?_
    change Host.Outcome.next (if bit w 35 = true then _ else _) = _
    split <;> rfl
  · refine ⟨fun first count hf hc => ⟨fun hop => ?_, fun hop => ?_⟩, fun h1 h2 => ⟨fun hs => ?_, fun hs => ?_⟩⟩
    · exact hat h (State.glvCmdWrite_word hop hf hc).symm
    · exact hat h (State.glvCmdWrite_word hop hf hc).symm
    · exact hat h (if_pos hs)
    · refine ⟨_, hat h (State.glvCmdWrite_idle hs h1 h2), s.onlyRegs_setReg _ _, ?_, ?_⟩
      · rw [State.getF_setReg, if_pos rfl]
        exact fld_setFld_self (by decide)
      · rw [State.reg_setReg, if_pos rfl]
        exact fld_glvCmd_idle _ w
  refine ⟨fun n => ⟨fun h => hat h rfl, fun h => hat h rfl, fun h => ⟨fun h17 => ?_, fun h17 => ?_⟩, fun h => ?_⟩, fun h => hat h rfl,
    fun h => ⟨fun h35 => ?_, fun h35 h16 => ?_, fun h35 h16 => ?_⟩, fun h => ⟨fun h35 hop => ?_, fun h35 hop => ?_, fun hno => ?_⟩,
    fun h => ⟨fun h35 => ?_, fun h35 h34 => ?_, fun h35 h34 => ?_⟩, fun u => ?_, fun g h => ⟨fun hno => ?_, fun hok => ?_⟩,
    fun n => ⟨fun h => ⟨fun hno => ?_, fun hok => ?_⟩, fun k r hr h => ⟨fun hno => ?_, fun hok => ?_⟩⟩, fun h => ?_, fun k h => ?_, fun h => ?_,
    ?_, fun h => ?_⟩
  · refine hat h (t := s.msgTxcWrite n (setBit w 17 true)) ?_
    rw [setBit_bit h17]
    rfl
  · refine ⟨_, hat h (State.msgTxcWrite_len h17), s.onlyRegs_setReg _ _, ?_, fun i hi => State.bit_setF_ne hi⟩
    rw [State.getF_setF_self _ _ _ _ (by decide)]
    exact Nat.mod_eq_of_lt (fld_lt w 26 18)
  · refine ⟨s.plainWrite (.LN_CTL n) w, (s.plainWrite (.LN_CTL n) w).laneSetEn n (bit w 0), s.plainWrite_typed _ w, ?_, ?_⟩
    · cases bit w 0 <;> rfl
    · intro acts
      have hwr := hat h (s.laneCtlWrite_eq n w)
      refine ⟨fun hno => ?_, fun ha hc => ?_, fun ha hc => ?_, fun ha hc => ?_⟩
      · rw [hwr]
        split
        case isTrue ha => rw [hno.resolve_left (not_not.mpr ha), State.laneCommand_zero]
        · rfl
      all_goals
        rw [hwr, if_pos ha, hc]
        rfl
  · refine hat h (t := s.mbxRctl (setBit w 35 true)) ?_
    rw [setBit_bit h35]
    rfl
  · exact hplain h ((State.mbxRctl_eq h35).trans (if_neg (by simp [h16])))
  · exact ⟨_, s.plainWrite_typed _ w, hat h (State.mbxRctl_ready h35 h16)⟩
  · refine hat h (t := s.otpCtlWrite m (setFld (setBit w 35 true) 34 33 1)) ?_
    rw [setBit_bit h35, setFld_fld hop.symm]
    rfl
  · refine hat h (t := s.otpCtlWrite m (setFld (setBit w 35 true) 34 33 2)) ?_
    rw [setBit_bit h35, setFld_fld hop.symm]
    rfl
  · exact hplain h (State.otpCtlWrite_plain hno)
  · refine hat h (t := s.marchCtlWrite (setBit w 35 true)) ?_
    rw [setBit_bit h35]
    rfl
  · exact hplain h (State.marchCtlWrite_plain h35 h34)
  · exact ⟨_, s.plainWrite_typed _ w, hat h (State.marchCtlWrite_abort h34)⟩
  · intro busy armed
    refine ⟨fun h => ⟨fun h35 => ?_, fun h35 hb => ?_, fun h35 hb => ?_⟩, fun h => ?_⟩
    · refine hat h (t := s.ckuCtlWrite u (setBit w 35 true)) ?_
      rw [setBit_bit h35]
      rfl
    · exact ⟨_, hat h (State.ckuCtlWrite_idle h35 (by simpa [busy] using hb)), s.ckuArmed_cku u _, s.ckuArmed_typed u _ w⟩
    · exact ⟨s.ckuPer u (bit w 30), s.ckuArmed_cku u _, s.ckuPer_only u _, s.bit_ckuPer u _, (hat h rfl).trans (State.ckuCtlWrite_busy_exec hb)⟩
    · refine ⟨_, _, hat h (s.ckuStsWrite_eq u w), s.plainWrite_typed _ w, ?_, fun h34 => if_neg (by simp [h34]), fun h34 => ?_⟩
      · split
        · exact (s.onlyRegs_setReg _ _).trans (State.onlyRegs_setReg _ _ _)
        · exact s.onlyRegs_setReg _ _
      · rw [if_pos h34]
        exact ⟨State.getF_setF_self _ _ _ _ (by decide), fun i hi => State.bit_setF_ne hi⟩
  · exact hat h (if_pos (by simp [hno]))
  · split
    case isTrue h35 => exact ⟨_, s.plainWrite_typed _ w, hat h (State.gongWrite_fire hok h35)⟩
    case isFalse h35 =>
      refine hplain h ?_
      change s.gongWrite m g w = _
      rw [State.gongWrite, hok]
      exact if_neg h35
  · exact hat h (if_pos (by simp [hno]))
  · refine ⟨s.plainWrite (.DBG_ECTL n) w, (s.plainWrite (.DBG_ECTL n) w).haltAsked n (bit w 35), s.plainWrite_typed _ w, ?_, ?_⟩
    · cases bit w 35 with
      | true => exact congrArg Host.Outcome.next (State.ectlWrite_halt hok)
      | false => rfl
    · refine (hat h (State.ectlWrite_eq hok)).trans ?_
      split
      · exact congrArg Host.Outcome.next (State.ectlWrite_resume _ hok).symm
      · rfl
  · simp only [List.mem_cons, List.not_mem_nil, or_false] at hr
    rcases hr with rfl | rfl <;> exact hat h (if_pos (by simp [hno]))
  · have hcmp : s.writeReg m r w = s.plainWrite r (if fld w 34 33 ≠ 3 then w else s.keepField r F.DBG_BCTL_ACT w) := by
      have heq : s.writeReg m r w = s.cmpCtlWrite m n r w := by
        simp only [List.mem_cons, List.not_mem_nil, or_false] at hr
        rcases hr with rfl | rfl <;> rfl
      rw [heq, State.cmpCtlWrite, hok, ite_not]
      rfl
    exact hkeeps (by decide) h hcmp
  · exact hkeeps (by decide) h rfl
  · exact hkeeps (by decide) h rfl
  · exact ⟨fun hno => hat h (if_neg hno), fun hok => ⟨_, hat h rfl, State.nomWrite_ok hok⟩⟩
  · intro r old frozen counts looked
    refine ⟨fun h => ?_, fun h => ⟨fun hm => hat h (if_neg hm), fun hm => ?_⟩⟩
    · obtain ⟨hen, htimeout⟩ := s.swdtWrite_fields w
      exact ⟨_, hat h rfl, hen, htimeout, State.swdtWrite_loads, State.swdtWrite_looks⟩
    · obtain ⟨honly, hfresh, hfell, hstood, hothers⟩ := s.swdtCatch_looked
      exact ⟨s.swdtCatch, _, ⟨honly, hfresh, hfell, hstood⟩, hothers, hat h (if_pos hm), s.swdtCatch.plainWrite_typed _ w⟩
  · have hctl := s.beatCtlWrite_written w
    refine ⟨s.beatCtlWrite w, hat h rfl, hctl.only, ?_⟩
    intro locked was src out
    have hsrc : src = bit (applyWrite (Reg.fields .BEAT_CTL) (s.getB .BEAT_CTL F.BEAT_CTL_LOCKED) (s.reg .BEAT_CTL) w) 0 := congrArg (bit · 0) hctl.ctl
    have hout : out = bit (applyWrite (Reg.fields .BEAT_CTL) (s.getB .BEAT_CTL F.BEAT_CTL_LOCKED) (s.reg .BEAT_CTL) w) 1 := congrArg (bit · 1) hctl.ctl
    refine ⟨fun i hi => ?_, ?_, ?_, State.balls_beatOut⟩
    · rw [hctl.ctl, bit_applyWrite_beatCtl _ _ _ hi]
      refine if_congr (or_congr_right (or_congr_right (and_congr_left' ?_))) rfl rfl
      rw [← Bool.not_eq_true]
    · rw [hsrc]
      exact hctl.bit_sts
    · rw [hctl.beat, hsrc, hout]

end Sys2Proof.Machine
end

section
/-! SUPPORT. Reads of chio that wait: what the return of one changes, and chio.st field by field (R64, R87, Table 3.5). Settles O30. -/

namespace Sys2Proof.Machine

/-! ## chio.st (Table 3.5) -/

/-- The status word by its fields. -/
theorem State.chioSt_fields (s : State) (c code flags : Nat) (exp lost chk : Bool) :
    let w := s.chioSt c code flags exp lost chk
    fld w 3 0 = code % 16 ∧ bit w 4 = chk ∧ bit w 5 = lost ∧ bit w 6 = exp ∧ bit w 7 = (s.ch c).tripB ∧ fld w 11 8 = flags % 16 ∧
      fld w 19 16 = (s.q c).stOcc % 16 ∧ fld w 24 20 = (s.q (32768 + c)).stOcc % 32 ∧ fld w 15 12 = 0 ∧ fld w 35 25 = 0 := by
  simp (disch := omega) [State.chioSt, put, fld_setFld_self, fld_setFld_ne, fld_setBit_ne, bit_setFld, bit_setBit]
  exact ⟨fld_zero _ _, fld_zero _ _⟩

theorem fld_pair_eq_zero {w : Word} {i : Nat} (h : bit w i = false) (h' : bit w (i + 1) = false) : fld w (i + 1) i = 0 := by
  apply Nat.eq_of_testBit_eq
  intro j
  rw [testBit_fld, Nat.zero_testBit]
  by_cases hj : j = 0
  · simpa [hj, bit] using h
  · by_cases hj1 : j = 1
    · subst hj1
      exact (congrArg (_ && ·) h').trans (Bool.and_false _)
    · have hout : ¬ j < i + 1 + 1 - i := by omega
      simp [hout]

/-! ## What a short operation that lands changes of its engine (R141, R237, R239) -/

theorem Engine.setResult_foldl (l : List (Nat × Word)) (x : Engine) :
    l.foldl (fun y p => y.setResult p.1 p.2) x = { x with res := (l.foldl (fun y p => y.setResult p.1 p.2) x).res } := by
  induction l generalizing x with
  | nil => rfl
  | cons p l ih => rw [List.foldl_cons, ih]; rfl

theorem Engine.land_eq (x : Engine) (e : Nat) (f : Flight) : ∃ r d c p, x.land e f = { x with res := r, done := d, csr := c, fpShort := p } := by
  unfold Engine.land
  rw [Engine.setResult_foldl]
  dsimp only
  split <;> split <;> split <;> try split
  all_goals exact ⟨_, _, _, _, rfl⟩

theorem Engine.foldl_land_eq (e : Nat) (l : List Flight) (x : Engine) :
    ∃ r d c p, l.foldl (fun y f => y.land e f) x = { x with res := r, done := d, csr := c, fpShort := p } := by
  induction l generalizing x with
  | nil => exact ⟨_, _, _, _, rfl⟩
  | cons f l ih =>
    obtain ⟨r, d, c, p, h⟩ := x.land_eq e f
    obtain ⟨r', d', c', p', h'⟩ := ih (x.land e f)
    exact ⟨r', d', c', p', by rw [List.foldl_cons, h', h]⟩

theorem Engine.landUpTo_waitRead (x : Engine) (e c : Nat) : (x.landUpTo e c).waitRead = x.waitRead := by
  unfold Engine.landUpTo
  dsimp only
  obtain ⟨r, d, cs, p, h⟩ := Engine.foldl_land_eq e (x.flights.filter (fun f => decide (f.due ≤ c)))
    { x with flights := x.flights.filter (fun f => !decide (f.due ≤ c)) }
  rw [h]

/-! ## The return of waiting reads (R64) -/

/-- The part of engine e in the return of the waiting reads. -/
def State.chioArrival (st : State) (e : Nat) : State :=
  match (st.engine e).waitRead with
  | some w => if st.chioWaits e w.ch then st else st.chioWake e (st.chioReadNow e w.ch w.k).1 (st.chioReadNow e w.ch w.k).2
  | none => st

theorem State.chioArrivals_eq (s : State) : s.chioArrivals = (s.eng.map (fun p => p.1)).foldl State.chioArrival s := rfl

theorem State.chioArrival_frame (st : State) (e : Nat) : ∃ m, st.chioArrival e = { st with eng := m } := by
  unfold State.chioArrival
  split
  · split
    · exact ⟨_, rfl⟩
    · exact ⟨_, rfl⟩
  · exact ⟨_, rfl⟩

/-- An engine without a waiting read stays as it is. -/
theorem State.chioArrival_engine {st : State} {n : Nat} (h : (st.engine n).waitRead = none) (e : Nat) :
    (st.chioArrival e).engine n = st.engine n := by
  unfold State.chioArrival
  split
  case h_1 w hw =>
    have hne : n ≠ e := fun hn => by rw [hn, hw] at h; cases h
    split
    · rfl
    · simp [State.chioWake, hne]
  case h_2 => rfl

theorem State.chioArrivals_frame (s : State) : ∃ m, s.chioArrivals = { s with eng := m } := by
  rw [State.chioArrivals_eq]
  generalize s.eng.map (fun p => p.1) = l
  induction l generalizing s with
  | nil => exact ⟨_, rfl⟩
  | cons e l ih =>
    obtain ⟨m, hm⟩ := s.chioArrival_frame e
    obtain ⟨m', hm'⟩ := ih (s.chioArrival e)
    exact ⟨m', by rw [List.foldl_cons, hm', hm]⟩

theorem State.chioArrivals_engine {s : State} {n : Nat} (h : (s.engine n).waitRead = none) : s.chioArrivals.engine n = s.engine n := by
  rw [State.chioArrivals_eq]
  generalize s.eng.map (fun p => p.1) = l
  induction l generalizing s with
  | nil => rfl
  | cons e l ih =>
    have he := State.chioArrival_engine h e
    rw [List.foldl_cons, ih (he ▸ h), he]

/-! ## The wait limit and lim.y -/

theorem State.chioWake_waitRead (s : State) (e : Nat) (y st : Word) : ((s.chioWake e y st).engine e).waitRead = none := by
  simp [State.chioWake, Engine.landUpTo_waitRead]

/-- The section counts an expired read of a lane. -/
def Section.expire (x : Section) (lane : Nat) : Section :=
  { x with laneExpired := lane :: x.laneExpired, expired := satAdd x.expired 1 15 }

theorem State.streamedWaitExpiry_eq {s : State} {e : EngId} {w : WaitRead} (h : (s.engine e).waitRead = some w) :
    let u := s.setSect (sectOf e) ((s.sect (sectOf e)).expire (w.ch / 2048))
    exec (.streamedWaitExpiry e) s = .next (u.chioWake e 0 (u.chioSt w.ch 1 0 true false false)).chioArrivals := by
  change execStreamedWaitExpiry e s = _
  rw [execStreamedWaitExpiry, h]
  rfl

theorem Engine.limWrite_half (x : Engine) (hi : Bool) (v : Word) : ∃ y : Word, x.limWrite hi v = x.setResult 0x284 y ∧
    y.toNat = if hi then v.toNat % 2 ^ 18 * 2 ^ 18 + (x.result 0x284).toNat % 2 ^ 18
      else (x.result 0x284).toNat / 2 ^ 18 * 2 ^ 18 + v.toNat % 2 ^ 18 := by
  refine ⟨_, rfl, ?_⟩
  generalize x.result 0x284 = w
  have hhalves : ∀ y : Word, y.toNat = fld y 35 18 * 2 ^ 18 + fld y 17 0 := fun y => by
    have := y.isLt
    simp only [fld, Nat.shiftRight_eq_div_pow]
    omega
  have hlow : ∀ y : Word, fld y 17 0 = y.toNat % 2 ^ 18 := fun y => by simp [fld]
  have hhigh : fld w 35 18 = w.toNat / 2 ^ 18 := by
    have := w.isLt
    simp only [fld, Nat.shiftRight_eq_div_pow]
    omega
  cases hi with
  | true =>
    change (setFld w 35 18 (fld v 17 0)).toNat = _
    rw [hhalves, fld_setFld_self (by omega), fld_setFld_ne (by omega), hlow, hlow, Nat.mod_mod]
    rfl
  | false =>
    change (setFld w 17 0 (fld v 17 0)).toNat = _
    rw [hhalves, fld_setFld_self (by omega), fld_setFld_ne (by omega), hlow, hhigh, Nat.mod_mod]
    rfl

/-- Settles O30: the row of the expiry by whether a read waits, and the two halves of lim.y. -/
theorem expiredReadsAndLimitHalves : Obligations.ExpiredReadsAndLimitHalves := by
  unfold Obligations.ExpiredReadsAndLimitHalves
  intro e v s x k
  refine ⟨fun h => ?_, fun w hw => ?_, fun hi => ?_⟩
  · change execStreamedWaitExpiry e s = _
    rw [execStreamedWaitExpiry, h]
  · obtain ⟨u, hu⟩ : ∃ u, s.setSect k ((s.sect k).expire (w.ch / 2048)) = u := ⟨_, rfl⟩
    obtain ⟨st, hst⟩ : ∃ st, u.chioSt w.ch 1 0 true false false = st := ⟨_, rfl⟩
    obtain ⟨m, hm⟩ := (u.chioWake e 0 st).chioArrivals_frame
    have hsect : ∀ j, (u.chioWake e 0 st).chioArrivals.sect j = u.sect j := fun j => by rw [hm]; rfl
    have hother : ∀ f : Nat, f ≠ e → (u.chioWake e 0 st).engine f = s.engine f := fun f hf => by
      rw [← hu]
      simp [State.chioWake, hf]
    obtain ⟨hcode, hchk, hlost, hexp, -⟩ := u.chioSt_fields w.ch 1 0 true false false
    rw [hst] at hcode hchk hlost hexp
    refine ⟨_, State.streamedWaitExpiry_eq hw, ?_⟩
    rw [show s.setSect (sectOf e) _ = u from hu, hst]
    refine ⟨⟨st, hcode, hexp, ?_, ?_⟩, ?_, ?_, fun j hj => ?_, fun f hf => ?_, ?_⟩
    · exact fld_pair_eq_zero hchk hlost
    · rw [State.chioArrivals_engine (u.chioWake_waitRead e 0 st), ← hu]
      simp [State.chioWake, x, hw]
    · rw [hsect, ← hu]
      simp [Section.expire, satAdd_eq_min]
    · rw [hsect, ← hu]
      simp [Section.expire]
    · rw [hsect, ← hu]
      simp [hj]
    · have hne : f ≠ e := fun h => by rw [h] at hf; exact absurd (hf.symm.trans hw) nofun
      rw [State.chioArrivals_engine (by rw [hother f hne, hf]), hother f hne]
    · rw [hm, ← hu]
      rfl
  · obtain ⟨y, hy, hval⟩ := x.limWrite_half hi v
    refine ⟨y, ?_, hval⟩
    rw [← hy]
    cases hi <;> rfl

end Sys2Proof.Machine
end

section
/-! PROOF. The commands of chio (R76, R82 to R88, R92 to R97, Table 3.5): O29. -/

namespace Sys2Proof.Machine

/-! ## The end of a chio operation -/

/-- Engine e of s when a chio operation has left y and st in its result ports. -/
def Engine.chioDone (x : Engine) (y st : Word) : Engine := ((x.setResult 0x264 y).setResult 0x265 st).setDone uChio x.cyc

theorem State.opRow_chioRes (s t : State) (e : Nat) (y st : Word) :
    s.opRow e uChio (chioRes t y st) = t.withEngineAfter e ((t.engine e).chioDone y st) := by
  simp [State.opRow, chioRes, Engine.land, State.withEngineAfter, Engine.chioDone, Engine.setResult, Engine.setDone]

/-! ## Operands -/

theorem chioTrigger_fields (t : Word) : fld t 14 0 = t.toNat % 2 ^ 15 ∧ fld t 17 16 = t.toNat / 2 ^ 16 % 4 ∧ fld t 19 16 = t.toNat / 2 ^ 16 % 16 := by
  simp [fld, Nat.shiftRight_eq_div_pow]

/-- The address check of R84 on the n bytes at a. -/
theorem chioAddrBad_cases {a n : Nat} (w : Word) (hw : w.toNat = a) :
    chioAddrBad a n = if a % 8 ≠ 0 ∨ 0x10000 ≤ a then some w else if 0x10000 < a + n then some 0x10000 else none := by
  have hofNat : BitVec.ofNat 36 a = w := by rw [← hw, BitVec.ofNat_toNat, BitVec.setWidth_eq]
  rw [chioAddrBad, hofNat]
  by_cases h8 : a % 8 ≠ 0
  · simp [h8]
  · by_cases hout : 0x10000 ≤ a <;> simp [h8, hout]

/-! ## The local scratchpad -/

/-- The address of a byte of a cluster window, by its section, cluster and offset (R30). -/
theorem windowOf_eq {c off : Nat} (hc : c < 48) (hoff : off < 0x400000) : windowOf (windowBase c + off) = some (c, off) := by
  have hrange : 0x010000000 ≤ windowBase c + off ∧ windowBase c + off < 0x01C000000 := by
    unfold windowBase
    omega
  rw [windowOf, if_pos hrange]
  unfold windowBase
  simp only [Option.some.injEq, Prod.mk.injEq]
  omega

theorem memOf_window {c off : Nat} (hc : c < 48) (hoff : off < 0x400000) : memOf (windowBase c + off) = windowMem c off := by
  rw [memOf, windowOf_eq hc hoff]

theorem memOf_spad {e j : Nat} (he : e < 192) (hj : j < 0x10000) : memOf (spadBase e + j) = some (.spad e) := by
  have hbase : spadBase e + j = windowBase (e / 4) + (0x100000 + e % 4 * 0x40000 + j) := by
    rw [spadBase, if_neg (by omega)]
    omega
  rw [hbase, memOf_window (by omega) (by omega), windowMem, if_neg (by omega)]
  dsimp only
  rw [if_pos (by omega)]
  simp only [Option.some.injEq, MemId.spad.injEq]
  omega

/-! ## The engine's stores that memory does not show yet -/

theorem State.eccUncorrectable_eng (s : State) (ca : Nat) : (s.eccUncorrectable ca).eng = s.eng := by
  have hlog : ∀ (u : State) (a b : Nat), (u.logEvt a b).eng = u.eng := fun u a b => by
    unfold State.logEvt
    split <;> rfl
  have hmark : (s.markBad ca).eng = s.eng := by
    unfold State.markBad
    split <;> rfl
  unfold State.eccUncorrectable
  dsimp only
  split
  · exact (hlog _ _ _).trans hmark
  · exact (hlog _ _ _).trans hmark
  · split
    · exact (hlog _ _ _).trans hmark
    · exact hmark
  · exact hmark

theorem State.storeWordBytes_engine (s : State) (ca : Nat) (bs : List Byte9) (k n : Nat) :
    ∃ r, (s.storeWordBytes ca bs k).engine n = { s.engine n with resv := r } := by
  unfold State.storeWordBytes
  dsimp only
  split
  · refine ⟨(s.engine n).resv, ?_⟩
    split <;> exact congrArg (fun m => SMap.get _ m n) (s.eccUncorrectable_eng _)
  · exact State.setWord_engine _ _ _ _

theorem State.storeBytes_engine (s : State) (ca : Nat) (bs : List Byte9) (n : Nat) :
    ∃ r, (s.storeBytes ca bs).engine n = { s.engine n with resv := r } := by
  unfold State.storeBytes
  split
  · exact ⟨_, rfl⟩
  · generalize List.range _ = l
    induction l generalizing s with
    | nil => exact ⟨_, rfl⟩
    | cons k l ih =>
      obtain ⟨r, hr⟩ := s.storeWordBytes_engine ca bs (ca / 4 + k) n
      obtain ⟨r', hr'⟩ := ih (s.storeWordBytes ca bs (ca / 4 + k))
      exact ⟨r', by rw [List.foldl_cons, hr', hr]⟩

theorem State.storeBytes_march (s : State) (ca : Nat) (bs : List Byte9) : (s.storeBytes ca bs).march = s.march := by
  have hword : ∀ (u : State) (k : Nat), (u.storeWordBytes ca bs k).march = u.march := fun u k => by
    unfold State.storeWordBytes State.setWord
    dsimp only
    split
    · split <;> exact (u.eccUncorrectable_same _).march
    · split <;> rfl
  unfold State.storeBytes
  split
  · rfl
  · generalize List.range _ = l
    induction l generalizing s with
    | nil => rfl
    | cons k l ih => exact (ih _).trans (hword s _)

/-- Stores performed one after the other. -/
def State.performAll (s : State) (l : List OldStore) : State := l.foldl (fun st o => st.storeBytes o.addr o.bytes) s

theorem State.performAll_engine (s : State) (l : List OldStore) (n : Nat) :
    ∃ r, (s.performAll l).engine n = { s.engine n with resv := r } := by
  induction l generalizing s with
  | nil => exact ⟨_, rfl⟩
  | cons o l ih =>
    obtain ⟨r, hr⟩ := s.storeBytes_engine o.addr o.bytes n
    obtain ⟨r', hr'⟩ := ih (s.storeBytes o.addr o.bytes)
    exact ⟨r', by rw [State.performAll, List.foldl_cons, ← State.performAll, hr', hr]⟩

theorem State.performAll_march (s : State) (l : List OldStore) : (s.performAll l).march = s.march := by
  induction l generalizing s with
  | nil => rfl
  | cons o l ih => exact (ih _).trans (s.storeBytes_march _ _)

/-- The store holds byte b. -/
def OldStore.holds (o : OldStore) (b : Nat) : Prop := o.addr ≤ b ∧ b < o.addr + o.bytes.length

theorem State.byteSeen_of_none {s : State} {e b : Nat} (h : ∀ o ∈ (s.engine e).oldStores, ¬ o.holds b) : s.byteSeen e b = s.byte b := by
  have hnil : (s.engine e).oldStores.filter (fun o => decide (o.addr ≤ b ∧ b < o.addr + o.bytes.length)) = [] :=
    List.filter_eq_nil_iff.mpr (fun o ho => by simpa using fun h1 => (h o ho ⟨h1, ·⟩))
  rw [State.byteSeen, hnil]
  rfl

/-! ## What a pop performs before it writes its entry (R85) -/

/-- A store of engine e to its own scratchpad, no later than number `last` of program order. -/
def OldStore.ownUpTo (o : OldStore) (e last : Nat) : Bool := memOf o.addr == some (.spad e) && decide (o.seq ≤ last)

/-- The engine without such stores. -/
def Engine.withoutOwn (x : Engine) (e last : Nat) : Engine :=
  let own := fun (a seq : Nat) => memOf a == some (.spad e) && decide (seq ≤ last)
  { x with
    outStores := x.outStores.filter (fun o => !own o.addr o.seq), sb := x.sb.filter (fun b => !own b.addr b.seq)
    sbWait := x.sbWait.filter (fun b => !own b.addr b.seq) }

theorem Engine.oldStores_withoutOwn (x : Engine) (e last : Nat) :
    (x.withoutOwn e last).oldStores = x.oldStores.filter (fun o => !o.ownUpTo e last) := by
  simp only [Engine.oldStores, Engine.withoutOwn, List.filter_append, List.map_append, List.filter_map]
  rfl

/-- The number of the latest store that writes one of the 32 bytes at ca. -/
def Engine.lastTo (x : Engine) (ca : Nat) : Nat :=
  (x.oldStores.filter (fun o => overlaps o.addr o.bytes.length ca 32)).foldl (fun n o => max n o.seq) 0

theorem foldl_max_seq (l : List OldStore) (n : Nat) :
    n ≤ l.foldl (fun n o => max n o.seq) n ∧ ∀ o ∈ l, o.seq ≤ l.foldl (fun n o => max n o.seq) n := by
  induction l generalizing n with
  | nil => simp
  | cons p l ih =>
    obtain ⟨hn, hl⟩ := ih (max n p.seq)
    rw [List.foldl_cons]
    refine ⟨by omega, fun o ho => ?_⟩
    rcases List.mem_cons.mp ho with rfl | ho
    · omega
    · exact hl o ho

theorem Engine.seq_le_lastTo {x : Engine} {ca : Nat} {o : OldStore} (ho : o ∈ x.oldStores)
    (h : overlaps o.addr o.bytes.length ca 32 = true) : o.seq ≤ x.lastTo ca :=
  (foldl_max_seq _ 0).2 o (List.mem_filter.mpr ⟨ho, h⟩)

/-- A pop that finds stores of the engine to its words performs them, and those before them. -/
theorem State.popDrain_cases (s : State) (e ca : Nat) :
    (s.popDrain e ca = s ∧ ∀ o ∈ (s.engine e).oldStores, overlaps o.addr o.bytes.length ca 32 = false) ∨
    ∃ l, s.popDrain e ca = (s.setEngine e ((s.engine e).withoutOwn e ((s.engine e).lastTo ca))).performAll l := by
  unfold State.popDrain
  dsimp only
  split
  next h =>
    rw [List.isEmpty_iff, List.filter_eq_nil_iff] at h
    exact .inl ⟨rfl, fun o ho => by simpa using h o ho⟩
  next => exact .inr ⟨_, rfl⟩

theorem State.popDrain_march (s : State) (e ca : Nat) : (s.popDrain e ca).march = s.march := by
  rcases s.popDrain_cases e ca with ⟨h, -⟩ | ⟨l, h⟩
  · rw [h]
  · rw [h, State.performAll_march]
    rfl

/-- After it no store of the engine holds one of the words, as none of them crosses a double word. -/
theorem State.popDrain_stores {s : State} {e a : Nat} (he : e < 192) (ha : a % 8 = 0) (hend : a + 32 ≤ 0x10000)
    (hfit : ∀ o ∈ (s.engine e).oldStores, o.addr % 8 + o.bytes.length ≤ 8) {b : Nat} (h1 : spadBase e + a ≤ b) (h2 : b < spadBase e + a + 32) :
    ∀ o ∈ ((s.popDrain e (spadBase e + a)).engine e).oldStores, ¬ o.holds b := by
  have hhits : ∀ o : OldStore, o.holds b → overlaps o.addr o.bytes.length (spadBase e + a) 32 = true := fun o ho => by
    obtain ⟨hlo, hhi⟩ := ho
    simp only [overlaps, Bool.and_eq_true, decide_eq_true_eq]
    omega
  rcases s.popDrain_cases e (spadBase e + a) with ⟨h, hnone⟩ | ⟨l, h⟩
  · intro o ho hholds
    rw [h] at ho
    exact absurd (hhits o hholds) (by simp [hnone o ho])
  · intro o ho hholds
    obtain ⟨r, hr⟩ := (s.setEngine e ((s.engine e).withoutOwn e ((s.engine e).lastTo (spadBase e + a)))).performAll_engine l e
    rw [h, hr] at ho
    simp only [State.engine_setEngine, if_true] at ho
    change o ∈ ((s.engine e).withoutOwn e _).oldStores at ho
    rw [Engine.oldStores_withoutOwn, List.mem_filter] at ho
    obtain ⟨ho, hown⟩ := ho
    have hseq := Engine.seq_le_lastTo ho (hhits o hholds)
    have hmem : memOf o.addr = some (.spad e) := by
      obtain ⟨hlo, hhi⟩ := hholds
      have hfit := hfit o ho
      have hbase : spadBase e % 8 = 0 := by
        rw [spadBase, if_neg (by omega), windowBase]
        omega
      have haddr : o.addr = spadBase e + (o.addr - spadBase e) := by omega
      rw [haddr]
      exact memOf_spad he (by omega)
    simp [OldStore.ownUpTo, hmem, hseq] at hown

/-! ## Words written are read back -/

theorem State.memHeld_setWords (s : State) (ca : Nat) (ws : List Word) (b : Nat) : (s.setWords ca ws).memHeld b = s.memHeld b := by
  induction ws generalizing s ca with
  | nil => rfl
  | cons w ws ih => rw [State.setWords, ih, State.memHeld_setWord]

theorem State.word_setWords_below {s : State} {ca b : Nat} {ws : List Word} (h : b / 4 < ca / 4) : (s.setWords ca ws).word b = s.word b := by
  induction ws generalizing s ca with
  | nil => rfl
  | cons w ws ih => rw [State.setWords, ih (by omega), State.word_setWord_ne (by omega)]

theorem State.word_setWords {s : State} {ca i b : Nat} {ws : List Word} (hi : i < ws.length) (hb : b / 4 = ca / 4 + i)
    (hheld : ∀ x, ca / 4 ≤ x / 4 → x / 4 < ca / 4 + ws.length → s.memHeld x = false) : (s.setWords ca ws).word b = ws.getD i 0 := by
  induction ws generalizing s ca i with
  | nil => simp at hi
  | cons w ws ih =>
    rw [List.length_cons] at hi hheld
    rw [State.setWords]
    cases i with
    | zero => rw [State.word_setWords_below (by omega), State.word_setWord_self (hheld ca (by omega) (by omega)) (by omega), List.getD_cons_zero]
    | succ i =>
      rw [ih (i := i) (by omega) (by omega) (fun x h1 h2 => by rw [State.memHeld_setWord]; exact hheld x (by omega) (by omega)), List.getD_cons_succ]

theorem State.setWords_engine (s : State) (ca : Nat) (ws : List Word) (n : Nat) :
    ∃ r, (s.setWords ca ws).engine n = { s.engine n with resv := r } := by
  induction ws generalizing s ca with
  | nil => exact ⟨_, rfl⟩
  | cons w ws ih =>
    obtain ⟨r, hr⟩ := s.setWord_engine ca w n
    obtain ⟨r', hr'⟩ := ih (s.setWord ca w) (ca + 4)
    exact ⟨r', by rw [State.setWords, hr', hr]⟩

/-! ## What the engine sees after a pop or peek (R85) -/

theorem Engine.applyInc_oldStores (x : Engine) (c : Nat) : (x.applyInc c).oldStores = x.oldStores := by
  have hset : ∀ (y : Engine) (i : Nat) (w : Word), (y.setA i w).oldStores = y.oldStores := fun y i w => by
    unfold Engine.setA
    split <;> rfl
  unfold Engine.applyInc
  dsimp only
  generalize x.aInc.filter (fun p => decide (p.2.2 ≤ c)) = l
  have hfold : ∀ y : Engine, (l.foldl (fun y p => y.setA p.1 p.2.1) y).oldStores = y.oldStores := by
    induction l with
    | nil => exact fun _ => rfl
    | cons p l ih => exact fun y => (ih _).trans (hset y _ _)
  exact hfold _

/-- Memory and the stores of the engine are as they were before the result ports are written. -/
theorem State.byteSeen_withEngineAfter (s : State) (e : Nat) {y : Engine} (h : y.oldStores = (s.engine e).oldStores) (b : Nat) :
    (s.withEngineAfter e y).byteSeen e b = s.byteSeen e b := by
  have hstores : ((s.withEngineAfter e y).engine e).oldStores = (s.engine e).oldStores := by
    simp [State.withEngineAfter, Engine.applyInc_oldStores, h]
  unfold State.byteSeen
  rw [hstores]
  rfl

/-- A load of the engine sees the entry that a pop or peek has written. -/
theorem State.byteSeen_popped {s : State} {e a j : Nat} {ws : List Word} (he : e < 192) (ha : a % 8 = 0) (hend : a + 32 ≤ 0x10000)
    (hfit : ∀ o ∈ (s.engine e).oldStores, o.addr % 8 + o.bytes.length ≤ 8) (hlen : ws.length = 8) (hheld : s.memHeld (spadBase e) = false)
    (hj : j < 32) :
    ((s.popDrain e (spadBase e + a)).setWords (spadBase e + a) ws).byteSeen e (spadBase e + a + j) = byteOf (ws.getD (j / 4) 0) (j % 4) := by
  have hbase : spadBase e % 4 = 0 := by
    rw [spadBase, if_neg (by omega), windowBase]
    omega
  have hmem : ∀ x, (spadBase e + a) / 4 ≤ x / 4 → x / 4 < (spadBase e + a) / 4 + ws.length →
      (s.popDrain e (spadBase e + a)).memHeld x = false := fun x h1 h2 => by
    have hx : 4 * (x / 4) = spadBase e + (4 * (x / 4) - spadBase e) := by omega
    have h0 : 4 * (spadBase e / 4) = spadBase e + 0 := by omega
    rw [State.memHeld_congr (s.popDrain_march _ _)]
    unfold State.memHeld at hheld ⊢
    rw [h0, memOf_spad he (by omega)] at hheld
    rw [hx, memOf_spad he (by omega)]
    exact hheld
  obtain ⟨r, hr⟩ := (s.popDrain e (spadBase e + a)).setWords_engine (spadBase e + a) ws e
  rw [State.byteSeen_of_none, State.byte, State.word_setWords (i := j / 4) (by omega) (by omega) hmem]
  · congr 1
    omega
  · rw [hr]
    exact State.popDrain_stores he ha hend hfit (by omega) (by omega)

/-! ## A push (R86, R94) -/

/-- What a push that reads the words of a record leaves of the channels and queues. -/
structure State.SameQueues (s t : State) : Prop where
  chan : t.chan = s.chan
  queue : t.queue = s.queue

theorem State.markBad_chan {s : State} {ca : Nat} (h : globalLoc ca = some (.mem ca)) : (s.markBad ca).chan = s.chan := by
  unfold State.markBad
  rw [h]

theorem State.eccUncorrectable_chan {s : State} {ca : Nat} (h : globalLoc ca = some (.mem ca)) : (s.eccUncorrectable ca).chan = s.chan := by
  have hlog : ∀ (u : State) (a b : Nat), (u.logEvt a b).chan = u.chan := fun u a b => by
    unfold State.logEvt
    split <;> rfl
  have hmark := State.markBad_chan (s := s) h
  unfold State.eccUncorrectable
  dsimp only
  split
  · exact (hlog _ _ _).trans hmark
  · exact (hlog _ _ _).trans hmark
  · split
    · exact (hlog _ _ _).trans hmark
    · exact hmark
  · exact hmark

theorem State.eccCount_chan (s : State) (sec : Option Nat) (rd : Reader) : (s.eccCount sec rd).chan = s.chan := by
  unfold State.eccCount
  extract_lets u
  have hu : u.chan = s.chan := by
    simp only [u]
    split <;> rfl
  clear_value u
  split
  · split
    · simp only [State.sectStall]
      split <;> exact hu
    · exact hu
  · exact hu
  · exact hu

theorem State.softRead_chan (s : State) (ca : Nat) (rd : Reader) : (s.softRead ca rd).chan = s.chan := by
  unfold State.softRead
  split
  · exact State.eccCount_chan _ _ _
  · rfl

theorem globalLoc_spad {e j : Nat} (he : e < 192) (hj : j < 0x10000) : globalLoc (spadBase e + j) = some (.mem (spadBase e + j)) := by
  have hlt : spadBase e + j < 2 ^ 36 := by
    rw [spadBase, if_neg (by omega), windowBase]
    omega
  exact globalLoc_of_mem (by rw [memOf_spad he hj]; exact Option.some_ne_none _) hlt

theorem State.pushWord_same (s : State) {e j : Nat} (he : e < 192) (hj : j < 0x10000) : s.SameQueues (s.pushWord e (spadBase e + j)).2 := by
  unfold State.pushWord
  dsimp only
  split
  · exact ⟨rfl, rfl⟩
  · split
    · exact ⟨State.eccUncorrectable_chan (globalLoc_spad he hj), (s.eccUncorrectable_same _).queue⟩
    · exact ⟨s.softRead_chan _ _, (s.softRead_same _ _).queue⟩

theorem State.pushRecord_same (s : State) {e a : Nat} (he : e < 192) (ha : a + 16 ≤ 0x10000) : s.SameQueues (s.pushRecord e a).2 := by
  have hfold : ∀ (l : List Nat), (∀ k ∈ l, k < 4) → ∀ p : List Word × State, s.SameQueues p.2 →
      s.SameQueues (l.foldl (fun (p : List Word × State) k =>
        (p.1 ++ [(p.2.pushWord e (spadBase e + a + 4 * k)).1], (p.2.pushWord e (spadBase e + a + 4 * k)).2)) p).2 := fun l => by
    induction l with
    | nil => exact fun _ _ h => h
    | cons k l ih =>
      intro hl p hp
      have hw := p.2.pushWord_same he (j := a + 4 * k) (by have := hl k (by simp); omega)
      rw [← Nat.add_assoc] at hw
      exact ih (fun j hj => hl j (by simp [hj])) _ ⟨hw.chan.trans hp.chan, hw.queue.trans hp.queue⟩
  exact hfold (List.range 4) (fun k hk => List.mem_range.mp hk) ([], s) ⟨rfl, rfl⟩

theorem State.chioSt_congr {s t : State} {c : Nat} (hc : (t.ch c).tripB = (s.ch c).tripB) (hq : ∀ q, (t.q q).stOcc = (s.q q).stOcc)
    (code flags : Nat) (exp lost chk : Bool) : t.chioSt c code flags exp lost chk = s.chioSt c code flags exp lost chk := by
  unfold State.chioSt
  rw [hc, hq, hq]

theorem State.chioSt_qmDrop (s : State) (c q code flags : Nat) (exp lost chk : Bool) :
    (s.qmDrop q).chioSt c code flags exp lost chk = s.chioSt c code flags exp lost chk := by
  refine State.chioSt_congr (by simp [State.qmDrop, State.incF, State.setF]) (fun p => ?_) _ _ _ _ _
  simp only [State.qmDrop, State.incF, State.setF, State.q_setReg, State.q_setQ]
  split
  · next h => rw [h]
  · rfl

theorem State.pushBuffer_room {s : State} {k : Nat} (h : (s.sect k).pushCnt < 1024) (c : Nat) (ws : List Word) :
    s.pushBuffer k c ws = (s.setSect k { s.sect k with
      pushBuf := (s.sect k).pushBuf ++ [{ ch := c, words := ws }], pushCnt := (s.sect k).pushCnt + 1 }, true) := by
  rw [State.pushBuffer, if_pos h]

theorem State.pushBuffer_full {s : State} {k : Nat} (h : ¬ (s.sect k).pushCnt < 1024) (c : Nat) (ws : List Word) :
    s.pushBuffer k c ws = (s.qmDrop (32768 + c), false) := by
  rw [State.pushBuffer, if_neg h]

theorem State.chioSt_setSect (s : State) (c k : Nat) (x : Section) (code flags : Nat) (exp lost chk : Bool) :
    (s.setSect k x).chioSt c code flags exp lost chk = s.chioSt c code flags exp lost chk :=
  State.chioSt_congr (by simp) (fun _ => by simp) _ _ _ _ _

/-- What a push of the record r of channel c comes to, with the status st gives a code: the buffered record or the drop (R86, R94). -/
def chioPushed (r : List Word × State) (e c : Nat) (st : Nat → Word) : OpOut :=
  if (r.2.sect (sectOf e)).pushCnt < 1024 then
    chioRes (r.2.setSect (sectOf e) { r.2.sect (sectOf e) with
      pushBuf := (r.2.sect (sectOf e)).pushBuf ++ [{ ch := c, words := r.1 }], pushCnt := (r.2.sect (sectOf e)).pushCnt + 1 }) 0 (st 0)
  else chioRes (r.2.qmDrop (32768 + c)) 0 (st 5)

/-! ## The rows by their branches -/

section
variable {s : State} {e : Nat} {t : Word}

theorem chioOps_absent (h : chioAbsent e = true) : chioRdOp s e t = .trap (.code 0x01 0) ∧ chioWrOp s e t = .trap (.code 0x01 0) ∧
    (∀ pop, chioPopOp pop s e t = .trap (.code 0x01 0)) ∧ chioPushOp s e t = .trap (.code 0x01 0) ∧ chioOccOp s e t = .trap (.code 0x01 0) :=
  ⟨if_pos h, if_pos h, fun _ => if_pos h, if_pos h, if_pos h⟩

variable (h : chioAbsent e = false)
include h

theorem chioRdOp_eq : chioRdOp s e t = if s.owns e (fld t 14 0) then
      (if s.chioWaits e (fld t 14 0) then .plain (s.readWait e (fld t 14 0) (fld t 17 16)) 2
       else chioRes s (s.chioReadNow e (fld t 14 0) (fld t 17 16)).1 (s.chioReadNow e (fld t 14 0) (fld t 17 16)).2)
    else chioRes s 0 chioNotOwner := by
  rw [chioRdOp, h]
  cases s.owns e (fld t 14 0) <;> rfl

theorem chioWrOp_eq : chioWrOp s e t = if s.owns e (fld t 14 0) then
      chioRes (s.glvSetpoint e (fld t 14 0) (fld t 19 16) ((s.engine e).port 0x260)) 0 (s.chioSt (fld t 14 0) 0 0 false false false)
    else chioRes s 0 chioNotOwner := by
  rw [chioWrOp, h]
  cases s.owns e (fld t 14 0) <;> rfl

theorem chioOccOp_eq : chioOccOp s e t = if s.owns e (fld t 14 0) then chioRes s 0 (s.chioSt (fld t 14 0) 0 0 false false false)
    else chioRes s 0 chioNotOwner := by
  rw [chioOccOp, h]
  cases s.owns e (fld t 14 0) <;> rfl

theorem chioPopOp_bad {pop : Bool} {ea : Word} (hbad : chioAddrBad ((s.engine e).port 0x260).toNat 32 = some ea) :
    chioPopOp pop s e t = .trap (.code 0x03 ea) := by
  rw [chioPopOp, h]
  dsimp only
  rw [hbad]
  rfl

theorem chioPopOp_eq {pop : Bool} (hok : chioAddrBad ((s.engine e).port 0x260).toNat 32 = none) :
    chioPopOp pop s e t = if s.owns e (fld t 14 0) then
      (if (s.q (fld t 14 0)).popped then chioRes s 0 (s.chioSt (fld t 14 0) 4 0 false false false)
       else if (s.q (fld t 14 0)).stOcc = 0 then chioRes s 0 (s.chioSt (fld t 14 0) 3 0 false false false)
       else
         let u := (s.popDrain e (spadBase e + ((s.engine e).port 0x260).toNat)).setWords (spadBase e + ((s.engine e).port 0x260).toNat)
           (s.q (fld t 14 0)).stWords
         chioRes (if pop then u.qmPopStep (fld t 14 0) else u) 0 (s.chioSt (fld t 14 0) 0 0 false false false))
    else chioRes s 0 chioNotOwner := by
  rw [chioPopOp, h]
  dsimp only
  rw [hok]
  cases s.owns e (fld t 14 0) <;> rfl

theorem chioPushOp_bad {ea : Word} (hbad : chioAddrBad ((s.engine e).port 0x260).toNat 16 = some ea) :
    chioPushOp s e t = .trap (.code 0x03 ea) := by
  rw [chioPushOp, h]
  dsimp only
  rw [hbad]
  rfl

/-- An accepted push takes its record into the buffer, with code 0, or drops it, with code 5. -/
theorem chioPushOp_eq (he : e < 192) (hok : chioAddrBad ((s.engine e).port 0x260).toNat 16 = none) :
    chioPushOp s e t = if s.owns e (fld t 14 0) then
      chioPushed (s.pushRecord e ((s.engine e).port 0x260).toNat) e (fld t 14 0) (fun code => s.chioSt (fld t 14 0) code 0 false false false)
    else chioRes s 0 chioNotOwner := by
  have hend : ((s.engine e).port 0x260).toNat + 16 ≤ 0x10000 := by
    rw [chioAddrBad_cases _ rfl] at hok
    split at hok
    · cases hok
    · split at hok
      · cases hok
      · omega
  have hsame := s.pushRecord_same he hend
  have hst : ∀ code, (s.pushRecord e ((s.engine e).port 0x260).toNat).2.chioSt (fld t 14 0) code 0 false false false =
      s.chioSt (fld t 14 0) code 0 false false false := fun code =>
    State.chioSt_congr (by rw [State.ch, State.ch, hsame.chan]) (fun q => by rw [State.q, State.q, hsame.queue]) _ _ _ _ _
  rw [chioPushOp, h]
  dsimp only
  rw [hok]
  cases s.owns e (fld t 14 0) with
  | false =>
    dsimp only
    rw [if_neg Bool.false_ne_true, if_neg Bool.false_ne_true, if_pos (show (!false) = true from rfl)]
  | true =>
    generalize s.pushRecord e ((s.engine e).port 0x260).toNat = r at hst ⊢
    dsimp only
    rw [if_neg Bool.false_ne_true, if_neg (show ¬ (!true) = true by decide), if_pos (rfl : true = true), chioPushed]
    by_cases hroom : (r.2.sect (sectOf e)).pushCnt < 1024
    · rw [if_pos hroom, State.pushBuffer_room hroom, if_pos rfl, State.chioSt_setSect, hst]
    · rw [if_neg hroom, State.pushBuffer_full hroom, if_neg Bool.false_ne_true, State.chioSt_qmDrop, hst]

end

theorem State.chioReadNow_valid {s : State} {e c : Nat} (h : (s.slotOf c (s.readBeat (sectOf e))).st = 1) (j : Nat) :
    s.chioReadNow e c j = ((s.slotOf c (s.readBeat (sectOf e))).word j,
      s.chioSt c 0 (fld (s.slotOf c (s.readBeat (sectOf e))).w3 35 32) false false false) := by
  simp [State.chioReadNow, State.chioRecord, h]

/-- Of a slot that holds no valid record the status says why: LOST, CHK, or EXPIRED for one that the wait limit has ended (R65, R82). -/
theorem State.chioReadNow_missing {s : State} {e c : Nat} (h : (s.slotOf c (s.readBeat (sectOf e))).st ≠ 1) (j : Nat) :
    s.chioReadNow e c j = (0, s.chioSt c 1 0
      (decide ((s.slotOf c (s.readBeat (sectOf e))).st = 0 ∧ s.streamed (sectOf e) = true ∧ s.laneDown (c / 2048) = false ∧
        c / 2048 ∈ (s.sect (sectOf e)).laneExpired))
      ((s.slotOf c (s.readBeat (sectOf e))).st == 3) ((s.slotOf c (s.readBeat (sectOf e))).st == 2)) := by
  unfold State.chioReadNow
  simp only [laneOfCh, Bool.not_eq_true', List.contains_iff_mem]
  split
  next hlate => simp [hlate]
  next hlate => rw [State.chioRecord, if_neg h, decide_eq_false hlate]

/-- A read waits exactly where R64 to R66 let it. -/
theorem State.chioWaits_iff (s : State) (e c : Nat) : s.chioWaits e c = true ↔
    ((s.slotOf c (s.readBeat (sectOf e))).st = 0 ∧ s.streamed (sectOf e) = true ∧ s.laneDown (c / 2048) = false ∧
      c % 2048 ∈ (s.laneMap (c / 2048)).up) ∧ ¬ c / 2048 ∈ (s.sect (sectOf e)).laneExpired := by
  simp only [State.chioWaits, laneOfCh, Bool.and_eq_true, beq_iff_eq, Bool.not_eq_true', List.contains_iff_mem, ← Bool.not_eq_true]
  tauto

/-! ## The obligation -/

/-- Settles O29: each command by the branches of its row, the pop and peek of an entry by what the engine then sees. -/
theorem chioCommandsAnswerAsTheirTableSays : Obligations.ChioCommandsAnswerAsTheirTableSays := by
  unfold Obligations.ChioCommandsAnswerAsTheirTableSays
  intro e t s x c k a stWord answers owner aimed sl waits expired late pops
  have hanswers : ∀ (i : Instr) (s' : State) (y st : Word) (S : Word → Prop), S st → exec i s = .next (s.opRow e uChio (chioRes s' y st)) →
      answers i s' y S := fun i s' y st S hS hi => ⟨st, hS, by rw [hi, State.opRow_chioRes]; rfl⟩
  have hst : ∀ code flags exp lost chk, code < 16 → stWord code flags exp lost chk (s.chioSt c code flags exp lost chk) :=
    fun code flags exp lost chk hcode => by
      have := s.chioSt_fields c code flags exp lost chk
      rwa [Nat.mod_eq_of_lt hcode] at this
  obtain ⟨hc, hword, hmode⟩ := chioTrigger_fields t
  split
  next h192 =>
    intro i hi
    simp only [List.mem_cons, List.not_mem_nil, or_false] at hi
    obtain ⟨hrd, hwr, hpop, hpush, hocc⟩ := chioOps_absent (s := s) (t := t) (show chioAbsent e = true by simp [chioAbsent, h192])
    have hfault : ∀ o, o = OpOut.trap (.code 0x01 0) → s.opRow e uChio o = s.faultEntry e 0x01 0 x.pc := fun o h => by rw [h]; rfl
    rcases hi with rfl | rfl | rfl | rfl | rfl | rfl
    · exact congrArg Host.Outcome.next (hfault _ hrd)
    · exact congrArg Host.Outcome.next (hfault _ hwr)
    · exact congrArg Host.Outcome.next (hfault _ (hpop true))
    · exact congrArg Host.Outcome.next (hfault _ (hpop false))
    · exact congrArg Host.Outcome.next (hfault _ hpush)
    · exact congrArg Host.Outcome.next (hfault _ hocc)
  next h192 =>
    have hlt : e.val < 192 := by omega
    have hhas : chioAbsent e = false := by simp [chioAbsent, h192]
    have hport : (x.port 0x260).toNat = a := rfl
    have howner : ∀ (i : Instr) (P : Prop) (o : OpOut),
        exec i s = .next (s.opRow e uChio (if s.owns e (fld t 14 0) then o else chioRes s 0 chioNotOwner)) →
        (s.owns e c = true → exec i s = .next (s.opRow e uChio o) → P) → owner i P := fun i P o hi hP => by
      rw [hc] at hi
      change (if s.owns e c then P else answers i s 0 (· = 2))
      split
      next h => exact hP h (by rw [hi, if_pos h])
      next h => exact hanswers i s 0 chioNotOwner _ rfl (by rw [hi, if_neg h])
    have haimed : ∀ (i : Instr) (n : Nat) (P : Prop) (o : OpOut), exec i s = .next (s.opRow e uChio o) →
        (∀ ea, chioAddrBad a n = some ea → o = .trap (.code 0x03 ea)) → (chioAddrBad a n = none → owner i P) → aimed i n P :=
      fun i n P o hi hbad hok => by
        rw [chioAddrBad_cases _ hport] at hbad hok
        have hfault : ∀ ea, o = .trap (.code 0x03 ea) → exec i s = .next (s.faultEntry e 0x03 ea x.pc) := fun ea h => by rw [hi, h]; rfl
        change (if a % 8 ≠ 0 ∨ 0x10000 ≤ a then _ else if 0x10000 < a + n then _ else _)
        split
        next h1 => exact hfault _ (hbad _ (if_pos h1))
        next h1 =>
          rw [if_neg h1] at hbad hok
          split
          next h2 => exact hfault _ (hbad _ (if_pos h2))
          next h2 => exact hok (if_neg h2)
    have hpops : ∀ (i : Instr) (pop : Bool) (after : State → State), exec i s = .next (s.opRow e uChio (chioPopOp pop s e t)) →
        (∀ u, after u = if pop then u.qmPopStep c else u) → pops i after := fun i pop after hi hafter => by
      refine haimed i 32 _ _ hi (fun ea hea => chioPopOp_bad hhas hea) (fun hok => ?_)
      rw [chioPopOp_eq hhas hok] at hi
      refine howner i _ _ hi (fun _ hi => ?_)
      rw [hc] at hi
      split
      next hp => exact hanswers _ _ _ _ _ (hst 4 0 false false false (by decide)) (by rw [hi, if_pos hp])
      next hp =>
        rw [if_neg hp] at hi
        split
        next h0 => exact hanswers _ _ _ _ _ (hst 3 0 false false false (by decide)) (by rw [hi, if_pos h0])
        next h0 =>
          rw [if_neg h0] at hi
          refine hanswers _ _ _ _ _ (hst 0 0 false false false (by decide)) ?_
          rw [hi, hafter]
    refine ⟨?_, ?_, ?_, ?_, ?_, ?_, ?_⟩
    · refine howner _ _ _ (by rw [← chioRdOp_eq hhas]; rfl) (fun _ hi => ?_)
      rw [hc, hword] at hi
      split
      next hw =>
        rw [if_pos ((s.chioWaits_iff e c).mpr hw)] at hi
        exact hi.trans (congrArg Host.Outcome.next (State.opRow_plain_any _ _ _ _ _))
      next hw =>
        rw [if_neg (fun h => hw ((s.chioWaits_iff e c).mp h))] at hi
        split
        next h1 =>
          rw [State.chioReadNow_valid h1] at hi
          exact hanswers _ _ _ _ _ (hst 0 _ false false false (by decide)) hi
        next h1 =>
          rw [State.chioReadNow_missing h1] at hi
          exact hanswers _ _ _ _ _ (hst 1 0 _ _ _ (by decide)) hi
    · refine howner _ _ _ (by rw [← chioWrOp_eq hhas]; rfl) (fun _ hi => ?_)
      rw [hc, hmode] at hi
      exact hanswers _ _ _ _ _ (hst 0 0 false false false (by decide)) hi
    · exact hpops _ true _ rfl (fun _ => rfl)
    · exact hpops _ false _ rfl (fun _ => rfl)
    · intro ha hend howns hpopped hocc hlen hheld hfit
      have hok : chioAddrBad a 32 = none := by rw [chioAddrBad_cases _ hport, if_neg (by omega), if_neg (by omega)]
      have hi : exec (.chioPeek e t) s = .next (s.opRow e uChio (chioPopOp false s e t)) := rfl
      rw [chioPopOp_eq hhas hok, hc, if_pos howns, if_neg (by rw [hpopped]; decide), if_neg (Nat.ne_of_gt hocc), State.opRow_chioRes] at hi
      refine ⟨_, hi, fun j hj => ?_⟩
      rw [State.byteSeen_withEngineAfter]
      · exact State.byteSeen_popped hlt ha hend hfit hlen hheld hj
      · rfl
    · refine haimed _ 16 _ _ rfl (fun ea hea => chioPushOp_bad hhas hea) (fun hok => ?_)
      refine howner _ _ _ (by rw [← chioPushOp_eq hhas hlt hok]; rfl) (fun _ hi => ?_)
      rw [hc, hport] at hi
      generalize s.pushRecord e a = r at hi ⊢
      rw [chioPushed] at hi
      change (if (r.2.sect k).pushCnt < 1024 then _ else _)
      split
      next hroom =>
        rw [if_pos hroom] at hi
        exact hanswers _ _ _ _ _ (hst 0 0 false false false (by decide)) hi
      next hfull =>
        rw [if_neg hfull] at hi
        exact hanswers _ _ _ _ _ (hst 5 0 false false false (by decide)) hi
    · refine howner _ _ _ (by rw [← chioOccOp_eq hhas]; rfl) (fun _ hi => ?_)
      rw [hc] at hi
      exact hanswers _ _ _ _ _ (hst 0 0 false false false (by decide)) hi

end Sys2Proof.Machine
end

section
/-! PROOF. What happens before a boundary (R94) and the reservations it clears (R215): O57 fails. -/

namespace Sys2Proof.Machine

/-- The first entry slot of the record queue of channel 0 is the word of queue memory with this key. -/
def recordSlotKey : Nat := qSlotAddr 32768 0 / 4

/-- Engine 0 holds a reservation on that word, and section 0 has buffered one push to that queue. No edge has shortened the beat. -/
def State.pushOverReservation : State :=
  { State.reset with
    beat := { BeatGen.reset with started := true }
    eng := [(0, { Engine.reset with resv := some recordSlotKey })]
    sec := [(0, { Section.reset with pushBuf := [{ ch := 0, words := [0] }] })] }

theorem State.pushOverReservation_canonical : Canonical State.pushOverReservation := by
  constructor <;> decide

/-- The push reaches queue memory as the beat closes, and its write clears the reservation. -/
theorem State.pushOverReservation_cleared : (State.pushOverReservation.beatCloses.engine 0).resv = none := by
  decide +kernel

/-- Refutes O57: a buffered push that reaches the QM as the beat closes writes a word of queue memory, which clears the reservation that
an engine holds on it (R215), so the engines do not all stay as they were. -/
theorem not_boundariesNumberBeatsAndJudgeThem : ¬ Obligations.BoundariesNumberBeatsAndJudgeThem := by
  unfold Obligations.BoundariesNumberBeatsAndJudgeThem
  intro h
  obtain ⟨t, -, -, -, -, -, hcloses, -⟩ := h.2 State.pushOverReservation State.pushOverReservation_canonical rfl
  obtain ⟨-, heng, -⟩ := hcloses rfl
  have hkept : State.pushOverReservation.beatCloses.engine 0 = State.pushOverReservation.engine 0 :=
    congrArg (fun m => SMap.get (fun _ => Engine.reset) m 0) heng
  have hcleared := State.pushOverReservation_cleared
  rw [hkept] at hcleared
  exact absurd hcleared nofun

end Sys2Proof.Machine
end

section
/-! PROOF. The loader of schedule images (R59, R316 to R321, R323, Table 17.5): O52. -/

namespace Sys2Proof.Machine

/-! ## Words in parts -/

theorem toNat_eq_fields (w : Word) {n : Nat} (h : n < 36) : w.toNat = fld w 35 (n + 1) * 2 ^ (n + 1) + fld w n 0 := by
  have hw := w.isLt
  have htop : w.toNat / 2 ^ (n + 1) < 2 ^ (35 + 1 - (n + 1)) := by
    rw [Nat.div_lt_iff_lt_mul (Nat.two_pow_pos _), ← Nat.pow_add, show 35 + 1 - (n + 1) + (n + 1) = 36 by omega]
    exact hw
  rw [fld, fld, Nat.shiftRight_eq_div_pow, Nat.mod_eq_of_lt htop, Nat.shiftRight_zero, Nat.sub_zero]
  exact (Nat.div_add_mod' _ _).symm

theorem toNat_wordOfInt (v : Int) : (wordOfInt v).toNat = (v % 2 ^ 36).toNat := BitVec.toNat_ofInt ..

/-! ## Parcels (R171) -/

theorem State.parcel_lt (s : State) (base n : Nat) : s.parcel base n < 2 ^ 18 := by
  unfold State.parcel
  dsimp only
  split
  · exact fld_lt _ 17 0
  · exact fld_lt _ 35 18

theorem State.memHeld_setParcel (s : State) (base p v ca : Nat) : (s.setParcel base p v).memHeld ca = s.memHeld ca :=
  State.memHeld_setWord ..

theorem State.word_setParcel_ne {s : State} {base p v ca : Nat} (h : ca / 4 ≠ (base + 4 * (p / 2)) / 4) :
    (s.setParcel base p v).word ca = s.word ca := State.word_setWord_ne h

/-- A parcel written reads back, and every other keeps its value. -/
theorem State.parcel_setParcel {s : State} {base p v : Nat} (n : Nat) (hh : ∀ ca, s.memHeld ca = false) :
    (s.setParcel base p v).parcel base n = if n = p then v % 2 ^ 18 else s.parcel base n := by
  by_cases hw : n / 2 = p / 2
  · have hword : ∀ w, (s.setWord (base + 4 * (p / 2)) w).word (base + 4 * (n / 2)) = w := fun w =>
      State.word_setWord_self (hh _) (by rw [hw])
    unfold State.parcel State.setParcel
    dsimp only
    rw [hword, hw]
    rcases Nat.mod_two_eq_zero_or_one p with hp | hp <;> rcases Nat.mod_two_eq_zero_or_one n with hn | hn
    · simp only [hp, if_true, show n = p by omega]
      exact fld_setFld_self (by decide)
    · simp only [hp, hn, if_true, Nat.one_ne_zero, if_false, show ¬ n = p by omega]
      exact fld_setFld_ne (by decide)
    · simp only [hp, hn, if_true, Nat.one_ne_zero, if_false, show ¬ n = p by omega]
      exact fld_setFld_ne (by decide)
    · simp only [hp, Nat.one_ne_zero, if_false, if_true, show n = p by omega]
      exact fld_setFld_self (by decide)
  · rw [if_neg (fun h => hw (by rw [h])), State.parcel, State.parcel, State.word_setParcel_ne (by omega)]

/-- The long move at parcel p: its first parcel is the high half. -/
def State.longMove (s : State) (base p : Nat) : Nat := s.parcel base p * 2 ^ 18 + s.parcel base (p + 1)

theorem State.longMove_lt (s : State) (base p : Nat) : s.longMove base p < 2 ^ 36 := by
  have h0 := s.parcel_lt base p
  have h1 := s.parcel_lt base (p + 1)
  unfold State.longMove
  omega

/-- What R317 asks of a LIM19 site: a long move with a zero immediate, and a value that 19 bits hold. -/
def State.lim19Site (s : State) (base p : Nat) (v : Int) : Prop :=
  p ≤ 0x3FFE ∧ (s.longMove base p).testBit 35 = true ∧ (s.longMove base p).testBit 33 = true ∧ s.longMove base p % 2 ^ 19 = 0 ∧
    -262144 ≤ v ∧ v ≤ 262143

/-- The word of a long move with the immediate v. -/
def State.patchedMove (s : State) (base p : Nat) (v : Int) : Word :=
  setFld (BitVec.ofNat 36 (s.longMove base p)) 18 0 (wordOfInt v).toNat

theorem State.toNat_longMove (s : State) (base p : Nat) : (BitVec.ofNat 36 (s.longMove base p)).toNat = s.longMove base p := by
  rw [BitVec.toNat_ofNat, Nat.mod_eq_of_lt (s.longMove_lt base p)]

theorem State.patchLim19_eq (s : State) (base p : Nat) (v : Int) [Decidable (s.lim19Site base p v)] :
    s.patchLim19 base p v = if s.lim19Site base p v then
      some ((s.setParcel base p (fld (s.patchedMove base p v) 35 18)).setParcel base (p + 1) (fld (s.patchedMove base p v) 17 0)) else none := by
  have hcond : (0x3FFE < p ∨ (!bit (BitVec.ofNat 36 (s.longMove base p)) 35) = true ∨ (!bit (BitVec.ofNat 36 (s.longMove base p)) 33) = true ∨
      fld (BitVec.ofNat 36 (s.longMove base p)) 18 0 ≠ 0 ∨ v < -262144 ∨ 262143 < v) ↔ ¬ s.lim19Site base p v := by
    simp only [State.lim19Site, bit, BitVec.getLsbD, fld, s.toNat_longMove, Bool.not_eq_true', Nat.shiftRight_zero]
    grind
  unfold State.patchLim19
  dsimp only
  by_cases h : s.lim19Site base p v
  · rw [if_pos h]
    exact if_neg (fun hc => hcond.mp hc h)
  · rw [if_neg h]
    exact if_pos (hcond.mpr h)

theorem State.toNat_patchedMove {s : State} {base p : Nat} {v : Int} (h : s.longMove base p % 2 ^ 19 = 0) :
    (s.patchedMove base p v).toNat = s.longMove base p + (v % 2 ^ 19).toNat := by
  have hm := s.longMove_lt base p
  have hmod := s.toNat_longMove base p
  have htop : fld (s.patchedMove base p v) 35 19 = s.longMove base p / 2 ^ 19 := by
    rw [State.patchedMove, fld_setFld_ne (by decide), fld, hmod, Nat.shiftRight_eq_div_pow]
    omega
  have hlow : fld (s.patchedMove base p v) 18 0 = (v % 2 ^ 19).toNat := by
    rw [State.patchedMove, fld_setFld_self (by decide), toNat_wordOfInt]
    omega
  rw [toNat_eq_fields _ (n := 18) (by decide), htop, hlow]
  omega

/-- The patched move reads back, and every other parcel and word keeps its value. -/
theorem State.patchLim19_spec {s t : State} {base p : Nat} {v : Int} (hh : ∀ ca, s.memHeld ca = false) (hb : base % 4 = 0)
    (h : s.lim19Site base p v) (ht : s.patchLim19 base p v = some t) :
    t.longMove base p = s.longMove base p + (v % 2 ^ 19).toNat ∧ (∀ n, n ≠ p → n ≠ p + 1 → t.parcel base n = s.parcel base n) ∧
      ∀ ca, ¬ (base ≤ ca ∧ ca < base + 0x8000) → t.word ca = s.word ca := by
  classical
  rw [State.patchLim19_eq, if_pos h, Option.some.injEq] at ht
  obtain ⟨hp, _, _, hzero, _⟩ := h
  have hparcel : ∀ n, t.parcel base n = if n = p + 1 then fld (s.patchedMove base p v) 17 0 else
      if n = p then fld (s.patchedMove base p v) 35 18 else s.parcel base n := fun n => by
    rw [← ht, State.parcel_setParcel _ (fun ca => by rw [State.memHeld_setParcel, hh]), State.parcel_setParcel _ hh,
      Nat.mod_eq_of_lt (fld_lt _ 17 0), Nat.mod_eq_of_lt (fld_lt _ 35 18)]
  refine ⟨?_, fun n h0 h1 => by rw [hparcel, if_neg h1, if_neg h0], fun ca hca => ?_⟩
  · rw [← State.toNat_patchedMove hzero, toNat_eq_fields _ (n := 17) (by decide), State.longMove, hparcel, hparcel, if_neg (by omega),
      if_pos rfl, if_pos rfl]
  · rw [← ht, State.word_setParcel_ne (by omega), State.word_setParcel_ne (by omega)]

/-! ## Physical positions and the zero-fill (Table 11.9, R321) -/

theorem sigma_lt {sym c : Nat} (hc : c < 8) : sigma sym c < 8 := by
  unfold sigma
  dsimp only
  split <;> split <;> omega

theorem physOf_lt {sym i : Nat} (hi : i < 32) : physOf sym i < 32 := by
  have := sigma_lt (sym := sym) (c := i / 4) (by omega)
  unfold physOf
  omega

/-- Bit p of the mask of a placement: some logical engine of USE stands at p. -/
theorem bit_physMask (sym : Nat) (use : Word) {p : Nat} (hp : p < 36) :
    bit (physMask sym use) p = true ↔ ∃ i, i < 32 ∧ bit use i = true ∧ p = physOf sym i := by
  have hfold : ∀ (l : List Nat) (a : Word),
      bit (l.foldl (fun a i => if bit use i then setBit a (physOf sym i) true else a) a) p = true ↔
        bit a p = true ∨ ∃ i ∈ l, bit use i = true ∧ p = physOf sym i := by
    intro l
    induction l with
    | nil => simp
    | cons i l ih =>
      intro a
      rw [List.foldl_cons, ih]
      by_cases hu : bit use i = true
      · rw [if_pos hu, bit_setBit hp]
        by_cases he : p = physOf sym i
        · simp [he, hu]
        · simp [he, hu]
      · rw [if_neg hu]
        simp [hu]
  rw [physMask, hfold]
  simp [bit]

theorem fld_cluster_ne_zero (w : Word) (c : Nat) : fld w (4 * c + 3) (4 * c) ≠ 0 ↔ ∃ p, p / 4 = c ∧ bit w p = true := by
  constructor
  · intro h
    obtain ⟨i, hi⟩ := Nat.exists_testBit_of_ne_zero h
    rw [testBit_fld, Bool.and_eq_true, decide_eq_true_eq] at hi
    exact ⟨4 * c + i, by omega, hi.2⟩
  · rintro ⟨p, hp, hb⟩ h
    have hbit : (fld w (4 * c + 3) (4 * c)).testBit (p - 4 * c) = true := by
      rw [testBit_fld, decide_eq_true (by omega), Bool.true_and, show 4 * c + (p - 4 * c) = p by omega]
      exact hb
    rw [h, Nat.zero_testBit] at hbit
    exact absurd hbit Bool.false_ne_true

/-- A run of steps each of which zeroes a word where P holds and keeps it elsewhere. -/
theorem State.word_foldl_zeroing {step : State → Nat → State} {P : Nat → Prop} {ca : Nat} (hzero : ∀ st i, P i → (step st i).word ca = 0)
    (hkeep : ∀ st i, ¬ P i → (step st i).word ca = st.word ca) (l : List Nat) (s : State) :
    ((∃ i ∈ l, P i) → (l.foldl step s).word ca = 0) ∧ ((¬ ∃ i ∈ l, P i) → (l.foldl step s).word ca = s.word ca) := by
  induction l generalizing s with
  | nil => simp
  | cons i l ih =>
    obtain ⟨hin, hout⟩ := ih (step s i)
    refine ⟨fun h => ?_, fun h => ?_⟩
    · by_cases hl : ∃ j ∈ l, P j
      · exact hin hl
      · obtain ⟨j, hj, hP⟩ := h
        rcases List.mem_cons.mp hj with rfl | hj
        · rw [List.foldl_cons, hout hl, hzero s j hP]
        · exact absurd ⟨j, hj, hP⟩ hl
    · rw [List.foldl_cons, hout (fun ⟨j, hj, hP⟩ => h ⟨j, List.mem_cons_of_mem _ hj, hP⟩),
        hkeep s i (fun hP => h ⟨i, List.mem_cons_self, hP⟩)]

/-- The memories of a placement: the schedule memory and the scratchpad of each engine of the mask, the shared memory of each cluster
with one. -/
def placedMem (k : Nat) (mask : Word) : Option MemId → Prop
  | some (.sched n) | some (.spad n) => ∃ p, p < 32 ∧ bit mask p = true ∧ n = k * 32 + p
  | some (.shared c) => ∃ p, p < 32 ∧ bit mask p = true ∧ c = k * 8 + p / 4
  | _ => False

theorem State.word_zeroMem_ite (s : State) (m : MemId) (ca : Nat) [Decidable (memOf (4 * (ca / 4)) = some m)] :
    (s.zeroMem m).word ca = if memOf (4 * (ca / 4)) = some m then 0 else s.word ca := by
  split
  next h => exact State.word_zeroMem h
  next h => exact State.word_resetMem_ne h

theorem State.word_zeroPlacement (s : State) (k : Nat) (mask : Word) (ca : Nat) :
    (placedMem k mask (memOf (4 * (ca / 4))) → (s.zeroPlacement k mask).word ca = 0) ∧
      (¬ placedMem k mask (memOf (4 * (ca / 4))) → (s.zeroPlacement k mask).word ca = s.word ca) := by
  have hengines := State.word_foldl_zeroing (ca := ca)
    (step := fun st i => if bit mask i then (st.zeroMem (.sched (k * 32 + i))).zeroMem (.spad (k * 32 + i)) else st)
    (P := fun i => bit mask i = true ∧ (memOf (4 * (ca / 4)) = some (.sched (k * 32 + i)) ∨ memOf (4 * (ca / 4)) = some (.spad (k * 32 + i))))
    (fun st i h => by
      rw [if_pos h.1, State.word_zeroMem_ite, State.word_zeroMem_ite]
      rcases h.2 with h | h <;> simp [h])
    (fun st i h => by
      split
      next hb =>
        rw [State.word_zeroMem_ite, State.word_zeroMem_ite, if_neg (fun hm => h ⟨hb, .inr hm⟩), if_neg (fun hm => h ⟨hb, .inl hm⟩)]
      next => rfl)
    (List.range 32) s
  have hclusters := State.word_foldl_zeroing (ca := ca)
    (step := fun st c => if fld mask (4 * c + 3) (4 * c) ≠ 0 then st.zeroMem (.shared (k * 8 + c)) else st)
    (P := fun c => fld mask (4 * c + 3) (4 * c) ≠ 0 ∧ memOf (4 * (ca / 4)) = some (.shared (k * 8 + c)))
    (fun st c h => by rw [if_pos h.1, State.word_zeroMem h.2])
    (fun st c h => by
      split
      next hb => exact State.word_resetMem_ne (fun hm => h ⟨hb, hm⟩)
      next => rfl)
    (List.range 8) ((List.range 32).foldl (fun st i =>
      if bit mask i then (st.zeroMem (.sched (k * 32 + i))).zeroMem (.spad (k * 32 + i)) else st) s)
  have hplaced : placedMem k mask (memOf (4 * (ca / 4))) ↔
      (∃ i ∈ List.range 32, bit mask i = true ∧
        (memOf (4 * (ca / 4)) = some (.sched (k * 32 + i)) ∨ memOf (4 * (ca / 4)) = some (.spad (k * 32 + i)))) ∨
      ∃ c ∈ List.range 8, fld mask (4 * c + 3) (4 * c) ≠ 0 ∧ memOf (4 * (ca / 4)) = some (.shared (k * 8 + c)) := by
    simp only [fld_cluster_ne_zero, List.mem_range]
    generalize memOf (4 * (ca / 4)) = m
    unfold placedMem
    constructor
    · split
      · rintro ⟨p, hp, hb, rfl⟩
        exact .inl ⟨p, hp, hb, .inl rfl⟩
      · rintro ⟨p, hp, hb, rfl⟩
        exact .inl ⟨p, hp, hb, .inr rfl⟩
      · rintro ⟨p, hp, hb, rfl⟩
        exact .inr ⟨p / 4, by omega, ⟨p, rfl, hb⟩, rfl⟩
      · exact False.elim
    · rintro (⟨p, hp, hb, rfl | rfl⟩ | ⟨c, hc, ⟨p, rfl, hb⟩, rfl⟩)
      · exact ⟨p, hp, hb, rfl⟩
      · exact ⟨p, hp, hb, rfl⟩
      · exact ⟨p, by omega, hb, rfl⟩
  rw [hplaced]
  unfold State.zeroPlacement
  refine ⟨fun h => ?_, fun h => ?_⟩
  · by_cases hc : ∃ c ∈ List.range 8, fld mask (4 * c + 3) (4 * c) ≠ 0 ∧ memOf (4 * (ca / 4)) = some (.shared (k * 8 + c))
    · exact hclusters.1 hc
    · exact (hclusters.2 hc).trans (hengines.1 (h.resolve_right hc))
  · exact (hclusters.2 (fun hc => h (.inr hc))).trans (hengines.2 (fun he => h (.inl he)))

/-- The placement of logical engines under a symmetry, memory by memory. -/
theorem placedMem_physMask (k sym : Nat) (use : Word) (m : Option MemId) : placedMem k (physMask sym use) m ↔
    match m with
    | some (.sched n) => ∃ i, i < 32 ∧ bit use i = true ∧ n = k * 32 + physOf sym i
    | some (.spad n) => ∃ i, i < 32 ∧ bit use i = true ∧ n = k * 32 + physOf sym i
    | some (.shared n) => ∃ i, i < 32 ∧ bit use i = true ∧ n = k * 8 + physOf sym i / 4
    | _ => False := by
  have hmask : ∀ Q : Nat → Prop, (∃ p, p < 32 ∧ bit (physMask sym use) p = true ∧ Q p) ↔ ∃ i, i < 32 ∧ bit use i = true ∧ Q (physOf sym i) := by
    intro Q
    constructor
    · rintro ⟨p, hp, hb, hq⟩
      obtain ⟨i, hi, hu, rfl⟩ := (bit_physMask sym use (by omega)).mp hb
      exact ⟨i, hi, hu, hq⟩
    · rintro ⟨i, hi, hu, hq⟩
      have hp := physOf_lt (sym := sym) hi
      exact ⟨physOf sym i, hp, (bit_physMask sym use (by omega)).mpr ⟨i, hi, hu, rfl⟩, hq⟩
  match m with
  | some (.sched _) => exact hmask _
  | some (.spad _) => exact hmask _
  | some (.shared _) => exact hmask _
  | some .queue | some .sup | none => exact Iff.rfl

/-! ## Relocation (R317, R318, Table 11.8) -/

theorem windowBase_cluster {k c : Nat} (_ : c < 8) : windowBase (k * 8 + c) = 0x010000000 + k * 0x2000000 + c * 0x400000 := by
  unfold windowBase
  omega

/-- The memories of a logical engine stand in the window of its cluster, turned by the symmetry. -/
theorem engineBases {k sym i : Nat} (hk : k < 6) (hi : i < 32) :
    spadBase (k * 32 + physOf sym i) = windowBase (k * 8 + sigma sym (i / 4)) + 0x100000 + i % 4 * 0x40000 ∧
      schedBase (k * 32 + physOf sym i) = windowBase (k * 8 + sigma sym (i / 4)) + 0x120000 + i % 4 * 0x40000 := by
  have hs := sigma_lt (sym := sym) (c := i / 4) (by omega)
  have hq : (k * 32 + physOf sym i) / 4 = k * 8 + sigma sym (i / 4) := by
    unfold physOf
    omega
  have hr : (k * 32 + physOf sym i) % 4 = i % 4 := by
    unfold physOf
    omega
  have hne : k * 32 + physOf sym i ≠ 192 := by
    have := physOf_lt (sym := sym) hi
    omega
  rw [spadBase, schedBase, if_neg hne, if_neg hne, hq, hr]
  exact ⟨rfl, rfl⟩

theorem sigma_eq (sym c : Nat) : sigma sym c = (if sym % 2 = 1 then 1 - c / 4 else c / 4) * 4 + (if 2 ≤ sym then 3 - c % 4 else c % 4) := rfl

section
variable {c : State} {k sym : Nat} {use b : Word} {r : Word × Word}

theorem State.relocate_abs36 (h : fld r.1 35 32 = 1) : c.relocate k sym use b r =
    if fld r.1 24 17 = 0 ∧ fld r.1 31 30 < 3 ∧ bit use (fld r.1 29 25) = true ∧ fld r.1 16 0 < spaceWords (fld r.1 31 30) then
      some (b, c.setWord (spaceAddr k (fld r.1 31 30)
        (physTarget sym (fld r.1 31 30) (if fld r.1 31 30 = 2 then fld r.1 29 25 / 4 else fld r.1 29 25)) (fld r.1 16 0)) (b + r.2))
    else none := by
  have hspace := fld_lt r.1 31 30
  unfold State.relocate
  dsimp only
  rw [if_pos h]
  by_cases hok : fld r.1 24 17 = 0 ∧ fld r.1 31 30 < 3 ∧ bit use (fld r.1 29 25) = true ∧ fld r.1 16 0 < spaceWords (fld r.1 31 30)
  · rw [if_pos hok, if_neg]
    grind
  · rw [if_neg hok, if_pos]
    grind

/-- The records that set B from a base with the argument below n. -/
theorem State.relocate_base (h : 2 ≤ fld r.1 35 32 ∧ fld r.1 35 32 ≤ 4) : c.relocate k sym use b r =
    if fld r.1 24 17 < (if fld r.1 35 32 = 2 then 1 else if fld r.1 35 32 = 3 then 8 else 32) ∧
        (fld r.1 31 30 = 0 ∧ fld r.1 29 25 = 0 ∧ fld r.1 16 0 = 0) then
      some (BitVec.ofNat 36 (if fld r.1 35 32 = 2 then 0x010000000 + k * 0x2000000
        else if fld r.1 35 32 = 3 then windowBase (k * 8 + sigma sym (fld r.1 24 17)) else spadBase (k * 32 + physOf sym (fld r.1 24 17))) + r.2, c)
    else none := by
  unfold State.relocate
  dsimp only
  simp only [Bool.and_eq_true, beq_iff_eq, decide_eq_true_eq, and_assoc]
  obtain h2 | h3 | h4 : fld r.1 35 32 = 2 ∨ fld r.1 35 32 = 3 ∨ fld r.1 35 32 = 4 := by omega
  · simp [h2]
  · simp [h3]
  · simp [h4]

theorem State.relocate_block (h : fld r.1 35 32 = 6 ∨ fld r.1 35 32 = 7) : c.relocate k sym use b r =
    if fld r.1 31 30 = 0 ∧ fld r.1 29 25 = 0 ∧ fld r.1 16 0 = 0 then
      (c.blockFirst k (fld r.1 24 17)).map (fun f => (BitVec.ofNat 36 (if fld r.1 35 32 = 6 then f else 0x040000000 + f * 0x100) + r.2, c))
    else none := by
  unfold State.relocate
  dsimp only
  simp only [Bool.and_eq_true, beq_iff_eq, and_assoc]
  rcases h with h | h <;> simp [h]

theorem State.relocate_lim19 (h : fld r.1 35 32 = 5) : c.relocate k sym use b r =
    if fld r.1 24 17 = 0 ∧ fld r.1 31 30 = 0 ∧ bit use (fld r.1 29 25) = true then
      (c.patchLim19 (schedBase (k * 32 + physOf sym (fld r.1 29 25))) (fld r.1 16 0) (b.toInt + r.2.toInt)).map (fun st => (b, st))
    else none := by
  unfold State.relocate
  dsimp only
  simp only [h]
  by_cases hok : fld r.1 24 17 = 0 ∧ fld r.1 31 30 = 0 ∧ bit use (fld r.1 29 25) = true
  · rw [if_pos hok]
    simp [hok]
  · rw [if_neg hok]
    grind

theorem State.relocate_other (h : fld r.1 35 32 = 0 ∨ 8 ≤ fld r.1 35 32) : c.relocate k sym use b r = none := by
  unfold State.relocate
  dsimp only
  rw [if_neg (by omega), if_neg (by omega), if_neg (by omega), if_neg (by omega), if_neg (by omega), if_neg (by omega), if_neg (by omega)]

end

/-! ## The acts of a body, as its words arrive (Table 17.5) -/

theorem getElem?_of_prefix {l l' : List Word} (h : l <+: l') {i : Nat} {a : Word} (ha : l[i]? = some a) : l'[i]? = some a := by
  obtain ⟨m, rfl⟩ := h
  rw [List.getElem?_append_left ((List.getElem?_eq_some_iff.mp ha).1), ha]

theorem getD_of_prefix {l l' : List Word} (h : l <+: l') {i : Nat} (hi : i < l.length) : l'.getD i 0 = l.getD i 0 := by
  rw [List.getD_eq_getElem?_getD, List.getD_eq_getElem?_getD, getElem?_of_prefix h (List.getElem?_eq_getElem hi), List.getElem?_eq_getElem hi]

theorem relActs_prefix {l l' : List Word} (h : l <+: l') (n pos : Nat) : relActs l n pos <+: relActs l' n pos := by
  induction n generalizing pos with
  | zero => exact List.prefix_rfl
  | succ n ih =>
    rw [relActs, relActs]
    rcases ha : l[pos]? with _ | a
    · exact List.nil_prefix
    rcases hb : l[pos + 1]? with _ | b
    · exact List.nil_prefix
    rw [getElem?_of_prefix h ha, getElem?_of_prefix h hb]
    exact List.cons_prefix_cons.mpr ⟨rfl, ih _⟩

/-- What the words of one segment become. -/
def segWords (base : Nat) (ws : List Word) : List LoadAct := ws.zipIdx.map (fun p => LoadAct.word (base + 4 * p.2) p.1)

theorem segWords_prefix {base : Nat} {ws ws' : List Word} (h : ws <+: ws') : segWords base ws <+: segWords base ws' := by
  obtain ⟨m, rfl⟩ := h
  rw [segWords, segWords, List.zipIdx_append, List.map_append]
  exact List.prefix_append _ _

/-- More words only add acts at the end; segments that have all arrived stay as they are. -/
theorem segActs_prefix {l l' : List Word} (h : l <+: l') (k sym : Nat) (use : Word) (n pos : Nat) :
    (segActs k sym l use n pos).1 <+: (segActs k sym l' use n pos).1 ∧
      ∀ e, (segActs k sym l use n pos).2 = some e → segActs k sym l' use n pos = segActs k sym l use n pos := by
  induction n generalizing pos with
  | zero => exact ⟨List.prefix_rfl, fun _ _ => rfl⟩
  | succ n ih =>
    rw [segActs, segActs]
    rcases ha : l[pos]? with _ | a
    · exact ⟨List.nil_prefix, nofun⟩
    rcases hb : l[pos + 1]? with _ | b
    · exact ⟨List.nil_prefix, nofun⟩
    rw [getElem?_of_prefix h ha, getElem?_of_prefix h hb]
    dsimp only
    generalize (if fld b 16 0 = 0 then 65536 else fld b 16 0) = len
    generalize (if fld a 35 34 = 2 then fld a 33 29 / 4 else fld a 33 29) = target
    split
    next => exact ⟨List.prefix_rfl, nofun⟩
    next =>
      have hws : (l.drop (pos + 2)).take len <+: (l'.drop (pos + 2)).take len := (h.drop _).take _
      split
      next hshort =>
        refine ⟨?_, nofun⟩
        have hacts := segWords_prefix (base := spaceAddr k (fld a 35 34) (physTarget sym (fld a 35 34) target) (fld a 16 0)) hws
        split
        · exact hacts
        · exact hacts.trans (List.prefix_append _ _)
      next hfull =>
        have hall : (l'.drop (pos + 2)).take len = (l.drop (pos + 2)).take len :=
          (hws.eq_of_length_le (by rw [List.length_take]; omega)).symm
        rw [hall, if_neg hfull]
        obtain ⟨hp, he⟩ := ih (pos + 2 + len)
        refine ⟨?_, fun e h2 => ?_⟩
        · exact (List.prefix_append_right_inj _).mpr hp
        · rw [he e h2]

theorem loadActs_prefix {l l' : List Word} (h : l <+: l') (k sym : Nat) {off : Nat} (hoff : off + 7 ≤ l.length) :
    loadActs k sym l off <+: loadActs k sym l' off := by
  obtain ⟨hp, he⟩ := segActs_prefix h k sym (l.getD off 0) (fld (l.getD (off + 5) 0) 15 0) (off + 7)
  rw [loadActs, loadActs, getD_of_prefix h (i := off) (by omega), getD_of_prefix h (i := off + 5) (by omega),
    getD_of_prefix h (i := off + 6) (by omega)]
  rw [List.cons_append, List.cons_append, List.cons_prefix_cons]
  refine ⟨rfl, ?_⟩
  rcases hs : (segActs k sym l (l.getD off 0) (fld (l.getD (off + 5) 0) 15 0) (off + 7)).2 with _ | e
  · dsimp only
    rw [List.append_nil]
    exact hp.trans (List.prefix_append _ _)
  · rw [he e hs, hs]
    exact (List.prefix_append_right_inj _).mpr (relActs_prefix h _ _)

/-! ## The acts of a valid variant -/

theorem relActs_of_parse {l : List Word} {n pos : Nat} {rels : List (Word × Word)} (h : parseRels l n pos = some rels) :
    relActs l n pos = rels.map .rel := by
  induction n generalizing pos rels with
  | zero =>
    cases h
    rfl
  | succ n ih =>
    rw [parseRels] at h
    rw [relActs]
    split at h
    next a b _ _ =>
      obtain ⟨r, hr, rfl⟩ := Option.map_eq_some_iff.mp h
      exact congrArg (_ :: ·) (ih hr)
    next => cases h

theorem spaceAddr_add (k space phys a i : Nat) : spaceAddr k space phys a + 4 * i = spaceAddr k space phys (a + i) := by
  unfold spaceAddr
  omega

/-- The words of a segment whose data have arrived, word by word. -/
theorem segWords_take {l : List Word} {pos len : Nat} (h : pos + len ≤ l.length) (k space phys start : Nat) :
    segWords (spaceAddr k space phys start) ((l.drop pos).take len) =
      (List.range len).map (fun i => .word (spaceAddr k space phys (start + i)) (l.getD (pos + i) 0)) := by
  apply List.ext_getElem
  · simp only [segWords, List.length_map, List.length_zipIdx, List.length_take, List.length_drop, List.length_range]
    omega
  · intro i hi _
    simp only [segWords, List.length_map, List.length_zipIdx, List.length_take, List.length_drop] at hi
    simp only [segWords, List.getElem_map, List.getElem_zipIdx, List.getElem_take, List.getElem_drop, List.getElem_range, Nat.zero_add,
      spaceAddr_add]
    rw [List.getD_eq_getElem _ _ (by omega)]

/-- The words of the segments of a variant, at their places in the physical memories. -/
def segsActs (k sym : Nat) (l : List Word) (segs : List Seg) : List LoadAct :=
  segs.flatMap (fun g => (List.range g.len).map (fun i =>
    .word (spaceAddr k g.space (physTarget sym g.space g.target) (g.start + i)) (l.getD (g.off + i) 0)))

theorem segActs_of_parse {l : List Word} {use : Word} {n pos e : Nat} {segs : List Seg} (h : parseSegs l use n pos = some (segs, e))
    (k sym : Nat) : segActs k sym l use n pos = (segsActs k sym l segs, some e) := by
  induction n generalizing pos segs with
  | zero =>
    cases h
    rfl
  | succ n ih =>
    rw [parseSegs] at h
    rw [segActs]
    split at h
    next a b _ _ =>
      dsimp only at h ⊢
      generalize (if fld b 16 0 = 0 then 65536 else fld b 16 0) = len at h ⊢
      generalize (if fld a 35 34 = 2 then fld a 33 29 / 4 else fld a 33 29) = target at h ⊢
      split at h
      next => cases h
      next hok =>
        obtain ⟨⟨segs', e'⟩, hr, hcons⟩ := Option.map_eq_some_iff.mp h
        cases hcons
        have hfit : pos + 2 + len ≤ l.length := by omega
        rw [if_neg (by tauto), if_neg (by rw [List.length_take, List.length_drop]; omega), ih hr]
        exact congrArg (fun a => (a ++ segsActs k sym l segs', some _)) (segWords_take hfit _ _ _ _)
    next => cases h

/-- The variants of a body, in the order of their offsets. -/
theorem getElem?_sequence {l : List (Option Variant)} {vs : List Variant} {j : Nat} {v : Variant}
    (h : l.foldr (fun v acc => match v, acc with | some x, some l => some (x :: l) | _, _ => none) (some []) = some vs)
    (hv : vs[j]? = some v) : l[j]? = some (some v) := by
  induction l generalizing vs j with
  | nil =>
    cases h
    cases hv
  | cons a l ih =>
    rw [List.foldr_cons] at h
    split at h
    next x ys hys =>
      cases h
      cases j with
      | zero =>
        cases hv
        rfl
      | succ j => exact ih hys hv
    next => cases h

theorem parseVariant_of_parseVariants {bd : List Word} {vs : List Variant} {v : Variant} {j : Nat} (h : parseVariants bd = some vs)
    (hv : vs[j]? = some v) : parseVariant bd (variantAt bd j) = some v := by
  unfold parseVariants at h
  dsimp only at h
  split at h
  next => cases h
  next =>
    have hj := getElem?_sequence h hv
    rw [List.getElem?_map, Option.map_eq_some_iff] at hj
    obtain ⟨i, hi, hp⟩ := hj
    obtain ⟨_, hij⟩ := List.getElem?_eq_some_iff.mp hi
    rw [List.getElem_range] at hij
    rw [variantAt, hij, hp]

theorem loadActs_of_variant {bd : List Word} {v : Variant} {off : Nat} (h : parseVariant bd off = some v) (k sym : Nat) :
    loadActs k sym bd off = .zero :: (segsActs k sym bd v.segs ++ v.rels.map .rel) := by
  unfold parseVariant at h
  dsimp only at h
  split at h
  next => cases h
  split at h
  next => cases h
  split at h
  next => cases h
  next segs pos hsegs =>
  split at h
  next => cases h
  next rels hrels =>
  split at h
  next =>
    cases h
    rw [loadActs, segActs_of_parse (use := bd.getD off 0) hsegs]
    dsimp only
    rw [relActs_of_parse hrels, List.cons_append]
  next => cases h

/-! ## The choice of a placement (R319, R320) -/

/-- The order of R320 among placements with the same N: the lower variant, then the lower SYM. -/
def placedBefore (x y : Nat × Nat × Variant) : Prop := x.1 < y.1 ∨ (x.1 = y.1 ∧ x.2.1 < y.2.1)

/-- r is the choice of R320 among `l`. -/
def chosenOf (r : Nat × Nat × Variant) (l : List (Nat × Nat × Variant)) : Prop :=
  r ∈ l ∧ ∀ x ∈ l, x.2.2.n < r.2.2.n ∨ (x.2.2.n = r.2.2.n ∧ (x = r ∨ placedBefore r x))

theorem chosenOf_foldl (l : List (Nat × Nat × Variant)) (b : Nat × Nat × Variant) (hl : (b :: l).Pairwise placedBefore) :
    ∃ r, l.foldl (fun best x => match best with
      | none => some x
      | some b => if b.2.2.n < x.2.2.n then some x else some b) (some b) = some r ∧ chosenOf r (b :: l) := by
  induction l generalizing b with
  | nil => exact ⟨b, rfl, List.mem_cons_self, fun x hx => .inr ⟨by rw [List.mem_singleton.mp hx], .inl (List.mem_singleton.mp hx)⟩⟩
  | cons y l ih =>
    rw [List.pairwise_cons, List.pairwise_cons] at hl
    obtain ⟨hb, hy, hl⟩ := hl
    rw [List.foldl_cons]
    dsimp only
    split
    next hlt =>
      obtain ⟨r, hr, hmem, hall⟩ := ih y (List.pairwise_cons.mpr ⟨hy, hl⟩)
      refine ⟨r, hr, List.mem_cons_of_mem _ hmem, fun x hx => ?_⟩
      rcases List.mem_cons.mp hx with rfl | hx
      · rcases hall y List.mem_cons_self with h | h
        · exact .inl (by omega)
        · exact .inl (by omega)
      · exact hall x hx
    next hge =>
      obtain ⟨r, hr, hmem, hall⟩ := ih b (List.pairwise_cons.mpr ⟨fun z hz => hb z (List.mem_cons_of_mem _ hz), hl⟩)
      refine ⟨r, hr, ?_, fun x hx => ?_⟩
      · rcases List.mem_cons.mp hmem with rfl | h
        · exact List.mem_cons_self
        · exact List.mem_cons_of_mem _ (List.mem_cons_of_mem _ h)
      · rcases List.mem_cons.mp hx with rfl | hx
        · exact hall x List.mem_cons_self
        · rcases List.mem_cons.mp hx with rfl | hx
          · have hbx := hb x List.mem_cons_self
            rcases hall b List.mem_cons_self with h | ⟨h, rfl | hrb⟩
            · exact .inl (by omega)
            · rcases Nat.lt_or_ge x.2.2.n b.2.2.n with h' | h'
              · exact .inl h'
              · exact .inr ⟨by omega, .inr hbx⟩
            · rcases Nat.lt_or_ge x.2.2.n r.2.2.n with h' | h'
              · exact .inl h'
              · refine .inr ⟨by omega, .inr ?_⟩
                unfold placedBefore at hrb hbx ⊢
                omega
          · exact hall x (List.mem_cons_of_mem _ hx)

/-- The fitting placements, in the order of R320. -/
def placements (usable : Word) (vs : List Variant) : List (Nat × Nat × Variant) :=
  vs.zipIdx.flatMap (fun p => (List.range 4).filterMap (fun sym => if fits usable sym p.1 then some (p.2, sym, p.1) else none))

theorem mem_placements {usable : Word} {vs : List Variant} {j sym : Nat} {v : Variant} :
    (j, sym, v) ∈ placements usable vs ↔ vs[j]? = some v ∧ sym < 4 ∧ fits usable sym v = true := by
  simp only [placements, List.mem_flatMap, List.mem_filterMap, List.mem_range, Option.ite_none_right_eq_some, Option.some.injEq, Prod.mk.injEq,
    Prod.exists, List.mem_zipIdx_iff_getElem?]
  constructor
  · rintro ⟨w, i, hw, sym', hs, hf, rfl, rfl, rfl⟩
    exact ⟨hw, hs, hf⟩
  · rintro ⟨hv, hs, hf⟩
    exact ⟨v, j, hv, sym, hs, hf, rfl, rfl, rfl⟩

theorem placements_pairwise (usable : Word) (vs : List Variant) : (placements usable vs).Pairwise placedBefore := by
  rw [placements, List.pairwise_flatMap]
  refine ⟨fun p _ => ?_, ?_⟩
  · rw [List.pairwise_filterMap]
    refine List.pairwise_lt_range.imp (fun {a b} hab x hx y hy => ?_)
    rw [Option.ite_none_right_eq_some] at hx hy
    obtain ⟨_, hx⟩ := hx
    obtain ⟨_, hy⟩ := hy
    cases hx
    cases hy
    exact .inr ⟨rfl, hab⟩
  · rw [List.pairwise_iff_getElem]
    intro i j hi hj hij x hx y hy
    rw [List.getElem_zipIdx, Nat.zero_add] at hx hy
    obtain ⟨_, _, hx⟩ := List.mem_filterMap.mp hx
    obtain ⟨_, _, hy⟩ := List.mem_filterMap.mp hy
    rw [Option.ite_none_right_eq_some] at hx hy
    obtain ⟨_, hx⟩ := hx
    obtain ⟨_, hy⟩ := hy
    cases hx
    cases hy
    exact .inl hij

theorem choosePlacement_none_iff {usable : Word} {vs : List Variant} : choosePlacement usable vs = none ↔ placements usable vs = [] := by
  have hp := placements_pairwise usable vs
  rw [show choosePlacement usable vs = (placements usable vs).foldl _ none from rfl]
  revert hp
  rcases placements usable vs with _ | ⟨b, l⟩ <;> intro hp
  · exact ⟨fun _ => rfl, fun _ => rfl⟩
  · obtain ⟨r, hr, _⟩ := chosenOf_foldl l b hp
    rw [List.foldl_cons]
    exact ⟨fun h => absurd (hr.symm.trans h) (Option.some_ne_none r), nofun⟩

theorem chosenOf_choosePlacement {usable : Word} {vs : List Variant} {r : Nat × Nat × Variant} (h : choosePlacement usable vs = some r) :
    chosenOf r (placements usable vs) := by
  have hp := placements_pairwise usable vs
  rw [show choosePlacement usable vs = (placements usable vs).foldl _ none from rfl] at h
  rcases hl : placements usable vs with _ | ⟨b, l⟩
  · rw [hl] at h
    cases h
  · rw [hl] at h hp
    obtain ⟨r', hr, hc⟩ := chosenOf_foldl l b hp
    rw [List.foldl_cons] at h
    cases hr.symm.trans h
    exact hc

/-! ## The variants as the header names them -/

/-- Variant j of a header with n variants fits under the symmetry. -/
def headerFits (usable : Word) (hdr : List Word) (n j sym : Nat) : Prop :=
  j < min 8 n ∧ sym < 4 ∧ ∀ i, i < 32 → bit (hdr.getD (8 + j) 0) i = true → bit usable (physOf sym i) = true

/-- The choice of R320 among the variants of a header. -/
def headerBest (usable : Word) (hdr : List Word) (n j sym : Nat) : Prop :=
  headerFits usable hdr n j sym ∧ ∀ j' sym', headerFits usable hdr n j' sym' →
    popcount (hdr.getD (8 + j') 0) < popcount (hdr.getD (8 + j) 0) ∨
      (popcount (hdr.getD (8 + j') 0) = popcount (hdr.getD (8 + j) 0) ∧ (j < j' ∨ (j = j' ∧ sym ≤ sym')))

theorem fits_iff (usable : Word) (sym : Nat) (v : Variant) :
    fits usable sym v = true ↔ ∀ i, i < 32 → bit v.use i = true → bit usable (physOf sym i) = true := by
  simp only [fits, List.all_eq_true, List.mem_range, Bool.or_eq_true, Bool.not_eq_true']
  refine forall_congr' fun i => imp_congr_right fun _ => ?_
  cases bit v.use i <;> simp

theorem getElem?_hdrVariants (hdr : List Word) (n j : Nat) : (hdrVariants hdr n)[j]? = if j < min 8 n then
    some { use := hdr.getD (8 + j) 0, n := popcount (hdr.getD (8 + j) 0), perf := 0, entry := 0, cyc := 0, segs := [], rels := [] } else none := by
  rw [hdrVariants, List.getElem?_map]
  split
  next h => rw [List.getElem?_range h, Option.map_some]
  next h => rw [List.getElem?_eq_none (by rwa [List.length_range, ← Nat.not_lt]), Option.map_none]

theorem mem_placements_hdr {usable : Word} {hdr : List Word} {n j sym : Nat} {v : Variant} :
    (j, sym, v) ∈ placements usable (hdrVariants hdr n) ↔ headerFits usable hdr n j sym ∧
      v = { use := hdr.getD (8 + j) 0, n := popcount (hdr.getD (8 + j) 0), perf := 0, entry := 0, cyc := 0, segs := [], rels := [] } := by
  rw [mem_placements, getElem?_hdrVariants, fits_iff, Option.ite_none_right_eq_some, headerFits]
  constructor
  · rintro ⟨⟨hj, hv⟩, hs, hf⟩
    cases hv
    exact ⟨⟨hj, hs, hf⟩, rfl⟩
  · rintro ⟨⟨hj, hs, hf⟩, rfl⟩
    exact ⟨⟨hj, rfl⟩, hs, hf⟩

theorem choosePlacement_hdr_none {usable : Word} {hdr : List Word} {n : Nat} (h : ∀ j sym, ¬ headerFits usable hdr n j sym) :
    choosePlacement usable (hdrVariants hdr n) = none := by
  rw [choosePlacement_none_iff, List.eq_nil_iff_forall_not_mem]
  exact fun p hp => h p.1 p.2.1 (mem_placements_hdr.mp hp).1

theorem choosePlacement_hdr_best {usable : Word} {hdr : List Word} {n j sym : Nat} (h : headerBest usable hdr n j sym) :
    ∃ v, choosePlacement usable (hdrVariants hdr n) = some (j, sym, v) := by
  obtain ⟨hfit, hbest⟩ := h
  rcases hc : choosePlacement usable (hdrVariants hdr n) with _ | ⟨j', sym', v⟩
  · have hmem := mem_placements_hdr.mpr ⟨hfit, rfl⟩
    rw [choosePlacement_none_iff.mp hc] at hmem
    cases hmem
  · obtain ⟨hmem, hall⟩ := chosenOf_choosePlacement hc
    obtain ⟨hfit', rfl⟩ := mem_placements_hdr.mp hmem
    have h1 := hbest j' sym' hfit'
    have h2 := hall _ (mem_placements_hdr.mpr ⟨hfit, rfl⟩)
    dsimp only at h2
    simp only [Prod.mk.injEq, placedBefore] at h2
    obtain rfl : j = j' := by omega
    obtain rfl : sym = sym' := by omega
    exact ⟨_, rfl⟩

/-! ## The arrival of words (R321, Table 17.5) -/

theorem imgBody_prefix {ws more : List Word} (h : 16 ≤ ws.length) : imgBody ws <+: imgBody (ws ++ more) := by
  have hlen : imgBodyLen (ws ++ more) = imgBodyLen ws := by
    rw [imgBodyLen, imgBodyLen, getD_of_prefix (List.prefix_append ws more) (by omega)]
  rw [imgBody, imgBody, hlen]
  exact ((List.prefix_append ws more).drop 16).take _

section
variable {s : State} {k : Nat} {hdr body : List Word}

theorem State.loadSelect_early (h : hdr.length < 16 ∨ body.length < 10) : s.loadSelect k hdr body = none := if_pos h

theorem State.loadSelect_noPlacement (h : ¬ (hdr.length < 16 ∨ body.length < 10))
    (hc : choosePlacement (s.reg (.SEC_USABLE k)) (hdrVariants hdr (fld (body.getD 0 0) 35 32)) = none) :
    s.loadSelect k hdr body = some (9, 0, 0) := by
  rw [State.loadSelect, if_neg h, hc]
  rfl

theorem State.loadSelect_placement {j sym : Nat} {v : Variant} (h : ¬ (hdr.length < 16 ∨ body.length < 10))
    (hc : choosePlacement (s.reg (.SEC_USABLE k)) (hdrVariants hdr (fld (body.getD 0 0) 35 32)) = some (j, sym, v)) :
    s.loadSelect k hdr body = if body.length < variantAt body j + 7 then none
      else if fld (body.getD 0 0) 29 19 * s.beat.period < fld (body.getD (variantAt body j + 4) 0) 17 0 * 100 ∨
        s.cclk < fld (body.getD 0 0) 29 19 then some (9, 0, 0) else some (0, j, sym) := by
  rw [State.loadSelect, if_neg h, hc]
  rfl

/-- The words that the choice needs are in hand once it has been made. -/
theorem State.loadSelect_needs {st j sym : Nat} (h : s.loadSelect k hdr body = some (st, j, sym)) :
    16 ≤ hdr.length ∧ 10 ≤ body.length ∧ (st = 0 → j < 8 ∧ sym < 4 ∧ variantAt body j + 7 ≤ body.length) := by
  by_cases hearly : hdr.length < 16 ∨ body.length < 10
  · rw [State.loadSelect_early hearly] at h
    cases h
  · refine ⟨by omega, by omega, fun hst => ?_⟩
    rcases hc : choosePlacement (s.reg (.SEC_USABLE k)) (hdrVariants hdr (fld (body.getD 0 0) 35 32)) with _ | ⟨j', sym', v⟩
    · rw [State.loadSelect_noPlacement hearly hc] at h
      cases h
      cases hst
    · obtain ⟨⟨hj, hs, _⟩, _⟩ := mem_placements_hdr.mp (chosenOf_choosePlacement hc).1
      rw [State.loadSelect_placement hearly hc] at h
      split at h
      next => cases h
      next hlen =>
        split at h
        next =>
          cases h
          cases hst
        next =>
          cases h
          exact ⟨by omega, hs, by omega⟩

/-- More words do not change a choice that has been made. -/
theorem State.loadSelect_prefix {body' : List Word} {r : Nat × Nat × Nat} (hb : body <+: body') (h : s.loadSelect k hdr body = some r) :
    s.loadSelect k hdr body' = some r := by
  obtain ⟨st, j, sym⟩ := r
  obtain ⟨h16, h10, _⟩ := State.loadSelect_needs h
  have hlen := hb.length_le
  have hearly : ¬ (hdr.length < 16 ∨ body.length < 10) := by omega
  have hearly' : ¬ (hdr.length < 16 ∨ body'.length < 10) := by omega
  have h0 : body'.getD 0 0 = body.getD 0 0 := getD_of_prefix hb (by omega)
  rcases hc : choosePlacement (s.reg (.SEC_USABLE k)) (hdrVariants hdr (fld (body.getD 0 0) 35 32)) with _ | ⟨j', sym', v⟩
  · rw [State.loadSelect_noPlacement hearly hc] at h
    rw [State.loadSelect_noPlacement hearly' (by rw [h0, hc]), h]
  · obtain ⟨⟨hj, _⟩, _⟩ := mem_placements_hdr.mp (chosenOf_choosePlacement hc).1
    have hat : variantAt body' j' = variantAt body j' := by rw [variantAt, variantAt, getD_of_prefix hb (by omega)]
    rw [State.loadSelect_placement hearly hc] at h
    rw [State.loadSelect_placement hearly' (by rw [h0, hc]), h0, hat]
    split at h
    next => cases h
    next hroom => rwa [if_neg (by omega), getD_of_prefix hb (by omega)]

end

/-- What an arrival does under a choice of variant and SYM. -/
def State.loadUnder (s : State) (x : Session) : Option (Nat × Nat × Nat) → State × Session
  | some (0, j, sym) =>
    let bd := imgBody x.words
    let off := variantAt bd j
    let as := (loadActs x.target sym bd off).drop x.acts
    let r := as.foldl (fun a y => a.1.loadAct x.target sym (bd.getD off 0) a.2 y) (s, x.relB)
    (r.1, { x with sel := some (0, j, sym), acts := x.acts + as.length, relB := r.2 })
  | sel => (s, { x with sel := sel })

section
variable {s : State} {x : Session} (h3 : x.type = 3)
include h3

/-- The choice is made once, from the words that have arrived. -/
theorem State.loadArrive_eq :
    s.loadArrive x = s.loadUnder x (x.sel.or (s.loadSelect x.target (x.words.take 16) (imgBody x.words))) := by
  rw [State.loadArrive, if_neg (fun h => h h3), imgBody, imgBodyLen]
  dsimp only
  rcases x.sel with _ | r
  · dsimp only
    rw [Option.none_or]
    rcases s.loadSelect x.target (x.words.take 16) ((x.words.drop 16).take (fld (x.words.getD 2 0) 22 0)) with _ | ⟨_ | _, _, _⟩ <;> rfl
  · rcases r with ⟨_ | _, _, _⟩ <;> rfl

theorem State.loadArrive_wait (hsel : x.sel = none) (hw : s.loadSelect x.target (x.words.take 16) (imgBody x.words) = none) :
    s.loadArrive x = (s, x) := by
  rw [State.loadArrive_eq h3, hsel, Option.none_or, hw]
  exact congrArg (fun sel => (s, { x with sel := sel })) hsel.symm

theorem State.loadArrive_select {r : Nat × Nat × Nat} (hsel : x.sel = none)
    (hw : s.loadSelect x.target (x.words.take 16) (imgBody x.words) = some r) : s.loadArrive x = s.loadUnder x (some r) := by
  rw [State.loadArrive_eq h3, hsel, Option.none_or, hw]

theorem State.loadArrive_selected {r : Nat × Nat × Nat} (hsel : x.sel = some r) : s.loadArrive x = s.loadUnder x (some r) := by
  rw [State.loadArrive_eq h3, hsel, Option.some_or]

end

/-- The words arriving in two parts come to the same as all of them at once. -/
theorem State.loadUnder_parts {s : State} {x : Session} (h3 : x.type = 3) (hacts : x.acts = 0) {bd : List Word} {r : Nat × Nat × Nat}
    (hbd : imgBody x.words <+: bd) {words : List Word} (hwords : imgBody words = bd)
    (hfit : r.1 = 0 → variantAt bd r.2.1 = variantAt (imgBody x.words) r.2.1 ∧ variantAt bd r.2.1 + 7 ≤ (imgBody x.words).length) :
    (s.loadUnder x (some r)).1.loadArrive { (s.loadUnder x (some r)).2 with words := words } =
      s.loadUnder { x with words := words } (some r) := by
  obtain ⟨st, j, sym⟩ := r
  cases st with
  | succ st => exact State.loadArrive_selected (x := { x with sel := some (st + 1, j, sym), words := words }) h3 rfl
  | zero =>
    obtain ⟨hat, hroom⟩ := hfit rfl
    obtain ⟨rest, hrest⟩ := loadActs_prefix hbd x.target sym hroom
    refine (State.loadArrive_selected (x := { (s.loadUnder x (some (0, j, sym))).2 with words := words }) (r := (0, j, sym)) h3 rfl).trans ?_
    dsimp only at hat hroom hrest
    simp only [State.loadUnder]
    rw [hwords, hacts, ← hat, getD_of_prefix hbd (by omega), ← hrest, List.drop_zero, Nat.zero_add, List.drop_left, List.drop_zero,
      List.foldl_append, List.length_append, Nat.zero_add]

/-! ## The obligation -/

theorem windowBase_turned {k sym cl : Nat} (hc : cl < 8) : windowBase (k * 8 + sigma sym cl) =
    0x010000000 + k * 0x2000000 + ((if sym % 2 = 1 then 1 - cl / 4 else cl / 4) * 4 + (if 2 ≤ sym then 3 - cl % 4 else cl % 4)) * 0x400000 := by
  rw [windowBase_cluster (sigma_lt hc), sigma_eq]

/-- The place of a site in the memory of its SPACE. -/
theorem spaceAddr_site {k sym space site : Nat} (h : space < 3) (off : Nat) :
    spaceAddr k space (physTarget sym space (if space = 2 then site / 4 else site)) off =
      (if space = 0 then schedBase (k * 32 + physOf sym site) else if space = 1 then spadBase (k * 32 + physOf sym site)
        else windowBase (k * 8 + sigma sym (site / 4))) + 4 * off := by
  obtain rfl | rfl | rfl : space = 0 ∨ space = 1 ∨ space = 2 := by omega
  · simp [spaceAddr, physTarget]
  · simp [spaceAddr, physTarget]
  · simp [spaceAddr, physTarget]

/-- Settles O52: the selection by the words it needs, the acts by their prefix order, and each record type by its row. -/
theorem loadersWriteScheduleImagesAsTheyArrive : Obligations.LoadersWriteScheduleImagesAsTheyArrive := by
  unfold Obligations.LoadersWriteScheduleImagesAsTheyArrive
  refine ⟨?_, ?_, ?_⟩
  · intro c x h3 _ k hdr bd use can best off mhz slow q
    have hhdr : hdr.length = min 16 x.words.length := List.length_take
    have hready : 16 ≤ x.words.length → 10 ≤ bd.length → ¬ (hdr.length < 16 ∨ bd.length < 10) := by omega
    refine ⟨?_, ?_, ?_, ?_, ?_, ?_⟩
    · intro hsel hearly
      exact State.loadArrive_wait h3 hsel (State.loadSelect_early (hearly.imp_left (fun h => hhdr ▸ by omega)))
    · intro hsel h16 h10
      have hrd := hready h16 h10
      refine ⟨fun hnone => ?_, fun j sym hbest => ?_⟩
      · exact State.loadArrive_select h3 hsel (State.loadSelect_noPlacement hrd (choosePlacement_hdr_none hnone))
      · obtain ⟨v, hv⟩ := choosePlacement_hdr_best hbest
        have hchoice := State.loadSelect_placement hrd hv
        refine ⟨fun hshort => ?_, fun hroom hslow => ?_, fun hroom hslow => ?_⟩
        · exact State.loadArrive_wait h3 hsel (hchoice.trans (if_pos hshort))
        · refine State.loadArrive_select h3 hsel ((hchoice.trans (if_neg (Nat.not_lt.mpr hroom))).trans (if_pos ?_))
          rwa [Nat.mul_comm _ 100]
        · have hfast : c.loadSelect k hdr bd = some (0, j, sym) := by
            refine (hchoice.trans (if_neg (Nat.not_lt.mpr hroom))).trans (if_neg ?_)
            rwa [Nat.mul_comm _ 100]
          exact (State.loadArrive_select h3 hsel hfast).trans (State.loadArrive_selected (x := { x with sel := some (0, j, sym) }) h3 rfl).symm
    · intro st j sym hsel
      refine (State.loadArrive_selected h3 hsel).trans ?_
      exact congrArg (fun sel => (c, { x with sel := sel })) hsel.symm
    · intro j sym hsel _ as r
      refine (State.loadArrive_selected h3 hsel).trans ?_
      exact congrArg (fun sel => (r.1, { x with sel := sel, acts := x.acts + as.length, relB := r.2 })) hsel.symm
    · intro ws more hsel hacts _
      dsimp only
      rcases hchoice : c.loadSelect k (ws.take 16) (imgBody ws) with _ | ⟨st, j, sym⟩
      · rw [State.loadArrive_wait (x := { x with words := ws }) h3 hsel hchoice]
      · obtain ⟨h16, h10, hfit⟩ := State.loadSelect_needs hchoice
        rw [List.length_take] at h16
        have hbody := imgBody_prefix (ws := ws) (more := more) (by omega)
        have hall : c.loadSelect k ((ws ++ more).take 16) (imgBody (ws ++ more)) = some (st, j, sym) := by
          rw [List.take_append_of_le_length (by omega)]
          exact State.loadSelect_prefix hbody hchoice
        rw [State.loadArrive_select (x := { x with words := ws }) h3 hsel hchoice,
          State.loadArrive_select (x := { x with words := ws ++ more }) h3 hsel hall]
        refine State.loadUnder_parts (x := { x with words := ws }) h3 hacts hbody rfl (fun hst => ?_)
        obtain ⟨hj, _, hroom⟩ := hfit hst
        have hat : variantAt (imgBody (ws ++ more)) j = variantAt (imgBody ws) j := by
          rw [variantAt, variantAt, getD_of_prefix hbody (by omega)]
        exact ⟨hat, by rw [hat]; exact hroom⟩
    · intro vs v j sym hvs hv _
      exact loadActs_of_variant (parseVariant_of_parseVariants hvs hv) k sym
  · intro c k sym use b _ _
    refine ⟨fun _ _ => rfl, fun _ => rfl, fun r v => ?_, c.zeroPlacement k (physMask sym use), rfl, fun ca => ?_⟩
    · change (match c.relocate k sym use v r with | some (v', t) => (t, some v') | none => (c, none)) = _
      rcases c.relocate k sym use v r with _ | ⟨v', t⟩ <;> rfl
    · obtain ⟨hzero, hkeep⟩ := c.word_zeroPlacement k (physMask sym use) ca
      exact ⟨fun h => hzero ((placedMem_physMask k sym use _).mpr h), fun h => hkeep (fun hp => h ((placedMem_physMask k sym use _).mp hp))⟩
  · intro c k sym use b r0 a hk _ hheld ty space site arg off got bare base turned window sched block
    have hsite : site < 32 := fld_lt r0 29 25
    have hwindow : ∀ cl, cl < 8 → windowBase (k * 8 + sigma sym cl) = window cl := fun cl hcl => windowBase_turned hcl
    have hspad : ∀ i, i < 32 → spadBase (k * 32 + physOf sym i) = window (i / 4) + 0x100000 + i % 4 * 0x40000 := fun i hi => by
      rw [(engineBases hk hi).1, hwindow _ (by omega)]
    have hsched : schedBase (k * 32 + physOf sym site) = sched := by
      rw [(engineBases hk hsite).2, hwindow _ (by omega)]
    have hbase : ∀ (n v : Nat), 2 ≤ ty ∧ ty ≤ 4 → (if ty = 2 then 1 else if ty = 3 then 8 else 32) = n →
        (arg < n → (if ty = 2 then 0x010000000 + k * 0x2000000 else if ty = 3 then windowBase (k * 8 + sigma sym arg)
          else spadBase (k * 32 + physOf sym arg)) = v) → base (arg < n ∧ bare) v := fun n v hty hn hv => by
      have hrow : got = _ := State.relocate_base (r := (r0, a)) hty
      change got = if arg < (if ty = 2 then 1 else if ty = 3 then 8 else 32) ∧ bare then _ else none at hrow
      rw [hn] at hrow
      refine ⟨fun h => hrow.trans ((if_pos h).trans ?_), fun h => hrow.trans (if_neg h)⟩
      rw [← hv h.1]
    refine ⟨?_, ?_, ?_, ?_, ?_, ?_, ?_⟩
    · intro hty
      obtain ⟨h1, h2⟩ := hbase 1 _ (by omega) (if_pos hty) (fun _ => if_pos hty)
      rw [Nat.lt_one_iff] at h1 h2
      exact ⟨h1, h2⟩
    · intro hty
      exact hbase 8 _ (by omega) (by rw [hty]; rfl) (fun h => by rw [hty]; exact hwindow arg h)
    · intro hty
      exact hbase 32 _ (by omega) (by rw [hty]; rfl) (fun h => by rw [hty]; exact hspad arg h)
    · intro hty
      have hrow : got = if bare then (c.blockFirst k arg).map (fun f => (BitVec.ofNat 36 (if ty = 6 then f else 0x040000000 + f * 0x100) + a, c))
        else none := State.relocate_block (r := (r0, a)) hty
      have hfirst : c.blockFirst k arg = block.map (fun o => o.first) := rfl
      refine ⟨?_, fun o hb ho => ?_⟩
      · rintro (hb | hb)
        · exact hrow.trans (if_neg hb)
        · rw [hrow, hfirst, hb]
          exact ite_self none
      · rw [hrow, if_pos hb, hfirst, ho]
        rfl
    · intro hty ok at'
      have hrow : got = if arg = 0 ∧ space < 3 ∧ bit use site = true ∧ off < spaceWords space then
          some (b, c.setWord (spaceAddr k space (physTarget sym space (if space = 2 then site / 4 else site)) off) (b + a)) else none :=
        State.relocate_abs36 (r := (r0, a)) hty
      have hat : space < 3 → spaceAddr k space (physTarget sym space (if space = 2 then site / 4 else site)) off = at' := fun hs => by
        rw [spaceAddr_site hs, hsched, hspad site hsite, hwindow (site / 4) (by omega)]
      refine ⟨fun h => ?_, fun h => hrow.trans (if_neg h)⟩
      rw [hrow, if_pos (show arg = 0 ∧ space < 3 ∧ bit use site = true ∧ off < spaceWords space from h), hat h.2.1]
    · intro hty parcel move v ok
      have hrow : got = if arg = 0 ∧ space = 0 ∧ bit use site = true then
          (c.patchLim19 (schedBase (k * 32 + physOf sym site)) off (b.toInt + a.toInt)).map (fun st => (b, st)) else none :=
        State.relocate_lim19 (r := (r0, a)) hty
      classical
      rw [hsched, State.patchLim19_eq] at hrow
      refine ⟨fun h => ?_, fun h => ?_⟩
      · by_cases hsite : arg = 0 ∧ space = 0 ∧ bit use site = true
        · rw [hrow, if_pos hsite, if_neg (show ¬ c.lim19Site sched off (b.toInt + a.toInt) from fun hl => h ⟨hsite.1, hsite.2.1, hsite.2.2, hl⟩)]
          rfl
        · rw [hrow, if_neg hsite]
      · obtain ⟨harg, hspace, huse, hl⟩ := h
        rw [if_pos ⟨harg, hspace, huse⟩, if_pos (show c.lim19Site sched off (b.toInt + a.toInt) from hl)] at hrow
        have haligned : sched % 4 = 0 := by
          change (0x010000000 + k * 0x2000000 + turned (site / 4) * 0x400000 + 0x120000 + site % 4 * 0x40000) % 4 = 0
          omega
        obtain ⟨hmove, hparcels, hwords⟩ := State.patchLim19_spec hheld haligned hl ((State.patchLim19_eq c sched off v).trans (if_pos hl))
        exact ⟨_, hrow, hmove, fun n _ h0 h1 => hparcels n h0 h1, hwords⟩
    · intro hty
      exact State.relocate_other (r := (r0, a)) hty

end Sys2Proof.Machine
end

section
/-! PROOF. The sections at a beat boundary (R37, R53 to R73, R453 to R459, R488, R489). `Spares` is the frame: what the parts of a
boundary leave of a section that is not theirs, one lemma per operation. With it a boundary is, for one section, its own turn alone
(`State.boundary_turns`), and each branch of the turn is read off there. -/

namespace Sys2Proof.Machine

-- The lemmas of this file lean on one another in long chains: elaborated at once they only wait for each other, each in a thread of its own.
set_option Elab.async false

section

/-! ## Engines, sections and channels that are left alone -/

/-- Engine x with what arrivals, timers, stores, interrupt sources and halt requests may change of an engine, from z. -/
def Engine.stirred (x z : Engine) : Engine :=
  { x with
    csr := z.csr, irqSince := z.irqSince, resv := z.resv, waitRead := z.waitRead, flights := z.flights, res := z.res, done := z.done
    fpShort := z.fpShort, sb := z.sb, sbWait := z.sbWait, dcache := z.dcache, outStores := z.outStores
    haltReq := z.haltReq, haltComp := z.haltComp, cmpStop := z.cmpStop }

/-- y is x but for these; nothing reserves a word and no read begins to wait. -/
structure Engine.Unmoved (x y : Engine) : Prop where
  same : y = x.stirred y
  resv : x.resv = none → y.resv = none
  wait : x.waitRead = none → y.waitRead = none

theorem Engine.Unmoved.refl (x : Engine) : x.Unmoved x := ⟨rfl, id, id⟩

theorem Engine.Unmoved.trans {x y z : Engine} (h : x.Unmoved y) (h' : y.Unmoved z) : x.Unmoved z :=
  ⟨calc z = y.stirred z := h'.same
      _ = (x.stirred y).stirred z := by rw [← h.same]
      _ = x.stirred z := rfl,
    fun hx => h'.resv (h.resv hx), fun hx => h'.wait (h.wait hx)⟩

/-- y keeps the START that waits and the placement of section x; a strict reading allows only the count of crossing accesses to differ. -/
structure Section.Unmoved (strict : Bool) (x y : Section) : Prop where
  startAt : y.startAt = x.startAt
  useMask : y.useMask = x.useMask
  all : strict = true → y = { x with xqNo := y.xqNo }

theorem Section.Unmoved.refl (p : Bool) (x : Section) : x.Unmoved p x := ⟨rfl, rfl, fun _ => rfl⟩

theorem Section.Unmoved.trans {p : Bool} {x y z : Section} (h : x.Unmoved p y) (h' : y.Unmoved p z) : x.Unmoved p z :=
  ⟨h'.startAt.trans h.startAt, h'.useMask.trans h.useMask, fun hp => by
    calc z = { y with xqNo := z.xqNo } := h'.all hp
      _ = { ({ x with xqNo := y.xqNo } : Section) with xqNo := z.xqNo } := by rw [← h.all hp]⟩

/-- No handoff is armed. -/
def State.hoffIdle (s : State) : Prop := s.getF .QM_HOFF F.QM_HOFF_STS ≠ 1

/-- y keeps the owner of channel x, and does not leave PARKED or TRIPPED. -/
structure Chan.Unmoved (x y : Chan) : Prop where
  owner : y.g0.owner = x.g0.owner
  out : 2 ≤ x.g0.state → 2 ≤ y.g0.state

/-! ## The frame -/

/-- What is spared: the section, the engines, whether its fields are read strictly, and whether the registers of the beat number are spared too. -/
structure Spared where
  k : Nat
  engs : Nat → Prop
  strict : Bool
  beat : Bool

/-- The registers of section k that its part of a boundary reads and writes. -/
def Reg.ofTurn (k : Nat) : Reg → Bool
  | .SEC_STATE j | .SEC_OVERRUN j | .SEC_SLACK j | .SEC_STALL j | .SEC_ENTRY j | .SEC_FRAME j => decide (j = k)
  | _ => false

def Reg.ofBeatNum : Reg → Bool
  | .BEAT_NUM | .BEAT_NUM_LOAD | .BEAT_CTL => true
  | _ => false

def Spared.reg (q : Spared) (r : Reg) : Bool := r.ofTurn q.k || (r.ofBeatNum && q.beat)

/-- From a to s, what q names is spared. A channel that is out of service stays so while its section does not run and no handoff is armed. -/
structure Spares (q : Spared) (a s : State) : Prop where
  reg : ∀ r, q.reg r = true → s.reg r = a.reg r
  engine : ∀ n, q.engs n → (a.engine n).Unmoved (s.engine n)
  sect : (a.sect q.k).Unmoved q.strict (s.sect q.k)
  chan : a.hoffIdle → s.hoffIdle ∧ ∀ c, (s.ch c).g0.owner = (a.ch c).g0.owner ∧
    (a.running q.k = false → ownedBy q.k (a.ch c) = true → 2 ≤ (a.ch c).g0.state → 2 ≤ (s.ch c).g0.state)

variable {q : Spared} {a s t : State}

theorem Spares.running (h : Spares q a s) : s.running q.k = a.running q.k := by
  have hr : q.reg (.SEC_STATE q.k) = true := by rw [Spared.reg, show (Reg.SEC_STATE q.k).ofTurn q.k = true from decide_eq_true rfl, Bool.true_or]
  rw [State.running, State.running, State.sectState, State.sectState, State.getF, State.getF, h.reg _ hr]

theorem ownedBy_congr {x y : Chan} (h : y.g0.owner = x.g0.owner) (k : Nat) : ownedBy k y = ownedBy k x := by
  rw [ownedBy, ownedBy, h]

theorem Spares.refl (q : Spared) (a : State) : Spares q a a :=
  ⟨fun _ _ => rfl, fun _ _ => .refl _, .refl _ _, fun h => ⟨h, fun _ => ⟨rfl, fun _ _ => id⟩⟩⟩

theorem Spares.trans (h : Spares q a s) (h' : Spares q s t) : Spares q a t :=
  ⟨fun r hr => (h'.reg r hr).trans (h.reg r hr), fun n hn => (h.engine n hn).trans (h'.engine n hn), h.sect.trans h'.sect, fun ha => by
    obtain ⟨hs, hc⟩ := h.chan ha
    obtain ⟨ht, hc'⟩ := h'.chan hs
    refine ⟨ht, fun c => ⟨(hc' c).1.trans (hc c).1, fun hrun hown h2 => ?_⟩⟩
    exact (hc' c).2 (by rw [h.running, hrun]) (by rw [ownedBy_congr (hc c).1, hown]) ((hc c).2 hrun hown h2)⟩

/-- The parts of the state that the frame looks at. -/
def State.turnParts (s : State) := (s.regs, s.eng, s.sec, s.chan)

theorem Spares.upd (h : Spares q a s) (e : t.turnParts = s.turnParts := by rfl) : Spares q a t := by
  simp only [State.turnParts, Prod.mk.injEq] at e
  obtain ⟨hr, he, hs, hc⟩ := e
  have hreg : ∀ r, t.reg r = s.reg r := fun r => by rw [State.reg, State.reg, hr]
  refine h.trans ⟨fun r _ => hreg r, fun n _ => ?_, ?_, fun hi => ⟨?_, fun c => ?_⟩⟩
  · rw [State.engine, State.engine, he]
    exact .refl _
  · rw [State.sect, State.sect, hs]
    exact .refl _ _
  · rwa [State.hoffIdle, State.getF, hreg]
  · rw [State.ch, State.ch, hc]
    exact ⟨rfl, fun _ _ => id⟩

theorem Spares.foldl {α : Type} {f : State → α → State} {l : List α} (hf : ∀ st x, Spares q a st → Spares q a (f st x))
    (h : Spares q a s) : Spares q a (l.foldl f s) := by
  induction l generalizing s with
  | nil => exact h
  | cons x l ih => exact ih (hf s x h)

/-- The same, where the elements of the list matter. -/
theorem Spares.foldl_mem {α : Type} {f : State → α → State} {l : List α} (hf : ∀ st, ∀ x ∈ l, Spares q a st → Spares q a (f st x))
    (h : Spares q a s) : Spares q a (l.foldl f s) := by
  induction l generalizing s with
  | nil => exact h
  | cons x l ih => exact ih (fun st y hy => hf st y (List.mem_cons_of_mem _ hy)) (hf s x List.mem_cons_self h)

theorem Spares.ite {c : Prop} [Decidable c] (h : c → Spares q a s) (h' : ¬ c → Spares q a t) : Spares q a (if c then s else t) := by
  split
  next hc => exact h hc
  next hc => exact h' hc

theorem Spares.ite_fst {α : Type} {c : Prop} [Decidable c] {x y : State × α} (h : c → Spares q a x.1) (h' : ¬ c → Spares q a y.1) :
    Spares q a (if c then x else y).1 := by
  split
  next hc => exact h hc
  next hc => exact h' hc

theorem Spares.ite_snd {α : Type} {c : Prop} [Decidable c] {x y : α × State} (h : c → Spares q a x.2) (h' : ¬ c → Spares q a y.2) :
    Spares q a (if c then x else y).2 := by
  split
  next hc => exact h hc
  next hc => exact h' hc

/-! ## The single updates -/

theorem Spares.setReg {r : Reg} {w : Word} (h : Spares q a s) (hr : q.reg r = false := by rfl) (hq : r ≠ .QM_HOFF := by exact nofun) :
    Spares q a (s.setReg r w) := by
  have hne : ∀ r', r' ≠ r → (s.setReg r w).reg r' = s.reg r' := fun r' h' => by rw [State.reg_setReg, if_neg h']
  refine h.trans ⟨fun r' hr' => hne r' (fun e => ?_), fun n _ => ?_, ?_, fun hi => ⟨?_, fun c => ?_⟩⟩
  · rw [e, hr] at hr'
    exact Bool.false_ne_true hr'
  · rw [State.engine_setReg]
    exact .refl _
  · rw [State.sect_setReg]
    exact .refl _ _
  · rwa [State.hoffIdle, State.getF, hne _ hq.symm]
  · rw [State.ch_setReg]
    exact ⟨rfl, fun _ _ => id⟩

theorem Spares.setF {r : Reg} {f : Nat × Nat} {v : Nat} (h : Spares q a s) (hr : q.reg r = false := by rfl) (hq : r ≠ .QM_HOFF := by exact nofun) :
    Spares q a (s.setF r f v) := h.setReg hr hq

theorem Spares.setB {r : Reg} {f : Nat × Nat} {v : Bool} (h : Spares q a s) (hr : q.reg r = false := by rfl) (hq : r ≠ .QM_HOFF := by exact nofun) :
    Spares q a (s.setB r f v) := h.setReg hr hq

theorem Spares.incF {r : Reg} {f : Nat × Nat} {n : Nat} (h : Spares q a s) (hr : q.reg r = false := by rfl) (hq : r ≠ .QM_HOFF := by exact nofun) :
    Spares q a (s.incF r f n) := h.setReg hr hq

theorem Spares.setEngine {n : Nat} {x : Engine} (h : Spares q a s) (hn : q.engs n → (s.engine n).Unmoved x) : Spares q a (s.setEngine n x) := by
  refine h.trans ⟨fun _ _ => rfl, fun m hm => ?_, .refl _ _, fun hi => ⟨hi, fun c => ⟨rfl, fun _ _ => id⟩⟩⟩
  rw [State.engine_setEngine]
  split
  next e =>
    rw [e] at hm ⊢
    exact hn hm
  next => exact .refl _

theorem Spares.modEngine {n : Nat} {f : Engine → Engine} (h : Spares q a s) (hn : q.engs n → ∀ x, Engine.Unmoved x (f x)) :
    Spares q a (s.modEngine n f) := h.setEngine (fun hm => hn hm _)

theorem Spares.setSect {j : Nat} {x : Section} (h : Spares q a s) (hj : j = q.k → (s.sect j).Unmoved q.strict x) : Spares q a (s.setSect j x) := by
  refine h.trans ⟨fun _ _ => rfl, fun _ _ => .refl _, ?_, fun hi => ⟨hi, fun c => ⟨rfl, fun _ _ => id⟩⟩⟩
  rw [State.sect_setSect]
  split
  next e =>
    rw [e]
    exact hj e.symm
  next => exact .refl _ _

theorem Spares.modSect {j : Nat} {f : Section → Section} (h : Spares q a s) (hj : j = q.k → ∀ x, Section.Unmoved q.strict x (f x)) :
    Spares q a (s.modSect j f) := h.setSect (fun e => hj e _)

theorem Spares.setCh {c : Nat} {x : Chan} (h : Spares q a s) (hc : (s.ch c).Unmoved x) : Spares q a (s.setCh c x) := by
  refine h.trans ⟨fun _ _ => rfl, fun _ _ => .refl _, .refl _ _, fun hi => ⟨hi, fun d => ?_⟩⟩
  rw [State.ch_setCh]
  split
  next e =>
    rw [e]
    exact ⟨hc.owner, fun _ _ => hc.out⟩
  next => exact ⟨rfl, fun _ _ => id⟩

theorem Spares.modCh {c : Nat} {f : Chan → Chan} (h : Spares q a s) (hc : ∀ x, Chan.Unmoved x (f x)) : Spares q a (s.modCh c f) := h.setCh (hc _)

/-- Every engine, but only what a store may change of it. -/
theorem Spares.updEng {f : Nat → Engine → Engine} (h : Spares q a s) (hf : ∀ n x, Engine.Unmoved x (f n x))
    (h0 : ∀ n, f n Engine.reset = Engine.reset) : Spares q a { s with eng := SMap.update (fun _ => Engine.reset) f s.eng } := by
  refine h.trans ⟨fun _ _ => rfl, fun m _ => ?_, .refl _ _, fun hi => ⟨hi, fun c => ⟨rfl, fun _ _ => id⟩⟩⟩
  rw [State.engine, State.engine, SMap.get_update (h0 m)]
  exact hf m _

theorem Spares.updChan {f : Nat → Chan → Chan} (h : Spares q a s) (hf : ∀ c x, Chan.Unmoved x (f c x))
    (h0 : ∀ c, f c Chan.reset = Chan.reset) : Spares q a { s with chan := SMap.update (fun _ => Chan.reset) f s.chan } := by
  refine h.trans ⟨fun _ _ => rfl, fun _ _ => .refl _, .refl _ _, fun hi => ⟨hi, fun d => ?_⟩⟩
  rw [State.ch, State.ch, SMap.get_update (h0 d)]
  exact ⟨(hf d _).owner, fun _ _ => (hf d _).out⟩

theorem Spares.forChannels {p : Nat → Chan → Bool} {f : State → Nat → State} (h : Spares q a s)
    (hf : ∀ st c, Spares q a st → p c (st.ch c) = true → Spares q a (f st c)) : Spares q a (s.forChannels p f) :=
  Spares.foldl (fun st c hst => .ite (fun hp => hf st c hst hp) (fun _ => hst)) h

end

section

variable {q : Spared} {a s t : State}

/-! ## Events, errors and memory -/

theorem Spares.draw {n : Nat} (h : Spares q a s) : Spares q a (s.drawNat n).2 := h.upd

theorem Spares.ibi {n : Nat} (h : Spares q a s) : Spares q a (s.ibi n) := .ite (fun _ => h.upd) (fun _ => h)

theorem Spares.logEvt {src data : Nat} (h : Spares q a s) : Spares q a (s.logEvt src data) := .ite (fun _ => h.upd) (fun _ => h)

theorem Spares.healthEvt {code v : Nat} (h : Spares q a s) : Spares q a (s.healthEvt code v) := h.upd

theorem Chan.unmoved_setBad (x : Chan) (i : Nat) (b : Bool) : x.Unmoved (x.setBad i b) := by
  unfold Chan.setBad
  split <;> exact ⟨rfl, id⟩

theorem Spares.markBad {ca : Nat} (h : Spares q a s) : Spares q a (s.markBad ca) := by
  unfold State.markBad
  split
  · exact (h.draw (n := 1)).modCh (fun x => x.unmoved_setBad _ _)
  · exact h.upd

theorem Spares.eccLog {sc ca : Nat} (h : Spares q a s) : Spares q a (s.eccLog sc ca) := h.incF.setReg.logEvt

theorem Spares.eccUncorrectable {ca : Nat} (h : Spares q a s) : Spares q a (s.eccUncorrectable ca) := by
  unfold State.eccUncorrectable
  split
  · exact h.markBad.incF.setReg.setB.healthEvt.logEvt
  · exact h.markBad.incF.setReg.setB.healthEvt.logEvt
  · split
    · exact h.markBad.eccLog
    · exact h.markBad
  · exact h.markBad

/-- A word written clears reservations on it and touches nothing else that is spared. -/
theorem Spares.setWord {ca : Nat} {w : Word} (h : Spares q a s) : Spares q a (s.setWord ca w) := by
  refine .ite (fun _ => h) (fun _ => (h.upd (t := { s with mem := _, eccSoft := _, eccBad := _ })).updEng (fun n x => ?_) (fun n => ?_))
  · split
    · exact ⟨rfl, fun _ => rfl, id⟩
    · exact .refl x
  · exact if_neg nofun

theorem Spares.setWords {ca : Nat} {ws : List Word} (h : Spares q a s) : Spares q a (s.setWords ca ws) := by
  induction ws generalizing s ca with
  | nil => exact h
  | cons w ws ih => exact ih h.setWord

theorem Spares.storeWordBytes {ca k : Nat} {bs : List Byte9} (h : Spares q a s) : Spares q a (s.storeWordBytes ca bs k) := by
  unfold State.storeWordBytes
  refine .ite (fun _ => ?_) (fun _ => h.setWord)
  dsimp only
  split
  · exact h.eccUncorrectable.setB
  · exact h.eccUncorrectable

theorem Spares.storeBytes {ca : Nat} {bs : List Byte9} (h : Spares q a s) : Spares q a (s.storeBytes ca bs) :=
  .ite (fun _ => h) (fun _ => .foldl (fun _ _ hst => hst.storeWordBytes) h)

theorem Spares.fireGong {g : Nat} (h : Spares q a s) : Spares q a (s.fireGong g) := by
  have hreg : Spares q a ((s.setB (.DBG_GONG g) F.DBG_GONG_FIRED true).incF (.DBG_GONG g) F.DBG_GONG_COUNT) := h.setB.incF
  unfold State.fireGong
  generalize (s.setB (.DBG_GONG g) F.DBG_GONG_FIRED true).incF (.DBG_GONG g) F.DBG_GONG_COUNT = u at hreg ⊢
  exact hreg.upd

theorem Spares.fireSource {f : Nat × Nat} (h : Spares q a s) : Spares q a (s.fireSource f) :=
  .foldl (fun _ _ hst => .ite (fun _ => hst.fireGong) (fun _ => hst)) h

theorem Spares.withAlert {f : State → State} (h : Spares q a (f s)) : Spares q a (s.withAlert f) := .ite (fun _ => h.ibi) (fun _ => h)

/-! ## The Glove -/

theorem Spares.glvPostTrip {c cause : Nat} (h : Spares q a s) : Spares q a (s.glvPostTrip c cause) := by
  unfold State.glvPostTrip
  dsimp only
  split
  · exact (h.upd (t := { s with glvEvts := _ })).setB.incF.fireSource
  · exact (h.upd (t := { s with glvEvts := _ })).incF.fireSource

theorem Chan.unmoved_entered (s : State) (c cause act : Nat) (trip : Bool) : (s.ch c).Unmoved (s.chEntered c trip cause act) := by
  refine ⟨rfl, fun _ => ?_⟩
  rw [State.chEntered_state]
  split <;> decide

theorem Spares.glvEnter {c cause act : Nat} {trip : Bool} (h : Spares q a s) : Spares q a (s.glvEnter c trip cause act) := by
  rw [State.glvEnter_eq]
  exact .ite (fun _ => (h.setCh (Chan.unmoved_entered s c cause act trip)).glvPostTrip) (fun _ => h.setCh (Chan.unmoved_entered s c cause act trip))

theorem Spares.glvTripOpen {c cause : Nat} (h : Spares q a s) : Spares q a (s.glvTripOpen c cause) := h.glvEnter
theorem Spares.glvTripStale {c cause : Nat} (h : Spares q a s) : Spares q a (s.glvTripStale c cause) := h.glvEnter

theorem Spares.glvCompare {c : Nat} (h : Spares q a s) : Spares q a (s.glvCompare c).1 := by
  unfold State.glvCompare
  dsimp only
  split
  · exact (Spares.withAlert h.setB).glvTripOpen
  · exact h

theorem Spares.glvUse {c : Nat} {f : State → State} (h : Spares q a s) (hf : ∀ st, Spares q a st → Spares q a (f st)) : Spares q a (s.glvUse c f) :=
  .ite (fun _ => hf _ h.glvCompare) (fun _ => h.glvCompare)

theorem Spares.glvPark {c cause : Nat} (h : Spares q a s) : Spares q a (s.glvPark c cause) := h.glvUse (fun _ hst => hst.glvEnter)
theorem Spares.glvLink {c : Nat} (h : Spares q a s) : Spares q a (s.glvLink c) := h.glvUse (fun _ hst => hst.glvTripStale)
theorem Spares.glvHalt {c : Nat} (h : Spares q a s) : Spares q a (s.glvHalt c) :=
  h.glvUse (fun _ hst => .ite (fun _ => hst.glvEnter) (fun _ => hst))

theorem Spares.glvReadWord {c k : Nat} (h : Spares q a s) : Spares q a (s.glvReadWord c k).2 := by
  unfold State.glvReadWord
  dsimp only
  have hcmp : Spares q a (if s.march.boot = true then s else (s.glvCompare c).1) := .ite (fun _ => h) (fun _ => h.glvCompare)
  generalize (if s.march.boot = true then s else (s.glvCompare c).1) = u at hcmp ⊢
  exact .ite_snd (fun _ => hcmp) (fun _ => hcmp.draw (n := 36))

theorem Chan.unmoved_modW7 {x : Chan} {f : Word → Word} (h : ∀ w, fld (f w) 35 34 = fld w 35 34) : x.Unmoved (x.modW7 f) :=
  ⟨rfl, fun h2 => (show 2 ≤ fld (f x.g0.w7) 35 34 from (h _).symm ▸ h2)⟩

theorem Spares.glvFresh {c : Nat} {had : Bool} (h : Spares q a s) : Spares q a (s.glvFresh c had) := by
  unfold State.glvFresh
  have hcmp : Spares q a (if (s.ch c).g0.state = 0 then s.glvCompare c else (s, false)).1 := by
    split
    · exact h.glvCompare
    · exact h
  generalize (if (s.ch c).g0.state = 0 then s.glvCompare c else (s, false)) = u at hcmp ⊢
  dsimp only
  refine .ite (fun _ => hcmp) (fun _ => ?_)
  have hset := fun up dn => hcmp.setCh (c := c) (Chan.unmoved_modW7 (f := fun w => setFld (setFld w 18 15 up) 22 19 dn)
    (fun w => by rw [fld_setFld_ne (by decide), fld_setFld_ne (by decide)]))
  exact .ite (fun _ => (hset _ _).glvTripStale) (fun _ => .ite (fun _ => (hset _ _).glvTripStale) (fun _ => hset _ _))

/-- A section that does not run has no channel released. -/
theorem Spares.glvRelease {c : Nat} (h : Spares q a s) : Spares q a (s.glvRelease c).1 := by
  unfold State.glvRelease
  have hcmp := h.glvCompare (c := c)
  generalize s.glvCompare c = u at hcmp ⊢
  dsimp only
  split
  · exact hcmp
  split
  · exact hcmp.setB
  next hok =>
    have hreach : u.1.running ((u.1.ch c).g0.owner / 32) = true := by
      simp only [State.releaseRefused, Bool.or_eq_true, not_or, Bool.not_eq_true, Bool.not_eq_false'] at hok
      simp_all
    refine hcmp.trans ⟨fun _ _ => rfl, fun _ _ => .refl _, .refl _ _, fun hi => ⟨hi, fun d => ?_⟩⟩
    rw [State.glvArm, State.ch_setCh]
    split
    next e =>
      subst e
      refine ⟨rfl, fun hrun hown _ => ?_⟩
      simp only [ownedBy, Bool.and_eq_true, beq_iff_eq] at hown
      rw [hown.2, hrun] at hreach
      exact absurd hreach Bool.false_ne_true
    next => exact ⟨rfl, fun _ _ => id⟩

end

section

variable {q : Spared} {a s t : State}

/-! ## Queues -/

theorem Spares.qmReadWord {ca : Nat} (h : Spares q a s) : Spares q a (s.qmReadWord ca).2 := .ite_snd (fun _ => h.eccUncorrectable) (fun _ => h)

theorem Spares.qmReadWords {ca n : Nat} (h : Spares q a s) : Spares q a (s.qmReadWords ca n).2 := by
  induction n generalizing s ca with
  | zero => exact h
  | succ n ih => exact ih h.qmReadWord

theorem Spares.qmDrop {j : Nat} (h : Spares q a s) : Spares q a (s.qmDrop j) :=
  Spares.incF (s := s.setQ j _) h.upd

theorem Spares.qmEvent {j occ : Nat} (h : Spares q a s) : Spares q a (s.qmEvent j occ) :=
  .ite (fun _ => Spares.setB (s := { s with qmEvts := _ }) h.upd) (fun _ => h.upd)

theorem Spares.qmPush {j : Nat} {ws : List Word} (h : Spares q a s) : Spares q a (s.qmPush j ws).1 := by
  have htaken : Spares q a ((s.setWords (qSlotAddr j (((s.q j).head + (s.q j).occ) % qDepth j)) (ws.take (qWords j))).setQ j
      { s.q j with occ := (s.q j).occ + 1, drops := 0, tags := (s.q j).tags ++ [(s.q j).drops] }) := Spares.upd h.setWords
  refine .ite_fst (fun _ => .ite_fst (fun _ => h) (fun _ => h.qmDrop)) (fun _ => .ite_fst (fun _ => ?_) (fun _ => ?_))
  · exact htaken.qmEvent
  · exact htaken

theorem Spares.qmStage {j : Nat} (h : Spares q a s) : Spares q a (s.qmStage j) :=
  .ite (fun _ => Spares.upd (h.qmReadWords (ca := qSlotAddr j (s.q j).head) (n := 8))) (fun _ => h.upd)

theorem Spares.pushReach {j : Nat} (h : Spares q a s) (hq : q.strict = false) : Spares q a (s.pushReach j) := by
  unfold State.pushReach
  dsimp only
  split
  · exact h
  · refine Spares.qmPush ?_
    exact h.setSect (fun _ => ⟨rfl, rfl, fun hp => absurd (hq.symm.trans hp) Bool.false_ne_true⟩)

theorem Spares.pushReachAll {j n : Nat} (h : Spares q a s) (hq : q.strict = false) : Spares q a (s.pushReachAll j n) := by
  induction n generalizing s with
  | zero => exact h
  | succ n ih => exact ih (h.pushReach hq)

/-! ## Replies -/

theorem Spares.clearMailbox (h : Spares q a s) : Spares q a s.clearMailbox := Spares.upd (s := s.setReg .HOST_MBX_STS _) h.setReg

theorem Spares.enqueueReply {r : Reply} (h : Spares q a s) : Spares q a (s.enqueueReply r) :=
  .ite (fun _ => Spares.ibi (s := { s with seq := _ }) h.upd) (fun _ => h.upd)

theorem Spares.reply {status : Nat} {tag : BitVec 9} {noibi : Bool} {ws : List Word} (h : Spares q a s) :
    Spares q a (s.reply status tag noibi ws) := by
  have hcount : Spares q a (if status = stSTATE then s.incF .HOST_STATE_ERR F.HOST_STATE_ERR_COUNT else s) := .ite (fun _ => h.incF) (fun _ => h)
  exact .ite (fun _ => hcount.enqueueReply) (fun _ => hcount.upd)

theorem Spares.haltReply {w : HaltWait} (h : Spares q a s) : Spares q a (s.haltReply w) := .ite (fun _ => h.reply) (fun _ => h.reply)

theorem Spares.haltReplies (h : Spares q a s) : Spares q a s.haltReplies :=
  .foldl (fun _ _ hst => hst.haltReply) (h.upd (t := { s with seq := _ }))

/-! ## Engines that are not spared -/

theorem Spares.txdPut {e : Nat} {w : Word} (h : Spares q a s) : Spares q a (s.txdPut e w) := .ite (fun _ => h.upd) (fun _ => h.upd)

theorem Spares.cntCatch {e : Nat} (h : Spares q a s) (he : ¬ q.engs e) : Spares q a (s.cntCatch e) :=
  .ite (fun _ => h) (fun _ => .foldl (fun _ _ hst => (hst.draw (n := 36)).modEngine (fun hm => absurd hm he)) (h.setEngine (fun hm => absurd hm he)))

theorem Spares.csrWrite {e n : Nat} {w : Word} (h : Spares q a s) (he : ¬ q.engs e) : Spares q a (s.csrWrite e n w) := by
  have hset : ∀ x, Spares q a (s.setEngine e x) := fun x => h.setEngine (fun hm => absurd hm he)
  unfold State.csrWrite
  refine .ite (fun _ => hset _) (fun _ => .ite (fun _ => hset _) (fun _ => .ite (fun _ => h.upd) (fun _ => .ite (fun _ => h.upd) (fun _ =>
    .ite (fun _ => .ite (fun _ => hset _) (fun _ => h)) (fun _ => .ite (fun _ => h.txdPut) (fun _ => .ite (fun _ => ?_) (fun _ => hset _)))))))
  exact (h.cntCatch he).modEngine (fun hm => absurd hm he)

theorem Spares.csrSettle {e : Nat} (h : Spares q a s) (he : ¬ q.engs e) : Spares q a (s.csrSettle e) := by
  unfold State.csrSettle
  split
  · exact (h.modEngine (fun hm => absurd hm he)).csrWrite he
  · exact h

theorem Spares.irqSample {e : Nat} (h : Spares q a s) : Spares q a (s.irqSample e) := h.setEngine (fun _ => ⟨rfl, id, id⟩)

/-! ## Arrivals -/

theorem Engine.unmoved_land (x : Engine) (e : Nat) (fs : List Flight) : x.Unmoved (fs.foldl (fun y f => y.land e f) x) := by
  obtain ⟨r, d, c, p, h⟩ := Engine.foldl_land_eq e fs x
  rw [h]
  exact ⟨rfl, id, id⟩

theorem Engine.unmoved_landUpTo (x : Engine) (e c : Nat) : x.Unmoved (x.landUpTo e c) := by
  have hkept : x.Unmoved { x with flights := x.flights.filter (fun f => !decide (f.due ≤ c)) } := ⟨rfl, id, id⟩
  exact hkept.trans (Engine.unmoved_land _ e (x.flights.filter (fun f => decide (f.due ≤ c))))

theorem Engine.unmoved_readReturned (x : Engine) (fs : List Flight) : x.Unmoved { x with waitRead := none, flights := fs } := ⟨rfl, id, fun _ => rfl⟩

theorem Spares.chioWake {e : Nat} {y st : Word} (h : Spares q a s) : Spares q a (s.chioWake e y st) :=
  h.modEngine (fun _ x => (x.unmoved_readReturned _).trans (Engine.unmoved_landUpTo _ e x.cyc))

theorem Spares.chioArrivals (h : Spares q a s) : Spares q a s.chioArrivals := by
  refine .foldl (fun st e hst => ?_) h
  split
  · exact .ite (fun _ => hst) (fun _ => hst.chioWake)
  · exact hst

theorem Spares.setSlot {c : Nat} {x : Slot} (h : Spares q a s) : Spares q a (s.setSlot c x) :=
  h.modCh (fun y => by split <;> exact ⟨rfl, id⟩)

theorem Spares.upLost {n j : Nat} (h : Spares q a s) : Spares q a (s.upLost n j) := by
  have hcount : Spares q a (s.incF (.LN_RPL n) F.LN_RPL_UP_LOST) := h.incF
  have hbad : Spares q a (if j = 0 then (s.incF (.LN_RPL n) F.LN_RPL_UP_LOST).modLn n (fun x => { x with beatBad := true })
      else s.incF (.LN_RPL n) F.LN_RPL_UP_LOST) := .ite (fun _ => hcount.upd) (fun _ => hcount)
  exact Spares.chioArrivals (.foldl (fun _ _ hst => hst.setSlot) hbad)

theorem Spares.upKeptOut {n : Nat} (h : Spares q a s) : Spares q a (s.upKeptOut n) := by
  refine .ite (fun _ => .foldl (fun st p hst => ?_) h) (fun _ => h)
  dsimp only
  split
  · exact Spares.upLost (s := st.setLn n _) hst.upd
  · exact hst.upLost

theorem Spares.beatCloses (h : Spares q a s) (hq : q.strict = false) : Spares q a s.beatCloses :=
  .foldl (fun _ _ hst => hst.upKeptOut) (.foldl (fun _ _ hst => hst.pushReachAll hq) h)

end

section

variable {q : Spared} {a s t : State}

theorem Spares.setLn {n : Nat} {x : Lane} (h : Spares q a s) : Spares q a (s.setLn n x) := h.upd
theorem Spares.modLn {n : Nat} {f : Lane → Lane} (h : Spares q a s) : Spares q a (s.modLn n f) := h.upd
theorem Spares.setCku {n : Nat} {x : Cku} (h : Spares q a s) : Spares q a (s.setCku n x) := h.upd

/-! ## Channels, queues and timers at a boundary -/

theorem Spares.markLost (h : Spares q a s) : Spares q a s.markLost := by
  refine .foldl (fun st n hst => .ite (fun _ => hst) (fun _ => Spares.modLn ?_)) h
  exact .foldl (fun _ _ hst => .ite (fun _ => .foldl (fun _ _ hst => hst.modCh (fun _ => ⟨rfl, id⟩)) hst) (fun _ => hst)) hst

theorem Spares.freshness {b : Nat} (h : Spares q a s) : Spares q a (s.freshness b) := h.forChannels (fun _ _ hst _ => hst.glvFresh)

/-- The beat number changes the registers of the beat number alone. -/
theorem Spares.nextBeat (h : Spares q a s) (hq : q.beat = false) : Spares q a s.nextBeat := by
  have hreg : ∀ r : Reg, r.ofTurn q.k = false → q.reg r = false := fun r hr => by rw [Spared.reg, hr, hq, Bool.and_false, Bool.or_false]
  exact .ite (fun _ => (h.setReg (hreg _ rfl)).setB (hreg _ rfl)) (fun _ => h.setReg (hreg _ rfl))

theorem Spares.ageingStep (h : Spares q a s) : Spares q a s.ageingStep := by
  refine .ite (fun _ => Spares.healthEvt ?_) (fun _ => h)
  exact Spares.upd (s := (s.setF .HLTH_CLK F.HLTH_CLK_CEIL _).setB .HLTH_STS F.HLTH_STS_PEND_DOWN false) h.setF.setB

theorem Spares.raiseBegin (h : Spares q a s) : Spares q a s.raiseBegin :=
  .ite (fun _ => Spares.upd (s := s.setF .HLTH_AVS F.HLTH_AVS_TARGET 850) h.setF) (fun _ => h)

theorem Spares.clockBoundary (h : Spares q a s) : Spares q a s.clockBoundary := by
  unfold State.clockBoundary
  have hage := h.ageingStep
  generalize s.ageingStep = u at hage ⊢
  dsimp only
  have hclk : Spares q a (if u.fTarget.1 ≤ u.cclk ∨ (u.health.raise == 2 && !u.getB .HLTH_STS F.HLTH_STS_AVS_FAIL) = true then
      { u.setF .BEAT_FMIN_SCHED F.BEAT_FMIN_SCHED_CCLK_MHZ u.fTarget.1 with health := { u.health with raise := 0 } } else u.raiseBegin) :=
    .ite (fun _ => Spares.upd (s := u.setF .BEAT_FMIN_SCHED F.BEAT_FMIN_SCHED_CCLK_MHZ u.fTarget.1) hage.setF) (fun _ => hage.raiseBegin)
  generalize (if u.fTarget.1 ≤ u.cclk ∨ (u.health.raise == 2 && !u.getB .HLTH_STS F.HLTH_STS_AVS_FAIL) = true then
      { u.setF .BEAT_FMIN_SCHED F.BEAT_FMIN_SCHED_CCLK_MHZ u.fTarget.1 with health := { u.health with raise := 0 } } else u.raiseBegin) = v at hclk ⊢
  exact .ite (fun _ => (Spares.withAlert hclk.setB).healthEvt) (fun _ => Spares.withAlert hclk.setB)

theorem Spares.chanBoundary (h : Spares q a s) : Spares q a s.chanBoundary := by
  refine h.updChan (fun _ x => ⟨rfl, id⟩) (fun _ => ?_)
  cases s.beatNum % 2 == 0 <;> rfl

/-- Of a state with a handoff armed, the frame does not look at the owners. -/
theorem Spares.setHoff {w : Word} (h : Spares q a s) (ha : ¬ a.hoffIdle) : Spares q a (s.setReg .QM_HOFF w) :=
  ⟨fun r hr => by
      rw [State.reg_setReg, if_neg]
      · exact h.reg r hr
      · rintro rfl
        exact Bool.false_ne_true hr,
    h.engine, h.sect, fun hi => absurd hi ha⟩

theorem Spares.glvOwner {c o : Nat} (h : Spares q a s) (ha : ¬ a.hoffIdle) : Spares q a (s.glvOwner c o) := by
  have hcmp := h.glvCompare (c := c)
  rw [State.glvOwner, State.modCh]
  refine ⟨fun r hr => ?_, fun n hn => ?_, ?_, fun hi => absurd hi ha⟩
  · rw [State.reg_setCh, hcmp.reg r hr]
  · rw [State.engine_setCh]
    exact hcmp.engine n hn
  · rw [State.sect_setCh]
    exact hcmp.sect

theorem Spares.handoffExecute (h : Spares q a s) : Spares q a s.handoffExecute := by
  unfold State.handoffExecute
  by_cases hi : s.hoffIdle
  · rw [if_neg (fun hc => hi hc.1)]
    exact h
  · refine .ite (fun _ => h.trans ?_) (fun _ => h)
    have harm : Spares q s (s.setB .QM_HOFF F.QM_HOFF_ARM false) := (Spares.refl q s).setHoff hi
    exact .ite (fun _ => harm.setHoff hi) (fun _ => .setHoff (.foldl (fun _ _ hst => hst.glvOwner hi) harm) hi)

theorem Spares.queueBoundary (h : Spares q a s) : Spares q a s.queueBoundary := .foldl (fun _ _ hst => hst.qmStage) h.handoffExecute

theorem Engine.timerTick_eq (x : Engine) (e k n : Nat) (beats : Bool) : ∃ c, x.timerTick e k n beats = { x with csr := c } := by
  unfold Engine.timerTick Engine.timerCount
  dsimp only
  split
  · split
    · exact ⟨_, rfl⟩
    · split <;> exact ⟨_, rfl⟩
  · exact ⟨_, rfl⟩

theorem Engine.unmoved_timerTicks (x : Engine) (e : Nat) : x.Unmoved ((x.timerTick e 0 1 true).timerTick e 1 1 true) := by
  obtain ⟨c, hc⟩ := (x.timerTick e 0 1 true).timerTick_eq e 1 1 true
  obtain ⟨c', hc'⟩ := x.timerTick_eq e 0 1 true
  rw [hc, hc']
  exact ⟨rfl, id, id⟩

theorem Spares.timerBoundary (h : Spares q a s) : Spares q a s.timerBoundary :=
  .foldl (fun st n hst => .ite (fun _ => hst) (fun _ => .ite (fun _ => hst.irqSample)
    (fun _ => (hst.setEngine (fun _ => (st.engine n).unmoved_timerTicks n)).irqSample))) h

/-! ## Check units and lanes -/

theorem Spares.ckuBegin {u : Nat} (h : Spares q a s) : Spares q a (s.ckuBegin u) := .ite (fun _ => h.setB) (fun _ => Spares.setReg h)

theorem Spares.ckuBoundary {u : Nat} (h : Spares q a s) : Spares q a (s.ckuBoundary u) :=
  .ite (fun _ => h) (fun _ => .ite (fun _ => .ite (fun _ => h.setCku.setB) (fun _ => h.setCku.ckuBegin)) (fun _ => h.setCku))

theorem Spares.sendMsg {n m : Nat} {ws : List Word} {ack : Bool} (h : Spares q a s) : Spares q a (s.sendMsg n m ws ack).1 := h.setLn

theorem Spares.limitWords {c n : Nat} (h : Spares q a s) : Spares q a (s.limitWords c n).2 := by
  induction n generalizing s c with
  | zero => exact h
  | succ n ih => exact ih h.glvReadWord.glvReadWord

theorem Spares.sendLimits {n : Nat} {l : List Nat} (h : Spares q a s) : Spares q a (s.sendLimits n l) :=
  .foldl (fun _ r hst => Spares.sendMsg (hst.limitWords (c := n * 2048 + r.1) (n := r.2))) h

theorem Spares.prbsCatch {n : Nat} (h : Spares q a s) : Spares q a (s.prbsCatch n) :=
  .ite (fun _ => (h.draw (n := 33)).setB.setF) (fun _ => h)

theorem Spares.prbsStop {n : Nat} (h : Spares q a s) : Spares q a (s.prbsStop n) := h.prbsCatch.setB

theorem Spares.laneBegin {n st : Nat} (h : Spares q a s) : Spares q a (s.laneBegin n st) :=
  .ite (fun _ => (h.setReg (r := .LN_FAULT n)).modLn) (fun _ => .ite (fun _ => h.modLn) (fun _ => .ite (fun _ => h.modLn) (fun _ =>
    .ite (fun _ => h.modLn) (fun _ => .ite (fun _ => h.sendMsg) (fun _ => .ite (fun _ => .foldl (fun _ _ hst => hst.sendMsg) h.modLn) (fun _ =>
    .ite (fun _ => h.modLn.sendLimits) (fun _ => h)))))))

theorem Spares.laneGoto {n st cause : Nat} (h : Spares q a s) : Spares q a (s.laneGoto n st cause) := by
  unfold State.laneGoto
  dsimp only
  have hstop : Spares q a (if s.laneState n = lsTEST then s.prbsStop n else s) := .ite (fun _ => h.prbsStop) (fun _ => h)
  generalize (if s.laneState n = lsTEST then s.prbsStop n else s) = u at hstop ⊢
  generalize (if (s.laneState n != st) = true then _ else _ : Word) = w
  have hlog : Spares q a (if (s.laneState n != st) = true then (u.setReg (.LN_STS n) w).logEvt 3 (n * 2 ^ 16 + cause) else u.setReg (.LN_STS n) w) :=
    .ite (fun _ => hstop.setReg.logEvt) (fun _ => hstop.setReg)
  exact Spares.laneBegin (.ite (fun _ => hlog.modLn.setB) (fun _ => hlog))

theorem Spares.laneTrip {n : Nat} (h : Spares q a s) : Spares q a (s.laneTrip n) := h.forChannels (fun _ _ hst _ => hst.glvLink)

theorem Spares.laneLeave {n cause : Nat} {quick hold : Bool} (h : Spares q a s) : Spares q a (s.laneLeave n cause quick hold) := by
  have htrip : Spares q a (if s.inService n = true then (s.modLn n (fun x => { x with quick := quick, noRetry := hold })).laneTrip n
      else s.modLn n (fun x => { x with quick := quick, noRetry := hold })) := .ite (fun _ => h.modLn.laneTrip) (fun _ => h.modLn)
  exact .ite (fun _ => htrip.laneGoto.chioArrivals) (fun _ => htrip.laneGoto)

theorem Spares.laneTryReady {n : Nat} (h : Spares q a s) : Spares q a (s.laneTryReady n) := .ite (fun _ => Spares.modLn h.sendMsg) (fun _ => h)

theorem Spares.laneEnterService {n : Nat} (h : Spares q a s) : Spares q a (s.laneEnterService n) := by
  unfold State.laneEnterService
  exact .forChannels h.laneGoto.modLn (fun _ _ hst _ => hst.modCh (fun _ => ⟨rfl, id⟩))

theorem Spares.laneBoundary {n : Nat} (h : Spares q a s) : Spares q a (s.laneBoundary n) := by
  unfold State.laneBoundary
  dsimp only
  have hset := fun x => h.setLn (n := n) (x := x)
  generalize hu : s.setLn n _ = u
  have hu : Spares q a u := hu ▸ hset _
  refine .ite (fun _ => hu.laneLeave) (fun _ => .ite (fun _ => hu.laneLeave) (fun _ => .ite (fun _ => hu.setB.laneGoto) (fun _ =>
    .ite (fun _ => ?_) (fun _ => hu))))
  split
  · exact .ite (fun _ => .ite (fun _ => hu.laneEnterService) (fun _ => hu.modLn.laneTryReady)) (fun _ => hu)
  · exact hu.laneTryReady

theorem Spares.frmUpdate {n : Nat} (h : Spares q a s) : Spares q a (s.frmUpdate n) := h.setReg

end

section

variable {q : Spared} {a s t : State}

/-- Engine n is not spared, and its section is not read strictly. -/
structure Spared.Free (q : Spared) (n : Nat) : Prop where
  engine : ¬ q.engs n
  sect : sectOf n = q.k → q.strict = false

theorem Section.unmoved_of_weak {p : Bool} {x y : Section} (hp : p = false) (h1 : y.startAt = x.startAt) (h2 : y.useMask = x.useMask) : x.Unmoved p y :=
  ⟨h1, h2, fun h => absurd (hp.symm.trans h) Bool.false_ne_true⟩

theorem Spares.setFree {n : Nat} {x : Engine} (h : Spares q a s) (hn : ¬ q.engs n) : Spares q a (s.setEngine n x) := h.setEngine (fun hm => absurd hm hn)
theorem Spares.modFree {n : Nat} {f : Engine → Engine} (h : Spares q a s) (hn : ¬ q.engs n) : Spares q a (s.modEngine n f) := h.setFree hn

/-! ## The cycles of an engine that is not spared -/

theorem Spares.sectStall {j c d : Nat} (h : Spares q a s) (hq : j = q.k → q.strict = false) : Spares q a (s.sectStall j c d) :=
  .ite (fun _ => h) (fun _ => h.setSect (fun e => Section.unmoved_of_weak (hq e) rfl rfl))

theorem Spares.eccCount {sec : Option Nat} {e : Nat} (h : Spares q a s) (he : q.Free e) : Spares q a (s.eccCount sec (.engine e)) := by
  have hcount : ∀ u, Spares q a u → Spares q a (if e < 192 then (u.modEngine e (fun x => x.countCsr e 0x145 1)).sectStall (sectOf e)
      ((u.modEngine e (fun x => x.countCsr e 0x145 1)).engine e).cyc 1 else u.modEngine e (fun x => x.countCsr e 0x145 1)) :=
    fun u hu => .ite (fun _ => (hu.modFree he.engine).sectStall he.sect) (fun _ => hu.modFree he.engine)
  cases sec with
  | none => exact hcount s h
  | some sc => exact hcount (s.incF (.SEC_ECC sc) F.SEC_ECC_CORR) h.incF

theorem Spares.softRead {ca e : Nat} (h : Spares q a s) (he : q.Free e) : Spares q a (s.softRead ca (.engine e)) :=
  .ite (fun _ => Spares.eccCount (s := s.markSoft (4 * (ca / 4))) h.upd he) (fun _ => h)

theorem Spares.softReads {ca n e : Nat} (h : Spares q a s) (he : q.Free e) : Spares q a (s.softReads ca n (.engine e)) :=
  .ite (fun _ => h) (fun _ => .foldl (fun _ _ hst => hst.softRead he) h)

theorem Spares.stmStep {e : Nat} (h : Spares q a s) (he : q.Free e) : Spares q a (s.stmStep e) := by
  refine .ite (fun _ => h) (fun _ => .ite (fun _ => h.modFree he.engine) (fun _ => .ite (fun _ => h.eccUncorrectable.modFree he.engine) (fun _ => ?_)))
  exact Spares.modFree (.setWord (.ite (fun _ => h.softRead he) (fun _ => h))) he.engine

theorem Spares.stmRun {e n : Nat} (h : Spares q a s) (he : q.Free e) : Spares q a (s.stmRun e n) := by
  induction n generalizing s with
  | zero => exact h
  | succ n ih => exact .ite (fun _ => h) (fun _ => ih (h.stmStep he))

theorem Spares.stmRestore {e b : Nat} (h : Spares q a s) (he : q.Free e) : Spares q a (s.stmRestore e b) := by
  unfold State.stmRestore
  dsimp only
  split
  · exact h.eccUncorrectable.modFree he.engine
  · exact (h.softReads he).modFree he.engine

theorem Spares.stmAccept {e i : Nat} {src dst o w : Word} (h : Spares q a s) (he : q.Free e) : Spares q a (s.stmAccept e i src dst o w) :=
  .ite (fun _ => .ite (fun _ => h) (fun _ => h.modFree he.engine)) (fun _ => .ite (fun _ => h.setWords) (fun _ => h.stmRestore he))

theorem Spares.stmNext {e : Nat} (h : Spares q a s) (he : q.Free e) : Spares q a (s.stmNext e) := by
  unfold State.stmNext
  dsimp only
  split
  · exact .ite (fun _ => h) (fun _ => (h.setFree he.engine).stmAccept he)
  · exact h

theorem Spares.stmWords {e c : Nat} (h : Spares q a s) : Spares q a (s.stmWords e c).2 :=
  .ite_snd (fun _ => h) (fun _ => .ite_snd (fun _ => h.draw (n := 17)) (fun _ => h))

theorem Spares.tickTo {e c : Nat} (h : Spares q a s) (he : q.Free e) : Spares q a (s.tickTo e c) := by
  unfold State.tickTo
  have hw : Spares q a (if (s.engine e).stmBusy then s.stmWords e c else (0, s)).2 := .ite_snd (fun _ => h.stmWords) (fun _ => h)
  dsimp only
  generalize (if (s.engine e).stmBusy = true then s.stmWords e c else (0, s)) = p at hw ⊢
  exact .ite (fun _ => hw.setFree he.engine) (fun _ => .ite (fun _ => ((hw.setFree he.engine).stmRun he).stmNext he) (fun _ => (hw.setFree he.engine).stmRun he))

theorem Spares.tick {e : Nat} (h : Spares q a s) (he : q.Free e) : Spares q a (s.tick e) := by
  unfold State.tick
  dsimp only
  split
  · exact .ite (fun _ => ((h.tickTo he).csrSettle he.engine).tickTo he) (fun _ => h.tickTo he)
  · exact h.tickTo he

/-! ## Stores and halts -/

theorem Engine.sbRefill_eq (x : Engine) : ∃ l l', x.sbRefill = { x with sb := l, sbWait := l' } := by
  unfold Engine.sbRefill
  split
  · exact ⟨_, _, rfl⟩
  · exact (Decidable.em _).elim (fun h => ⟨_, _, if_pos h⟩) (fun h => ⟨_, _, if_neg h⟩)

theorem Engine.unmoved_drained (x : Engine) (l : List SbEntry) (ca : Nat) (bs : List Byte9) : x.Unmoved (({ x with sb := l }.sbRefill).dStore ca bs) := by
  obtain ⟨l1, l2, h⟩ := Engine.sbRefill_eq { x with sb := l }
  rw [h]
  exact ⟨rfl, id, id⟩

theorem Spares.crossOut {e ca : Nat} (h : Spares q a s) : Spares q a (s.crossOut e ca).2 := by
  unfold State.crossOut
  split
  · dsimp only
    refine h.modSect (fun _ _ => ?_)
    exact ⟨rfl, rfl, fun _ => rfl⟩
  · exact h

theorem Spares.drainOut {e i : Nat} (h : Spares q a s) (he : sectOf e = q.k → q.strict = false) : Spares q a (s.drainOut e i) := by
  unfold State.drainOut
  dsimp only
  split
  · exact h
  next b _ =>
    have hx := (s.engine e).unmoved_drained ((s.engine e).sb.eraseIdx i) b.addr b.bytes
    refine .ite (fun _ => ?_) (fun _ => .ite (fun _ => ?_) (fun _ => (h.setEngine (fun _ => hx)).storeBytes))
    · exact (h.setEngine (fun _ => hx)).modSect (fun e' _ => Section.unmoved_of_weak (he e') rfl rfl)
    · refine h.crossOut.setEngine (fun _ => ?_)
      rw [State.engine_crossOut]
      exact hx.trans ⟨rfl, id, id⟩

theorem Spares.drainSb {e i n : Nat} (h : Spares q a s) (he : sectOf e = q.k → q.strict = false) : Spares q a (s.drainSb e i n) := by
  induction n generalizing s i with
  | zero => exact h
  | succ n ih => exact .ite (fun _ => ih h) (fun _ => ih (h.drainOut he))

theorem Spares.requestHalt {n c comp : Nat} (h : Spares q a s) : Spares q a (s.requestHalt n c comp) :=
  .ite (fun _ => h) (fun _ => h.setEngine (fun _ => ⟨rfl, id, id⟩))

theorem Spares.swdtCatch (h : Spares q a s) : Spares q a s.swdtCatch := .ite (fun _ => (h.draw (n := 16)).setF) (fun _ => h)

theorem Spares.haltTake {n : Nat} (h : Spares q a s) (hn : q.Free n) : Spares q a (s.haltTake n) := by
  unfold State.haltTake
  have hs : Spares q a (if n = 192 then (s.csrSettle n).swdtCatch else s.csrSettle n) :=
    .ite (fun _ => (h.csrSettle hn.engine).swdtCatch) (fun _ => h.csrSettle hn.engine)
  dsimp only
  generalize (if n = 192 then (s.csrSettle n).swdtCatch else s.csrSettle n) = u at hs ⊢
  split
  · exact hs
  next c _ =>
    have hset := fun x => (hs.setFree (x := x) hn.engine).setF (r := .DBG_ESTS n) (f := F.DBG_ESTS_CAUSE) (v := c.toNat)
    refine Spares.haltReplies (.ite (fun _ => Spares.forChannels (.modSect ?_ (fun e _ => Section.unmoved_of_weak (hn.sect e) rfl rfl))
      (fun _ _ hst _ => hst.glvHalt)) (fun _ => ?_))
    · exact .ite (fun _ => (hset _).setF) (fun _ => hset _)
    · exact .ite (fun _ => (hset _).setF) (fun _ => hset _)

theorem Spares.haltTry {n : Nat} (h : Spares q a s) (hn : q.Free n) : Spares q a (s.haltTry n) := .ite (fun _ => h.haltTake hn) (fun _ => h)

end

section

variable {q : Spared} {a s t : State}

/-! ## The other sections at a boundary -/

/-- The engines of section j are free. -/
def Spared.Apart (q : Spared) (j : Nat) : Prop := ∀ i, i < 32 → q.Free (j * 32 + i)

theorem Spared.Apart.weak {j : Nat} (h : q.Apart j) (e : j = q.k) : q.strict = false :=
  (h 0 (by decide)).sect (by rw [← e, sectOf]; omega)

theorem Spared.reg_of_ne {r : Reg} {q : Spared} (h : r.ofTurn q.k = false) (h' : r.ofBeatNum = false) : q.reg r = false := by
  rw [Spared.reg, h, h']
  rfl

/-- One engine abandons its work. -/
def State.abandonOne (s : State) (n : Nat) : State :=
  if (s.engine n).inBeat then
    (s.modEngine n (fun x => x.abandon n)).drainSb n 0 ((s.modEngine n (fun x => x.abandon n)).engine n).sb.length
  else s

theorem Spares.abandonOne {n : Nat} (h : Spares q a s) (hn : q.Free n) : Spares q a (s.abandonOne n) :=
  .ite (fun _ => (h.modFree hn.engine).drainSb hn.sect) (fun _ => h)

theorem Spares.sectAbandon {j : Nat} (h : Spares q a s) (hj : q.Apart j) : Spares q a (s.sectAbandon j) :=
  .foldl_mem (fun _ i hi hst => hst.abandonOne (hj i (List.mem_range.mp hi))) h

theorem Spares.sectStopIssue {j : Nat} (h : Spares q a s) (hj : q.Apart j) : Spares q a (s.sectStopIssue j) :=
  .foldl_mem (fun _ i hi hst => hst.modFree (hj i (List.mem_range.mp hi)).engine) h

/-- The halt of one engine ends. -/
def State.dropHalt (s : State) (n : Nat) : State :=
  let x := s.engine n
  if x.halted || x.haltReq.isSome || x.stepLeft.isSome then
    s.setEngine n { x with halted := false, haltReq := none, stepLeft := none, stepNoInt := false }
  else s

theorem State.dropHalts_eq (s : State) (j : Nat) : s.dropHalts j =
    ((List.range 32).foldl (fun st i => st.dropHalt (j * 32 + i)) s).modSect j (fun x => { x with dbgHalted := false, dbgRestart := false }) := rfl

theorem Spares.dropHalt {n : Nat} (h : Spares q a s) (hn : ¬ q.engs n) : Spares q a (s.dropHalt n) := .ite (fun _ => h.setFree hn) (fun _ => h)

theorem Spares.dropHalts {j : Nat} (h : Spares q a s) (hj : q.Apart j) : Spares q a (s.dropHalts j) := by
  rw [State.dropHalts_eq]
  refine Spares.modSect (.foldl_mem (fun _ i hi hst => hst.dropHalt (hj i (List.mem_range.mp hi)).engine) h) (fun e _ => ?_)
  exact Section.unmoved_of_weak (hj.weak e) rfl rfl

/-- One engine enters its beat. -/
def State.enterOne (s : State) (n : Nat) (ent : Word) : State :=
  ((((s.csrSettle n).irqSample n).modEngine n (fun x => x.enterBeat n ent)).setF (.DBG_ESTS n) F.DBG_ESTS_HITS 0).haltTry n

/-- The halts that wait for a restart are behind the section. -/
def State.haltsPast (s : State) (j : Nat) : State := s.modSect j (fun x => { x with dbgHalted := false, dbgRestart := false })

theorem State.sectEnter_eq (s : State) (j : Nat) :
    s.sectEnter j = ((s.haltsPast j).runners j).foldl (fun st n => st.enterOne n (s.reg (.SEC_ENTRY j))) (s.haltsPast j) := rfl

theorem State.mem_runners {s : State} {j n : Nat} : n ∈ s.runners j ↔
    ∃ i, i < 32 ∧ n = j * 32 + i ∧ bit (s.sect j).useMask i = true ∧ (s.engine n).locked = false ∧ (s.engine n).fenced = false := by
  simp only [State.runners, List.mem_filterMap, List.mem_range, Option.ite_none_right_eq_some, Option.some.injEq, Bool.and_eq_true,
    Bool.not_eq_true']
  constructor
  · rintro ⟨i, hi, ⟨⟨hu, hl⟩, hf⟩, rfl⟩
    exact ⟨i, hi, rfl, hu, hl, hf⟩
  · rintro ⟨i, hi, rfl, hu, hl, hf⟩
    exact ⟨i, hi, ⟨⟨hu, hl⟩, hf⟩, rfl⟩

theorem Spares.enterOne {n : Nat} {ent : Word} (h : Spares q a s) (hn : q.Free n) : Spares q a (s.enterOne n ent) :=
  Spares.haltTry (.setF (.modFree (h.csrSettle hn.engine).irqSample hn.engine)) hn

theorem Spares.haltsPast {j : Nat} (h : Spares q a s) (hj : j = q.k → q.strict = false) : Spares q a (s.haltsPast j) :=
  h.modSect (fun e _ => Section.unmoved_of_weak (hj e) rfl rfl)

theorem Spares.sectEnter {j : Nat} (h : Spares q a s) (hj : q.Apart j) : Spares q a (s.sectEnter j) := by
  rw [State.sectEnter_eq]
  refine .foldl_mem (fun _ n hn hst => ?_) (h.haltsPast hj.weak)
  obtain ⟨i, hi, rfl, _⟩ := State.mem_runners.mp hn
  exact hst.enterOne (hj i hi)

theorem Spares.sectModes {j : Nat} (h : Spares q a s) : Spares q a (s.sectModes j) :=
  .foldl (fun _ _ hst => .ite (fun _ => Spares.requestHalt (hst.modEngine (fun _ _ => ⟨rfl, id, id⟩))) (fun _ => hst.modEngine (fun _ _ => ⟨rfl, id, id⟩))) h

section
variable {j : Nat} (hk : j ≠ q.k)
include hk

theorem Spares.sectReport {cyc : Nat} {fin : Bool} (h : Spares q a s) : Spares q a (s.sectReport j cyc fin) := by
  unfold State.sectReport
  exact Spares.modSect ((h.setReg (r := .SEC_STALL j) (q.reg_of_ne (decide_eq_false hk) rfl)).setReg (r := .SEC_SLACK j) (q.reg_of_ne (decide_eq_false hk) rfl))
    (fun e => absurd e hk)

theorem Spares.sectStart {b : Word} (h : Spares q a s) : Spares q a (s.sectStart j b) :=
  .ite (fun _ => Spares.sectModes (.modSect (h.setF (q.reg_of_ne (decide_eq_false hk) rfl)) (fun e => absurd e hk))) (fun _ => h)

variable (hj : q.Apart j)
include hj

theorem Spares.sectStop (h : Spares q a s) : Spares q a (s.sectStop j) := by
  have hdrop := ((h.sectAbandon hj).sectStopIssue hj).dropHalts hj
  unfold State.sectStop
  exact (hdrop.setF (r := .SEC_STATE j) (q.reg_of_ne (decide_eq_false hk) rfl)).modSect (fun e => absurd e hk)

theorem Spares.sectOverrun (h : Spares q a s) : Spares q a (s.sectOverrun j) := by
  unfold State.sectOverrun
  have hov : q.reg (.SEC_OVERRUN j) = false := q.reg_of_ne (decide_eq_false hk) rfl
  have hst : q.reg (.SEC_STATE j) = false := q.reg_of_ne (decide_eq_false hk) rfl
  have hcount := fun v => (h.setF (v := v) (f := F.SEC_OVERRUN_COUNT) hov).incF (f := F.SEC_OVERRUN_CONSEC) (n := 1) hov
  have hlog := fun v => ((hcount v).setB (f := F.SEC_STATE_OVR) (v := true) hst).fireSource (f := F.DBG_GONG_SRC_OVR)
  refine .ite (fun _ => ?_) (fun _ => ?_)
  · exact ((hlog _).logEvt.sectStop hk hj).setB hst |>.forChannels (fun _ _ hst _ => hst.glvPark)
  · exact ((hlog _).logEvt.sectAbandon hj).sectEnter hj

theorem Spares.sectRunning {cyc : Nat} {b : Word} (h : Spares q a s) : Spares q a (s.sectRunning j cyc b) := by
  unfold State.sectRunning
  dsimp only
  have hrep := h.sectReport (fin := s.sectFinished j) (cyc := cyc) hk
  generalize s.sectReport j cyc (s.sectFinished j) = u at hrep ⊢
  have hcon : Spares q a (if (s.sectFinished j && !(u.sect j).dbgHalted) = true then u.setF (.SEC_OVERRUN j) F.SEC_OVERRUN_CONSEC 0 else u) :=
    .ite (fun _ => hrep.setF (q.reg_of_ne (decide_eq_false hk) rfl)) (fun _ => hrep)
  generalize (if (s.sectFinished j && !(u.sect j).dbgHalted) = true then u.setF (.SEC_OVERRUN j) F.SEC_OVERRUN_CONSEC 0 else u) = v at hcon ⊢
  exact .ite (fun _ => hcon.sectStop hk hj) (fun _ => .ite (fun _ => hcon) (fun _ => .ite (fun _ => (hcon.sectAbandon hj).sectEnter hj)
    (fun _ => .ite (fun _ => hcon.sectEnter hj) (fun _ => hcon.sectOverrun hk hj))))

theorem Spares.sectBoundary {cyc : Nat} {b : Word} (h : Spares q a s) : Spares q a (s.sectBoundary j cyc b) :=
  .ite (fun _ => h.sectRunning hk hj) (fun _ => (h.sectReport hk).sectStart hk)

end

/-! ## After the sections -/

theorem Spares.startReleases {b : Word} (h : Spares q a s) (hq : q.strict = false) : Spares q a (s.startReleases b) := by
  have hfirst : Spares q a (if s.seq.startRel = some b then
      { s with seq := { s.seq with startRel := none } }.forChannels (fun _ x => x.populated && !x.live && x.g0.cause == 0x18)
        (fun st c => (st.glvRelease c).1) else s) :=
    .ite (fun _ => Spares.forChannels h.upd (fun _ _ hst _ => hst.glvRelease)) (fun _ => h)
  exact .foldl (fun _ _ hst => .ite (fun _ => Spares.forChannels (hst.modSect (fun _ _ => Section.unmoved_of_weak hq rfl rfl))
    (fun _ _ hst _ => hst.glvRelease)) (fun _ => hst)) hfirst

theorem Spares.stopReply {due : Bool} (h : Spares q a s) : Spares q a (s.stopReply due) := by
  unfold State.stopReply
  have hall : Spares q a (s.seq.stopReplies.foldl (fun st f => st.reply f.status f.tag f.noibi f.words)
      (s.modSeq (fun q => { q with stopReplies := [] }))) := .foldl (fun _ _ hst => hst.reply) h.upd
  dsimp only
  generalize List.foldl _ _ _ = u at hall ⊢
  split
  · exact .ite (fun _ => hall.clearMailbox.reply) (fun _ => hall)
  · exact hall

end

section

variable {q : Spared} {a s t : State}

/-! ## The turn of one section, or of one engine -/

theorem Spares.weaken {q' : Spared} (h : Spares q a s) (hk : q'.k = q.k) (he : ∀ n, q'.engs n → q.engs n) (hs : q'.strict = true → q.strict = true)
    (hb : q'.beat = true → q.beat = true) : Spares q' a s := by
  refine ⟨fun r hr => h.reg r ?_, fun n hn => h.engine n (he n hn), ?_, ?_⟩
  · rw [Spared.reg, hk, Bool.or_eq_true, Bool.and_eq_true] at hr
    rw [Spared.reg, Bool.or_eq_true, Bool.and_eq_true]
    exact hr.imp_right (fun h' => ⟨h'.1, hb h'.2⟩)
  · rw [hk]
    exact ⟨h.sect.startAt, h.sect.useMask, fun hp => h.sect.all (hs hp)⟩
  · rw [hk]
    exact h.chan

/-- In a fold whose other steps spare what x moves, x takes its turn in a state spared so far, and what it leaves is spared from there on. -/
theorem Spares.exists_turn {f : State → Nat → State} {l : List Nat} {x : Nat} (hl : l.Nodup) (hx : x ∈ l)
    (hf : ∀ st, ∀ y ∈ l, y ≠ x → Spares q st (f st y)) (s : State) : ∃ st, Spares q s st ∧ Spares q (f st x) (l.foldl f s) := by
  obtain ⟨l1, l2, rfl⟩ := List.append_of_mem hx
  rw [List.nodup_append, List.nodup_cons] at hl
  obtain ⟨_, ⟨hx2, _⟩, hdisj⟩ := hl
  refine ⟨l1.foldl f s, ?_, ?_⟩
  · exact .foldl_mem (fun st y hy hst => hst.trans (hf st y (by simp [hy]) (fun e => hdisj y hy x (by simp) e))) (.refl q s)
  · rw [List.foldl_append, List.foldl_cons]
    exact .foldl_mem (fun st y hy hst => hst.trans (hf st y (by simp [hy]) (fun e => hx2 (e ▸ hy)))) (.refl q _)

/-- The engines of section k. -/
def sectEngines (k n : Nat) : Prop := ∃ i, i < 32 ∧ n = k * 32 + i

/-- Section k with its engines, read strictly or not, and with the beat number or not. -/
def sparedSect (k : Nat) (strict beat : Bool) : Spared := ⟨k, sectEngines k, strict, beat⟩

theorem sparedSect_apart {j k : Nat} {strict beat : Bool} (h : j ≠ k) : (sparedSect k strict beat).Apart j := by
  refine fun i hi => ⟨?_, fun e => absurd ?_ h⟩
  · rintro ⟨i', hi', e⟩
    omega
  · rw [← show sectOf (j * 32 + i) = k from e, sectOf]
    omega

theorem sparedSect_sve {k : Nat} {beat : Bool} (hk : k < 6) : (sparedSect k false beat).Free 192 := by
  refine ⟨?_, fun _ => rfl⟩
  rintro ⟨i, hi, e⟩
  omega

/-! ## A boundary as the turns of its sections -/

/-- What the beat struct is at the start of the beat that opens. -/
def State.opened (s : State) : State :=
  { s with beat := { s.beat with
    started := true, period := s.getF .BEAT_PERIOD F.BEAT_PERIOD_PERIOD, outPulse := s.getB .BEAT_CTL F.BEAT_CTL_OUT_EN, length := none } }

theorem Spares.opened (h : Spares q a s) : Spares q a s.opened := h.upd

/-- A boundary up to the turns of the sections. -/
def State.beforeTurns (s : State) : State :=
  (s.beatCloses.markLost.freshness s.beatCloses.beatNum).nextBeat.opened.clockBoundary.chanBoundary.queueBoundary.timerBoundary

/-- A boundary from the turns of the sections on, to the entries of the sections that start. -/
def State.afterTurns (s : State) (due : Bool) : State :=
  let u := (s.stopReply due)
  let u := (u.tick 192).modEngine 192 Engine.rebase
  let u := (List.range 50).foldl (fun st j => st.ckuBoundary j) u
  (List.range 16).foldl (fun st n => (st.laneBoundary n).frmUpdate n) u

/-- The number of the beat that a boundary opens (R40, R41). -/
def State.nextNum (s : State) : Word := if s.getB .BEAT_CTL F.BEAT_CTL_LOAD_ARM then s.reg .BEAT_NUM_LOAD else s.reg .BEAT_NUM + 1

theorem State.reg_nextBeat (s : State) : s.nextBeat.reg .BEAT_NUM = s.nextNum := by
  unfold State.nextBeat State.nextNum
  split
  · rw [State.reg_setB_ne (show Reg.BEAT_NUM ≠ .BEAT_CTL from nofun), State.reg_setReg, if_pos rfl]
  · rw [State.reg_setReg, if_pos rfl]

theorem State.nextNum_congr {s t : State} (h : ∀ r : Reg, r.ofBeatNum = true → t.reg r = s.reg r) : t.nextNum = s.nextNum := by
  rw [State.nextNum, State.nextNum, State.getB, State.getB, h _ rfl, h _ rfl, h _ rfl]

theorem Spares.nextNum (h : Spares q a s) (hq : q.beat = true) : s.nextNum = a.nextNum :=
  State.nextNum_congr (fun r hr => h.reg r (by rw [Spared.reg, hr, hq, Bool.true_and, Bool.or_true]))

theorem State.boundary_eq (s : State) : ∃ due, s.boundary = (((((List.range 6).foldl
    (fun st k => st.sectBoundary k (s.wallCycles (s.beat.length.getD s.beat.period)) s.nextNum) s.beforeTurns).startReleases s.nextNum).sectFirst
      ((List.range 6).filter (fun k => s.beforeTurns.running k))).afterTurns due) := by
  have hnum : ((s.beatCloses.markLost.freshness s.beatCloses.beatNum).nextBeat).reg .BEAT_NUM = s.nextNum := by
    rw [State.reg_nextBeat]
    have hclose : Spares (sparedSect 0 false true) s (s.beatCloses.markLost.freshness s.beatCloses.beatNum) :=
      ((Spares.refl _ s).beatCloses rfl).markLost.freshness
    exact hclose.nextNum rfl
  refine ⟨s.beforeTurns.stopWaits && s.beforeTurns.stopBeat == some s.nextNum, ?_⟩
  rw [← hnum]
  rfl

theorem Spares.beforeTurns (k : Nat) (s : State) : Spares (sparedSect k true false) s.beatCloses s.beforeTurns :=
  ((Spares.refl _ s.beatCloses).markLost.freshness.nextBeat rfl).opened.clockBoundary.chanBoundary.queueBoundary.timerBoundary

theorem Spares.afterTurns {k : Nat} {due : Bool} (hk : k < 6) (h : Spares (sparedSect k false false) a s) :
    Spares (sparedSect k false false) a (s.afterTurns due) := by
  have hsve := (h.stopReply (due := due)).tick (sparedSect_sve hk) |>.modFree (f := Engine.rebase) (sparedSect_sve hk).engine
  exact .foldl (fun _ _ hst => hst.laneBoundary.frmUpdate) (.foldl (fun _ _ hst => hst.ckuBoundary) hsve)

/-- The turn of section k at a boundary, and its entry where it starts there. -/
theorem State.boundary_turns (s : State) {k : Nat} (hk : k < 6) : ∃ w r, Spares (sparedSect k true false) s.beatCloses w ∧
    Spares (sparedSect k false false) (w.sectBoundary k (s.wallCycles (s.beat.length.getD s.beat.period)) s.nextNum) r ∧
    Spares (sparedSect k false false) (if !w.running k && r.running k then r.sectEnter k else r) s.boundary := by
  obtain ⟨due, hb⟩ := s.boundary_eq
  rw [hb]
  have hmem : k ∈ List.range 6 := List.mem_range.mpr hk
  obtain ⟨w, hw, hturn⟩ := Spares.exists_turn (q := sparedSect k true false) List.nodup_range hmem
    (f := fun st k => st.sectBoundary k (s.wallCycles (s.beat.length.getD s.beat.period)) s.nextNum)
    (fun st j _ hj => (Spares.refl _ st).sectBoundary hj (sparedSect_apart hj)) s.beforeTurns
  have hrel := (hturn.weaken (q' := sparedSect k false false) rfl (fun _ => id) nofun nofun).startReleases (b := s.nextNum) rfl
  generalize hu : ((List.range 6).foldl (fun st k => st.sectBoundary k (s.wallCycles (s.beat.length.getD s.beat.period)) s.nextNum)
    s.beforeTurns).startReleases s.nextNum = u at hrel ⊢
  obtain ⟨r, hr, hfirst⟩ := Spares.exists_turn (q := sparedSect k false false) List.nodup_range hmem
    (f := fun st j => if !((List.range 6).filter (fun k => s.beforeTurns.running k)).contains j && st.running j then st.sectEnter j else st)
    (fun st j _ hj => .ite (fun _ => (Spares.refl _ st).sectEnter (sparedSect_apart hj)) (fun _ => .refl _ st)) u
  refine ⟨w, r, (Spares.beforeTurns k s).trans hw, hrel.trans hr, .afterTurns hk ?_⟩
  have hwas : ((List.range 6).filter (fun k => s.beforeTurns.running k)).contains k = w.running k := by
    rw [show w.running k = s.beforeTurns.running k from hw.running]
    cases h : s.beforeTurns.running k <;> simp [h, hk]
  rw [← hwas]
  exact hfirst

end

section

/-! ## An engine that enters its beat (R54) -/

theorem State.engine_modEngine_self (s : State) (n : Nat) (f : Engine → Engine) : (s.modEngine n f).engine n = f (s.engine n) := by
  rw [State.modEngine, State.engine_setEngine, if_pos rfl]

theorem State.engine_setEngine_self (s : State) (n : Nat) (x : Engine) : (s.setEngine n x).engine n = x := by
  rw [State.engine_setEngine, if_pos rfl]

/-- y is x but for the mask, the stack pointers, the storage of CSRs and what the counters owe. -/
def Engine.CsrOnly (x y : Engine) : Prop := ∃ m p c d, y = { x with imask := m, sp := p, csr := c, cntDue := d }

theorem Engine.CsrOnly.refl (x : Engine) : x.CsrOnly x := ⟨_, _, _, _, rfl⟩

theorem Engine.CsrOnly.trans {x y z : Engine} (h : x.CsrOnly y) (h' : y.CsrOnly z) : x.CsrOnly z := by
  obtain ⟨_, _, _, _, rfl⟩ := h
  obtain ⟨m, p, c, d, rfl⟩ := h'
  exact ⟨m, p, c, d, rfl⟩

theorem Engine.csrOnly_setCsrW (x : Engine) (e n : Nat) (w : Word) : x.CsrOnly (x.setCsrW e n w) := ⟨x.imask, x.sp, _, x.cntDue, rfl⟩

/-- One counter catches up. -/
def State.cntCatchOne (s : State) (e k : Nat) : State :=
  (s.drawNat 36).2.modEngine e (fun x => x.setCsrW e (0x140 + k) (BitVec.ofNat 36 (satAdd (x.csrW e (0x140 + k)).toNat (s.drawNat 36).1 (2 ^ 36 - 1))))

theorem State.cntCatch_eq (s : State) (e : Nat) : s.cntCatch e = if (s.engine e).halted && !(s.engine e).cntDue then s else
    (List.range 4).foldl (fun st k => st.cntCatchOne e k) (s.setEngine e { s.engine e with cntDue := false }) := rfl

theorem State.engine_cntCatchOne (s : State) (n k : Nat) : (s.engine n).CsrOnly ((s.cntCatchOne n k).engine n) := by
  rw [State.cntCatchOne, State.engine_modEngine_self]
  exact Engine.csrOnly_setCsrW (s.engine n) n _ _

theorem State.engine_cntCatch (s : State) (n : Nat) : (s.engine n).CsrOnly ((s.cntCatch n).engine n) := by
  have hfold : ∀ (l : List Nat) (u : State), (u.engine n).CsrOnly ((l.foldl (fun st k => st.cntCatchOne n k) u).engine n) := by
    intro l
    induction l with
    | nil => exact fun u => .refl _
    | cons k l ih => exact fun u => (u.engine_cntCatchOne n k).trans (ih _)
  rw [State.cntCatch_eq]
  split
  · exact .refl _
  · have hset := hfold (List.range 4) (s.setEngine n { s.engine n with cntDue := false })
    rw [State.engine_setEngine_self] at hset
    exact Engine.CsrOnly.trans ⟨_, _, _, false, rfl⟩ hset

theorem State.engine_csrWrite (s : State) (n k : Nat) (w : Word) : (s.engine n).CsrOnly ((s.csrWrite n k w).engine n) := by
  have hset : ∀ y, (s.engine n).CsrOnly y → (s.engine n).CsrOnly ((s.setEngine n y).engine n) := fun y hy => by
    rwa [State.engine_setEngine_self]
  unfold State.csrWrite
  dsimp only
  split
  · exact hset _ ⟨_, _, _, _, rfl⟩
  split
  · exact hset _ ⟨_, _, _, _, rfl⟩
  split
  · exact .refl (s.engine n)
  split
  · exact .refl (s.engine n)
  split
  · split
    · exact hset _ (Engine.csrOnly_setCsrW _ _ _ _)
    · exact .refl (s.engine n)
  split
  · unfold State.txdPut
    split <;> exact .refl (s.engine n)
  split
  · rw [State.engine_modEngine_self]
    exact (s.engine_cntCatch n).trans (Engine.csrOnly_setCsrW _ _ _ _)
  · exact hset _ (Engine.csrOnly_setCsrW _ _ _ _)

theorem Engine.eq_with_csrLate {x : Engine} (h : x.csrLate = none) :
    x = { x with imask := x.imask, sp := x.sp, csr := x.csr, csrLate := none, cntDue := x.cntDue } := by
  cases x
  cases h
  rfl

/-- A late CSR write takes effect: none is late after it. -/
theorem State.engine_csrSettle (s : State) (n : Nat) :
    ∃ m p c d, (s.csrSettle n).engine n = { s.engine n with imask := m, sp := p, csr := c, csrLate := none, cntDue := d } := by
  unfold State.csrSettle
  split
  · next k w _ _ =>
    obtain ⟨m, p, c, d, h⟩ := (s.modEngine n (fun x => { x with csrLate := none })).engine_csrWrite n k w
    rw [State.engine_modEngine_self] at h
    exact ⟨m, p, c, d, h⟩
  · next h => exact ⟨_, _, _, _, Engine.eq_with_csrLate h⟩

theorem Engine.landAll_eq (x : Engine) (e : Nat) :
    ∃ r d c p h, x.landAll e = { x with flights := [], res := r, done := d, csr := c, fpShort := p, held := h } := by
  obtain ⟨r, d, c, p, hf⟩ := Engine.foldl_land_eq e x.flights { x with flights := [] }
  unfold Engine.landAll Engine.setResult
  rw [hf]
  dsimp only
  split
  · exact ⟨_, _, _, _, _, rfl⟩
  · exact ⟨_, _, _, _, x.held, rfl⟩

theorem Engine.foldl_setA_eq (l : List (Nat × Word × Nat)) (x : Engine) :
    ∃ p b, l.foldl (fun y e => y.setA e.1 e.2.1) x = { x with sp := p, a := b } := by
  induction l generalizing x with
  | nil => exact ⟨_, _, rfl⟩
  | cons e l ih =>
    obtain ⟨p, b, h⟩ := ih (x.setA e.1 e.2.1)
    rw [List.foldl_cons, h]
    unfold Engine.setA
    split <;> exact ⟨_, _, rfl⟩

/-- y is engine x after it has entered a beat with the entry word. -/
structure Engine.Entered (ent : Word) (x y : Engine) : Prop where
  pc : y.pc = put 13 0 (fld ent 13 0)
  ring : y.ring = BitVec.ofNat 2 (fld ent 20 19)
  imask : y.imask = BitVec.ofNat 3 (fld ent 18 16)
  rsDepth : y.rsDepth = 0
  rs : y.rs = x.rs
  p : y.p = 0
  cyc : y.cyc = 0
  inBeat : y.inBeat = true
  branch : y.branch = none
  fence : y.fence = none
  efWait : y.efWait = false
  efDone : y.efDone = false
  waitRead : y.waitRead = none
  divOp : x.divOp = none → y.divOp = none
  fplOp : x.fplOp = none → y.fplOp = none
  resv : x.resv = none → y.resv = none
  held : y.held = []
  longop : y.longop = x.longop
  stm : y.stm = { x.stm with start := 0 }
  csrLate : y.csrLate = none

theorem Engine.entered_enterBeat {x : Engine} (hx : x.csrLate = none) (n : Nat) (ent : Word) : Engine.Entered ent x (x.enterBeat n ent) := by
  obtain ⟨r, d, c, p, h, hland⟩ := x.landAll_eq n
  unfold Engine.enterBeat
  rw [hland]
  obtain ⟨sp, a, hinc⟩ := Engine.foldl_setA_eq x.aInc
    { x with flights := [], res := r, done := d, csr := c, fpShort := p, held := h, aInc := [] }
  dsimp only
  rw [hinc]
  exact ⟨rfl, rfl, rfl, rfl, rfl, rfl, rfl, rfl, rfl, rfl, rfl, rfl, rfl, fun h => by rw [h]; rfl, fun h => by rw [h]; rfl, id, rfl, rfl, rfl, hx⟩

theorem Engine.Entered.unmoved {ent : Word} {x y z : Engine} (h : Engine.Entered ent x y) (hz : y.Unmoved z) : Engine.Entered ent x z := by
  rw [hz.same]
  exact { h with resv := fun hx => hz.resv (h.resv hx), waitRead := hz.wait h.waitRead }

end

section

variable {s t : State}

/-- Engine n alone, of section k. -/
def sparedEngine (k n : Nat) : Spared := ⟨k, (· = n), false, false⟩

theorem sparedEngine_free {k n m : Nat} (h : m ≠ n) : (sparedEngine k n).Free m := ⟨h, fun _ => rfl⟩

theorem State.csrSettle_of_none {n : Nat} (h : (s.engine n).csrLate = none) : s.csrSettle n = s := by
  rw [State.csrSettle, h]

theorem Engine.haltPc_of_none {x : Engine} (h : x.fence = none) : x.haltPc = x := by
  rw [Engine.haltPc, h]

/-- A halt taken before the first bundle leaves an engine that has entered its beat. -/
theorem Engine.Entered.haltTake {n : Nat} {ent : Word} {x : Engine} (hn : n < 192) (h : Engine.Entered ent x (s.engine n)) :
    Engine.Entered ent x ((s.haltTake n).engine n) := by
  unfold State.haltTake
  rw [State.csrSettle_of_none h.csrLate]
  dsimp only
  rw [if_neg (by omega), Engine.haltPc_of_none h.fence]
  split
  · exact h
  next c _ =>
    have hset : Engine.Entered ent x ((s.setEngine n { s.engine n with
        halted := true, haltReq := none, stepLeft := none, stepNoInt := false, resv := none, cntDue := true }).engine n) := by
      rw [State.engine_setEngine_self]
      exact { h with resv := fun _ => rfl }
    generalize s.setEngine n _ = u at hset ⊢
    have hcause : Spares (sparedEngine (sectOf n) n) u (u.setF (.DBG_ESTS n) F.DBG_ESTS_CAUSE c.toNat) := (Spares.refl _ u).setF
    have hcomp : Spares (sparedEngine (sectOf n) n) u (if c = 3 ∨ c = 4 then (u.setF (.DBG_ESTS n) F.DBG_ESTS_CAUSE c.toNat).setF (.DBG_ESTS n)
        F.DBG_ESTS_COMP (s.engine n).haltComp.toNat else u.setF (.DBG_ESTS n) F.DBG_ESTS_CAUSE c.toNat) :=
      .ite (fun _ => hcause.setF) (fun _ => hcause)
    refine hset.unmoved (Spares.engine (q := sparedEngine (sectOf n) n) (Spares.haltReplies (.ite (fun _ => ?_) (fun _ => hcomp))) n rfl)
    exact .forChannels (hcomp.modSect (fun _ _ => Section.unmoved_of_weak rfl rfl rfl)) (fun _ _ hst _ => hst.glvHalt)

theorem State.enterOne_engine {n : Nat} (hn : n < 192) (ent : Word) : Engine.Entered ent (s.engine n) ((s.enterOne n ent).engine n) := by
  obtain ⟨m, p, c, d, hx⟩ := s.engine_csrSettle n
  have hent : Engine.Entered ent (s.engine n)
      (((((s.csrSettle n).irqSample n).modEngine n (fun x => x.enterBeat n ent)).setF (.DBG_ESTS n) F.DBG_ESTS_HITS 0).engine n) := by
    rw [State.setF, State.engine_setReg, State.engine_modEngine_self, State.irqSample, State.engine_setEngine_self, hx]
    have h := Engine.entered_enterBeat (x := { s.engine n with
      imask := m, sp := p, csr := c, csrLate := none, cntDue := d
      irqSince := (List.range 14).filterMap (fun k => if (s.csrSettle n).intPending n k then
        some (k, match ((s.csrSettle n).engine n).irqSince.find? (fun p => p.1 == k) with
          | some p => p.2 | none => ((s.csrSettle n).engine n).cyc + 2) else none) }) rfl n ent
    rw [hx] at h
    exact { h with }
  unfold State.enterOne State.haltTry
  split
  · exact hent.haltTake hn
  · exact hent

theorem State.nodup_runners (s : State) (k : Nat) : (s.runners k).Nodup := by
  refine List.Nodup.filterMap (fun i j n hi hj => ?_) List.nodup_range
  simp only [Option.mem_def, Option.ite_none_right_eq_some, Option.some.injEq] at hi hj
  omega

/-- An engine of the placement that is neither LOCKED nor fenced enters the beat. -/
theorem State.sectEnter_engine {k i : Nat} (hk : k < 6) (hi : i < 32) (hu : bit (s.sect k).useMask i = true)
    (hl : (s.engine (k * 32 + i)).locked = false) (hf : (s.engine (k * 32 + i)).fenced = false) :
    Engine.Entered (s.reg (.SEC_ENTRY k)) (s.engine (k * 32 + i)) ((s.sectEnter k).engine (k * 32 + i)) := by
  have hpast : ∀ n, (s.haltsPast k).engine n = s.engine n := fun n => rfl
  have hmem : k * 32 + i ∈ (s.haltsPast k).runners k :=
    State.mem_runners.mpr ⟨i, hi, rfl, by rw [State.haltsPast, State.modSect, State.sect_setSect, if_pos rfl]; exact hu, hl, hf⟩
  rw [State.sectEnter_eq]
  obtain ⟨st, hst, hturn⟩ := Spares.exists_turn (q := sparedEngine k (k * 32 + i)) ((s.haltsPast k).nodup_runners k) hmem
    (f := fun st n => st.enterOne n (s.reg (.SEC_ENTRY k)))
    (fun st n _ hne => (Spares.refl _ st).enterOne (sparedEngine_free hne)) (s.haltsPast k)
  have hx := hst.engine (k * 32 + i) rfl
  rw [hpast] at hx
  have hy := (State.enterOne_engine (s := st) (n := k * 32 + i) (by omega) (s.reg (.SEC_ENTRY k))).unmoved (hturn.engine _ rfl)
  rw [hx.same] at hy
  exact { hy with resv := fun h => hy.resv (hx.resv h) }

/-! ## An engine that abandons its work or stops (R68, R71) -/

/-- y is engine x after the work of its beat is abandoned; an engine that is in no beat has none. -/
structure Engine.Abandoned (x y : Engine) : Prop where
  locked : y.locked = x.locked
  fenced : y.fenced = x.fenced
  rs : y.rs = x.rs
  work : x.inBeat = true → y.divOp = none ∧ y.fplOp = none ∧ y.resv = none ∧ y.longop = none ∧
    y.stm = { x.stm with op := 0, susp := false, rcd := [] }

theorem Engine.Abandoned.unmoved {x y z : Engine} (h : x.Abandoned y) (hz : y.Unmoved z) : x.Abandoned z := by
  rw [hz.same]
  refine { h with work := fun hx => ?_ }
  obtain ⟨hdiv, hfpl, hresv, hlong, hstm⟩ := h.work hx
  exact ⟨hdiv, hfpl, hz.resv hresv, hlong, hstm⟩

theorem State.abandonOne_engine (s : State) (n : Nat) : (s.engine n).Abandoned ((s.abandonOne n).engine n) := by
  unfold State.abandonOne
  split
  · have hx : (s.engine n).Abandoned ((s.modEngine n (fun x => x.abandon n)).engine n) := by
      rw [State.engine_modEngine_self]
      obtain ⟨r, d, c, p, h, hland⟩ := (s.engine n).landAll_eq n
      unfold Engine.abandon
      rw [hland]
      exact ⟨rfl, rfl, rfl, fun _ => ⟨rfl, rfl, rfl, rfl, rfl⟩⟩
    exact hx.unmoved (((Spares.refl (sparedEngine (sectOf n) n) _).drainSb (fun _ => rfl)).engine n rfl)
  next h => exact ⟨rfl, rfl, rfl, fun hx => absurd hx h⟩

theorem Engine.Unmoved.halted {x y : Engine} (h : x.Unmoved y) : y.halted = x.halted := by rw [h.same]; rfl
theorem Engine.Unmoved.inBeat {x y : Engine} (h : x.Unmoved y) : y.inBeat = x.inBeat := by rw [h.same]; rfl

/-- The 32 engines of section k, one after another. -/
theorem Spares.exists_engine_turn {f : State → Nat → State} {k i : Nat} (hi : i < 32)
    (hf : ∀ st j, j ≠ i → Spares (sparedEngine k (k * 32 + i)) st (f st j)) (s : State) :
    ∃ st, Spares (sparedEngine k (k * 32 + i)) s st ∧ Spares (sparedEngine k (k * 32 + i)) (f st i) ((List.range 32).foldl f s) :=
  Spares.exists_turn List.nodup_range (List.mem_range.mpr hi) (fun st j _ hj => hf st j hj) s

theorem State.sectAbandon_engine (s : State) {k i : Nat} (hi : i < 32) :
    (s.engine (k * 32 + i)).Abandoned ((s.sectAbandon k).engine (k * 32 + i)) := by
  obtain ⟨st, hst, hturn⟩ := Spares.exists_engine_turn (k := k) (f := fun st j => st.abandonOne (k * 32 + j)) hi
    (fun st j hj => (Spares.refl _ st).abandonOne (sparedEngine_free (by omega))) s
  have hx := hst.engine _ rfl
  have hy := (st.abandonOne_engine (k * 32 + i)).unmoved (hturn.engine _ rfl)
  rw [hx.same] at hy
  exact { hy with }

theorem State.sectStopIssue_engine (s : State) {k i : Nat} (hi : i < 32) : ((s.sectStopIssue k).engine (k * 32 + i)).inBeat = false := by
  obtain ⟨st, _, hturn⟩ := Spares.exists_engine_turn (k := k) (f := fun st j => st.modEngine (k * 32 + j) (fun x =>
      { x.landAll (k * 32 + j) with inBeat := false, efDone := false })) hi
    (fun st j hj => (Spares.refl _ st).modFree (sparedEngine_free (by omega)).engine) s
  have hy := (hturn.engine _ rfl).same
  rw [State.engine_modEngine_self] at hy
  exact congrArg Engine.inBeat hy

theorem State.dropHalt_engine (s : State) (n : Nat) : ((s.dropHalt n).engine n).halted = false ∧ ((s.dropHalt n).engine n).inBeat = (s.engine n).inBeat := by
  unfold State.dropHalt
  dsimp only
  split
  · rw [State.engine_setEngine_self]
    exact ⟨rfl, rfl⟩
  next h =>
    simp only [Bool.or_eq_true, not_or, Bool.not_eq_true] at h
    exact ⟨h.1.1, rfl⟩

theorem State.dropHalts_engine (s : State) {k i : Nat} (hi : i < 32) :
    ((s.dropHalts k).engine (k * 32 + i)).halted = false ∧ ((s.dropHalts k).engine (k * 32 + i)).inBeat = (s.engine (k * 32 + i)).inBeat := by
  obtain ⟨st, hst, hturn⟩ := Spares.exists_engine_turn (k := k) (f := fun st j => st.dropHalt (k * 32 + j)) hi
    (fun st j hj => (Spares.refl _ st).dropHalt (sparedEngine_free (by omega)).engine) s
  obtain ⟨hh, hb⟩ := st.dropHalt_engine (k * 32 + i)
  have hx := hst.engine _ rfl
  have hy := hturn.engine _ rfl
  rw [State.dropHalts_eq, State.modSect, State.engine_setSect, hy.halted, hy.inBeat]
  exact ⟨hh, hb.trans hx.inBeat⟩

theorem State.sectStop_engine (s : State) {k i : Nat} (hi : i < 32) :
    ((s.sectStop k).engine (k * 32 + i)).inBeat = false ∧ ((s.sectStop k).engine (k * 32 + i)).halted = false := by
  obtain ⟨hh, hb⟩ := ((s.sectAbandon k).sectStopIssue k).dropHalts_engine (k := k) hi
  have hstop : ((s.sectStop k).engine (k * 32 + i)) = ((((s.sectAbandon k).sectStopIssue k).dropHalts k).engine (k * 32 + i)) := by
    rw [State.sectStop, State.modSect, State.engine_setSect, State.setF, State.engine_setReg]
  rw [hstop, hb, hh]
  exact ⟨State.sectStopIssue_engine _ hi, rfl⟩

end

section

variable {q : Spared} {a s t y : State} {k : Nat}

/-! ## The engines of a section that enters its beat -/

/-- Engine i of section k is placed, and neither LOCKED nor fenced. -/
def State.RunsIn (s : State) (k i : Nat) : Prop :=
  (i < 32 ∧ bit (s.sect k).useMask i = true) ∧ (s.engine (k * 32 + i)).locked = false ∧ (s.engine (k * 32 + i)).fenced = false

/-- y is engine x at cycle 0 (R54). -/
def Engine.Began (ent : Word) (x y : Engine) : Prop :=
  y.pc = put 13 0 (fld ent 13 0) ∧ y.ring.toNat = fld ent 20 19 ∧ y.imask.toNat = fld ent 18 16 ∧ y.rsDepth = 0 ∧ y.rs = x.rs ∧ y.p = 0 ∧
  y.cyc = 0 ∧ y.inBeat = true ∧ y.branch = none ∧ y.fence = none ∧ y.efWait = false ∧ y.efDone = false ∧ y.waitRead = none

/-- Nothing of the work of x goes on in y (R68). -/
def Engine.AtRest (x y : Engine) : Prop :=
  y.divOp = none ∧ y.fplOp = none ∧ y.resv = none ∧ y.held = [] ∧ y.longop = none ∧
    y.stm = { x.stm with op := 0, susp := false, rcd := [], start := 0 }

/-- In y, section k of a has entered its beat. -/
def State.Began (a y : State) (k : Nat) : Prop :=
  ∀ i, a.RunsIn k i → (a.engine (k * 32 + i)).Began (a.reg (.SEC_ENTRY k)) (y.engine (k * 32 + i))

/-- In y, section k of a has restarted. -/
def State.Restarted (a y : State) (k : Nat) : Prop :=
  a.Began y k ∧ ∀ i, a.RunsIn k i → (a.engine (k * 32 + i)).inBeat = true → (a.engine (k * 32 + i)).AtRest (y.engine (k * 32 + i))

/-- Section k is STOPPED: nothing in it issues or is halted. -/
def State.AtStop (y : State) (k : Nat) : Prop :=
  y.sectState k = 3 ∧ ∀ i, i < 32 → (y.engine (k * 32 + i)).inBeat = false ∧ (y.engine (k * 32 + i)).halted = false

theorem Engine.Entered.began {ent : Word} {x y : Engine} (h : Engine.Entered ent x y) : x.Began ent y := by
  have hring : y.ring.toNat = fld ent 20 19 := by
    rw [h.ring, BitVec.toNat_ofNat, Nat.mod_eq_of_lt (fld_lt ent 20 19)]
  have himask : y.imask.toNat = fld ent 18 16 := by
    rw [h.imask, BitVec.toNat_ofNat, Nat.mod_eq_of_lt (fld_lt ent 18 16)]
  exact ⟨h.pc, hring, himask, h.rsDepth, h.rs, h.p, h.cyc, h.inBeat, h.branch, h.fence, h.efWait, h.efDone, h.waitRead⟩

/-- An engine that has abandoned its work and then enters the beat. -/
theorem Engine.Entered.atRest {ent : Word} {x m y : Engine} (h : Engine.Entered ent m y) (hm : x.Abandoned m) (hx : x.inBeat = true) :
    x.AtRest y := by
  obtain ⟨hdiv, hfpl, hresv, hlong, hstm⟩ := hm.work hx
  exact ⟨h.divOp hdiv, h.fplOp hfpl, h.resv hresv, h.held, h.longop.trans hlong, by rw [h.stm, hstm]⟩

theorem Engine.Began.unmoved {ent : Word} {x y z : Engine} (h : x.Began ent y) (hz : y.Unmoved z) : x.Began ent z := by
  obtain ⟨h1, h2, h3, h4, h5, h6, h7, h8, h9, h10, h11, h12, hwait⟩ := h
  rw [hz.same]
  exact ⟨h1, h2, h3, h4, h5, h6, h7, h8, h9, h10, h11, h12, hz.wait hwait⟩

theorem Engine.AtRest.unmoved {x y z : Engine} (h : x.AtRest y) (hz : y.Unmoved z) : x.AtRest z := by
  obtain ⟨hdiv, hfpl, hresv, hheld, hlong, hstm⟩ := h
  rw [hz.same]
  exact ⟨hdiv, hfpl, hz.resv hresv, hheld, hlong, hstm⟩

/-! ## What is spared keeps all this -/

theorem Spares.unmoved {strict beat : Bool} {i : Nat} (h : Spares (sparedSect k strict beat) a s) (hi : i < 32) :
    (a.engine (k * 32 + i)).Unmoved (s.engine (k * 32 + i)) := h.engine _ ⟨i, hi, rfl⟩

section
variable {r : Reg} {f : Nat × Nat} {j : Nat} (h : Spares q a s) (hr : r.ofTurn j = true) (hj : q.k = j := by rfl)
include h hr hj

theorem Spares.turnReg : s.reg r = a.reg r := h.reg r (by rw [Spared.reg, hj, hr, Bool.true_or])
theorem Spares.turnF : s.getF r f = a.getF r f := by rw [State.getF, State.getF, h.turnReg hr hj]
theorem Spares.turnB : s.getB r f = a.getB r f := by rw [State.getB, State.getB, h.turnReg hr hj]

end

theorem Reg.ofTurn_state : (Reg.SEC_STATE k).ofTurn k = true := decide_eq_true rfl
theorem Reg.ofTurn_overrun : (Reg.SEC_OVERRUN k).ofTurn k = true := decide_eq_true rfl
theorem Reg.ofTurn_slack : (Reg.SEC_SLACK k).ofTurn k = true := decide_eq_true rfl
theorem Reg.ofTurn_stall : (Reg.SEC_STALL k).ofTurn k = true := decide_eq_true rfl
theorem Reg.ofTurn_entry : (Reg.SEC_ENTRY k).ofTurn k = true := decide_eq_true rfl
theorem Reg.ofTurn_frame : (Reg.SEC_FRAME k).ofTurn k = true := decide_eq_true rfl

theorem Spares.sectState (h : Spares q a s) (hk : q.k = k := by rfl) : s.sectState k = a.sectState k := h.turnF Reg.ofTurn_state hk

theorem Spares.runsIn {strict beat : Bool} {i : Nat} (h : Spares (sparedSect k strict beat) a s) : s.RunsIn k i ↔ a.RunsIn k i := by
  have hmask : (s.sect k).useMask = (a.sect k).useMask := h.sect.useMask
  unfold State.RunsIn
  rw [hmask]
  refine and_congr_right (fun hi => ?_)
  rw [(h.unmoved hi.1).same]
  rfl

theorem State.Began.spares {strict beat : Bool} (h : a.Began y k) (hy : Spares (sparedSect k strict beat) y t) : a.Began t k :=
  fun i hi => (h i hi).unmoved (hy.unmoved hi.1.1)

theorem State.Restarted.spares {strict beat : Bool} (h : a.Restarted y k) (hy : Spares (sparedSect k strict beat) y t) : a.Restarted t k :=
  ⟨h.1.spares hy, fun i hi hb => (h.2 i hi hb).unmoved (hy.unmoved hi.1.1)⟩

theorem State.AtStop.spares {strict beat : Bool} (h : y.AtStop k) (hy : Spares (sparedSect k strict beat) y t) : t.AtStop k := by
  refine ⟨hy.sectState.trans h.1, fun i hi => ?_⟩
  rw [(hy.unmoved hi).inBeat, (hy.unmoved hi).halted]
  exact h.2 i hi

/-- The engines are compared with a state before. -/
theorem State.Began.of_spares {strict beat : Bool} (h : s.Began y k) (ha : Spares (sparedSect k strict beat) a s) : a.Began y k := by
  intro i hi
  have hy := h i (ha.runsIn.mpr hi)
  rw [(ha.unmoved hi.1.1).same, ha.turnReg Reg.ofTurn_entry] at hy
  exact hy

theorem State.Restarted.of_spares {strict beat : Bool} (h : s.Restarted y k) (ha : Spares (sparedSect k strict beat) a s) : a.Restarted y k := by
  refine ⟨h.1.of_spares ha, fun i hi hb => ?_⟩
  have hx := ha.unmoved hi.1.1
  have hy := h.2 i (ha.runsIn.mpr hi) (hx.inBeat.trans hb)
  rw [hx.same] at hy
  exact hy

theorem State.sectEnter_began (s : State) (hk : k < 6) : s.Began (s.sectEnter k) k :=
  fun _ ⟨⟨hi, hu⟩, hl, hf⟩ => (State.sectEnter_engine hk hi hu hl hf).began

/-! ## The registers of a section -/

/-- The registers of section k alone. -/
def sparedRegs (k : Nat) : Spared := ⟨k, fun _ => False, false, false⟩

theorem sparedRegs_apart : (sparedRegs k).Apart k := fun _ _ => ⟨id, fun _ => rfl⟩

theorem State.abandon_restarted (s : State) (hk : k < 6) : s.Restarted ((s.sectAbandon k).sectEnter k) k := by
  have hab : Spares (sparedRegs k) s (s.sectAbandon k) := (Spares.refl _ s).sectAbandon sparedRegs_apart
  have hent : (s.sectAbandon k).reg (.SEC_ENTRY k) = s.reg (.SEC_ENTRY k) := hab.turnReg Reg.ofTurn_entry
  have hmask : ((s.sectAbandon k).sect k).useMask = (s.sect k).useMask := hab.sect.useMask
  have henter : ∀ i, s.RunsIn k i → (s.engine (k * 32 + i)).Abandoned ((s.sectAbandon k).engine (k * 32 + i)) ∧
      Engine.Entered (s.reg (.SEC_ENTRY k)) ((s.sectAbandon k).engine (k * 32 + i)) (((s.sectAbandon k).sectEnter k).engine (k * 32 + i)) := by
    rintro i ⟨⟨hi, hu⟩, hl, hf⟩
    have hm := s.sectAbandon_engine (k := k) hi
    have he := State.sectEnter_engine (s := s.sectAbandon k) hk hi (by rw [hmask]; exact hu) (hm.locked.trans hl) (hm.fenced.trans hf)
    rw [hent] at he
    exact ⟨hm, he⟩
  refine ⟨fun i hi => ?_, fun i hi hb => ?_⟩
  · obtain ⟨hm, he⟩ := henter i hi
    have h := he.began
    unfold Engine.Began at h ⊢
    rwa [hm.rs] at h
  · obtain ⟨hm, he⟩ := henter i hi
    exact he.atRest hm hb

theorem Spares.quiet (s : State) : Spares (sparedRegs k) s (((s.sectAbandon k).sectStopIssue k).dropHalts k) :=
  (((Spares.refl _ s).sectAbandon sparedRegs_apart).sectStopIssue sparedRegs_apart).dropHalts sparedRegs_apart

theorem State.sectStop_reg {r : Reg} (s : State) (hr : r.ofTurn k = true) :
    (s.sectStop k).reg r = (s.setF (.SEC_STATE k) F.SEC_STATE_STATE 3).reg r := by
  have hq := Spares.quiet (k := k) s
  rw [State.sectStop, State.modSect, State.reg_setSect, State.reg_setF, State.reg_setF, hq.turnReg hr, hq.turnReg Reg.ofTurn_state]

theorem State.sectStop_reg_ne {r : Reg} (s : State) (hr : r.ofTurn k = true) (hne : r ≠ .SEC_STATE k) : (s.sectStop k).reg r = s.reg r :=
  (s.sectStop_reg hr).trans (State.reg_setF_ne hne)

theorem State.sectStop_atStop (s : State) : (s.sectStop k).AtStop k := by
  refine ⟨?_, fun i hi => s.sectStop_engine hi⟩
  rw [State.sectState, State.getF, s.sectStop_reg Reg.ofTurn_state]
  exact State.getF_setF_self s _ _ _ (by decide)

end

section

variable {w u : State} {k cyc : Nat} {b : Word} {fin : Bool}

/-! ## What a section reports (R73) -/

/-- The report of a running section; the count of consecutive overruns ends where it has finished and was not halted. -/
def State.reported (s : State) (k cyc : Nat) (fin : Bool) : State :=
  if fin && !(s.sect k).dbgHalted then (s.sectReport k cyc fin).setF (.SEC_OVERRUN k) F.SEC_OVERRUN_CONSEC 0 else s.sectReport k cyc fin

/-- From w to u, section k has reported the beat just ended. -/
structure State.Reported (w u : State) (k cyc : Nat) (fin : Bool) : Prop where
  engine : u.engine = w.engine
  ch : u.ch = w.ch
  hoff : u.reg .QM_HOFF = w.reg .QM_HOFF
  useMask : (u.sect k).useMask = (w.sect k).useMask
  startAt : (u.sect k).startAt = (w.sect k).startAt
  stopAt : (u.sect k).stopAt = (w.sect k).stopAt
  dbgHalted : (u.sect k).dbgHalted = (w.sect k).dbgHalted
  state : u.reg (.SEC_STATE k) = w.reg (.SEC_STATE k)
  entry : u.reg (.SEC_ENTRY k) = w.reg (.SEC_ENTRY k)
  frame : u.reg (.SEC_FRAME k) = w.reg (.SEC_FRAME k)
  slack : u.reg (.SEC_SLACK k) = setBit (put 17 0 (min 0x3FFFF (if fin then (w.sect k).endCyc else cyc))) 35 fin
  stall : u.reg (.SEC_STALL k) = setFld (setBit (put 22 19 (w.sect k).expired) 18 (w.sect k).sched) 17 0 (min 0x3FFFF (w.sect k).stallCyc)

theorem cap_eq_min (n : Nat) : (if n ≤ 0x3FFFF then n else 0x3FFFF) = min 0x3FFFF n := by
  split <;> omega

theorem State.sectReport_reg_ne {r : Reg} (s : State) (h1 : r ≠ .SEC_STALL k) (h2 : r ≠ .SEC_SLACK k) : (s.sectReport k cyc fin).reg r = s.reg r := by
  rw [State.sectReport, State.modSect, State.reg_setSect, State.reg_setReg, if_neg h2, State.reg_setReg, if_neg h1]

theorem State.sectReport_sect (s : State) : (s.sectReport k cyc fin).sect k =
    { s.sect k with stalls := [], stallCyc := 0, sched := false, expired := 0, laneExpired := [], endCyc := 0, pushCnt := 0 } := by
  rw [State.sectReport, State.modSect, State.sect_setSect, if_pos rfl, State.sect_setReg, State.sect_setReg]

theorem State.sectReport_engine (s : State) : (s.sectReport k cyc fin).engine = s.engine :=
  funext fun n => by rw [State.sectReport, State.modSect, State.engine_setSect, State.engine_setReg, State.engine_setReg]

theorem State.sectReport_ch (s : State) : (s.sectReport k cyc fin).ch = s.ch :=
  funext fun n => by rw [State.sectReport, State.modSect, State.ch_setSect, State.ch_setReg, State.ch_setReg]

theorem State.sectReport_reported (s : State) : s.Reported (s.sectReport k cyc fin) k cyc fin := by
  have hsect := s.sectReport_sect (k := k) (cyc := cyc) (fin := fin)
  refine ⟨s.sectReport_engine, s.sectReport_ch, s.sectReport_reg_ne nofun nofun, ?_, ?_, ?_, ?_, s.sectReport_reg_ne nofun nofun, s.sectReport_reg_ne nofun nofun,
    s.sectReport_reg_ne nofun nofun, ?_, ?_⟩
  · rw [hsect]
  · rw [hsect]
  · rw [hsect]
  · rw [hsect]
  · rw [State.sectReport, State.modSect, State.reg_setSect, State.reg_setReg, if_pos rfl]
    dsimp only
    rw [cap_eq_min]
  · rw [State.sectReport, State.modSect, State.reg_setSect, State.reg_setReg, if_neg nofun, State.reg_setReg, if_pos rfl]
    dsimp only
    rw [cap_eq_min]

theorem State.Reported.setOverrun {f : Nat × Nat} {v : Nat} (h : w.Reported u k cyc fin) : w.Reported (u.setF (.SEC_OVERRUN k) f v) k cyc fin := by
  have hreg : ∀ r, r ≠ .SEC_OVERRUN k → (u.setF (.SEC_OVERRUN k) f v).reg r = u.reg r := fun r hr => State.reg_setF_ne hr
  have hsect : (u.setF (.SEC_OVERRUN k) f v).sect k = u.sect k := State.sect_setReg ..
  have heng : (u.setF (.SEC_OVERRUN k) f v).engine = u.engine := funext fun n => State.engine_setReg ..
  have hch : (u.setF (.SEC_OVERRUN k) f v).ch = u.ch := funext fun c => State.ch_setReg ..
  exact ⟨heng.trans h.engine, hch.trans h.ch, (hreg .QM_HOFF nofun).trans h.hoff, (congrArg Section.useMask hsect).trans h.useMask,
    (congrArg Section.startAt hsect).trans h.startAt, (congrArg Section.stopAt hsect).trans h.stopAt,
    (congrArg Section.dbgHalted hsect).trans h.dbgHalted, (hreg (.SEC_STATE k) nofun).trans h.state,
    (hreg (.SEC_ENTRY k) nofun).trans h.entry, (hreg (.SEC_FRAME k) nofun).trans h.frame, (hreg (.SEC_SLACK k) nofun).trans h.slack, (hreg (.SEC_STALL k) nofun).trans h.stall⟩

theorem State.reported_reported (w : State) : w.Reported (w.reported k cyc fin) k cyc fin := by
  unfold State.reported
  split
  · exact w.sectReport_reported.setOverrun
  · exact w.sectReport_reported

theorem State.reported_count (w : State) : (w.reported k cyc fin).getF (.SEC_OVERRUN k) F.SEC_OVERRUN_COUNT = w.getF (.SEC_OVERRUN k) F.SEC_OVERRUN_COUNT := by
  have hrep := w.sectReport_reg_ne (k := k) (cyc := cyc) (fin := fin) (r := .SEC_OVERRUN k) nofun nofun
  unfold State.reported
  split
  · rw [State.getF_setF_ne _ _ _ _ _ _ (.inr (.inl (by decide))), State.getF, hrep, State.getF]
  · rw [State.getF, hrep, State.getF]

theorem State.reported_consec (w : State) : (w.reported k cyc fin).getF (.SEC_OVERRUN k) F.SEC_OVERRUN_CONSEC =
    if fin && !(w.sect k).dbgHalted then 0 else w.getF (.SEC_OVERRUN k) F.SEC_OVERRUN_CONSEC := by
  have hrep := w.sectReport_reg_ne (k := k) (cyc := cyc) (fin := fin) (r := .SEC_OVERRUN k) nofun nofun
  unfold State.reported
  split
  · rw [State.getF_setF_self _ _ _ _ (by decide)]
    rfl
  · rw [State.getF, hrep, State.getF]

/-- A running section at a boundary. -/
theorem State.sectRunning_eq (w : State) : w.sectRunning k cyc b =
    if (w.sect k).stopAt = some b then (w.reported k cyc (w.sectFinished k)).sectStop k
    else if w.anyHalted k then w.reported k cyc (w.sectFinished k)
    else if (w.sect k).dbgHalted then ((w.reported k cyc (w.sectFinished k)).sectAbandon k).sectEnter k
    else if w.sectFinished k then (w.reported k cyc (w.sectFinished k)).sectEnter k
    else (w.reported k cyc (w.sectFinished k)).sectOverrun k := by
  have hr := w.reported_reported (k := k) (cyc := cyc) (fin := w.sectFinished k)
  have hdef : (if (w.sectFinished k && !((w.sectReport k cyc (w.sectFinished k)).sect k).dbgHalted) = true then
      (w.sectReport k cyc (w.sectFinished k)).setF (.SEC_OVERRUN k) F.SEC_OVERRUN_CONSEC 0 else w.sectReport k cyc (w.sectFinished k)) =
      w.reported k cyc (w.sectFinished k) := by
    rw [State.sectReport_sect]
    rfl
  unfold State.sectRunning
  dsimp only
  rw [hdef]
  have hhalt : (w.reported k cyc (w.sectFinished k)).anyHalted k = w.anyHalted k := by rw [State.anyHalted, State.anyHalted, hr.engine]
  rw [hr.stopAt, hhalt, hr.dbgHalted]

/-! ## Overruns (R69, R71) -/

/-- A section counts and signals an overrun. -/
def State.overruns (s : State) (k : Nat) : State :=
  let r := Reg.SEC_OVERRUN k
  let s := s.setF r F.SEC_OVERRUN_COUNT (s.getF r F.SEC_OVERRUN_COUNT + 1)
  let s := s.incF r F.SEC_OVERRUN_CONSEC
  ((s.setB (.SEC_STATE k) F.SEC_STATE_OVR true).fireSource F.DBG_GONG_SRC_OVR).logEvt 2 k

/-- Its channels are parked where it stops. -/
def State.parkOwned (s : State) (k : Nat) : State := s.forChannels (fun _ x => ownedBy k x) (fun st c => st.glvPark c 0x1B)

theorem State.sectOverrun_eq (s : State) : s.sectOverrun k =
    if (s.overruns k).getF (.SEC_FRAME k) F.SEC_FRAME_OVR_LIMIT ≠ 0 ∧
      (s.overruns k).getF (.SEC_FRAME k) F.SEC_FRAME_OVR_LIMIT ≤ (s.overruns k).getF (.SEC_OVERRUN k) F.SEC_OVERRUN_CONSEC then
      (((s.overruns k).sectStop k).setB (.SEC_STATE k) F.SEC_STATE_OSTOP true).parkOwned k
    else ((s.overruns k).sectAbandon k).sectEnter k := rfl

end

section

variable {q : Spared} {a s t y w u : State} {k c : Nat} {b : Word}

theorem State.Began.congr (h : s.Began y k) (he : s.engine = a.engine) (hm : (s.sect k).useMask = (a.sect k).useMask)
    (hr : s.reg (.SEC_ENTRY k) = a.reg (.SEC_ENTRY k)) : a.Began y k := by
  unfold State.Began State.RunsIn at h ⊢
  rwa [he, hm, hr] at h

theorem State.Restarted.congr (h : s.Restarted y k) (he : s.engine = a.engine) (hm : (s.sect k).useMask = (a.sect k).useMask)
    (hr : s.reg (.SEC_ENTRY k) = a.reg (.SEC_ENTRY k)) : a.Restarted y k := by
  unfold State.Restarted State.Began State.RunsIn at h ⊢
  rwa [he, hm, hr] at h

/-! ## The channels of a section that stops at the limit of its overruns -/

/-- Whether it enters PARKED or fails the comparison, a channel that is to be parked leaves service (R71, R132). -/
theorem State.glvPark_out (s : State) (c cause : Nat) : 2 ≤ ((s.glvPark c cause).ch c).g0.state := by
  have henter : ∀ (u : State) (trip : Bool) (cause act : Nat), 2 ≤ ((u.glvEnter c trip cause act).ch c).g0.state := by
    intro u trip cause act
    rw [State.glvEnter_ch, State.chEntered_state]
    split <;> decide
  unfold State.glvPark State.glvUse State.glvCompare
  dsimp only
  split
  · exact henter _ _ _ _
  · exact henter _ _ _ _

/-- In a fold whose steps spare what q names, x takes its turn in a state spared so far, and what it leaves is spared from there on. -/
theorem Spares.exists_step {f : State → Nat → State} {l : List Nat} {x : Nat} (hx : x ∈ l) (hf : ∀ st y, Spares q st (f st y)) (s : State) :
    ∃ st, Spares q s st ∧ Spares q (f st x) (l.foldl f s) := by
  obtain ⟨l1, l2, rfl⟩ := List.append_of_mem hx
  refine ⟨l1.foldl f s, .foldl (fun st y hst => hst.trans (hf st y)) (.refl q s), ?_⟩
  rw [List.foldl_append, List.foldl_cons]
  exact .foldl (fun st y hst => hst.trans (hf st y)) (.refl q _)

theorem State.mem_channels_of_owned (h : ownedBy k (s.ch c) = true) : c ∈ s.channels := by
  by_contra hc
  rw [State.ch, SMap.get_of_not_mem hc] at h
  have howner : Chan.reset.g0.owner = 255 := by decide
  rw [ownedBy, howner] at h
  exact absurd h nofun

theorem Spares.parkOwned (h : Spares q a s) : Spares q a (s.parkOwned k) := h.forChannels (fun _ _ hst _ => hst.glvPark)

theorem State.parkOwned_out (hidle : s.hoffIdle) (hrun : s.running k = false) (hown : ownedBy k (s.ch c) = true) :
    2 ≤ ((s.parkOwned k).ch c).g0.state := by
  obtain ⟨st, hst, hturn⟩ := Spares.exists_step (q := sparedRegs k) (State.mem_channels_of_owned hown)
    (f := fun st c => if ownedBy k (st.ch c) = true then st.glvPark c 0x1B else st)
    (fun st c => .ite (fun _ => (Spares.refl _ st).glvPark) (fun _ => .refl _ st)) s
  obtain ⟨hidle', hch⟩ := hst.chan hidle
  have hown' : ownedBy k (st.ch c) = true := by rw [ownedBy_congr (hch c).1, hown]
  rw [if_pos hown'] at hturn
  have hpark : Spares (sparedRegs k) st (st.glvPark c 0x1B) := (Spares.refl _ st).glvPark
  obtain ⟨hidle'', hch'⟩ := hpark.chan hidle'
  refine ((hturn.chan hidle'').2 c).2 ?_ ?_ (st.glvPark_out c 0x1B)
  · exact (hpark.running.trans hst.running).trans hrun
  · exact (ownedBy_congr (hch' c).1 k).trans hown'

/-! ## An overrun -/

/-- The registers that an overrun counts in. -/
def State.overrunCounted (s : State) (k : Nat) : State :=
  ((s.setF (.SEC_OVERRUN k) F.SEC_OVERRUN_COUNT (s.getF (.SEC_OVERRUN k) F.SEC_OVERRUN_COUNT + 1)).incF (.SEC_OVERRUN k) F.SEC_OVERRUN_CONSEC).setB
    (.SEC_STATE k) F.SEC_STATE_OVR true

theorem Spares.overruns (s : State) : Spares q (s.overrunCounted k) (s.overruns k) := (Spares.refl _ (s.overrunCounted k)).fireSource.logEvt

theorem State.overrunCounted_reg_ne {r : Reg} (s : State) (h : r ≠ .SEC_OVERRUN k) (h' : r ≠ .SEC_STATE k) : (s.overrunCounted k).reg r = s.reg r :=
  (State.reg_setB_ne h').trans ((State.reg_incF_ne h).trans (State.reg_setF_ne h))

theorem State.overrunCounted_engine (s : State) : (s.overrunCounted k).engine = s.engine :=
  funext fun n => by
    rw [State.overrunCounted, State.setB, State.setF, State.engine_setReg, State.incF, State.setF, State.engine_setReg, State.setF, State.engine_setReg]

theorem State.overrunCounted_sect (s : State) : (s.overrunCounted k).sect k = s.sect k := by
  rw [State.overrunCounted, State.setB, State.setF, State.sect_setReg, State.incF, State.setF, State.sect_setReg, State.setF, State.sect_setReg]

theorem State.overrunCounted_ch (s : State) (c : Nat) : (s.overrunCounted k).ch c = s.ch c := by
  rw [State.overrunCounted, State.setB, State.setF, State.ch_setReg, State.incF, State.setF, State.ch_setReg, State.setF, State.ch_setReg]

theorem State.overruns_reg_ne {r : Reg} (s : State) (hr : r.ofTurn k = true) (h : r ≠ .SEC_OVERRUN k) (h' : r ≠ .SEC_STATE k) :
    (s.overruns k).reg r = s.reg r :=
  ((Spares.overruns (q := sparedRegs k) s).turnReg hr).trans (s.overrunCounted_reg_ne h h')

theorem State.overruns_count (s : State) : (s.overruns k).getF (.SEC_OVERRUN k) F.SEC_OVERRUN_COUNT =
    (s.getF (.SEC_OVERRUN k) F.SEC_OVERRUN_COUNT + 1) % 2 ^ 32 := by
  rw [(Spares.overruns (q := sparedRegs k) s).turnF Reg.ofTurn_overrun, State.overrunCounted, State.setB, State.incF,
    State.getF_setF_ne _ _ _ _ _ _ (.inl (by nofun)), State.getF_setF_ne _ _ _ _ _ _ (.inr (.inl (by decide))), State.getF_setF_self _ _ _ _ (by decide)]
  rfl

theorem State.overruns_consec (s : State) : (s.overruns k).getF (.SEC_OVERRUN k) F.SEC_OVERRUN_CONSEC =
    min 15 (s.getF (.SEC_OVERRUN k) F.SEC_OVERRUN_CONSEC + 1) := by
  rw [(Spares.overruns (q := sparedRegs k) s).turnF Reg.ofTurn_overrun, State.overrunCounted, State.setB, State.incF,
    State.getF_setF_ne _ _ _ _ _ _ (.inl (by nofun)), State.getF_setF_self _ _ _ _ (by decide), State.getF_setF_ne _ _ _ _ _ _ (.inr (.inr (by decide))),
    satAdd_eq_min]
  exact Nat.mod_eq_of_lt (Nat.lt_of_le_of_lt (Nat.min_le_left _ _) (by decide))

theorem State.overruns_state (s : State) : (s.overruns k).sectState k = s.sectState k ∧ (s.overruns k).getB (.SEC_STATE k) F.SEC_STATE_OVR = true := by
  have h := Spares.overruns (q := sparedRegs k) (k := k) s
  constructor
  · rw [h.sectState, State.overrunCounted, State.sectState, State.setB, State.getF_setF_ne _ _ _ _ _ _ (.inr (.inl (by decide))),
      State.getF, State.reg_incF_ne (by nofun), State.reg_setF_ne (by nofun)]
    rfl
  · rw [h.turnB Reg.ofTurn_state, State.overrunCounted]
    exact State.getB_setB_self _ _ _ _ (by decide)

/-- The limit of R71 is reached. -/
def State.atLimit (s : State) (k : Nat) : Prop :=
  s.getF (.SEC_FRAME k) F.SEC_FRAME_OVR_LIMIT ≠ 0 ∧
    s.getF (.SEC_FRAME k) F.SEC_FRAME_OVR_LIMIT ≤ min 15 (s.getF (.SEC_OVERRUN k) F.SEC_OVERRUN_CONSEC + 1)

/-- A section that stops at its limit: STOPPED with OSTOP. -/
def State.limitStop (s : State) (k : Nat) : State := ((s.overruns k).sectStop k).setB (.SEC_STATE k) F.SEC_STATE_OSTOP true

theorem State.sectOverrun_eq_ite (s : State) (k : Nat) [Decidable (s.atLimit k)] :
    s.sectOverrun k = if s.atLimit k then (s.limitStop k).parkOwned k else ((s.overruns k).sectAbandon k).sectEnter k := by
  have hframe : (s.overruns k).getF (.SEC_FRAME k) F.SEC_FRAME_OVR_LIMIT = s.getF (.SEC_FRAME k) F.SEC_FRAME_OVR_LIMIT := by
    rw [State.getF, s.overruns_reg_ne Reg.ofTurn_frame nofun nofun, State.getF]
  rw [State.sectOverrun_eq, hframe, s.overruns_consec]
  exact if_congr Iff.rfl rfl rfl

theorem State.limitStop_reg_ne {r : Reg} (s : State) (hr : r.ofTurn k = true) (h' : r ≠ .SEC_STATE k) :
    (s.limitStop k).reg r = (s.overruns k).reg r :=
  (State.reg_setB_ne h').trans ((s.overruns k).sectStop_reg_ne hr h')

theorem State.limitStop_atStop (s : State) : (s.limitStop k).AtStop k := by
  obtain ⟨hst, heng⟩ := (s.overruns k).sectStop_atStop (k := k)
  refine ⟨?_, fun i hi => ?_⟩
  · rw [State.limitStop, State.sectState, State.setB, State.getF_setF_ne _ _ _ _ _ _ (.inr (.inl (by decide)))]
    exact hst
  · rw [State.limitStop, State.setB, State.setF, State.engine_setReg]
    exact heng i hi

theorem State.limitStop_ostop (s : State) : (s.limitStop k).getB (.SEC_STATE k) F.SEC_STATE_OSTOP = true :=
  State.getB_setB_self _ _ _ _ (by decide)

theorem State.limitStop_ovr (s : State) : (s.limitStop k).getB (.SEC_STATE k) F.SEC_STATE_OVR = true := by
  have h := s.overruns_state (k := k).2
  rw [State.limitStop, F.SEC_STATE_OVR, F.SEC_STATE_OSTOP, State.getB_setB_same _ _ _ (by decide), if_neg (by decide), State.getB,
    (s.overruns k).sectStop_reg Reg.ofTurn_state, State.reg_setF, if_pos rfl]
  dsimp only
  rw [bit_setFld (by decide), if_neg (by decide)]
  exact h

theorem State.hoffIdle_of_reg (h : t.reg .QM_HOFF = s.reg .QM_HOFF) (hs : s.hoffIdle) : t.hoffIdle := by
  unfold State.hoffIdle State.getF at hs ⊢
  rwa [h]

/-- Stopping at the limit leaves the owners of the channels while no handoff is armed. -/
theorem State.limitStop_owner (s : State) (hidle : s.hoffIdle) :
    (s.limitStop k).hoffIdle ∧ ∀ c, ((s.limitStop k).ch c).g0.owner = (s.ch c).g0.owner := by
  have hquiet := (Spares.overruns (q := sparedRegs k) (k := k) s).trans (Spares.quiet (s.overruns k))
  obtain ⟨hidle', hch⟩ := hquiet.chan (State.hoffIdle_of_reg (s.overrunCounted_reg_ne nofun nofun) hidle)
  refine ⟨State.hoffIdle_of_reg ?_ hidle', fun c => ?_⟩
  · rw [State.limitStop, State.reg_setB_ne (by nofun), State.sectStop, State.modSect, State.reg_setSect, State.reg_setF_ne (by nofun)]
  · rw [State.limitStop, State.setB, State.setF, State.ch_setReg, State.sectStop, State.modSect, State.ch_setSect, State.setF, State.ch_setReg, (hch c).1,
      State.overrunCounted_ch]

/-- What the limit leaves of the registers of a section, the overrun leaves. -/
theorem State.sectOverrun_reg_ne {r : Reg} (s : State) (hr : r.ofTurn k = true) (h' : r ≠ .SEC_STATE k) :
    (s.sectOverrun k).reg r = (s.overruns k).reg r := by
  classical
  rw [s.sectOverrun_eq_ite]
  split
  · exact ((Spares.refl (sparedRegs k) _).parkOwned.turnReg hr).trans (s.limitStop_reg_ne hr h')
  · exact (((Spares.refl (sparedRegs k) _).sectAbandon sparedRegs_apart).sectEnter sparedRegs_apart).turnReg hr

theorem State.sectOverrun_restarts (s : State) (hk : k < 6) (h : ¬ s.atLimit k) : s.Restarted (s.sectOverrun k) k ∧
    (s.sectOverrun k).reg (.SEC_STATE k) = (s.overruns k).reg (.SEC_STATE k) := by
  classical
  rw [s.sectOverrun_eq_ite, if_neg h]
  refine ⟨?_, (((Spares.refl (sparedRegs k) _).sectAbandon sparedRegs_apart).sectEnter sparedRegs_apart).turnReg Reg.ofTurn_state⟩
  have hres := ((s.overruns k).abandon_restarted hk).of_spares (Spares.overruns (q := sparedSect k true false) s)
  exact hres.congr s.overrunCounted_engine (congrArg Section.useMask s.overrunCounted_sect) (s.overrunCounted_reg_ne nofun nofun)

end

section

variable {s t w : State} {k c cyc : Nat} {b : Word}

theorem State.getF_of_reg {r : Reg} (h : t.reg r = s.reg r) (f : Nat × Nat) : t.getF r f = s.getF r f := by
  rw [State.getF, State.getF, h]

theorem State.getB_of_reg {r : Reg} (h : t.reg r = s.reg r) (f : Nat × Nat) : t.getB r f = s.getB r f := by
  rw [State.getB, State.getB, h]

theorem State.sectState_of_reg (h : t.reg (.SEC_STATE k) = s.reg (.SEC_STATE k)) : t.sectState k = s.sectState k := State.getF_of_reg h _

/-! ## A running section (R68 to R73, R453, R455, R489) -/

/-- t follows the turn of section k, which runs in w. -/
def State.TurnLeads (w t : State) (k cyc : Nat) (b : Word) : Prop := Spares (sparedSect k false false) (w.sectRunning k cyc b) t

/-- Every register of section k reads as section k reported it. -/
def State.ReadsReport (w t : State) (k cyc : Nat) : Prop :=
  ∀ r : Reg, r.ofTurn k = true → t.reg r = (w.reported k cyc (w.sectFinished k)).reg r

theorem Spares.restart (s : State) : Spares (sparedRegs k) s ((s.sectAbandon k).sectEnter k) :=
  ((Spares.refl _ s).sectAbandon sparedRegs_apart).sectEnter sparedRegs_apart

/-- No branch writes the registers of R73 again. -/
theorem State.sectRunning_report {r : Reg} (w : State) (hr : r = .SEC_SLACK k ∨ r = .SEC_STALL k) :
    (w.sectRunning k cyc b).reg r = (w.reported k cyc (w.sectFinished k)).reg r := by
  obtain ⟨hof, hst, hov⟩ : r.ofTurn k = true ∧ r ≠ .SEC_STATE k ∧ r ≠ .SEC_OVERRUN k := by
    rcases hr with rfl | rfl
    · exact ⟨Reg.ofTurn_slack, nofun, nofun⟩
    · exact ⟨Reg.ofTurn_stall, nofun, nofun⟩
  rw [State.sectRunning_eq]
  generalize w.reported k cyc (w.sectFinished k) = u
  split
  · exact u.sectStop_reg_ne hof hst
  split
  · rfl
  split
  · exact (Spares.restart u).turnReg hof
  split
  · exact ((Spares.refl (sparedRegs k) u).sectEnter sparedRegs_apart).turnReg hof
  · exact (u.sectOverrun_reg_ne hof hst).trans (u.overruns_reg_ne hof hov hst)

theorem State.atLimit_reported : (w.reported k cyc false).atLimit k ↔ w.atLimit k := by
  have hrep := w.reported_reported (k := k) (cyc := cyc) (fin := false)
  rw [State.atLimit, State.atLimit, State.getF_of_reg hrep.frame, State.reported_consec]
  rfl

section
variable (ht : w.TurnLeads t k cyc b)
include ht

theorem State.TurnLeads.report {r : Reg} (hr : r = .SEC_SLACK k ∨ r = .SEC_STALL k) :
    t.reg r = (w.reported k cyc (w.sectFinished k)).reg r := by
  have hof : r.ofTurn k = true := by
    rcases hr with rfl | rfl
    · exact Reg.ofTurn_slack
    · exact Reg.ofTurn_stall
  exact (Spares.turnReg ht hof).trans (w.sectRunning_report hr)

theorem State.TurnLeads.stops (hstop : (w.sect k).stopAt = some b) :
    t.AtStop k ∧ t.reg (.SEC_OVERRUN k) = (w.reported k cyc (w.sectFinished k)).reg (.SEC_OVERRUN k) := by
  unfold State.TurnLeads at ht
  rw [State.sectRunning_eq, if_pos hstop] at ht
  exact ⟨(State.sectStop_atStop _).spares ht, (ht.turnReg Reg.ofTurn_overrun).trans (State.sectStop_reg_ne _ Reg.ofTurn_overrun nofun)⟩

variable (hstop : (w.sect k).stopAt ≠ some b)
include hstop

theorem State.TurnLeads.waits (hhalt : w.anyHalted k = true) : w.ReadsReport t k cyc := by
  unfold State.TurnLeads at ht
  rw [State.sectRunning_eq, if_neg hstop, if_pos hhalt] at ht
  exact fun r hr => ht.turnReg hr

variable (hhalt : w.anyHalted k = false)
include hhalt

theorem State.TurnLeads.resumes (hk : k < 6) (hdbg : (w.sect k).dbgHalted = true) : w.Restarted t k ∧ w.ReadsReport t k cyc := by
  unfold State.TurnLeads at ht
  rw [State.sectRunning_eq, if_neg hstop, hhalt, if_neg Bool.false_ne_true, if_pos hdbg] at ht
  have hrep := w.reported_reported (k := k) (cyc := cyc) (fin := w.sectFinished k)
  have hres := (State.abandon_restarted _ hk).spares ht
  exact ⟨hres.congr hrep.engine hrep.useMask hrep.entry, fun r hr => (ht.turnReg hr).trans ((Spares.restart _).turnReg hr)⟩

variable (hdbg : (w.sect k).dbgHalted = false)
include hdbg

theorem State.TurnLeads.enters (hk : k < 6) (hfin : w.sectFinished k = true) : w.Began t k ∧ w.ReadsReport t k cyc := by
  unfold State.TurnLeads at ht
  rw [State.sectRunning_eq, if_neg hstop, hhalt, if_neg Bool.false_ne_true, hdbg, if_neg Bool.false_ne_true, if_pos hfin] at ht
  have hrep := w.reported_reported (k := k) (cyc := cyc) (fin := w.sectFinished k)
  have hbeg := (State.sectEnter_began _ hk).spares ht
  exact ⟨hbeg.congr hrep.engine hrep.useMask hrep.entry,
    fun r hr => (ht.turnReg hr).trans (((Spares.refl (sparedRegs k) _).sectEnter sparedRegs_apart).turnReg hr)⟩

variable (hfin : w.sectFinished k = false)
include hfin

theorem State.TurnLeads.overruns : Spares (sparedSect k false false) ((w.reported k cyc false).sectOverrun k) t := by
  unfold State.TurnLeads at ht
  rwa [State.sectRunning_eq, if_neg hstop, hhalt, if_neg Bool.false_ne_true, hdbg, if_neg Bool.false_ne_true, hfin, if_neg Bool.false_ne_true] at ht

/-- It counts. -/
theorem State.TurnLeads.counts : t.getF (.SEC_OVERRUN k) F.SEC_OVERRUN_COUNT = (w.getF (.SEC_OVERRUN k) F.SEC_OVERRUN_COUNT + 1) % 2 ^ 32 ∧
    t.getF (.SEC_OVERRUN k) F.SEC_OVERRUN_CONSEC = min 15 (w.getF (.SEC_OVERRUN k) F.SEC_OVERRUN_CONSEC + 1) := by
  have ho := ht.overruns hstop hhalt hdbg hfin
  have hreg := (Spares.turnReg ho (j := k) Reg.ofTurn_overrun).trans (State.sectOverrun_reg_ne _ Reg.ofTurn_overrun nofun)
  rw [State.getF_of_reg hreg, State.getF_of_reg hreg, State.overruns_count, State.overruns_consec, State.reported_count, State.reported_consec]
  exact ⟨rfl, rfl⟩

/-- At the limit it stops, and its channels are parked. -/
theorem State.TurnLeads.limit (hlim : w.atLimit k) : t.AtStop k ∧ t.getB (.SEC_STATE k) F.SEC_STATE_OVR = true ∧
    t.getB (.SEC_STATE k) F.SEC_STATE_OSTOP = true ∧ ∀ c, w.hoffIdle → ownedBy k (w.ch c) = true → 2 ≤ (t.ch c).g0.state := by
  classical
  have ho := ht.overruns hstop hhalt hdbg hfin
  have hrep := w.reported_reported (k := k) (cyc := cyc) (fin := false)
  have hlim' : (w.reported k cyc false).atLimit k := State.atLimit_reported.mpr hlim
  rw [State.sectOverrun_eq_ite, if_pos hlim'] at ho
  generalize hu : w.reported k cyc false = u at hrep ho
  have hpark : Spares (sparedSect k false false) (u.limitStop k) t := (Spares.refl _ _).parkOwned.trans ho
  refine ⟨u.limitStop_atStop.spares hpark, ?_, ?_, fun c hidle hown => ?_⟩
  · exact (Spares.turnB hpark (j := k) Reg.ofTurn_state).trans u.limitStop_ovr
  · exact (Spares.turnB hpark (j := k) Reg.ofTurn_state).trans u.limitStop_ostop
  · obtain ⟨hidle', howner⟩ := u.limitStop_owner (k := k) (State.hoffIdle_of_reg hrep.hoff hidle)
    have hrun : (u.limitStop k).running k = false := by rw [State.running, u.limitStop_atStop.1]; rfl
    have hown' : ownedBy k ((u.limitStop k).ch c) = true := by rw [ownedBy_congr (howner c), hrep.ch, hown]
    obtain ⟨hidleP, hchP⟩ := (Spares.refl (sparedSect k false false) (u.limitStop k)).parkOwned (k := k) |>.chan hidle'
    have hrunP := ((Spares.refl (sparedSect k false false) (u.limitStop k)).parkOwned (k := k)).running
    refine ((ho.chan hidleP).2 c).2 (hrunP.trans hrun) ?_ (State.parkOwned_out hidle' hrun hown')
    exact (ownedBy_congr (hchP c).1 k).trans hown'

end

end

section

variable {s t w r : State} {k c cyc : Nat} {b : Word}

/-- Below the limit it restarts. -/
theorem State.TurnLeads.again (ht : w.TurnLeads t k cyc b) (hstop : (w.sect k).stopAt ≠ some b) (hhalt : w.anyHalted k = false)
    (hdbg : (w.sect k).dbgHalted = false) (hfin : w.sectFinished k = false) (hk : k < 6) (hlim : ¬ w.atLimit k) :
    w.Restarted t k ∧ t.sectState k = w.sectState k ∧ t.getB (.SEC_STATE k) F.SEC_STATE_OVR = true := by
  have ho := ht.overruns hstop hhalt hdbg hfin
  have hrep := w.reported_reported (k := k) (cyc := cyc) (fin := false)
  obtain ⟨hres, hreg⟩ := (w.reported k cyc false).sectOverrun_restarts hk (fun h => hlim (State.atLimit_reported.mp h))
  obtain ⟨hstate, hovr⟩ := (w.reported k cyc false).overruns_state (k := k)
  have hregt := (Spares.turnReg ho (j := k) Reg.ofTurn_state).trans hreg
  refine ⟨(hres.spares ho).congr hrep.engine hrep.useMask hrep.entry, ?_, ?_⟩
  · rw [State.sectState_of_reg hregt, hstate, State.sectState_of_reg hrep.state]
  · rw [State.getB_of_reg hregt, hovr]

/-- What the report leaves in the counts of overruns. -/
theorem State.ReadsReport.of_overrun (h : t.reg (.SEC_OVERRUN k) = (w.reported k cyc (w.sectFinished k)).reg (.SEC_OVERRUN k)) :
    t.getF (.SEC_OVERRUN k) F.SEC_OVERRUN_COUNT = w.getF (.SEC_OVERRUN k) F.SEC_OVERRUN_COUNT ∧ t.getF (.SEC_OVERRUN k) F.SEC_OVERRUN_CONSEC =
      if w.sectFinished k && !(w.sect k).dbgHalted then 0 else w.getF (.SEC_OVERRUN k) F.SEC_OVERRUN_CONSEC := by
  rw [State.getF_of_reg h, State.getF_of_reg h, State.reported_count, State.reported_consec]
  exact ⟨rfl, rfl⟩

theorem State.ReadsReport.state (h : w.ReadsReport t k cyc) : t.reg (.SEC_STATE k) = w.reg (.SEC_STATE k) :=
  (h _ Reg.ofTurn_state).trans w.reported_reported.state

/-! ## The fields of the report -/

theorem fld_put_full {hi lo v : Nat} (h : hi < 36) (hv : v < 2 ^ (hi + 1 - lo)) : fld (put hi lo v) hi lo = v := by
  rw [put, fld_setFld_self h, Nat.mod_eq_of_lt hv]

theorem slackWord_fields (n : Nat) (fin : Bool) : bit (setBit (put 17 0 (min 0x3FFFF n)) 35 fin) 35 = fin ∧
    fld (setBit (put 17 0 (min 0x3FFFF n)) 35 fin) 17 0 = min 0x3FFFF n :=
  ⟨bit_setBit_self (by decide), (fld_setBit_ne (.inl (by decide))).trans (fld_put_full (by decide) (by omega))⟩

theorem stallWord_fields (x n : Nat) (p : Bool) :
    bit (setFld (setBit (put 22 19 x) 18 p) 17 0 (min 0x3FFFF n)) 18 = p ∧
    fld (setFld (setBit (put 22 19 x) 18 p) 17 0 (min 0x3FFFF n)) 17 0 = min 0x3FFFF n ∧
    (x < 16 → fld (setFld (setBit (put 22 19 x) 18 p) 17 0 (min 0x3FFFF n)) 22 19 = x) := by
  refine ⟨?_, ?_, fun hx => ?_⟩
  · rw [bit_setFld (by decide), if_neg (by decide)]
    exact bit_setBit_self (by decide)
  · rw [fld_setFld_self (by decide)]
    exact Nat.mod_eq_of_lt (by omega)
  · rw [fld_setFld_ne (.inr (by decide)), fld_setBit_ne (.inr (by decide)), fld_put_full (by decide) (by omega)]

/-! ## A section that starts, or that stays as it is (R488) -/

/-- A START waits for boundary b. -/
def State.Due (s : State) (k : Nat) (b : Word) : Prop := (s.sect k).startAt = some b ∧ (s.sectState k = 1 ∨ s.sectState k = 3)

/-- A section that does not run, with its START taken. -/
def State.started (s : State) (k : Nat) : State :=
  let fenced := (List.range 32).any (fun i => bit (s.sect k).useMask i && (s.engine (k * 32 + i)).fenced)
  ((s.setF (.SEC_STATE k) F.SEC_STATE_STATE (if fenced then 4 else 2)).modSect k (fun x => { x with startAt := none })).sectModes k

theorem State.sectStart_eq_ite (s : State) (k : Nat) (b : Word) [Decidable (s.Due k b)] :
    s.sectStart k b = if s.Due k b then s.started k else s := by
  unfold State.sectStart
  exact if_congr Iff.rfl rfl rfl

/-- Before its modes take effect. -/
theorem State.started_spares {q : Spared} (s : State) : Spares q ((s.setF (.SEC_STATE k) F.SEC_STATE_STATE
    (if (List.range 32).any (fun i => bit (s.sect k).useMask i && (s.engine (k * 32 + i)).fenced) then 4 else 2)).modSect k
      (fun x => { x with startAt := none })) (s.started k) := (Spares.refl q _).sectModes

theorem State.started_reg_ne {r : Reg} (s : State) (hr : r.ofTurn k = true) (hne : r ≠ .SEC_STATE k) : (s.started k).reg r = s.reg r := by
  rw [(s.started_spares (q := sparedRegs k)).turnReg hr, State.modSect, State.reg_setSect, State.reg_setF_ne hne]

theorem State.started_state (s : State) : ((s.started k).sectState k = 4 ∨ (s.started k).sectState k = 2) ∧
    ((s.started k).sectState k = 4 ↔ ∃ i, (i < 32 ∧ bit (s.sect k).useMask i = true) ∧ (s.engine (k * 32 + i)).fenced = true) := by
  have hany : (List.range 32).any (fun i => bit (s.sect k).useMask i && (s.engine (k * 32 + i)).fenced) = true ↔
      ∃ i, (i < 32 ∧ bit (s.sect k).useMask i = true) ∧ (s.engine (k * 32 + i)).fenced = true := by
    simp [and_assoc]
  rw [(s.started_spares (q := sparedRegs k)).sectState, State.sectState, State.modSect, State.getF, State.reg_setSect, ← State.getF,
    State.getF_setF_self _ _ _ _ (by decide), ← hany]
  cases (List.range 32).any (fun i => bit (s.sect k).useMask i && (s.engine (k * 32 + i)).fenced)
  · exact ⟨.inr rfl, ⟨nofun, nofun⟩⟩
  · exact ⟨.inl rfl, ⟨fun _ => rfl, fun _ => rfl⟩⟩

theorem State.started_startAt (s : State) : ((s.started k).sect k).startAt = none := by
  refine (s.started_spares (q := sparedRegs k)).sect.startAt.trans ?_
  rw [State.modSect, State.sect_setSect]
  exact congrArg Section.startAt (if_pos rfl)

/-- A section that starts enters the beat at the end of the boundary. -/
theorem State.started_began (s : State) (hk : k < 6) (hr : Spares (sparedSect k false false) (s.started k) r) : s.Began (r.sectEnter k) k := by
  have hbeg := ((r.sectEnter_began hk).of_spares hr).of_spares (s.started_spares (q := sparedSect k true false))
  refine hbeg.congr (funext fun n => ?_) ?_ ?_
  · rw [State.modSect, State.engine_setSect, State.setF, State.engine_setReg]
  · rw [State.modSect, State.sect_setSect, if_pos rfl]
    rfl
  · rw [State.modSect, State.reg_setSect, State.reg_setF_ne (by nofun)]

/-- t ends a boundary at which section k, which does not run in w, had its turn. -/
def State.IdleLeads (w t : State) (k : Nat) (b : Word) : Prop := ∃ r,
  Spares (sparedSect k false false) ((w.sectReport k 0 false).sectStart k b) r ∧
    Spares (sparedSect k false false) (if r.running k then r.sectEnter k else r) t

theorem State.running_iff (s : State) (k : Nat) : s.running k = true ↔ s.sectState k = 2 ∨ s.sectState k = 4 := by
  simp [State.running]

theorem State.sectReport_due : (w.sectReport k 0 false).Due k b ↔ w.Due k b := by
  have hrep := w.sectReport_reported (k := k) (cyc := 0) (fin := false)
  rw [State.Due, State.Due, hrep.startAt, State.sectState_of_reg hrep.state]

/-- Its slack reads 0. -/
theorem State.IdleLeads.slack (h : w.IdleLeads t k b) : t.reg (.SEC_SLACK k) = 0 := by
  classical
  obtain ⟨r, hr, ht⟩ := h
  have hrep := w.sectReport_reported (k := k) (cyc := 0) (fin := false)
  have hzero : (w.sectReport k 0 false).reg (.SEC_SLACK k) = 0 := by
    rw [hrep.slack, if_neg Bool.false_ne_true]
    decide
  have hslack : r.reg (.SEC_SLACK k) = 0 := by
    rw [hr.turnReg (j := k) Reg.ofTurn_slack, State.sectStart_eq_ite]
    split
    · exact (State.started_reg_ne _ Reg.ofTurn_slack nofun).trans hzero
    · exact hzero
  rw [ht.turnReg (j := k) Reg.ofTurn_slack]
  split
  · exact (((Spares.refl (sparedRegs k) r).sectEnter sparedRegs_apart).turnReg Reg.ofTurn_slack).trans hslack
  · exact hslack

/-- A section that is due starts. -/
theorem State.IdleLeads.starts (h : w.IdleLeads t k b) (hk : k < 6) (hdue : w.Due k b) : w.Began t k ∧ (t.sect k).startAt = none ∧
    (t.sectState k = 4 ∨ t.sectState k = 2) ∧
    (t.sectState k = 4 ↔ ∃ i, (i < 32 ∧ bit (w.sect k).useMask i = true) ∧ (w.engine (k * 32 + i)).fenced = true) := by
  classical
  obtain ⟨r, hr, ht⟩ := h
  have hrep := w.sectReport_reported (k := k) (cyc := 0) (fin := false)
  rw [State.sectStart_eq_ite, if_pos (State.sectReport_due.mpr hdue)] at hr
  generalize w.sectReport k 0 false = u at hr hrep
  obtain ⟨hruns, hfenced⟩ := u.started_state (k := k)
  have hrun : r.running k = true := (State.running_iff r k).mpr (by rw [hr.sectState]; exact hruns.symm)
  rw [hrun, if_pos rfl] at ht
  have hent : Spares (sparedRegs k) r (r.sectEnter k) := (Spares.refl _ r).sectEnter sparedRegs_apart
  have hstate : t.sectState k = (u.started k).sectState k := by rw [ht.sectState, hent.sectState, hr.sectState]
  refine ⟨((State.started_began u hk hr).spares ht).congr hrep.engine hrep.useMask hrep.entry, ?_, by rw [hstate]; exact hruns, ?_⟩
  · exact ht.sect.startAt.trans (hent.sect.startAt.trans (hr.sect.startAt.trans u.started_startAt))
  · rw [hstate, hfenced, hrep.useMask, hrep.engine]

/-- Any other keeps its state and its counts. -/
theorem State.IdleLeads.keeps {x : Reg} (h : w.IdleLeads t k b) (hrun : w.running k = false) (hdue : ¬ w.Due k b)
    (hx : x = .SEC_STATE k ∨ x = .SEC_OVERRUN k) : t.reg x = w.reg x := by
  classical
  obtain ⟨r, hr, ht⟩ := h
  obtain ⟨hof, hslack, hstall⟩ : x.ofTurn k = true ∧ x ≠ .SEC_SLACK k ∧ x ≠ .SEC_STALL k := by
    rcases hx with rfl | rfl
    · exact ⟨Reg.ofTurn_state, nofun, nofun⟩
    · exact ⟨Reg.ofTurn_overrun, nofun, nofun⟩
  rw [State.sectStart_eq_ite, if_neg (fun h => hdue (State.sectReport_due.mp h))] at hr
  have hidle : r.running k = false := by
    rw [show r.running k = (w.sectReport k 0 false).running k from hr.running, State.running, State.sectState_of_reg w.sectReport_reported.state]
    exact hrun
  rw [hidle, if_neg Bool.false_ne_true] at ht
  exact (ht.turnReg hof).trans ((hr.turnReg hof).trans (w.sectReport_reg_ne hstall hslack))

end

section

variable {s t w : State} {k : Nat}

/-! ## A boundary, seen from the state in which the beat has closed -/

/-- In w section k takes its turn; from the close of the beat to there it is spared, and t is the boundary that follows. -/
structure State.TurnOf (s w : State) (k : Nat) : Prop where
  before : Spares (sparedSect k true false) s.beatCloses w
  runs : w.running k = true → w.TurnLeads s.boundary k (s.wallCycles (s.beat.length.getD s.beat.period)) s.nextNum
  idle : w.running k = false → w.IdleLeads s.boundary k s.nextNum

theorem State.exists_turnOf (s : State) (hk : k < 6) : ∃ w, s.TurnOf w k := by
  obtain ⟨w, r, hw, hr, ht⟩ := s.boundary_turns hk
  refine ⟨w, hw, fun hrun => ?_, fun hrun => ?_⟩
  · rw [State.sectBoundary, if_pos hrun] at hr
    rw [hrun, Bool.not_true, Bool.false_and, if_neg Bool.false_ne_true] at ht
    exact hr.trans ht
  · rw [State.sectBoundary, hrun, if_neg Bool.false_ne_true] at hr
    rw [hrun, Bool.not_false, Bool.true_and] at ht
    exact ⟨r, hr, ht⟩

theorem Spares.closes (s : State) (k : Nat) : Spares (sparedSect k false true) s s.beatCloses := (Spares.refl _ s).beatCloses rfl

section
variable (h : s.TurnOf w k)
include h

theorem State.TurnOf.reg {r : Reg} (hr : r.ofTurn k = true) : w.reg r = s.reg r :=
  (h.before.turnReg hr).trans ((Spares.closes s k).turnReg hr)

/-- The section as the beat closes; only the count of its crossing accesses may have moved. -/
theorem State.TurnOf.sect : w.sect k = { s.beatCloses.sect k with xqNo := (w.sect k).xqNo } := h.before.sect.all rfl

theorem State.TurnOf.running : w.running k = true ↔ s.sectState k = 2 ∨ s.sectState k = 4 := by
  rw [State.running_iff, State.sectState_of_reg (h.reg Reg.ofTurn_state)]

theorem State.TurnOf.finished : w.sectFinished k = true ↔ ∀ i, s.beatCloses.RunsIn k i → (s.beatCloses.engine (k * 32 + i)).efDone = true := by
  have hdone : ∀ i, i < 32 → (w.engine (k * 32 + i)).efDone = (s.beatCloses.engine (k * 32 + i)).efDone := fun i hi => by
    rw [(h.before.unmoved hi).same]
    rfl
  rw [State.sectFinished, List.all_eq_true]
  constructor
  · intro hall i hi
    obtain ⟨⟨hi32, hu⟩, hl, hf⟩ := h.before.runsIn.mpr hi
    rw [← hdone i hi32]
    exact hall _ (State.mem_runners.mpr ⟨i, hi32, rfl, hu, hl, hf⟩)
  · intro hall n hn
    obtain ⟨i, hi, rfl, hu, hl, hf⟩ := State.mem_runners.mp hn
    rw [hdone i hi]
    exact hall i (h.before.runsIn.mp ⟨⟨hi, hu⟩, hl, hf⟩)

theorem State.TurnOf.halted : w.anyHalted k = true ↔ ∃ i, i < 32 ∧ (s.beatCloses.engine (k * 32 + i)).inHalt = true := by
  have hhalt : ∀ i, i < 32 → (w.engine (k * 32 + i)).inHalt = (s.beatCloses.engine (k * 32 + i)).inHalt := fun i hi => by
    rw [(h.before.unmoved hi).same]
    rfl
  simp only [State.anyHalted, List.any_eq_true, List.mem_range]
  exact exists_congr (fun i => and_congr_right (fun hi => by rw [hhalt i hi]))

theorem State.TurnOf.fenced {i : Nat} (hi : i < 32) : (w.engine (k * 32 + i)).fenced = (s.engine (k * 32 + i)).fenced := by
  rw [(h.before.unmoved hi).same, ((Spares.closes s k).unmoved hi).same]
  rfl

theorem State.TurnOf.useMask : (w.sect k).useMask = (s.beatCloses.sect k).useMask := h.before.sect.useMask

theorem State.TurnOf.atLimit : w.atLimit k ↔ s.atLimit k := by
  rw [State.atLimit, State.atLimit, State.getF_of_reg (h.reg Reg.ofTurn_frame), State.getF_of_reg (h.reg Reg.ofTurn_overrun)]

theorem State.TurnOf.due {b : Word} : w.Due k b ↔ (s.beatCloses.sect k).startAt = some b ∧ (s.sectState k = 1 ∨ s.sectState k = 3) := by
  have hstart : (w.sect k).startAt = (s.beatCloses.sect k).startAt := h.before.sect.startAt
  rw [State.Due, State.sectState_of_reg (h.reg Reg.ofTurn_state), hstart]

/-- A channel that the section owns while no handoff is armed. -/
theorem State.TurnOf.owned {c : Nat} (hidle : s.hoffIdle) (hown : ownedBy k (s.ch c) = true) : w.hoffIdle ∧ ownedBy k (w.ch c) = true := by
  obtain ⟨hidle', hch⟩ := (Spares.closes s k).chan hidle
  obtain ⟨hidle'', hch'⟩ := h.before.chan hidle'
  exact ⟨hidle'', by rw [ownedBy_congr ((hch' c).1.trans (hch c).1), hown]⟩

theorem State.TurnOf.began (hb : w.Began t k) :
    ∀ i, s.beatCloses.RunsIn k i → (s.beatCloses.engine (k * 32 + i)).Began (s.reg (.SEC_ENTRY k)) (t.engine (k * 32 + i)) := by
  have hv := hb.of_spares h.before
  unfold State.Began at hv
  rwa [(Spares.closes s k).turnReg Reg.ofTurn_entry] at hv

theorem State.TurnOf.restarted (hr : w.Restarted t k) : ∀ i, s.beatCloses.RunsIn k i → (s.beatCloses.engine (k * 32 + i)).inBeat = true →
    (s.beatCloses.engine (k * 32 + i)).AtRest (t.engine (k * 32 + i)) := (hr.of_spares h.before).2

/-- The counts of overruns and the state, where section k keeps its report. -/
theorem State.TurnOf.kept (hreg : t.reg (.SEC_STATE k) = w.reg (.SEC_STATE k)) :
    t.sectState k = s.sectState k ∧ t.getB (.SEC_STATE k) F.SEC_STATE_OVR = s.getB (.SEC_STATE k) F.SEC_STATE_OVR :=
  ⟨State.sectState_of_reg (hreg.trans (h.reg Reg.ofTurn_state)), State.getB_of_reg (hreg.trans (h.reg Reg.ofTurn_state)) _⟩

theorem State.TurnOf.counts {cyc : Nat} (hreg : t.reg (.SEC_OVERRUN k) = (w.reported k cyc (w.sectFinished k)).reg (.SEC_OVERRUN k)) :
    t.getF (.SEC_OVERRUN k) F.SEC_OVERRUN_COUNT = s.getF (.SEC_OVERRUN k) F.SEC_OVERRUN_COUNT ∧ t.getF (.SEC_OVERRUN k) F.SEC_OVERRUN_CONSEC =
      if w.sectFinished k && !(s.beatCloses.sect k).dbgHalted then 0 else s.getF (.SEC_OVERRUN k) F.SEC_OVERRUN_CONSEC := by
  have hov := h.reg (r := .SEC_OVERRUN k) Reg.ofTurn_overrun
  have hdbg : (w.sect k).dbgHalted = (s.beatCloses.sect k).dbgHalted := by rw [h.sect]
  have hc := State.ReadsReport.of_overrun hreg
  rwa [State.getF_of_reg hov, State.getF_of_reg hov, hdbg] at hc

/-- What a running section reports (R73). -/
theorem State.TurnOf.report (hrun : w.running k = true) :
    (s.boundary.getB (.SEC_SLACK k) F.SEC_SLACK_VALID = true ↔
      ∀ i, s.beatCloses.RunsIn k i → (s.beatCloses.engine (k * 32 + i)).efDone = true) ∧
    ((∀ i, s.beatCloses.RunsIn k i → (s.beatCloses.engine (k * 32 + i)).efDone = true) →
      s.boundary.getF (.SEC_SLACK k) F.SEC_SLACK_END_CYC = min 0x3FFFF (s.beatCloses.sect k).endCyc) ∧
    (¬ (∀ i, s.beatCloses.RunsIn k i → (s.beatCloses.engine (k * 32 + i)).efDone = true) →
      s.boundary.getF (.SEC_SLACK k) F.SEC_SLACK_END_CYC = min 0x3FFFF (s.wallCycles (s.beat.length.getD s.beat.period))) ∧
    s.boundary.getB (.SEC_STALL k) F.SEC_STALL_SCHED = (s.beatCloses.sect k).sched ∧
    s.boundary.getF (.SEC_STALL k) F.SEC_STALL_CYC = min 0x3FFFF (s.beatCloses.sect k).stallCyc ∧
    ((s.beatCloses.sect k).expired < 16 → s.boundary.getF (.SEC_STALL k) F.SEC_STALL_EXPIRED = (s.beatCloses.sect k).expired) := by
  have hrep := w.reported_reported (k := k) (cyc := s.wallCycles (s.beat.length.getD s.beat.period)) (fin := w.sectFinished k)
  have hslack := ((h.runs hrun).report (.inl rfl)).trans hrep.slack
  have hstall := ((h.runs hrun).report (.inr rfl)).trans hrep.stall
  rw [h.sect] at hslack hstall
  obtain ⟨hvalid, hend⟩ := slackWord_fields (if w.sectFinished k = true then (s.beatCloses.sect k).endCyc
    else s.wallCycles (s.beat.length.getD s.beat.period)) (w.sectFinished k)
  rw [← hslack] at hvalid hend
  obtain ⟨hsched, hcyc, hexp⟩ := stallWord_fields (s.beatCloses.sect k).expired (s.beatCloses.sect k).stallCyc (s.beatCloses.sect k).sched
  rw [← hstall] at hsched hcyc hexp
  rw [← h.finished]
  refine ⟨?_, fun hf => ?_, fun hf => ?_, hsched, hcyc, hexp⟩
  · rw [← hvalid]
    rfl
  · rw [if_pos hf] at hend
    exact hend
  · rw [if_neg hf] at hend
    exact hend

end

end

section

/-- Settles O58: up to the turn of section k a boundary spares it, its turn follows the cases of the statement, and what comes after spares it again. -/
theorem sectionsEnterOverrunStartAndStopAtABoundary : Obligations.SectionsEnterOverrunStartAndStopAtABoundary := by
  unfold Obligations.SectionsEnterOverrunStartAndStopAtABoundary
  intro s k hk _ hstarted
  obtain ⟨w, h⟩ := s.exists_turnOf hk
  have hexec : exec .beatBoundary s = .next s.boundary := by
    rw [show exec .beatBoundary s = .next s.beatBoundary from rfl, State.beatBoundary, if_pos hstarted]
  refine ⟨s.boundary, hexec, ?_⟩
  have hfin := h.finished
  have hheld := h.halted
  have hsect := h.sect
  have hstop : (w.sect k).stopAt = (s.beatCloses.sect k).stopAt := by rw [hsect]
  have hdbg : (w.sect k).dbgHalted = (s.beatCloses.sect k).dbgHalted := by rw [hsect]
  intro b v x ov count consec placed runs run fin held ent entered restarted stopped counts counted kept
  have hrun : run ↔ w.running k = true := h.running.symm
  have hidle : ¬ run → w.running k = false := fun hn => Bool.eq_false_iff.mpr (fun hr => hn (hrun.mpr hr))
  have hfinf : ¬ fin → w.sectFinished k = false := fun hn => Bool.eq_false_iff.mpr (fun hf => hn (hfin.mp hf))
  have hheldf : ¬ held → w.anyHalted k = false := fun hn => Bool.eq_false_iff.mpr (fun hf => hn (hheld.mp hf))
  have hentered : w.Began s.boundary k → entered := fun hb => h.began hb
  have hrestarted : w.Restarted s.boundary k → restarted := fun hr => ⟨h.began hr.1, h.restarted hr⟩
  have hcounted : s.boundary.reg ov = (w.reported k (s.wallCycles (s.beat.length.getD s.beat.period)) (w.sectFinished k)).reg ov → counted := by
    intro hreg
    obtain ⟨hcount, hconsec⟩ := h.counts hreg
    refine ⟨hcount, fun hf hd => ?_, fun hnot => ?_⟩
    · rw [hconsec, hfin.mpr hf, show (s.beatCloses.sect k).dbgHalted = false from hd]
      rfl
    · rw [hconsec]
      refine if_neg (fun hboth => ?_)
      rw [Bool.and_eq_true, Bool.not_eq_true'] at hboth
      rcases hnot with hnf | hd
      · exact hnf (hfin.mp hboth.1)
      · exact Bool.false_ne_true (hboth.2.symm.trans hd)
  refine ⟨?_, ?_, ?_, ?_, ?_, ?_, ?_, ?_, ?_⟩
  · exact fun hr => h.report (hrun.mp hr)
  · exact fun hn => (h.idle (hidle hn)).slack
  · intro hr hs
    obtain ⟨hat, hreg⟩ := (h.runs (hrun.mp hr)).stops (hstop.trans hs)
    exact ⟨hat, hcounted hreg⟩
  · intro hr hs hh
    have hreads := (h.runs (hrun.mp hr)).waits (hstop.symm ▸ hs) (hheld.mpr hh)
    exact ⟨h.kept hreads.state, hcounted (hreads _ Reg.ofTurn_overrun)⟩
  · intro hr hs hh hd
    obtain ⟨hres, hreads⟩ := (h.runs (hrun.mp hr)).resumes (hstop.symm ▸ hs) (hheldf hh) hk (hdbg.trans hd)
    obtain ⟨hcount, hconsec⟩ := h.counts (hreads _ Reg.ofTurn_overrun)
    rw [show (s.beatCloses.sect k).dbgHalted = true from hd, Bool.not_true, Bool.and_false, if_neg Bool.false_ne_true] at hconsec
    exact ⟨h.kept hreads.state, hrestarted hres, hcount, hconsec⟩
  · intro hr hs hh hd hf
    obtain ⟨hbeg, hreads⟩ := (h.runs (hrun.mp hr)).enters (hstop.symm ▸ hs) (hheldf hh) (hdbg.trans hd) hk (hfin.mpr hf)
    obtain ⟨hcount, hconsec, _⟩ := hcounted (hreads _ Reg.ofTurn_overrun)
    exact ⟨h.kept hreads.state, hentered hbeg, hcount, hconsec hf hd⟩
  · intro hr hs hh hd hf
    have hstop' : (w.sect k).stopAt ≠ some b := hstop.symm ▸ hs
    obtain ⟨hcount, hconsec⟩ := (h.runs (hrun.mp hr)).counts hstop' (hheldf hh) (hdbg.trans hd) (hfinf hf)
    rw [State.getF_of_reg (h.reg Reg.ofTurn_overrun)] at hcount hconsec
    intro c lim
    have hlim : w.atLimit k ↔ lim ≠ 0 ∧ lim ≤ c := h.atLimit
    by_cases hl : lim ≠ 0 ∧ lim ≤ c
    · obtain ⟨hat, hovr, hostop, hout⟩ := (h.runs (hrun.mp hr)).limit hstop' (hheldf hh) (hdbg.trans hd) (hfinf hf) (hlim.mpr hl)
      rw [if_pos hl]
      refine ⟨⟨hcount, hconsec⟩, hovr, hat, hostop, fun c hown hidle _ => ?_⟩
      obtain ⟨hidle', hown'⟩ := h.owned hidle hown
      exact hout c hidle' hown'
    · obtain ⟨hres, hstate, hovr⟩ := (h.runs (hrun.mp hr)).again hstop' (hheldf hh) (hdbg.trans hd) (hfinf hf) hk (fun h' => hl (hlim.mp h'))
      rw [if_neg hl]
      exact ⟨⟨hcount, hconsec⟩, hovr, hstate.trans (State.sectState_of_reg (h.reg Reg.ofTurn_state)), hrestarted hres⟩
  · intro hn hdue
    obtain ⟨hbeg, hstart, hstate, hfenced⟩ := (h.idle (hidle hn)).starts hk (h.due.mpr hdue)
    refine ⟨hentered hbeg, hstart, hstate, hfenced.trans (exists_congr (fun i => ?_))⟩
    rw [h.useMask]
    exact and_congr_right (fun hi => by rw [h.fenced hi.1])
  · intro hn hdue
    have hkeeps := fun x hx => (h.idle (hidle hn)).keeps (x := x) (hidle hn) (fun h' => hdue (h.due.mp h')) hx
    have hov := (hkeeps _ (.inr rfl)).trans (h.reg Reg.ofTurn_overrun)
    exact ⟨h.kept (hkeeps _ (.inl rfl)), State.getF_of_reg hov _, State.getF_of_reg hov _⟩

end

end Sys2Proof.Machine
end

section
/-! SUPPORT. The bits of a codeword header and of a setpoint record (R78, R81, R327, R329): what each field reads as, and that a check code
does not look at the bits in which it is stored. -/

namespace Sys2Proof.Machine

/-! ## The header of a codeword -/

theorem hcheck_lt (h : BitVec 28) : hcheck h < 16 := by
  unfold hcheck
  refine List.foldlRecOn (List.range 24) _ (motive := fun c => c < 16) (by decide) (fun c _ i _ => ?_)
  dsimp only
  split
  · exact Nat.xor_lt_two_pow (n := 4) (Nat.mod_lt _ (by decide)) (by decide)
  · exact Nat.mod_lt _ (by decide)

/-- HCHECK covers bits 27:4 alone. -/
theorem hcheck_congr {h h' : BitVec 28} (he : ∀ i, 4 ≤ i → h.getLsbD i = h'.getLsbD i) : hcheck h = hcheck h' := by
  unfold hcheck
  refine List.foldl_ext _ _ _ (fun c i hi => ?_)
  rw [he (27 - i) (by have := List.mem_range.mp hi; omega)]

/-- The fields of a header that are stored above HCHECK. -/
def headerBits (ty q beat nak : Nat) : Nat := ty * 2 ^ 24 + (q % 127) * 2 ^ 17 + (beat % 64) * 2 ^ 11 + nak * 2 ^ 4

/-- A small number put below the bits of a multiple of 16. -/
theorem toNat_or_below {n m k : Nat} (hm : m < 16) (hn : n = 2 ^ 4 * k) (hlt : n < 2 ^ 28) :
    (BitVec.ofNat 28 n ||| BitVec.ofNat 28 m).toNat = 16 * k + m := by
  rw [BitVec.toNat_or, BitVec.toNat_ofNat, BitVec.toNat_ofNat, Nat.mod_eq_of_lt (by omega), Nat.mod_eq_of_lt (by omega), hn,
    ← Nat.two_pow_add_eq_or_of_lt hm]

section
variable {ty q beat nak : Nat}

theorem headerBits_eq (ty q beat nak : Nat) :
    headerBits ty q beat nak = 2 ^ 4 * (1048576 * ty + 8192 * (q % 127) + 128 * (beat % 64) + nak) := by
  unfold headerBits; omega

theorem cwHeader_eq : cwHeader ty q beat nak =
    BitVec.ofNat 28 (headerBits ty q beat nak) ||| BitVec.ofNat 28 (hcheck (BitVec.ofNat 28 (headerBits ty q beat nak))) := rfl

/-- HCHECK stands below the other fields. -/
theorem cwHeader_toNat (ht : ty < 16) (hn : nak < 128) : ∃ k, k < 16 ∧ k = hcheck (BitVec.ofNat 28 (headerBits ty q beat nak)) ∧
    (cwHeader ty q beat nak).toNat = 16777216 * ty + 131072 * (q % 127) + 2048 * (beat % 64) + 16 * nak + k := by
  refine ⟨_, hcheck_lt _, rfl, ?_⟩
  have hsmall : headerBits ty q beat nak < 2 ^ 28 := by rw [headerBits_eq]; omega
  rw [cwHeader_eq, toNat_or_below (hcheck_lt _) (headerBits_eq ..) hsmall]
  generalize hcheck _ = k
  omega

/-- What the fields of a header read as (R327, R329). -/
theorem cwHeader_fields (ht : ty < 16) (hn : nak < 128) :
    cwType (cwHeader ty q beat nak) = ty ∧ cwIndex (cwHeader ty q beat nak) = q % 127 ∧ cwBeat (cwHeader ty q beat nak) = beat % 64 ∧
      cwNak (cwHeader ty q beat nak) = nak := by
  obtain ⟨k, hk, -, hv⟩ := cwHeader_toNat (q := q) (beat := beat) ht hn
  refine ⟨?_, ?_, ?_, ?_⟩
  · rw [cwType, BitVec.extractLsb'_toNat, hv, Nat.shiftRight_eq_div_pow]; omega
  · rw [cwIndex, BitVec.extractLsb'_toNat, hv, Nat.shiftRight_eq_div_pow]; omega
  · rw [cwBeat, BitVec.extractLsb'_toNat, hv, Nat.shiftRight_eq_div_pow]; omega
  · rw [cwNak, BitVec.extractLsb'_toNat, hv, Nat.shiftRight_eq_div_pow]; omega

/-- The header carries the HCHECK of its own bits. -/
theorem cwHeader_hcheck (ht : ty < 16) (hn : nak < 128) :
    ((cwHeader ty q beat nak).extractLsb' 0 4).toNat = hcheck (cwHeader ty q beat nak) := by
  have hsame : hcheck (cwHeader ty q beat nak) = hcheck (BitVec.ofNat 28 (headerBits ty q beat nak)) := by
    refine hcheck_congr (fun i hi => ?_)
    have hzero : (hcheck (BitVec.ofNat 28 (headerBits ty q beat nak))).testBit i = false :=
      Nat.testBit_lt_two_pow (Nat.lt_of_lt_of_le (hcheck_lt _) (Nat.pow_le_pow_right (n := 2) (by decide) hi))
    rw [cwHeader_eq, BitVec.getLsbD_or, BitVec.getLsbD_ofNat (n := 28) (x := hcheck _), hzero, Bool.and_false, Bool.or_false]
  obtain ⟨k, hk, hkeq, hv⟩ := cwHeader_toNat (q := q) (beat := beat) ht hn
  rw [hsame, ← hkeq, BitVec.extractLsb'_toNat, hv, Nat.shiftRight_zero]
  omega

end

/-! ## A setpoint record -/

theorem crc9Step_lt (c : Nat) (b : Bool) : crc9Step c b < 512 := by
  unfold crc9Step
  dsimp only
  split
  · exact Nat.xor_lt_two_pow (n := 9) (Nat.mod_lt _ (by decide)) (by decide)
  · exact Nat.mod_lt _ (by decide)

theorem crc9_lt (wa wb : Word) : crc9 wa wb < 512 := by
  unfold crc9
  refine List.foldlRecOn (List.range 27) _ (motive := fun c => c < 512) ?_ (fun c _ i _ => crc9Step_lt c _)
  exact List.foldlRecOn (List.range 36) _ (motive := fun c => c < 512) (by decide) (fun c _ i _ => crc9Step_lt c _)

/-- CRC-9 covers bits 35:9 of the second word alone. -/
theorem crc9_setFld (wa wb : Word) (v : Nat) : crc9 wa (setFld wb 8 0 v) = crc9 wa wb := by
  unfold crc9
  refine List.foldl_ext _ _ _ (fun c i hi => ?_)
  rw [bit_setFld (by omega), if_neg (by have := List.mem_range.mp hi; omega)]

/-- What the fields of W1 of a setpoint record read as (Table 3.2, R78). -/
theorem setpointW1_fields (mode c beat : Nat) (setp : Word) (hm : mode < 16) :
    fld (setpointW1 mode c beat setp) 35 32 = mode ∧ fld (setpointW1 mode c beat setp) 31 17 = c % 2 ^ 15 ∧
      fld (setpointW1 mode c beat setp) 16 9 = beat % 256 ∧ fld (setpointW1 mode c beat setp) 8 0 = crc9 setp (setpointW1 mode c beat setp) := by
  have hcrc := crc9_lt setp (setFld (setFld (put 35 32 mode) 31 17 c) 16 9 beat)
  unfold setpointW1
  refine ⟨?_, ?_, ?_, ?_⟩
  · rw [fld_setFld_ne (by omega), fld_setFld_ne (by omega), fld_setFld_ne (by omega)]
    exact fld_put_full (by omega) hm
  · rw [fld_setFld_ne (by omega), fld_setFld_ne (by omega), fld_setFld_self (by omega)]
  · rw [fld_setFld_ne (by omega), fld_setFld_self (by omega)]; rfl
  · rw [crc9_setFld, fld_setFld_self (by omega)]
    exact Nat.mod_eq_of_lt hcrc

end Sys2Proof.Machine
end

section
/-! SUPPORT. The frame of the Glove (R109 to R124, R132, R133): what its operations on entries leave alone in the rest of the state, and in the
entry of the one channel that they act on. -/

namespace Sys2Proof.Machine

/-- The registers that the Glove's events, counts and alerts write. -/
def Reg.ofGlove : Reg → Bool
  | .GLV_STS | .GLV_TRIPS | .DBG_GONG _ => true
  | _ => false

/-- Between s and t the Glove alone has acted: entries, events and their signals may differ. -/
structure State.GloveActed (s t : State) : Prop where
  same : { t with regs := s.regs, chan := s.chan, glvEvts := s.glvEvts, seq := s.seq, dbg := s.dbg } = s
  reg : ∀ r : Reg, r.ofGlove = false → t.reg r = s.reg r

namespace State.GloveActed

variable {s t u : State}

theorem refl (s : State) : s.GloveActed s := ⟨rfl, fun _ _ => rfl⟩

theorem trans (h : s.GloveActed t) (h' : t.GloveActed u) : s.GloveActed u where
  same := by
    rw [← h.same, ← h'.same]
  reg r hr := (h'.reg r hr).trans (h.reg r hr)

/-- An update outside the registers. -/
theorem upd {chan glvEvts seq dbg} : s.GloveActed { s with chan := chan, glvEvts := glvEvts, seq := seq, dbg := dbg } := ⟨rfl, fun _ _ => rfl⟩

theorem setF {r : Reg} {f : Nat × Nat} {v : Nat} (hr : r.ofGlove = true) : s.GloveActed (s.setF r f v) :=
  ⟨rfl, fun r' hr' => State.reg_setF_ne (fun e => by rw [e, hr] at hr'; cases hr')⟩

theorem setCh (c : Nat) (x : Chan) : s.GloveActed (s.setCh c x) := .upd

theorem ite {p : Prop} [Decidable p] (h : s.GloveActed t) (h' : s.GloveActed u) : s.GloveActed (if p then t else u) := by
  split
  · exact h
  · exact h'

theorem foldl {α : Type} {f : State → α → State} (hf : ∀ st x, State.GloveActed st (f st x)) (l : List α) (s : State) : s.GloveActed (l.foldl f s) := by
  induction l generalizing s with
  | nil => exact refl s
  | cons x l ih => exact (hf s x).trans (ih _)

/-! What the frame says of the parts that others look at. -/

theorem mem_eq (h : s.GloveActed t) : t.mem = s.mem := by rw [← h.same]
theorem lane_eq (h : s.GloveActed t) : t.lane = s.lane := by rw [← h.same]
theorem march_eq (h : s.GloveActed t) : t.march = s.march := by rw [← h.same]
theorem ln_eq (h : s.GloveActed t) (n : Nat) : t.ln n = s.ln n := congrArg (SMap.get (fun _ => Lane.reset) · n) h.lane_eq
theorem beatNum_eq (h : s.GloveActed t) : t.beatNum = s.beatNum := congrArg (fld · _ _) (h.reg .BEAT_NUM rfl)
theorem glvHeld_eq (h : s.GloveActed t) : t.glvHeld = s.glvHeld := by unfold State.glvHeld; rw [h.march_eq]

end State.GloveActed

/-- The Glove alone has acted, and of the channels on c alone, in W7 of its entry alone. -/
structure State.EntryMoved (s t : State) (c : Nat) : Prop where
  acted : s.GloveActed t
  entry : ∃ f, t.ch c = (s.ch c).modW7 f
  others : ∀ d, d ≠ c → t.ch d = s.ch d

namespace State.EntryMoved

variable {s t u : State} {c : Nat}

theorem refl (s : State) (c : Nat) : s.EntryMoved s c := ⟨.refl s, ⟨id, rfl⟩, fun _ _ => rfl⟩

theorem trans (h : s.EntryMoved t c) (h' : t.EntryMoved u c) : s.EntryMoved u c where
  acted := h.acted.trans h'.acted
  entry := by
    obtain ⟨f, hf⟩ := h.entry
    obtain ⟨g, hg⟩ := h'.entry
    exact ⟨g ∘ f, by rw [hg, hf]; rfl⟩
  others d hd := (h'.others d hd).trans (h.others d hd)

theorem setCh (f : Word → Word) : s.EntryMoved (s.setCh c ((s.ch c).modW7 f)) c :=
  ⟨.setCh c _, ⟨f, by rw [State.ch_setCh, if_pos rfl]⟩, fun d hd => by rw [State.ch_setCh, if_neg hd]⟩

theorem ite {p : Prop} [Decidable p] (h : s.EntryMoved t c) (h' : s.EntryMoved u c) : s.EntryMoved (if p then t else u) c := by
  split
  · exact h
  · exact h'

/-- The ingress banks of the channel stay as they are. -/
theorem ing_eq (h : s.EntryMoved t c) : (t.ch c).ing0 = (s.ch c).ing0 ∧ (t.ch c).ing1 = (s.ch c).ing1 := by
  obtain ⟨f, hf⟩ := h.entry
  rw [hf]
  exact ⟨rfl, rfl⟩

end State.EntryMoved

/-! ## The operations -/

theorem State.fireGong_acted (s : State) (g : Nat) : s.GloveActed (s.fireGong g) := by
  have h1 : s.GloveActed (s.setB (.DBG_GONG g) F.DBG_GONG_FIRED true) := .setF rfl
  have h2 : s.GloveActed ((s.setB (.DBG_GONG g) F.DBG_GONG_FIRED true).incF (.DBG_GONG g) F.DBG_GONG_COUNT) := h1.trans (.setF rfl)
  exact h2.trans .upd

theorem State.fireSource_acted (s : State) (f : Nat × Nat) : s.GloveActed (s.fireSource f) :=
  .foldl (fun st g => .ite (st.fireGong_acted g) (.refl st)) _ s

theorem State.glvPostTrip_acted (s : State) (c cause : Nat) : s.GloveActed (s.glvPostTrip c cause) := by
  unfold State.glvPostTrip
  extract_lets _ _
  split
  next l lost _ =>
  extract_lets u v
  have hv : s.GloveActed v := .ite (State.GloveActed.upd.trans (.setF rfl)) .upd
  exact (hv.trans (.setF rfl)).trans (State.fireSource_acted _ _)

theorem State.withAlert_acted (s : State) {f : State → State} (h : s.GloveActed (f s)) : s.GloveActed (s.withAlert f) :=
  .ite (h.trans (.ite .upd (.refl _))) h

theorem State.glvEnter_moved (s : State) (c cause act : Nat) (trip : Bool) : s.EntryMoved (s.glvEnter c trip cause act) c where
  acted := by
    rw [State.glvEnter_eq]
    exact .ite ((State.GloveActed.setCh c _).trans (State.glvPostTrip_acted ..)) (.setCh c _)
  entry := by
    rw [s.glvEnter_ch c cause act trip]
    unfold State.chEntered
    exact ⟨_, rfl⟩
  others _ hd := State.glvEnter_ch_ne hd

theorem State.glvCompare_moved (s : State) (c : Nat) : s.EntryMoved (s.glvCompare c).1 c := by
  have halert : s.EntryMoved (s.withAlert (fun st => st.setB .GLV_STS F.GLV_STS_CMP_ERR true)) c :=
    ⟨s.withAlert_acted (.setF rfl), ⟨id, s.withAlert_sameGlove.ch c⟩, fun d _ => s.withAlert_sameGlove.ch d⟩
  unfold State.glvCompare
  dsimp only
  split
  · exact halert.trans (State.glvEnter_moved ..)
  · exact .refl s c

theorem State.glvUpstream_moved (s : State) (c : Nat) (w0 w1 w2 w3 : Word) : s.EntryMoved (s.glvUpstream c w0 w1 w2 w3) c := by
  have hcmp := s.glvCompare_moved c
  unfold State.glvUpstream
  generalize s.glvCompare c = p at hcmp
  obtain ⟨u, ok⟩ := p
  refine hcmp.trans ?_
  have hen : ∀ (st : State) (trip : Bool) (cause act : Nat), st.EntryMoved (st.glvEnter c trip cause act) c :=
    fun st trip cause act => st.glvEnter_moved c cause act trip
  dsimp only
  refine .ite (.refl u c) (.ite (.refl u c) (.ite (.ite (hen ..) (.ite (hen ..) (.refl u c))) ?_))
  split
  · refine .ite ((State.EntryMoved.setCh _).trans (hen ..)) (.ite (.ite (hen ..) (hen ..)) (.setCh _))
  · exact .ite ((State.EntryMoved.setCh _).trans (hen ..)) (.setCh _)

theorem State.forChannels_acted {p : Nat → Chan → Bool} {f : State → Nat → State} (hf : ∀ st c, State.GloveActed st (f st c)) (s : State) :
    s.GloveActed (s.forChannels p f) :=
  .foldl (fun st c => .ite (hf st c) (.refl st)) _ s

theorem State.glvUse_acted (s : State) (c : Nat) {f : State → State} (hf : ∀ st, State.GloveActed st (f st)) : s.GloveActed (s.glvUse c f) :=
  .ite ((s.glvCompare_moved c).acted.trans (hf _)) (s.glvCompare_moved c).acted

theorem State.laneTrip_acted (s : State) (n : Nat) : s.GloveActed (s.laneTrip n) :=
  s.forChannels_acted (fun st c => st.glvUse_acted c (fun _ => (State.glvEnter_moved ..).acted))

end Sys2Proof.Machine
end

section
/-! SUPPORT. The record of a downstream slot (R80, R108 to R110, R124): mode and SETP by the state of the channel, and what the channel is once
the record has been sent. -/

namespace Sys2Proof.Machine

/-! ## The last-good record (R108, R113, R116) -/

/-- The channel x has become y with a record in a mode sent: its last-good record, unless the mode is NOUPDATE. -/
def Chan.LastGood (x y : Chan) (mode : BitVec 4) (setp : Word) : Prop :=
  if mode = 0 then (y.lgValid = x.lgValid ∧ y.lgMode = x.lgMode ∧ y.lgSetp = x.lgSetp ∧ y.sentMode = x.sentMode)
  else (y.lgValid = true ∧ y.lgMode = mode ∧ y.lgSetp = setp ∧ y.sentMode = some mode)

theorem Chan.lastGood_sent (x : Chan) (mode : BitVec 4) (setp : Word) : x.LastGood (x.sent mode.toNat setp) mode setp := by
  unfold Chan.LastGood Chan.sent
  by_cases h : mode = 0
  · rw [if_pos h, if_pos (by rw [h]; rfl)]
    exact ⟨rfl, rfl, rfl, rfl⟩
  · have hn : mode.toNat ≠ 0 := fun hz => h (BitVec.eq_of_toNat_eq hz)
    rw [if_neg h, if_neg hn, BitVec.ofNat_toNat, BitVec.setWidth_eq]
    exact ⟨rfl, rfl, rfl, rfl⟩

/-- A record leaves the entry, the egress slot and the check bits of the channel alone. -/
theorem Chan.sent_entry (x : Chan) (mode : Nat) (setp : Word) : (x.sent mode setp).g0 = x.g0 ∧ (x.sent mode setp).g1 = x.g1 ∧
    (x.sent mode setp).bad = x.bad ∧ (x.sent mode setp).egSend = x.egSend := by
  unfold Chan.sent
  split
  · exact ⟨rfl, rfl, rfl, rfl⟩
  · exact ⟨rfl, rfl, rfl, rfl⟩

/-! ## What is due (R109, R110) -/

/-- The record that an action substitutes. -/
def Chan.substDue (x : Chan) (act : Nat) : BitVec 4 × Word :=
  if act = 0 ∧ x.lgValid = true then (x.lgMode, x.lgSetp) else if act < 2 then (3, 0) else (4, 0)

theorem Chan.substitute_eq (x : Chan) (act : Nat) : x.substitute act = ((x.substDue act).1.toNat, (x.substDue act).2) := by
  unfold Chan.substitute Chan.substDue
  obtain h | h | h : act = 0 ∨ act = 1 ∨ 2 ≤ act := by omega
  · subst h
    cases x.lgValid <;> rfl
  · subst h
    rfl
  · rw [if_neg (by omega), if_neg (by omega), if_neg (by omega), if_neg (by omega)]
    rfl

section
variable {s : State} {c : Nat}

theorem State.glvFails_iff : s.glvFails c ↔ ¬ s.glvSound c := by
  unfold State.glvFails State.glvSound
  cases (s.ch c).bad <;> cases s.glvHeld <;> simp

theorem State.recordDue_of_fails (h : s.glvFails c) : s.recordDue c = (4, 0) := if_pos (State.glvFails_iff.mp h)

section
variable (h : s.glvSound c)
include h

theorem State.recordDue_active (hst : (s.ch c).g0.state = 0) :
    s.recordDue c = match (s.ch c).egSend with | some p => (p.mode, p.setp) | none => (0, 0) := by
  refine (if_neg (not_not_intro h)).trans ?_
  simp only [hst]
  cases (s.ch c).egSend <;> rfl

theorem State.recordDue_armed (hst : (s.ch c).g0.state = 1) :
    s.recordDue c = match (s.ch c).egSend with | some p => (p.mode, p.setp) | none => (s.ch c).substDue (s.ch c).g0.actPark := by
  refine (if_neg (not_not_intro h)).trans ?_
  simp only [hst]
  cases (s.ch c).egSend <;> rfl

theorem State.recordDue_out (hst : 2 ≤ (s.ch c).g0.state) : s.recordDue c = (s.ch c).substDue (s.ch c).g0.act := by
  obtain ⟨k, hk⟩ := Nat.exists_eq_add_of_le' hst
  refine (if_neg (not_not_intro h)).trans ?_
  simp only [hk]
  cases (s.ch c).egSend <;> rfl

end

/-! ## What is sent -/

theorem State.glvSlot_active_some {p : Setpoint} (hst : (s.ch c).g0.state = 0) (he : (s.ch c).egSend = some p) : s.glvSlot c =
    ((p.mode.toNat, p.setp), s.setCh c { (s.ch c).sent p.mode.toNat p.setp with egSend := none }) := by
  simp only [State.glvSlot, hst, he, if_true]

theorem State.glvSlot_active_none (hst : (s.ch c).g0.state = 0) (he : (s.ch c).egSend = none) : s.glvSlot c = ((0, 0), s) := by
  simp only [State.glvSlot, hst, he, if_true]

/-- W7 of a channel whose first setpoint goes out: ACTIVE, with DBC, FDN and FUP cleared and LAST the beat (R124). -/
def activeW7 (beat : Nat) (w : Word) : Word := setFld (setFld (setFld w 35 34 0) 26 15 0) 14 0 beat

/-- An ARMED channel whose setpoint p has gone out. -/
def Chan.firstSent (x : Chan) (beat : Nat) (p : Setpoint) : Chan :=
  { (x.sent p.mode.toNat p.setp).modW7 (activeW7 beat) with egSend := none }

theorem Chan.firstSent_entry (x : Chan) (beat : Nat) (p : Setpoint) : (x.firstSent beat p).g0 = { x.g0 with w7 := activeW7 beat x.g0.w7 } ∧
    (x.firstSent beat p).g1 = { x.g1 with w7 := activeW7 beat x.g1.w7 } ∧ (x.firstSent beat p).bad = x.bad := by
  unfold Chan.firstSent Chan.sent
  split
  · exact ⟨rfl, rfl, rfl⟩
  · exact ⟨rfl, rfl, rfl⟩

theorem State.glvSlot_armed_some {p : Setpoint} (hst : (s.ch c).g0.state = 1) (he : (s.ch c).egSend = some p) : s.glvSlot c =
    ((p.mode.toNat, p.setp), s.setCh c ((s.ch c).firstSent s.beatNum p)) := by
  simp only [State.glvSlot, hst, he, if_true, if_neg (show ¬ (1 : Nat) = 0 by omega)]
  rfl

theorem State.glvSlot_armed_none (hst : (s.ch c).g0.state = 1) (he : (s.ch c).egSend = none) : s.glvSlot c =
    ((((s.ch c).substDue (s.ch c).g0.actPark).1.toNat, ((s.ch c).substDue (s.ch c).g0.actPark).2),
      s.setCh c ((s.ch c).sent ((s.ch c).substDue (s.ch c).g0.actPark).1.toNat ((s.ch c).substDue (s.ch c).g0.actPark).2)) := by
  simp only [State.glvSlot, hst, he, if_true, if_neg (show ¬ (1 : Nat) = 0 by omega), Chan.substitute_eq]

theorem State.glvSlot_out (hst : 2 ≤ (s.ch c).g0.state) : s.glvSlot c =
    ((((s.ch c).substDue (s.ch c).g0.act).1.toNat, ((s.ch c).substDue (s.ch c).g0.act).2),
      s.setCh c ((s.ch c).sent ((s.ch c).substDue (s.ch c).g0.act).1.toNat ((s.ch c).substDue (s.ch c).g0.act).2)) := by
  simp only [State.glvSlot, if_neg (show ¬ (s.ch c).g0.state = 0 by omega), if_neg (show ¬ (s.ch c).g0.state = 1 by omega),
    Chan.substitute_eq]

end

/-- Sending a record changes the channel alone. -/
theorem State.glvSlot_acted (s : State) (c : Nat) : s.GloveActed (s.glvSlot c).2 ∧ ∀ d, d ≠ c → (s.glvSlot c).2.ch d = s.ch d := by
  have hset : ∀ x : Chan, s.GloveActed (s.setCh c x) ∧ ∀ d, d ≠ c → (s.setCh c x).ch d = s.ch d :=
    fun x => ⟨.setCh c x, fun d hd => by rw [State.ch_setCh, if_neg hd]⟩
  obtain hst | hst | hst : (s.ch c).g0.state = 0 ∨ (s.ch c).g0.state = 1 ∨ 2 ≤ (s.ch c).g0.state := by omega
  · cases he : (s.ch c).egSend with
    | none =>
      rw [State.glvSlot_active_none hst he]
      exact ⟨.refl s, fun _ _ => rfl⟩
    | some p =>
      rw [State.glvSlot_active_some hst he]
      exact hset _
  · cases he : (s.ch c).egSend with
    | none =>
      rw [State.glvSlot_armed_none hst he]
      exact hset _
    | some p =>
      rw [State.glvSlot_armed_some hst he]
      exact hset _
  · rw [State.glvSlot_out hst]
    exact hset _

/-! ## The record of one channel -/

/-- The downstream slot of channel c: its entry is compared (R132), and the record due is sent. -/
def State.recordSlot (s : State) (c : Nat) : (Nat × Word) × State := (s.glvCompare c).1.glvSlot c

theorem State.recordSlot_acted (s : State) (c : Nat) : s.GloveActed (s.recordSlot c).2 ∧ ∀ d, d ≠ c → (s.recordSlot c).2.ch d = s.ch d := by
  have hcmp := s.glvCompare_moved c
  obtain ⟨hacted, hothers⟩ := (s.glvCompare c).1.glvSlot_acted c
  exact ⟨hcmp.acted.trans hacted, fun d hd => (hothers d hd).trans (hcmp.others d hd)⟩

theorem activeW7_fields (beat : Nat) (w : Word) : fld (activeW7 beat w) 35 34 = 0 ∧ fld (activeW7 beat w) 33 27 = fld w 33 27 ∧
    fld (activeW7 beat w) 26 15 = 0 ∧ fld (activeW7 beat w) 14 0 = beat % 2 ^ 15 := by
  unfold activeW7
  refine ⟨?_, ?_, ?_, ?_⟩
  · rw [fld_setFld_ne (by omega), fld_setFld_ne (by omega), fld_setFld_self (by omega)]; rfl
  · rw [fld_setFld_ne (by omega), fld_setFld_ne (by omega), fld_setFld_ne (by omega)]
  · rw [fld_setFld_ne (by omega), fld_setFld_self (by omega)]; rfl
  · rw [fld_setFld_self (by omega)]

section
variable {s t : State} {c : Nat} {mode : BitVec 4} {setp : Word}

/-- The words of a record, for a channel of which the rest of RecordSent is known. -/
theorem State.RecordSent.of_due (hdue : s.recordDue c = (mode, setp)) (hlg : (s.ch c).LastGood (t.ch c) mode setp)
    (hslot : (t.ch c).egSend = if s.glvSound c ∧ (s.ch c).g0.state < 2 then none else (s.ch c).egSend)
    (hentry : (s.glvSound c → (t.ch c).bad = false ∧ (t.ch c).g0 = (t.ch c).g1 ∧ if (s.ch c).g0.state = 1 ∧ (s.ch c).egSend ≠ none then
        ((t.ch c).g0.state = 0 ∧ fld (t.ch c).g0.w7 33 27 = fld (s.ch c).g0.w7 33 27 ∧ fld (t.ch c).g0.w7 26 15 = 0 ∧
          fld (t.ch c).g0.w7 14 0 = s.beatNum % 2 ^ 15 ∧ { (t.ch c).g0 with w7 := (s.ch c).g0.w7 } = (s.ch c).g0)
        else (t.ch c).g0 = (s.ch c).g0) ∧
      (¬ s.glvSound c → (s.ch c).takes true 0x1D 2 { s.ch c with g0 := (t.ch c).g0, g1 := (t.ch c).g1 })) :
    s.RecordSent t c setp (setpointW1 mode.toNat c (s.beatNum % 256) setp) where
  words := by
    obtain ⟨h1, h2, h3, h4⟩ := setpointW1_fields mode.toNat c (s.beatNum % 256) setp mode.isLt
    rw [hdue]
    exact ⟨rfl, h1, h2, by rw [h3, Nat.mod_mod], h4⟩
  lastGood := by rw [hdue]; exact hlg
  slot := hslot
  entry := hentry

/-- A channel that is sent a substitute, or nothing, keeps its entry. -/
theorem State.RecordSent.of_kept (h : s.glvSound c) (hdue : s.recordDue c = (mode, setp)) (hlg : (s.ch c).LastGood (t.ch c) mode setp)
    (hslot : (t.ch c).egSend = if (s.ch c).g0.state < 2 then none else (s.ch c).egSend)
    (hkeep : ¬ ((s.ch c).g0.state = 1 ∧ (s.ch c).egSend ≠ none))
    (hentry : (t.ch c).g0 = (s.ch c).g0 ∧ (t.ch c).g1 = (s.ch c).g1 ∧ (t.ch c).bad = (s.ch c).bad) :
    s.RecordSent t c setp (setpointW1 mode.toNat c (s.beatNum % 256) setp) := by
  obtain ⟨hcopies, hbad, -⟩ := id h
  obtain ⟨h0, h1, hb⟩ := hentry
  refine .of_due hdue hlg ?_ ⟨fun _ => ⟨hb.trans hbad, by rw [h0, h1, hcopies], ?_⟩, fun hn => absurd h hn⟩
  · rw [hslot]
    exact if_congr (iff_and_self.mpr (fun _ => h)) rfl rfl
  · rw [if_neg hkeep]
    exact h0

/-- RecordSent looks at the channel, its comparison and the beat alone. -/
theorem State.RecordSent.congr {s' t' : State} {w0 w1 : Word} (h : s.RecordSent t c w0 w1) (hs : s'.ch c = s.ch c) (hheld : s'.glvHeld = s.glvHeld)
    (hbeat : s'.beatNum = s.beatNum) (ht : t'.ch c = t.ch c) : s'.RecordSent t' c w0 w1 := by
  have hsound : s'.glvSound c = s.glvSound c := by unfold State.glvSound; rw [hs, hheld]
  have hdue : s'.recordDue c = s.recordDue c := by unfold State.recordDue; simp only [hs, hsound]
  obtain ⟨hwords, hlast, hslot, hentry⟩ := h
  constructor
  · rw [hdue, hbeat]; exact hwords
  · rw [hdue, hs, ht]; exact hlast
  · rw [ht, hslot]
    exact if_congr (by rw [hsound, hs]) rfl (by rw [hs])
  · rw [hs, ht, hsound, hbeat]; exact hentry

end

/-- An entry that fails the comparison trips with TBL, and OPEN is sent. -/
theorem State.recordSlot_fails {s : State} {c : Nat} (h : s.glvFails c) :
    (s.recordSlot c).1 = (4, 0) ∧ s.RecordSent (s.recordSlot c).2 c 0 (setpointW1 4 c (s.beatNum % 256) 0) := by
  have htakes := (State.glvCompare_trips h).takes
  obtain ⟨hstate, hact, -, -, -, -, hrest⟩ := id htakes
  unfold State.recordSlot
  generalize (s.glvCompare c).1 = u at htakes hstate hact hrest
  have hsub : (u.ch c).substDue (u.ch c).g0.act = (4, 0) := by
    have h2 : 2 ≤ (u.ch c).g0.act := by rw [hact]; split <;> omega
    unfold Chan.substDue
    rw [if_neg (by omega), if_neg (by omega)]
  rw [State.glvSlot_out (by rw [hstate, if_pos (.inl rfl)]), hsub]
  refine ⟨rfl, State.RecordSent.of_due (mode := 4) (State.recordDue_of_fails h) ?_ ?_ ⟨fun hs => absurd hs (State.glvFails_iff.mp h), fun _ => ?_⟩⟩
  all_goals rw [State.ch_setCh, if_pos rfl]
  · exact ⟨rfl, rfl, rfl, rfl⟩
  · rw [if_neg (fun hs => State.glvFails_iff.mp h hs.1)]
    have heg : (u.ch c).egSend = (s.ch c).egSend := by rw [← hrest]
    exact ((u.ch c).sent_entry 4 0).2.2.2.trans heg
  · obtain ⟨h1, h2, h3, h4, h5, h6, -⟩ := htakes
    exact ⟨h1, h2, h3, h4, h5, h6, rfl⟩

/-- The record of a downstream slot is the one due, and the channel is as R80, R108, R110, R124 and R132 leave it. -/
theorem State.recordSlot_sent (s : State) (c : Nat) : s.RecordSent (s.recordSlot c).2 c (s.recordSlot c).1.2
    (setpointW1 (s.recordSlot c).1.1 c (s.beatNum % 256) (s.recordSlot c).1.2) := by
  by_cases hf : s.glvFails c
  · obtain ⟨hpair, hsent⟩ := State.recordSlot_fails hf
    rw [hpair]
    exact hsent
  have hs : s.glvSound c := State.glvSound_of_not_fails hf
  have hsub : ∀ act, s.recordDue c = (s.ch c).substDue act → ¬ ((s.ch c).g0.state = 1 ∧ (s.ch c).egSend ≠ none) →
      ((s.ch c).egSend = if (s.ch c).g0.state < 2 then none else (s.ch c).egSend) →
      s.RecordSent (s.setCh c ((s.ch c).sent ((s.ch c).substDue act).1.toNat ((s.ch c).substDue act).2)) c ((s.ch c).substDue act).2
        (setpointW1 ((s.ch c).substDue act).1.toNat c (s.beatNum % 256) ((s.ch c).substDue act).2) := by
    intro act hdue hkeep hslot
    obtain ⟨h0, h1, hb, he⟩ := (s.ch c).sent_entry ((s.ch c).substDue act).1.toNat ((s.ch c).substDue act).2
    refine .of_kept hs hdue ?_ ?_ hkeep ?_
    all_goals rw [State.ch_setCh, if_pos rfl]
    · exact Chan.lastGood_sent ..
    · rw [he]; exact hslot
    · exact ⟨h0, h1, hb⟩
  unfold State.recordSlot
  rw [State.glvCompare_pass hf]
  obtain hst | hst | hst : (s.ch c).g0.state = 0 ∨ (s.ch c).g0.state = 1 ∨ 2 ≤ (s.ch c).g0.state := by omega
  · have hdue := State.recordDue_active hs hst
    have hkeep : ¬ ((s.ch c).g0.state = 1 ∧ (s.ch c).egSend ≠ none) := fun h => by omega
    cases he : (s.ch c).egSend with
    | none =>
      rw [State.glvSlot_active_none hst he]
      rw [he] at hdue
      exact .of_kept (mode := 0) hs hdue ⟨rfl, rfl, rfl, rfl⟩ (by rw [he, if_pos (by omega)]) hkeep ⟨rfl, rfl, rfl⟩
    | some p =>
      rw [State.glvSlot_active_some hst he]
      rw [he] at hdue
      obtain ⟨h0, h1, hb, -⟩ := (s.ch c).sent_entry p.mode.toNat p.setp
      refine .of_kept hs hdue ?_ ?_ hkeep ?_
      all_goals rw [State.ch_setCh, if_pos rfl]
      · exact (s.ch c).lastGood_sent p.mode p.setp
      · rw [if_pos (by omega)]
      · exact ⟨h0, h1, hb⟩
  · have hdue := State.recordDue_armed hs hst
    cases he : (s.ch c).egSend with
    | none =>
      rw [State.glvSlot_armed_none hst he]
      rw [he] at hdue
      exact hsub _ hdue (fun h => h.2 he) (by rw [he, ite_self])
    | some p =>
      rw [State.glvSlot_armed_some hst he]
      rw [he] at hdue
      obtain ⟨h0, h1, hb⟩ := (s.ch c).firstSent_entry s.beatNum p
      refine .of_due hdue ?_ ?_ ⟨fun _ => ?_, fun hn => absurd hs hn⟩
      all_goals rw [State.ch_setCh, if_pos rfl]
      · exact (s.ch c).lastGood_sent p.mode p.setp
      · rw [if_pos ⟨hs, by omega⟩]
        rfl
      · obtain ⟨hcopies, hbad, -⟩ := hs
        obtain ⟨f1, f2, f3, f4⟩ := activeW7_fields s.beatNum (s.ch c).g0.w7
        rw [if_pos ⟨hst, by rw [he]; exact nofun⟩, h0, h1, hb]
        exact ⟨hbad, by rw [hcopies], f1, f2, f3, f4, rfl⟩
  · rw [State.glvSlot_out hst]
    exact hsub _ (State.recordDue_out hs hst) (fun h => by omega) (by rw [if_neg (by omega)])

/-! ## The records of a codeword (R338, R78) -/

/-- What has become of the channels of a record codeword of lane n and of its words. -/
structure State.RecordsSent (s t : State) (n : Nat) (l : List Nat) (ws : List Word) : Prop where
  sent : ∀ r i : Nat, l[r]? = some i → s.RecordSent t (n * 2048 + i) (ws.getD (2 * r) 0) (ws.getD (2 * r + 1) 0)
  others : ∀ b, (∀ i ∈ l, b ≠ n * 2048 + i) → t.ch b = s.ch b

theorem State.recordWords_cons (s : State) (n i : Nat) (l : List Nat) : s.recordWords n (i :: l) =
    let p := s.recordSlot (n * 2048 + i)
    let r := p.2.recordWords n l
    (p.1.2 :: setpointW1 p.1.1 (n * 2048 + i) (r.2.beatNum % 256) p.1.2 :: r.1, r.2) := rfl

theorem State.recordWords_acted (n : Nat) : ∀ (l : List Nat) (s : State), s.GloveActed (s.recordWords n l).2
  | [], s => .refl s
  | i :: l, s => by
    rw [State.recordWords_cons]
    exact (s.recordSlot_acted (n * 2048 + i)).1.trans (State.recordWords_acted n l _)

theorem State.recordWords_sent (n : Nat) : ∀ (l : List Nat) (s : State), l.Nodup →
    s.RecordsSent (s.recordWords n l).2 n l (s.recordWords n l).1
  | [], s, _ => ⟨fun _ _ h => by simp at h, fun _ _ => rfl⟩
  | i :: l, s, hl => by
    obtain ⟨hi, hl⟩ := List.nodup_cons.mp hl
    obtain ⟨hacted, hothers⟩ := s.recordSlot_acted (n * 2048 + i)
    have hsent := s.recordSlot_sent (n * 2048 + i)
    rw [State.recordWords_cons]
    generalize s.recordSlot (n * 2048 + i) = p at hacted hothers hsent
    obtain ⟨⟨mode, setp⟩, u⟩ := p
    have hacted' := State.recordWords_acted n l u
    obtain ⟨hsent', hothers'⟩ := State.recordWords_sent n l u hl
    dsimp only at hacted hothers hsent ⊢
    generalize u.recordWords n l = r at hacted' hsent' hothers'
    have hfirst : r.2.ch (n * 2048 + i) = u.ch (n * 2048 + i) := hothers' _ (fun j hj h => hi (by rw [show i = j by omega]; exact hj))
    refine ⟨?_, ?_⟩
    · rintro (_ | k) j hj
      · obtain rfl : i = j := by simpa using hj
        rw [(hacted.trans hacted').beatNum_eq]
        exact hsent.congr rfl rfl rfl hfirst
      · have hj : l[k]? = some j := by simpa using hj
        have hne : n * 2048 + j ≠ n * 2048 + i := fun h => hi (by rw [show i = j by omega]; exact List.mem_of_getElem? hj)
        have hget : ∀ m, (setp :: setpointW1 mode (n * 2048 + i) (r.2.beatNum % 256) setp :: r.1).getD (2 * (k + 1) + m) 0 = r.1.getD (2 * k + m) 0 := by
          intro m
          rw [show 2 * (k + 1) + m = (2 * k + m) + 1 + 1 by omega, List.getD_cons_succ, List.getD_cons_succ]
        rw [show 2 * (k + 1) = 2 * (k + 1) + 0 by omega, hget 0, hget 1]
        exact (hsent' k j hj).congr (hothers _ hne).symm hacted.glvHeld_eq.symm hacted.beatNum_eq.symm rfl
    · intro b hb
      rw [hothers' b (fun j hj => hb j (List.mem_cons_of_mem i hj)), hothers b (hb i List.mem_cons_self)]

end Sys2Proof.Machine
end

section
/-! SUPPORT. A downstream slot that takes the content due (R327, R332, R337 to R340, R346, R362): what the content is, and what a lane keeps of
it. -/

namespace Sys2Proof.Machine

theorem length_padTo (n : Nat) (ws : List Word) : (padTo n ws).length = n := by
  unfold padTo
  rw [List.length_take, List.length_append, List.length_replicate]
  omega

/-- Padding leaves the words that fit. -/
theorem getD_padTo {n i : Nat} {ws : List Word} (hi : i < n) : (padTo n ws).getD i 0 = ws.getD i 0 := by
  unfold padTo
  rw [List.getD_eq_getElem?_getD, List.getElem?_take, if_pos hi, List.getElem?_append, List.getD_eq_getElem?_getD]
  split
  · rfl
  · rw [List.getElem?_eq_none (l := ws) (by omega), List.getElem?_replicate]
    split <;> rfl

/-! ## What the content of a slot leaves alone -/

/-- The content of a slot of lane n has been taken: the slots of the lane, other lanes, memory and the beat stay as they are. -/
structure State.ContentTaken (s t : State) (n : Nat) : Prop where
  mem : t.mem = s.mem
  others : ∀ l, l ≠ n → t.ln l = s.ln l
  dnSent : (t.ln n).dnSent = (s.ln n).dnSent
  dnSlot : (t.ln n).dnSlot = (s.ln n).dnSlot
  safeDue : (t.ln n).safeDue = (s.ln n).safeDue
  beatNum : t.beatNum = s.beatNum

theorem State.ContentTaken.refl (s : State) (n : Nat) : s.ContentTaken s n := ⟨rfl, fun _ _ => rfl, rfl, rfl, rfl, rfl⟩

theorem State.ContentTaken.trans {s t u : State} {n : Nat} (h : s.ContentTaken t n) (h' : t.ContentTaken u n) : s.ContentTaken u n :=
  ⟨h'.mem.trans h.mem, fun l hl => (h'.others l hl).trans (h.others l hl), h'.dnSent.trans h.dnSent, h'.dnSlot.trans h.dnSlot,
    h'.safeDue.trans h.safeDue, h'.beatNum.trans h.beatNum⟩

theorem State.ContentTaken.setLn {s : State} {n : Nat} {y : Lane} (h1 : y.dnSent = (s.ln n).dnSent) (h2 : y.dnSlot = (s.ln n).dnSlot)
    (h3 : y.safeDue = (s.ln n).safeDue) : s.ContentTaken (s.setLn n y) n := by
  have hself : (s.setLn n y).ln n = y := by rw [State.ln_setLn, if_pos rfl]
  exact ⟨rfl, fun l hl => by rw [State.ln_setLn, if_neg hl], by rw [hself, h1], by rw [hself, h2], by rw [hself, h3], rfl⟩

theorem State.GloveActed.contentTaken {s t : State} (h : s.GloveActed t) (n : Nat) : s.ContentTaken t n :=
  ⟨h.mem_eq, fun l _ => h.ln_eq l, by rw [h.ln_eq], by rw [h.ln_eq], by rw [h.ln_eq], h.beatNum_eq⟩

/-! ## Management words (R340, R342) -/

theorem State.length_packFrom (s : State) (n room keep : Nat) : (s.packFrom n room keep).1.length = room := length_padTo room _

theorem State.packFrom_taken (s : State) (n room keep : Nat) : s.ContentTaken (s.packFrom n room keep).2 n := .setLn rfl rfl rfl

theorem State.packFrom_alignDue (s : State) (n room keep : Nat) : ((s.packFrom n room keep).2.ln n).alignDue = (s.ln n).alignDue := by
  unfold State.packFrom
  rw [State.ln_setLn, if_pos rfl]

/-- With no ACK owed, the message of one word at the front of the queue stands first. -/
theorem State.packFrom_first {s : State} {n room keep : Nat} {m : Msg} {l : List Msg} {v : Word} (hacks : (s.ln n).acks = [])
    (hout : (s.ln n).out = m :: l) (hw : m.words = [v]) (hroom : 2 ≤ room) :
    (s.packFrom n room keep).1.getD 0 0 = mgmtHeader m ∧ (s.packFrom n room keep).1.getD 1 0 = v := by
  have hpack : packMsgs room (m :: l) = (m :: (packMsgs (room - m.words.length - 1) l).1, (packMsgs (room - m.words.length - 1) l).2) := by
    rw [packMsgs, if_pos (by rw [hw]; exact hroom)]
  have hwords : (s.packFrom n room keep).1 = padTo room (mgmtHeader m :: v ::
      (packMsgs (room - m.words.length - 1) l).1.flatMap (fun m => mgmtHeader m :: m.words)) := by
    have haw : ackWords (room - keep) (s.ln n).acks = [] := by rw [hacks, ackWords, List.take_nil, List.map_nil]
    unfold State.packFrom
    simp only [haw, hout, List.length_nil, Nat.sub_zero, hpack, List.nil_append, List.flatMap_cons, hw, List.cons_append]
  rw [hwords, getD_padTo (by omega), getD_padTo (by omega)]
  exact ⟨rfl, rfl⟩

/-! ## The content due (R332, R338, R362) -/

/-- The lane with the ALIGN message that is due at the front of its queue. -/
def Lane.withAlign (x : Lane) : Lane :=
  match x.alignDue with
  | some w => { x with alignDue := none, out := { mtype := 0x014, words := [w], ackReq := false, seq := 0, attempts := 0 } :: x.out }
  | none => x

theorem Lane.withAlign_slots (x : Lane) : x.withAlign.alignDue = none ∧ x.withAlign.dnSent = x.dnSent ∧ x.withAlign.dnSlot = x.dnSlot ∧
    x.withAlign.safeDue = x.safeDue ∧ x.withAlign.acks = x.acks := by
  unfold Lane.withAlign
  split
  · exact ⟨rfl, rfl, rfl, rfl, rfl⟩
  · next h => exact ⟨h, rfl, rfl, rfl, rfl⟩

theorem Lane.withAlign_out {x : Lane} {v : Word} (h : x.alignDue = some v) :
    x.withAlign.out = { mtype := 0x014, words := [v], ackReq := false, seq := 0, attempts := 0 } :: x.out := by
  unfold Lane.withAlign
  rw [h]

theorem mgmtHeader_mtype {m : Msg} (h : m.mtype < 512) : fld (mgmtHeader m) 35 27 = m.mtype := by
  unfold mgmtHeader
  rw [fld_setBit_ne (by omega), fld_setFld_ne (by omega), fld_setFld_ne (by omega)]
  exact fld_put_full (by omega) h

/-- What the content of nominal slot q of lane n is, as TYPE and payload, in the state s and with the state t after it. -/
structure State.ContentDue (s t : State) (n q ty : Nat) (pay : List Word) : Prop where
  taken : s.ContentTaken t n
  type : ty = if q = 0 then 1 else if s.dnRecords n q ≠ [] then 2
    else if q ≤ s.kNow ∧ ¬ ((s.ln n).acks = [] ∧ (s.ln n).out = []) ∧ s.laneState n ≠ 5 then 4 else 0
  length : pay.length = 142
  records : s.dnRecords n q ≠ [] → (s.dnRecords n q).Nodup →
    (∀ r i : Nat, (s.dnRecords n q)[r]? = some i → s.RecordSent t (n * 2048 + i) (pay.getD (2 * r) 0) (pay.getD (2 * r + 1) 0)) ∧
    (∀ b, (∀ i ∈ s.dnRecords n q, b ≠ n * 2048 + i) → t.ch b = s.ch b)
  noRecords : s.dnRecords n q = [] → t.chan = s.chan
  beat : q = 0 → pay.headD 0 = s.reg .BEAT_NUM ∧ (t.ln n).alignDue = none ∧
    (∀ v, (s.ln n).alignDue = some v → (s.ln n).acks = [] → fld (pay.getD 2 0) 35 27 = 0x014 ∧ pay.getD 3 0 = v)

theorem State.dnRecords_zero (s : State) (n : Nat) : s.dnRecords n 0 = [] := by
  unfold State.dnRecords
  rw [if_neg (by simp)]

theorem State.length_dnRecords_le (s : State) (n q : Nat) : (s.dnRecords n q).length ≤ 71 := by
  unfold State.dnRecords recIndices
  split
  · dsimp only
    split
    · exact Nat.zero_le _
    · exact List.length_take_le _ _
  · exact Nat.zero_le _

theorem State.dnContent_zero (s : State) (n : Nat) : ∃ w1 keep,
    let p := (s.setLn n (s.ln n).withAlign).packFrom n 140 keep
    s.dnContent n 0 = ((1, s.reg .BEAT_NUM :: w1 :: p.1), p.2) := ⟨_, _, rfl⟩

section
variable {s : State} {n q : Nat}

theorem State.dnContent_records (hq : q ≠ 0) (hr : s.dnRecords n q ≠ []) :
    s.dnContent n q = ((2, padTo 142 (s.recordWords n (s.dnRecords n q)).1), (s.recordWords n (s.dnRecords n q)).2) := by
  unfold State.dnContent
  rw [if_neg hq]
  dsimp only
  rw [if_neg (by simpa using hr)]

theorem Lane.sends_iff (x : Lane) : (!(x.acks.isEmpty && x.out.isEmpty)) = true ↔ ¬ (x.acks = [] ∧ x.out = []) := by
  rw [Bool.not_eq_true', ← Bool.not_eq_true, Bool.and_eq_true, List.isEmpty_iff, List.isEmpty_iff]

theorem State.dnContent_messages (hq : q ≠ 0) (hr : s.dnRecords n q = []) (hm : q ≤ s.kNow ∧ ¬ ((s.ln n).acks = [] ∧ (s.ln n).out = []) ∧
    s.laneState n ≠ 5) : s.dnContent n q = ((4, (s.packFrom n 142 0).1), (s.packFrom n 142 0).2) := by
  obtain ⟨hk, hmsg, hst⟩ := hm
  unfold State.dnContent
  rw [if_neg hq]
  dsimp only
  rw [hr, if_pos List.isEmpty_nil, if_pos ⟨hk, (Lane.sends_iff _).mpr hmsg, hst⟩]

theorem State.dnContent_idle (hq : q ≠ 0) (hr : s.dnRecords n q = []) (hm : ¬ (q ≤ s.kNow ∧ ¬ ((s.ln n).acks = [] ∧ (s.ln n).out = []) ∧
    s.laneState n ≠ 5)) : s.dnContent n q = ((0, List.replicate 142 0), s) := by
  unfold State.dnContent
  rw [if_neg hq]
  dsimp only
  rw [hr, if_pos List.isEmpty_nil, if_neg (fun ⟨hk, hmsg, hst⟩ => hm ⟨hk, (Lane.sends_iff _).mp hmsg, hst⟩)]

/-- The BEAT codeword of slot 0, with the ALIGN message that is due. -/
theorem State.dnContent_beat : s.ContentDue (s.dnContent n 0).2 n 0 (s.dnContent n 0).1.1 (s.dnContent n 0).1.2 := by
  obtain ⟨w1, keep, h⟩ := s.dnContent_zero n
  obtain ⟨halign, hsent, hslot, hsafe, hacks⟩ := (s.ln n).withAlign_slots
  have hself : (s.setLn n (s.ln n).withAlign).ln n = (s.ln n).withAlign := by rw [State.ln_setLn, if_pos rfl]
  rw [h]
  refine ⟨(State.ContentTaken.setLn hsent hslot hsafe).trans (State.packFrom_taken ..), rfl, ?_, fun hr => absurd (s.dnRecords_zero n) hr, fun _ => rfl, fun _ => ⟨rfl, ?_, ?_⟩⟩
  · rw [List.length_cons, List.length_cons, State.length_packFrom]
  · rw [State.packFrom_alignDue, hself, halign]
  · intro v hv hnone
    obtain ⟨hhead, hword⟩ := State.packFrom_first (s := s.setLn n (s.ln n).withAlign) (room := 140) (keep := keep)
      (by rw [hself, hacks, hnone]) (by rw [hself]; exact Lane.withAlign_out hv) rfl (by omega)
    refine ⟨?_, hword⟩
    change fld (((s.setLn n (s.ln n).withAlign).packFrom n 140 keep).1.getD 0 0) 35 27 = _
    rw [hhead, mgmtHeader_mtype (show 0x014 < 512 by decide)]

/-- The content due in a slot (R332, R338, R340, R362). -/
theorem State.dnContent_due (s : State) (n q : Nat) : s.ContentDue (s.dnContent n q).2 n q (s.dnContent n q).1.1 (s.dnContent n q).1.2 := by
  by_cases hq : q = 0
  · subst hq
    exact State.dnContent_beat
  by_cases hr : s.dnRecords n q = []
  · by_cases hm : q ≤ s.kNow ∧ ¬ ((s.ln n).acks = [] ∧ (s.ln n).out = []) ∧ s.laneState n ≠ 5
    · rw [State.dnContent_messages hq hr hm]
      exact ⟨State.packFrom_taken .., by rw [if_neg hq, if_neg (not_not_intro hr), if_pos hm], State.length_packFrom .., fun h => absurd hr h,
        fun _ => rfl, fun h => absurd h hq⟩
    · rw [State.dnContent_idle hq hr hm]
      exact ⟨.refl s n, by rw [if_neg hq, if_neg (not_not_intro hr), if_neg hm], List.length_replicate, fun h => absurd hr h,
        fun _ => rfl, fun h => absurd h hq⟩
  · rw [State.dnContent_records hq hr]
    have hacted : s.GloveActed (s.recordWords n (s.dnRecords n q)).2 := s.recordWords_acted n _
    refine ⟨hacted.contentTaken n, by rw [if_neg hq, if_pos hr], length_padTo .., fun _ hnodup => ?_, fun h => absurd h hr, fun h => absurd h hq⟩
    obtain ⟨hsent, hothers⟩ := State.recordWords_sent n _ s hnodup
    refine ⟨fun r i hi => ?_, hothers⟩
    have hlt : r < 71 := Nat.lt_of_lt_of_le (List.getElem?_eq_some_iff.mp hi).1 (s.length_dnRecords_le n q)
    rw [getD_padTo (by omega), getD_padTo (by omega)]
    exact hsent r i hi

/-! ## The slot (R327, R345, R346) -/

/-- The codeword that carries content of type ty of nominal slot q in the next slot of lane n, with no NAK. -/
def State.codewordOf (s : State) (n q ty beat : Nat) (pay : List Word) : TxCw :=
  { slot := (s.ln n).dnSlot, q := q, ty := ty, hdr := cwHeader ty q beat 127, pay := pay }

/-- With no NAK, replay or SAFE due, the slot takes the content due. -/
theorem State.slotSend_content (hf : s.framing n = true) (hp : (s.ln n).dnSlot < s.kNow + 3) (hk : s.keptOut (s.ln n).dnSlot = false)
    (hn : ∀ e ∈ (s.ln n).nakDue, e.1 ≠ (s.ln n).dnSlot) (hr : ∀ e ∈ (s.ln n).dnReplay, e.1 ≠ (s.ln n).dnSlot) (hs : (s.ln n).safeDue = false)
    (hq : q = (s.ln n).dnSlot - (s.ln n).dnShift) : s.slotSend n =
      let d := s.dnContent n q
      d.2.setLn n ((d.2.ln n).sendCw (s.codewordOf n q d.1.1 d.2.beatNum d.1.2)) := by
  have hnak : (s.ln n).nakDue.find? (fun e => e.1 == (s.ln n).dnSlot) = none := List.find?_eq_none.mpr (fun e he => by simpa using hn e he)
  have hreplay : (s.ln n).dnReplay.find? (fun e => e.1 == (s.ln n).dnSlot) = none := List.find?_eq_none.mpr (fun e he => by simpa using hr e he)
  have hsafe : ((s.dnContent n q).2.ln n).safeDue = false := (s.dnContent_due n q).taken.safeDue.trans hs
  have hgo : ¬ (!s.framing n || decide (s.kNow + 3 ≤ (s.ln n).dnSlot) || s.keptOut (s.ln n).dnSlot) = true := by
    rw [hf, hk, decide_eq_false (by omega)]
    decide
  unfold State.slotSend
  simp only [if_neg hgo, hnak, hreplay, Option.isSome_none, Bool.false_eq_true, if_false, ← hq]
  rw [if_neg (by rw [hsafe]; decide)]
  rfl

end

end Sys2Proof.Machine
end

section
/-! SUPPORT. What a received codeword brings: the slots of the ingress banks (R82, R88, R338, R347), the messages of management words (R340)
and the failure of a lane that its BEAT codeword asks for (R335, R336, R353). -/

namespace Sys2Proof.Machine

/-! ## The ingress slots of a beat -/

/-- The ingress slot of a channel in the bank of a beat (R49). -/
def Chan.ingAt (x : Chan) (beat : Nat) : Slot := if beat % 2 = 0 then x.ing0 else x.ing1

theorem State.ch_of_chan {s t : State} (h : t.chan = s.chan) (c : Nat) : t.ch c = s.ch c := by
  unfold State.ch
  rw [h]

theorem State.setSlot_acted (s : State) (c : Nat) (x : Slot) : s.GloveActed (s.setSlot c x) := .setCh c _

theorem State.setSlot_ne (s : State) {c d : Nat} (x : Slot) (hd : d ≠ c) : (s.setSlot c x).ch d = s.ch d := by
  unfold State.setSlot
  rw [State.modCh_eq, State.ch_setCh, if_neg hd]

theorem State.ingAt_setSlot (s : State) (c : Nat) (x : Slot) : ((s.setSlot c x).ch c).ingAt s.beatNum = x := by
  unfold State.setSlot Chan.ingAt
  rw [State.modCh_eq, State.ch_setCh, if_pos rfl]
  by_cases h : s.beatNum % 2 = 0
  · rw [if_pos h, if_pos h]
  · rw [if_neg h, if_neg h]

/-- The slots of the listed indices of lane n have the state st and nothing in them. -/
theorem State.slotAll_filled (n : Nat) (st : BitVec 3) : ∀ (idx : List Nat) (s : State), s.GloveActed (s.slotAll n idx st) ∧
    (∀ i ∈ idx, ((s.slotAll n idx st).ch (n * 2048 + i)).ingAt s.beatNum = { Slot.empty with st := st }) ∧
    (∀ d, (∀ i ∈ idx, d ≠ n * 2048 + i) → (s.slotAll n idx st).ch d = s.ch d)
  | [], s => ⟨.refl s, fun _ hi => absurd hi List.not_mem_nil, fun _ _ => rfl⟩
  | j :: idx, s => by
    have hacted := s.setSlot_acted (n * 2048 + j) { Slot.empty with st := st }
    obtain ⟨hacted', hfilled, hothers⟩ := State.slotAll_filled n st idx (s.setSlot (n * 2048 + j) { Slot.empty with st := st })
    have hfold : s.slotAll n (j :: idx) st = (s.setSlot (n * 2048 + j) { Slot.empty with st := st }).slotAll n idx st := rfl
    rw [hacted.beatNum_eq] at hfilled
    rw [hfold]
    refine ⟨hacted.trans hacted', fun i hi => ?_, fun d hd => ?_⟩
    · by_cases hmem : i ∈ idx
      · exact hfilled i hmem
      · obtain rfl : i = j := (List.mem_cons.mp hi).resolve_right hmem
        rw [hothers _ (fun k hk h => hmem (by rw [show i = k by omega]; exact hk))]
        exact State.ingAt_setSlot ..
    · rw [hothers d (fun k hk => hd k (List.mem_cons_of_mem j hk)), State.setSlot_ne _ _ (hd j List.mem_cons_self)]

/-- The slot that takes the record in place r of a record codeword. -/
def validSlot (r : Nat) (pay : List Word) : Slot :=
  { st := 1, w0 := pay.getD (4 * r) 0, w1 := pay.getD (4 * r + 1) 0, w2 := pay.getD (4 * r + 2) 0, w3 := pay.getD (4 * r + 3) 0 }

/-- What the record in place r of a record codeword leaves in the slot of channel c (R82, R338). -/
def slotOfRecord (c beat r : Nat) (pay : List Word) : Slot :=
  let w := fun k => pay.getD (4 * r + k) 0
  if bit (pay.getD 140 0) r = false then { Slot.empty with st := 4 }
  else if crc9 (w 0) (w 3) = fld (w 3) 8 0 ∧ fld (w 3) 31 17 = c ∧ fld (w 3) 16 9 = beat % 256 then
    validSlot r pay
  else { Slot.empty with st := 2 }

/-- A record reaches its channel's slot, and the Glove where it is valid; every other channel stays as it is. -/
theorem State.recordIn_filled (s : State) (n r i : Nat) (pay : List Word) : s.GloveActed (s.recordIn n r i pay) ∧
    ((s.recordIn n r i pay).ch (n * 2048 + i)).ingAt s.beatNum = slotOfRecord (n * 2048 + i) s.beatNum r pay ∧
    ∀ d, d ≠ n * 2048 + i → (s.recordIn n r i pay).ch d = s.ch d := by
  have hset : ∀ x, s.GloveActed (s.setSlot (n * 2048 + i) x) ∧ ((s.setSlot (n * 2048 + i) x).ch (n * 2048 + i)).ingAt s.beatNum = x ∧
      ∀ d, d ≠ n * 2048 + i → (s.setSlot (n * 2048 + i) x).ch d = s.ch d :=
    fun x => ⟨s.setSlot_acted _ x, s.ingAt_setSlot _ x, fun d hd => s.setSlot_ne x hd⟩
  unfold State.recordIn slotOfRecord
  dsimp only
  by_cases hbit : bit (pay.getD 140 0) r = false
  · rw [if_pos (by rw [hbit]; rfl), if_pos hbit]
    exact hset _
  rw [if_neg (by simpa using hbit), if_neg hbit]
  split
  · obtain ⟨hacted, hing, hothers⟩ := hset (validSlot r pay)
    have hmoved := (s.setSlot (n * 2048 + i) (validSlot r pay)).glvUpstream_moved (n * 2048 + i) (pay.getD (4 * r) 0) (pay.getD (4 * r + 1) 0)
      (pay.getD (4 * r + 2) 0) (pay.getD (4 * r + 3) 0)
    obtain ⟨h0, h1⟩ := hmoved.ing_eq
    refine ⟨hacted.trans hmoved.acted, ?_, fun d hd => (hmoved.others d hd).trans (hothers d hd)⟩
    unfold Chan.ingAt at hing ⊢
    rw [← hing, ← h0, ← h1]
    rfl
  · exact hset _

/-- The first m records of a record codeword have reached their slots. -/
theorem State.recordsIn_filled (s : State) (n : Nat) {idx : List Nat} (pay : List Word) (hnodup : idx.Nodup) : ∀ m, m ≤ idx.length →
    let t := (List.range m).foldl (fun t r => t.recordIn n r (idx.getD r 0) pay) s
    s.GloveActed t ∧ (∀ r i : Nat, r < m → idx[r]? = some i → (t.ch (n * 2048 + i)).ingAt s.beatNum = slotOfRecord (n * 2048 + i) s.beatNum r pay) ∧
      (∀ d, (∀ i ∈ idx, d ≠ n * 2048 + i) → t.ch d = s.ch d) ∧ (∀ r i : Nat, m ≤ r → idx[r]? = some i → t.ch (n * 2048 + i) = s.ch (n * 2048 + i))
  | 0, _ => ⟨.refl s, fun _ _ h => absurd h (Nat.not_lt_zero _), fun _ _ => rfl, fun _ _ _ _ => rfl⟩
  | m + 1, hm => by
    obtain ⟨hacted, hfilled, hothers, hlater⟩ := State.recordsIn_filled s n pay hnodup m (by omega)
    have hget : idx[m]? = some (idx.getD m 0) := by
      rw [List.getD_eq_getElem?_getD, List.getElem?_eq_getElem (by omega)]; rfl
    have hne : ∀ r i : Nat, r ≠ m → idx[r]? = some i → n * 2048 + i ≠ n * 2048 + idx.getD m 0 := by
      intro r i hr hi h
      refine hr ((List.getElem?_inj (List.getElem?_eq_some_iff.mp hi).1 hnodup).mp ?_)
      rw [hi, hget, show i = idx.getD m 0 by omega]
    intro t
    have ht : t = ((List.range m).foldl (fun t r => t.recordIn n r (idx.getD r 0) pay) s).recordIn n m (idx.getD m 0) pay := by
      change (List.range (m + 1)).foldl _ s = _
      rw [List.range_succ, List.foldl_append]
      rfl
    rw [ht]
    generalize (List.range m).foldl (fun t r => t.recordIn n r (idx.getD r 0) pay) s = u at hacted hfilled hothers hlater
    obtain ⟨hacted', hfilled', hothers'⟩ := u.recordIn_filled n m (idx.getD m 0) pay
    rw [hacted.beatNum_eq] at hfilled'
    refine ⟨hacted.trans hacted', fun r i hr hi => ?_, fun d hd => ?_, fun r i hr hi => ?_⟩
    · by_cases hrm : r = m
      · subst hrm
        obtain rfl : idx.getD r 0 = i := Option.some.inj (hget.symm.trans hi)
        exact hfilled'
      · rw [hothers' _ (hne r i hrm hi)]
        exact hfilled r i (by omega) hi
    · rw [hothers' d (hd _ (List.mem_of_getElem? hget)), hothers d hd]
    · rw [hothers' _ (hne r i (by omega) hi), hlater r i (by omega) hi]

/-! ## Messages (R340) -/

/-- END, or no words at all, ends the unpacking. -/
theorem State.unpackMsgs_end (s : State) (n fuel : Nat) {ws : List Word} (h : fld (ws.getD 0 0) 35 27 = 0) : s.unpackMsgs n fuel ws = s := by
  cases fuel with
  | zero => cases ws <;> rfl
  | succ fuel =>
    cases ws with
    | nil => rfl
    | cons w ws => exact if_pos h

/-- One message whose words are there, with END after it. -/
theorem State.unpackMsgs_one (s : State) (n fuel : Nat) {h : Word} {ws : List Word} (hm : fld h 35 27 ≠ 0) (hlen : fld h 26 18 ≤ ws.length)
    (hend : fld (ws.getD (fld h 26 18) 0) 35 27 = 0) :
    s.unpackMsgs n (fuel + 1) (h :: ws) = s.recvMsg n (fld h 35 27) (fld h 17 9) (bit h 8) (ws.take (fld h 26 18)) := by
  refine (if_neg hm).trans ((if_neg (by omega)).trans (State.unpackMsgs_end _ n fuel ?_))
  rw [List.getD_eq_getElem?_getD, List.getElem?_drop, Nat.add_zero, ← List.getD_eq_getElem?_getD]
  exact hend

/-! ## A lane that fails (R119, R353, R364) -/

theorem State.prbsStop_frame (s : State) (n : Nat) : (s.prbsStop n).mem = s.mem ∧ ∀ r, r ≠ .LN_PRBS_ERR n → (s.prbsStop n).reg r = s.reg r := by
  unfold State.prbsStop State.prbsCatch
  split
  · refine ⟨rfl, fun r hr => ?_⟩
    rw [State.reg_setB_ne hr, State.reg_setF_ne hr, State.reg_setB_ne hr]
    rfl
  · exact ⟨rfl, fun r hr => State.reg_setB_ne hr⟩

theorem State.logEvt_frame (s : State) (src data : Nat) : (s.logEvt src data).mem = s.mem ∧ (s.logEvt src data).regs = s.regs :=
  ⟨by unfold State.logEvt; split <;> rfl, s.logEvt_regs src data⟩

/-- A lane goes to FAULT: its status shows it, and the register of its messages and the memories stay as they are. -/
theorem State.laneGoto_fault (s : State) (n : Nat) {cause : Nat} (hc : cause < 32) : (s.laneGoto n lsFAULT cause).laneState n = 11 ∧
    (s.laneGoto n lsFAULT cause).laneCause n = cause ∧ (s.laneGoto n lsFAULT cause).reg (.LN_PSTS n) = s.reg (.LN_PSTS n) ∧
    (s.laneGoto n lsFAULT cause).mem = s.mem := by
  unfold State.laneGoto
  extract_lets changed s1 w0 w s2 s3 s4
  have h1 : s1.mem = s.mem ∧ ∀ r, r ≠ .LN_PRBS_ERR n → s1.reg r = s.reg r := by
    simp only [s1]
    split
    · exact s.prbsStop_frame n
    · exact ⟨rfl, fun _ _ => rfl⟩
  have h3 : s3.mem = s2.mem ∧ s3.regs = s2.regs := by
    simp only [s3]
    split
    · exact State.logEvt_frame ..
    · exact ⟨rfl, rfl⟩
  have h4 : s4 = (s3.modLn n Lane.flush).setB (.LN_TXEQ n) F.LN_TXEQ_PRECODE false := if_pos (by decide)
  have hreg : ∀ r, r ≠ .LN_TXEQ n → s4.reg r = s2.reg r := fun r hr => by
    rw [h4, State.reg_setB_ne hr]
    exact State.reg_congr h3.2 r
  have hsts : s4.reg (.LN_STS n) = w := (hreg (.LN_STS n) nofun).trans (by rw [State.reg_setReg, if_pos rfl])
  have hw : fld w 22 19 = 11 ∧ fld w 27 23 = cause := by
    have hw0 : fld w0 27 23 = cause := by
      rw [fld_setBit_ne (by omega), fld_setFld_self (by omega)]
      exact Nat.mod_eq_of_lt hc
    have hchanged : changed = (s.laneState n != lsFAULT) := rfl
    simp only [w]
    by_cases h : s.laneState n = lsFAULT
    · have hf : changed = false := by rw [hchanged, h]; rfl
      rw [hf, if_neg Bool.false_ne_true]
      refine ⟨?_, hw0⟩
      rw [fld_setBit_ne (by omega), fld_setFld_ne (by omega), h1.2 (.LN_STS n) nofun]
      exact h
    · have ht : changed = true := by rw [hchanged]; exact bne_iff_ne.mpr h
      rw [ht, if_pos rfl]
      refine ⟨?_, ?_⟩
      · rw [fld_setFld_ne (by omega), fld_setFld_self (by omega)]; rfl
      · rw [fld_setFld_ne (by omega), fld_setFld_ne (by omega), fld_setBit_ne (by omega), hw0]
  have hbegin : s4.laneBegin n lsFAULT = s4 := rfl
  rw [hbegin]
  refine ⟨(congrArg (fld · 22 19) hsts).trans hw.1, (congrArg (fld · 27 23) hsts).trans hw.2, ?_, ?_⟩
  · exact (hreg (.LN_PSTS n) nofun).trans ((by rw [State.reg_setReg, if_neg nofun] : s2.reg (.LN_PSTS n) = s1.reg (.LN_PSTS n)).trans (h1.2 (.LN_PSTS n) nofun))
  · rw [h4]
    exact h3.1.trans h1.1

/-- A lane in service fails for a cause that leads to FAULT. -/
theorem State.laneFail_fault (s : State) (n : Nat) {cause : Nat} (hc : cause < 32) (hnext : ∀ q h, laneNext cause q h = lsFAULT)
    (hin : s.inService n = true) : (s.laneFail n cause).laneState n = 11 ∧ (s.laneFail n cause).laneCause n = cause ∧
    (s.laneFail n cause).reg (.LN_PSTS n) = s.reg (.LN_PSTS n) ∧ (s.laneFail n cause).mem = s.mem := by
  unfold State.laneFail State.laneLeave
  simp only [hin, if_true, hnext]
  generalize hu : s.modLn n _ = u
  have htrip := u.laneTrip_acted n
  obtain ⟨hstate, hcause, hpsts, hmem⟩ := (u.laneTrip n).laneGoto_fault n hc
  obtain ⟨m, hm⟩ := ((u.laneTrip n).laneGoto n lsFAULT cause).chioArrivals_frame
  rw [hm]
  refine ⟨hstate, hcause, ?_, ?_⟩
  · exact hpsts.trans ((htrip.reg _ rfl).trans (by rw [← hu]; rfl))
  · exact hmem.trans (htrip.mem_eq.trans (by rw [← hu]; rfl))

end Sys2Proof.Machine
end

section
/-! SUPPORT. A codeword received in a slot where no replay is expected (R331, R335, R336, R345 to R347, R359): what comes of one that is not taken,
and of the content of one that is. -/

namespace Sys2Proof.Machine

/-- The lane with one codeword more. -/
def Lane.counted (x : Lane) : Lane := { x with cwSince := x.cwSince + 1 }

/-- The codeword is taken as content of nominal slot q of a beat: it decodes, and type, beat and INDEX are right (R345). -/
def cwTaken (cw : Codeword) (beat q : Nat) : Prop :=
  (cwDecodes cw = true ∧ cwBeat cw.hdr = beat % 64 ∧ cwIndex cw.hdr = q % 127) ∧ cwType cw.hdr ≠ 3 ∧ cwType cw.hdr ≤ 5

theorem State.upRecords_eq (s : State) (n q : Nat) : s.upRecords n q =
    if 1 ≤ q ∧ (s.laneMap n).firstUp ≤ q - 1 then ((s.laneMap n).up.drop ((q - 1 - (s.laneMap n).firstUp) * 35)).take 35 else [] := by
  unfold State.upRecords recIndices
  by_cases hq : 1 ≤ q
  · by_cases hf : (s.laneMap n).firstUp ≤ q - 1
    · rw [if_pos hq, if_neg (Nat.not_lt.mpr hf), if_pos ⟨hq, hf⟩]
    · rw [if_pos hq, if_pos (Nat.not_le.mp hf), if_neg (fun h => hf h.2)]
  · rw [if_neg hq, if_neg (fun h => hq h.1)]

section
variable {s : State} {n kind : Nat} {off : BitVec 18} {cw : Codeword}

/-- A lane that neither serves nor frames takes nothing. -/
theorem State.upCodeword_off (hf : s.framing n = false) (hs : s.inService n = false) : s.upCodeword n kind off cw = s := by
  unfold State.upCodeword
  rw [hs, hf]
  rfl

theorem State.upCodeword_service (hs : s.inService n = true) : s.upCodeword n kind off cw = s.upService n kind cw := if_pos hs

/-- No replay is expected in the slot of the codeword. -/
theorem State.upService_plain (he : ∀ e ∈ (s.ln n).upExpect, e.1 ≠ cw.slot) : s.upService n kind cw =
    let s1 := s.setLn n (s.ln n).counted
    let q := cw.slot - (s.ln n).upShift
    if cwDecodes cw && decide (cwType cw.hdr ≤ 5) && cwBeat cw.hdr == s.beatNum % 64 && cwType cw.hdr != 3 && cwIndex cw.hdr == q % 127 then
      (s1.nakIn n cw.slot (cwNak cw.hdr)).upTake n q (cwType cw.hdr) cw.pay
    else s1.upFail n cw.slot q := by
  have hself : (s.modLn n (fun x => { x with cwSince := x.cwSince + 1 })).ln n = (s.ln n).counted := by
    rw [State.modLn_eq, State.ln_setLn, if_pos rfl]; rfl
  have hnone : (s.ln n).counted.upExpect.find? (fun e => e.1 == cw.slot) = none :=
    List.find?_eq_none.mpr (fun e hm => by simpa using he e hm)
  unfold State.upService
  simp only [hself, hnone]
  rfl

theorem cwTaken_iff (cw : Codeword) (beat q : Nat) : cwTaken cw beat q ↔
    (cwDecodes cw && decide (cwType cw.hdr ≤ 5) && cwBeat cw.hdr == beat % 64 && cwType cw.hdr != 3 && cwIndex cw.hdr == q % 127) = true := by
  unfold cwTaken
  simp only [Bool.and_eq_true, decide_eq_true_eq, beq_iff_eq, bne_iff_ne]
  tauto

theorem State.upService_taken (he : ∀ e ∈ (s.ln n).upExpect, e.1 ≠ cw.slot) (ht : cwTaken cw s.beatNum (cw.slot - (s.ln n).upShift)) :
    s.upService n kind cw = ((s.setLn n (s.ln n).counted).nakIn n cw.slot (cwNak cw.hdr)).upTake n (cw.slot - (s.ln n).upShift) (cwType cw.hdr) cw.pay :=
  (State.upService_plain he).trans (if_pos ((cwTaken_iff cw _ _).mp ht))

theorem State.upService_failed (he : ∀ e ∈ (s.ln n).upExpect, e.1 ≠ cw.slot) (ht : ¬ cwTaken cw s.beatNum (cw.slot - (s.ln n).upShift)) :
    s.upService n kind cw = (s.setLn n (s.ln n).counted).upFail n cw.slot (cw.slot - (s.ln n).upShift) :=
  (State.upService_plain he).trans (if_neg (fun h => ht ((cwTaken_iff cw _ _).mpr h)))

/-- Taken, in slot 0 to the last, by a lane in service, with no NAK in it. -/
theorem State.upCodeword_taken (hs : s.inService n = true) (he : ∀ e ∈ (s.ln n).upExpect, e.1 ≠ cw.slot)
    (ht : cwTaken cw s.beatNum (cw.slot - (s.ln n).upShift)) (hn : cwNak cw.hdr = 127) :
    s.upCodeword n kind off cw = (s.setLn n (s.ln n).counted).upTake n (cw.slot - (s.ln n).upShift) (cwType cw.hdr) cw.pay := by
  rw [State.upCodeword_service hs, State.upService_taken he ht, hn]
  rfl

end

/-! ## Content that fails (R345, R347) -/

section
variable {s : State} {n p q : Nat}

theorem State.upFail_nak (h : (s.ln n).naks < 2 ∧ p + 6 ≤ s.kNow + 2) : s.upFail n p q = s.setLn n
    { s.ln n with naks := (s.ln n).naks + 1, nakDue := (s.ln n).nakDue ++ [(p + 3, q)], upExpect := (s.ln n).upExpect ++ [(p + 6, q)] } := if_pos h

theorem State.upFail_lost (h : ¬ ((s.ln n).naks < 2 ∧ p + 6 ≤ s.kNow + 2)) : s.upFail n p q = s.upLost n q := if_neg h

/-- Content that is lost leaves slots of code 3. -/
theorem State.upLost_slots (s : State) (n q : Nat) : (∀ i ∈ s.upRecords n q, (((s.upLost n q).ch (n * 2048 + i)).ingAt s.beatNum).st = 3) ∧
    (∀ c, (∀ i ∈ s.upRecords n q, c ≠ n * 2048 + i) → (s.upLost n q).ch c = s.ch c) ∧ (s.upLost n q).mem = s.mem := by
  unfold State.upLost
  extract_lets u v
  have hv : v.upRecords n q = s.upRecords n q ∧ v.beatNum = s.beatNum ∧ v.chan = s.chan ∧ v.mem = s.mem := by
    have hbeat : u.beatNum = s.beatNum := congrArg (fld · _ _) (State.reg_incF_ne (s := s) (r' := .BEAT_NUM) nofun)
    simp only [v]
    split
    · exact ⟨rfl, hbeat, rfl, rfl⟩
    · exact ⟨rfl, hbeat, rfl, rfl⟩
  obtain ⟨hidx, hbeat, hchan, hmem⟩ := hv
  obtain ⟨m, hm⟩ := (v.slotAll n (v.upRecords n q) 3).chioArrivals_frame
  obtain ⟨hacted, hfilled, hothers⟩ := State.slotAll_filled n 3 (v.upRecords n q) v
  rw [hm, ← hidx, ← hbeat]
  refine ⟨fun i hi => ?_, fun c hc => ?_, hacted.mem_eq.trans hmem⟩
  · exact congrArg Slot.st (hfilled i hi)
  · exact (hothers c hc).trans (State.ch_of_chan hchan c)

end

/-! ## Content that is taken (R338, R339, R346) -/

section
variable {s : State} {n p q nak ty : Nat} {pay : List Word}

/-- A NAK of content that was sent sets its replay. -/
theorem State.nakIn_some {z : TxCw} (hn : nak ≠ 127) (h : (s.ln n).dnSent.find? (fun t => t.slot + 3 == p && t.q % 127 == nak) = some z) :
    s.nakIn n p nak = (s.incF (.LN_RPL n) F.LN_RPL_DN_NAK).setLn n { s.ln n with dnReplay := (s.ln n).dnReplay ++ [(p + 3, z.q)] } := by
  have hln : (s.incF (.LN_RPL n) F.LN_RPL_DN_NAK).ln n = s.ln n := rfl
  unfold State.nakIn
  rw [if_neg hn]
  simp only [hln, h]
  rfl

theorem State.nakIn_none (hn : nak ≠ 127) (h : (s.ln n).dnSent.find? (fun t => t.slot + 3 == p && t.q % 127 == nak) = none) :
    s.nakIn n p nak = (s.incF (.LN_RPL n) F.LN_RPL_DN_NAK).setB (.LN_PSTS n) F.LN_PSTS_NAK_BAD true := by
  have hln : (s.incF (.LN_RPL n) F.LN_RPL_DN_NAK).ln n = s.ln n := rfl
  unfold State.nakIn
  rw [if_neg hn]
  simp only [hln, h]

/-- The content of a slot without records: management words, a capture codeword, or nothing (R340, R381). -/
theorem State.upTake_management (hq : q ≠ 0) (hr : s.upRecords n q = []) : s.upTake n q 4 pay = s.unpackMsgs n 142 (pay.take 142) := by
  unfold State.upTake
  dsimp only
  rw [if_neg hq, hr]
  rfl

theorem State.upTake_capture (hq : q ≠ 0) (hr : s.upRecords n q = []) : s.upTake n q 5 pay = s.captureIn n (padTo 142 pay) := by
  unfold State.upTake
  dsimp only
  rw [if_neg hq, hr]
  rfl

theorem State.upTake_idle (hq : q ≠ 0) (hr : s.upRecords n q = []) : s.upTake n q 0 pay = s := by
  unfold State.upTake
  dsimp only
  rw [if_neg hq, hr]
  rfl

theorem State.upTake_records (hq : q ≠ 0) (hr : s.upRecords n q ≠ []) :
    s.upTake n q 2 pay = (s.recordsIn n (s.upRecords n q) pay).chioArrivals := by
  unfold State.upTake
  dsimp only
  rw [if_neg hq, if_pos (by simpa using hr)]
  rfl

/-- Slot 0 without a BEAT codeword. -/
theorem State.upTake_noBeat (ht : ty ≠ 1) : s.upTake n 0 ty pay = (s.modLn n (fun x => { x with beatBad := true })).chioArrivals :=
  if_neg ht

theorem State.upTake_beat : s.upTake n 0 1 pay = s.upBeat n pay := rfl

/-- The records of a codeword are in their slots, and the lane is as it was. -/
theorem State.upTake_filled (hq : q ≠ 0) (hr : s.upRecords n q ≠ []) (hnodup : (s.upRecords n q).Nodup) : ∃ t, s.upTake n q 2 pay = t ∧
    t.mem = s.mem ∧ t.ln n = s.ln n ∧ (∀ c, (∀ i ∈ s.upRecords n q, c ≠ n * 2048 + i) → t.ch c = s.ch c) ∧
    (∀ r i : Nat, (s.upRecords n q)[r]? = some i → (t.ch (n * 2048 + i)).ingAt s.beatNum = slotOfRecord (n * 2048 + i) s.beatNum r pay) := by
  obtain ⟨m, hm⟩ := (s.recordsIn n (s.upRecords n q) pay).chioArrivals_frame
  obtain ⟨hacted, hfilled, hothers, -⟩ := s.recordsIn_filled n pay hnodup _ (le_refl (s.upRecords n q).length)
  refine ⟨_, (State.upTake_records hq hr).trans hm, hacted.mem_eq, hacted.ln_eq n, hothers, fun r i hi => ?_⟩
  exact hfilled r i (List.getElem?_eq_some_iff.mp hi).1 hi

end

/-! ## The BEAT codeword (R335, R336, R349, R353) -/

/-- What a BEAT codeword of this beat leaves of its words 1 and 2, before its FMV and its messages. -/
def State.beatSeen (s : State) (n : Nat) (pay : List Word) : State :=
  let w1 := pay.getD 1 0
  let lost := setFld 0 28 0 (fld (pay.getD 2 0) 28 0)
  let s := s.modLn n (fun x => { x with beatOk := true, dnLostBits := lost })
  let s := s.setB (.LN_PSTS n) F.LN_PSTS_HUB_SAFE (bit w1 34)
  let s := if bit w1 35 then s.setB (.LN_PSTS n) F.LN_PSTS_SAFE_SEEN true else s
  s.incF (.LN_RPL n) F.LN_RPL_DN_LOST (popcount lost)

section
variable {s : State} {n : Nat} {pay : List Word}

theorem State.upBeat_eq (h : pay.getD 0 0 = s.reg .BEAT_NUM) : s.upBeat n pay =
    let t := s.beatSeen n pay
    if bit (pay.getD 1 0) 34 then t.laneFail n 0x0F
    else if fld (pay.getD 1 0) 33 26 ≠ (t.laneMap n).fmv then t.laneFail n 0x10
    else t.unpackMsgs n 142 ((pay.take 142).drop 3) := if_neg (not_not_intro h)

/-- The bits of the lost slots (R335). -/
theorem lostBits_eq (w : Word) : setFld 0 28 0 (fld w 28 0) = BitVec.ofNat 36 (w.toNat % 2 ^ 29) := by
  refine BitVec.eq_of_getLsbD_eq (fun i hi => ?_)
  rw [getLsbD_setFld, BitVec.getLsbD_ofNat, Nat.testBit_mod_two_pow, testBit_fld]
  rw [decide_eq_true hi, Bool.true_and, Bool.true_and]
  by_cases h : i < 29
  · rw [if_pos (by omega), decide_eq_true (by omega), decide_eq_true h, Bool.true_and, Bool.true_and, Nat.zero_add, Nat.sub_zero]
    rfl
  · rw [if_neg (by omega), decide_eq_false h]
    simp

/-- The BEAT codeword is written in the lane and in two of its registers. -/
theorem State.beatSeen_frame (s : State) (n : Nat) (pay : List Word) : (∃ regs, s.beatSeen n pay = { s.setLn n
      { s.ln n with beatOk := true, dnLostBits := BitVec.ofNat 36 ((pay.getD 2 0).toNat % 2 ^ 29) } with regs := regs }) ∧
    (s.beatSeen n pay).reg (.LN_STS n) = s.reg (.LN_STS n) ∧
    (s.beatSeen n pay).getB (.LN_PSTS n) F.LN_PSTS_HUB_SAFE = bit (pay.getD 1 0) 34 ∧
    (bit (pay.getD 1 0) 35 = true → (s.beatSeen n pay).getB (.LN_PSTS n) F.LN_PSTS_SAFE_SEEN = true) := by
  unfold State.beatSeen
  rw [lostBits_eq]
  extract_lets w1 lost a b c
  have hb : b.getB (.LN_PSTS n) F.LN_PSTS_HUB_SAFE = bit w1 34 := State.getB_setB_self _ _ _ _ (by decide)
  have hstsb : b.reg (.LN_STS n) = s.reg (.LN_STS n) := State.reg_setB_ne (r := .LN_PSTS n) nofun
  have hreg : ∀ r : Reg, r ≠ .LN_RPL n → (c.incF (.LN_RPL n) F.LN_RPL_DN_LOST (popcount lost)).reg r = c.reg r := fun r hr => State.reg_incF_ne hr
  have hpsts : ∀ f : Nat × Nat, (c.incF (.LN_RPL n) F.LN_RPL_DN_LOST (popcount lost)).getB (.LN_PSTS n) f = c.getB (.LN_PSTS n) f :=
    fun f => congrArg (bit · f.2) (hreg (.LN_PSTS n) nofun)
  rw [hreg (.LN_STS n) nofun, hpsts, hpsts]
  cases h : bit w1 35
  · have hc : c = b := if_neg (by rw [h]; decide)
    rw [hc]
    exact ⟨⟨_, rfl⟩, hstsb, hb, fun h => absurd h (by decide)⟩
  · have hc : c = b.setB (.LN_PSTS n) F.LN_PSTS_SAFE_SEEN true := if_pos h
    rw [hc]
    refine ⟨⟨_, rfl⟩, (State.reg_setB_ne (r := .LN_PSTS n) (r' := .LN_STS n) nofun).trans hstsb, ?_, fun _ => State.getB_setB_self _ _ _ _ (by decide)⟩
    exact (State.getB_setB_same _ _ _ (by decide)).trans hb

end

end Sys2Proof.Machine
end

section
/-! SUPPORT. The content of each kind of codeword: the BEAT codeword (R335, R336), management words (R340), ADAPT (R359), capture codewords (R381),
NAKs (R346). -/

namespace Sys2Proof.Machine

/-! ## The BEAT codeword -/

section
variable {s : State} {n : Nat} {pay : List Word}

theorem State.inService_congr {t : State} (h : t.reg (.LN_STS n) = s.reg (.LN_STS n)) : t.inService n = s.inService n := congrArg (bit · _) h

theorem State.laneState_congr {t : State} (h : t.reg (.LN_STS n) = s.reg (.LN_STS n)) : t.laneState n = s.laneState n := congrArg (fld · _ _) h

/-- A BEAT codeword of this beat with no message in it: the lane has it, or fails for HUB SAFE or another FMV (R335, R336, R353). -/
theorem State.upBeat_ends (hs : s.inService n = true) (hb : pay.getD 0 0 = s.reg .BEAT_NUM) (hend : fld (pay.getD 3 0) 35 27 = 0) :
    (s.upBeat n pay).getB (.LN_PSTS n) F.LN_PSTS_HUB_SAFE = bit (pay.getD 1 0) 34 ∧ (s.upBeat n pay).mem = s.mem ∧
    (bit (pay.getD 1 0) 35 = true → (s.upBeat n pay).getB (.LN_PSTS n) F.LN_PSTS_SAFE_SEEN = true) ∧
    (bit (pay.getD 1 0) 34 = true → (s.upBeat n pay).laneState n = 11 ∧ (s.upBeat n pay).laneCause n = 0x0F) ∧
    (bit (pay.getD 1 0) 34 = false → fld (pay.getD 1 0) 33 26 ≠ (s.laneMap n).fmv →
      (s.upBeat n pay).laneState n = 11 ∧ (s.upBeat n pay).laneCause n = 0x10) ∧
    (bit (pay.getD 1 0) 34 = false → fld (pay.getD 1 0) 33 26 = (s.laneMap n).fmv → (s.upBeat n pay).ln n =
      { s.ln n with beatOk := true, dnLostBits := BitVec.ofNat 36 ((pay.getD 2 0).toNat % 2 ^ 29) } ∧
      (s.upBeat n pay).chan = s.chan ∧ (s.upBeat n pay).laneState n = s.laneState n) := by
  obtain ⟨⟨regs, hseen⟩, hsts, hsafe, hseenBit⟩ := s.beatSeen_frame n pay
  have hserves : (s.beatSeen n pay).inService n = true := (State.inService_congr hsts).trans hs
  have hmap : (s.beatSeen n pay).laneMap n = s.laneMap n := by rw [hseen]; rfl
  have hmem : (s.beatSeen n pay).mem = s.mem := by rw [hseen]; rfl
  have hfirst : fld (((pay.take 142).drop 3).getD 0 0) 35 27 = 0 := by
    rw [List.getD_eq_getElem?_getD, List.getElem?_drop, List.getElem?_take, if_pos (by decide), ← List.getD_eq_getElem?_getD]
    exact hend
  rw [State.upBeat_eq hb]
  dsimp only
  rw [hmap]
  cases hhub : bit (pay.getD 1 0) 34
  · rw [if_neg Bool.false_ne_true]
    by_cases hfmv : fld (pay.getD 1 0) 33 26 = (s.laneMap n).fmv
    · rw [if_neg (not_not_intro hfmv), State.unpackMsgs_end _ _ _ hfirst]
      refine ⟨hsafe.trans hhub, hmem, hseenBit, nofun, fun _ h => absurd hfmv h, fun _ _ => ⟨?_, by rw [hseen]; rfl, State.laneState_congr hsts⟩⟩
      rw [hseen]
      exact (s.ln_setLn n n _).trans (if_pos rfl)
    · rw [if_pos hfmv]
      obtain ⟨hstate, hcause, hpsts, hm⟩ := (s.beatSeen n pay).laneFail_fault n (cause := 0x10) (by decide) (by decide) hserves
      exact ⟨(congrArg (bit · _) hpsts).trans (hsafe.trans hhub), hm.trans hmem, fun h => (congrArg (bit · _) hpsts).trans (hseenBit h), nofun,
        fun _ _ => ⟨hstate, hcause⟩, fun _ h => absurd h hfmv⟩
  · rw [if_pos rfl]
    obtain ⟨hstate, hcause, hpsts, hm⟩ := (s.beatSeen n pay).laneFail_fault n (cause := 0x0F) (by decide) (by decide) hserves
    exact ⟨(congrArg (bit · _) hpsts).trans (hsafe.trans hhub), hm.trans hmem, fun h => (congrArg (bit · _) hpsts).trans (hseenBit h),
      fun _ => ⟨hstate, hcause⟩, nofun, nofun⟩

end

/-! ## Management words and ADAPT -/

section
variable {s : State} {n kind : Nat} {off : BitVec 18} {cw : Codeword} {pay : List Word}

/-- Management words of one SVC message, with END after it. -/
theorem State.unpackMsgs_svc {k : Nat} (hl : pay.length = 142) (hm : fld (pay.getD 0 0) 35 27 = 0x040) (hk : fld (pay.getD 0 0) 26 18 = k)
    (hle : k ≤ 140) (hend : fld (pay.getD (k + 1) 0) 35 27 = 0) : s.unpackMsgs n 142 (pay.take 142) =
      s.recvMsg n 0x040 (fld (pay.getD 0 0) 17 9) (bit (pay.getD 0 0) 8) ((pay.drop 1).take k) := by
  rw [List.take_of_length_le hl.le]
  cases pay with
  | nil => cases hl
  | cons h ws =>
    have hlen : ws.length = 141 := Nat.succ.inj hl
    rw [List.getD_cons_zero] at hm hk ⊢
    subst hk
    rw [State.unpackMsgs_one s n 141 (by rw [hm]; decide) (by omega) (by rw [← List.getD_cons_succ]; exact hend), hm]
    rfl

theorem State.unpackMsgs_none (hm : fld (pay.getD 0 0) 35 27 = 0) : s.unpackMsgs n 142 (pay.take 142) = s := by
  refine State.unpackMsgs_end s n 142 ?_
  rw [List.getD_eq_getElem?_getD, List.getElem?_take, if_pos (by decide), ← List.getD_eq_getElem?_getD]
  exact hm

/-- A lane in ADAPT frames and is out of service. -/
theorem State.upCodeword_adapt (h5 : s.laneState n = lsADAPT) (hs : s.inService n = false) : s.upCodeword n kind off cw = s.upBringup n kind off cw := by
  unfold State.upCodeword State.framing
  rw [hs, h5, if_neg Bool.false_ne_true, if_pos (by decide)]

/-- A codeword that does not decode is counted in ADAPT, and no more. -/
theorem State.upBringup_adapt_failed (h5 : s.laneState n = lsADAPT) (hd : cwDecodes cw = false) :
    s.upBringup n kind off cw = s.setLn n ((s.ln n).adaptCount false cw.fec) := by
  unfold State.upBringup
  dsimp only
  rw [if_pos h5, hd, Bool.and_false, if_neg Bool.false_ne_true]
  rfl

theorem cwDecodes_fec (h : cwDecodes cw = true) : cw.fec = true := (Bool.and_eq_true_iff.mp h).1

/-- One that decodes after the lock is unpacked too. -/
theorem State.upBringup_adapt_management (h5 : s.laneState n = lsADAPT) (hlock : (s.ln n).cwLock = true) (hd : cwDecodes cw = true) (ht : cwType cw.hdr = 4) :
    s.upBringup n kind off cw = (s.setLn n ((s.ln n).adaptCount true true)).unpackMsgs n 142 (cw.pay.take 142) := by
  unfold State.upBringup
  dsimp only
  rw [if_pos h5, hd, hlock, Bool.or_true, if_pos (by decide), ht, cwDecodes_fec hd]
  rfl

end

/-! ## Capture codewords (R381) -/

section
variable {s : State} {n : Nat} {ws : List Word}

theorem padTo_self (h : ws.length = 142) : padTo 142 ws = ws := by
  unfold padTo
  rw [List.take_append_of_le_length (by omega), List.take_of_length_le (by omega)]

/-- The word before the words of a capture codeword of source src (R381). -/
def capturePrefix (src : Nat) : Word := setFld (setFld (put 35 33 2) 24 16 142) 14 0 src

theorem capturePrefix_fields (w : Word) : fld (capturePrefix (fld w 31 17)) 35 33 = 2 ∧ fld (capturePrefix (fld w 31 17)) 24 16 = 142 ∧
    fld (capturePrefix (fld w 31 17)) 14 0 = fld w 31 17 := by
  unfold capturePrefix
  refine ⟨?_, ?_, ?_⟩
  · rw [fld_setFld_ne (by omega), fld_setFld_ne (by omega)]
    exact fld_put_full (by omega) (by omega)
  · rw [fld_setFld_ne (by omega), fld_setFld_self (by omega)]; rfl
  · rw [fld_setFld_self (by omega)]
    exact Nat.mod_eq_of_lt (fld_lt w 31 17)

theorem State.captureIn_off (h : ¬ (s.getB .EXP_CTL F.EXP_CTL_CAP_EN = true ∧ s.getB (.EXPK_STS (s.expLane n)) F.EXPK_STS_LINK = true)) :
    s.captureIn n ws = s := if_neg (fun hb => h (Bool.and_eq_true_iff.mp hb))

theorem State.captureIn_stored (h : s.getB .EXP_CTL F.EXP_CTL_CAP_EN = true ∧ s.getB (.EXPK_STS (s.expLane n)) F.EXPK_STS_LINK = true)
    (hroom : (s.sv (s.expLane n)).cap.length < 64) : s.captureIn n ws = s.setSv (s.expLane n)
      { s.sv (s.expLane n) with cap := (s.sv (s.expLane n)).cap ++ [capturePrefix (fld (ws.getD 0 0) 31 17) :: ws] } :=
  (if_pos (Bool.and_eq_true_iff.mpr h)).trans (if_pos hroom)

theorem State.captureIn_full (h : s.getB .EXP_CTL F.EXP_CTL_CAP_EN = true ∧ s.getB (.EXPK_STS (s.expLane n)) F.EXPK_STS_LINK = true)
    (hroom : ¬ (s.sv (s.expLane n)).cap.length < 64) : s.captureIn n ws =
      (s.incF (.EXPK_DROP (s.expLane n)) F.EXPK_DROP_CAP).setB (.EXPK_STS (s.expLane n)) F.EXPK_STS_CAP_OVF true :=
  (if_pos (Bool.and_eq_true_iff.mpr h)).trans (if_neg hroom)

theorem State.onlyRegs.weaken {t : State} {P Q : Reg → Prop} (h : s.onlyRegs t P) (hpq : ∀ r, P r → Q r) : s.onlyRegs t Q :=
  ⟨h.1, fun r hr => h.2 r (fun hp => hr (hpq r hp))⟩

/-- What a full buffer leaves behind. -/
theorem State.captureDropped_only (s : State) (k : Nat) :
    let t := (s.incF (.EXPK_DROP k) F.EXPK_DROP_CAP).setB (.EXPK_STS k) F.EXPK_STS_CAP_OVF true
    s.onlyRegs t (fun r => r = .EXPK_DROP k ∨ r = .EXPK_STS k) ∧ t.getB (.EXPK_STS k) F.EXPK_STS_CAP_OVF = true := by
  have hdrop : s.onlyRegs (s.incF (.EXPK_DROP k) F.EXPK_DROP_CAP) (fun r => r = .EXPK_DROP k ∨ r = .EXPK_STS k) :=
    (s.onlyRegs_setReg (.EXPK_DROP k) _).weaken (fun _ => Or.inl)
  refine ⟨hdrop.trans ((State.onlyRegs_setReg _ (.EXPK_STS k) _).weaken (fun _ => Or.inr)), State.getB_setB_self _ _ _ _ (by decide)⟩

end

/-! ## Slot 0 without a BEAT codeword, and a NAK -/

section
variable {s : State} {n p q ty nak : Nat} {pay : List Word}

/-- Slot 0 without a BEAT codeword marks the beat bad. -/
theorem State.upTake_noBeat_ln (ht : ty ≠ 1) : (s.upTake n 0 ty pay).ln n = { s.ln n with beatBad := true } ∧
    (s.upTake n 0 ty pay).chan = s.chan ∧ (s.upTake n 0 ty pay).mem = s.mem := by
  obtain ⟨e, he⟩ := (s.modLn n (fun x => { x with beatBad := true })).chioArrivals_frame
  rw [State.upTake_noBeat ht, he]
  exact ⟨(s.ln_setLn n n _).trans (if_pos rfl), rfl, rfl⟩

/-- A NAK that matches content sent sets its replay and leaves NAK_BAD. -/
theorem State.nakIn_replays {z : TxCw} (hn : nak ≠ 127) (h : (s.ln n).dnSent.find? (fun t => t.slot + 3 == p && t.q % 127 == nak) = some z) :
    (s.nakIn n p nak).ln n = { s.ln n with dnReplay := (s.ln n).dnReplay ++ [(p + 3, z.q)] } ∧
    (s.nakIn n p nak).getB (.LN_PSTS n) F.LN_PSTS_NAK_BAD = s.getB (.LN_PSTS n) F.LN_PSTS_NAK_BAD := by
  have hpsts : (s.incF (.LN_RPL n) F.LN_RPL_DN_NAK).reg (.LN_PSTS n) = s.reg (.LN_PSTS n) := State.reg_incF_ne nofun
  rw [State.nakIn_some hn h]
  exact ⟨(State.ln_setLn _ n n _).trans (if_pos rfl), congrArg (bit · _) hpsts⟩

/-- Any other NAK sets NAK_BAD. -/
theorem State.nakIn_bad (hn : nak ≠ 127) (h : (s.ln n).dnSent.find? (fun t => t.slot + 3 == p && t.q % 127 == nak) = none) :
    (s.nakIn n p nak).ln n = s.ln n ∧ (s.nakIn n p nak).getB (.LN_PSTS n) F.LN_PSTS_NAK_BAD = true := by
  rw [State.nakIn_none hn h]
  exact ⟨rfl, State.getB_setB_self _ _ _ _ (by decide)⟩

theorem State.nakIn_upRecords (s : State) (n p q nak : Nat) : (s.nakIn n p nak).upRecords n q = s.upRecords n q := by
  unfold State.nakIn
  split
  · rfl
  · dsimp only
    split
    · rfl
    · rfl

end

/-! ## What an instruction ends with -/

theorem next_eq {s t : State} (h : s = t) : (.next s : Out) = .next t := congrArg _ h

end Sys2Proof.Machine
end

section
/-! PROOF. O40: received codewords and sent slots. -/

namespace Sys2Proof.Machine

/-- The TYPE of a content due fits its field. -/
theorem State.ContentDue.type_lt {s t : State} {n q ty : Nat} {pay : List Word} (h : s.ContentDue t n q ty pay) : ty < 16 := by
  rw [h.type]
  split_ifs
  all_goals decide

/-- What a slot that takes the content due leaves behind (R327, R329, R332, R346). -/
theorem State.slotSend_due {s : State} {n : Nat} (hf : s.framing n = true) (hp : (s.ln n).dnSlot < s.kNow + 3)
    (hk : s.keptOut (s.ln n).dnSlot = false) (hn : ∀ e ∈ (s.ln n).nakDue, e.1 ≠ (s.ln n).dnSlot)
    (hr : ∀ e ∈ (s.ln n).dnReplay, e.1 ≠ (s.ln n).dnSlot) (hs : (s.ln n).safeDue = false) :
    ∃ t u ty pay, s.slotSend n = t ∧ s.ContentDue u n ((s.ln n).dnSlot - (s.ln n).dnShift) ty pay ∧ t.mem = s.mem ∧ t.chan = u.chan ∧
      (∀ l, l ≠ n → t.ln l = s.ln l) ∧
      let c := s.codewordOf n ((s.ln n).dnSlot - (s.ln n).dnShift) ty s.beatNum pay
      (t.ln n).lastTx = some c ∧ (t.ln n).dnSent = (c :: (s.ln n).dnSent).take 7 ∧ (t.ln n).dnSlot = (s.ln n).dnSlot + 1 ∧
        (t.ln n).alignDue = (u.ln n).alignDue := by
  have hsend := State.slotSend_content hf hp hk hn hr hs rfl
  have hdue := s.dnContent_due n ((s.ln n).dnSlot - (s.ln n).dnShift)
  generalize s.dnContent n ((s.ln n).dnSlot - (s.ln n).dnShift) = d at hsend hdue
  obtain ⟨⟨ty, pay⟩, u⟩ := d
  obtain ⟨hmem, hothers, hsent, hslot, -, hbeat⟩ := hdue.taken
  dsimp only at hsend hdue hmem hothers hsent hslot hbeat
  rw [hbeat] at hsend
  refine ⟨_, u, ty, pay, hsend, hdue, hmem, rfl, fun l hl => ?_, ?_⟩
  · rw [State.ln_setLn, if_neg hl]
    exact hothers l hl
  · dsimp only
    rw [State.ln_setLn, if_pos rfl]
    unfold Lane.sendCw
    rw [hsent, hslot]
    exact ⟨rfl, rfl, rfl, rfl⟩

/-- Settles O40: each codeword goes through the content that its type and slot give (upTake), each sent slot through the content due. -/
theorem codewordsCarryRecordsAndMessages : Obligations.CodewordsCarryRecordsAndMessages := by
  intro n off cw s x x1 s1 p q ty nak good m idx w bank plain
  have hidx : s.upRecords n q = idx := s.upRecords_eq n q
  have hidx1 : s1.upRecords n q = idx := hidx
  have hself : s1.ln n = x1 := (s.ln_setLn n n x1).trans (if_pos rfl)
  have htaken : good → ty ≠ 3 → ty ≤ 5 → cwTaken cw s.beatNum q := fun ⟨h1, h2, h3⟩ h4 h5 => ⟨⟨h1, h2, h3⟩, h4, h5⟩
  have hfailed : plain → (¬ good ∨ ty = 3 ∨ 5 < ty) → s.upCodeword n 2 0 cw = s1.upFail n p q := by
    intro ⟨hs, he⟩ hbad
    refine (State.upCodeword_service hs).trans (State.upService_failed he (fun ⟨⟨h1, h2, h3⟩, h4, h5⟩ => ?_))
    rcases hbad with hbad | hbad | hbad
    · exact hbad ⟨h1, h2, h3⟩
    · exact h4 hbad
    · exact absurd hbad (Nat.not_lt.mpr h5)
  have htake : ∀ {kind off}, plain → good → ty ≠ 3 → ty ≤ 5 → nak = 127 → s.upCodeword n kind off cw = s1.upTake n q ty cw.pay :=
    fun ⟨hs, he⟩ hg h3 h5 hnak => State.upCodeword_taken hs he (htaken hg h3 h5) hnak
  refine ⟨?_, ?_, ?_, ?_, ?_, ?_, ?_, ?_, ?_, ?_, ?_⟩
  · -- a lane that does not frame
    intro hf hs
    have hoff : ∀ kind off, s.upCodeword n kind off cw = s := fun _ _ => State.upCodeword_off hf hs
    exact ⟨next_eq (hoff 1 off), next_eq (hoff 2 0), next_eq (hoff 4 0), next_eq (hoff 5 0)⟩
  · -- a NAK is due
    intro hp hbad hnaks hroom
    have hnak : s1.upFail n p q = _ := State.upFail_nak (by rw [hself]; exact ⟨hnaks, hroom⟩)
    exact next_eq ((hfailed hp hbad).trans (hnak.trans (by rw [hself, State.setLn_setLn])))
  · -- the content is lost
    intro hp hbad hno _
    obtain ⟨hlost, hothers, hmem⟩ := s1.upLost_slots n q
    rw [hidx1] at hlost hothers
    refine ⟨_, next_eq ((hfailed hp hbad).trans (State.upFail_lost (by rw [hself]; exact hno))), hlost, hothers, hmem⟩
  · -- records
    intro hp hg h2 hnak hne hnodup
    have hq : q ≠ 0 := fun hq => hne (if_neg (by omega))
    obtain ⟨t, ht, hmem, hln, hothers, hfilled⟩ := State.upTake_filled (s := s1) (n := n) (pay := cw.pay) hq (by rw [hidx1]; exact hne) (by rw [hidx1]; exact hnodup)
    rw [hidx1] at hothers hfilled
    refine ⟨t, next_eq ((htake hp hg (by omega) (by omega) hnak).trans (by rw [h2]; exact ht)), hmem, hln.trans hself, hothers, fun r i hi => ?_⟩
    have hslot := hfilled r i hi
    unfold slotOfRecord at hslot
    intro c b
    by_cases hbit : bit (w 140) r = false
    · rw [if_pos hbit]
      exact hslot.trans (if_pos hbit)
    · rw [if_neg hbit]
      replace hslot := hslot.trans (if_neg hbit)
      split
      · next hok => exact hslot.trans (if_pos hok)
      · next hok => exact hslot.trans (if_neg hok)
  · -- a BEAT codeword
    intro hp hg h1 hnak hq hbeat hend _
    have ht : s.upCodeword n 1 off cw = s1.upBeat n cw.pay := (htake hp hg (by omega) (by omega) hnak).trans (by rw [h1, hq, State.upTake_beat])
    obtain ⟨hsafe, hmem, hseen, hhub, hfmv, hgood⟩ := State.upBeat_ends (s := s1) (n := n) (pay := cw.pay) hp.1 hbeat hend
    refine ⟨_, next_eq ht, hsafe, hmem, hseen, hhub, hfmv, fun hb hf => ?_⟩
    obtain ⟨hln, hchan, hstate⟩ := hgood hb hf
    exact ⟨hln.trans (by rw [hself]), hchan, hstate⟩
  · -- slot 0 without a BEAT codeword
    intro hp hg h1 h3 h5 hnak hq
    have ht : s.upCodeword n 2 0 cw = s1.upTake n 0 ty cw.pay := (htake hp hg h3 h5 hnak).trans (by rw [hq])
    obtain ⟨hln, hchan, hmem⟩ := State.upTake_noBeat_ln (s := s1) (n := n) (pay := cw.pay) h1
    exact ⟨_, next_eq ht, hln.trans (by rw [hself]), hchan, hmem⟩
  · -- a NAK that it carries
    intro hp hg h0 hq hno y hnak hy
    have ht : s.upCodeword n 2 0 cw = s1.nakIn n p nak := by
      refine (State.upCodeword_service hp.1).trans ((State.upService_taken hp.2 (htaken hg (by omega) (by omega))).trans ?_)
      exact (congrArg (fun k => (s1.nakIn n p nak).upTake n q k cw.pay) h0).trans
        (State.upTake_idle hq ((s1.nakIn_upRecords n p q nak).trans (hidx1.trans hno)))
    refine ⟨_, next_eq ht, ?_⟩
    have hy1 : (s1.ln n).dnSent.find? (fun t => t.slot + 3 == p && t.q % 127 == nak) = y := by
      rw [hself]
      exact hy
    cases y with
    | some z =>
      obtain ⟨hln, hbad⟩ := State.nakIn_replays hnak hy1
      exact ⟨hln.trans (by rw [hself]), hbad⟩
    | none =>
      obtain ⟨hln, hbad⟩ := State.nakIn_bad hnak hy1
      exact ⟨hln.trans hself, hbad⟩
  · -- management words
    intro hp hg h4 hnak hq hno hlen
    have ht : s.upCodeword n 4 0 cw = s1.unpackMsgs n 142 (cw.pay.take 142) :=
      (htake hp hg (by omega) (by omega) hnak).trans (by rw [h4]; exact State.upTake_management hq (hidx1.trans hno))
    refine ⟨fun hend => next_eq (ht.trans (State.unpackMsgs_none hend)), fun k hm hk hle hend => ?_⟩
    exact next_eq (ht.trans (State.unpackMsgs_svc hlen hm hk hle hend))
  · -- ADAPT
    intro h5 hs
    have ht : s.upCodeword n 4 0 cw = s.upBringup n 4 0 cw := State.upCodeword_adapt h5 hs
    refine ⟨fun hd => next_eq (ht.trans (State.upBringup_adapt_failed h5 hd)), fun hlock hd h4 hlen k hm hk hle hend => ?_⟩
    exact next_eq (ht.trans ((State.upBringup_adapt_management h5 hlock hd h4).trans (State.unpackMsgs_svc hlen hm hk hle hend)))
  · -- a capture codeword
    intro hp hg h5 hnak hq hno hlen k
    have ht : s.upCodeword n 5 0 cw = s1.captureIn n cw.pay := (htake hp hg (by omega) (by omega) hnak).trans (by
      rw [h5, State.upTake_capture hq (hidx1.trans hno), padTo_self hlen])
    split
    · next hon =>
      split
      · next hroom =>
        obtain ⟨hfmt, hcount, hsrc⟩ := capturePrefix_fields (w 0)
        exact ⟨_, hfmt, hcount, hsrc, next_eq (ht.trans (State.captureIn_stored hon hroom))⟩
      · next hfull =>
        exact ⟨_, next_eq (ht.trans (State.captureIn_full hon hfull)), s1.captureDropped_only k⟩
    · next hoff => exact next_eq (ht.trans (State.captureIn_off hoff))
  · -- a sent slot
    intro hf hp hk hn hr hs
    obtain ⟨t, u, ty, pay, ht, hdue, hmem, hchan, hothers, hlast, hsent, hslot, halign⟩ := State.slotSend_due hf hp hk hn hr hs
    obtain ⟨htype, hindex, hbeat, hnak⟩ := cwHeader_fields (q := x.dnSlot - x.dnShift) (beat := s.beatNum) hdue.type_lt (show 127 < 128 by decide)
    refine ⟨t, s.codewordOf n (x.dnSlot - x.dnShift) ty s.beatNum pay, next_eq ht, hlast, hsent, hslot, rfl, rfl, hothers, hmem, fun hrec hnodup => ?_,
      fun hrec => hchan.trans (hdue.noRecords hrec), htype, hindex, hbeat, hnak, cwHeader_hcheck hdue.type_lt (by decide), fun hq => ?_, fun hq => ?_, hdue.length⟩
    · obtain ⟨hrecords, hkept⟩ := hdue.records hrec hnodup
      exact ⟨fun r i hi => (hrecords r i hi).congr rfl rfl rfl (State.ch_of_chan hchan _), fun b hb => (State.ch_of_chan hchan b).trans (hkept b hb)⟩
    · obtain ⟨hhead, hnone, hfirst⟩ := hdue.beat hq
      exact ⟨hdue.type.trans (if_pos hq), hhead, halign.trans hnone, hfirst⟩
    · exact hdue.type.trans (if_neg hq)

end Sys2Proof.Machine
end

section
/-! SUPPORT. What the statement of O43 says of the free values. In a region that does not begin at a word, the last of LEN words reaches into one
word more, which the statement does not hold clean; an aborted check reads it when it has read all LEN words, and how many it has read is free. So
O43 fails where some free value is not 0 modulo 2^23. -/

namespace Sys2Proof.Machine

section
variable {s : State} {u : Nat}

/-- The words of a region without an uncorrectable word. -/
theorem State.ckuWords_clean (hbad : ∀ a, s.isBad a = false) : ∀ n a, (s.ckuWords a n).2 = true ∧ (s.ckuWords a n).1.length = n
  | 0, _ => ⟨rfl, rfl⟩
  | n + 1, a => by
    obtain ⟨hok, hlen⟩ := State.ckuWords_clean hbad n (a + 4)
    have hcons : s.ckuWords a (n + 1) = (s.word a :: (s.ckuWords (a + 4) n).1, (s.ckuWords (a + 4) n).2) := if_neg (by rw [hbad a]; decide)
    rw [hcons]
    exact ⟨hok, congrArg (· + 1) hlen⟩

theorem State.softRead_clean {rd : Reader} {a : Nat} (h : s.isSoft a = false) : s.softRead a rd = s := by
  unfold State.softRead
  rw [h]
  rfl

/-- A check unit that reads no uncorrectable word changes its section as the reads do. -/
theorem State.ckuRead_clean (hbad : ∀ a, s.isBad a = false) (n : Nat) : ∃ ws t, s.ckuRead u n = (some ws, t) ∧
    t.sec = (s.softReads (s.reg (.CKU_ADDR u)).toNat (4 * n) (ckuReader u)).sec := by
  obtain ⟨hok, hlen⟩ := State.ckuWords_clean hbad n (s.reg (.CKU_ADDR u)).toNat
  unfold State.ckuRead
  dsimp only
  rw [hok, if_pos rfl, hlen]
  refine ⟨_, _, rfl, ?_⟩
  split
  · rfl
  · rfl

/-- An abort that finds no uncorrectable word changes the section as the reads of the free number of words do. -/
theorem State.ckuAbort_clean (hbad : ∀ a, s.isBad a = false) : (s.ckuAbort u).sec = (({ s with fresh := s.fresh + 1 } : State).softReads
    (s.reg (.CKU_ADDR u)).toNat (4 * (Config.freeNat s.fresh % 2 ^ 23 % (s.getF (.CKU_LEN u) F.CKU_LEN_LEN + 1))) (ckuReader u)).sec := by
  obtain ⟨ws, t, hread, hsec⟩ := State.ckuRead_clean (s := { s with fresh := s.fresh + 1 }) (u := u) hbad
    (Config.freeNat s.fresh % 2 ^ 23 % (s.getF (.CKU_LEN u) F.CKU_LEN_LEN + 1))
  unfold State.ckuAbort State.drawNat
  dsimp only
  rw [hread]
  exact hsec

/-- From the second octet of word 0, n words hold octets of n + 1. -/
theorem wordsIn_one (n : Nat) : wordsIn 1 (4 * n) = (List.range (n + 1)).map (fun i => 4 * i) := by
  unfold wordsIn
  rw [show (1 + 4 * n - 1) / 4 + 1 - 1 / 4 = n + 1 by omega]
  simp

/-- A check unit of a section reads n words from address 1, and only word n holds a single-bit error: the section stalls for it. -/
theorem State.softReads_last {k n : Nat} (hn : n ≠ 0) (hclean : ∀ i < n, s.isSoft (4 * i) = false) (hlast : s.isSoft (4 * n) = true)
    (hbad : ∀ a, s.isBad a = false) (hheld : ∀ a, s.memHeld a = false) :
    ((s.softReads 1 (4 * n) (.unit k)).sect k).stallCyc = (s.sect k).stallCyc + 1 := by
  have hfirst : ∀ m, m ≤ n → ((List.range m).map (fun i => 4 * i)).foldl (fun st a => st.softRead a (.unit k)) s = s := by
    intro m
    induction m with
    | zero => exact fun _ => rfl
    | succ m ih =>
      intro hm
      rw [List.range_succ, List.map_append, List.foldl_append, ih (by omega)]
      exact State.softRead_clean (hclean m (by omega))
  have hread : s.softRead (4 * n) (.unit k) = s.eccCorrected (4 * (4 * n / 4)) (.unit k) :=
    if_pos (by rw [hlast, hbad, hheld]; rfl)
  unfold State.softReads
  rw [if_neg (by omega), wordsIn_one, List.range_succ, List.map_append, List.foldl_append, hfirst n le_rfl]
  change ((s.softRead (4 * n) (.unit k)).sect k).stallCyc = _
  rw [hread]
  unfold State.eccCorrected State.eccCount State.modSect
  split
  all_goals exact congrArg Section.stallCyc SMap.get_set_self

end

/-- Check unit 0 runs over v words from address 1; only word v, the one after them, holds a single-bit error. -/
def unalignedCheck (k v : Nat) : State :=
  { ((State.reset.setReg (.CKU_STS 0) (setBit 0 35 true)).setReg (.CKU_LEN 0) (setFld 0 22 0 v)).setReg (.CKU_ADDR 0) 1 with
    fresh := k, eccSoft := [(v, true)] }

section
variable {k v : Nat}

theorem unalignedCheck_reg (k v : Nat) (r : Reg) : (unalignedCheck k v).reg r = if r = .CKU_ADDR 0 then 1
    else if r = .CKU_LEN 0 then setFld 0 22 0 v else if r = .CKU_STS 0 then setBit 0 35 true else State.reset.reg r := by
  change (((State.reset.setReg (.CKU_STS 0) (setBit 0 35 true)).setReg (.CKU_LEN 0) (setFld 0 22 0 v)).setReg (.CKU_ADDR 0) 1).reg r = _
  rw [State.reg_setReg, State.reg_setReg, State.reg_setReg]

theorem unalignedCheck_isSoft (k v i : Nat) : (unalignedCheck k v).isSoft (4 * i) = decide (i = v) := by
  unfold State.isSoft
  change SMap.get (fun _ => false) [(v, true)] (4 * i / 4) = _
  rw [Nat.mul_div_cancel_left i (by decide), SMap.get]
  by_cases h : i = v
  · rw [if_pos h, decide_eq_true h]
  · rw [if_neg h, decide_eq_false h]
    rfl

theorem unalignedCheck_isBad (k v a : Nat) : (unalignedCheck k v).isBad a = false := Bool.and_false _

/-- The abort of that check after v words stalls section 0. -/
theorem unalignedCheck_abort (hv : v ≠ 0) (hlt : v < 2 ^ 23) (hfree : Config.freeNat k % 2 ^ 23 = v) (per : Bool) :
    ((((unalignedCheck k v).ckuPer 0 per).ckuAbort 0).sect 0).stallCyc = ((unalignedCheck k v).sect 0).stallCyc + 1 := by
  have haddr : ((unalignedCheck k v).ckuPer 0 per).reg (.CKU_ADDR 0) = 1 := by
    rw [State.reg_ckuPer, if_neg nofun, unalignedCheck_reg, if_pos rfl]
  have hlen : ((unalignedCheck k v).ckuPer 0 per).getF (.CKU_LEN 0) F.CKU_LEN_LEN = v := by
    unfold State.getF
    rw [State.reg_ckuPer, if_neg nofun, unalignedCheck_reg, if_neg nofun, if_pos rfl]
    exact (fld_setFld_self (by decide)).trans (Nat.mod_eq_of_lt hlt)
  have hparts : ∃ regs cku, (unalignedCheck k v).ckuPer 0 per = { unalignedCheck k v with regs := regs, cku := cku } := by
    cases per
    · exact ⟨_, _, rfl⟩
    · exact ⟨_, _, rfl⟩
  obtain ⟨regs, cku, hu⟩ := hparts
  rw [hu] at haddr hlen ⊢
  have hsec := State.ckuAbort_clean (s := { unalignedCheck k v with regs := regs, cku := cku }) (u := 0) (unalignedCheck_isBad k v)
  have hwords : Config.freeNat k % 2 ^ 23 % (v + 1) = v := by rw [hfree]; exact Nat.mod_eq_of_lt (Nat.lt_succ_self v)
  rw [haddr, hlen] at hsec
  unfold State.sect
  rw [hsec]
  change (State.sect (State.softReads _ 1 (4 * (Config.freeNat k % 2 ^ 23 % (v + 1))) (.unit 0)) 0).stallCyc = _
  rw [hwords]
  exact State.softReads_last hv (fun i hi => (unalignedCheck_isSoft k v i).trans (decide_eq_false (by omega)))
    ((unalignedCheck_isSoft k v v).trans (decide_eq_true rfl)) (unalignedCheck_isBad k v) (fun _ => rfl)

end

/-- What O43 asks of the free values: the number of words that an aborted check has read, modulo 2^23, is always 0. -/
theorem freeNat_of_checksStartStopAndComplete (h : Obligations.ChecksStartStopAndComplete) (k : Nat) : Config.freeNat k % 2 ^ 23 = 0 := by
  by_contra hv
  have hlt : Config.freeNat k % 2 ^ 23 < 2 ^ 23 := Nat.mod_lt _ (by decide)
  generalize hfree : Config.freeNat k % 2 ^ 23 = v at hv hlt
  have hbusy : (unalignedCheck k v).getB (.CKU_STS 0) F.CKU_STS_BUSY = true := by
    unfold State.getB
    rw [unalignedCheck_reg, if_neg nofun, if_neg nofun, if_pos rfl]
    exact bit_setBit_self (by decide)
  have haddr : ((unalignedCheck k v).reg (.CKU_ADDR 0)).toNat = 1 := by rw [unalignedCheck_reg, if_pos rfl]; rfl
  have hlen : (unalignedCheck k v).getF (.CKU_LEN 0) F.CKU_LEN_LEN = v := by
    unfold State.getF
    rw [unalignedCheck_reg, if_neg nofun, if_pos rfl]
    exact (fld_setFld_self (by decide)).trans (Nat.mod_eq_of_lt hlt)
  obtain ⟨-, habort, -⟩ := h 0 (unalignedCheck k v)
  have hclean : ∀ i < (unalignedCheck k v).getF (.CKU_LEN 0) F.CKU_LEN_LEN,
      (unalignedCheck k v).isBad (((unalignedCheck k v).reg (.CKU_ADDR 0)).toNat + 4 * i) = false ∧
      (unalignedCheck k v).isSoft (((unalignedCheck k v).reg (.CKU_ADDR 0)).toNat + 4 * i) = false := by
    rw [haddr, hlen]
    intro i hi
    refine ⟨unalignedCheck_isBad .., ?_⟩
    have hkey : (unalignedCheck k v).isSoft (1 + 4 * i) = (unalignedCheck k v).isSoft (4 * i) := by
      unfold State.isSoft
      rw [show (1 + 4 * i) / 4 = 4 * i / 4 by omega]
    rw [hkey, unalignedCheck_isSoft, decide_eq_false (by omega)]
  obtain ⟨t, ht, ⟨hsame, -⟩, -⟩ := habort (Or.inr hclean)
  have hdone : (unalignedCheck k v).ckuCtlWrite 0 (setBit (setBit ((unalignedCheck k v).reg (.CKU_CTL 0)) 34 true) 35 false) = t :=
    Host.Outcome.next.inj ht
  rw [State.ckuCtlWrite_busy hbusy, bit_setBit_ne (by decide) (by decide), bit_setBit_self (by decide), if_pos rfl] at hdone
  have hsec := congrArg State.sec hsame
  change t.sec = (unalignedCheck k v).sec at hsec
  have hstall := unalignedCheck_abort hv hlt hfree (bit (setBit (setBit ((unalignedCheck k v).reg (.CKU_CTL 0)) 34 true) 35 false) 30)
  rw [hdone] at hstall
  unfold State.sect at hstall
  rw [hsec] at hstall
  exact Nat.succ_ne_self _ hstall.symm

end Sys2Proof.Machine
end
